-- ==== Sys2Proof/Word.lean ====
section
/-! DEFINITION. The byte of the EH6400 (R8). -/

namespace Sys2Proof

/-- A byte as the manual stores it (R8). -/
abbrev Byte := BitVec 8

end Sys2Proof
end

