-- ==== Sys2Proof/Machine/Parts/Can.lean ====
section
/-! DEFINITION. The CAN FD fieldbus (R461 to R494). -/

namespace Sys2Proof

/-- A CAN-connected valve as R485 judges it. -/
structure CanValve where
  channel : Nat := 0
  node : Nat := 0
  position : Nat := 0
  fault : Bool := false
  lastStatus : Option Nat := none
  stale : Bool := false
  cmdSeen : Nat := 0
  deriving DecidableEq, Repr

/-- A frame on a bus (R461). Remote frames have no data. -/
structure CanMsg where
  canId : Nat := 0
  ide : Bool := false
  fdf : Bool := false
  brs : Bool := false
  dlc : Nat := 0
  esi : Bool := false
  remote : Bool := false
  data : List Nat := []
  deriving DecidableEq, Repr

/-- A received message as its target holds it (R482, R492). -/
structure CanRx where
  msg : CanMsg := {}
  filter : Nat := 0
  mirror : Bool := false
  rxNs : Nat := 0
  seq : Nat := 0
  deriving DecidableEq, Repr

/-- A high-priority buffer (R482). -/
structure HpBuffer where
  rx : CanRx := {}
  isNew : Bool := false
  /-- Not yet taken by a snapshot. -/
  changed : Bool := false
  seq : Nat := 0
  deriving DecidableEq, Repr

/-- SSTATE (R493). -/
inductive SendState where
  | free | waiting | sending | sent | cancelled | expired | dropped
  deriving DecidableEq, Repr

/-- A send slot (R479, R480, R493). -/
structure SendSlot where
  state : SendState := .free
  sendId : Nat := 0
  msg : CanMsg := {}
  acceptFrame : Nat := 0
  /-- Frame from which the message waits. -/
  effect : Nat := 0
  doneFrame : Nat := 0
  deriving DecidableEq, Repr

/-- Channel states (R463). -/
inductive CanState where
  | off | restricted | normal | busOff
  deriving DecidableEq, Repr

/-- A channel (R463 to R491). -/
structure CanCh where
  state : CanState := .off
  passive : Bool := false
  tec : Nat := 0
  rec_ : Nat := 0
  /-- R463: recovery has completed; the channel returns at the next boundary. -/
  recovered : Bool := false
  /-- R488. -/
  storm : Bool := false
  returnFrame : Option Nat := none
  busOffFrames : List Nat := []
  lastBusOff : Nat := 0
  tdcSat : Bool := false
  tdcValue : Nat := 0
  tdcSsp : Nat := 0
  /-- Receive FIFO or queue 0, and queue 1; oldest first (R482). -/
  fifo : List CanRx := []
  queue1 : List CanRx := []
  fifoSeq : Nat := 0
  queue1Seq : Nat := 0
  hp : List HpBuffer := List.replicate 8 {}
  /-- R486: the 256 entries of the mirror queue. -/
  mq : List CanRx := []
  mqHead : Nat := 0
  mqTail : Nat := 0
  mqSeq : Nat := 0
  mqOverflow : Bool := false
  rxLevel : Nat := 0
  slots : List SendSlot := List.replicate 16 {}
  nextSend : Nat := 0
  /-- R477: cells that a schedule entry has deactivated, as 16 y + j. -/
  inactive : List Nat := []
  /-- Frames that no entry accepted (R481). -/
  unknown : Nat := 0
  counters : List Nat := List.replicate 16 0
  deriving DecidableEq, Repr

/-- What a column's transmission met on the bus (R472, R473, R478): the sender's observation. -/
structure BusFacts where
  busyAtStart : Bool := false
  /-- Arbitrations lost. -/
  lost : Nat := 0
  /-- Bit, stuff, form, CRC and ACK errors. -/
  errors : List Nat := []
  tec : Nat := 0
  rec_ : Nat := 0
  /-- The cell's frame started by its latest start and was acknowledged. -/
  sent : Bool := true
  /-- Loop delay d of R467 in minimum time quanta. -/
  tdc : Option Nat := none
  /-- Host messages that were sent whole in an open intercalary column, and whether the next one has sent its SOF and did not
  come to its end in it. -/
  hosts : Nat := 0
  begun : Bool := false
  deriving DecidableEq, Repr

/-- The fieldbus. -/
structure Can where
  ch : List CanCh := List.replicate 12 {}
  valves : List CanValve := []
  /-- Transmit objects 0 to 531: values staged for the next boundary and in force, by object (R474, R476). -/
  staged : List (Nat × Nat) := []
  force : List (Nat × Nat) := []
  /-- R51: the values that the crossing into a stopped CAN clock holds. -/
  held : Option (List (Nat × Nat)) := none
  /-- R476: ANNOUNCE_SEQ. -/
  announceSeq : Nat := 0
  counters : List Nat := List.replicate 4 0
  deriving DecidableEq, Repr

end Sys2Proof
end

