-- ==== Sys2Proof/Machine/Parts/Caps.lean ====
section
/-! DEFINITION. Chip power caps: telemetry, the estimator, FLOOR_N and pacing (R318 to R347). Binary32 values are their
32-bit encodings. -/

namespace Sys2Proof

/-- A site telemetry record (R328). -/
structure SiteTel where
  act : List Nat := List.replicate 8 0
  dieTemp : Option Int := none
  freqAch : Nat := 0
  capLimited : Bool := false
  lowestState : Bool := false
  emberActive : Bool := false
  regSeq : Nat := 0
  regValid : Bool := false
  regPower : Nat := 0
  cmdEcho : Nat := 0
  capApplied : Nat := 0
  deriving DecidableEq, Repr

/-- Sums over a regulator window (R327, R329, R332): the records received in frames 10m + 1 to 10m + 10 and the caps
computed in frames 10m - 1 to 10m + 8. -/
structure RegWindow where
  m : Nat := 0
  records : Nat := 0
  absent : Bool := false
  lowest : Bool := false
  act : List Nat := List.replicate 8 0
  dyn : BitVec 32 := 0
  stat : BitVec 32 := 0
  tau : BitVec 32 := 0
  /-- The window overlaps a time when FLOOR_N was asserted for cap violation. -/
  floored : Bool := false
  /-- The mean, once reported. -/
  reg : Option Nat := none
  deriving DecidableEq, Repr

/-- A cap command record (R318). -/
structure CapRecord where
  cap : Nat := 0
  slopePermit : Nat := 0
  emberW : Nat := 0
  freq : Nat := 0xFFFF
  paceMode : Nat := 0
  splitOrder : Nat := 0
  minCompute : Nat := 32
  minMemory : Nat := 48
  minLinks : Nat := 16
  dither : Bool := false
  cmdFrame : Nat := 0
  deriving DecidableEq, Repr

/-- A dither window in progress (R334). -/
structure Dither where
  start : Nat := 0
  /-- Regulator sums (1/16 W) and counts, and dyn sums, of the two judged quarters. -/
  q1 : Nat := 0
  n1 : Nat := 0
  d1 : BitVec 32 := 0
  q2 : Nat := 0
  n2 : Nat := 0
  d2 : BitVec 32 := 0
  tauSum : BitVec 32 := 0
  target : Nat := 0
  deriving DecidableEq, Repr

/-- RESPONSE (R344). -/
inductive Response where
  | absent | notAttested | responsive | unresponsive
  deriving DecidableEq, Repr

/-- The cap part of a site (R327 to R337, R344, R375). -/
structure SiteCaps where
  response : Response := .absent
  tel : SiteTel := {}
  /-- A valid record has arrived in this frame. -/
  fresh : Bool := false
  telAge : Nat := 0
  /-- R375: consecutive absent and valid records. -/
  absentRun : Nat := 0
  validRun : Nat := 0
  /-- R375: frame c of the last echo, and the cap sent in it. -/
  echo : Nat := 0
  /-- R375: a valid record with an echo has arrived since the port last reached UP. -/
  echoed : Bool := false
  /-- R375: first frame, since the port reached UP, in which a record was computed. -/
  firstRecord : Option Nat := none
  lastSent : Nat := 0
  highestSent : Nat := 0
  /-- Frames and caps of the records sent in beacons with CAP_VALID, newest first (R327, R375). -/
  capHistory : List (Nat × Nat) := []
  est : Nat := 0
  guardBand : Nat := 0
  tau : BitVec 32 := 0
  dyn : BitVec 32 := 0
  stat : BitVec 32 := 0
  z : List (BitVec 32) := [0, 0, 0]
  zp : List (List (BitVec 32)) := []
  refFrame : Nat := 0
  noRef : Bool := false
  win : RegWindow := {}
  prev : RegWindow := {}
  /-- The last regulator mean (R344). -/
  lastReg : Nat := 0
  overCap : Bool := false
  violRun : Nat := 0
  okRun : Nat := 0
  violations : Nat := 0
  /-- Energy in 6.25 uJ (R336). -/
  energy : Nat := 0
  /-- F_TAB, F_STEP and F_TOL of the chip descriptor (R339). -/
  fTab : Nat := 0
  fStep : Nat := 0
  fTol : Nat := 0
  laggard : Bool := false
  /-- R341: least FREQ_ACH reported with CAP_LIMITED in the epoch. -/
  epochFreq : Option Nat := none
  dither : Option Dither := none
  /-- R334: consecutive frames in which the effective cap equalled the target. -/
  settled : Nat := 0
  /-- R320: the record computed in the last allocator slice, to be sent in the next beacon. -/
  record : Option CapRecord := none
  deriving DecidableEq, Repr

/-- A model class (R332, R335, R345). -/
structure ClassModel where
  inUse : Bool := false
  value : Nat := 0
  sites : Nat := 0
  w : List (BitVec 32) := []
  p : List (List (BitVec 32)) := []
  sigma : BitVec 32 := 0
  suspended : Bool := false
  updates : Nat := 0
  deriving DecidableEq, Repr

/-- FLOOR_N of a link by cause (R326, R327). -/
structure FloorLine where
  leak : Bool := false
  row : Bool := false
  thermal : Bool := false
  violation : Bool := false
  held : Bool := false
  /-- Driven: the line as it stands since the last boundary (R26). -/
  driven : Bool := false
  assertFrame : Nat := 0
  /-- Frame of the last assertion for cap violation, if any. -/
  lastViolation : Option Nat := none
  /-- Frame of the last release of that cause. -/
  releasedAt : Option Nat := none
  deriving DecidableEq, Repr

/-- Pacing of a tenant (R338 to R346). -/
structure TenantPace where
  mode : Nat := 0
  forced : Bool := false
  freq : Nat := 0xFFFF
  slow : Nat := 0
  fast : Nat := 0
  laggards : Nat := 0
  energy : Nat := 0
  deriving DecidableEq, Repr

/-- Chip power caps (R318 to R347). -/
structure Caps where
  sites : List SiteCaps := List.replicate 2048 {}
  classes : List ClassModel := List.replicate 8 {}
  floors : List FloorLine := List.replicate 64 {}
  tenants : List TenantPace := List.replicate 256 {}
  /-- Energy of unbound sites in 6.25 uJ (R336). -/
  unbound : Nat := 0
  /-- R326: consecutive frames at the outlet limit, and at 2 K below, of each loop; the trip in force. -/
  hotRun : List Nat := List.replicate 24 0
  coolRun : List Nat := List.replicate 24 0
  tripped : List Bool := List.replicate 24 false
  counters : List Nat := List.replicate 11 0
  deriving DecidableEq, Repr

end Sys2Proof
end

