-- ==== Sys2Proof/Machine/Parts/Image.lean ====
section
/-! DEFINITION. The configuration image as typed records (R80 to R104), the key and the image status (R75 to R79,
R105 to R111). Numbers of the record tables are kept in the manual's units; signed fields are integers. -/

namespace Sys2Proof

/-- A loop entry of ROW_TOPOLOGY (R88). -/
structure LoopCfg where
  configured : Bool := false
  supplyValve : Nat := 0
  returnValve : Nat := 0
  balCh : Nat := 0
  balNode : Nat := 0
  flow : Nat := 0
  pSupply : Nat := 0
  pReturn : Nat := 0
  tSupply : Nat := 0
  tReturn : Nat := 0
  leakK : Nat := 0
  mbMin : Nat := 0
  mbMax : Nat := 0
  decayMin : Nat := 0
  decayMax : Nat := 0
  deriving DecidableEq, Repr

/-- PRIMARY_KIND (R20, R87). -/
inductive Primary where
  | facilityWater | dryCooler | invalid
  deriving DecidableEq, Repr

/-- CV_DRIVE (R21, R87). -/
inductive CvDrive where
  | none | analog | can | invalid
  deriving DecidableEq, Repr

/-- ROW_TOPOLOGY (R87). -/
structure Topology where
  loopCount : Nat := 0
  pumpCount : Nat := 0
  fanCount : Nat := 0
  primary : Primary := .invalid
  cvDrive : CvDrive := .none
  cvAo : Nat := 0
  ptpDomain : Nat := 0
  ptpPort : Nat := 0
  cvCh : Nat := 0
  cvNode : Nat := 0
  loops : List LoopCfg := []
  deriving DecidableEq, Repr

/-- A slot entry of LINK_MAP (R89). -/
structure SlotCfg where
  present : Bool := false
  chipClass : Nat := 0
  fallbackCap : Nat := 0
  floorCap : Nat := 0
  deriving DecidableEq, Repr

/-- LINK_MAP (R89); `present` is false for a link without a record. -/
structure LinkCfg where
  present : Bool := false
  siteCount : Nat := 0
  loop : Nat := 0
  lockstepAgent : Bool := false
  slots : List SlotCfg := []
  deriving DecidableEq, Repr

/-- An entry of SENSOR_MAP (R90). -/
structure SensorCfg where
  kind : Nat := 0
  quantity : Nat := 0
  afe : Nat := 0
  scaleLow : Int := 0
  scaleHigh : Int := 0
  canCh : Nat := 0
  canIde : Bool := false
  canId : Nat := 0
  byteOffset : Nat := 0
  width : Nat := 0
  msbFirst : Bool := false
  signed : Bool := false
  /-- R435: leak assignment of a rope or float. -/
  leakA : Nat := 0
  leakB : Nat := 31
  leakSplit : Nat := 0
  deriving DecidableEq, Repr

/-- A valve entry (R91). -/
structure ValveCfg where
  function : Nat := 0
  loop : Nat := 0
  normallyOpen : Bool := false
  peakMa : Nat := 0
  holdMa : Nat := 0
  peakMs : Nat := 0
  dipStart : Nat := 0
  dipEnd : Nat := 0
  dutyLimit : Nat := 0
  flowRating : Nat := 0
  deriving DecidableEq, Repr

/-- A pump entry (R92). -/
structure PumpCfg where
  present : Bool := false
  canCh : Nat := 0
  node : Nat := 0
  ratedRpm : Nat := 0
  overspeedOk : Bool := false
  stallRetries : Nat := 0
  deriving DecidableEq, Repr

/-- A fan entry (R92). -/
structure FanCfg where
  present : Bool := false
  pulses : Nat := 0
  ratedRpm : Nat := 0
  stallRetries : Nat := 0
  deriving DecidableEq, Repr

/-- An analog output entry (R92). -/
structure AoCfg where
  function : Nat := 0
  minMv : Nat := 0
  maxMv : Nat := 0
  deriving DecidableEq, Repr

/-- A speed group entry (R93); skip bands as pairs of lower and upper edge. -/
structure GroupCfg where
  skip : List (Nat × Nat) := []
  rateUp : Nat := 0
  rateDown : Nat := 0
  zoneMask : Nat := 0
  minSpeed : Nat := 0
  deriving DecidableEq, Repr

/-- A zone entry (R93). -/
structure ZoneCfg where
  temp : List Int := []
  demand : List Nat := []
  sensor : List Nat := []
  enabled : Bool := false
  deriving DecidableEq, Repr

/-- CONTROL_LOOP (R94); `present` is false for a loop without a record. -/
structure CtlCfg where
  present : Bool := false
  enabled : Bool := false
  period : Nat := 1
  input : Nat := 0
  outKind : Nat := 0
  outIndex : Nat := 0
  spSource : Nat := 0
  kff : Int := 0
  kp : Int := 0
  ki : Int := 0
  kd : Int := 0
  shFf : Nat := 0
  shP : Nat := 0
  shI : Nat := 0
  shD : Nat := 0
  dFilter : Nat := 0
  iMin : Int := 0
  iMax : Int := 0
  outMin : Int := 0
  outMax : Int := 0
  spConst : Int := 0
  vLimit : Nat := 1
  aLimit : Nat := 1
  jLimit : Nat := 1
  deriving DecidableEq, Repr

/-- A column entry of ALMANAC (R95). -/
structure ColumnCfg where
  start : Nat := 0
  length : Nat := 1
  kind : Nat := 0
  deriving DecidableEq, Repr

/-- A cell of ALMANAC (R95). -/
structure CellCfg where
  used : Bool := false
  ide : Bool := false
  canId : Nat := 0
  dlc : Nat := 0
  fdf : Bool := false
  brs : Bool := false
  source : Nat := 0
  deriving DecidableEq, Repr

/-- ALMANAC (R95); timing values are the true ones, not minus 1. -/
structure AlmanacCfg where
  present : Bool := false
  restricted : Bool := false
  nbrp : Nat := 1
  ntseg1 : Nat := 1
  ntseg2 : Nat := 1
  nsjw : Nat := 1
  dbrp : Nat := 1
  dtseg1 : Nat := 1
  dtseg2 : Nat := 1
  dsjw : Nat := 1
  tdcEn : Bool := false
  tdcOffset : Nat := 0
  columns : Nat := 1
  column : List ColumnCfg := []
  /-- Cell of cycle y and column j at 16 y + j. -/
  cell : List CellCfg := []
  deriving DecidableEq, Repr

/-- An entry of CAN_FILTER (R96). -/
structure FilterCfg where
  idMatch : Nat := 0
  ide : Bool := false
  enabled : Bool := false
  mask : Nat := 0
  target : Nat := 0
  hpBuffer : Nat := 0
  mirror : Bool := false
  deriving DecidableEq, Repr

/-- A node entry (R257). -/
structure NodeCfg where
  op : Nat := 0
  fmt : Nat := 0
  frac : Nat := 0
  eMin : Int := -128
  mode : Nat := 0
  ins : List (Option Nat) := []
  n : Nat := 1
  k : Nat := 0
  p : Nat := 0
  eIn : Int := 0
  eT : Int := 0
  paramOff : Nat := 0
  paramLen : Nat := 0
  deriving DecidableEq, Repr

/-- An entry of the input bound table (R258). -/
structure InBound where
  kind : Nat := 0
  slot : Nat := 0
  field : Nat := 0
  index : Nat := 0
  xExp : Int := 0
  lo : Int := 0
  hi : Int := 0
  deriving DecidableEq, Repr

/-- A port entry with its residual radii (R268, R271). -/
structure PortCfg where
  role : Nat := 0
  indexKind : Nat := 0
  elements : Nat := 0
  x : Int := 0
  m : Nat := 65536
  node : Nat := 0
  first : Nat := 0
  residual : List Nat := []
  deriving DecidableEq, Repr

/-- A check entry (R271). -/
structure CheckCfg where
  port : Nat := 0
  sensor : Nat := 0
  element : Nat := 0
  start : Nat := 0
  length : Nat := 1
  deriving DecidableEq, Repr

/-- A slice entry (R275). -/
structure SliceCfg where
  frame : Nat := 0
  stage : Nat := 0
  len : Nat := 0
  firstInstr : Nat := 0
  instrN : Nat := 0
  ddrBytes : Nat := 0
  deriving DecidableEq, Repr

/-- An instruction entry (R276). -/
structure InstrCfg where
  issue : Nat := 0
  unit : Nat := 0
  bank : Nat := 0
  node : Nat := 0
  tile : Nat := 0
  step : Nat := 0
  arg0 : Nat := 0
  arg1 : Nat := 0
  deriving DecidableEq, Repr

/-- A slice schedule (R275). -/
structure SliceSched where
  wLen : Nat := 0
  phase : Nat := 0
  oprFirst : Nat := 0
  oprRows : Nat := 1
  scrBase : Nat := 0
  scrLen : Nat := 0
  slices : List SliceCfg := []
  instrs : List InstrCfg := []
  deriving DecidableEq, Repr

/-- The header of a bank block of the weight section (R260). -/
structure BankBlock where
  bank : Nat := 0
  firstRow : Nat := 0
  rows : Nat := 0
  node : Nat := 0
  /-- Offset of its first row in the weight section. -/
  off : Nat := 8
  deriving DecidableEq, Repr

/-- A part of a weight row held in one bank (R219, R227): the exponent of its accumulator and its weights as inner
index, significand and exponent, in the order in which the lane takes them. -/
structure WeightPart where
  eAcc : Int := 0
  terms : List (Nat × Int × Int) := []
  deriving DecidableEq, Repr

/-- The constants of a node as the engine reads them: weights from the bank rows (R225, R260), the others from the node's
part of the payload (R257). Constants are pairs of significand and exponent. -/
structure NodeConst where
  weights : List (List WeightPart) := []
  bias : List (Int × Int) := []
  scale : List (Int × Int) := []
  /-- Accumulator exponent of each tile of 256 elements. -/
  eAcc : List Int := []
  /-- STATE_LO and STATE_HI of each state element (R261). -/
  state : List (Int × Int) := []
  index : List Nat := []
  /-- Breakpoints of INTERP (R264). -/
  xs : List Int := []
  ys : List Int := []
  deriving DecidableEq, Repr

/-- GRAPH_IMAGE (R97, R256 to R276). -/
structure GraphCfg where
  present : Bool := false
  graphId : Nat := 0
  nodeCount : Nat := 0
  period : Nat := 1
  priority : Nat := 0
  budgetSteady : Nat := 0
  budgetFeast : Nat := 0
  weightBytes : Nat := 0
  nodeOff : Nat := 0
  weightOff : Nat := 0
  schedSteadyOff : Nat := 0
  schedFeastOff : Nat := 0
  inputBoundsOff : Nat := 0
  residualOff : Nat := 0
  portOff : Nat := 0
  portCount : Nat := 0
  breachLimit : Nat := 100
  nodes : List NodeCfg := []
  blocks : List BankBlock := []
  inputs : List InBound := []
  ports : List PortCfg := []
  checks : List CheckCfg := []
  steady : SliceSched := {}
  feast : SliceSched := {}
  /-- Every reserved bit of the sections is 0 (R12). -/
  clean : Bool := true
  /-- The whole payload, which holds the rows of the banks and the constants of the nodes (R246, R257, R260). -/
  payload : List Byte := []
  deriving DecidableEq, Repr

/-- TENANT (R98); `present` is false for a tenant without a record. -/
structure TenantCfg where
  present : Bool := false
  enabled : Bool := false
  cls : Nat := 0
  allowDither : Bool := false
  allowEmber : Bool := false
  allowSurge : Bool := false
  lockstep : Bool := false
  minPages : Nat := 0
  maxPages : Nat := 0
  key : Nat := 0
  deriving DecidableEq, Repr

/-- PAGE_PARAMS (R99). -/
structure PageParams where
  idleHystMs : Nat := 10
  slopeUp : Nat := 0
  slopeDown : Nat := 0
  poolMax : List Nat := []
  deriving DecidableEq, Repr

/-- MAINT_MATRIX (R100): rows of conflict bits and longest durations in s. -/
structure MaintCfg where
  row : List Nat := []
  maxDuration : List Nat := []
  deriving DecidableEq, Repr

/-- A mode entry (R101). -/
structure ModeCfg where
  supplyBias : Int := 0
  sprayByCost : Bool := false
  surgePct : Nat := 0
  pumpLimit : Nat := 0
  engineFast : Bool := false
  wWater : Nat := 0
  wEnergy : Nat := 0
  wCompute : Nat := 0
  emberFloor : Int := 0
  emberAmplitude : Nat := 0
  emberPower : Nat := 0
  deriving DecidableEq, Repr

/-- MODE_TABLE (R101). -/
structure ModeTable where
  startMode : Nat := 1
  allowed : Nat := 0
  modes : List ModeCfg := []
  deriving DecidableEq, Repr

/-- HARD_LIMITS (R103). -/
structure HardLimits where
  rowCap : Nat := 0
  chipCap : Nat := 0
  rackCap : List Nat := []
  waterDaily : Nat := 0
  outletLimit : Int := 0
  supplyMin : Int := 0
  supplyMax : Int := 0
  waterDayStart : Nat := 0
  deriving DecidableEq, Repr

/-- An entry of SCHEDULE (R102). -/
structure SchedCfg where
  actionId : Nat := 0
  kind : Nat := 0
  lateMode : Bool := false
  firstTarget : Nat := 0
  repeatS : Nat := 0
  payload : Nat := 0
  deriving DecidableEq, Repr

/-- The configuration a selected copy gives: every record of R85, typed. -/
structure Image where
  seq : Nat := 0
  level : Nat := 0
  topology : Topology := {}
  links : List LinkCfg := []
  sensors : List SensorCfg := []
  valves : List ValveCfg := []
  pumps : List PumpCfg := []
  fans : List FanCfg := []
  aos : List AoCfg := []
  groups : List GroupCfg := []
  zones : List ZoneCfg := []
  loops : List CtlCfg := []
  almanacs : List AlmanacCfg := []
  filters : List (List FilterCfg) := []
  graphs : List GraphCfg := []
  tenants : List TenantCfg := []
  pages : PageParams := {}
  maint : MaintCfg := {}
  modes : ModeTable := {}
  limits : HardLimits := {}
  schedule : List SchedCfg := []
  deriving DecidableEq, Repr

/-- What the cryptography and the key answer for one copy, as the sender of a command observes it:
the verdicts of steps 3 to 7 of R105, the plaintext of each encrypted record (by ordinal), and whether the addresses of the
graphs' schedule instructions pass the load-time check. -/
structure CopyFacts where
  /-- The step of R105 at which the key can no longer be read (code 16). -/
  readError : Option Nat := none
  ownerKeyOk : Bool := true
  /-- Verdict on CERT_SIG, which is judged at CHAIN_DEPTH 1 alone (R81). -/
  certSigOk : Bool := true
  imageSigOk : Bool := true
  /-- Slots 0 and 1 whose vendor signature does not verify (R97). -/
  vendorSigBad : List Nat := []
  plain : List (Nat × Option (List Byte)) := []
  digest : Nat := 0
  /-- Slots with an instruction whose address falls outside the graph's own regions (R279): the units in which ARG0 and ARG1
  count are not given (log entry 35). -/
  schedBad : List Nat := []
  deriving DecidableEq, Repr

/-- What a socket answers (R75 to R77): SFDP, and the properties that R75 asks of the device. -/
structure KeyDevice where
  /-- The SFDP signature 0x5044_4653 is returned. -/
  present : Bool := false
  densityMiB : Nat := 128
  fourByte : Bool := true
  /-- I/O supply in mV. -/
  ioMv : Nat := 1800
  /-- SFDP revision, major and minor: JESD216D is 1.8. -/
  sfdpMajor : Nat := 1
  sfdpMinor : Nat := 8
  /-- The Basic Flash Parameter Table and the xSPI Profile 1.0 table. -/
  bfpt : Bool := true
  xspiProfile : Bool := true
  /-- 8D-8D-8D read at 133.33 MHz. -/
  octalRead : Bool := true
  copyA : List Byte := []
  copyB : List Byte := []
  factsA : CopyFacts := {}
  factsB : CopyFacts := {}
  deriving DecidableEq, Repr

/-- Which copy (R78, R110). -/
inductive Copy where
  | a | b
  deriving DecidableEq, Repr

/-- Result of a copy check (R105, R110, R111). -/
structure CopyStatus where
  reason : Nat := 0
  failRecord : Nat := 0xFFFF
  seq : Nat := 0
  level : Nat := 0
  deriving DecidableEq, Repr

/-- The key and the image status (R75 to R112). -/
structure Key where
  /-- 0 none; 1 backplane; 2 front socket (R110). -/
  source : Nat := 0
  frontPresent : Bool := false
  /-- The key answers (R109, 0x3009). -/
  lost : Bool := false
  copyA : List Byte := []
  copyB : List Byte := []
  factsA : CopyFacts := {}
  factsB : CopyFacts := {}
  selected : Option Copy := none
  statusA : CopyStatus := {}
  statusB : CopyStatus := {}
  /-- OTHER_STATE (R110). -/
  otherState : Nat := 0
  /-- A check of the other copy is in progress (R109). -/
  otherChecking : Bool := false
  digest : Nat := 0
  /-- R108: frame since which the module has held plant control with the sequencer in NORMAL. -/
  controlNormalSince : Option Nat := none
  /-- Row time (ns) of the last read of the key in NO_IMAGE (R106). -/
  lastRetry : Nat := 0
  deriving DecidableEq, Repr

end Sys2Proof
end

