-- ==== Sys2Proof/Machine/Parts/Engine.lean ====
section
/-! DEFINITION. The bound engine and its graph slots (R214 to R287). -/

namespace Sys2Proof

/-- A bounded element: center and radius as integers at one exponent, so that every format of R224 is held exactly.
An INF element keeps its center for diagnosis (R226). `sat` marks an element that a saturation made INF (R255). -/
structure Bnd where
  inf : Bool := false
  c : Int := 0
  r : Nat := 0
  e : Int := 0
  sat : Bool := false
  deriving DecidableEq, Repr

/-- A port element as published (R235, R287), with the computed edges lo0 and hi0 in counts. -/
structure PortElem where
  lo : Int := 0
  hi : Int := 0
  center : Int := 0
  inf : Bool := false
  lo0 : Int := 0
  hi0 : Int := 0
  deriving DecidableEq, Repr

/-- A pending check (R238, R239). -/
structure Pending where
  slot : Nat
  element : Nat
  sensor : Nat
  lo : Int
  hi : Int
  inf : Bool
  level : Nat
  first : Nat
  last : Nat
  min : Option Int := none
  max : Option Int := none
  void : Bool := false
  deriving DecidableEq, Repr

/-- The value of a node in operand buffers and scratch (R220, R225): bounded B8 as blocks of 72 bytes, other formats element
by element; with the CERTAIN marks of TOPK's indices (R265). -/
structure Stored where
  blocks : List (List Byte) := []
  elems : List Bnd := []
  certain : List Bool := []
  deriving DecidableEq, Repr

/-- The place of a row of bank SRAM (R219). -/
structure RowPlace where
  bank : Nat
  row : Nat
  deriving DecidableEq, Repr

/-- A row of bank SRAM that holds weights or exponents (R219, R225). -/
structure BankRow where
  bank : Nat
  row : Nat
  data : List Byte
  deriving DecidableEq, Repr

/-- An evaluation in progress (R274): its snapshot frame, stage, demotion level and latched inputs, with the inputs that lay
outside their declared bounds (R216). -/
structure Eval where
  snapshot : Nat
  stage : Nat
  level : Nat
  inputs : List Bnd
  bad : List Bool := []
  outOfDomain : Bool
  /-- R247, R248: a double-bit error struck it, so its outputs are INF and its checks void. -/
  struck : Bool := false
  deriving DecidableEq, Repr

/-- A completed evaluation that waits for the next boundary (R236): ports as (port, elements) and the advanced
operator state. -/
structure Completed where
  eval : Eval
  ports : List (Nat × List PortElem)
  state : List (List Bnd)
  deriving DecidableEq, Repr

/-- A graph slot (R253, R254, R261, R274 to R285). -/
structure GraphSt where
  loaded : Bool := false
  shed : Bool := false
  /-- R240, R241, R243. -/
  level : Nat := 0
  disabled : Bool := false
  poisoned : Bool := false
  /-- R240: the newest block last, each as (checks, breaches). -/
  window : List (Nat × Nat) := []
  totalChecks : Nat := 0
  totalBreaches : Nat := 0
  voidChecks : Nat := 0
  lastBreachFrame : Nat := 0
  lastBreachElement : Nat := 0
  lastBreachExcess : Int := 0
  demotedFrame : Nat := 0
  oodEvals : Nat := 0
  /-- R261: operator state by node. -/
  state : List (List Bnd) := []
  eval : Option Eval := none
  /-- Node values of the evaluation in progress: the stages of slot 0 build on the ones before (R220, R273). -/
  vals : List Stored := []
  /-- Operator state that the evaluation in progress has advanced; it counts from its publication (R261). -/
  next : List (List Bnd) := []
  /-- R252: frame in which the full scrub that clears POISONED has covered every word. -/
  scrubEnd : Option Nat := none
  done : List Completed := []
  /-- R280: no slice runs before the next snapshot frame. -/
  abandoned : Bool := false
  /-- Published ports, by port number; empty before the first publication. -/
  ports : List (List PortElem) := []
  published : Bool := false
  evals : Nat := 0
  lostEvals : Nat := 0
  lastPublish : Nat := 0
  /-- Snapshot frame of the latest published evaluation and its input snapshot (R252). -/
  lastSnapshot : Nat := 0
  lastInputs : List Bnd := []
  lastCycles : Nat := 0
  clamped : Nat := 0
  deriving DecidableEq, Repr

/-- A precision run in progress (R252): its slot, and snapshot, inputs and computed edges of the evaluation it repeats. -/
structure Precision where
  slot : Nat
  snapshot : Nat
  inputs : List Bnd := []
  edges : List (List PortElem)
  deriving DecidableEq, Repr

/-- The engine (R250 to R253, R281 to R287). -/
structure Engine where
  /-- 0 off; 1 1.0 GHz; 2 1.25 GHz. -/
  clock : Nat := 0
  fastRefused : Bool := false
  distrusted : Bool := false
  precision : Option Precision := none
  /-- R252: snapshot frame, and the frame of the last empty intersection. -/
  lastEmpty : Option Nat := none
  /-- Results of the last precision run, port by port, as (lo, hi) in counts (R249, R252). -/
  precisionResult : List (List (Int × Int)) := []
  graphs : List GraphSt := List.replicate 8 {}
  pending : List Pending := []
  sliceCycles : Nat := 0
  stallCycles : Nat := 0
  counters : List Nat := List.replicate 10 0
  lastDbe : Nat := 0
  /-- Bank rows with weights and exponents of the loaded graphs (R219, R225, R260). -/
  rows : List BankRow := []
  /-- SHA-384 of the graph payload of each slot that LPDDR5X holds (R246). -/
  payloadSha : List Nat := List.replicate 8 0
  /-- R247: rows with a double-bit error, as bank and row; frames of the double-bit errors of each bank in weight rows; and
  reloads in progress. -/
  badRows : List (Nat × Nat) := []
  bankDbe : List (Nat × Nat) := []
  reload : List Nat := []
  /-- R251: whether the junction has read above 105.0 C in the plan epoch in progress, and the frame of its last
  reading above 95.0 C. -/
  junctionHot : Bool := false
  junctionLast : Option Nat := none
  /-- R251: the 1.25 GHz PLL has lock. -/
  fastLocked : Bool := true
  /-- R281 to R283. -/
  shedSteps : Nat := 0
  shedDue : Nat := 0
  cleanFrames : Nat := 0
  restoreNeed : Nat := 10000
  shedCount : Nat := 0
  restoreCount : Nat := 0
  lastShed : Option Nat := none
  lastRestore : Option Nat := none
  /-- R141: DIGEST in force when the kept demotion state was made. -/
  keepDigest : Nat := 0
  deriving DecidableEq, Repr

end Sys2Proof
end

