-- ==== Sys2Proof/Machine/Parts/Fieldbus.lean ====
section
/-! DEFINITION. Points of the fieldbus servers (R606 to R610). -/

namespace Sys2Proof

/-- The BACnet kind of a point (R610): Multi-state, Binary or Analog. -/
inductive PointKind where
  | multi | binary | analog
  deriving DecidableEq, Repr

/-- A point: its first register, whether it takes two, what the registers show, and the value `num` / `den` in the
units of R610. -/
structure Point where
  addr : Nat
  wide : Bool := false
  reg : Int
  kind : PointKind := .analog
  num : Int
  den : Nat := 1
  missing : Bool := false
  deriving DecidableEq, Repr

/-- The value of a WriteProperty (R610): NULL, an enumerated or unsigned number, or a real as binary32. -/
inductive BacValue where
  | null
  | nat (v : Nat)
  | real (enc : BitVec 32)
  deriving DecidableEq, Repr

/-- A property of an object, by ASHRAE 135 numbers: object type, instance number, property. -/
structure BacProp where
  kind : Nat
  inst : Nat
  prop : Nat
  deriving DecidableEq, Repr

end Sys2Proof
end

