-- ==== Sys2Proof/Machine/Parts/Frame.lean ====
section
/-! DEFINITION. The state of the frame sequencer, the timebase, PTP and the schedule table (R40 to R74, R637). -/

namespace Sys2Proof

/-- The four phases of a frame (R41). -/
inductive Phase where
  | ingest | compute | emit | guard
  deriving DecidableEq, Repr

/-- The clients of R41, in its table order. -/
inductive Client where
  | beacon | plantInput | canSnapshot | telemetry | engine | estimator | allocator | control
  | leak | planSlice | plantOutput | canStage | bookkeeping
  deriving DecidableEq, Repr

/-- The clocks of R49 that a PLL makes (R53). -/
inductive Pll where
  | core | engine | control | link | can | analog | timestamp
  deriving DecidableEq, Repr

/-- The sequencer's states (R47). -/
inductive SeqState where
  | normal | safeHold | holdLocked
  deriving DecidableEq, Repr

/-- The frame sequencer (R40 to R48, R54). -/
structure Sequencer where
  /-- R47. -/
  state : SeqState := .normal
  /-- R44: frame number, U48; meaningful while `frameValid`. -/
  frame : Nat := 0
  /-- R44: 0 before the first frame after READY. -/
  frameValid : Bool := false
  /-- R55: row time in 0.0001 ns, so that a rate of 0.001 ppm is held exactly. -/
  rowT : Nat := 0
  /-- R54: running on the RC oscillator. -/
  backupClock : Bool := false
  /-- R45: clients that overran in the frame in progress. -/
  overran : List Client := []
  /-- R74: clients that overran in the frame before. -/
  overPrev : List Client := []
  /-- R45: overruns of each phase, in the order of R596. -/
  phaseOver : List Nat := [0, 0, 0, 0]
  /-- R45: overruns of each client of R41. -/
  clientOver : List Nat := List.replicate 13 0
  /-- R45: consecutive overruns of each phase, saturating at 255. -/
  consec : List Nat := [0, 0, 0, 0]
  /-- R46: the engine slice's own consecutive count. -/
  engineConsec : Nat := 0
  /-- R46: a shed request has been issued for the present value of `engineConsec`. -/
  shedIssued : Bool := false
  /-- R47: consecutive clean frames in SAFE_HOLD. -/
  clean : Nat := 0
  /-- R47: frames of the safe-hold entries of the last 600 s. -/
  holdEntries : List Nat := []
  /-- R596 counters 17, 18. -/
  holdCount : Nat := 0
  shedCount : Nat := 0
  /-- R53: PLLs without lock. -/
  unlocked : List Pll := []
  /-- R41: the next phase of the frame in progress: 0 Ingest to 3 Guard, 4 when all have run. -/
  phase : Nat := 0
  deriving DecidableEq, Repr

/-- The mark of wall time (R60, R64, R65, R596). -/
inductive WallMark where
  | locked | holdover | degraded | notTai
  deriving DecidableEq, Repr

/-- A record of the epoch history (R57, R597). -/
structure EpochRec where
  epoch : Nat := 0
  wallOffset : Int := 0
  startRow : Nat := 0
  startFrame : Nat := 0
  deriving DecidableEq, Repr

/-- The data set of an Announce that best master selection compares (R59: the standard's default algorithm). -/
structure Announce where
  port : Nat
  /-- sourcePortIdentity of the sender. -/
  source : Nat
  domain : Nat
  gm : Nat
  priority1 : Nat
  clockClass : Nat
  accuracy : Nat
  variance : Nat
  priority2 : Nat
  stepsRemoved : Nat
  /-- The PTP timescale is announced; false is ARB (R60). -/
  ptpTimescale : Bool
  utcOffset : Int
  /-- Announce interval in ns. -/
  intervalNs : Nat
  deriving DecidableEq, Repr

/-- A foreign master record of best master selection: the last Announce of one sender on one port, and the row times (ns)
of its Announce messages, newest first (R59: the standard's default algorithm). -/
structure ForeignMaster where
  data : Announce
  times : List Nat := []
  deriving DecidableEq, Repr

/-- The sender of a PTP message: domain and sourcePortIdentity (R59). -/
structure PtpSender where
  domain : Nat
  source : Nat
  deriving DecidableEq, Repr

/-- The header of a Delay_Resp and the request that it names (R59). -/
structure DelayHead where
  port : Nat
  domain : Nat
  /-- sourcePortIdentity of the sender. -/
  source : Nat
  seq : Nat
  /-- Its requestingPortIdentity is the module's. -/
  ours : Bool
  /-- correctionField, ns. -/
  correction : Int
  deriving DecidableEq, Repr

/-- A Delay_Resp as received (R59). -/
structure DelayResp extends DelayHead where
  /-- Row time at which the Delay_Req left, as the MAC stamped it, ns. -/
  txRow : Int
  /-- receiveTimestamp, ns. -/
  rxMaster : Int
  deriving DecidableEq, Repr

/-- Wall time and the PTP servo (R55 to R65). -/
structure Wall where
  /-- R57. -/
  epoch : Nat := 0
  /-- R56: WALL_OFFSET of the epoch in force, ns. -/
  offset : Int := 0
  /-- R57: the last 16 epochs, newest first. -/
  history : List EpochRec := []
  /-- R64, R65, R60: the mark that stands beside locked. -/
  degraded : Bool := false
  holdover : Bool := false
  arb : Bool := false
  /-- R61. -/
  ptpLocked : Bool := false
  /-- R61: consecutive Syncs within 10 us. -/
  lockRun : Nat := 0
  /-- R62: consecutive Syncs above 50 ms. -/
  bigRun : Nat := 0
  /-- R57: an increment of the epoch waits for the next frame boundary; the change of WALL_OFFSET with it. -/
  step : Option Int := none
  /-- R57: row time (0.0001 ns) of the frame in which the step was confirmed; it takes effect at a later boundary. -/
  stepAt : Nat := 0
  /-- R55: total rate adjustment, 0.001 ppm, and its parts. -/
  rate : Int := 0
  freqPart : Int := 0
  phasePart : Int := 0
  /-- R65: frame since which the rate has stood at its limit. -/
  limitSince : Option Nat := none
  /-- R596: last measured offset, ns. -/
  offsetNs : Int := 0
  /-- The master in use and the row time of its last Announce. -/
  master : Option Announce := none
  /-- Best master selection: the senders of Announce messages heard (R59). -/
  foreign : List ForeignMaster := []
  lastAnnounce : Nat := 0
  /-- The Announce interval by which the receipt timeout runs, ns (R59). -/
  announceNs : Nat := 1000000000
  /-- R64: row time at which holdover began. -/
  holdoverSince : Nat := 0
  gmIdentity : Nat := 0
  utcOffset : Int := 0
  syncLog : Int := 0
  /-- R59: the active Ethernet port. -/
  activePort : Nat := 0
  /-- Sync origin and receive time of the last Sync, for the path delay (R59). -/
  syncOrigin : Int := 0
  syncRx : Int := 0
  pathDelay : Int := 0
  /-- R59: sequenceId of the last Delay_Req sent (wraps), and whether its Delay_Resp is outstanding. -/
  delaySeq : Nat := 0
  delayOpen : Bool := false
  /-- R596 counters 19, 20, 21. -/
  ignored : Nat := 0
  syncCount : Nat := 0
  epochCount : Nat := 0
  /-- R102: image schedule entries have been committed for the first validity of wall time. -/
  imageSchedDone : Bool := false
  deriving DecidableEq, Repr

/-- STATE of a schedule entry (R66). -/
inductive EntryState where
  | pending | executed | dropped | skipped
  deriving DecidableEq, Repr

/-- A schedule table entry (R66). -/
structure SchedEntry where
  valid : Bool := false
  actionId : Nat := 0
  occurrence : Nat := 0
  kind : Nat := 0
  /-- 1: keyed to wall time. -/
  wallKeyed : Bool := false
  /-- 1: LATE_RUN. -/
  lateRun : Bool := false
  state : EntryState := .pending
  late : Bool := false
  target : Nat := 0
  /-- After a conversion to an instant before frame 0 the due frame is held at 0. -/
  due : Nat := 0
  lateness : Nat := 0
  execFrame : Nat := 0
  convEpoch : Nat := 0
  payload : Nat := 0
  /-- R73: the frame in which the entry entered the table. -/
  commitFrame : Nat := 0
  /-- R72: row time (ns) at which the entry left the pending state. -/
  leftAt : Nat := 0
  /-- R102: index of the image schedule entry it repeats, if any. -/
  image : Option Nat := none
  /-- R102: its occurrence number, before the reduction mod 65,536. -/
  imageK : Nat := 0
  deriving DecidableEq, Repr

/-- A record of the schedule history (R71). -/
structure SchedHist where
  actionId : Nat
  occurrence : Nat
  execFrame : Nat
  /-- Row time (ns) at which it was recorded, counted from the present start; negative for a record of an
  earlier start, so that its age runs on over a reset (R140). -/
  rowNs : Int
  deriving DecidableEq, Repr

/-- The schedule table and its history (R66 to R73). -/
structure Sched where
  table : List SchedEntry := List.replicate 512 {}
  history : List SchedHist := []
  /-- R69: slots staged in the Guard phase for the next boundary. -/
  staged : List Nat := []
  /-- R68: commits accepted in the frame, to enter the table at the next boundary. -/
  commits : List SchedEntry := []
  /-- R60, R102: occurrences of image entries, as entry and occurrence, that wait for a PTP-timescale master. -/
  imageWait : List (Nat × Nat) := []
  /-- R70: row time (ns) of the last once-per-second conversion. -/
  lastConv : Nat := 0
  /-- R596 counters 22, 23. -/
  lateRunCount : Nat := 0
  lateDropCount : Nat := 0
  deriving DecidableEq, Repr

end Sys2Proof
end

