-- ==== Sys2Proof/Machine/Parts/Leak.lean ====
section
/-! DEFINITION. Leak detection, isolation and the row-level emergency (R434 to R460). Binary32 values are encodings. -/

namespace Sys2Proof

/-- State of a rope or float input (R434, R459). -/
inductive LeakInState where
  | dry | wet | fault
  deriving DecidableEq, Repr

/-- The band of one reading (R434, R626); `between` is outside every band. -/
inductive LeakBand where
  | wet | dry | fault | between
  deriving DecidableEq, Repr

/-- What the front end reads of the leak inputs in a frame: rope r as (sense current in uA, continuity in ohm), float
f in ohm, and the ring current in uA (R434, R452, R626). -/
structure LeakReadings where
  ropes : List (Nat × Nat) := []
  floats : List Nat := []
  ringUa : Nat := 0
  deriving DecidableEq, Repr

/-- A rope or float (R434, R437, R459). Ropes are inputs 0 to 15, floats 16 to 23. -/
structure LeakInput where
  state : LeakInState := .dry
  wetRun : Nat := 0
  dryRun : Nat := 0
  faultRun : Nat := 0
  wholeRun : Nat := 0
  /-- First frame of the WET run in progress. -/
  wetStart : Nat := 0
  sideA : Bool := false
  sideB : Bool := false
  nearSplit : Bool := false
  location : Nat := 0xFFFF
  leakUa : Nat := 0
  contacts : Nat := 0
  lastWet : Nat := 0
  measured : Nat := 0
  /-- Last frame in which each side read WET (R449, R450). -/
  wetFrameA : Nat := 0
  wetFrameB : Nat := 0
  deriving DecidableEq, Repr

/-- ISO_STATE (R448). -/
inductive IsoState where
  | isOpen | closing | checking | held | notHolding
  deriving DecidableEq, Repr

/-- The leak part of a loop (R438 to R448, R458). -/
structure LoopLeak where
  iso : IsoState := .isOpen
  /-- Cause bits of R458: rope, float, mass balance, decay, classifier. -/
  cause : List Bool := List.replicate 5 false
  /-- Trigger frame t0 (R447). -/
  trigger : Nat := 0
  decidedFrame : Nat := 0
  edgeFrame : Nat := 0
  isoTime : Nat := 0
  /-- R448: the supply flow has been valid between 1 s and 3 s. -/
  flowSeen : Bool := false
  checkFrame : Nat := 0
  isolations : Nat := 0
  /-- Residuals of the ms in progress, newest first (R438). -/
  raws : List (BitVec 32) := []
  base : BitVec 32 := 0
  var : BitVec 32 := 0
  thr : BitVec 32 := 0
  resid : BitVec 32 := 0
  stat : BitVec 32 := 0
  /-- The mean of a ms that waits for the adaptation stage. -/
  mean : Option (BitVec 32) := none
  run : Nat := 0
  mbConfirmed : Bool := false
  mbActive : Bool := false
  thrAtMax : Bool := false
  /-- R441: the hold-off ends at this frame. -/
  holdUntil : Option Nat := none
  /-- Frame since which both isolation channels have been energised (R442). -/
  closedSince : Option Nat := none
  decayActive : Bool := false
  /-- The second in progress: sum of both pressures, frames, a missing reading. -/
  pSum : Int := 0
  pCount : Nat := 0
  pVoid : Bool := false
  sec : Nat := 0
  /-- Seconds and sums over 20,000 of the last 10 values, newest first. -/
  pVals : List (Nat × Int) := []
  decay : BitVec 32 := 0
  decayVar : BitVec 32 := 0
  decayThr : BitVec 32 := 0
  decayRun : Nat := 0
  decayConfirmed : Bool := false
  decayInside : Bool := false
  /-- Frame of the last confirmed decay (R449). -/
  decayFrame : Option Nat := none
  clsAvailable : Bool := false
  score : Int := 0
  clsRun : Nat := 0
  clsConfirmed : Bool := false
  /-- Last frame in which the score was 32,768 or more (R449). -/
  scoreFrame : Nat := 0
  deriving DecidableEq, Repr

/-- Leak detection (R434 to R460). Isolation states and causes are kept in MRAM (R448). -/
structure Leak where
  inputs : List LeakInput := List.replicate 24 {}
  loops : List LoopLeak := List.replicate 24 {}
  /-- R450, R451: the latched emergency and its causes. -/
  emergency : Bool := false
  rowSensor : Bool := false
  notHolding : Bool := false
  manyLoops : Bool := false
  stopRequest : Bool := false
  /-- Frames of isolation decisions within 10 s, and of the last third decision. -/
  decisions : List Nat := []
  manyFrame : Nat := 0
  ringExt : Bool := false
  ringUa : Nat := 0
  ringOpenRun : Nat := 0
  ringClosedRun : Nat := 0
  counters : List Nat := List.replicate 10 0
  deriving DecidableEq, Repr

end Sys2Proof
end

