-- ==== Sys2Proof/Machine/Parts/Links.lean ====
section
/-! DEFINITION. Gwynlink ports, their link layer and transactions (R348 to R379). Port 64 is the pair port, which uses
the same link layer (R508). -/

namespace Sys2Proof

/-- Port states (R374, R379). -/
inductive PortState where
  | off | training | attesting | config | up | quarantine | failed
  deriving DecidableEq, Repr

/-- A packet in the replay buffer (R360). -/
structure ReplayPkt where
  pn : Nat
  type : Nat
  op : Nat
  tag : Nat := 0
  tgen : Nat := 0
  sent : Nat
  replays : Nat := 0
  payload : List Nat := []
  deriving DecidableEq, Repr

/-- An outstanding transaction (R363). `att` tells an ATT from a CFG transaction, `item` which step it carries. -/
structure Txn where
  tag : Nat
  tgen : Nat
  att : Bool
  item : Nat
  sent : Nat
  tries : Nat := 0
  deriving DecidableEq, Repr

/-- A chip descriptor as read in CONFIG (R339): slot, F_TAB, F_STEP, F_TOL. -/
structure ChipDesc where
  slot : Nat
  fTab : Nat
  fStep : Nat
  fTol : Nat
  deriving DecidableEq, Repr

/-- What an ATT response of the present step says (R369): it passes, the digest it fixes, more portions follow, or the
agent is not ready (R364). -/
inductive AttVerdict where
  | pass (digest : Nat)
  | more
  | notReady
  | fail
  deriving DecidableEq, Repr

/-- What a response carries (R364, R365): OP and payload of a CFG response (8 read response, 9 write response, 15 error
response), or what an ATT response says. -/
inductive TxnBody where
  | cfg (op : Nat) (data : List Nat)
  | att (v : AttVerdict)
  deriving DecidableEq, Repr

/-- An EVT entry. -/
structure EvtEntry where
  code : Nat
  slot : Nat
  slotValid : Bool
  detail : Nat
  deriving DecidableEq, Repr

/-- A port (R349 to R379). -/
structure LinkPort where
  state : PortState := .off
  session : Bool := false
  /-- R371: the ExportMasterSecret of the session. -/
  secret : Nat := 0
  marginLow : Bool := false
  leaveCause : Nat := 0
  trainCount : Nat := 0
  ctle : Nat := 0
  dfe : List Int := [0, 0, 0]
  marginH : Nat := 0
  marginW : Nat := 0
  /-- R351: frame since which every measurement has been low, or above the warning levels. -/
  lowSince : Option Nat := none
  goodSince : Option Nat := none
  rtt : Nat := 0
  stateFrame : Nat := 0
  keyGen : Nat := 0
  /-- R372: the generation received, and the frame in which it was first seen. -/
  rxGen : Nat := 0
  phaseFrame : Option Nat := none
  counters : List Nat := List.replicate 16 0
  measDigest : Nat := 0
  certDigest : Nat := 0
  agentFw : Nat := 0
  /-- R374: frames of the entries to TRAINING in the last 60 s, and consecutive failed attempts. -/
  entries : List Nat := []
  trainFails : Nat := 0
  /-- R372, R374: frames of the authentication failures of the last 10 s. -/
  authFails : List Nat := []
  /-- R369: frame of the first request; frame at which a new attestation is due. -/
  attStart : Option Nat := none
  retryAt : Option Nat := none
  /-- R369, R366: step in progress. -/
  attStep : Nat := 0
  /-- R368: portions of the certificate chain received. -/
  attPortion : Nat := 0
  cfgStep : Nat := 0
  quarAt : Nat := 0
  /-- R363: generation of each tag, free tags longest free first, outstanding transactions, waiting requests. -/
  gens : List Nat := List.replicate 256 0
  freeTags : List Nat := List.range 256
  txns : List Txn := []
  waiting : List (Bool × Nat × Nat) := []
  timeouts : Nat := 0
  /-- R353, R360, R361: next packet number sent and expected, the replay buffer, the last NAK. -/
  sendPn : Nat := 0
  expectPn : Nat := 0
  replay : List ReplayPkt := []
  nakPn : Option (Nat × Nat) := none
  /-- R362. -/
  ctlSend : Nat := 0
  ctlLast : Option Nat := none
  pingNum : Nat := 0
  pingFrame : Option Nat := none
  /-- R373: frame of the last valid packet; code errors in the frame in progress. -/
  lastValid : Nat := 0
  codeErrors : Nat := 0
  /-- R358, R359: frame whose TEL has been settled, whether it was accepted, and frame of the last TEL_MISSING NAK. -/
  telFrame : Option Nat := none
  telNak : Option Nat := none
  /-- R372: frame of the KEY_UPDATE of a re-key in progress, which ends when a packet under the new phase arrives; the
  module's switch is due at the next boundary. -/
  rekey : Option Nat := none
  keyDue : Bool := false
  sessionFrame : Nat := 0
  /-- R367: frames of the EVT entries of the last 1 s; slots emptied. -/
  evts : List Nat := []
  emptied : List Nat := []
  descs : List ChipDesc := []
  deriving DecidableEq, Repr

/-- The links. -/
structure Links where
  ports : List LinkPort := List.replicate 65 {}
  deriving DecidableEq, Repr

end Sys2Proof
end

