-- ==== Sys2Proof/Machine/Parts/Out.lean ====
section
/-! DEFINITION. What the block sends: the model's own record of answers, packets and frames, newest first. -/

namespace Sys2Proof

/-- Something the block sent. Data are bytes unless the constructor says otherwise. -/
inductive Tx where
  /-- A message of the status window protocol: its bytes from the header on (R584, R585). -/
  | message (session : Nat) (data : List Nat)
  /-- SPDM_RESP (R533): response code and the fields the model carries. -/
  | spdm (session code : Nat) (data : List Nat)
  /-- TLS KeyUpdate (R581). -/
  | keyUpdate (session : Nat)
  /-- A TCP connection reset: true for Modbus (R606), false for the status window (R582). -/
  | tcpReset (modbus : Bool)
  /-- A Modbus answer: function code (with 0x80 set: an exception) and data (R606). -/
  | modbus (conn function : Nat) (data : List Nat)
  /-- A BACnet answer: service code, error or 0, values (R609, R610). -/
  | bacnet (service error : Nat) (data : List Int)
  /-- A packet of a Gwynlink port, or of the pair port as port 64: its bytes from the header to the CRC (R352, R508). -/
  | link (port : Nat) (data : List Nat)
  /-- A CAN frame: channel, transmit object (0xFFFF for a host message) and the frame with its ESI bit (R472, R475). -/
  | can (channel source : Nat) (msg : CanMsg)
  /-- A claim placed on the claim bus (R498). -/
  | claim (value : Nat)
  /-- A telemetry block sealed (R541): tenant or 0xFFFF for the row, BLOCK_SEQ. -/
  | block (tenant seq : Nat)
  /-- A PTP Delay_Req: port, domain, sequenceId (R59). -/
  | ptpDelayReq (port domain seq : Nat)
  /-- A DHCP request on a port with its client identifier (R580). -/
  | dhcp (port : Nat) (client : List Nat)
  deriving DecidableEq, Repr

end Sys2Proof
end

