-- ==== Sys2Proof/Machine/Parts/Security.lean ====
section
/-! DEFINITION. Fuses, life cycle, random values, certificates, nonces and telemetry blocks (R527 to R553). Keys,
hashes, tags and signatures are numbers. -/

namespace Sys2Proof

/-- The life cycle (R529). -/
inductive LifeCycle where
  | unenrolled | enrolled | returned
  deriving DecidableEq, Repr

/-- The fuses of R528; the thermometer code of ROLLBACK is held as its count. -/
structure Fuses where
  vendorRootHash : Nat := 0
  deviceSeed : Nat := 0
  ownerKeyHash : Nat := 0
  ownerImageKey : Nat := 0
  rollback : Nat := 0
  enrolled : List Bool := [false, false, false]
  released : List Bool := [false, false, false]
  deriving DecidableEq, Repr

/-- A tenant telemetry block (R542). -/
structure TenantBlock where
  tenant : Nat := 0
  tgen : Nat := 0
  seq : Nat := 0
  firstFrame : Nat := 0
  rowTime : Nat := 0
  epoch : Nat := 0
  energyJ : Nat := 0
  pageFrames : Nat := 0
  capMean : Nat := 0
  sites : Nat := 0
  granted : Nat := 0
  denied : Nat := 0
  reclaimed : Nat := 0
  reqOk : Nat := 0
  reqRefused : Nat := 0
  unrespMax : Nat := 0
  left : Bool := false
  prevTag : Nat := 0
  tag : Nat := 0
  deriving DecidableEq, Repr

/-- A row telemetry block (R543). -/
structure RowBlock where
  seq : Nat := 0
  firstFrame : Nat := 0
  rowTime : Nat := 0
  wallTime : Nat := 0
  epoch : Nat := 0
  energyJ : Nat := 0
  waterMl : Nat := 0
  mode : Nat := 0
  planState : Nat := 0
  plantControl : Bool := false
  emergency : Bool := false
  isolated : Nat := 0
  term : Nat := 0
  digest : Nat := 0
  prevHash : Nat := 0
  signature : Nat := 0
  deriving DecidableEq, Repr

/-- What a tenant's block in progress has gathered (R542), with the account values at the block's start. -/
structure TenantTel where
  active : Bool := false
  left : Bool := false
  gen : Nat := 0
  energy0 : Nat := 0
  denied0 : Nat := 0
  reclaimed0 : Nat := 0
  pageFrames : Nat := 0
  capSum : Nat := 0
  frames : Nat := 0
  sites : Nat := 0
  unrespMax : Nat := 0
  reqOk : Nat := 0
  reqRefused : Nat := 0
  deriving DecidableEq, Repr

/-- The security part of a tenant (R538, R553) and its chain of blocks (R541, R544). LAST_NONCE is kept in MRAM. -/
structure TenantSec where
  lastNonce : Nat := 0
  /-- Generation of the chain in progress, its next BLOCK_SEQ and the tag of its last block. -/
  chainGen : Option Nat := none
  nextSeq : Nat := 0
  prevTag : Nat := 0
  /-- BLOCK_SEQ of the last block sealed (R553). -/
  lastSeq : Nat := 0
  authFail : Nat := 0
  expired : Nat := 0
  replays : Nat := 0
  permFail : Nat := 0
  lastReqFrame : Nat := 0
  tel : TenantTel := {}
  /-- The last 4 blocks, newest first. -/
  blocks : List TenantBlock := []
  deriving DecidableEq, Repr

/-- What the row's block in progress has gathered (R543). -/
structure RowTel where
  rowTime : Nat := 0
  wallTime : Nat := 0
  epoch : Nat := 0
  firstFrame : Nat := 0
  energy0 : Nat := 0
  water0 : Nat := 0
  emergency : Bool := false
  isolated : List Bool := List.replicate 24 false
  deriving DecidableEq, Repr

/-- The security block (R527 to R554). -/
structure Security where
  fuses : Fuses := {}
  /-- R545: the boot ROM has started the firmware in return mode. -/
  returnMode : Bool := false
  /-- R549: zeroisation has completed. -/
  zeroised : Bool := false
  /-- R532: the chain of slot 1, as installed. -/
  slot1 : Option (List Nat) := none
  /-- R599: the first part of SET_DEVICE_CERT and the session that sent it. -/
  certParts : Option (Nat × List Nat) := none
  drbgOk : Bool := false
  /-- ENROL_N held low, and the row time (ns) since which it has been. -/
  enrolLow : Bool := false
  enrolSince : Nat := 0
  enrolNonce : Nat := 0
  /-- R529: row time (ns) at which an accepted enrolment reboots the module. -/
  enrolReboot : Option Nat := none
  /-- R547: RELEASE_NONCE and the row time (ns) of its issue. -/
  releaseNonce : Option (Nat × Nat) := none
  tenants : List TenantSec := List.replicate 256 {}
  rowTel : RowTel := {}
  rowNext : Nat := 0
  rowPrev : Nat := 0
  /-- The last 8 row blocks, newest first. -/
  rowBlocks : List RowBlock := []
  /-- R541: blocks of the second before, gathered and not yet sealed: its number k and the blocks. -/
  due : Option (Nat × List TenantBlock × RowBlock) := none
  /-- Counters of R552. -/
  counters : List Nat := List.replicate 10 0
  deriving DecidableEq, Repr

/-- What the security block finds in an OWNER_ENROL (R531): the values the body carries and the verdicts. -/
structure EnrolFacts where
  rootHash : Nat
  imageKey : Nat
  sigOk : Bool := true
  unwrapOk : Bool := true
  fuseOk : Bool := true
  deriving DecidableEq, Repr

/-- What a client presents at a TLS handshake (R536, R581). -/
structure ClientFacts where
  port : Nat
  hasCert : Bool := true
  /-- Suite, key exchange and signature scheme are those of R581. -/
  tlsOk : Bool := true
  certs : Nat := 1
  chainBytes : Nat := 1000
  rootHash : Nat := 0
  signaturesOk : Bool := true
  inValidity : Bool := true
  /-- organizationalUnitName attributes of the table: 0 EH-OBSERVER; 1 EH-FACILITY; 2 EH-OWNER; others not of it. -/
  units : List Nat := [0]
  subjectHash : Nat := 0
  deriving DecidableEq, Repr

end Sys2Proof
end

