-- ==== Sys2Proof/Machine/Parts/Mgmt.lean ====
section
/-! DEFINITION. Ethernet ports, sessions, requests and the fieldbus servers (R537, R579 to R612). -/

namespace Sys2Proof

/-- Role of a session (R536, R595). -/
inductive SessRole where
  | none | observer | facility | owner
  deriving DecidableEq, Repr

/-- A notification that waits (R590). -/
structure Note where
  topic : Nat
  index : Nat
  /-- Frame stamp of its cause. -/
  frame : Nat
  data : List Nat
  deriving DecidableEq, Repr

/-- A message of a session that is not answered yet, or whose answer waits for that of an earlier one (R582). -/
structure Slot where
  msgId : Nat
  answer : Option Tx := none
  deriving DecidableEq, Repr

/-- The fields of a session's own (R589). -/
structure Windows where
  ptBase : Nat := 0
  pwSlot : Nat := 0
  pwPort : Nat := 0
  pwBase : Nat := 0
  twSource : Nat := 0
  twPage : Nat := 0
  mqSel : Nat := 0
  tbSel : Nat := 0
  logWinSeq : Nat := 0
  deriving DecidableEq, Repr

/-- A session (R581, R582, R540, R595). -/
structure Session where
  isOpen : Bool := false
  role : SessRole := .none
  port : Nat := 0
  openFrame : Nat := 0
  messages : Nat := 0
  subjectHash : Nat := 0
  /-- Row time (ns) of the last message. -/
  lastNs : Nat := 0
  /-- R582: messages in order of arrival, from the first that has no answer yet. -/
  outbox : List Slot := []
  /-- R581: bytes of messages in each direction, and row time (ns), since the last KeyUpdate. -/
  bytesIn : Nat := 0
  bytesOut : Nat := 0
  keyNs : Nat := 0
  subs : List (Nat × Nat) := []
  notes : List Note := []
  dropped : Nat := 0
  /-- R540: frames of the tag failures of the last 1 s, and the frame in which the lockout began. -/
  tagFails : List Nat := []
  lockout : Option Nat := none
  /-- R538: failures counted for the session when a request names no tenant. -/
  failures : Nat := 0
  /-- R534: row time (ns) of the last event 0xE030. -/
  attested : Option Nat := none
  win : Windows := {}
  deriving DecidableEq, Repr

/-- An Ethernet port (R579, R580, R595). -/
structure EthPort where
  linkUp : Bool := false
  linkLocal : Bool := false
  ipv4 : Nat := 0
  prefixLen : Nat := 0
  /-- The port has an address. -/
  addressed : Bool := false
  floodDrops : Nat := 0
  taggedDrops : Nat := 0
  /-- Row times (ns) of the link-up and of the last DHCP request. -/
  upNs : Nat := 0
  askNs : Nat := 0
  deriving DecidableEq, Repr

/-- Settings of SET_FIELDBUS (R605), kept in MRAM. -/
structure Fieldbus where
  modbusEn : Bool := false
  modbusWrite : Bool := false
  bacnetEn : Bool := false
  bacnetWrite : Bool := false
  device : Nat := 0
  /-- Allow list: IPv4 address and prefix length. -/
  allow : List (Nat × Nat) := []
  deriving DecidableEq, Repr

/-- An image update (R602). -/
structure ImageUpdate where
  session : Nat
  msgId : Nat
  length : Nat
  next : Nat := 0
  erasing : Bool := true
  /-- Row time (ns) of its last message. -/
  lastNs : Nat := 0
  deriving DecidableEq, Repr

/-- The request header (R537) with the session and MSG_ID that carry it, and the verdict on TAG. -/
structure ReqHdr where
  session : Nat
  msgId : Nat := 0
  tenant : Nat := 0
  tenantAuth : Bool := false
  tgen : Nat := 0
  nonce : Nat := 0
  issued : Nat := 0
  tagOk : Bool := true
  /-- R599: the body has the length of its KIND. -/
  lengthOk : Bool := true
  deriving DecidableEq, Repr

/-- The body of SCHED_COMMIT (R601); `lateSet` is LATE_SET with LATE_MODE. -/
structure SchedReq where
  actionId : Nat
  occurrence : Nat := 0
  kind : Nat := 0
  wallKeyed : Bool := false
  late : Option Bool := none
  target : Nat := 0
  payload : Nat := 0
  deriving DecidableEq, Repr

/-- What the security block finds in a device certificate chain (R532): hash of its root key, and that each
certificate verifies, the leaf holds the device identity key, and the number of certificates. -/
structure ChainFacts where
  rootHash : Nat
  verified : Bool := true
  leafKey : Bool := true
  certs : Nat := 2
  deriving DecidableEq, Repr

/-- The requests (R599) that take effect at a boundary, with their bodies. -/
inductive ReqBody where
  | lowerMax (hi : Nat)
  | releasePages (pages : List (Nat × Nat)) (first : List Nat)
  | setSplit (order compute memory links : Nat)
  | bindSite (site : Nat)
  | unbindSite (site : Nat)
  | setQuota (lo hi : Nat)
  | releaseTenant
  | admitTenant
  | setMode (mode : Nat)
  | setLimit (scope loop limit : Nat)
  | setLoopSp (loop : Nat) (value : Int)
  | schedCommit (body : SchedReq)
  | clearElement (fan : Nat) (index : Nat)
  | setSprayInhibit (value : Nat)
  | setValve (channel position : Nat)
  | clearValve (index bank : Nat)
  | releaseLoop (loop : Nat)
  | rowStop
  | releaseRow
  | releaseFloor (link : Nat)
  | canSend (channel : Nat) (msg : CanMsg)
  | canCancel (channel id : Nat)
  | pairSwap
  | pairHold (value : Nat)
  | maintStart (code duration target : Nat) (receives : Bool)
  | maintStop (id : Nat)
  | releaseHeld
  | imageBegin (length : Nat)
  | imageWrite (offset : Nat) (bytes : List Byte)
  | imageEnd (facts : CopyFacts)
  | mgmtReset (force : Nat)
  | precisionRun (slot : Nat)
  | setDeviceCert (part last : Nat) (bytes : List Nat) (facts : ChainFacts)
  | getReleaseNonce
  | ownerRelease (rootHash : Nat) (sigOk : Bool) (nonce : Nat)
  | setFieldbus (cfg : Fieldbus) (count : Nat)
  | ownerEnrol (facts : EnrolFacts)
  deriving DecidableEq, Repr

/-- A request. -/
structure Request where
  hdr : ReqHdr
  body : ReqBody
  deriving DecidableEq, Repr

/-- What IMAGE_BEGIN finds (R112, R602): the length that it names, and whether the key answers, also after a loss. -/
structure UpdateStart where
  length : Nat
  keyAnswers : Bool := true
  deriving DecidableEq, Repr

/-- Where a fieldbus write is answered: connection, function and echo of Modbus, or BACnet (R606, R610). -/
inductive FieldReply where
  | modbus (conn function : Nat) (echo : List Nat)
  | bacnet
  deriving DecidableEq, Repr

/-- What waits for its arrival frame (R583): a request, or the points of a fieldbus write that are not judged yet, as
holding register and counts. -/
inductive Arrival where
  | request (q : Request)
  | points (reply : FieldReply) (l : List (Nat × Int))
  deriving DecidableEq, Repr

/-- A WRITE that waits for the next boundary: session, MSG_ID, address, data (R589). -/
structure SharedWrite where
  session : Nat
  msgId : Nat
  address : Nat
  data : List Nat
  /-- Bytes of it that are ignored (R589). -/
  ignored : Nat
  /-- It arrived after the Guard phase of its frame had begun. -/
  late : Bool := false
  deriving DecidableEq, Repr

/-- Management (R579 to R612). Fieldbus settings are kept in MRAM. -/
structure Mgmt where
  ports : List EthPort := [{}, {}]
  sessions : List Session := List.replicate 8 {}
  counters : List Nat := List.replicate 5 0
  fieldbus : Fieldbus := {}
  /-- R606: open connections, each with the row time (ns) of its last message. -/
  modbus : List (Option Nat) := List.replicate 4 none
  update : Option ImageUpdate := none
  /-- Requests accepted in the frame, committed in its Guard phase (R42), and waiting for their arrival frame (R583). -/
  accepted : List Request := []
  committed : List Request := []
  waiting : List Arrival := []
  /-- Requests checked in the frame; its Guard phase has begun. -/
  taken : Nat := 0
  guardDone : Bool := false
  writes : List SharedWrite := []
  /-- R603: frame at whose end a management reset is performed. -/
  resetAt : Option Nat := none
  deriving DecidableEq, Repr

end Sys2Proof
end

