-- ==== Sys2Proof/Machine/Parts/Control.lean ====
section
/-! DEFINITION. The control loops and the trace probes (R289 to R316). -/

namespace Sys2Proof

/-- Loop states (R305). -/
inductive LoopState where
  | off | idle | run | frozen
  deriving DecidableEq, Repr

/-- A control loop (R293 to R307, R315). -/
structure CtlLoop where
  state : LoopState := .off
  /-- R315: bit 0 input missing; 1 actuator unavailable; 2 rack loop isolated; 3 target not running. -/
  cause : Nat := 0
  target : Int := 0
  /-- R297: profile position, velocity and acceleration with 32 fraction bits. -/
  x : Int := 0
  v : Int := 0
  a : Int := 0
  r : Int := 0
  y : Int := 0
  e : Int := 0
  uff : Int := 0
  up : Int := 0
  ui : Int := 0
  ud : Int := 0
  usum : Int := 0
  u : Int := 0
  dstate : Int := 0
  ifine : Int := 0
  uSat : Int := 0
  yPrev : Int := 0
  iClamped : Bool := false
  /-- R307: the present actuator value that the first execution starts from. -/
  start : Option Int := none
  clean : Nat := 0
  executions : Nat := 0
  satExec : Nat := 0
  freezes : Nat := 0
  lastExec : Nat := 0
  deriving DecidableEq, Repr

/-- Probe states (R313). -/
inductive ProbeState where
  | idle | armed | post | done
  deriving DecidableEq, Repr

/-- A trace probe (R310 to R316). -/
structure Probe where
  state : ProbeState := .idle
  srcKind : Nat := 0
  srcIndex : Nat := 0
  decimM1 : Nat := 0
  trigKind : Nat := 0
  trigDir : Nat := 0
  trigProbe : Nat := 0
  trigLevel : Int := 0
  eventCode : Nat := 0
  eventMask : Nat := 0
  preSamples : Nat := 0
  lost : Bool := false
  triggered : Bool := false
  preTaken : Nat := 0
  trigFrame : Nat := 0
  /-- Samples, newest first, at most 65,536. -/
  samples : List Int := []
  captures : Nat := 0
  ovrSamples : Nat := 0
  lastFrame : Nat := 0
  /-- Frames to the next stored sample. -/
  count : Nat := 0
  /-- The source's value in the frame before. -/
  last : Option Int := none
  deriving DecidableEq, Repr

/-- The control engine (R289 to R317). -/
structure Control where
  loops : List CtlLoop := List.replicate 512 {}
  probes : List Probe := List.replicate 32 {}
  /-- R296: target changes for the next boundary, in the order in which they apply: schedule entries, requests. -/
  fromSchedule : List (Nat × Int) := []
  fromRequest : List (Nat × Int) := []
  /-- R293: outputs of outer loops, targets of their inner loops from the next frame. -/
  cascade : List (Nat × Int) := []
  deriving DecidableEq, Repr

end Sys2Proof
end

