-- ==== Sys2Proof/Machine/Parts/Heat.lean ====
section
/-! DEFINITION. Heat pages, their sites, loops and tenants (R145 to R177). -/

namespace Sys2Proof

/-- STATE of a page (R146). -/
inductive PageState where
  | free | held | draining | retired
  deriving DecidableEq, Repr

/-- A heat page (R146, R175). -/
structure Page where
  state : PageState := .retired
  surge : Bool := false
  cover : Bool := false
  /-- R166: a cover page that has become a page of its site's tenant. -/
  converted : Bool := false
  pending : Bool := false
  site : Nat := 0
  nextSite : Nat := 0
  /-- R165: the promise is for cover. -/
  nextCover : Bool := false
  pgen : Nat := 0
  /-- Order of grants ("newest grant first"). -/
  grant : Nat := 0
  /-- Order of drains (R160: oldest first). -/
  drain : Nat := 0
  deriving DecidableEq, Repr

/-- The page part of a site (R151, R158, R176). -/
structure SitePages where
  tenant : Option Nat := none
  tgen : Nat := 0
  covered : Bool := false
  /-- R165: rank-5 faults still to be resolved. -/
  coverNeed : Nat := 0
  coverAge : Nat := 0
  coverDenied : Bool := false
  /-- R166: the return after 200 frames of silence has been done. -/
  coverTrimmed : Bool := false
  /-- A fault is pending, its age in frames, and whether it has been denied once. -/
  fault : Bool := false
  faultAge : Nat := 0
  faultDenied : Bool := false
  /-- R158: consecutive frames in which the conditions have held. -/
  raiseRun : Nat := 0
  /-- Last denial (R176): 0 none; 1 NO_PAGE; 2 QUOTA; 3 LIMIT; 4 HOLD. -/
  deny : Nat := 0
  /-- f, P, T and C of R151. -/
  floor : Nat := 0
  pageCap : Nat := 0
  target : Nat := 0
  cap : Nat := 0
  /-- R161: frames in the idle window and its least headroom. -/
  idleFrames : Nat := 0
  idleMin : Int := 0
  ember : Bool := false
  deriving DecidableEq, Repr

/-- A loop's pages (R149, R164, R174). -/
structure LoopPages where
  /-- The size in force (R149). -/
  poolForce : Nat := 0
  poolPlan : Nat := 0
  growCount : Nat := 0
  /-- The planned sizes of the epochs counted toward growth. -/
  growSeen : List Nat := []
  surgePool : Nat := 0
  isolated : Bool := false
  /-- R163: the allocator has carried out the isolation in force. -/
  revoked : Bool := false
  overcommit : Bool := false
  clipped : Bool := false
  clipK : Nat := 65536
  floorSum : Nat := 0
  /-- The part of `floorSum` that Ember grants raise (R206). -/
  emberSum : Nat := 0
  pageCapSum : Nat := 0
  capSum : Nat := 0
  deriving DecidableEq, Repr

/-- STATE of a tenant slot (R169). -/
inductive TenantState where
  | disabled | active | quarantine | released
  deriving DecidableEq, Repr

/-- A tenant slot (R155, R156, R169, R174). State, generation and record are kept in MRAM. -/
structure TenantSt where
  state : TenantState := .disabled
  gen : Nat := 0
  minIn : Nat := 0
  maxIn : Nat := 0
  /-- R169: frame in which the quarantine began. -/
  quarFrame : Nat := 0
  /-- R156: recorded quota with the image DIGEST it was accepted under. -/
  record : Option (Nat × Nat × Nat) := none
  faults : Nat := 0
  /-- Heat faults of its sites granted, for the telemetry block (R542). -/
  granted : Nat := 0
  denied : Nat := 0
  reclaimed : Nat := 0
  stale : Nat := 0
  /-- R322: split order and minimum shares. -/
  splitOrder : Nat := 0
  minCompute : Nat := 32
  minMemory : Nat := 48
  minLinks : Nat := 16
  deriving DecidableEq, Repr

/-- Page work that a request committed at a boundary leaves for step 1 of the allocator's slice (R161, R171). -/
inductive PageWork where
  /-- The named pages of a site leave. -/
  | release (pages : List Nat)
  /-- All ordinary and surge pages of a site leave, promises to it are cancelled. -/
  | vacate (site : Nat)
  deriving DecidableEq, Repr

/-- A limit request that a plan epoch boundary takes (R600): the frame of the boundary; none for the row, or a rack loop. -/
structure LimitReq where
  due : Nat := 0
  loop : Option Nat := none
  limit : Nat := 0
  deriving DecidableEq, Repr

/-- The heat pages (R145 to R177). -/
structure Heat where
  pages : List Page := List.replicate 32768 {}
  sites : List SitePages := List.replicate 2048 {}
  loops : List LoopPages := List.replicate 24 {}
  tenants : List TenantSt := List.replicate 256 {}
  /-- Limits in force (R152, R600). -/
  rackLimit : List Nat := List.replicate 24 0
  rowLimit : Nat := 0
  /-- R600: limit requests that wait for a plan epoch boundary, in order of arrival. -/
  limitRequests : List LimitReq := []
  /-- R149, R164: the plan's pools and surge pools wait for the allocator slice of this epoch's first frame. -/
  boundaryDue : Bool := false
  work : List PageWork := []
  /-- Order of grants and drains. -/
  clock : Nat := 0
  counters : List Nat := List.replicate 16 0
  deriving DecidableEq, Repr

end Sys2Proof
end

