-- ==== Sys2Proof/Machine/Parts/Log.lean ====
section
/-! DEFINITION. Event records, the log, the last-words buffer (R557 to R565) and maintenance (R566 to R577). -/

namespace Sys2Proof

/-- The not-valid frame stamp (R557). -/
def noFrame : Nat := 0xFFFFFFFFFFFF

/-- An event record (R557). -/
structure Event where
  code : Nat
  announced : Bool := false
  lastWords : Bool := false
  inReserve : Bool := false
  stampLag : Bool := false
  seq : Nat := 0
  frame : Nat := noFrame
  rowNs : Nat := 0
  epoch : Nat := 0
  boot : Nat := 0
  index : Nat := 0xFFFF
  sub : Nat := 0xFFFF
  /-- Leading bytes of the 24-byte detail; the rest is 0. -/
  detail : List Nat := []
  deriving DecidableEq, Repr

/-- LOG_STATE (R563). -/
inductive LogState where
  | opening | isOpen | degraded | lastWordsOnly
  deriving DecidableEq, Repr

/-- A condition logged once per run: its event, its element, and the last frame in which it was seen. -/
structure RunMark where
  code : Nat
  index : Nat
  frame : Nat
  deriving DecidableEq, Repr

/-- The event log (R559 to R565). Record lists are newest first, the queue oldest first. -/
structure Log where
  state : LogState := .opening
  faultMedia : Bool := false
  queue : List Event := []
  queueMax : Nat := 0
  dropped : Nat := 0
  /-- R559: dropped since the last event 0xF003. -/
  droppedRun : Nat := 0
  /-- R559: records that the writer has taken in this frame. -/
  taken : Nat := 0
  nextSeq : Nat := 0
  ring : List Event := []
  reserve : List Event := []
  lastWords : List Event := []
  /-- R557: start count, MRAM. -/
  boot : Nat := 0
  classCount : List Nat := List.replicate 16 0
  /-- R561, R476: the announced record in transmit object 1,009 and its frame. -/
  announce : Option (Event × Nat) := none
  /-- R312: codes posted in the frame before, and in this frame. -/
  codesPrev : List Nat := []
  codesNow : List Nat := []
  /-- Conditions whose event is logged once until they have been absent for 1 s, or once in a given time. -/
  runs : List RunMark := []
  deriving DecidableEq, Repr

/-- State of an activity entry (R577); `starting` is an accepted start before its boundary (R571). -/
inductive ActState where
  | free | starting | running | complete | pass | fail | stopped | aborted
  deriving DecidableEq, Repr

/-- Where a valve stroke test stands (R567, R568). -/
inductive Stroke where
  | none | toFloor | supplyClosing | supplyOpening | returnDue | returnClosing | returnOpening
  deriving DecidableEq, Repr

/-- An activity entry (R573, R577). -/
structure Activity where
  state : ActState := .free
  code : Nat := 0
  result : Nat := 0
  window : Nat := 0xFF
  id : Nat := 0
  target : Nat := 0
  durationS : Nat := 0
  startFrame : Nat := 0
  endFrame : Nat := 0
  cause : Nat := 0
  detail : List Nat := []
  stroke : Stroke := .none
  /-- Frame of the last step of a stroke or self-test. -/
  stepFrame : Nat := 0
  /-- R567: mean flow in the second before a stroke test; P_SUPPLY plus P_RETURN of the last second of a drain or
  fill, newest first. -/
  flowMean : Int := 0
  samples : List Int := []
  deriving DecidableEq, Repr

/-- A maintenance window (R574). -/
structure MaintWindow where
  isOpen : Bool := false
  canMask : Nat := 0
  openFrame : Nat := 0
  deriving DecidableEq, Repr

/-- Maintenance (R566 to R577). -/
structure Maint where
  activities : List Activity := List.replicate 4 {}
  /-- R573: activities that have ended; their commands drop at the next boundary. -/
  dropping : List Activity := []
  nextId : Nat := 1
  windows : List MaintWindow := List.replicate 8 {}
  counters : List Nat := List.replicate 8 0
  /-- Supply flow of each loop over the last second, newest first (R567). -/
  flows : List (List Int) := List.replicate 24 []
  deriving DecidableEq, Repr

end Sys2Proof
end

