-- ==== Sys2Proof/Machine/Parts/Plan.lean ====
section
/-! DEFINITION. The row plan and the row mode (R29 to R36, R178 to R213). -/

namespace Sys2Proof

/-- The row modes (R29). -/
inductive RowMode where
  | fast | steady | feast
  deriving DecidableEq, Repr

/-- Plan states (R196). -/
inductive PlanState where
  | wait | surrogate | held | fallback | stopped
  deriving DecidableEq, Repr

/-- What a plan says of one loop (R193, R197, R199 to R206, R211). -/
structure LoopPlan where
  excluded : Bool := false
  capLow : Int := 0
  capCenter : Int := 0
  outletHi : Option Int := none
  supplySp : Int := 0
  flowSp : Nat := 0
  pool : Nat := 0
  /-- Surge ceiling, h_l and fresh credit (R200). -/
  ceil : Nat := 0
  surgeSteps : Nat := 0
  fresh : Nat := 0
  /-- Surge pool of a held plan (R197). -/
  surgePool : Nat := 0
  rack : Nat := 0
  floorPlan : Nat := 0
  ocApplied : Bool := false
  floorEff : Option Int := none
  emberSupply : Bool := false
  emberSites : List Nat := []
  deriving DecidableEq, Repr

/-- One penalty term w max(0, a u - b) of the solver's problem (R189, R190, R266); a as variable and coefficient. -/
structure QpRow where
  a : List (Nat × BitVec 32) := []
  b : BitVec 32 := 0
  w : BitVec 32 := 0
  deriving DecidableEq, Repr

/-- The problem of QP_STEP (R266) in binary32: the diagonal of H, g, the box and the penalty terms. -/
structure Qp where
  h : List (BitVec 32) := []
  g : List (BitVec 32) := []
  lo : List (BitVec 32) := []
  hi : List (BitVec 32) := []
  rows : List QpRow := []
  deriving DecidableEq, Repr

/-- The solver's run in one epoch (R195, R266): problem, step size, primal and dual iterates, iterations done, the norm of
the projected gradient at iteration 0 and now, and the first iteration at which it had converged. -/
structure Solver where
  qp : Qp := {}
  tau : BitVec 32 := 0
  u : List (BitVec 32) := []
  lam : List (BitVec 32) := []
  iter : Nat := 0
  norm0 : BitVec 32 := 0
  norm : BitVec 32 := 0
  converged : Option Nat := none
  deriving DecidableEq, Repr

/-- Where a plan came from (R196). -/
inductive PlanKind where
  | surrogate | held | fallback
  deriving DecidableEq, Repr

/-- A plan as committed (R193 to R199, R210 to R212). -/
structure PlanValues where
  kind : PlanKind := .surrogate
  epoch : Nat := 0
  /-- Mode it was computed for (R207). -/
  mode : RowMode := .steady
  /-- Decision variables in the order of R185, block by block. -/
  vars : List Int := []
  rowSupply : List Int := []
  pump : List Nat := []
  fans : List (List Nat) := []
  spray : List Nat := []
  margin : List (Option Int) := []
  loops : List LoopPlan := []
  waterAllow : Nat := 0
  waterPlanned : Nat := 0
  deriving DecidableEq, Repr

/-- The running part of a loop in the plan (R198, R201 to R206). -/
structure LoopRun where
  /-- S64 count of 6.25 uJ. -/
  credit : Int := 0
  fresh : Nat := 0
  armed : Bool := false
  /-- R202: the credit ran out, and the debit goes on until the next plan replaces it. -/
  exhausted : Bool := false
  /-- Ember grants in force, by site. -/
  ember : List Nat := []
  cold : List Nat := []
  /-- Highest die temperature of each of the last 60 s, newest first. -/
  hot : List (Option Int) := []
  /-- R198: least flow and highest supply temperature of the epoch in progress and of the last; missing. -/
  flowMin : Option Nat := none
  supplyMax : Option Int := none
  sampleMissing : Bool := false
  lastFlow : Option Nat := none
  lastSupply : Option Int := none
  lastMissing : Bool := true
  emberRun : Bool := false
  deriving DecidableEq, Repr

/-- What the snapshot latches for one loop (R181). -/
structure LoopSnap where
  excluded : Bool := true
  floorSum : Nat := 0
  /-- The part of `floorSum` that Ember grants in force then had raised (R192, R206). -/
  emberSum : Nat := 0
  capSum : Nat := 0
  pageCapSum : Nat := 0
  overcommit : Bool := false
  nonFree : Nat := 0
  surgeHeld : Nat := 0
  guaranteed : Nat := 0
  rack : Nat := 0
  supply : Option Int := none
  returnTemp : Option Int := none
  deriving DecidableEq, Repr

/-- A decision variable of one move block (R185). -/
inductive PlanVar where
  | rowSupply
  | offset (loop : Nat)
  | flow (loop : Nat)
  | pump
  | fan (group : Nat)
  | spray
  deriving DecidableEq, Repr

/-- The snapshot of frame 100e and what the epoch has computed from it (R179 to R195). -/
structure Snapshot where
  frame : Nat := 0
  mode : RowMode := .steady
  loops : List LoopSnap := []
  waterLeft : Nat := 0
  timeLeft : Nat := 86400
  sprayRate : Nat := 0
  /-- R186: frame at which the running overspeed episode reaches 120 s; frame at which the rest ends. -/
  episodeEnd : Option Nat := none
  restEnd : Option Nat := none
  /-- Pumps and fans available: in RUN (R181, R397). -/
  pumpsRun : List Bool := []
  fansRun : List Bool := []
  /-- Owner graph ports at the snapshot (R183, R270). -/
  capScale : List Nat := []
  pumpMax : List (Option Nat) := []
  sprayBan : Bool := false
  /-- R198: 5 whole epochs of samples preceded the snapshot. -/
  fbReady : Bool := false
  /-- R180: a core stage did not complete in its frame. -/
  lost : Bool := false
  /-- R182: an input lay outside its declared bound. -/
  outOfDomain : Bool := false
  /-- T_row of a dry-cooler row (R185). -/
  tRow : Int := 0
  lineVars : List Int := []
  /-- Desired supplies, raised lower edges of the offsets, and FLOOR_EFF (R204, R205). -/
  desired : List (Option Int) := []
  raised : List Int := []
  floorEff : List (Option Int) := []
  /-- The solver's run (R195). -/
  solver : Option Solver := none
  solution : Option (List Int) := none
  /-- R191 check 6: an element of the solver's result is not a number. -/
  solverBad : Bool := false
  converged : Option Nat := none
  residual : Nat := 0
  /-- Derivation 1 (R193). -/
  derived : Option (List LoopPlan) := none
  margin : List (Option Int) := []
  /-- Derivation 2: the reason found, 0 feasible, and the plan. -/
  result : Option (Nat × PlanValues) := none
  deriving DecidableEq, Repr

/-- The mode requests that one plan epoch boundary takes: the last one, and the last of Fast or Steady (R30, R36). -/
structure ModeReq where
  /-- Frame of the boundary. -/
  due : Nat := 0
  mode : RowMode := .steady
  low : Option RowMode := none
  deriving DecidableEq, Repr

/-- The row plan (R178 to R213). -/
structure Plan where
  mode : RowMode := .steady
  /-- R30, R36: the requests that wait for a plan epoch boundary, earliest boundary first. -/
  requests : List ModeReq := []
  /-- The first plan epoch under plant control has set the start mode (R29). -/
  started : Bool := false
  /-- R36: a takeover from a checkpoint made in Feast asks for a lowering. -/
  lowerDue : Bool := false
  /-- R32: runs of counted 1.25 GHz operation in the last 600 s, newest first, as first frame and length; whether the count
  runs; whether the clock fell at its limit. -/
  clockUse : List (Nat × Nat) := []
  clockCounts : Bool := false
  clockLimited : Bool := false
  state : PlanState := .wait
  infeasibleRun : Nat := 0
  returnRun : Nat := 0
  feasible : Bool := false
  converged : Bool := false
  iterations : Nat := 200
  residual : Nat := 0
  sprayUnlocked : Bool := false
  unlockEpoch : Nat := 0
  zeroRun : Nat := 0
  unlockDue : Bool := false
  reason : Nat := 0
  /-- R198: whole epochs of samples. -/
  sampleEpochs : Nat := 0
  /-- Frame in which the samples of the epoch in progress began. -/
  sampleStart : Nat := 0
  epoch : Nat := 0
  snap : Option Snapshot := none
  shadow : Option PlanValues := none
  inForce : Option PlanValues := none
  loops : List LoopRun := List.replicate 24 {}
  lastRowSupply : Option Int := none
  /-- Frame of the last plan epoch boundary. -/
  lastBoundary : Option Nat := none
  counters : List Nat := List.replicate 8 0
  deriving DecidableEq, Repr

end Sys2Proof
end

