-- ==== Sys2Proof/Machine/Parts/Pumps.lean ====
section
/-! DEFINITION. Pumps, fans, zones, spray and water (R381 to R408). -/

namespace Sys2Proof

/-- Element states (R397). -/
inductive ElemState where
  | absent | run | retry | failed | unavailable
  deriving DecidableEq, Repr

/-- A pump (R31, R34, R381 to R397, R407). -/
structure PumpSt where
  state : ElemState := .absent
  analog : Bool := false
  runOut : Bool := false
  faultIn : Bool := false
  /-- R396: frame since which the fault input has been asserted. -/
  faultSince : Option Nat := none
  /-- R34: frame in which the overspeed episode began; frame at which the rest ends. -/
  episode : Option Nat := none
  restEnd : Option Nat := none
  retries : Nat := 0
  target : Nat := 0
  /-- R392: speed state in 2^-16 of 0.01 %. -/
  speed : Nat := 0
  speedCmd : Nat := 0
  speedAct : Nat := 0
  running : Bool := false
  limit : Nat := 10000
  faultCode : Nat := 0
  stalls : Nat := 0
  statusCount : Nat := 0
  lastStatus : Option Nat := none
  /-- R385: frames of the valid statuses that stand in consecutive basic cycles. -/
  cycleRun : Nat := 0
  lastCycle : Nat := 0
  /-- R382: the count of the next command. -/
  cmdCount : Nat := 0
  /-- R396: detection is suppressed before this frame. -/
  suppress : Nat := 0
  /-- R397: frame of the entry to RETRY, and of the last stall or restart. -/
  retrySince : Nat := 0
  stallFrame : Nat := 0
  /-- R396: frame since which the command has stood at or above MIN_SPEED, the least command since, and whether a
  status has reported at least half of it. -/
  cmdSince : Option Nat := none
  cmdHist : List (Nat × Nat) := []
  actHist : List (Nat × Nat) := []
  /-- R397: it entered UNAVAILABLE from RUN, so its command runs on. -/
  keepsRunning : Bool := false
  /-- R398: it set the group's full-speed command; frame from which 60 s count. -/
  fullSince : Option Nat := none
  /-- R567: a pump rotation holds it. -/
  rotated : Bool := false
  deriving DecidableEq, Repr

/-- A fan (R386, R392, R396, R397, R407). -/
structure FanSt where
  state : ElemState := .absent
  retries : Nat := 0
  target : Nat := 0
  speed : Nat := 0
  speedCmd : Nat := 0
  rpm : Nat := 0
  duty : Nat := 0
  stalls : Nat := 0
  suppress : Nat := 0
  retrySince : Nat := 0
  stallFrame : Nat := 0
  lowSince : Option Nat := none
  fullSince : Option Nat := none
  deriving DecidableEq, Repr

/-- A speed group (R389, R398, R408). -/
structure GroupSt where
  zoneDemand : Nat := 0
  planDemand : Nat := 0
  loopDemand : Nat := 0
  hottest : Nat := 0
  deriving DecidableEq, Repr

/-- A zone (R387, R388, R408). -/
structure ZoneSt where
  temp : Option Int := none
  demand : Nat := 0
  missing : Nat := 0
  deriving DecidableEq, Repr

/-- A spray valve: channel v below 48, CAN spray valve v - 48 from 48 (R400 to R402, R408). -/
structure SprayValve where
  inService : Bool := false
  open_ : Bool := false
  rate : Nat := 0
  /-- CAN: largest valid rate since READY. -/
  bestRate : Option Nat := none
  /-- 1/60,000 mL; MRAM. -/
  account : Nat := 0
  openFrames : Nat := 0
  /-- Planned opening of the cycle in progress: first frame and end. -/
  from_ : Nat := 0
  until_ : Nat := 0
  deriving DecidableEq, Repr

/-- Pumps, fans and heat rejection (R381 to R409). -/
structure Pumps where
  pumps : List PumpSt := List.replicate 4 {}
  fans : List FanSt := List.replicate 24 {}
  groups : List GroupSt := List.replicate 4 {}
  zones : List ZoneSt := List.replicate 16 {}
  spray : List SprayValve := List.replicate 64 {}
  vigil : Bool := false
  /-- R395: frames since the last plan commit took effect; consecutive commits while Vigil holds. -/
  planAge : Nat := 0
  commitRun : Nat := 0
  sprayInhibit : Bool := false
  budgetSpent : Bool := false
  /-- R401. -/
  acc : Nat := 0
  /-- R402, R403: day's account and total in 1/60,000 mL; MRAM. -/
  today : Nat := 0
  total : Nat := 0
  day : Nat := 0
  dayStored : Bool := false
  wallDay : Bool := false
  /-- R403: seconds left, held while wall time is not valid, and the row time (ns) it was taken at. -/
  tRem : Nat := 86400
  tRemAt : Nat := 0
  /-- R398: frames of the start of plant control, a takeover, a return to NORMAL, the plan's leaving FALLBACK, the
  release of a leak isolation. -/
  controlFrame : Option Nat := none
  takeoverFrame : Option Nat := none
  normalFrame : Option Nat := none
  leftFallback : Option Nat := none
  releaseFrame : Option Nat := none
  fullSpeed : List Bool := List.replicate 4 false
  counters : List Nat := List.replicate 8 0
  deriving DecidableEq, Repr

end Sys2Proof
end

