-- ==== Sys2Proof/Machine/Parts/Pair.lean ====
section
/-! DEFINITION. The redundant pair: claim bus, roles, checkpoints and handover (R495 to R526). -/

namespace Sys2Proof

/-- Roles (R503, R524). -/
inductive Role where
  | none | standby | primed | taking | control | handing
  deriving DecidableEq, Repr

/-- What a claim round finds on the bus besides the unit's own bits: the claim that the other unit places, if any, and
which wires are open between the slots (R498, R499). -/
structure RoundFacts where
  partner : Option Nat := none
  openA : Bool := false
  openB : Bool := false
  /-- The wire has read recessive since it was found stuck. -/
  freeA : Bool := false
  freeB : Bool := false
  deriving DecidableEq, Repr

/-- The result of a round for this unit (R499). -/
structure RoundResult where
  win : Bool
  /-- A valid holder claim of the other unit. -/
  partnerWins : Bool
  partner : Nat
  fault : Bool
  deriving DecidableEq, Repr

/-- The tests that a standby runs on itself (R506): the drive test of a stage into an internal load, the sense test of a valve
channel with the bank high side off, and the check that a gated stage reads high impedance. -/
inductive SelfTest where
  | drive | sense | release
  deriving DecidableEq, Repr

/-- A HEALTH message (R507). -/
structure HealthMsg where
  grade : Nat := 0
  penalties : Nat := 0
  role : Nat := 0
  term : Nat := 0
  ckptSeq : Nat := 0
  digest : Nat := 0
  fwMajor : Nat := 0
  fwMinor : Nat := 0
  fwPatch : Nat := 0
  strap : Nat := 0
  pairHold : Bool := false
  ckptValid : Bool := false
  deriving DecidableEq, Repr

/-- A MARK (R509); the isolated mask has bit l for loop l. -/
structure MarkMsg where
  frame : Nat := 0
  holder : Bool := false
  term : Nat := 0
  isolated : Nat := 0
  emergency : Bool := false
  deriving DecidableEq, Repr

/-- A snapshot (R511). -/
structure Checkpoint where
  term : Nat := 0
  seq : Nat := 0
  frame : Nat := 0
  rowNs : Nat := 0
  digest : Nat := 0
  fwMajor : Nat := 3
  fwMinor : Nat := 0
  mode : RowMode := .steady
  final : Bool := false
  pages : List Page := []
  loops : List LoopPages := []
  tenants : List TenantSt := []
  /-- LAST_NONCE of each tenant, kept with its state (R155, R538, R551). -/
  nonces : List Nat := []
  sites : List SitePages := []
  caps : List SiteCaps := []
  classes : List ClassModel := []
  paces : List TenantPace := []
  unbound : Nat := 0
  ctl : List CtlLoop := []
  planInForce : Option PlanValues := none
  planLoops : List LoopRun := []
  leak : List LoopLeak := []
  emergency : Bool := false
  rowSensor : Bool := false
  manyLoops : Bool := false
  manyFrame : Nat := 0
  stopRequest : Bool := false
  pump : Pumps := {}
  /-- Valve channels in HOLD (R521). -/
  hold : List Nat := []
  table : List SchedEntry := []
  history : List SchedHist := []
  windows : List MaintWindow := []
  inactive : List (List Nat) := []
  deriving DecidableEq, Repr

/-- Byte i of a snapshot's sections, whose places and sizes R511 gives and whose fields' layout it does not (DESIGN CHOICE, log
entry 191). -/
opaque Config.checkpointByte : Checkpoint → Nat → Nat

/-- SHA-384 over all sections of a snapshot (R511), left uninterpreted (DESIGN CHOICE, log entry 74). -/
opaque Config.checkpointHash : Checkpoint → Nat

/-- Who raised a swap request (R518). -/
inductive SwapSource where
  | takeback | grade | request
  deriving DecidableEq, Repr

/-- The pair (R495 to R525). The term is kept in MRAM. -/
structure PairSt where
  role : Role := .none
  term : Nat := 0
  termSeen : Nat := 0
  /-- R500: the claim value last written, rounds since, and withheld for want of refreshing. -/
  claim : Nat := 0
  claimAge : Nat := 2
  withheld : Bool := false
  conflict : Bool := false
  /-- The unit won its last round; frame of the last round won; stages enabled. -/
  won : Bool := false
  wonFrame : Option Nat := none
  stages : Bool := false
  /-- The first frame of control of the present tenure has passed. -/
  inControl : Bool := false
  stuckA : Bool := false
  stuckB : Bool := false
  wireFault : Bool := false
  busVeto : Bool := false
  winClaim : Nat := 0
  partnerClaim : Nat := 0
  /-- Last frames of a valid holder claim, of a MARK with HOLDER 1, and in which the unit withheld its claim or stood
  outside STANDBY. -/
  holderClaim : Option Nat := none
  holderMark : Option Nat := none
  idleSince : Nat := 0
  grade : Nat := 0
  penalties : Nat := 0
  partner : HealthMsg := {}
  partnerSeen : Bool := false
  healthFrame : Option Nat := none
  lastHealthSent : Nat := 0
  delta : Int := 0
  mark : MarkMsg := {}
  pairHold : Bool := false
  /-- R511: the double buffer, and the sequence of the last snapshot sent or held. -/
  snap : Option Checkpoint := none
  /-- R511: CKPT packets of `snap` that have been sent. -/
  streamed : Nat := 0
  ckpt : Option Checkpoint := none
  ckptSeq : Nat := 0
  ckptFrame : Nat := 0
  ckptAt : Option Nat := none
  ckptValid : Bool := false
  finalCkpt : Option Checkpoint := none
  /-- R375: this tenure of control follows that of the other unit, whose echoes may still arrive. -/
  succeeded : Bool := false
  /-- A checkpoint has been loaded for the next start of control; its channels in HOLD (R521). -/
  restored : Bool := false
  takeover : Bool := false
  holdChannels : List Nat := []
  cold : Bool := false
  swap : Option SwapSource := none
  /-- R518: an automatic request is not raised before this frame. -/
  retryAt : Nat := 0
  gradeLow : Option Nat := none
  healthySince : Option Nat := none
  /-- R520: boundary B, and PRIMED has arrived. -/
  boundary : Option Nat := none
  primed : Bool := false
  takeFrame : Nat := 0
  /-- R506: frames of the last drive test of each stage (domains 97 to 117) and sense test of each valve channel. -/
  driveTest : List (Nat × Nat) := []
  senseTest : List (Nat × Nat) := []
  counters : List Nat := List.replicate 8 0
  deriving DecidableEq, Repr

end Sys2Proof
end

