-- ==== Sys2Proof/Machine/Parts/Power.lean ====
section
/-! DEFINITION. Start-up, rails, power domains, calibration, the dead-man and the resets (R113 to R144), and the
supplies and thermal part of R613 to R636. -/

namespace Sys2Proof

/-- The start-up state (R137); `dead` is the state in which the core does not run. -/
inductive StartState where
  | powerUp | limp | noImage | arming | standby | control | held | dead
  deriving DecidableEq, Repr

/-- State of a rail (R143). -/
inductive RailState where
  | off | ready | failed | lost
  deriving DecidableEq, Repr

/-- A rail entry (R117, R143). -/
structure Rail where
  state : RailState := .off
  /-- R118: the rail's group has been enabled. -/
  enabled : Bool := false
  voltageMv : Nat := 0
  readyUs : Nat := 0
  lossCount : Nat := 0
  deriving DecidableEq, Repr

/-- State of a switched domain (R143). -/
inductive DomState where
  | off | on | failed | cycling
  deriving DecidableEq, Repr

/-- A switched power domain (R121 to R124, R143). -/
structure Domain where
  state : DomState := .off
  selected : Bool := false
  failReason : Nat := 0
  cycles : Nat := 0
  lastChange : Nat := 0
  /-- R124: frames of the failed cycles of the last 600 s. -/
  failedCycles : List Nat := []
  deriving DecidableEq, Repr

/-- Calibration results of a group's converter (R125): deviations in ppm, of full scale for the offset. -/
structure AdcCal where
  adcOffset : Int := 0
  adcGain : Int := 0
  deriving DecidableEq, Repr

/-- Calibration results of a group's sources (R125): deviations in ppm. -/
structure SourceCal where
  rtd : Int := 0
  current : Int := 0
  rope : Int := 0
  deriving DecidableEq, Repr

/-- Calibration results of a front-end group (R125, R126). -/
structure AfeCal extends AdcCal, SourceCal where
  deriving DecidableEq, Repr

/-- A firmware copy of the boot flash (R1, R115): its release, the digest of its content, and whether it verifies against
the fused vendor root key hash. -/
structure FwCopy where
  major : Nat := 3
  minor : Nat := 0
  patch : Nat := 0
  digest : Nat := 0
  verifies : Bool := true
  deriving DecidableEq, Repr

/-- What a start-up finds outside the registers (R114 to R128, R620): the sender's observation of the crystal, the
regulators, the boot flash, the sockets, the calibration and memory items and the random number of the start. A rail
whose report is `none` reports later, by RAIL_READY or RAIL_READY_TIMEOUT. -/
structure StartFacts where
  crystalOk : Bool := true
  /-- Per rail 0 to 7: none reports later; some none is not ready in 50 ms; some (some t) is ready after t x 10 us. -/
  rails : List (Option (Option Nat)) := List.replicate 8 (some (some 100))
  alwaysOnOk : Bool := true
  fuseOk : Bool := true
  /-- The ROM self-check and the known-answer tests (R114, R530). -/
  romOk : Bool := true
  firmware : List FwCopy := [{}, {}]
  straps : Nat := 31
  backplane : KeyDevice := {}
  front : KeyDevice := {}
  afe : List AfeCal := List.replicate 8 {}
  /-- Deviation of the current sense of each valve channel, ppm; lock time of each port and of the pair port, us (R125). -/
  valveSense : List Int := List.replicate 48 0
  serdesLock : List Nat := List.replicate 65 0
  bankGroupFail : List Bool := List.replicate 16 false
  /-- R127: 0 trained at once; 1 trained at the retry; 2 or more failed. -/
  ddrFailures : Nat := 0
  /-- R128: graph loads whose payload hash differed, before one that passes. -/
  hashMismatches : Nat := 0
  ringOk : Bool := true
  stepMs : List Nat := List.replicate 10 0
  deriving DecidableEq, Repr

/-- The start-up record, the rails and domains and the always-on circuits (R113 to R143). -/
structure Power where
  powerGood : Bool := false
  state : StartState := .powerUp
  ready : Bool := false
  /-- R142: 1 while the module drives the output stages. -/
  plantControl : Bool := false
  lastStep : Nat := 0
  failStep : Nat := 0
  /-- 0 power-on; 1 warm; 2 warm by watchdog. -/
  resetKind : Nat := 0
  xtalTries : Nat := 0
  /-- R620: sampled straps; open inputs read 1. -/
  speedStrap : Nat := 7
  slotStrap : Nat := 3
  armPumps : Bool := true
  armPlan : Bool := true
  armLinks : Bool := true
  armSensors : Bool := true
  /-- R137, R139: row times (ns) of the warm resets, counted from the present start: those of earlier starts are
  negative (kept in always-on SRAM). -/
  warmHistory : List Int := []
  /-- R136: row time (ns) of the last crystal try. -/
  lastTry : Nat := 0
  stepMs : List Nat := List.replicate 10 0
  readyMs : Nat := 0
  controlMs : Nat := 0xFFFF
  /-- Frame in which the module took plant control, while it holds it. -/
  controlSince : Nat := 0
  /-- R126: the stored results, the last and those of start-up. -/
  calAfe : List AfeCal := List.replicate 8 {}
  calStart : List AfeCal := List.replicate 8 {}
  valveSense : List Int := List.replicate 48 0
  serdesLock : List Nat := List.replicate 65 0
  /-- R142: items marked failed. -/
  calValve : List Bool := List.replicate 48 false
  calPort : List Bool := List.replicate 64 false
  calPair : Bool := false
  ddrReduced : Bool := false
  /-- R127: LPDDR5X trained and low fill done. -/
  ddrOk : Bool := false
  bankGroupFail : List Bool := List.replicate 16 false
  graphNotLoaded : List Bool := List.replicate 8 false
  /-- R127: the fill of the upper 15 GiB has completed. -/
  upperFill : Bool := false
  /-- R128: restarts at step 5 within one start-up. -/
  hashRestarts : Nat := 0
  rails : List Rail := List.replicate 8 {}
  domains : List Domain := List.replicate 126 {}
  mainMv : Nat := 0
  act24Mv : Nat := 0
  act24 : Bool := false
  /-- R120: the supply has been judged absent, since the start or the last time it was present. -/
  act24Absent : Bool := false
  /-- R569: no firmware copy verifies; the security block stands in exchange receive. -/
  exchangeReceive : Bool := false
  /-- R115: the firmware copy that runs. -/
  fw : FwCopy := {}
  /-- R130. -/
  deadMan : Bool := true
  heartbeat : Bool := false
  /-- Row time (ns) of the last heartbeat toggle (R130, R139). -/
  lastHeartbeat : Nat := 0
  /-- R130, R133: the bypass relay closes the ring past the module; the own contact. -/
  bypassClosed : Bool := true
  ownContactClosed : Bool := true
  /-- R135. -/
  backupDrive : Bool := false
  /-- R135: frame boundaries of the module's own count since the last claim, or since LIMP or NO_IMAGE began: one more
  than the whole frames without a claim. -/
  noClaimFrames : Nat := 0
  /-- R135: analog outputs 0 to 3 while the backup stage drives, mV; the run outputs. -/
  backupMv : Nat := 0
  /-- R131: frames sampled from every powered front-end group since READY, without a break. -/
  sampledFrames : Nat := 0
  /-- R126: frame of the last calibration of each front-end group. -/
  calFrame : List Nat := List.replicate 8 0
  /-- R137: frame since which VANA has been ready in HELD. -/
  vanaSince : Option Nat := none
  /-- A start-up that waits for a rail's report (R118). -/
  waiting : Option StartFacts := none
  /-- R139: a warm reset is due (its cause: 1 warm, 2 watchdog). -/
  resetDue : Option Nat := none
  /-- R614: the input protection switch is open. -/
  inputOpen : Bool := false
  deriving DecidableEq, Repr

/-- An internal fan of the module (R632). -/
structure InFan where
  rpm : Nat := 0
  failed : Bool := false
  retrying : Bool := false
  /-- Frame of the failure or of the last retry. -/
  lastRetry : Nat := 0
  /-- Frames since which it has run below half, and at, the speed its command calls for. -/
  lowSince : Option Nat := none
  goodSince : Option Nat := none
  deriving DecidableEq, Repr

/-- What the module reads of an internal fan: its speed, whether that is below half of the speed its command calls for,
and whether it turns at that speed (R632: the manual gives no rated speed). -/
structure InFanReading where
  rpm : Nat := 0
  low : Bool := false
  atSpeed : Bool := false
  deriving DecidableEq, Repr

/-- The thermal part (R631 to R634). -/
structure Thermal where
  /-- S16 in 1/64 C; none is 0x8000. -/
  inlet : Option Int := none
  exhaust : Option Int := none
  /-- Engine junction and SoC junction, 1/64 C (R632, R633). -/
  engineJunction : Option Int := none
  fans : List InFan := [{}, {}]
  inletOver : Bool := false
  /-- R631: frames since which the inlet has read above the limit in force, and at 1.0 K or more below it. -/
  overSince : Option Nat := none
  underSince : Option Nat := none
  fanCmd : Nat := 0
  fanFailures : Nat := 0
  overRuns : Nat := 0
  fanRetries : Nat := 0
  deriving DecidableEq, Repr

end Sys2Proof
end

