-- ==== Sys2Proof/Machine/Parts/Plant.lean ====
section
/-! DEFINITION. Sampled plant inputs (R14, R90, R292, R626). -/

namespace Sys2Proof

/-- A sensor of R90 as last converted: its value in counts of R13, whether it is valid, and the frame of the last
valid value. A temperature that is not valid reads 0x8000 (R14). -/
structure Sensor where
  value : Int := 0
  valid : Bool := false
  frame : Nat := 0
  deriving DecidableEq, Repr

/-- The plant as sampled. -/
structure Plant where
  sensors : List Sensor := List.replicate 256 {}
  /-- Measured values of the analog outputs, mV (R307). -/
  aoMv : List Nat := List.replicate 8 0
  /-- Analog outputs staged for the next boundary, and in force (R43, R304, R381). -/
  aoStaged : List Nat := List.replicate 8 0
  aoOut : List Nat := List.replicate 8 0
  /-- R51: the values that the crossing into the analog clock holds while that clock is stopped. -/
  aoHeld : Option (List Nat) := none
  /-- Run outputs in force (R43, R393). -/
  runForce : List Bool := List.replicate 4 false
  /-- Fan duties in force (R43). -/
  dutyForce : List Nat := List.replicate 24 0
  /-- Demands of the control loops on each pump in the frame before (R304, R393). -/
  loopDemand : List Nat := List.replicate 4 0
  deriving DecidableEq, Repr

/-- What the valve drive senses in a frame (R431, R432): mean current and low-side pin of each channel, supply and
high-side current of each bank, and its driver's temperature in 1/64 C, if read. -/
structure ValveReadings where
  ma : List Nat := []
  pinMv : List Nat := []
  bankMv : List Nat := []
  hsMa : List Nat := []
  driver : List (Option Int) := []
  deriving DecidableEq, Repr

/-- What the inputs read in a frame (R90, R386, R396, R613, R626, R631): the sender's observation. An RTD input reads
1/64 C, or none outside its resistance range; a current loop reads uA; a fan tachometer the mean period between edges
over the last 100 ms in cycles of 40 MHz, or none after 1 s without one. -/
structure Readings where
  rtd : List (Option Int) := []
  loops : List Nat := []
  leak : LeakReadings := {}
  flt : List Bool := []
  tach : List (Option Nat) := []
  aoMv : List Nat := []
  inlet : Option Int := none
  exhaust : Option Int := none
  engineJunction : Option Int := none
  inFans : List InFanReading := []
  railMv : List Nat := []
  mainMv : Nat := 0
  act24Mv : Nat := 0
  valves : ValveReadings := {}
  deriving DecidableEq, Repr

end Sys2Proof
end

