-- ==== Sys2Proof/Syntax.lean ====
section
/-! DEFINITION. The commands of the EH6400, one constructor per row of the command table, with the rule of each. An
operand that no register of the block holds is what the sender observed or sent: a reading, a message, a verdict of the
security block. -/

namespace Sys2Proof

/-- A command (the row's mnemonic and rule stand with each constructor). -/
inductive Instr where
  /-- FRAME_BOUNDARY (R40). -/
  | frameBoundary
  /-- INGEST_PHASE (R41). -/
  | ingestPhase (readings : Readings)
  /-- COMPUTE_PHASE (R41). -/
  | computePhase (stalls : List Nat)
  /-- EMIT_PHASE (R41). -/
  | emitPhase
  /-- GUARD_PHASE (R42). -/
  | guardPhase
  /-- CLIENT_OVERRUN (R45). -/
  | clientOverrun (client : Client)
  /-- SHED_REQUEST (R46). -/
  | shedRequest
  /-- SHED_RESTORE (R283). -/
  | shedRestore
  /-- SAFE_HOLD_ENTER (R47). -/
  | safeHoldEnter
  /-- SAFE_HOLD_EXIT (R47). -/
  | safeHoldExit
  /-- PLL_LOSS_OF_LOCK (R53). -/
  | pllLossOfLock (pll : Pll) (fast : Bool)
  /-- PLL_RELOCK (R53). -/
  | pllRelock (pll : Pll) (fast : Bool)
  /-- CRYSTAL_FAILURE (R54). -/
  | crystalFailure
  /-- SYNC_RECEIVED (R62). -/
  | syncReceived (port : Nat) (sender : PtpSender) (origin correction rxRow logInterval : Int)
  /-- TIME_EPOCH_INCREMENT (R62). -/
  | timeEpochIncrement
  /-- ANNOUNCE_RECEIVED (R63). -/
  | announceReceived (a : Announce)
  /-- ANNOUNCE_RECEIPT_TIMEOUT (R64). -/
  | announceReceiptTimeout
  /-- PTP_PORT_TAKEOVER (R64). -/
  | ptpPortTakeover
  /-- WALL_DEGRADED (R65). -/
  | wallDegraded
  /-- WALL_KEY_CONVERSION (R70). -/
  | wallKeyConversion
  /-- HISTORY_RECORD_EXPIRY (R71). -/
  | historyRecordExpiry
  /-- SCHEDULE_SLOT_FREE (R72). -/
  | scheduleSlotFree
  /-- POWER_GOOD_ASSERT (R113). -/
  | powerGoodAssert (facts : StartFacts)
  /-- POWER_GOOD_DEASSERT (R113). -/
  | powerGoodDeassert
  /-- RAIL_READY (R118). -/
  | railReady (rail readyUs : Nat)
  /-- RAIL_READY_TIMEOUT (R118). -/
  | railReadyTimeout (rail : Nat)
  /-- RAIL_LOST (R119). -/
  | railLost (rail : Nat)
  /-- UPPER_FILL_COMPLETE (R127). -/
  | upperFillComplete
  /-- NO_IMAGE_KEY_RETRY (R106). -/
  | noImageKeyRetry (facts : StartFacts)
  /-- OTHER_COPY_CHECK (R107). -/
  | otherCopyCheck
  /-- ROLLBACK_ADVANCE (R108). -/
  | rollbackAdvance
  /-- KEY_LOSS (R109). -/
  | keyLoss
  /-- ACT24_ABSENT (R120). -/
  | act24Absent
  /-- ACT24_PRESENT (R120). -/
  | act24Present
  /-- DOMAIN_CYCLE_COMPLETE (R124). -/
  | domainCycleComplete (domain lockUs : Nat)
  /-- PERIODIC_CALIBRATION (R126). -/
  | periodicCalibration (group : Nat) (adc : AdcCal) (sources : SourceCal)
  /-- ARMING_COMPLETE (R132). -/
  | armingComplete (facts : RoundFacts)
  /-- TAKE_PLANT_CONTROL (R134). -/
  | takePlantControl
  /-- BACKUP_DRIVE_START (R135). -/
  | backupDriveStart
  /-- BACKUP_DRIVE_RELEASE (R135). -/
  | backupDriveRelease
  /-- BACKUP_HEARTBEAT_LOSS (R135). -/
  | backupHeartbeatLoss
  /-- CRYSTAL_TRY (R136). -/
  | crystalTry (pass : Bool)
  /-- HELD_RELEASE (R137). -/
  | heldRelease
  /-- RESET_N_ASSERT (R139). -/
  | resetNAssert
  /-- CORE_WATCHDOG (R139). -/
  | coreWatchdog
  /-- WARM_RESET (R139). -/
  | warmReset (facts : StartFacts)
  /-- DEAD_MAN_ENGAGE (R130). -/
  | deadManEngage
  /-- SILENCE_FALLBACK (R166). -/
  | silenceFallback (site : Nat)
  /-- QUARANTINE_TIMER_EXPIRY (R169). -/
  | quarantineTimerExpiry (tenant : Nat)
  /-- LOWER_MAX (R168). -/
  | lowerMax (hdr : ReqHdr) (max : Nat)
  /-- RELEASE_PAGES (R168). -/
  | releasePages (hdr : ReqHdr) (pages : List (Nat × Nat))
  /-- SET_SPLIT (R322). -/
  | setSplit (hdr : ReqHdr) (order compute memory links : Nat)
  /-- BIND_SITE (R168). -/
  | bindSite (hdr : ReqHdr) (site : Nat)
  /-- UNBIND_SITE (R168). -/
  | unbindSite (hdr : ReqHdr) (site : Nat)
  /-- SET_QUOTA (R168). -/
  | setQuota (hdr : ReqHdr) (min max : Nat)
  /-- RELEASE_TENANT (R169). -/
  | releaseTenant (hdr : ReqHdr)
  /-- ADMIT_TENANT (R169). -/
  | admitTenant (hdr : ReqHdr)
  /-- PLAN_EPOCH_BOUNDARY (R178). -/
  | planEpochBoundary
  /-- PUMP_OVERSPEED_LIMIT (R31). -/
  | pumpOverspeedLimit (index : Nat)
  /-- OVERSPEED_REST_END (R34). -/
  | overspeedRestEnd (index : Nat)
  /-- SINGLE_BIT_ERROR (R245). -/
  | singleBitError (scratch : Bool)
  /-- WEIGHT_DOUBLE_BIT_ERROR (R247). -/
  | weightDoubleBitError (place : RowPlace)
  /-- WEIGHT_RELOAD_COMPLETE (R247). -/
  | weightReloadComplete (bank : Nat) (hashOk : Bool)
  /-- SCRATCH_DOUBLE_BIT_ERROR (R248). -/
  | scratchDoubleBitError (slot node : Nat) (state : Bool)
  /-- PRECISION_RUN (R252). -/
  | precisionRun (hdr : ReqHdr) (slot : Nat)
  /-- PRECISION_RUN_COMPLETE (R252). -/
  | precisionRunComplete (result : List (List (Int × Int)))
  /-- LOOP_RESUME (R305). -/
  | loopResume (index : Nat)
  /-- PROBE_ARM (R313). -/
  | probeArm (index : Nat)
  /-- PROBE_ABORT (R313). -/
  | probeAbort (index : Nat)
  /-- PROBE_DONE (R313). -/
  | probeDone (index : Nat)
  /-- SET_LOOP_SP (R295). -/
  | setLoopSp (hdr : ReqHdr) (loop : Nat) (value : Int)
  /-- NO_REFERENCE (R333). -/
  | noReference (site : Nat)
  /-- DITHER_WINDOW_START (R334). -/
  | ditherWindowStart (site : Nat)
  /-- DITHER_WINDOW_END (R334). -/
  | ditherWindowEnd (site : Nat)
  /-- THERMAL_TRIP (R326). -/
  | thermalTrip (loop : Nat)
  /-- THERMAL_TRIP_RELEASE (R326). -/
  | thermalTripRelease (loop : Nat)
  /-- TEL_RECEIVED (R358): header bytes, INTERVAL, MISSED and SLOT_MASK of the TEL header (R357), and its records' bytes. -/
  | telReceived (port : Nat) (head : List Nat) (interval missed mask : Nat) (records : List Nat) (inTime : Bool)
  /-- CAP_VIOLATION_RELEASE (R327). -/
  | capViolationRelease (link : Nat)
  /-- TEL_DEADLINE (R358). -/
  | telDeadline (port : Nat)
  /-- SITE_UNRESPONSIVE (R375). -/
  | siteUnresponsive (site : Nat)
  /-- SITE_RESPONSIVE (R375). -/
  | siteResponsive (site : Nat)
  /-- PACKET_ERROR (R359). -/
  | packetError (port codeErrors : Nat) (badCrc : Bool)
  /-- RELIABLE_PACKET_RECEIVED (R361): header and payload bytes (R352), and the verdict on its tag. -/
  | reliablePacketReceived (port : Nat) (head payload : List Nat) (tagOk : Bool)
  /-- ACK_RECEIVED (R360). -/
  | ackReceived (port : Nat) (head payload : List Nat)
  /-- NAK_RECEIVED (R360). -/
  | nakReceived (port : Nat) (head payload : List Nat)
  /-- REPLAY_TIMEOUT (R360). -/
  | replayTimeout (port : Nat)
  /-- PING_SEND (R362). -/
  | pingSend (port : Nat)
  /-- PONG_RECEIVED (R362). -/
  | pongReceived (port : Nat) (head payload : List Nat) (rttNs : Nat)
  /-- TRANSACTION_RESPONSE (R363). -/
  | transactionResponse (port tag tgen : Nat) (body : TxnBody)
  /-- TRANSACTION_TIMEOUT (R364). -/
  | transactionTimeout (port tag : Nat)
  /-- EVT_RECEIVED (R367). -/
  | evtReceived (port : Nat) (payload : List Nat)
  /-- TRAINING_COMPLETE (R350). -/
  | trainingComplete (port ctle : Nat) (dfe : List Int)
  /-- TRAINING_ATTEMPT_FAIL (R374). -/
  | trainingAttemptFail (port : Nat)
  /-- ATTESTATION_TIMEOUT (R369). -/
  | attestationTimeout (port : Nat)
  /-- ATTESTATION_RETRY (R374). -/
  | attestationRetry (port : Nat)
  /-- AUTH_FAILURE (R372). -/
  | authFailure (port : Nat)
  /-- REKEY_START (R372). -/
  | rekeyStart (port : Nat)
  /-- KEY_UPDATE_ACK (R372). -/
  | keyUpdateAck (port : Nat)
  /-- REKEY_TIMEOUT (R372). -/
  | rekeyTimeout (port : Nat)
  /-- LINK_LOST (R373). -/
  | linkLost (port cause : Nat)
  /-- PORT_QUARANTINE_END (R374). -/
  | portQuarantineEnd (port : Nat)
  /-- MARGIN_MEASURE (R351). -/
  | marginMeasure (port height width : Nat)
  /-- PUMP_STATUS_RECEIVED (R382). -/
  | pumpStatusReceived (index : Nat) (bytes : List Nat)
  /-- PUMP_STATUS_STALE (R385). -/
  | pumpStatusStale (index : Nat)
  /-- ELEMENT_STALL (R396). -/
  | elementStall (element : Nat)
  /-- GROUP_FULL_SPEED_END (R398). -/
  | groupFullSpeedEnd (group : Nat)
  /-- ELEMENT_RETRY_END (R397). -/
  | elementRetryEnd (element : Nat)
  /-- RETRY_COUNT_RESET (R397). -/
  | retryCountReset (element : Nat)
  /-- CLEAR_ELEMENT (R399). -/
  | clearElement (hdr : ReqHdr) (fan index : Nat)
  /-- SET_SPRAY_INHIBIT (R399). -/
  | setSprayInhibit (hdr : ReqHdr) (value : Nat)
  /-- VIGIL_HOLD (R395). -/
  | vigilHold
  /-- SPRAY_CYCLE (R401). -/
  | sprayCycle
  /-- WATER_DAY_ROLLOVER (R403). -/
  | waterDayRollover
  /-- ENERGISING_EDGE (R413). -/
  | energisingEdge (channel : Nat)
  /-- PEAK_END (R413). -/
  | peakEnd (channel : Nat)
  /-- VALVE_RELEASE (R414). -/
  | valveRelease (channel : Nat)
  /-- DIP_DETECTED (R416). -/
  | dipDetected (channel time depth : Nat)
  /-- MISSING_DIP (R417). -/
  | missingDip (channel : Nat)
  /-- COIL_SHORT (R418). -/
  | coilShort (channel : Nat)
  /-- OPEN_COIL_ENERGISED (R418). -/
  | openCoilEnergised (channel : Nat)
  /-- OPEN_COIL_RELEASED (R418). -/
  | openCoilReleased (channel pinMv : Nat)
  /-- SWITCH_FAILED_ON (R418). -/
  | switchFailedOn (channel currentMa : Nat)
  /-- BANK_OVERCURRENT (R418). -/
  | bankOvercurrent (bank hsMa : Nat)
  /-- GROUND_FAULT (R418). -/
  | groundFault (bank hsMa lsMa : Nat)
  /-- BANK_TRIP_RECOVERY (R421). -/
  | bankTripRecovery (bank : Nat)
  /-- DRIVER_HOT (R421). -/
  | driverHot (bank : Nat) (temp : Int)
  /-- DRIVER_COOL (R421). -/
  | driverCool (bank : Nat) (temp : Int)
  /-- DUTY_LIMIT (R420). -/
  | dutyLimit (channel uj : Nat)
  /-- VALVE_REQUEST_REFUSED (R424). -/
  | valveRequestRefused (channel : Nat)
  /-- SET_VALVE (R429). -/
  | setValve (hdr : ReqHdr) (channel position : Nat)
  /-- CLEAR_VALVE (R429). -/
  | clearValve (hdr : ReqHdr) (index bank : Nat)
  /-- LEAK_INPUT_STATE (R434). -/
  | leakInputState (input : Nat) (state : LeakInState) (x : Nat)
  /-- ROPE_LOCATION (R437). -/
  | ropeLocation (rope x : Nat)
  /-- MASS_BALANCE_HOLDOFF_END (R441). -/
  | massBalanceHoldoffEnd (loop : Nat)
  /-- PRESSURE_DECAY_EVAL (R442). -/
  | pressureDecayEval (loop : Nat)
  /-- CLASSIFIER_CONFIRM (R443). -/
  | classifierConfirm (loop : Nat)
  /-- ISOLATION_CHECK_TIMEOUT (R448). -/
  | isolationCheckTimeout (loop : Nat)
  /-- NOT_HOLDING_RECHECK (R448). -/
  | notHoldingRecheck (loop : Nat)
  /-- RELEASE_LOOP (R449). -/
  | releaseLoop (hdr : ReqHdr) (loop : Nat)
  /-- MANY_LOOPS_END (R450). -/
  | manyLoopsEnd
  /-- ROW_STOP (R454). -/
  | rowStop (hdr : ReqHdr)
  /-- RELEASE_ROW (R451). -/
  | releaseRow (hdr : ReqHdr)
  /-- RELEASE_FLOOR (R327). -/
  | releaseFloor (hdr : ReqHdr) (link : Nat)
  /-- RING_OPEN_EXTERNAL (R452). -/
  | ringOpenExternal
  /-- RING_CLOSED_EXTERNAL (R452). -/
  | ringClosedExternal
  /-- BUS_OFF (R463). -/
  | busOff (channel : Nat)
  /-- BUS_OFF_RECOVERY (R463). -/
  | busOffRecovery (channel : Nat)
  /-- BUS_OFF_STORM_END (R488). -/
  | busOffStormEnd (channel : Nat)
  /-- ERROR_PASSIVE (R487). -/
  | errorPassive (channel : Nat) (errors : List Nat) (tec rec_ : Nat)
  /-- ERROR_ACTIVE (R487). -/
  | errorActive (channel tec rec_ : Nat)
  /-- CELL_TRANSMIT (R472). -/
  | cellTransmit (channel column : Nat) (facts : BusFacts)
  /-- CAN_FRAME_RECEIVED (R482). -/
  | canFrameReceived (channel : Nat) (msg : CanMsg) (offsetNs : Nat)
  /-- VALVE_STATUS_RECEIVED (R485). -/
  | valveStatusReceived (valve dlc position cmdSeen : Nat) (fault : Bool)
  /-- VALVE_STATUS_STALE (R485). -/
  | valveStatusStale (valve : Nat)
  /-- CAN_SEND (R479). -/
  | canSend (hdr : ReqHdr) (channel : Nat) (msg : CanMsg)
  /-- CAN_CANCEL (R479). -/
  | canCancel (hdr : ReqHdr) (channel id : Nat)
  /-- HOST_MESSAGE_EXPIRE (R480). -/
  | hostMessageExpire (channel slot : Nat)
  /-- SEND_SLOT_FREE (R480). -/
  | sendSlotFree (channel slot : Nat)
  /-- MQ_TAIL_WRITE (R486). -/
  | mqTailWrite (channel value : Nat)
  /-- MQ_OVERFLOW_CLEAR (R491). -/
  | mqOverflowClear (channel : Nat)
  /-- NEW_CLEAR (R492). -/
  | newClear (channel buffer : Nat)
  /-- CLAIM_ROUND (R498). -/
  | claimRound (facts : RoundFacts)
  /-- CLAIM_REFRESH_TIMEOUT (R500). -/
  | claimRefreshTimeout
  /-- CLAIM_WIRE_STUCK (R499). -/
  | claimWireStuck (wireB : Bool)
  /-- STRAP_CONFLICT (R497). -/
  | strapConflict
  /-- HEALTH_SEND (R507). -/
  | healthSend
  /-- HEALTH_RECEIVED (R507). -/
  | healthReceived (payload : List Nat)
  /-- PARTNER_SILENT (R507). -/
  | partnerSilent
  /-- MARK_RECEIVED (R510). -/
  | markReceived (payload : List Nat)
  /-- CKPT_RECEIVED (R512). -/
  | ckptReceived (ckpt : Checkpoint) (complete hashOk : Bool)
  /-- CHECKPOINT_STALE (R512). -/
  | checkpointStale
  /-- TAKEOVER_BID (R514). -/
  | takeoverBid (facts : RoundFacts)
  /-- RESTORE_COMPLETE (R515). -/
  | restoreComplete
  /-- SWAP_REQUEST_RAISE (R518). -/
  | swapRequestRaise (source : SwapSource)
  /-- SWAP_REQ_RECEIVED (R519). -/
  | swapReqReceived
  /-- HANDOVER_RECEIVED (R520). -/
  | handoverReceived (boundary : Nat)
  /-- PRIMED_RECEIVED (R520). -/
  | primedReceived
  /-- REFUSED_RECEIVED (R519). -/
  | refusedReceived
  /-- HANDOVER_TIMEOUT (R503). -/
  | handoverTimeout
  /-- PAIR_SWAP (R518). -/
  | pairSwap (hdr : ReqHdr)
  /-- PAIR_HOLD (R518). -/
  | pairHold (hdr : ReqHdr) (value : Nat)
  /-- PARTNER_ATTEST_RETRY (R535). -/
  | partnerAttestRetry
  /-- DRBG_HEALTH_FAILURE (R530). -/
  | drbgHealthFailure
  /-- DRBG_RESUME (R530). -/
  | drbgResume
  /-- OWNER_ENROL (R531). -/
  | ownerEnrol (hdr : ReqHdr) (facts : EnrolFacts)
  /-- ENROL_REBOOT (R529). -/
  | enrolReboot
  /-- SET_DEVICE_CERT (R532). -/
  | setDeviceCert (hdr : ReqHdr) (part last : Nat) (bytes : List Nat) (facts : ChainFacts)
  /-- GET_RELEASE_NONCE (R547). -/
  | getReleaseNonce (hdr : ReqHdr)
  /-- RELEASE_NONCE_EXPIRY (R547). -/
  | releaseNonceExpiry
  /-- OWNER_RELEASE (R548). -/
  | ownerRelease (hdr : ReqHdr) (rootHash : Nat) (sigOk : Bool) (nonce : Nat)
  /-- GET_VERSION (R533). -/
  | getVersion (session : Nat)
  /-- GET_CAPABILITIES (R533). -/
  | getCapabilities (session : Nat)
  /-- NEGOTIATE_ALGORITHMS (R533). -/
  | negotiateAlgorithms (session : Nat) (offersEcdsaP384 offersSha384 : Bool)
  /-- GET_DIGESTS (R533). -/
  | getDigests (session : Nat)
  /-- GET_CERTIFICATE (R532). -/
  | getCertificate (session slot offset length : Nat)
  /-- CHALLENGE (R533). -/
  | challenge (session slot nonce : Nat)
  /-- GET_MEASUREMENTS (R534). -/
  | getMeasurements (session index : Nat) (signed : Bool) (nonce : Nat)
  /-- TLS_SESSION_OPEN (R536). -/
  | tlsSessionOpen (client : ClientFacts)
  /-- SESSION_IDLE_CLOSE (R582). -/
  | sessionIdleClose (session : Nat)
  /-- SESSION_LOCKOUT_END (R540). -/
  | sessionLockoutEnd (session : Nat)
  /-- TELEMETRY_BLOCK_SEAL (R541). -/
  | telemetryBlockSeal
  /-- BLOCK_NOT_SEALED (R544). -/
  | blockNotSealed
  /-- LOG_WRITE (R559). -/
  | logWrite (fail : Option (Nat × Nat))
  /-- MAINT_START (R572). -/
  | maintStart (hdr : ReqHdr) (code duration target : Nat) (receives : Bool)
  /-- MAINT_STOP (R571). -/
  | maintStop (hdr : ReqHdr) (id : Nat)
  /-- ACTIVITY_END (R573). -/
  | activityEnd (index : Nat)
  /-- ACTIVITY_ENTRY_FREE (R573). -/
  | activityEntryFree (index : Nat)
  /-- STROKE_VALVE_CLOSE (R568). -/
  | strokeValveClose (index : Nat)
  /-- STROKE_FLOW_CHECK (R567). -/
  | strokeFlowCheck (index : Nat)
  /-- STROKE_FLOOR_TIMEOUT (R568). -/
  | strokeFloorTimeout (index : Nat)
  /-- DRAIN_FILL_END_PRESSURE (R567). -/
  | drainFillEndPressure (index : Nat)
  /-- SELF_TEST_RESULT (R567). -/
  | selfTestResult (index : Nat) (wet : Bool) (x : Nat)
  /-- FIRMWARE_EXCHANGE_REPORT (R569). -/
  | firmwareExchangeReport (index : Nat) (verified : Bool) (bytes : Nat)
  /-- MAINT_WINDOW_TIMEOUT (R574). -/
  | maintWindowTimeout (window : Nat)
  /-- ETH_LINK_UP (R580). -/
  | ethLinkUp (port : Nat)
  /-- ETH_LINK_DOWN (R580). -/
  | ethLinkDown (port : Nat)
  /-- DHCP_LEASE (R580). -/
  | dhcpLease (port ipv4 prefixLen : Nat)
  /-- LINK_LOCAL_FALLBACK (R580). -/
  | linkLocalFallback (port ipv4 : Nat)
  /-- DHCP_RETRY (R580). -/
  | dhcpRetry (port : Nat)
  /-- ETH_FLOOD_DISCARD (R579). -/
  | ethFloodDiscard (port frames tagged : Nat)
  /-- READ (R588). -/
  | read (session msgId address bytes : Nat)
  /-- WRITE (R589). -/
  | write (session msgId address : Nat) (data : List Nat)
  /-- SUBSCRIBE (R590). -/
  | subscribe (session msgId topic index : Nat) (on : Bool)
  /-- PING (R585). -/
  | ping (session msgId : Nat)
  /-- NOTIFY (R590). -/
  | notify (session : Nat)
  /-- SET_MODE (R600). -/
  | setMode (hdr : ReqHdr) (mode : Nat)
  /-- SET_LIMIT (R600). -/
  | setLimit (hdr : ReqHdr) (scope loop limit : Nat)
  /-- SCHED_COMMIT (R601). -/
  | schedCommit (hdr : ReqHdr) (body : SchedReq)
  /-- MAINT_RELEASE_HELD (R137). -/
  | maintReleaseHeld (hdr : ReqHdr)
  /-- IMAGE_BEGIN (R112, R602). -/
  | imageBegin (hdr : ReqHdr) (start : UpdateStart)
  /-- IMAGE_ERASE_COMPLETE (R602). -/
  | imageEraseComplete
  /-- IMAGE_WRITE (R602). -/
  | imageWrite (hdr : ReqHdr) (offset : Nat) (bytes : List Byte)
  /-- IMAGE_END (R602). -/
  | imageEnd (hdr : ReqHdr) (facts : CopyFacts)
  /-- IMAGE_UPDATE_TIMEOUT (R602). -/
  | imageUpdateTimeout
  /-- MGMT_RESET (R603). -/
  | mgmtReset (hdr : ReqHdr) (force : Nat)
  /-- SET_FIELDBUS (R605). -/
  | setFieldbus (hdr : ReqHdr) (cfg : Fieldbus) (count : Nat)
  /-- MODBUS_READ_HOLDING (R608). -/
  | modbusReadHolding (conn address count : Nat)
  /-- MODBUS_READ_INPUT (R607). -/
  | modbusReadInput (conn address count : Nat)
  /-- MODBUS_WRITE_SINGLE (R608). -/
  | modbusWriteSingle (conn source address value : Nat)
  /-- MODBUS_WRITE_MULTIPLE (R608). -/
  | modbusWriteMultiple (conn source address : Nat) (values : List Nat)
  /-- MODBUS_CONNECTION_IDLE (R606). -/
  | modbusConnectionIdle (conn : Nat)
  /-- READ_PROPERTY (R609). -/
  | readProperty (item : BacProp)
  /-- READ_PROPERTY_MULTIPLE (R609). -/
  | readPropertyMultiple (items : List BacProp)
  /-- WRITE_PROPERTY (R610). -/
  | writeProperty (source : Nat) (item : BacProp) (value : BacValue)
  /-- WHO_IS (R609). -/
  | whoIs (range : Option (Nat × Nat))
  /-- INPUT_OVERVOLTAGE (R614). -/
  | inputOvervoltage
  /-- INLET_OVER (R631). -/
  | inletOver
  /-- INLET_OVER_CLEAR (R631). -/
  | inletOverClear
  /-- INTERNAL_FAN_FAILED (R632). -/
  | internalFanFailed (fan : Nat)
  /-- INTERNAL_FAN_RETRY (R632). -/
  | internalFanRetry (fan : Nat)
  /-- INTERNAL_FAN_RESTORED (R632). -/
  | internalFanRestored (fan : Nat)
  /-- SOC_THERMAL_TRIP (R633). -/
  | socThermalTrip
  /-- DELAY_RESP_RECEIVED (R59). -/
  | delayRespReceived (head : DelayHead) (txRow rxMaster : Int)
  /-- PTP_MESSAGE_IGNORED (R59). -/
  | ptpMessageIgnored
  /-- RELEASING_COMPLETE (R413). -/
  | releasingComplete (channel currentMa : Nat)
  /-- ROW_SENSOR_CAUSE_END (R450). -/
  | rowSensorCauseEnd
  /-- ANNOUNCEMENT_EXPIRY (R476). -/
  | announcementExpiry
  /-- FINAL_CHECKPOINT_LOADED (R520). -/
  | finalCheckpointLoaded
  /-- STANDBY_SELF_TEST (R506). -/
  | standbySelfTest (test : SelfTest) (index : Nat) (pass : Bool)
  /-- TLS_KEY_UPDATE (R581). -/
  | tlsKeyUpdate (session : Nat)
  /-- SESSION_CLOSE (R582). -/
  | sessionClose (session : Nat)
  /-- MALFORMED_MESSAGE (R586). -/
  | malformedMessage (session msgId : Nat) (badHeader : Bool)
  /-- SPDM_UNSUPPORTED_REQUEST (R533). -/
  | spdmUnsupportedRequest (session : Nat)
  /-- ENROL_N_CHANGE (R531). -/
  | enrolNChange (low : Bool)
  /-- MODBUS_CONNECTION_OPEN (R606). -/
  | modbusConnectionOpen
  deriving DecidableEq, Repr

end Sys2Proof
end

