-- ==== Sys2Proof/Machine/Bits.lean ====
section
/-! DEFINITION. Counters, signed ranges, bit fields and rounded division (R7, R9, R10, R15). -/

namespace Sys2Proof

/-- A saturating count: R10, counters stop at their maximum and never wrap. -/
def satAdd (width n k : Nat) : Nat := min (n + k) (2 ^ width - 1)

/-- A U32 counter of the status window (R10, R592) increased by 1. -/
def cnt (n : Nat) : Nat := satAdd 32 n 1

/-- A value saturated to the signed range of `w` bits (R9). -/
def satS (w : Nat) (x : Int) : Int := max (-(2 ^ (w - 1) : Int)) (min x ((2 ^ (w - 1) : Int) - 1))

/-- A value held to `lo .. hi`. -/
def clampI (lo hi x : Int) : Int := max lo (min x hi)

/-- A temperature held to the range of its encoding (R13); 0x8000 is no temperature (R14). -/
def satTemp (x : Int) : Int := clampI (-32767) 32767 x

/-- Two's complement reading of the low `w` bits of `n` (R9). -/
def toSigned (w n : Nat) : Int :=
  let m := n % 2 ^ w
  if m < 2 ^ (w - 1) then (m : Int) else (m : Int) - (2 ^ w : Int)

/-- The low `w` bits of an integer, in two's complement (R9). -/
def toBits (w : Nat) (x : Int) : Nat := (x % (2 ^ w : Int)).toNat

/-- Bits `[hi:lo]` of a number (R7). -/
def bits (n hi lo : Nat) : Nat := (n / 2 ^ lo) % 2 ^ (hi + 1 - lo)

/-- Bit `i` of a number (R7). -/
def bit (n i : Nat) : Bool := (n / 2 ^ i) % 2 == 1

/-- A flag as a bit. -/
def b2n (b : Bool) : Nat := if b then 1 else 0

/-- Division rounded up. -/
def ceilDiv (a b : Nat) : Nat := (a + b - 1) / b

/-- Integer division rounded to nearest with ties away from zero (R15). -/
def roundDiv (a : Int) (b : Nat) : Int :=
  if b = 0 then 0
  else if a < 0 then -(((2 * (-a) + b) / (2 * b : Int))) else (2 * a + b) / (2 * b : Int)

end Sys2Proof
end

