-- ==== Sys2Proof/Machine/F32.lean ====
section
/-! DEFINITION. IEEE 754 binary32 with each operation rounded to nearest even (R9, R331, R332, R438). A value is its
32-bit encoding. -/

namespace Sys2Proof.Machine

/-- A binary32 value as its encoding (R9). -/
abbrev F32 := BitVec 32

/-- The number a value stands for: sign, mantissa and exponent of a finite value; or an infinity or NaN. -/
inductive F32View where
  | fin (neg : Bool) (m : Nat) (e : Int)
  | inf (neg : Bool)
  | nan
  deriving DecidableEq, Repr

def f32Neg (x : F32) : Bool := x.getLsbD 31

/-- Reading an encoding: exponent field 0 is subnormal, 255 an infinity or NaN. -/
def f32View (x : F32) : F32View :=
  let n := x.toNat
  let e : Nat := (n / 2 ^ 23) % 256
  let f := n % 2 ^ 23
  if e = 255 then (if f = 0 then .inf (f32Neg x) else .nan)
  else if e = 0 then .fin (f32Neg x) f (-149)
  else .fin (f32Neg x) (f + 2 ^ 23) ((e : Int) - 150)

def f32NaN : F32 := 0x7FC00000
def f32Inf (neg : Bool) : F32 := if neg then 0xFF800000 else 0x7F800000
def f32Zero (neg : Bool) : F32 := if neg then 0x80000000 else 0

/-- `m * 2^e` with `m` below 2^24, exact, as an encoding; too large a value is an infinity. -/
def f32Pack (neg : Bool) (m : Nat) (e : Int) : F32 :=
  if m = 0 then f32Zero neg
  else
    let sh := 23 - Nat.log2 m
    -- normalise as far as the least exponent allows
    let k := min sh (e + 149).toNat
    let m' := m * 2 ^ k
    let e' := e - k
    let s : Nat := if neg then 2 ^ 31 else 0
    if m' < 2 ^ 23 then BitVec.ofNat 32 (s + m')
    else if 104 < e' then f32Inf neg
    else BitVec.ofNat 32 (s + ((e' + 150).toNat) * 2 ^ 23 + (m' - 2 ^ 23))

/-- Rounds `m * 2^e` to nearest even at 24 bits and the least exponent -149. -/
def f32Round (neg : Bool) (m : Nat) (e : Int) : F32 :=
  if m = 0 then f32Zero neg
  else
    let drop : Nat := max (Nat.log2 m - 23) (-149 - e).toNat
    if drop = 0 then f32Pack neg m e
    else
      let q := m / 2 ^ drop
      let r := m % 2 ^ drop
      let half := 2 ^ (drop - 1)
      let q' := if half < r then q + 1 else if r = half then q + q % 2 else q
      if q' = 2 ^ 24 then f32Pack neg (2 ^ 23) (e + drop + 1) else f32Pack neg q' (e + drop)

/-- The nearest value to an integer. -/
def f32OfInt (x : Int) : F32 := f32Round (decide (x < 0)) x.natAbs 0

/-- The nearest value to `num / den`. -/
def f32OfRatio (num : Int) (den : Nat) : F32 :=
  let n := num.natAbs * 2 ^ 160
  f32Round (decide (num < 0)) (n / den * 2 + (if n % den = 0 then 0 else 1)) (-161)

def f32Mul (x y : F32) : F32 :=
  match f32View x, f32View y with
  | .nan, _ | _, .nan => f32NaN
  | .inf a, .inf b => f32Inf (a != b)
  | .inf a, .fin b m _ | .fin b m _, .inf a => if m = 0 then f32NaN else f32Inf (a != b)
  | .fin a m e, .fin b n f => f32Round (a != b) (m * n) (e + f)

def f32AddView : F32View → F32View → F32
  | .nan, _ | _, .nan => f32NaN
  | .inf a, .inf b => if a = b then f32Inf a else f32NaN
  | .inf a, .fin _ _ _ | .fin _ _ _, .inf a => f32Inf a
  | .fin a m e, .fin b n f =>
    let g := min e f
    let p : Int := (if a then -1 else 1) * ((m * 2 ^ (e - g).toNat : Nat) : Int)
    let q : Int := (if b then -1 else 1) * ((n * 2 ^ (f - g).toNat : Nat) : Int)
    let r := p + q
    if r = 0 then f32Zero (a && b) else f32Round (decide (r < 0)) r.natAbs g

def f32Add (x y : F32) : F32 := f32AddView (f32View x) (f32View y)

def f32NegOf (x : F32) : F32 := x ^^^ (0x80000000 : F32)

def f32Sub (x y : F32) : F32 := f32Add x (f32NegOf y)

def f32Div (x y : F32) : F32 :=
  match f32View x, f32View y with
  | .nan, _ | _, .nan => f32NaN
  | .inf _, .inf _ => f32NaN
  | .inf a, .fin b _ _ => f32Inf (a != b)
  | .fin a _ _, .inf b => f32Zero (a != b)
  | .fin a m e, .fin b n f =>
    if n = 0 then (if m = 0 then f32NaN else f32Inf (a != b))
    else
      let k := m * 2 ^ 64
      f32Round (a != b) (k / n * 2 + (if k % n = 0 then 0 else 1)) (e - f - 65)

/-- Integer square root, rounded down, by bits from the given one. -/
def isqrtGo (n : Nat) : Nat → Nat → Nat
  | 0, r => r
  | k + 1, r =>
    let c := r + 2 ^ k
    isqrtGo n k (if c * c ≤ n then c else r)

/-- Square root, correctly rounded; a negative argument is NaN. -/
def f32Sqrt (x : F32) : F32 :=
  match f32View x with
  | .nan => f32NaN
  | .inf a => if a then f32NaN else x
  | .fin a m e =>
    if m = 0 then x
    else if a then f32NaN
    else
      let (m', e') := if e % 2 = 0 then (m, e) else (2 * m, e - 1)
      let n := m' * 2 ^ 60
      let r := isqrtGo n 48 0
      f32Round false (r * 2 + (if r * r = n then 0 else 1)) (e' / 2 - 31)

def f32Abs (x : F32) : F32 := x &&& (0x7FFFFFFF : F32)

/-- `x < y`; false when either is NaN. -/
def f32Lt (x y : F32) : Bool :=
  match f32View x, f32View y with
  | .nan, _ | _, .nan => false
  | .inf a, .inf b => a && !b
  | .inf a, .fin _ _ _ => a
  | .fin _ _ _, .inf b => !b
  | .fin a m e, .fin b n f =>
    let g := min e f
    (if a then -1 else 1 : Int) * ((m * 2 ^ (e - g).toNat : Nat) : Int) <
    (if b then -1 else 1 : Int) * ((n * 2 ^ (f - g).toNat : Nat) : Int)

def f32Le (x y : F32) : Bool :=
  match f32View x, f32View y with
  | .nan, _ | _, .nan => false
  | _, _ => !(f32Lt y x)

/-- Rounded to the nearest integer with ties to even; NaN and infinities give the nearest end of 64 bits. -/
def f32RoundEven (x : F32) : Int :=
  match f32View x with
  | .nan => 0
  | .inf a => if a then -(2 ^ 63) else 2 ^ 63
  | .fin a m e =>
    let v : Nat :=
      if 0 ≤ e then m * 2 ^ e.toNat
      else
        let d := (-e).toNat
        let q := m / 2 ^ d
        let r := m % 2 ^ d
        let half := 2 ^ (d - 1)
        if half < r then q + 1 else if r = half then q + q % 2 else q
    if a then -(v : Int) else v

/-- Rounded to the nearest integer with ties away from zero (R15), for reporting. -/
def f32Nearest (x : F32) : Int :=
  match f32View x with
  | .nan => 0
  | .inf a => if a then -(2 ^ 63) else 2 ^ 63
  | .fin a m e =>
    let v : Nat := if 0 ≤ e then m * 2 ^ e.toNat else (2 * m + 2 ^ (-e).toNat) / (2 * 2 ^ (-e).toNat)
    if a then -(v : Int) else v

/-- The greatest integer at or below a value. -/
def f32Floor (x : F32) : Int :=
  match f32View x with
  | .nan => 0
  | .inf a => if a then -(2 ^ 63) else 2 ^ 63
  | .fin a m e =>
    let n : Int := if a then -(m : Int) else m
    if 0 ≤ e then n * 2 ^ e.toNat else n / (2 ^ (-e).toNat : Int)

/-- The least integer at or above a value; NaN and infinities as `f32RoundEven`. -/
def f32Ceil (x : F32) : Int :=
  match f32View x with
  | .nan => 0
  | .inf a => if a then -(2 ^ 63) else 2 ^ 63
  | .fin a m e =>
    let n : Int := if a then -(m : Int) else m
    if 0 ≤ e then n * 2 ^ e.toNat else -((-n) / (2 ^ (-e).toNat : Int))

/-- Sum in the order given. -/
def f32Sum (l : List F32) : F32 := match l with
  | [] => 0
  | a :: t => t.foldl f32Add a

/-- Sum of products in the order given. -/
def f32Dot (a b : List F32) : F32 := f32Sum (List.zipWith f32Mul a b)

/-- Recursive least squares of R332 and R333: coefficients `w`, covariance `p` (rows), regressor `phi`, error `err`,
forgetting factor `lam` and initial trace `tr0`. Gives the new coefficients, covariance and whether forgetting is
suspended. -/
def rlsUpdate (w : List F32) (p : List (List F32)) (phi : List F32) (err lam tr0 : F32) :
    List F32 × List (List F32) × Bool :=
  let pphi := p.map fun row => f32Dot row phi
  let n := w.length
  let phip := (List.range n).map fun j => f32Sum ((List.range n).map fun i =>
    f32Mul (phi.getD i 0) ((p.getD i []).getD j 0))
  let den := f32Add lam (f32Dot phip phi)
  let gain := pphi.map fun x => f32Div x den
  let w' := List.zipWith (fun a g => f32Add a (f32Mul g err)) w gain
  let p1 := (List.range n).map fun i => (List.range n).map fun j =>
    f32Sub ((p.getD i []).getD j 0) (f32Mul (gain.getD i 0) (phip.getD j 0))
  let p2 := (List.range n).map fun i => (List.range n).map fun j =>
    f32Div (f32Add ((p1.getD i []).getD j 0) ((p1.getD j []).getD i 0)) (f32OfInt 2)
  let tr := f32Sum ((List.range n).map fun i => (p2.getD i []).getD i 0)
  let forget := f32Le tr tr0
  (w', if forget then p2.map (fun row => row.map fun x => f32Div x lam) else p2, !forget)

/-- A diagonal matrix. -/
def f32Diag (d : List F32) : List (List F32) :=
  (List.range d.length).map fun i => (List.range d.length).map fun j => if i = j then d.getD i 0 else 0

/-- Trace of a matrix. -/
def f32Trace (p : List (List F32)) : F32 :=
  f32Sum ((List.range p.length).map fun i => (p.getD i []).getD i 0)

end Sys2Proof.Machine
end

