-- ==== Sys2Proof/Machine/Parts/Window.lean ====
section
/-! DEFINITION. The address map of the status window (R591): its kinds of entries, each with base, size in bytes and
count. -/

namespace Sys2Proof

/-- The kinds of entries of the field tables. -/
inductive Entry where
  | identity | start | image | eth | mgmt | session
  | frame | epoch | sched
  | power | rail | domain | thermal
  | plan | planLoop | horizon
  | heat | heatLoop | heatTenant | cap | cls | pace | page | site
  | engine | breach | graph | shed | portControl | portElement
  | loop | traceControl | probe | trace | link
  | pumps | pump | fan | group | zone | spray
  | valves | bank | valve
  | leak | leakLoop | rope | floatIn
  | can | canChannel | hp | slot | cellMap | mirror
  | pair | security | secTenant | telemetry
  | log | activity | lastWords | logWindow
  deriving DecidableEq, Repr

end Sys2Proof
end

