-- ==== Sys2Proof/Config.lean ====
section
/-! DEFINITION. What the specification fixes as a number, and the free values: opaque constants without a body, which
no proof can evaluate (notes/assumptions). -/

namespace Sys2Proof

namespace Config

/-- The rate adjustment the servo sets after a slewed offset (R62), in 0.001 ppm before the limit of R55: the manual
states no servo law. Drawn at the free counter (DESIGN CHOICE, log entry 6). -/
opaque servoFreq : Nat → Int
opaque servoPhase : Nat → Int

/-- Element i of an iterate of a QP_STEP node outside slot 0: the manual does not say where the operands of such a node
stand, so its iterate is free (R217, R266) (DESIGN CHOICE, log entry 25). -/
opaque qpValue : Nat → Nat → Int

/-- What the i-th weight-section row of a node holds, in the order of its bank blocks: whether it is an exponent row, its tile,
and its weight column, or the group of 32 columns whose exponents it holds. The image names the node of a row and no more
(R225, R260). Arguments: slot, node, i (DESIGN CHOICE, log entry 35). -/
opaque rowUse : Nat → Nat → Nat → Bool × Nat × Nat

/-- Accumulator exponent that Keldy fixes for a tile, in bank 0 to 63, or joined at 64: no field of the image carries it
(R227). Arguments: slot, node, tile, bank (DESIGN CHOICE, log entry 35). -/
opaque tileAcc : Nat → Nat → Nat → Nat → Int

/-- A constant of a node in its exact encoding, from the node's constant bytes: significand and exponent. R257 gives the
bytes' place, not their layout. Arguments: bytes, operator, group (0 biases or upper limits, 1 scales, 2 indices), index
(DESIGN CHOICE, log entry 35). -/
opaque constValue : List (BitVec 8) → Nat → Nat → Nat → Int × Int

/-- Offset of the state bounds in a node's constants (R261), by operator (DESIGN CHOICE, log entry 35). -/
opaque statePlace : Nat → Nat

/-- Latency in cycles of units 0 and 2 to 5 (R276, R279): the manual gives the tree's alone (R220) (DESIGN CHOICE, log entry
183). -/
opaque unitLatency : Nat → Nat

/-- SHA-384 of a payload, left uninterpreted (R246) (DESIGN CHOICE, log entry 74). -/
opaque sha384 : List (BitVec 8) → Nat

/-- Index of the SENS element that holds a derivative of a plan output (R183): the manual names the port's contents but
not their order. Arguments: variable in the order of all blocks; output, with CAP_LO[l,k] at 200 l + k, OUTLET_HI[l,k] at
4,800 + 200 l + k and PLANT_POWER[k] at 9,600 + k; whether the second derivative is meant (DESIGN CHOICE, log entry 24). -/
opaque sensIndex : Nat → Nat → Bool → Nat

/-- Flow set-point of a loop in a fallback plan, before it is held to the loop's range: R199 names none. Arguments:
the free counter, the loop (DESIGN CHOICE, log entry 27). -/
opaque fallbackFlow : Nat → Nat → Int

/-- The value from which a control loop without an actuator (OUT_KIND 0) starts: R307 names none (DESIGN CHOICE, log
entry 31) (DESIGN CHOICE, log entry 31). -/
opaque loopStart : Nat → Nat → Int

/-- CODE of a last-words record for a cause to which the manual gives no event: 0 heartbeat missing, 1 fuse integrity
fault, 2 input overvoltage (R528, R562, R636) (DESIGN CHOICE, log entry 88). -/
opaque lastWordCode : Nat → Nat

/-- Demand of the internal fans from a temperature that reads as missing (R632 gives none), held to 30 to 100 %
(DESIGN CHOICE, log entry 94) (DESIGN CHOICE, log entry 94). -/
opaque missingFanDemand : Nat → Nat

/-- What an input register shows for a flow or a pressure without a valid reading: R607 states one for a temperature
only. Arguments: the free counter, the register (DESIGN CHOICE, log entry 95). -/
opaque missingRegister : Nat → Nat → Nat

/-- Identity given at manufacture (R594) (DESIGN CHOICE, log entry 76). -/
opaque serial : Nat
opaque mac : Nat → Nat

/-- A fresh value of the random bit generator (R530, R531, R547), drawn at the free counter (DESIGN CHOICE, log entry
75) (DESIGN CHOICE, log entry 75). -/
opaque fresh : Nat → Nat
/-- ExportMasterSecret of a Gwynlink or pair port session (R371, R508), drawn at the free counter; HKDF-Expand with
HMAC-SHA-384 of a secret, a label and a length; byte i of the GMAC of AES-256-GCM from a key, a nonce and the authenticated
data (R354): functions of their arguments, left uninterpreted (DESIGN CHOICE, log entry 74). -/
opaque linkSecret : Nat → Nat
opaque hkdfExpand : Nat → List Nat → Nat → Nat
opaque gmac : Nat → Nat → List Nat → Nat → Nat

/-- Which bits a fuse write that fails has blown (R531) (DESIGN CHOICE, log entry 77). -/
opaque fuseMask : Nat → Nat

/-- TAG of a tenant block (R542) from the tenant's key, its generation and bytes 0 to 79; SIGNATURE of a row block
(R543) from the device identity key and bytes 0 to 159, and the first 16 bytes of its SHA-384: functions of their arguments, left
uninterpreted (DESIGN CHOICE, log entry 74). -/
opaque telTag : Nat → Nat → List Nat → Nat
opaque rowSign : Nat → List Nat → Nat
opaque rowHash : List Nat → Nat

/-- Slot 0 device certificate chain (R532): its length and bytes; a digest of a chain (DESIGN CHOICE, log entry 74). -/
opaque chain0Len : Nat
opaque chain0 : Nat → Nat
opaque chainDigest : List Nat → Nat
/-- Measurement 1 (R534): the boot ROM (DESIGN CHOICE, log entry 74). -/
opaque bootRomDigest : Nat
/-- Measurement 7: the exporter of a session, by its number and the frame of its opening (DESIGN CHOICE, log entry 74)
(DESIGN CHOICE, log entry 74). -/
opaque exporter : Nat → Nat → Nat
/-- Signature of an SPDM response (R533) by the device identity key over its content and the request's nonce (DESIGN CHOICE, log entry 74). -/
opaque spdmSign : Nat → List Nat → Nat → Nat

end Config

end Sys2Proof
end

