-- ==== Sys2Proof/Machine/Parts/Valves.lean ====
section
/-! DEFINITION. The valve banks and channels (R410 to R432). -/

namespace Sys2Proof

/-- Bank states (R421). -/
inductive BankState where
  | off | on | tripped | hot | failed
  deriving DecidableEq, Repr

/-- A bank (R410, R421, R431). -/
structure ValveBank where
  state : BankState := .off
  /-- FAILED because a low-side switch failed on. -/
  switchFailed : Bool := false
  thermWarn : Bool := false
  hsMa : Nat := 0
  mv : Nat := 0
  temp : Option Int := none
  tripFrames : List Nat := []
  trips : Nat := 0
  peaks : Nat := 0
  trippedAt : Nat := 0
  coolSince : Option Nat := none
  deriving DecidableEq, Repr

/-- DRIVE of a channel (R413, R432). -/
inductive Drive where
  | released | waiting | peak | hold | releasing
  deriving DecidableEq, Repr

/-- A valve channel (R411 to R420, R432). -/
structure ValveCh where
  drive : Drive := .released
  /-- 0 not failed; else FAIL_REASON of R432. -/
  reason : Nat := 0
  moved : Bool := false
  missRun : Nat := 0
  dutyOver : Bool := false
  /-- Commands of the four classes (R412): leak, maintenance, spray, SET_VALVE. true energises. -/
  c0 : Bool := false
  c1 : Option Bool := none
  c2 : Bool := false
  c3 : Option Bool := none
  /-- Frame in which the energise request now waiting came into force. -/
  since : Option Nat := none
  /-- Staged for the next frame's period start: true energise, false release (R413, R414). -/
  staged : Option Bool := none
  /-- Frame of the last energising edge. -/
  edge : Nat := 0
  /-- R417: the movement window of the present energisation has not been judged. -/
  window : Bool := false
  /-- Frame in which the release took effect. -/
  releasedAt : Nat := 0
  ma : Nat := 0
  dipTime : Nat := 0xFFFF
  dipDepth : Nat := 0
  offMv : Nat := 0
  /-- R420: 60 buckets of 1 s, newest first, and the open one, in uJ. -/
  buckets : List Nat := []
  openBucket : Nat := 0
  edges : Nat := 0
  misses : Nat := 0
  lastEdge : Nat := 0
  waitFrames : Nat := 0
  lastResult : Nat := 0
  deriving DecidableEq, Repr

/-- The valve drive (R410 to R433). -/
structure Valves where
  banks : List ValveBank := List.replicate 6 {}
  ch : List ValveCh := List.replicate 48 {}
  counters : List Nat := List.replicate 16 0
  deriving DecidableEq, Repr

end Sys2Proof
end

