-- ==== Sys2Proof/Machine/State.lean ====
section
/-! DEFINITION. The block's state. -/

namespace Sys2Proof.Machine

/-- Why the block stops. It has no constructor: the manual gives every command of the table an effect, so no command
stops the block. -/
inductive Fault : Type
  deriving DecidableEq, Repr

/-- Why a command has no meaning. -/
inductive Refusal where
  /-- Raised by no arm: every row of the table has its meaning. It would be safe: it would claim nothing. -/
  | notModelled (mnemonic : String)
  deriving DecidableEq, Repr

/-- What step 4 of the Guard phase latches for the status window (R42, R588): every part that the window shows. -/
structure Latch where
  seq : Sequencer := {}
  wall : Wall := {}
  sched : Sched := {}
  key : Key := {}
  img : Image := {}
  pow : Power := {}
  thermal : Thermal := {}
  log : Log := {}
  maint : Maint := {}
  heat : Heat := {}
  caps : Caps := {}
  plan : Plan := {}
  plant : Plant := {}
  eng : Engine := {}
  ctl : Control := {}
  pump : Pumps := {}
  can : Can := {}
  link : Links := {}
  valve : Valves := {}
  leak : Leak := {}
  pair : PairSt := {}
  sec : Security := {}
  mgmt : Mgmt := {}
  deriving DecidableEq, Repr

structure State where
  free : Nat := 0
  seq : Sequencer := {}
  wall : Wall := {}
  sched : Sched := {}
  key : Key := {}
  img : Image := {}
  pow : Power := {}
  thermal : Thermal := {}
  log : Log := {}
  maint : Maint := {}
  heat : Heat := {}
  caps : Caps := {}
  plan : Plan := {}
  plant : Plant := {}
  eng : Engine := {}
  ctl : Control := {}
  pump : Pumps := {}
  can : Can := {}
  link : Links := {}
  valve : Valves := {}
  leak : Leak := {}
  pair : PairSt := {}
  sec : Security := {}
  mgmt : Mgmt := {}
  /-- R42, R588: none before the first Guard phase. -/
  latch : Option Latch := none
  sent : List Tx := []
  pending : List Instr := []
  deriving DecidableEq, Repr

def State.reset : State := {}

end Sys2Proof.Machine
end

