-- ==== Sys2Proof/Machine/Codes.lean ====
section
/-! DEFINITION. The numbers that the status window, records and messages give to the states of the parts, and the fixed
attributes of clients and entries. -/

namespace Sys2Proof

def SendState.code : SendState → Nat
  | .free => 0 | .waiting => 1 | .sending => 2 | .sent => 3 | .cancelled => 4 | .expired => 5 | .dropped => 6

def CanState.code : CanState → Nat
  | .off => 0 | .restricted => 1 | .normal => 2 | .busOff => 3

def Response.code : Response → Nat
  | .absent => 0 | .notAttested => 1 | .responsive => 2 | .unresponsive => 3

/-- Every cause released. -/
def FloorLine.asserted (f : FloorLine) : Bool := f.leak || f.row || f.thermal || f.violation

def LoopState.code : LoopState → Nat
  | .off => 0 | .idle => 1 | .run => 2 | .frozen => 3

def ProbeState.code : ProbeState → Nat
  | .idle => 0 | .armed => 1 | .post => 2 | .done => 3

/-- The phase's place in the order of R596 (counters 0 to 3). -/
def Phase.index : Phase → Nat
  | .ingest => 0 | .compute => 1 | .emit => 2 | .guard => 3

/-- The client's place in the table of R41 (R596 counters 4 to 16). -/
def Client.index : Client → Nat
  | .beacon => 0 | .plantInput => 1 | .canSnapshot => 2 | .telemetry => 3 | .engine => 4
  | .estimator => 5 | .allocator => 6 | .control => 7 | .leak => 8 | .planSlice => 9
  | .plantOutput => 10 | .canStage => 11 | .bookkeeping => 12

/-- The phase a client works in (R41). -/
def Client.phase : Client → Phase
  | .beacon | .plantInput | .canSnapshot | .telemetry => .ingest
  | .engine | .estimator | .allocator | .control | .leak | .planSlice => .compute
  | .plantOutput | .canStage => .emit
  | .bookkeeping => .guard

/-- All clients in the order of R41. -/
def Client.all : List Client :=
  [.beacon, .plantInput, .canSnapshot, .telemetry, .engine, .estimator, .allocator, .control,
   .leak, .planSlice, .plantOutput, .canStage, .bookkeeping]

/-- The PLL whose clock a client runs on (R637); none for the reference clock. The leak logic's
adaptation stage needs the core clock, so the client overruns without it; its decision stage runs on the reference
and goes on (`compute`). -/
def Client.pll : Client → Option Pll
  | .beacon => some .link
  | .plantInput => some .analog
  | .canSnapshot => some .can
  | .engine => some .engine
  | .control => some .control
  | .bookkeeping => none
  | .leak | .telemetry | .estimator | .allocator | .planSlice | .plantOutput | .canStage => some .core

/-- SEQ_STATE as the status window codes it (R596). -/
def SeqState.code : SeqState → Nat
  | .normal => 0 | .safeHold => 1 | .holdLocked => 2

def WallMark.code : WallMark → Nat
  | .locked => 0 | .holdover => 1 | .degraded => 2 | .notTai => 3

def EntryState.code : EntryState → Nat
  | .pending => 0 | .executed => 1 | .dropped => 2 | .skipped => 3

def PageState.code : PageState → Nat
  | .free => 0 | .held => 1 | .draining => 2 | .retired => 3

def TenantState.code : TenantState → Nat
  | .disabled => 0 | .active => 1 | .quarantine => 2 | .released => 3

def LeakInState.code : LeakInState → Nat
  | .dry => 0 | .wet => 1 | .fault => 2

def IsoState.code : IsoState → Nat
  | .isOpen => 0 | .closing => 1 | .checking => 2 | .held => 3 | .notHolding => 4

def PortState.code : PortState → Nat
  | .off => 0 | .training => 1 | .attesting => 2 | .config => 3 | .up => 4 | .quarantine => 5 | .failed => 6

def LogState.code : LogState → Nat
  | .opening => 0 | .isOpen => 1 | .degraded => 2 | .lastWordsOnly => 3

def SessRole.code : SessRole → Nat
  | .none => 0 | .observer => 1 | .facility => 2 | .owner => 3

def Role.code : Role → Nat
  | .none => 0 | .standby => 1 | .primed => 2 | .taking => 3 | .control => 4 | .handing => 5

def RowMode.code : RowMode → Nat
  | .fast => 0 | .steady => 1 | .feast => 2

def RowMode.ofCode (n : Nat) : RowMode := if n = 0 then .fast else if n = 1 then .steady else .feast

def PlanState.code : PlanState → Nat
  | .wait => 0 | .surrogate => 1 | .held => 2 | .fallback => 3 | .stopped => 4

/-- START_STATE as the status window codes it (R142). A core that does not run shows nothing; 0 stands for it. -/
def StartState.code : StartState → Nat
  | .powerUp => 0 | .limp => 1 | .noImage => 2 | .arming => 3 | .standby => 4 | .control => 5 | .held => 6
  | .dead => 0

def RailState.code : RailState → Nat
  | .off => 0 | .ready => 1 | .failed => 2 | .lost => 3

def DomState.code : DomState → Nat
  | .off => 0 | .on => 1 | .failed => 2 | .cycling => 3

def ElemState.code : ElemState → Nat
  | .absent => 0 | .run => 1 | .retry => 2 | .failed => 3 | .unavailable => 4

def LifeCycle.code : LifeCycle → Nat
  | .unenrolled => 0 | .enrolled => 1 | .returned => 2

def BankState.code : BankState → Nat
  | .off => 0 | .on => 1 | .tripped => 2 | .hot => 3 | .failed => 4

def Drive.code : Drive → Nat
  | .released => 0 | .waiting => 1 | .peak => 2 | .hold => 3 | .releasing => 4

/-- All kinds. -/
def Entry.all : List Entry :=
  [.identity, .start, .image, .eth, .mgmt, .session, .frame, .epoch, .sched, .power, .rail, .domain, .thermal, .plan,
   .planLoop, .horizon, .heat, .heatLoop, .heatTenant, .cap, .cls, .pace, .page, .site] ++
  [.engine, .breach, .graph, .shed, .portControl, .portElement, .loop, .traceControl, .probe, .trace, .link, .pumps,
   .pump, .fan, .group, .zone, .spray, .valves, .bank, .valve, .leak, .leakLoop, .rope, .floatIn] ++
  [.can, .canChannel, .hp, .slot, .cellMap, .mirror, .pair, .security, .secTenant, .telemetry, .log, .activity,
   .lastWords, .logWindow]

end Sys2Proof
end

