-- ==== Sys2Proof/Machine/Ops.lean ====
section
/-! DEFINITION. The named operations that every family shares: lists by index, row and wall time, posting an event
(R557, R559), the last-words buffer (R562), sending, and drawing a free value. -/

namespace Sys2Proof.Machine

/-- The list with element `i` replaced by `f` of it. -/
def upd {α : Type} (l : List α) (i : Nat) (f : α → α) : List α := l.modify i f

/-- `f` applied to every element together with its index. -/
def mapIdx {α β : Type} (l : List α) (f : Nat → α → β) : List β := l.mapIdx f

/-- Indices of the elements that satisfy `p`. -/
def indicesWhere {α : Type} (l : List α) (p : Nat → α → Bool) : List Nat :=
  (List.range l.length).filter fun i => match l[i]? with
    | some a => p i a
    | none => false

/-- The least of a nonempty list of naturals, or `d`. -/
def listMin (d : Nat) (l : List Nat) : Nat := match l with
  | [] => d
  | a :: t => t.foldl min a

/-- The greatest of a list of naturals, or 0. -/
def listMax (l : List Nat) : Nat := l.foldl max 0

/-- Insertion sort by a strict order. -/
def insertBy {α : Type} (lt : α → α → Bool) (a : α) : List α → List α
  | [] => [a]
  | b :: t => if lt a b then a :: b :: t else b :: insertBy lt a t

def sortBy {α : Type} (lt : α → α → Bool) : List α → List α
  | [] => []
  | a :: t => insertBy lt a (sortBy lt t)

/-- Little-endian bytes of a number (R8). -/
def leBytes : Nat → Nat → List Nat
  | 0, _ => []
  | k + 1, n => n % 256 :: leBytes k (n / 256)

/-- The number that bytes spell, least significant first (R8). -/
def leNat : List Nat → Nat
  | [] => 0
  | b :: t => b % 256 + 256 * leNat t

/-- Row time in ns (R55). -/
def rowNs (s : State) : Nat := s.seq.rowT / 10000

/-- Wall time is valid (R57). -/
def wallValid (s : State) : Bool := s.wall.epoch != 0

/-- Wall time at the boundary of the frame in progress, ns (R56). -/
def wallNow (s : State) : Int := (rowNs s : Int) + s.wall.offset

/-- WALL_MARK (R596): not TAI, then HOLDOVER, then DEGRADED, then locked. -/
def wallMark (s : State) : WallMark :=
  if s.wall.arb then .notTai else if s.wall.holdover then .holdover
  else if s.wall.degraded then .degraded else .locked

/-- The frame stamp of a record (R557, R58). -/
def frameStamp (s : State) : Nat := if s.seq.frameValid then s.seq.frame else noFrame

/-- A record with the stamps of the present instant (R557, R58). -/
def mkEvent (s : State) (code index sub : Nat) (detail : List Nat) : Event :=
  { code, index, sub, detail := detail.take 24, frame := frameStamp s, rowNs := rowNs s,
    epoch := s.wall.epoch, boot := s.log.boot }

/-- Posts a record to the log queue of 1,024; a full queue drops and counts it (R559). -/
def logPost (l : Log) (e : Event) : Log :=
  if l.queue.length < 1024 then
    { l with queue := l.queue ++ [e], queueMax := max l.queueMax (l.queue.length + 1)
             codesNow := e.code :: l.codesNow }
  else { l with dropped := cnt l.dropped, droppedRun := l.droppedRun + 1 }

/-- Posts event `code` (R557, R559). -/
def post (code : Nat) (s : State) (index : Nat := 0xFFFF) (sub : Nat := 0xFFFF) (detail : List Nat := []) : State :=
  { s with log := logPost s.log (mkEvent s code index sub detail) }

/-- Puts a record into the last-words buffer of 64; a full buffer loses its oldest record (R562). -/
def logLastWord (l : Log) (e : Event) : Log :=
  { l with lastWords := (e :: l.lastWords).take 64 }

/-- The always-on domain writes a last-words record (R562). R52 lets its frame number lie up to one frame back; the model
always stamps the frame in progress (DESIGN CHOICE, log entry 171). -/
def lastWord (code : Nat) (s : State) (detail : List Nat := []) : State :=
  { s with log := logLastWord s.log { mkEvent s code 0xFFFF 0xFFFF detail with stampLag := true } }

/-- Marks the condition (code, index) as seen in this frame. -/
def markRun (code index : Nat) (s : State) : State :=
  { s with log := { s.log with runs :=
      ⟨code, index, s.seq.frame⟩ :: s.log.runs.filter (fun r => r.code ≠ code || r.index ≠ index) } }

/-- The condition was last seen less than `gap` frames ago. -/
def runSeen (code index gap : Nat) (s : State) : Bool :=
  s.log.runs.any fun r => r.code = code && r.index = index && s.seq.frame < r.frame + gap

/-- Logs an event once per run: once until the condition has been absent for 1 s (R177, R347, R612 and others). -/
def postRun (code : Nat) (s : State) (index : Nat := 0xFFFF) (sub : Nat := 0xFFFF) (detail : List Nat := []) : State :=
  if runSeen code index 10000 s then markRun code index s
  else post code (markRun code index s) index sub detail

/-- Logs an event at most once in `gap` frames for each element. -/
def postEvery (gap code : Nat) (s : State) (index : Nat := 0xFFFF) (sub : Nat := 0xFFFF) (detail : List Nat := []) :
    State :=
  if runSeen code index gap s then s else post code (markRun code index s) index sub detail

/-- Sends something. -/
def send (t : Tx) (s : State) : State := { s with sent := t :: s.sent }

/-! Sessions and their notifications. -/

def session (s : State) (i : Nat) : Session := s.mgmt.sessions.getD i {}
def updSession (i : Nat) (f : Session → Session) (s : State) : State :=
  { s with mgmt := { s.mgmt with sessions := upd s.mgmt.sessions i f } }

/-- Queues a notification for every session that has subscribed (R590). -/
def notify (topic index : Nat) (data : List Nat) (s : State) : State :=
  let put := fun (x : Session) =>
    if x.isOpen && x.subs.any (fun t => t.1 = topic && (topic ≤ 2 || t.2 = index)) then
      (if x.notes.length < 64 then { x with notes := x.notes ++ [{ topic, index, frame := frameStamp s, data }] }
       else { x with dropped := cnt x.dropped })
    else x
  { s with mgmt := { s.mgmt with sessions := s.mgmt.sessions.map put } }

/-- The number that fields spell (R7). -/
def pack (l : List (Nat × Nat × Int)) : Nat := (l.map fun x => toBits x.2.1 x.2.2 * 2 ^ x.1).sum

/-- Frames that have passed since `f`. -/
def since (s : State) (f : Nat) : Nat := s.seq.frame - f

/-- The module runs the frame sequencer: it has its core and a clock (R40, R114). -/
def sequencerRuns (s : State) : Bool := s.pow.powerGood && s.pow.state != .dead

/-- The module runs its clients: READY is set and the module is in a state after READY (R137). -/
def operating (s : State) : Bool :=
  s.pow.ready && [StartState.arming, .standby, .control, .held].contains s.pow.state

end Sys2Proof.Machine
end

