-- ==== Sys2Proof/Machine/PowerOps.lean ====
section
/-! DEFINITION. Rails, power domains, calibration, backup drive and the local start-up commands (R117 to R126, R130,
R135 to R138). -/

namespace Sys2Proof.Machine

/-- Rail of a switched domain (R117). -/
def domainRail (d : Nat) : Nat :=
  if d < 64 then 4
  else if d < 85 then 3
  else if d < 97 then 2
  else if d < 103 then 6
  else if d < 111 then 6
  else if d < 115 then 6
  else if d < 118 then 1
  else if d < 120 then 7
  else if d = 120 then 4
  else if d = 121 then 5
  else 2

/-- The parent domain on which a domain depends (R122). -/
def domainParent (d : Nat) : Option Nat :=
  if 64 ≤ d ∧ d < 80 then some (80 + (d - 64) / 4)
  else if 80 ≤ d ∧ d < 84 then some 84
  else none

def railReady (s : State) (k : Nat) : Bool := (s.pow.rails.getD k {}).state = .ready

def domainOn (s : State) (d : Nat) : Bool := (s.pow.domains.getD d {}).state = .on

/-- Sets a domain's state, with the frame stamp of the change (R143). -/
def setDomain (d : Nat) (f : Domain → Domain) (s : State) : State :=
  { s with pow := { s.pow with domains := upd s.pow.domains d fun x =>
      let y := f x
      if y.state = x.state then y else { y with lastChange := s.seq.frame % 4294967296 } } }

/-- Domain selection by the image (R121); `bank` says which bank groups the loaded graphs place data in. -/
def domainSelected (img : Image) (bank : Nat → Bool) (d : Nat) : Bool :=
  if d < 64 then
    let l := img.links.getD d {}
    l.present && 1 ≤ l.siteCount
  else if d < 80 then bank (d - 64)
  else if d < 84 then (List.range 4).any fun j => bank (4 * (d - 80) + j)
  else if d = 84 then true
  else if d < 97 then (img.almanacs.getD (d - 85) {}).present
  else if d < 103 then (List.range 8).any fun j => (img.valves.getD (8 * (d - 97) + j) {}).function ≠ 0
  else if d < 111 then img.sensors.any fun c => 1 ≤ c.kind && c.kind ≤ 4 && c.afe = d - 103
  else if d < 115 then
    (img.pumps.getD (d - 111) {}).present || (img.aos.getD (4 + (d - 111)) {}).function ≠ 0
  else if d < 118 then (List.range 8).any fun j => (img.fans.getD (8 * (d - 115) + j) {}).present
  else d < 126

/-- Order in which domains power up: engine control, cluster fabrics, bank groups, the rest (R122). -/
def powerOrder : List Nat :=
  [84, 80, 81, 82, 83] ++ (List.range 16).map (64 + ·) ++ (List.range 64) ++ (List.range 41).map (85 + ·)

/-- Powers one selected domain, or marks it failed with reason 2 (rail) or 3 (parent) (R122). -/
def powerDomain (d : Nat) (s : State) : State :=
  let x := s.pow.domains.getD d {}
  if !x.selected || x.state = .failed then s
  else if !railReady s (domainRail d) then setDomain d (fun y => { y with state := .failed, failReason := 2 }) s
  else match domainParent d with
    | some p =>
      if domainOn s p then setDomain d (fun y => { y with state := .on }) s
      else setDomain d (fun y => { y with state := .failed, failReason := 3 }) s
    | none => setDomain d (fun y => { y with state := .on }) s

/-- Step 9 for the domains (R121, R122). -/
def powerDomains (bank : Nat → Bool) (s : State) : State :=
  let marked := s.pow.domains.mapIdx fun d x => { x with selected := domainSelected s.img bank d }
  powerOrder.foldl (fun t d => powerDomain d t) { s with pow := { s.pow with domains := marked } }

/-- Domains that a rail holds off when it fails or is lost (R119): those it feeds, and all for VIO18 and VCORE. -/
def railHolds (k d : Nat) : Bool := decide (k = 1 ∨ k = 2) || decide (domainRail d = k)

/-- The domains that a failed or lost rail holds off (R119): off and failed with reason 2, selected or not. -/
def railDomainsOff (k : Nat) (s : State) : State :=
  let off := fun (d : Nat) (x : Domain) =>
    if railHolds k d then
      { x with state := .failed, failReason := 2
               lastChange := if x.state = .failed then x.lastChange else s.seq.frame % 4294967296 }
    else x
  { s with pow := { s.pow with domains := s.pow.domains.mapIdx off } }

def calDevs (c : AfeCal) : List Int := [c.adcOffset, c.adcGain, c.rtd, c.current, c.rope]

/-- Limits of the front-end items in ppm, in the order of R125's table. -/
def calLimits : List Nat := [5000, 10000, 2000, 2000, 10000]

/-- Limit of the valve current sense, ppm, and of the SerDes lock, us (R125). -/
def senseLimit : Nat := 20000
def lockLimit : Nat := 2000

/-- Items of a front-end group outside their limit (R125). -/
def calItems (c : AfeCal) : List Bool := List.zipWith (fun d l => decide (l < d.natAbs)) (calDevs c) calLimits

/-- Items that have drifted by more than half of their limit since start-up (R126). -/
def calDrifts (start now : AfeCal) : List Bool :=
  (List.zipWith (fun a b => 2 * (b - a).natAbs) (calDevs start) (calDevs now)).zipWith (fun d l => decide (l < d)) calLimits

/-- Event 0x2030 for each item of a front-end group newly out of limit (R125). The item numbers in the event follow the
order of R125's table. -/

def calEvents (g : Nat) (old new : AfeCal) (s : State) : State :=
  (List.range 5).foldl
    (fun t i => if (calItems new).getD i false && !(calItems old).getD i false then post 0x2030 t g i else t) s

/-- The group's result is stored (R126). -/
def storeCal (g : Nat) (c : AfeCal) (s : State) : State :=
  { s with pow := { s.pow with calAfe := upd s.pow.calAfe g (fun _ => c) } }

/-- Domain of a link port or of the pair port (R5). -/
def portDomainOf (p : Nat) : Nat := if p < 64 then p else 120

/-- SerDes calibration of a port or the pair port (64): the result is stored; a failure is marked, event 0x2030. -/
def storeLock (p us : Nat) (s : State) : State :=
  let bad := decide (lockLimit < us)
  let s1 := { s with pow := { s.pow with
    serdesLock := upd s.pow.serdesLock p (fun _ => us)
    calPort := if p < 64 then upd s.pow.calPort p (fun _ => bad) else s.pow.calPort
    calPair := if p < 64 then s.pow.calPair else bad } }
  if bad then post 0x2030 s1 p 6 else s1

/-- Valve current sense of a channel: stored; a failure is marked, event 0x2030. -/
def storeSense (c : Nat) (dev : Int) (s : State) : State :=
  let bad := decide (senseLimit < dev.natAbs)
  let s1 := { s with pow := { s.pow with
    valveSense := upd s.pow.valveSense c (fun _ => dev), calValve := upd s.pow.calValve c (fun _ => bad) } }
  if bad then post 0x2030 s1 c 5 else s1

/-- Step 7 (R125): the items of every domain that `powered` names, which step 9 powers (DEDUCED, log entry 177). -/
def calibrate (powered : Nat → Bool) (f : StartFacts) (s : State) : State :=
  let group := fun (t : State) (g : Nat) =>
    let c := f.afe.getD g {}
    if powered (103 + g) then
      (let u := storeCal g c (calEvents g {} c t)
       { u with pow := { u.pow with calStart := upd u.pow.calStart g (fun _ => c) } })
    else t
  let s1 := (List.range 8).foldl group s
  let s2 := (List.range 48).foldl
    (fun t c => if powered (97 + c / 8) then storeSense c (f.valveSense.getD c 0) t else t) s1
  (List.range 65).foldl (fun t p => if powered (portDomainOf p) then storeLock p (f.serdesLock.getD p 0) t else t) s2

/-- A port or the pair port that failed SerDes calibration is switched off with reason 5 (R125). -/
def calibrationDomains (s : State) : State :=
  let fail (d : Nat) (t : State) : State :=
    if domainOn t d then setDomain d (fun x => { x with state := .failed, failReason := 5 }) t else t
  let s1 := (List.range 64).foldl (fun t p => if s.pow.calPort.getD p false then fail p t else t) s
  if s.pow.calPair then fail 120 s1 else s1

/-- A fault response cycles a powered domain (R124): event 0x2024. -/
def cycleDomain (d : Nat) (s : State) : State :=
  if domainOn s d then
    post 0x2024 (setDomain d (fun x => { x with state := .cycling, cycles := satAdd 16 x.cycles 1 }) s) d
  else s

/-- A cycle that fails (R124): the third in 600 s leaves the domain off, failed with reason 4; else it cycles again. -/
def failCycle (d : Nat) (s : State) : State :=
  let x := s.pow.domains.getD d {}
  let recent := s.seq.frame :: x.failedCycles.filter fun f => s.seq.frame - f < 6000000
  if 3 ≤ recent.length then
    post 0x2025 (setDomain d (fun y => { y with state := .failed, failReason := 4, failedCycles := recent }) s) d
  else
    post 0x2024 (setDomain d (fun y => { y with cycles := satAdd 16 y.cycles 1, failedCycles := recent }) s) d

/-- Warm resets of the last 600 s (R137, R142). -/
def warmResets (s : State) : Nat :=
  s.pow.warmHistory.countP fun t => (rowNs s : Int) - t < 600000000000

/-- Any rail is failed or lost (R138). -/
def railFailed (s : State) : Bool := s.pow.rails.any fun r => r.state = .failed || r.state = .lost

/-- Both internal fans failed (R632). -/
def bothFansFailed (s : State) : Bool := s.thermal.fans.all (·.failed)

/-- The ADC of front-end group g converts: its domain is on and its offset and gain passed (R125). -/
def adcValid (s : State) (g : Nat) : Bool :=
  let c := calItems (s.pow.calAfe.getD g {})
  domainOn s (103 + g) && !(c.getD 0 false) && !(c.getD 1 false)

/-- A sensor of front-end group g of the given item can be read: the group's ADC converts and no item that bears on it
failed (R125). `item` is 2 for an RTD, 3 for a current loop, 4 for a rope; floats need only the ADC. -/
def afeValid (s : State) (g item : Nat) : Bool :=
  adcValid s g && !(calItems (s.pow.calAfe.getD g {})).getD item false

/-! Commands of this chapter that act on the power part alone. -/

/-- Event 0x2031 for each item that a calibration newly finds drifted (R126; DEDUCED, log entry 177). -/
def driftEvents (g : Nat) (start old new : AfeCal) (s : State) : State :=
  (List.range 5).foldl (fun t i =>
    if (calDrifts start new).getD i false && !(calDrifts start old).getD i false then post 0x2031 t g i else t) s

/-- A sensor calibration runs on a sensor of the group, whose items have not run since it began (R567 activity 6;
DEDUCED, log entry 199). -/
def calibrationAsked (s : State) (group : Nat) : Bool :=
  s.maint.activities.any fun a => a.state = .running && a.code = 6 && (s.img.sensors.getD a.target {}).afe = group &&
    decide (s.pow.calFrame.getD group 0 < a.startFrame)

/-- PERIODIC_CALIBRATION (R126, R567): the analog items of a group, every 600 s and for a sensor calibration, one group
per frame. -/
def execPeriodicCalibration (group : Nat) (adc : AdcCal) (sources : SourceCal) (s : State) :
    Host.Outcome State Fault Refusal :=
  let result : AfeCal := ⟨adc, sources⟩
  if operating s && domainOn s (103 + group) && group < 8 &&
      (6000000 ≤ since s (s.pow.calFrame.getD group 0) || calibrationAsked s group) &&
      s.pow.calFrame.all (· ≠ s.seq.frame) then
    let old := s.pow.calAfe.getD group {}
    let s1 := storeCal group result (calEvents group old result s)
    .next (driftEvents group (s.pow.calStart.getD group {}) old result
      { s1 with pow := { s1.pow with calFrame := upd s1.pow.calFrame group (fun _ => s.seq.frame) } })
  else .next s

/-- UPPER_FILL_COMPLETE (R127): the upper 15 GiB are filled after READY. -/
def execUpperFillComplete (s : State) : Host.Outcome State Fault Refusal :=
  if s.pow.ready && s.pow.ddrOk && domainOn s 121 then .next { s with pow := { s.pow with upperFill := true } }
  else .next s

/-- BACKUP_DRIVE_START (R135): in LIMP or NO_IMAGE, after 30 frames without any claim, outputs 0 to 3 are driven at
3.0 V + 1.0 V x SPD_STRAP and the run outputs are asserted. -/
def execBackupDriveStart (s : State) : Host.Outcome State Fault Refusal :=
  if (s.pow.state = .limp ∨ s.pow.state = .noImage) ∧ 31 ≤ s.pow.noClaimFrames ∧ !s.pow.backupDrive then
    .next { s with pow := { s.pow with backupDrive := true, backupMv := 3000 + 1000 * s.pow.speedStrap } }
  else .next s

/-- The backup stage releases its outputs (R135). -/
def releaseBackup (s : State) : State :=
  { s with pow := { s.pow with backupDrive := false, backupMv := 0 } }

/-- BACKUP_DRIVE_RELEASE (R135): a claim appeared on the bus. -/
def execBackupDriveRelease (s : State) : Host.Outcome State Fault Refusal :=
  let s1 := releaseBackup s
  .next { s1 with pow := { s1.pow with noClaimFrames := 0 } }

/-- BACKUP_HEARTBEAT_LOSS (R135): the backup heartbeat stood still for 1 ms, so the stage drives nothing. -/
def execBackupHeartbeatLoss (s : State) : Host.Outcome State Fault Refusal := .next (releaseBackup s)

/-- CRYSTAL_TRY (R136, R137): in LIMP, every 1 s of the module's own count, at most 10 times. -/
def execCrystalTry (pass : Bool) (s : State) : Host.Outcome State Fault Refusal :=
  if s.pow.state = .limp ∧ s.pow.xtalTries < 10 ∧ s.pow.lastTry + 1000000000 ≤ rowNs s then
    let s1 := { s with pow := { s.pow with xtalTries := s.pow.xtalTries + 1, lastTry := rowNs s } }
    if pass then .next (post 0x2012 { s1 with pow := { s1.pow with resetDue := some 1 } })
    else
      let s2 := post 0x2011 s1
      .next (if s1.pow.xtalTries = 10 then post 0x2013 s2 else s2)
  else .next s

/-- HELD_RELEASE (R137): VANA has been ready for 1 s in HELD, and fewer than 6 warm resets lie in the last 600 s. -/
def execHeldRelease (s : State) : Host.Outcome State Fault Refusal :=
  match s.pow.vanaSince with
  | some f =>
    if s.pow.state = .held ∧ 10000 ≤ since s f ∧ warmResets s < 6 then
      .next { s with pow := { s.pow with resetDue := some 1 } }
    else .next s
  | none => .next s


end Sys2Proof.Machine
end

