-- ==== Sys2Proof/Machine/Sites.lean ====
section
/-! DEFINITION. Sites, links and loops: numbering (R3), the image's slots, and what a site's silence makes of its cap
(R153, R375). -/

namespace Sys2Proof.Machine

/-- Activities whose hold on their elements stands: those that run, and those that have ended in this frame (R573). -/
def holding (s : State) : List Activity := s.maint.activities.filter (·.state = .running) ++ s.maint.dropping

/-- A stroke test of a loop. -/
def strokeOf (l : Nat) (a : Activity) : Bool := a.code = 2 && a.target % 32 = l

def linkOf (site : Nat) : Nat := site / 32

def linkCfg (s : State) (l : Nat) : LinkCfg := s.img.links.getD l {}

def slotCfg (s : State) (site : Nat) : SlotCfg := (linkCfg s (linkOf site)).slots.getD (site % 32) {}

/-- Rack loop of a site (R89). -/
def siteLoop (s : State) (site : Nat) : Nat := (linkCfg s (linkOf site)).loop

def sitePresent (s : State) (site : Nat) : Bool := (linkCfg s (linkOf site)).present && (slotCfg s site).present

def siteCount (s : State) : Nat := s.heat.sites.length

def presentSites (s : State) : List Nat := (List.range (siteCount s)).filter (sitePresent s)

def loopSites (s : State) (l : Nat) : List Nat := (presentSites s).filter fun i => siteLoop s i = l

def siteP (s : State) (i : Nat) : SitePages := s.heat.sites.getD i {}
def siteC (s : State) (i : Nat) : SiteCaps := s.caps.sites.getD i {}
def loopP (s : State) (l : Nat) : LoopPages := s.heat.loops.getD l {}
def tenantSt (s : State) (t : Nat) : TenantSt := s.heat.tenants.getD t {}
def tenantCfg (s : State) (t : Nat) : TenantCfg := s.img.tenants.getD t {}

def updSiteP (i : Nat) (f : SitePages → SitePages) (s : State) : State :=
  { s with heat := { s.heat with sites := upd s.heat.sites i f } }
def updSiteC (i : Nat) (f : SiteCaps → SiteCaps) (s : State) : State :=
  { s with caps := { s.caps with sites := upd s.caps.sites i f } }
def updLoopP (l : Nat) (f : LoopPages → LoopPages) (s : State) : State :=
  { s with heat := { s.heat with loops := upd s.heat.loops l f } }
def updTenant (t : Nat) (f : TenantSt → TenantSt) (s : State) : State :=
  { s with heat := { s.heat with tenants := upd s.heat.tenants t f } }

/-- Counter k of the heat pages block (R174). -/
def heatCount (k n : Nat) (s : State) : State :=
  { s with heat := { s.heat with counters := upd s.heat.counters k fun x => satAdd 32 x n } }

/-- Counter k of the cap summary (R345). -/
def capCount (k : Nat) (s : State) : State :=
  { s with caps := { s.caps with counters := upd s.caps.counters k cnt } }

def responsive (s : State) (i : Nat) : Bool := (siteC s i).response = .responsive

/-- E + G of a site (R331). -/
def siteEG (s : State) (i : Nat) : Nat := (siteC s i).est + (siteC s i).guardBand

/-- Silence of a site in frames (R375): n - c - 1 from the last echo c; before any echo, from the frame before the
first record since the port reached UP; with no record at all the fallback applies at once. -/
def silence (s : State) (i : Nat) : Nat :=
  let c := siteC s i
  if c.echoed then s.seq.frame - c.echo - 1
  else match c.firstRecord with
    | some f => s.seq.frame - f
    | none => 200

/-- The last cap sent, as cover and the assumed cap take it (R375). -/
def lastCapSent (s : State) (i : Nat) : Nat :=
  let c := siteC s i
  if c.echoed then c.lastSent else max (slotCfg s i).fallbackCap c.highestSent

/-- The assumed cap of an unresponsive site (R153). -/
def assumedCap (s : State) (i : Nat) : Nat :=
  if silence s i < 200 then lastCapSent s i else (slotCfg s i).fallbackCap

end Sys2Proof.Machine
end

