-- ==== Sys2Proof/Machine/Sensors.lean ====
section
/-! DEFINITION. Sampled inputs: their values, when they are missing, and their tolerances (R14, R90, R125, R292,
R625). -/

namespace Sys2Proof.Machine

def sensorCfg (s : State) (i : Nat) : SensorCfg := s.img.sensors.getD i {}

def sensor (s : State) (i : Nat) : Sensor := s.plant.sensors.getD i {}

def sensorMissing (s : State) (i : Nat) : Bool := !(sensor s i).valid

/-- The value of a sensor that is not missing. -/
def sensorValue (s : State) (i : Nat) : Option Int := if (sensor s i).valid then some (sensor s i).value else none

/-- Range of a quantity's encoding (R13); a quantity without one is held in S32 (log entry 30). -/
def quantityRange (q : Nat) : Int × Int :=
  if q = 0 then (-32767, 32767) else if q = 1 ∨ q = 2 then (0, 65535) else (-2147483648, 2147483647)

/-- An input is saturated at the range of its quantity's encoding (R13, R90). -/
def satQuantity (q : Nat) (x : Int) : Int := clampI (quantityRange q).1 (quantityRange q).2 x

/-- Tolerance of an input in 1/10,000 of a count (R625). An RTD reads in 1/64 C: 0.15 C is 9.6 counts up to 100 C and
0.30 C is 19.2 counts above. A kind without a row in R625 has none. -/
def toleranceExact (c : SensorCfg) (value : Int) : Nat :=
  match c.kind with
  | 1 => if value ≤ 6400 then 96000 else 192000
  | 2 => 15 * (c.scaleHigh - c.scaleLow).natAbs
  | 5 => 10000
  | _ => 0

/-- The tolerance in counts, rounded up (R239). -/
def tolerance (c : SensorCfg) (value : Int) : Nat := ceilDiv (toleranceExact c value) 10000

/-- A current loop's value from its current in uA (R90), rounded to nearest. -/
def loopValue (c : SensorCfg) (ua : Nat) : Int :=
  c.scaleLow + roundDiv (((ua : Int) - 4000) * (c.scaleHigh - c.scaleLow)) 16000

/-- A CAN value (R90). -/
def canValue (c : SensorCfg) (raw : Int) : Int :=
  satQuantity c.quantity (roundDiv (c.scaleLow * 65536 + raw * c.scaleHigh) 65536)

end Sys2Proof.Machine
end

