-- ==== Sys2Proof/Machine/Control.lean ====
section
/-! DEFINITION. The control engine: profiles, control law, loop states and trace probes (R289 to R317). -/

namespace Sys2Proof.Machine

def ctlCfg (s : State) (i : Nat) : CtlCfg := s.img.loops.getD i {}
def ctl (s : State) (i : Nat) : CtlLoop := s.ctl.loops.getD i {}
def updCtl (i : Nat) (f : CtlLoop → CtlLoop) (s : State) : State :=
  { s with ctl := { s.ctl with loops := upd s.ctl.loops i f } }

def ctlOn (c : CtlCfg) : Bool := c.present && c.enabled

/-- The loops of the image that are enabled, ascending. -/
def enabledLoops (s : State) : List Nat := (List.range s.img.loops.length).filter fun i => ctlOn (ctlCfg s i)

/-- rnd of R301. -/
def rnd (x : Int) (k : Nat) : Int := roundDiv x (2 ^ k)

def sat32 (x : Int) : Int := satS 32 x

def signOf (x : Int) : Int := if 0 < x then 1 else if x < 0 then -1 else 0

/-- Division that rounds toward zero (R298). -/
def truncDiv (a b : Int) : Int := if b = 0 then 0 else Int.tdiv a b

/-- One frame of the profile generator (R297, R298). Position, velocity and acceleration are exact integers; no rule
states what S64 does with a position that overshoots its range (DESIGN CHOICE, log entry 185). -/
def profileStep (c : CtlCfg) (g : Int) (p : CtlLoop) : CtlLoop :=
  let vmax : Int := c.vLimit * 2 ^ 16
  let amax : Int := c.aLimit * 2 ^ 8
  let jmax : Int := c.jLimit
  let lag : Int := (ceilDiv amax.toNat jmax.toNat : Nat)
  let goal := g * 2 ^ 32
  let d := goal - p.x
  let dist : Int := max 0 ((d.natAbs : Int) - (p.v.natAbs : Int) * lag)
  let vt := signOf d * min vmax (max amax (isqrtGo (2 * amax * dist).toNat 64 0 : Nat))
  let dv := vt - p.v - truncDiv (p.a * (p.a.natAbs : Int)) (2 * jmax)
  let at_ := clampI (-amax) amax (truncDiv dv lag)
  let a := p.a + clampI (-jmax) jmax (at_ - p.a)
  let v := clampI (-vmax) vmax (p.v + a)
  if d ≠ 0 ∧ 0 ≤ (p.x + v - goal) * signOf d then { p with x := goal, v := 0, a := 0 }
  else { p with x := p.x + v, v := v, a := a }

/-- r of R299. -/
def profileSp (p : CtlLoop) : Int := sat32 (roundDiv p.x (2 ^ 32))

/-- The control law (R300 to R302) on input y and set-point r in frame `n`. -/
def controlLaw (c : CtlCfg) (y r : Int) (n : Nat) (p : CtlLoop) : CtlLoop :=
  let e := sat32 (r - y)
  let uff := sat32 (rnd (c.kff * r) c.shFf)
  let up := sat32 (rnd (c.kp * e) c.shP)
  let yPrev := if p.start.isSome then y else p.yPrev
  let dy := sat32 (yPrev - y)
  let ds := if p.start.isSome then 0 else sat32 (p.dstate + rnd (dy - p.dstate) c.dFilter)
  let ud := sat32 (rnd (c.kd * ds) c.shD)
  let di := satS 48 (rnd (c.ki * e * 2 ^ 16) c.shI)
  let iMin := c.iMin * 2 ^ 16
  let iMax := c.iMax * 2 ^ 16
  let ifine := match p.start with
    | some a => clampI c.iMin c.iMax (a - uff - up) * 2 ^ 16
    | none => if (0 < p.uSat ∧ 0 < di) ∨ (p.uSat < 0 ∧ di < 0) then p.ifine else clampI iMin iMax (p.ifine + di)
  let ui := sat32 (roundDiv ifine (2 ^ 16))
  let usum := sat32 (uff + up + ui + ud)
  let u := clampI c.outMin c.outMax usum
  let us := signOf (usum - u)
  { p with e := e, uff := uff, up := up, dstate := ds, ud := ud, ifine := ifine, ui := ui, usum := usum, u := u
           uSat := us, yPrev := y, y := y, r := r, start := none, iClamped := ifine = iMin || ifine = iMax
           executions := cnt p.executions, satExec := if us = 0 then p.satExec else cnt p.satExec, lastExec := n }

/-- The CAN-connected valve that a loop drives: channel and node (R306, R485). -/
def loopValve (s : State) (c : CtlCfg) : Nat × Nat :=
  if c.outKind = 3 then
    let l := s.img.topology.loops.getD c.outIndex {}
    (l.balCh, l.balNode)
  else (s.img.topology.cvCh, s.img.topology.cvNode)

def canValveOf (s : State) (x : Nat × Nat) : Option CanValve :=
  s.can.valves.find? fun v => v.channel = x.1 && v.node = x.2

/-- A CAN-connected valve answers (R306, R485). -/
def canValveOk (s : State) (x : Nat × Nat) : Bool := match canValveOf s x with
  | some v => !v.stale && !v.fault && (match v.lastStatus with
    | some f => decide (s.seq.frame < f + 1000)
    | none => false)
  | none => false

/-- The power domain of an analog output: AO p and 4 + p belong to pump interface group p (R121). -/
def aoDomain (ao : Nat) : Nat := 111 + ao % 4

/-- The loop drives an analog output: which (R303). -/
def loopAo (s : State) (c : CtlCfg) : Option Nat :=
  if c.outKind = 2 then some c.outIndex
  else if c.outKind = 5 && s.img.topology.cvDrive = .analog then some s.img.topology.cvAo else none

def loopOnCan (s : State) (c : CtlCfg) : Bool := c.outKind = 3 || (c.outKind = 5 && s.img.topology.cvDrive = .can)

/-- Actuator unavailable (R306). -/
def actuatorDown (s : State) (c : CtlCfg) : Bool :=
  if c.outKind = 1 then
    (s.pump.pumps.getD c.outIndex {}).state ≠ .run || !(domainOn s (111 + c.outIndex))
  else match loopAo s c with
    | some ao => !(domainOn s (aoDomain ao))
    | none => if loopOnCan s c then !(canValveOk s (loopValve s c)) else false

/-- The freeze causes of a loop but for that of its cascade target (R306). -/
def ownCause (s : State) (i : Nat) : Nat :=
  let c := ctlCfg s i
  b2n (sensorMissing s c.input) + 2 * b2n (actuatorDown s c) +
  4 * b2n (c.outKind = 3 && (loopP s c.outIndex).isolated)

/-- An analog output's value in 0.01 % of its span. -/
def aoPercent (a : AoCfg) (mv : Nat) : Int :=
  roundDiv (((mv : Int) - a.minMv) * 10000) (a.maxMv - a.minMv)

/-- The present actuator value of R307 at plant control; a loop without an actuator (OUT_KIND 0) has none, so the value
is free (log entry 31). -/
def presentActuator (s : State) (i : Nat) : Int :=
  let c := ctlCfg s i
  let p := s.pump.pumps.getD c.outIndex {}
  if c.outKind = 1 then (if p.analog then (p.speedCmd : Int) else p.speedAct)
  else if c.outKind = 4 then (ctl s c.outIndex).target
  else match loopAo s c with
    | some ao => aoPercent (s.img.aos.getD ao {}) (s.plant.aoMv.getD ao 0)
    | none => if loopOnCan s c then ((canValveOf s (loopValve s c)).getD {}).position
              else Config.loopStart s.free i

/-- Entry to FROZEN (R305, R317). -/
def freezeLoop (i cause : Nat) (held : Option Int) (s : State) : State :=
  let s1 := updCtl i (fun p => { p with state := .frozen, cause := cause, clean := 0, freezes := cnt p.freezes
                                        u := held.getD p.u }) s
  post 0x7001 s1 i cause

/-- Entry to RUN on a present actuator value, which stands until the first execution (R305, R307). -/
def runLoop (i : Nat) (a : Int) (s : State) : State :=
  updCtl i (fun p => { p with state := .run, cause := 0, clean := 0, start := some a, u := a }) s

/-- The state change of one loop with its causes of this frame (R305). A frozen loop counts its frames without a cause;
its return to RUN is LOOP_RESUME. -/
def loopState (i cause : Nat) (s : State) : State :=
  let p := ctl s i
  match p.state with
  | .off => s
  | .idle =>
    if !s.pow.plantControl then s
    else
      let a := presentActuator s i
      if cause = 0 then runLoop i a s else freezeLoop i cause (some a) s
  | .run => if cause = 0 then s else freezeLoop i cause none s
  | .frozen =>
    if cause ≠ 0 then updCtl i (fun q => { q with cause := cause, clean := 0 }) s
    else updCtl i (fun q => { q with cause := 0, clean := min 10 (q.clean + 1) }) s

/-- Depth of a loop above its innermost target: 0 for a loop that drives no loop (R293, at most 4 levels). -/
def cascadeDepth (s : State) : Nat → Nat → Nat
  | 0, _ => 0
  | k + 1, i =>
    let c := ctlCfg s i
    if c.outKind = 4 then cascadeDepth s k c.outIndex + 1 else 0

/-- States of all loops: inner loops first, so that an outer loop freezes with its target (R306, R309); event 0x7003
once for the loops that start (R305). -/
def loopStates (s : State) : State :=
  let s1 := (List.range 4).foldl (fun t d =>
    ((enabledLoops s).filter fun i => cascadeDepth s 4 i = d).foldl (fun u i =>
      let c := ctlCfg u i
      let cause := ownCause u i + 8 * b2n (c.outKind = 4 && (ctl u c.outIndex).state ≠ .run)
      loopState i cause u) t) s
  let s2 := { s1 with free := s1.free + 1 }
  if (enabledLoops s).any fun i => decide ((ctl s i).state = .idle ∧ (ctl s2 i).state = .run) then post 0x7003 s2
  else s2

/-- The profile of one enabled loop in this frame (R298, R305): in IDLE with a missing input it stands at the target. -/
def loopProfile (i : Nat) (s : State) : State :=
  let c := ctlCfg s i
  updCtl i (fun p =>
    if p.state = .off then p
    else if p.state = .idle && sensorMissing s c.input then { p with x := p.target * 2 ^ 32, v := 0, a := 0 }
    else profileStep c p.target p) s

/-- A due loop executes (R289, R291, R300). -/
def loopExecute (i : Nat) (s : State) : State :=
  let c := ctlCfg s i
  let p := ctl s i
  if p.state = .run && s.seq.frame % c.period = i % c.period then
    match sensorValue s c.input with
    | none => s
    | some y =>
      let q := controlLaw c y (profileSp p) s.seq.frame p
      let s1 := updCtl i (fun _ => q) s
      let s2 := if q.uSat ≠ 0 then postRun 0x7010 s1 i else s1
      let s3 := if q.iClamped then postRun 0x7011 s2 i else s2
      if c.outKind = 4 then { s3 with ctl := { s3.ctl with cascade := s3.ctl.cascade ++ [(c.outIndex, q.u)] } } else s3
  else s

/-! Trace probes (R310 to R314). -/

/-- The value of a probe's source (R310), velocity and acceleration rounded as R15 rounds reported values. -/
def probeValue (s : State) (kind index : Nat) : Int :=
  let p := ctl s index
  match kind with
  | 0 => p.e
  | 1 => p.uff
  | 2 => p.up
  | 3 => p.ui
  | 4 => p.ud
  | 5 => p.usum
  | 6 => p.u
  | 7 => profileSp p
  | 8 => sat32 (roundDiv p.v (2 ^ 16))
  | 9 => sat32 (roundDiv p.a (2 ^ 8))
  | 10 => p.target
  | 11 => p.y
  | 12 => p.dstate
  | 13 => (sensorValue s index).getD (-2147483648)
  | _ => p.state.code

/-- A trigger of kinds 1 to 3 (R312). -/
def probeTrigger (s : State) (p : Probe) (now : Int) : Bool :=
  let up (prev : Int) := prev < p.trigLevel && p.trigLevel ≤ now
  let down (prev : Int) := p.trigLevel < prev && now ≤ p.trigLevel
  let rise (prev : Int) := p.trigLevel ≤ now - prev
  let fall (prev : Int) := p.trigLevel ≤ prev - now
  let dir (a b : Bool) := if p.trigDir = 0 then a else if p.trigDir = 1 then b else a || b
  match p.trigKind, p.last with
  | 1, some prev => dir (up prev) (down prev)
  | 2, some prev => dir (rise prev) (fall prev)
  | 3, _ => s.log.codesPrev.any fun c => c &&& p.eventMask = p.eventCode &&& p.eventMask
  | _, _ => false

/-- The value that a probe takes in a frame (R310, R311): in one whose control engine overran, a value of a loop stands
as R308 holds it, and that of a sensor is the one of the frame before (DEDUCED, log entry 185). -/
def probeNow (s : State) (late : Bool) (p : Probe) : Int :=
  let v := probeValue s p.srcKind p.srcIndex
  if late && p.srcKind = 13 then p.last.getD v else v

/-- One frame of a probe that is ARMED or POST; `late` is set in a frame whose control engine overran. -/
def probeStep (s : State) (late fires : Bool) (p : Probe) : Probe :=
  if p.state ≠ .armed && p.state ≠ .post then p
  else
    let now := probeNow s late p
    let store := fires || p.count = 0
    let smp := if store then (now :: p.samples).take 65536 else p.samples
    let p1 := { p with
      samples := smp, last := some now, count := if store then p.decimM1 else p.count - 1
      ovrSamples := if store && late then cnt p.ovrSamples else p.ovrSamples
      lastFrame := if store then s.seq.frame else p.lastFrame }
    if fires then
      let pre := min p.samples.length p.preSamples
      let full := smp.length = 65536 && pre = 65535
      { p1 with state := if full then .done else .post, triggered := true, preTaken := pre
                captures := if full then cnt p1.captures else p1.captures
                trigFrame := s.seq.frame, samples := smp.take (pre + 1) }
    else if p.state = .post && 65536 ≤ smp.length then { p1 with state := .done, captures := cnt p1.captures }
    else p1

/-- Kind 4: a probe fires with the probe it names; at most 32 links of such a chain. -/
def probeFires (s : State) (late : Bool) (ps : List Probe) : Nat → Nat → Bool
  | 0, _ => false
  | k + 1, i =>
    let p := ps.getD i {}
    p.state = .armed && (if p.trigKind = 4 then probeFires s late ps k p.trigProbe
      else probeTrigger s p (probeNow s late p))

/-- All probes at the control engine's commit (R311 to R313). -/
def probesStep (late : Bool) (s : State) : State :=
  let ps := s.ctl.probes
  let fire := (List.range ps.length).map fun i => probeFires s late ps 32 i
  let qs := ps.mapIdx fun i p => probeStep s late (fire.getD i false) p
  let s1 := { s with ctl := { s.ctl with probes := qs } }
  (List.range ps.length).foldl (fun t i =>
    let t1 := if fire.getD i false then post 0x7020 t i else t
    if (ps.getD i {}).state ≠ .done && (qs.getD i {}).state = .done then post 0x7021 t1 i else t1) s1

/-- The control slice of one frame (R289 to R313). -/
def controlSlice (s : State) : State :=
  let s1 := loopStates s
  let s2 := (enabledLoops s1).foldl (fun t i => loopProfile i t) s1
  let s3 := (enabledLoops s2).foldl (fun t i => loopExecute i t) s2
  probesStep false s3

/-- A frame whose control engine overran: the loops' work is discarded and the probes store what is held (R308,
R311). -/
def controlOverrun (s : State) : State := probesStep true s

/-- Target changes at a frame boundary: cascades, then schedule entries, then requests (R293, R296). -/
def applyTargets (s : State) : State :=
  let set (x : Nat × Int) (t : State) : State := updCtl x.1 (fun p => { p with target := x.2 }) t
  let s1 := s.ctl.cascade.foldl (fun t x => set x t) s
  let s2 := (s.ctl.fromSchedule ++ s.ctl.fromRequest).foldl (fun t x => post 0x7005 (set x t) x.1) s1
  { s2 with ctl := { s2.ctl with cascade := [], fromSchedule := [], fromRequest := [] } }

/-- Loops after an image is loaded (R305): IDLE with the profile at the input, or at the target while it is missing. -/
def initLoops (s : State) : State :=
  (List.range s.ctl.loops.length).foldl (fun t i =>
    let c := ctlCfg t i
    if !(ctlOn c) then updCtl i (fun _ => {}) t
    else
      let g := c.spConst
      let x := (sensorValue t c.input).getD g
      updCtl i (fun _ => { state := .idle, target := g, x := x * 2 ^ 32 }) t) s

/-- The module leaves plant control (R305). A loop in IDLE has no freeze cause. -/
def loopsLeaveControl (s : State) : State :=
  { s with ctl := { s.ctl with loops := s.ctl.loops.map fun p =>
      if p.state = .run || p.state = .frozen then { p with state := .idle, start := none, clean := 0, cause := 0 } else p } }

/-- A loop is the target of a cascade (R293), whose outer loop is enabled (DEDUCED, log entry 185). -/
def cascadeTarget (img : Image) (i : Nat) : Bool :=
  img.loops.any fun c => ctlOn c && c.outKind = 4 && c.outIndex = i

/-- Set-point range of a loop (R294). -/
def spRange (img : Image) (i : Nat) : Int × Int :=
  let c := img.loops.getD i {}
  let x := img.sensors.getD c.input {}
  if x.quantity = 0 && (c.outKind = 3 || c.outKind = 5) then (img.limits.supplyMin, img.limits.supplyMax)
  else if x.kind = 1 then (-3200, 12800)
  else if x.kind = 2 then (min x.scaleLow x.scaleHigh, max x.scaleLow x.scaleHigh)
  else
    let w := 8 * 2 ^ x.width
    let a := canValue x (if x.signed then -(2 ^ (w - 1) : Int) else 0)
    let b := canValue x (if x.signed then (2 ^ (w - 1) : Int) - 1 else (2 ^ w : Int) - 1)
    (min a b, max a b)

/-- The check of SET_LOOP_SP and of a schedule entry of kind 0 (R295): 0 OK, 2 STATE, 3 RANGE. -/
def setLoopCheck (s : State) (i : Nat) (g : Int) : Nat :=
  if 512 ≤ i then 3
  else
    let c := ctlCfg s i
    if !(ctlOn c) || c.spSource ≠ 2 || cascadeTarget s.img i then 2
    else if g < (spRange s.img i).1 || (spRange s.img i).2 < g then 3 else 0

/-- A schedule entry of kind 0 executes (R295, R296): judged again, and dropped with event 0x7004 if refused. -/
def scheduleSetPoint (payload : Nat) (s : State) : State :=
  let i := payload % 512
  let g := toSigned 32 (payload / 2 ^ 32)
  if setLoopCheck s i g = 0 then { s with ctl := { s.ctl with fromSchedule := s.ctl.fromSchedule ++ [(i, g)] } }
  else post 0x7004 s i

def probe (s : State) (i : Nat) : Probe := s.ctl.probes.getD i {}
def updProbe (i : Nat) (f : Probe → Probe) (s : State) : State :=
  { s with ctl := { s.ctl with probes := upd s.ctl.probes i f } }

/-- LPDDR5X is available to the probes (R127); a reduced rate leaves it available. -/
def ddrReady (s : State) : Bool := s.pow.ddrOk

/-- The configuration of a probe is valid for arming (R310 to R313). -/
def probeValid (i : Nat) (p : Probe) : Bool :=
  p.srcKind ≤ 14 && p.trigKind ≤ 4 && p.trigDir ≤ 2 && !(p.trigKind = 4 && p.trigProbe = i) &&
  (p.srcKind ≠ 13 || p.srcIndex < 256)

/-- PROBE_ARM (R313): 1 written to ARM. -/
def armProbe (i : Nat) (s : State) : State :=
  let p := probe s i
  if p.state = .armed || p.state = .post then s
  else if ddrReady s && probeValid i p then
    updProbe i (fun q => { q with state := .armed, samples := [], lost := false, triggered := false, preTaken := 0
                                  trigFrame := 0, count := 0, last := none }) s
  else post 0x7022 s i

/-- PROBE_ABORT (R313): 1 written to ABORT; the capture is kept, but was not completed. -/
def abortProbe (i : Nat) (s : State) : State :=
  let p := probe s i
  if p.state = .armed || p.state = .post then updProbe i (fun q => { q with state := .done }) s
  else s

/-- LPDDR5X is lost: a probe in capture ends with LOST (R313). -/
def probesLost (s : State) : State :=
  (List.range s.ctl.probes.length).foldl (fun t i =>
    let p := probe t i
    if p.state = .armed || p.state = .post then post 0x7023 (updProbe i (fun q => { q with state := .done, lost := true }) t) i
    else t) s

/-- PROBE_ARM (R313). -/
def execProbeArm (index : Nat) (s : State) : Host.Outcome State Fault Refusal := .next (armProbe index s)

/-- PROBE_ABORT (R313). -/
def execProbeAbort (index : Nat) (s : State) : Host.Outcome State Fault Refusal := .next (abortProbe index s)

/-- PROBE_DONE (R313): a capture in POST that holds 65,536 samples is complete. -/
def execProbeDone (index : Nat) (s : State) : Host.Outcome State Fault Refusal :=
  let p := probe s index
  .next (if p.state = .post && 65536 ≤ p.samples.length then
      post 0x7021 (updProbe index (fun q => { q with state := .done, captures := cnt q.captures }) s) index
    else s)

/-- LOOP_RESUME (R305): a frozen loop whose causes have been absent for 10 consecutive frames returns to RUN. -/
def execLoopResume (index : Nat) (s : State) : Host.Outcome State Fault Refusal :=
  let p := ctl s index
  .next (if p.state = .frozen && p.cause = 0 && 10 ≤ p.clean && s.pow.plantControl then
      post 0x7002 (runLoop index p.u s) index
    else s)

end Sys2Proof.Machine
end

