-- ==== Sys2Proof/Machine/Valves.lean ====
section
/-! DEFINITION. Valve and solenoid drive: requests, admission, coil phases and faults (R410 to R433). -/

namespace Sys2Proof.Machine

def valveCfg (s : State) (c : Nat) : ValveCfg := s.img.valves.getD c {}
def vch (s : State) (c : Nat) : ValveCh := s.valve.ch.getD c {}
def vbank (s : State) (b : Nat) : ValveBank := s.valve.banks.getD b {}
def updCh (c : Nat) (f : ValveCh → ValveCh) (s : State) : State :=
  { s with valve := { s.valve with ch := upd s.valve.ch c f } }
def updBank (b : Nat) (f : ValveBank → ValveBank) (s : State) : State :=
  { s with valve := { s.valve with banks := upd s.valve.banks b f } }
def valveCount (k : Nat) (s : State) : State :=
  { s with valve := { s.valve with counters := upd s.valve.counters k cnt } }

/-- The channels of a bank (R410). -/
def bankChs (b : Nat) : List Nat := (List.range 8).map fun i => 8 * b + i

/-- The request in force: class and command (R412). -/
def requestInForce (c : ValveCh) : Option (Nat × Bool) :=
  if c.c0 then some (0, true)
  else match c.c1, c.c2, c.c3 with
    | some v, _, _ => some (1, v)
    | none, true, _ => some (2, true)
    | none, false, some v => some (3, v)
    | none, false, none => none

/-- HEALTH (R419, R432): 0 OK, 1 UNCAL, 2 UNAVAILABLE, 3 FAILED. -/
def valveHealth (s : State) (c : Nat) : Nat :=
  if (vch s c).reason ≠ 0 then 3
  else if s.pow.calValve.getD c false then 1
  else if (vbank s (c / 8)).state ≠ .on || !s.pow.act24 || !(domainOn s (97 + c / 8)) then 2 else 0

/-- The channel is driven for a request of a class (R419). -/
def driven (s : State) (c cls : Nat) : Bool :=
  (vbank s (c / 8)).state = .on && s.pow.act24 && domainOn s (97 + c / 8) && !(s.pow.calValve.getD c false) &&
  (let r := (vch s c).reason
   r = 0 || (r ≤ 3 && cls = 0))

/-- The high-side conditions of R410, but for the state of the bank itself. -/
def bankConditions (s : State) (b : Nat) : Bool := s.pow.plantControl && domainOn s (97 + b) && s.pow.act24

def inCurrent (d : Drive) : Bool := d = .peak || d = .hold

/-- The channel is released at once; its movement window is void (R417). -/
def dropChannel (s : State) (c : Nat) : State :=
  updCh c (fun x => { x with
    drive := if inCurrent x.drive then .releasing else if x.drive = .waiting then .released else x.drive
    staged := none, since := none, window := false
    releasedAt := if inCurrent x.drive then s.seq.frame else x.releasedAt }) s

/-- All channels of a bank are released (R421). -/
def dropBank (b : Nat) (s : State) : State := (bankChs b).foldl dropChannel s

/-- OFF and ON follow the high-side conditions; the other states leave only as the table of R421 says (R410, R421). -/
def bankRefresh (s : State) (b : Nat) : State :=
  let on := bankConditions s b
  match (vbank s b).state with
  | .off => if on then updBank b (fun x => { x with state := .on }) s else s
  | .on => if on then s else dropBank b (updBank b (fun x => { x with state := .off, thermWarn := false }) s)
  | .tripped | .hot | .failed => s

def banksRefresh (s : State) : State := (List.range 6).foldl bankRefresh s

/-- Drops the source's command of a class (R424, R425). -/
def dropCommand (cls : Nat) (x : ValveCh) : ValveCh :=
  if cls = 1 then { x with c1 := none } else if cls = 2 then { x with c2 := false }
  else if cls = 3 then { x with c3 := none } else x

/-- Marks a channel FAILED (R417, R418): a channel that is no longer driven is released; a short opens its switch
whatever is asked of it. -/
def failChannel (c reason code : Nat) (s : State) : State :=
  let s1 := updCh c (fun x => { x with reason := reason }) s
  let s2 := post code (valveCount 14 s1) c reason
  if reason = 4 && (requestInForce (vch s2 c)).isNone then dropChannel s2 c
  else match requestInForce (vch s2 c) with
  | some (cls, true) =>
    if driven s2 c cls then s2
    else
      let s3 := dropChannel s2 c
      if cls = 0 then s3 else updCh c (fun x => { x with lastResult := 5 }) s3
  | _ => if reason = 4 then dropChannel s2 c else s2

/-! Admission (R422 to R425), in plant output staging. -/

/-- A channel counts as in PEAK from its admission on. -/
def busyPeak (x : ValveCh) : Bool := x.staged = some true || (x.drive = .peak && x.staged ≠ some false)

def holds (x : ValveCh) : Bool := x.drive = .hold && x.staged ≠ some false

def holdSum (s : State) (b : Nat) : Nat :=
  (((bankChs b).filter fun c => holds (vch s c)).map fun c => (valveCfg s c).holdMa).sum

/-- The checks of R422 but for the PEAK of another channel. -/
def fitsHold (s : State) (c : Nat) : Bool :=
  let h := holdSum s (c / 8)
  let v := valveCfg s c
  v.peakMa + h ≤ 7500 && h + v.holdMa ≤ 6000

def peakFree (s : State) (b : Nat) : Bool := !((bankChs b).any fun c => busyPeak (vch s c))

/-- Stages the releases of one channel: its request is no longer ENERGISE, it is no longer driven, or its duty is
spent (R412, R414, R419, R420). -/
def stageRelease (s : State) (c : Nat) : State :=
  let x := vch s c
  if !(inCurrent x.drive) then
    match requestInForce x with
    | some (cls, true) =>
      if driven s c cls then
        updCh c (fun y => { y with since := some (y.since.getD s.seq.frame), drive := if y.drive = .released then .waiting else y.drive }) s
      else
        let s1 := updCh c (fun y => { y with since := none, drive := if y.drive = .waiting then .released else y.drive }) s
        if 3 ≤ valveHealth s c && cls ≠ 0 then updCh c (fun y => { y with lastResult := 5 }) s1 else s1
    | _ => updCh c (fun y => { y with since := none, drive := if y.drive = .waiting then .released else y.drive }) s
  else
    match requestInForce x with
    | some (cls, true) =>
      if !(driven s c cls) then updCh c (fun y => { y with staged := some false }) s
      else if cls ≠ 0 && x.dutyOver then
        valveCount 9 (updCh c (fun y => { y with staged := some false, lastResult := 4 }) s)
      else s
    | _ => updCh c (fun y => { y with staged := some false }) s

/-- The waiting requests of a bank in the order of R423, as (class, channel). -/
def waitingList (s : State) (b : Nat) : List (Nat × Nat) :=
  let l := (bankChs b).filterMap fun c =>
    let x := vch s c
    match requestInForce x with
    | some (cls, true) =>
      if x.since.isSome && !(inCurrent x.drive) && x.staged ≠ some true && driven s c cls then some (cls, c) else none
    | _ => none
  sortBy (fun p q => p.1 < q.1 || (p.1 = q.1 &&
    (let a := (vch s p.2).since.getD 0
     let d := (vch s q.2).since.getD 0
     a < d || (a = d && p.2 < q.2)))) l

def admitChannel (c : Nat) (s : State) : State :=
  updCh c (fun x => { x with staged := some true, drive := .waiting, lastResult := 1
                             waitFrames := s.seq.frame - x.since.getD s.seq.frame }) s

/-- Pre-empts the newest hold of class 1 to 3 of a bank, if there is one (R425). -/
def preemptOne (b : Nat) (s : State) : Option State :=
  let l := (bankChs b).filter fun c => holds (vch s c) && (match requestInForce (vch s c) with
    | some (cls, true) => cls ≠ 0
    | _ => false)
  match sortBy (fun p q => (vch s q).edge < (vch s p).edge) l with
  | [] => none
  | c :: _ =>
    let cls := match requestInForce (vch s c) with
      | some (k, _) => k
      | none => 0
    let s1 := updCh c (fun x => { dropCommand cls x with staged := some false, lastResult := 3 }) s
    some (post 0xA068 (valveCount 8 s1) c)

def preemptUntil (c : Nat) : Nat → State → State
  | 0, s => s
  | k + 1, s => if fitsHold s c then s else match preemptOne (c / 8) s with
    | some s1 => preemptUntil c k s1
    | none => s

/-- Admission of one bank; `blocked` is the lowest class that already waits. -/
def admitBank (b : Nat) : List (Nat × Nat) → Option Nat → State → State
  | [], _, s => s
  | (cls, c) :: t, blocked, s =>
    let wait := admitBank b t (some (blocked.getD cls)) s
    if blocked.any (fun k => decide (k < cls)) then wait
    else if cls ≠ 0 && ((vch s c).dutyOver || (vbank s b).thermWarn) then wait
    else if !(peakFree s b) then wait
    else
      let s1 := if cls = 0 then preemptUntil c 8 s else s
      if fitsHold s1 c then admitBank b t blocked (admitChannel c s1) else
        admitBank b t (some (blocked.getD cls)) s1

/-- VALVE_ADMISSION of one bank (R422 to R425). -/
def bankAdmission (s : State) (b : Nat) : State :=
  let s1 := (bankChs b).foldl stageRelease s
  let before := (waitingList s1 b).filter fun p => (vch s1 p.2).since = some s.seq.frame
  let s2 := admitBank b (waitingList s1 b) none s1
  let s3 := before.foldl (fun t p => if (vch t p.2).staged = some true then t else valveCount 6 t) s2
  if (waitingList s3 b).isEmpty then s3 else postRun 0xA066 s3 b

def valveAdmission (s : State) : State := (List.range 6).foldl bankAdmission s

/-! Coil phases (R413 to R417). -/

/-- What was staged is staged in a frame before this one: it takes effect at offset 50.0 us, before this frame's own
staging (R413, R414). -/
def stagedBefore (s : State) : Bool := decide (s.seq.phase ≤ 2)

/-- VALVE_RELEASE (R414): a staged release takes effect, in whatever phase the channel stands. -/
def execValveRelease (channel : Nat) (s : State) : Host.Outcome State Fault Refusal :=
  .next (if (vch s channel).staged = some false && stagedBefore s then dropChannel s channel else s)

/-- PEAK_END (R413): PEAK has run for PEAK_MS. -/
def execPeakEnd (channel : Nat) (s : State) : Host.Outcome State Fault Refusal :=
  .next (if (vch s channel).drive = .peak && (vch s channel).edge + 10 * (valveCfg s channel).peakMs ≤ s.seq.frame then
      updCh channel (fun x => { x with drive := .hold }) s
    else s)

/-- RELEASING_COMPLETE (R413): the sensed current is below 50 mA. -/
def execReleasingComplete (channel currentMa : Nat) (s : State) : Host.Outcome State Fault Refusal :=
  .next (if (vch s channel).drive = .releasing && currentMa < 50 then
      updCh channel (fun x => { x with drive := if x.since.isSome then .waiting else .released, ma := currentMa }) s
    else s)

/-- A movement window is open: from DIP_START_MS to DIP_END_MS after the edge (R416). -/
def windowOpen (s : State) (c : Nat) : Bool :=
  let x := vch s c
  x.window && inCurrent x.drive && x.edge + 10 * (valveCfg s c).dipStart ≤ s.seq.frame

/-- A dip of this time, in 0.1 ms after the edge, and depth, in mA, lies in the window and is deep enough (R416). -/
def dipCounts (v : ValveCfg) (time depth : Nat) : Bool :=
  10 * v.dipStart ≤ time && time ≤ 10 * v.dipEnd && max 20 (v.peakMa / 64) ≤ depth

/-- DIP_DETECTED (R416, R417): time in 0.1 ms after the edge and depth in mA. -/
def execDipDetected (channel time depth : Nat) (s : State) : Host.Outcome State Fault Refusal :=
  .next (if windowOpen s channel && dipCounts (valveCfg s channel) time depth then
      valveCount 1 (updCh channel (fun x => { x with window := false, moved := true, missRun := 0, dipTime := time
                                                     dipDepth := depth }) s)
    else s)

/-- MISSING_DIP (R417): the window has ended without a dip. -/
def execMissingDip (channel : Nat) (s : State) : Host.Outcome State Fault Refusal :=
  let x := vch s channel
  .next (if x.window && inCurrent x.drive && x.edge + 10 * (valveCfg s channel).dipEnd ≤ s.seq.frame then
      let s1 := updCh channel (fun y => { y with window := false, moved := false, missRun := satAdd 8 y.missRun 1
                                                 misses := cnt y.misses, dipTime := 0xFFFF }) s
      let s2 := post 0xA060 (valveCount 2 s1) channel
      if 3 ≤ x.missRun + 1 && x.reason = 0 then failChannel channel 1 0xA061 s2 else s2
    else s)

/-- COIL_SHORT (R418): PEAK_MA within 200 us of the edge, or 4,800 mA at any time. -/
def execCoilShort (channel : Nat) (s : State) : Host.Outcome State Fault Refusal :=
  .next (if inCurrent (vch s channel).drive then failChannel channel 4 0xA064 (valveCount 5 s) else s)

/-- OPEN_COIL_ENERGISED (R418): below 50 mA 2 ms after the edge. -/
def execOpenCoilEnergised (channel : Nat) (s : State) : Host.Outcome State Fault Refusal :=
  let x := vch s channel
  .next (if inCurrent x.drive && x.edge + 20 ≤ s.seq.frame && x.reason = 0 then
      failChannel channel 2 0xA062 (valveCount 3 s)
    else s)

/-- OPEN_COIL_RELEASED (R418): released for 20 ms or more with the bank ON, and the pin low in 3 checks. A channel without
a function has no coil to judge (DEDUCED, log entry 188). -/
def execOpenCoilReleased (channel pinMv : Nat) (s : State) : Host.Outcome State Fault Refusal :=
  let x := vch s channel
  .next (if !(inCurrent x.drive) && (vbank s (channel / 8)).state = .on && x.releasedAt + 200 ≤ s.seq.frame &&
        pinMv < 2000 && x.reason = 0 && (valveCfg s channel).function ≠ 0 then
      failChannel channel 3 0xA063 (valveCount 4 (updCh channel (fun y => { y with offMv := pinMv }) s))
    else s)

/-- SWITCH_FAILED_ON (R418): a released channel still passes 100 mA or more. -/
def execSwitchFailedOn (channel currentMa : Nat) (s : State) : Host.Outcome State Fault Refusal :=
  let x := vch s channel
  let b := channel / 8
  .next (if !(inCurrent x.drive) && x.releasedAt + 200 ≤ s.seq.frame && 100 ≤ currentMa &&
        (vbank s b).state = .on then
      post 0xA065 (dropBank b (updBank b (fun y => { y with state := .failed, switchFailed := true })
        (valveCount 13 s))) channel b
    else s)

/-- A bank trip (R418, R421): TRIPPED, or FAILED at the third trip in 60 s. -/
def bankTrip (b : Nat) (s : State) : State :=
  let x := vbank s b
  if x.state ≠ .on then s
  else
    let recent := s.seq.frame :: x.tripFrames.filter fun f => s.seq.frame < f + 600000
    let failed := 3 ≤ recent.length
    let s1 := dropBank b (updBank b (fun y => { y with
      state := if failed then .failed else .tripped, tripFrames := recent, trips := cnt y.trips
      trippedAt := s.seq.frame }) (valveCount 10 s))
    if failed then post 0xA06D (post 0xA06C s1 b) b else post 0xA06C s1 b

/-- BANK_OVERCURRENT (R418): the high-side current reaches 8.0 A. -/
def execBankOvercurrent (bank hsMa : Nat) (s : State) : Host.Outcome State Fault Refusal :=
  .next (if 8000 ≤ hsMa then bankTrip bank (updBank bank (fun y => { y with hsMa := hsMa }) s) else s)

/-- GROUND_FAULT (R418): the high side passes 300 mA more than the low sides for 1 ms. -/
def execGroundFault (bank hsMa lsMa : Nat) (s : State) : Host.Outcome State Fault Refusal :=
  .next (if lsMa + 300 ≤ hsMa then bankTrip bank (updBank bank (fun y => { y with hsMa := hsMa }) s) else s)

/-- BANK_TRIP_RECOVERY (R421): 1 s in TRIPPED. -/
def execBankTripRecovery (bank : Nat) (s : State) : Host.Outcome State Fault Refusal :=
  let x := vbank s bank
  .next (if x.state = .tripped && x.trippedAt + 10000 ≤ s.seq.frame then
      updBank bank (fun y => { y with state := if bankConditions s bank then .on else .off }) s
    else s)

/-- DRIVER_HOT (R421): at 160.0 C the bank goes HOT; from 140.0 C it warns. -/
def driverTemp (b : Nat) (temp : Int) (s : State) : State :=
  let x := vbank s b
  let s1 := updBank b (fun y => { y with
    temp := some (satTemp temp), thermWarn := decide (8960 ≤ temp) && y.state = .on
    coolSince := if temp ≤ 8960 then some (y.coolSince.getD s.seq.frame) else none }) s
  let s2 := if 8960 ≤ temp && x.state = .on then
      postRun 0xA06A (if x.thermWarn then s1 else valveCount 11 s1) b
    else s1
  if 10240 ≤ temp && x.state = .on then
    post 0xA06B (dropBank b (updBank b (fun y => { y with state := .hot, thermWarn := false }) (valveCount 12 s2))) b
  else s2

def execDriverHot (bank : Nat) (temp : Int) (s : State) : Host.Outcome State Fault Refusal :=
  .next (if 8960 ≤ temp then driverTemp bank temp s else s)

/-- DRIVER_COOL (R421): at or below 140.0 C for 1 s. -/
def execDriverCool (bank : Nat) (temp : Int) (s : State) : Host.Outcome State Fault Refusal :=
  let s1 := driverTemp bank temp s
  let x := vbank s1 bank
  .next (match x.state, x.coolSince with
    | .hot, some f =>
      if temp ≤ 8960 && f + 10000 ≤ s.seq.frame then
        updBank bank (fun y => { y with state := if bankConditions s bank then .on else .off }) s1
      else s1
    | _, _ => s1)

/-- Window sum of R420 in uJ. -/
def windowSum (x : ValveCh) : Nat := x.buckets.sum + x.openBucket

/-- Judges the window sum of a channel (R420). -/
def dutyJudge (c : Nat) (s : State) : State :=
  let lim := (valveCfg s c).dutyLimit * 100000
  let x := vch s c
  if lim ≤ windowSum x then updCh c (fun y => { y with dutyOver := true }) (postRun 0xA069 s c)
  else if windowSum x * 10 ≤ lim * 9 then updCh c (fun y => { y with dutyOver := false }) s else s

/-- Energy drawn from the bank supply, in uJ, joins the open bucket (R420). -/
def dutyAccount (c uj : Nat) (s : State) : State :=
  dutyJudge c (updCh c (fun x => { x with openBucket := x.openBucket + uj }) s)

/-- At the boundary that ends a second of row time the open buckets close (R420). -/
def dutySecond (s : State) : State :=
  if s.seq.frame % 10000 = 0 then
    ((List.range 48).filter fun c => (valveCfg s c).function ≠ 0).foldl (fun t c => dutyJudge c t)
      { s with valve := { s.valve with ch := s.valve.ch.map fun x =>
          { x with buckets := (x.openBucket :: x.buckets).take 60, openBucket := 0 } } }
  else s

/-- DUTY_LIMIT (R420): the energy of the channel, in uJ, is added and judged. -/
def execDutyLimit (channel uj : Nat) (s : State) : Host.Outcome State Fault Refusal :=
  .next (dutyAccount channel uj s)

/-- VALVE_REQUEST_REFUSED (R424): a request of class 1 to 3 was not admitted in the staging of the 500th frame. -/
def execValveRequestRefused (channel : Nat) (s : State) : Host.Outcome State Fault Refusal :=
  let x := vch s channel
  .next (match requestInForce x, x.since with
    | some (cls, true), some f =>
      if cls ≠ 0 && (f + 500 < s.seq.frame || (f + 500 = s.seq.frame && 3 ≤ s.seq.phase)) && !(inCurrent x.drive) &&
          x.staged = none then
        let s1 := updCh channel (fun y => { dropCommand cls y with
          since := none, drive := if y.drive = .waiting then .released else y.drive, lastResult := 2
          waitFrames := s.seq.frame - f }) s
        post 0xA067 (valveCount 7 s1) channel cls
      else s
    | _, _ => s)

/-- Sampled currents, voltages and temperatures of the drive (R431, R432): the low-side pin is read while a channel is
released. -/
def sampleValves (r : ValveReadings) (s : State) : State :=
  let chan := fun (c : Nat) (x : ValveCh) =>
    { x with ma := r.ma.getD c x.ma, offMv := if x.drive = .released then r.pinMv.getD c x.offMv else x.offMv }
  let bank := fun (b : Nat) (x : ValveBank) => { x with mv := r.bankMv.getD b x.mv, hsMa := r.hsMa.getD b x.hsMa }
  let s1 := { s with valve := { s.valve with ch := s.valve.ch.mapIdx chan, banks := s.valve.banks.mapIdx bank } }
  (List.range 6).foldl (fun t b => match r.driver.getD b none with
    | some x => driverTemp b x t
    | none => t) s1

/-- The energising edge of an admitted channel (R413). -/
def energise (channel : Nat) (s : State) : State :=
  let s1 := updCh channel (fun x => { x with
    drive := .peak, staged := none, since := none, edge := s.seq.frame, window := true, dipTime := 0xFFFF
    dipDepth := 0, edges := cnt x.edges, lastEdge := s.seq.frame }) s
  valveCount 0 (updBank (channel / 8) (fun b => { b with peaks := cnt b.peaks }) s1)

/-- Commanded position: true open (R411). -/
def valvePosition (s : State) (c : Nat) : Bool :=
  let x := vch s c
  (valveCfg s c).normallyOpen != inCurrent x.drive

/-- The command that gives a position (R411, R429). -/
def commandFor (v : ValveCfg) (open_ : Bool) : Bool := v.normallyOpen != open_

/-- SET_VALVE's own check (R429): 0 OK, 2 STATE, 3 RANGE. While the 24 V supply is absent the request is refused
(R120). -/
def setValveCheck (s : State) (c code : Nat) : Nat :=
  if 48 ≤ c || 2 < code then 3
  else if (valveCfg s c).function ≠ 4 || valveHealth s c = 3 || valveHealth s c = 1 || !s.pow.act24 then 2 else 0

def applySetValve (c code : Nat) (s : State) : State :=
  updCh c (fun x => { x with c3 := if code = 2 then none else some (commandFor (valveCfg s c) (code = 1)) }) s

/-- CLEAR_VALVE's own check (R429); a bank is flagged. -/
def clearValveCheck (s : State) (isBank : Bool) (n : Nat) : Nat :=
  if (isBank && 6 ≤ n) || (!isBank && 48 ≤ n) then 3
  else if isBank then
    (let b := vbank s n
     if b.state = .failed && !b.switchFailed then 0 else 2)
  else if (vch s n).reason ≠ 0 then 0 else 2

def applyClearValve (isBank : Bool) (n : Nat) (s : State) : State :=
  if isBank then
    post 0xA06E (valveCount 15 (updBank n (fun b => { b with
      state := if bankConditions s n then .on else .off, tripFrames := [] }) s)) n
  else post 0xA06E (valveCount 15 (updCh n (fun x => { x with reason := 0, missRun := 0 }) s)) n

end Sys2Proof.Machine
end

