-- ==== Sys2Proof/Machine/Pumps.lean ====
section
/-! DEFINITION. Pumps, fans, zones, Vigil, spray and water (R31, R34, R381 to R409). -/

namespace Sys2Proof.Machine

def pumpSt (s : State) (p : Nat) : PumpSt := s.pump.pumps.getD p {}
def fanSt (s : State) (f : Nat) : FanSt := s.pump.fans.getD f {}
def updPump (p : Nat) (f : PumpSt → PumpSt) (s : State) : State :=
  { s with pump := { s.pump with pumps := upd s.pump.pumps p f } }
def updFan (i : Nat) (f : FanSt → FanSt) (s : State) : State :=
  { s with pump := { s.pump with fans := upd s.pump.fans i f } }
def pumpCount (k : Nat) (s : State) : State :=
  { s with pump := { s.pump with counters := upd s.pump.counters k cnt } }

def pumpPresent (s : State) (p : Nat) : Bool := (s.img.pumps.getD p {}).present
def fanPresent (s : State) (f : Nat) : Bool := (s.img.fans.getD f {}).present

def modeCfg (s : State) : ModeCfg := s.img.modes.modes.getD s.plan.mode.code {}

def groupCfg (s : State) (g : Nat) : GroupCfg := s.img.groups.getD g {}

/-- Speed group of a fan: groups 1 to 3 hold fans 0 to 7, 8 to 15 and 16 to 23 (R3). -/
def fanGroup (f : Nat) : Nat := 1 + f / 8

/-- A maintenance activity is in progress (R398). -/
def activityRuns (s : State) : Bool := s.maint.activities.any fun a => a.state = .running

/-! Windows of R398. -/

def within (s : State) (f : Option Nat) (frames : Nat) : Bool := match f with
  | some x => s.seq.frame < x + frames
  | none => false

def startWindow (s : State) : Bool := s.pow.plantControl && within s s.pump.controlFrame 600000
def testWindow (s : State) : Bool := activityRuns s || s.maint.windows.any (·.isOpen)
def recoveryWindow (s : State) : Bool :=
  within s s.pump.takeoverFrame 6000000 || within s s.pump.normalFrame 6000000 ||
  within s s.pump.leftFallback 6000000 || within s s.pump.releaseFrame 600000 || s.pump.vigil
def anyWindow (s : State) : Bool := startWindow s || testWindow s || recoveryWindow s

/-! Zones (R387, R388). -/

/-- Zone reading: a missing sensor counts as 200.0 C (R387). -/
def zoneReading (s : State) (k : Nat) : Int := (sensorValue s k).getD 12800

/-- The largest index with TEMP[k] at or below t. -/
def zoneIndex (c : ZoneCfg) (t : Int) : Nat := ((List.range 8).filter fun k => c.temp.getD k 0 ≤ t).length - 1

/-- Demand of a zone at temperature t (R388). -/
def zoneCurve (c : ZoneCfg) (t : Int) : Nat :=
  if t ≤ c.temp.getD 0 0 then c.demand.getD 0 0
  else if c.temp.getD 7 0 ≤ t then c.demand.getD 7 0
  else
    let k := zoneIndex c t
    let dd : Int := (c.demand.getD (k + 1) 0 : Int) - c.demand.getD k 0
    let dt : Int := c.temp.getD (k + 1) 0 - c.temp.getD k 0
    ((c.demand.getD k 0 : Int) + -((-(dd * (t - c.temp.getD k 0))) / dt)).toNat

/-- Sensors that a zone names. -/
def zoneSensors (c : ZoneCfg) : List (Nat × Nat) := (c.sensor.zipIdx).filter fun x => x.1 ≠ 0xFF

def zoneStep (s : State) (z : Nat) : State :=
  let c := s.img.zones.getD z {}
  if !c.enabled then s
  else
    let l := zoneSensors c
    let miss : Nat := (l.filter fun x => sensorMissing s x.1).foldl (fun m x => m + 2 ^ x.2) 0
    let t := (l.map fun x => zoneReading s x.1).foldl max (-32768)
    let valid := l.filterMap fun x => sensorValue s x.1
    let shown := match valid with
      | [] => none
      | a :: r => some (r.foldl max a)
    let s1 := { s with pump := { s.pump with zones := upd s.pump.zones z fun _ =>
      { temp := shown, demand := zoneCurve c t, missing := miss } } }
    if miss ≠ 0 then postRun 0xA044 s1 z else s1

/-! Demands and targets (R389 to R392). -/

/-- A plan is in force: from its boundary until the next commit (R178), so also in STOPPED and in the WAIT after it, in which
nothing is committed and the last outputs stay (R196, R208). -/
def planHolds (s : State) : Bool := s.plan.inForce.isSome

/-- Plan demand of a group in force (R389). -/
def planDemand (s : State) (g : Nat) : Nat :=
  if !(planHolds s) then 0
  else match s.plan.inForce with
    | none => 0
    | some p => if g = 0 then p.pump.getD 0 0
        else if s.img.topology.primary = .dryCooler then (p.fans.getD (g - 1) []).getD 0 0 else 0

/-- The highest zone demand of a group and the zone giving it (R389). -/
def zoneDemand (s : State) (g : Nat) : Nat × Nat :=
  let zs := (List.range 16).filter fun z => bit (groupCfg s g).zoneMask z && (s.img.zones.getD z {}).enabled
  zs.foldl (fun m z =>
    let d := (s.pump.zones.getD z {}).demand
    if m.1 < d then (d, z) else m) (0, 0)

/-- Outputs of the control loops that name a pump, as they stand (R389). -/
def loopDemandNow (s : State) (p : Nat) : Nat :=
  listMax ((enabledLoops s).filterMap fun i =>
    let c := ctlCfg s i
    if c.outKind = 1 && c.outIndex = p && ((ctl s i).state = .run || (ctl s i).state = .frozen) then
      some (ctl s i).u.toNat
    else none)

/-- The demand that the speed logic of this frame takes: that of frame n - 1 (R304, R393). -/
def pumpLoopDemand (s : State) (p : Nat) : Nat := s.plant.loopDemand.getD p 0

/-- Speed limit in force of a pump (R390). -/
def pumpLimit (s : State) (p : Nat) : Nat :=
  let x := pumpSt s p
  let short := match x.episode with
    | some f => s.seq.frame < f + 1200000
    | none => true
  let resting := match x.restEnd with
    | some f => s.seq.frame < f
    | none => false
  if s.plan.mode = .feast && (s.img.pumps.getD p {}).overspeedOk && !x.analog && short && !resting then
    (modeCfg s).pumpLimit
  else 10000

/-- Skip bands of a group in use, in order. -/
def skipBands (g : GroupCfg) : List (Nat × Nat) := g.skip.filter fun k => 0 < k.2

/-- Adjustment of a target against the bands (R391). -/
def adjustTarget (g : GroupCfg) (cmd t : Nat) : Nat :=
  (skipBands g).foldl (fun t k =>
    if k.1 < t && t < k.2 then k.2
    else if k.1 ≤ t + 100 && t ≤ k.1 && k.2 ≤ cmd then k.2 else t) t

/-- One frame of an element's speed state (R392). -/
def speedStep (g : GroupCfg) (t s : Nat) : Nat :=
  let goal := t * 65536
  let up0 := max 1 (g.rateUp * 65536 / 10000)
  let down0 := max 1 (g.rateDown * 65536 / 10000)
  let crossing := (skipBands g).any fun k =>
    (k.1 * 65536 < s && s < k.2 * 65536) || (s = k.1 * 65536 && s < goal) || (s = k.2 * 65536 && goal < s)
  let up := if crossing then max up0 down0 else up0
  let down := if crossing then max up0 down0 else down0
  if s < goal then min goal (s + up) else max goal (s - down)

def speedCommand (s : Nat) : Nat := (s + 32768) / 65536

/-- The pump's overspeed episode and rest (R34). -/
def episodeStep (f : Nat) (p : PumpSt) : PumpSt :=
  match p.episode with
  | some _ => if p.speedCmd ≤ 10000 then { p with episode := none, restEnd := some (f + 3000000) } else p
  | none => if 10000 < p.speedCmd then { p with episode := some f } else p

/-- Analog output of a pump (R381, R397). -/
def pumpAo (a : AoCfg) (run : Bool) (cmd : Nat) : Nat :=
  if run then a.minMv + ((a.maxMv - a.minMv) * min cmd 10000 + 5000) / 10000 else a.minMv

/-- The command that an element has set for its group is over: 60 s in RUN since its restart, or 60 s since it failed
(R398). -/
def settled (s : State) (st : ElemState) (full : Option Nat) : Bool :=
  match full with
  | none => true
  | some f => (st = .run || st = .failed) && f + 600000 ≤ s.seq.frame

/-- Elements of a group whose full-speed command holds (R398). -/
def fullCommands (s : State) (g : Nat) : Nat :=
  if g = 0 then s.pump.pumps.countP fun x => !(settled s x.state x.fullSince)
  else (List.range 8).countP fun i => !(settled s (fanSt s (8 * (g - 1) + i)).state (fanSt s (8 * (g - 1) + i)).fullSince)

/-- The full-speed term for an element of a group: `own` tells that the element's own command holds, which is for the
others alone (R395, R398). -/
def fullTerm (s : State) (g : Nat) (own : Bool) : Nat :=
  if s.pump.vigil then 10000
  else if s.pump.fullSpeed.getD g false && b2n own < fullCommands s g then 10000 else 0

/-! Outputs in force (R43, R123, R133, R393). -/

/-- The outputs staged in the frame before come into force at the boundary, and its loops' demands join (R304). While the
analog clock is stopped, its crossing keeps the first value sent (R50, R51). -/
def outputsInForce (s : State) : State :=
  let stopped := s.seq.unlocked.contains .analog
  { s with plant := { s.plant with
    aoOut := if stopped then s.plant.aoOut else s.plant.aoStaged
    aoHeld := if stopped then some (s.plant.aoHeld.getD s.plant.aoStaged) else none
    loopDemand := (List.range 4).map (loopDemandNow s), runForce := s.pump.pumps.map (·.runOut), dutyForce := s.pump.fans.map (·.duty) } }

/-- Nothing is staged any more: the outputs are released (R133, R500). -/
def releaseOutputs (s : State) : State :=
  let off := fun (x : PumpSt) => { x with runOut := false }
  let still := fun (x : FanSt) => { x with duty := 0 }
  { s with
    plant := { s.plant with
      aoStaged := List.replicate 8 0, aoOut := List.replicate 8 0, aoHeld := none, runForce := List.replicate 4 false
      dutyForce := List.replicate 24 0 }
    pump := { s.pump with pumps := s.pump.pumps.map off, fans := s.pump.fans.map still } }

/-- Pump interface group of pump or analog output a is driven; otherwise its outputs are at high impedance (R121, R123,
R133). -/
def pumpGroupDriven (s : State) (a : Nat) : Bool := s.pow.plantControl && domainOn s (111 + a % 4)

/-- Voltage of an analog output in mV; 0 while it is released (R135, R381). -/
def aoVoltage (s : State) (a : Nat) : Nat :=
  if s.pow.backupDrive && a < 4 then s.pow.backupMv
  else if pumpGroupDriven s a then s.plant.aoOut.getD a 0 else 0

/-- The run output of a pump is asserted (R135, R381). -/
def runAsserted (s : State) (p : Nat) : Bool :=
  s.pow.backupDrive || (pumpGroupDriven s p && s.plant.runForce.getD p false)

/-- High time of a fan's output in force; 0 while it is released (R386). -/
def fanDuty (s : State) (f : Nat) : Nat :=
  if s.pow.plantControl && domainOn s (115 + f / 8) then s.plant.dutyForce.getD f 0 else 0

/-- Speed logic of one pump (R389 to R393). -/
def pumpSpeed (z : Nat) (s : State) (p : Nat) : State :=
  let x := pumpSt s p
  let g := groupCfg s 0
  let lim := pumpLimit s p
  let runs := x.state = .run || (x.state = .unavailable && x.keepsRunning)
  let raw := min (max (max (max z (planDemand s 0)) (max (pumpLoopDemand s p) (fullTerm s 0 (!(settled s x.state x.fullSince)))))
    g.minSpeed) lim
  let t := adjustTarget g x.speedCmd raw
  let sp := if runs then speedStep g t x.speed else x.speed
  let cmd := if runs then speedCommand sp else 0
  let q := episodeStep s.seq.frame { x with target := t, speed := sp, speedCmd := cmd, limit := lim, runOut := runs }
  let q1 := { q with
    cmdSince := if g.minSpeed ≤ cmd then some (q.cmdSince.getD s.seq.frame) else none
    cmdHist := (s.seq.frame, cmd) :: q.cmdHist.filter fun h => s.seq.frame < h.1 + 50000 }
  let s1 := updPump p (fun _ => q1) s
  let mv := pumpAo (s.img.aos.getD p {}) runs cmd
  { s1 with plant := { s1.plant with aoStaged := s1.plant.aoStaged.set p mv } }

/-- Speed logic of one fan (R386, R389 to R393). -/
def fanSpeed (s : State) (f : Nat) : State :=
  let x := fanSt s f
  let gi := fanGroup f
  let g := groupCfg s gi
  let runs := x.state = .run
  let raw := min (max (max (s.pump.groups.getD gi {}).zoneDemand (planDemand s gi))
    (max (fullTerm s gi (!(settled s x.state x.fullSince))) g.minSpeed)) 10000
  let t := adjustTarget g x.speedCmd raw
  let sp := if runs then speedStep g t x.speed else x.speed
  let cmd := if runs then speedCommand sp else 0
  let low := runs && g.minSpeed ≤ cmd && x.rpm * 100000 < 3 * (s.img.fans.getD f {}).ratedRpm * cmd
  updFan f (fun _ => { x with target := t, speed := sp, speedCmd := cmd, duty := ceilDiv (cmd * 1600) 10000
                              lowSince := if low then some (x.lowSince.getD s.seq.frame) else none }) s

/-- Group entries (R408). -/
def groupStep (s : State) (g : Nat) : State :=
  let z := zoneDemand s g
  let lp := if g = 0 then listMax ((List.range 4).map fun p => if pumpPresent s p then pumpLoopDemand s p else 0) else 0
  { s with pump := { s.pump with groups := upd s.pump.groups g fun _ =>
    { zoneDemand := z.1, hottest := z.2, planDemand := planDemand s g, loopDemand := lp } } }

/-- An analog output of FUNCTION 2 or 3 takes the output of its loop (R303, R304). -/
def loopOutputs (s : State) : State :=
  (enabledLoops s).foldl (fun t i =>
    let c := ctlCfg t i
    match loopAo t c with
    | none => t
    | some ao =>
      let a := t.img.aos.getD ao {}
      if (ctl t i).state = .run || (ctl t i).state = .frozen then
        let mv := a.minMv + (((a.maxMv : Int) - a.minMv) * (ctl t i).u * 2 + 10000).toNat / 20000
        { t with plant := { t.plant with aoStaged := t.plant.aoStaged.set ao mv } }
      else t) s

/-! Water (R402 to R404). -/

def waterLeftMl (s : State) : Nat := s.img.limits.waterDaily - s.pump.today / 60000

/-- Spray is closed for the day (R404), or for good with a WATER_DAILY of 0. -/
def waterSpent (s : State) : Bool := s.img.limits.waterDaily * 60000 ≤ s.pump.today

/-- The water day of a wall time (R403). -/
def waterDay (s : State) : Int := (wallNow s - 60000000000 * (s.img.limits.waterDayStart : Int)) / 86400000000000

/-- t_rem_s by wall time (R403). -/
def wallTimeLeft (s : State) : Nat :=
  (min 86400 (max 0 ((((s.pump.day : Int) + 1) * 86400000000000 + 60000000000 * (s.img.limits.waterDayStart : Int) -
    wallNow s) / 1000000000))).toNat

/-- t_rem_s (R403): by wall time, or counted down in row time from its last value. -/
def timeLeft (s : State) : Nat :=
  if wallValid s && s.pump.wallDay then wallTimeLeft s
  else s.pump.tRem - (rowNs s - s.pump.tRemAt) / 1000000000

/-- A new water day (R403). -/
def newDay (day : Nat) (s : State) : State :=
  let s1 := { s with pump := { s.pump with
    day := day, today := 0, dayStored := true, budgetSpent := false, tRem := 86400, tRemAt := rowNs s } }
  post 0xA040 s1

/-- Keeps t_rem_s while wall time is valid, so that it counts on when wall time is not (R403). -/
def keepTimeLeft (s : State) : State :=
  if wallValid s && s.pump.wallDay then
    { s with pump := { s.pump with tRem := wallTimeLeft s, tRemAt := rowNs s } }
  else s

/-- When wall time first becomes valid the module takes the day and keeps its account (R403). -/
def takeWallDay (s : State) : State :=
  if wallValid s && !s.pump.wallDay then
    let d := (waterDay s).toNat
    keepTimeLeft { s with pump := { s.pump with wallDay := true, dayStored := true, day := max s.pump.day d } }
  else s

/-- WATER_DAY_ROLLOVER (R403): D_w exceeds the current day, or the row-time count has reached 0. -/
def execWaterDayRollover (s : State) : Host.Outcome State Fault Refusal :=
  .next (
    if wallValid s && s.pump.wallDay then
      (if (s.pump.day : Int) < waterDay s then keepTimeLeft (newDay (waterDay s).toNat s) else keepTimeLeft s)
    else if wallValid s then takeWallDay s
    else if timeLeft s = 0 then newDay (s.pump.day + 1) s else s)

/-- Water of one frame (R402, R404): the account of every valve commanded open. -/
def waterFrame (s : State) : State :=
  let isOpen (v : Nat) : Bool :=
    if v < 48 then (valveCfg s v).function = 3 && inCurrent (vch s v).drive else (s.pump.spray.getD v {}).open_
  let vs := (List.range 64).filter isOpen
  let r (v : Nat) : Nat := (s.pump.spray.getD v {}).rate
  let add := (vs.map r).sum
  let grow := fun (v : Nat) (x : SprayValve) =>
    if isOpen v then { x with account := x.account + x.rate, openFrames := x.openFrames + 1 } else x
  let s1 := { s with pump := { s.pump with
    spray := s.pump.spray.mapIdx grow, today := s.pump.today + add, total := s.pump.total + add } }
  if waterSpent s1 && !s.pump.budgetSpent && (add ≠ 0 || s.img.limits.waterDaily ≠ 0) then
    post 0xA041 { s1 with pump := { s1.pump with budgetSpent := true } }
  else s1

/-! Spray (R400, R401). -/

/-- Spray valves in service, ascending (R400). -/
def sprayServed (s : State) : List Nat := (List.range 64).filter fun v => (s.pump.spray.getD v {}).inService

/-- Rates and service of the spray valves (R400). -/
def sprayService (s : State) : State :=
  let f := fun (v : Nat) (x : SprayValve) =>
    if v < 48 then
      let on := (valveCfg s v).function = 3
      { x with rate := (valveCfg s v).flowRating, inService := on && valveHealth s v = 0 }
    else
      let j := v - 48
      let now := sensorValue s (240 + j)
      let best := match now, x.bestRate with
        | some r, some b => some (max b r.toNat)
        | some r, none => some r.toNat
        | none, b => b
      let exists_ := s.img.almanacs.any fun a => a.present && a.cell.any fun c => c.used && c.source = 516 + j
      { x with bestRate := best, rate := (now.map Int.toNat).getD (best.getD 0), inService := exists_ && best.isSome }
  { s with pump := { s.pump with spray := s.pump.spray.mapIdx f } }

/-- Spray duty in force (R389, R394, R395, R399, R404). -/
def sprayDuty (s : State) : Nat :=
  if s.pump.vigil || s.pump.sprayInhibit || waterSpent s || !(planHolds s) then 0
  else match s.plan.inForce with
    | some p => p.spray.getD 0 0
    | none => 0

/-- Closes every spray valve: the spray commands are dropped (R401, R404, R430). -/
def closeSpray (s : State) : State :=
  let f := fun (x : SprayValve) => { x with open_ := false, from_ := 0, until_ := 0 }
  let g := fun (x : ValveCh) => { x with c2 := false }
  { s with pump := { s.pump with acc := 0, spray := s.pump.spray.map f }
           valve := { s.valve with ch := s.valve.ch.map g } }

/-- Frames of opening owed with the cycle that begins, and those that it opens each valve for (R401). -/
def sprayOwed (s : State) : Nat × Nat :=
  let d := sprayDuty s
  let acc := if d = 0 then 0 else s.pump.acc + 10 * d
  (acc, if 5000 ≤ acc then min acc 100000 else 0)

/-- The spray entries with the openings of a cycle that begins at frame n (R401). -/
def sprayOpenings (n : Nat) (s : State) : List SprayValve :=
  let on := (sprayOwed s).2
  let vs := sprayServed s
  s.pump.spray.mapIdx fun (v : Nat) (x : SprayValve) =>
    match vs.findIdx? (· = v) with
    | some i =>
      let a := n + (100000 - on) * i / vs.length
      { x with from_ := if on = 0 then 0 else a, until_ := if on = 0 then 0 else a + on }
    | none => { x with from_ := 0, until_ := 0 }

/-- SPRAY_CYCLE (R401): at frames n with n mod 100,000 = 0 the openings of the cycle are set. -/
def sprayCycle (s : State) : State :=
  let w := sprayOwed s
  let s1 := { s with pump := { s.pump with acc := w.1 - w.2, spray := sprayOpenings s.seq.frame s } }
  if w.2 = 0 then s1 else pumpCount 7 s1

/-- The openings that the staging of this frame works for: in the frame before a cycle they are those of that cycle, so
that its first opening is in force at its first frame (DEDUCED, log entry 187). -/
def sprayAhead (s : State) : List SprayValve :=
  let n := s.seq.frame + 1
  if n % 100000 = 0 then sprayOpenings n s else s.pump.spray

def execSprayCycle (s : State) : Host.Outcome State Fault Refusal :=
  .next (if s.seq.frame % 100000 = 0 && s.pow.plantControl then sprayCycle s else s)

/-- Spray openings of this frame (R401): a solenoid's command comes into force in the staging of frame n - 1 for an
opening from frame n; a duty of 0 closes every valve. -/
def sprayStep (s : State) : State :=
  if sprayDuty s = 0 || !s.pow.plantControl then
    (if s.pump.acc = 0 && !(s.pump.spray.any fun x => x.open_ || x.until_ ≠ 0) && !(s.valve.ch.any (·.c2)) then s
     else closeSpray s)
  else
    let n := s.seq.frame + 1
    let ahead := sprayAhead s
    let want (v : Nat) : Bool :=
      let x := ahead.getD v {}
      x.inService && x.from_ ≤ n && n < x.until_
    let opn := fun (v : Nat) (x : SprayValve) =>
      { x with open_ := if v < 48 then inCurrent (vch s v).drive else want v }
    let s1 := { s with pump := { s.pump with spray := s.pump.spray.mapIdx opn } }
    -- a refused or pre-empted opening asks again at its next cycle, so a command is set when its opening begins
    let cmd := fun (c : Nat) (x : ValveCh) =>
      let p := ahead.getD c {}
      if (valveCfg s c).function ≠ 3 then x
      else if p.inService && p.from_ = n && p.until_ ≠ 0 then { x with c2 := true }
      else if want c then x else { x with c2 := false }
    { s1 with valve := { s1.valve with ch := s1.valve.ch.mapIdx cmd } }

/-- The adiabatic pad flush in progress, if any: its first frame and the frames for each valve (R567). -/
def flushRun (s : State) : Option (Nat × Nat) :=
  (s.maint.activities.find? fun a => a.state = .running && a.code = 7).map fun a =>
    (a.startFrame, 10000 * (a.target % 1024))

/-- Frames since the start of a flush at which every valve in service has had its turn. -/
def flushLength (s : State) (each : Nat) : Nat := each * (sprayServed s).length

/-- The flush opens each spray valve in service in turn, in ascending number (R567): a solenoid by a class-1 command,
a CAN valve directly. -/
def flushStep (s : State) : State :=
  match flushRun s with
  | none => s
  | some (start, each) =>
    let n := s.seq.frame + 1 - start
    let now : Option Nat := if each = 0 then none else (sprayServed s)[n / each]?
    let opn := fun (v : Nat) (x : SprayValve) => if 48 ≤ v && now = some v then { x with open_ := true } else x
    let cmd := fun (c : Nat) (x : ValveCh) =>
      if (valveCfg s c).function ≠ 3 then x
      else { x with c1 := if now = some c then some (!(valveCfg s c).normallyOpen) else none }
    { s with pump := { s.pump with spray := s.pump.spray.mapIdx opn }
             valve := { s.valve with ch := s.valve.ch.mapIdx cmd } }

/-! Vigil (R394, R395). -/

/-- VIGIL_HOLD (R395): no plan commit has taken effect for more than 500 frames. -/
def execVigilHold (s : State) : Host.Outcome State Fault Refusal :=
  .next (if s.pow.plantControl && 500 < s.pump.planAge && !s.pump.vigil then
      post 0xA020 (pumpCount 0 (closeSpray { s with pump := { s.pump with vigil := true, commitRun := 0 } }))
    else s)

/-- Vigil holds only with plant control (R395). -/
def endVigil (s : State) : State := { s with pump := { s.pump with vigil := false, commitRun := 0 } }

/-- A plan commit takes effect, or an epoch boundary passes without one (R395). -/
def vigilCommit (committed : Bool) (s : State) : State :=
  if committed then
    let run := s.pump.commitRun + 1
    let s1 : State := { s with pump := { s.pump with planAge := 0, commitRun := run } }
    if s.pump.vigil && 10 ≤ run then
      post 0xA021 { s1 with pump := { s1.pump with vigil := false, commitRun := 0 } }
    else s1
  else { s with pump := { s.pump with commitRun := 0 } }

/-! Stalls and failed elements (R396 to R399). -/

/-- Sets the group's full-speed command when a window is open (R398). -/
def groupFull (g : Nat) (s : State) : State :=
  if anyWindow s && !(s.pump.fullSpeed.getD g false) then
    post 0xA022 { s with pump := { s.pump with fullSpeed := s.pump.fullSpeed.set g true } } g
  else s

/-- A pump stalls (R397). One whose command runs on without its interface group goes on with `RUN` 0. The event carries
the drive's last FAULT_CODE, which R382 has logged (DESIGN CHOICE, log entry 186). -/
def stallPump (p : Nat) (s : State) : State :=
  let x := pumpSt s p
  if x.state ≠ .run && !(x.state = .unavailable && x.keepsRunning) then s
  else
    let c := s.img.pumps.getD p {}
    let out := c.stallRetries ≤ x.retries
    let w := anyWindow s
    let s1 := updPump p (fun y => { y with
      state := if out then .failed else .retry, retries := if out then y.retries else y.retries + 1
      retrySince := s.seq.frame, stallFrame := s.seq.frame, stalls := cnt y.stalls, runOut := false
      keepsRunning := false
      fullSince := if w || y.fullSince.isSome then some s.seq.frame else none }) s
    let s2 := pumpCount 1 (if out then pumpCount 4 s1 else pumpCount 3 s1)
    groupFull 0 (post (if out then 0xA003 else 0xA001) s2 p 0xFFFF (leBytes 2 x.faultCode))

/-- A fan stalls (R397). -/
def stallFan (f : Nat) (s : State) : State :=
  let x := fanSt s f
  if x.state ≠ .run then s
  else
    let c := s.img.fans.getD f {}
    let out := c.stallRetries ≤ x.retries
    let w := anyWindow s
    let s1 := updFan f (fun y => { y with
      state := if out then .failed else .retry, retries := if out then y.retries else y.retries + 1
      retrySince := s.seq.frame, stallFrame := s.seq.frame, stalls := cnt y.stalls, duty := 0
      fullSince := if w || y.fullSince.isSome then some s.seq.frame else none }) s
    let s2 := pumpCount 2 (if out then pumpCount 4 s1 else pumpCount 3 s1)
    groupFull (fanGroup f) (post (if out then 0xA012 else 0xA010) s2 f)

/-- A pump restarts (R397). -/
def restartPump (p : Nat) (s : State) : State :=
  updPump p (fun y => { y with state := .run, speed := 0, speedCmd := 0, suppress := s.seq.frame + 80000
                               stallFrame := s.seq.frame, cmdSince := none, cmdHist := [], actHist := []
                               faultSince := none
                               fullSince := y.fullSince.map fun _ => s.seq.frame }) s

def restartFan (f : Nat) (s : State) : State :=
  updFan f (fun y => { y with state := .run, speed := 0, speedCmd := 0, suppress := s.seq.frame + 80000
                              stallFrame := s.seq.frame, lowSince := none
                              fullSince := y.fullSince.map fun _ => s.seq.frame }) s

/-- A stall condition of R396 holds for a pump. -/
def pumpStalls (s : State) (p : Nat) : Bool :=
  let x := pumpSt s p
  let fault := domainOn s (111 + p) && (match x.faultSince with
    | some f => f + 1000 ≤ s.seq.frame
    | none => false)
  let slow := !x.analog && (match x.cmdSince with
    | some f => f + 50000 ≤ s.seq.frame
    | none => false) &&
    (let least := listMin 0 (x.cmdHist.map (·.2))
     let acts := x.actHist.filter fun h => s.seq.frame < h.1 + 50000
     !acts.isEmpty && acts.all fun h => 2 * h.2 < least)
  x.suppress ≤ s.seq.frame && (fault || slow)

def fanStalls (s : State) (f : Nat) : Bool :=
  let x := fanSt s f
  x.suppress ≤ s.seq.frame && (match x.lowSince with
    | some a => a + 30000 ≤ s.seq.frame
    | none => false)

/-- ELEMENT_STALL (R396, R397): pumps 0 to 3 are elements 0 to 3, fans 0 to 23 elements 4 to 27. `statusFault` is a
valid status message with FAULT 1; a pump on its analog path is judged by its fault input alone (R385). -/
def elementStall (element : Nat) (statusFault : Bool) (s : State) : State :=
  if element < 4 then
    (let x := pumpSt s element
     if pumpStalls s element || (statusFault && !x.analog && x.suppress ≤ s.seq.frame) then stallPump element s else s)
  else if fanStalls s (element - 4) then stallFan (element - 4) s else s

/-- ELEMENT_RETRY_END (R397): 2 s in RETRY. -/
def execElementRetryEnd (element : Nat) (s : State) : Host.Outcome State Fault Refusal :=
  .next (if element < 4 then
      let x := pumpSt s element
      if x.state = .retry && x.retrySince + 20000 ≤ s.seq.frame then post 0xA002 (restartPump element s) element else s
    else
      let f := element - 4
      let x := fanSt s f
      if x.state = .retry && x.retrySince + 20000 ≤ s.seq.frame then post 0xA011 (restartFan f s) f else s)

/-- RETRY_COUNT_RESET (R397): 600 s in RUN without a stall. -/
def execRetryCountReset (element : Nat) (s : State) : Host.Outcome State Fault Refusal :=
  .next (if element < 4 then
      let x := pumpSt s element
      if x.state = .run && x.stallFrame + 6000000 ≤ s.seq.frame then updPump element (fun y => { y with retries := 0 }) s
      else s
    else
      let x := fanSt s (element - 4)
      if x.state = .run && x.stallFrame + 6000000 ≤ s.seq.frame then
        updFan (element - 4) (fun y => { y with retries := 0 }) s
      else s)

/-- Every element of a group has settled (R398). -/
def groupMembersSettled (s : State) (g : Nat) : Bool :=
  if g = 0 then (List.range 4).all fun p => settled s (pumpSt s p).state (pumpSt s p).fullSince
  else (List.range 8).all fun i =>
    let x := fanSt s (8 * (g - 1) + i)
    settled s x.state x.fullSince

/-- GROUP_FULL_SPEED_END (R398). -/
def execGroupFullSpeedEnd (group : Nat) (s : State) : Host.Outcome State Fault Refusal :=
  .next (if s.pump.fullSpeed.getD group false && groupMembersSettled s group then
      let s1 := { s with pump := { s.pump with
        fullSpeed := s.pump.fullSpeed.set group false
        pumps := if group = 0 then s.pump.pumps.map fun x => { x with fullSince := none } else s.pump.pumps
        fans := s.pump.fans.mapIdx fun i x => if fanGroup i = group then { x with fullSince := none } else x } }
      post 0xA023 s1 group
    else s)

/-- An element whose interface or fan domain is off becomes UNAVAILABLE; with the domain on again it runs (R397). -/
def pumpDomain (s : State) (p : Nat) : State :=
  let x := pumpSt s p
  let on := domainOn s (111 + p)
  match x.state with
  | .absent => s
  | .unavailable =>
    if x.rotated then s
    else if on then
      (if x.keepsRunning then updPump p (fun y => { y with state := .run, retries := 0, keepsRunning := false }) s
       else updPump p (fun y => { y with retries := 0 }) (restartPump p s))
    else s
  | st => if on then s else
      updPump p (fun y => { y with state := .unavailable, keepsRunning := decide (st = .run), faultSince := none }) s

def fanDomain (s : State) (f : Nat) : State :=
  let x := fanSt s f
  let on := domainOn s (115 + f / 8)
  match x.state with
  | .absent => s
  | .unavailable => if on then updFan f (fun y => { y with retries := 0 }) (restartFan f s) else s
  | _ => if on then s else updFan f (fun y => { y with state := .unavailable, duty := 0 }) s

def elementDomains (s : State) : State :=
  (List.range 24).foldl fanDomain ((List.range 4).foldl pumpDomain s)

/-- Elements after an image is loaded (R397). -/
def initElements (s : State) : State :=
  { s with pump := { s.pump with
    pumps := (List.range 4).map fun p => if pumpPresent s p then { state := .run } else {}
    fans := (List.range 24).map fun f => if fanPresent s f then { state := .run } else {} } }

/-! Pump status (R382, R385). -/

/-- The 1 ms basic cycle of a frame: 10 frames. -/
def basicCycle (s : State) : Nat := s.seq.frame / 10

/-- Status of a pump has gone stale: 100 ms without one, from READY on, or its channel bus-off (R385). -/
def pumpStale (s : State) (p : Nat) : Bool :=
  let c := s.img.pumps.getD p {}
  ((s.can.ch.getD c.canCh {}).state = .busOff) || (match (pumpSt s p).lastStatus with
    | some f => f + 1000 ≤ s.seq.frame
    | none => 1000 ≤ s.seq.frame)

/-- PUMP_STATUS_STALE (R385): the pump moves to its analog path. -/
def execPumpStatusStale (index : Nat) (s : State) : Host.Outcome State Fault Refusal :=
  .next (if pumpPresent s index && !(pumpSt s index).analog && pumpStale s index then
      post 0xA004 (pumpCount 5 (updPump index (fun y => { y with analog := true, cycleRun := 0 }) s)) index
    else s)

/-- A valid status message (R382, R385). -/
def pumpStatus (p : Nat) (bytes : List Nat) (s : State) : State :=
  if bytes.length ≠ 8 then pumpCount 6 s
  else
    let n := leNat bytes
    let act := bits n 15 0
    let cyc := basicCycle s
    let x := pumpSt s p
    let run := if x.lastStatus.isSome && x.lastCycle = cyc then max 1 x.cycleRun
      else if x.lastStatus.isSome && x.lastCycle + 1 = cyc then x.cycleRun + 1 else 1
    let s1 := updPump p (fun y => { y with
      speedAct := act, running := bit n 16, faultCode := bits n 47 32
      statusCount := cnt y.statusCount, lastStatus := some s.seq.frame, cycleRun := run, lastCycle := cyc
      actHist := (s.seq.frame, act) :: y.actHist.filter fun h => s.seq.frame < h.1 + 50000 }) s
    let s2 := if x.analog && 10 ≤ run then post 0xA005 (updPump p (fun y => { y with analog := false }) s1) p else s1
    if bit n 17 then elementStall p true s2 else s2

/-- PUMP_STATUS_RECEIVED (R382). -/
def execPumpStatusReceived (index : Nat) (bytes : List Nat) (s : State) : Host.Outcome State Fault Refusal :=
  .next (if pumpPresent s index then pumpStatus index bytes s else s)

/-- PUMP_OVERSPEED_LIMIT (R31, R34): an episode has lasted 120 s, so the limit falls to 100 %. -/
def execPumpOverspeedLimit (index : Nat) (s : State) : Host.Outcome State Fault Refusal :=
  .next (match (pumpSt s index).episode with
    | some f => if f + 1200000 ≤ s.seq.frame then updPump index (fun y => { y with limit := 10000 }) s else s
    | none => s)

/-- OVERSPEED_REST_END (R34): 300 s have passed since the episode ended. -/
def execOverspeedRestEnd (index : Nat) (s : State) : Host.Outcome State Fault Refusal :=
  .next (match (pumpSt s index).restEnd with
    | some f => if f ≤ s.seq.frame then updPump index (fun y => { y with restEnd := none }) s else s
    | none => s)

/-- CLEAR_ELEMENT's own check (R399): the element is FAILED. -/
def clearElementCheck (s : State) (isFan : Bool) (n : Nat) : Nat :=
  if (isFan && 24 ≤ n) || (!isFan && 4 ≤ n) then 3
  else if isFan then (if (fanSt s n).state = .failed then 0 else 2)
  else if (pumpSt s n).state = .failed then 0 else 2

def applyClearElement (isFan : Bool) (n : Nat) (s : State) : State :=
  if isFan then post 0xA050 (updFan n (fun y => { y with retries := 0 }) (restartFan n s)) n
  else post 0xA050 (updPump n (fun y => { y with retries := 0 }) (restartPump n s)) n

/-- SET_SPRAY_INHIBIT takes effect (R399). -/
def applySprayInhibit (v : Bool) (s : State) : State :=
  let s1 := { s with pump := { s.pump with sprayInhibit := v } }
  post 0xA042 (if v then closeSpray s1 else s1)

/-- SPEED_LOGIC of one frame (R393): zones, demands, targets, speeds, spray, water and analog outputs. -/
def speedLogic (s : State) : State :=
  let s0 := (List.range 16).foldl zoneStep (sprayService s)
  let s1 := (List.range 4).foldl groupStep s0
  if !s1.pow.plantControl then s1
  else
    let z := (s1.pump.groups.getD 0 {}).zoneDemand
    let s2 := ((List.range 4).filter (pumpPresent s1)).foldl (pumpSpeed z) s1
    let s3 := ((List.range 24).filter (fanPresent s1)).foldl fanSpeed s2
    loopOutputs (waterFrame (flushStep (sprayStep s3)))

end Sys2Proof.Machine
end

