-- ==== Sys2Proof/Machine/Activities.lean ====
section
/-! DEFINITION. Running maintenance activities: what they name, and how a happening of R576 ends them (R566, R573,
R576). -/

namespace Sys2Proof.Machine

def activity (s : State) (i : Nat) : Activity := s.maint.activities.getD i {}
def updActivity (i : Nat) (f : Activity → Activity) (s : State) : State :=
  { s with maint := { s.maint with activities := upd s.maint.activities i f } }

/-- Valve channels that an activity names (R566). -/
def actChannels (s : State) (a : Activity) : List Nat :=
  match a.code with
  | 0 => [a.target % 64]
  | 2 =>
    let c := s.img.topology.loops.getD (a.target % 32) {}
    [c.supplyValve, c.returnValve]
  | 4 | 5 => [a.target / 32 % 64]
  | _ => []

/-- An activity runs, or has been accepted for the next boundary (R571, R572). -/
def inProgress (a : Activity) : Bool := a.state = .starting || a.state = .running

/-- Ends activity i (R573): the event is 0xF011, or 0xF013 for an abort. One that has not begun leaves nothing for the
boundary. -/
def endActivity (i : Nat) (st : ActState) (cause : Nat) (s : State) : State :=
  let a := activity s i
  if !(inProgress a) then s
  else
    let res := match st with
      | .complete => 1
      | .pass => 2
      | .fail => 3
      | .stopped => 4
      | _ => 5
    let s0 := updActivity i (fun y => { y with
      state := st, result := res, cause := cause, endFrame := s.seq.frame, stroke := .none }) s
    let s1 := { s0 with maint := { s0.maint with
      counters := upd s0.maint.counters (2 + res) cnt
      dropping := if a.state = .running then s0.maint.dropping ++ [a] else s0.maint.dropping } }
    if st = .aborted then post 0xF013 s1 i 0xFFFF (leBytes 2 a.id ++ [cause])
    else post 0xF011 s1 i 0xFFFF (leBytes 2 a.id)

/-- Aborts every activity of a kind that runs or is about to, with the row of R576 as its cause. -/
def abortWhere (cause : Nat) (p : Activity → Bool) (s : State) : State :=
  (List.range 4).foldl (fun t i => if inProgress (activity t i) && p (activity t i) then
    endActivity i .aborted cause t else t) s

def abortAll (cause : Nat) (s : State) : State := abortWhere cause (fun _ => true) s

/-- Activities whose channel has failed (R576). -/
def abortFailed (s : State) : State :=
  abortWhere 8 (fun a => (actChannels s a).any fun c => (vch s c).reason ≠ 0) s

/-- A pump leaves RUN: its own rotation ends, and a rotation is given up when no other pump runs (R576). -/
def abortPumpStall (s : State) : State :=
  let none_ (p : Nat) : Bool :=
    !((List.range 4).any fun q => q ≠ p && (pumpSt s q).state = .run)
  abortWhere 9 (fun a => a.code = 1 && none_ (a.target % 4)) s

/-- Spray is stopped for the day or inhibited: a pad flush ends (R576). -/
def abortFlush (s : State) : State := abortWhere 7 (fun a => a.code = 7) s

/-- ELEMENT_STALL (R396). -/
def execElementStall (element : Nat) (s : State) : Host.Outcome State Fault Refusal :=
  .next (abortPumpStall (elementStall element false s))

end Sys2Proof.Machine
end

