-- ==== Sys2Proof/Machine/Pages.lean ====
section
/-! DEFINITION. Heat pages: the page table, pools, faults, drains, returns, surge and cover (R145 to R167, R171 to
R173). One function for each step of the allocator's slice. -/

namespace Sys2Proof.Machine

/-- base_l: the first page number of loop l (R145). -/
def pageBase (s : State) (l : Nat) : Nat := (s.img.pages.poolMax.take l).sum

/-- Loop that owns a page number; 31 for none (R145, R175). -/
def pageLoop (s : State) (k : Nat) : Nat :=
  ((List.range 24).find? fun l => pageBase s l ≤ k && k < pageBase s l + s.img.pages.poolMax.getD l 0).getD 31

def page (s : State) (k : Nat) : Page := s.heat.pages.getD k {}

/-- Page numbers of a loop's range that the table holds. -/
def loopRange (s : State) (l : Nat) : List Nat :=
  ((List.range (s.img.pages.poolMax.getD l 0)).map (pageBase s l + ·)).filter (· < s.heat.pages.length)

/-- Pages in the pool: not RETIRED, and not held as surge or cover (R146). -/
def inPool (p : Page) : Bool := p.state ≠ .retired && !p.surge && !p.cover

def poolCount (s : State) (l : Nat) : Nat := (loopRange s l).countP fun k => inPool (page s k)

/-- The page generation increments at every change of STATE, SITE, PENDING or NEXT_SITE (R170). -/
def bumpGen (old new : Page) : Page :=
  if old.state = new.state ∧ old.site = new.site ∧ old.pending = new.pending ∧ old.nextSite = new.nextSite then new
  else { new with pgen := (old.pgen + 1) % 65536 }

def setPage (k : Nat) (f : Page → Page) (s : State) : State :=
  { s with heat := { s.heat with pages := upd s.heat.pages k fun p => bumpGen p (f p) } }

def tick (s : State) : State := { s with heat := { s.heat with clock := s.heat.clock + 1 } }

/-- HELD by a site at once, as ordinary, surge or cover page. -/
def grantPage (k site : Nat) (surge cover : Bool) (s : State) : State :=
  tick (setPage k (fun p => { p with state := .held, site, surge, cover, converted := false, pending := false
                                     nextSite := 0, nextCover := false, grant := s.heat.clock }) s)

/-- Starts draining; a promise names its receiver. -/
def drainPage (k : Nat) (next : Option (Nat × Bool)) (s : State) : State :=
  tick (setPage k (fun p => { p with state := .draining, pending := next.isSome, nextSite := (next.map (·.1)).getD 0
                                     nextCover := (next.map (·.2)).getD false, drain := s.heat.clock }) s)

def clearPage (st : PageState) (k : Nat) (s : State) : State :=
  setPage k (fun p => { ({} : Page) with state := st, pgen := p.pgen }) s

/-- Cancels a promise: the page drains to FREE (R172). -/
def cancelPromise (k : Nat) (s : State) : State :=
  setPage k (fun p => { p with pending := false, nextSite := 0, nextCover := false }) s

def pagesWhere (s : State) (q : Page → Bool) : List Nat :=
  indicesWhere s.heat.pages fun _ p => q p

/-- Pages HELD by a site. -/
def heldBy (s : State) (i : Nat) : List Nat := pagesWhere s fun p => p.state = .held && p.site = i

/-- Pages DRAINING away from a site, oldest first (R160). -/
def drainingFrom (s : State) (i : Nat) : List Nat :=
  sortBy (fun a b => (page s a).drain < (page s b).drain)
    (pagesWhere s fun p => p.state = .draining && p.site = i)

def promisedTo (s : State) (i : Nat) : List Nat :=
  pagesWhere s fun p => p.state = .draining && p.pending && p.nextSite = i

/-- An ordinary page of a tenant: HELD, not surge, and not cover unless converted (R166). -/
def isOrdinary (p : Page) : Bool := p.state = .held && !p.surge && (!p.cover || p.converted)

def boundTo (s : State) (t i : Nat) : Bool := (siteP s i).tenant = some t

/-- Ordinary pages of a tenant, oldest grant first. -/
def tenantOrdinary (s : State) (t : Nat) : List Nat :=
  sortBy (fun a b => (page s a).grant < (page s b).grant)
    (pagesWhere s fun p => isOrdinary p && boundTo s t p.site)

def tenantSurge (s : State) (t : Nat) : List Nat :=
  pagesWhere s fun p => p.state = .held && p.surge && boundTo s t p.site

/-- Pages promised to a tenant's sites, but for cover. -/
def tenantPromised (s : State) (t : Nat) : List Nat :=
  pagesWhere s fun p => p.state = .draining && p.pending && !p.nextCover && boundTo s t p.nextSite

def tenantUse (s : State) (t : Nat) : Nat :=
  (tenantOrdinary s t).length + (tenantSurge s t).length + (tenantPromised s t).length

/-- Guaranteed pages of a tenant: its oldest min(held, MIN_IN_FORCE) ordinary pages across the row (R150); a
converted cover page is never guaranteed (R166). -/
def guaranteed (s : State) (t : Nat) : List Nat :=
  ((tenantOrdinary s t).filter fun k => !(page s k).cover).take (tenantSt s t).minIn

def isGuaranteed (s : State) (k : Nat) : Bool :=
  match (siteP s (page s k).site).tenant with
  | some t => (guaranteed s t).contains k
  | none => false

def pageClass (s : State) (k : Nat) : Nat :=
  match (siteP s (page s k).site).tenant with
  | some t => (tenantCfg s t).cls
  | none => 0

def newestFirst (s : State) (l : List Nat) : List Nat := sortBy (fun a b => (page s b).grant < (page s a).grant) l

/-! Caps of a site (R151). -/

/-- The floor in force f: the slot's floor, raised to the Ember floor when the plan grants it (R151). -/
def floorInForce (s : State) (i : Nat) : Nat :=
  let e := (s.img.modes.modes.getD s.plan.mode.code {}).emberPower
  if (siteP s i).ember then max (slotCfg s i).floorCap e else (slotCfg s i).floorCap

/-- The page cap P (R151). -/
def pageCapOf (s : State) (i : Nat) : Nat :=
  min s.img.limits.chipCap (floorInForce s i + 2000 * (heldBy s i).length)

def floorSum (s : State) (l : Nat) : Nat := ((loopSites s l).map (floorInForce s)).sum

/-- What Ember grants in force add to the floors of a loop (R206). -/
def emberSum (s : State) (l : Nat) : Nat := ((loopSites s l).map fun i => floorInForce s i - (slotCfg s i).floorCap).sum

def pageCapSum (s : State) (l : Nat) : Nat := ((loopSites s l).map (pageCapOf s)).sum

def rowPageCapSum (s : State) : Nat := ((presentSites s).map (pageCapOf s)).sum

/-- A valve stroke test holds the loop's rack limit at its floor sum until the boundary after its end (R568). -/
def strokeHolds (s : State) (l : Nat) : Bool :=
  (holding s).any (strokeOf l)

/-- Rack limit in force (R152, R568). -/
def rackInForce (s : State) (l : Nat) : Nat :=
  if strokeHolds s l then min (s.heat.rackLimit.getD l 0) (floorSum s l) else s.heat.rackLimit.getD l 0

/-- Clip of one site's value by a factor in Q16, rounded down (R152). -/
def clipBy (k f p : Nat) : Nat := f + (p - f) * k / 65536

/-- Clip factor of a group of sites with floor sum F, sum of p - f, and a limit (R152). -/
def clipFactor (limit fsum excess : Nat) : Nat :=
  if excess = 0 then 0 else min 65536 (65536 * (limit - fsum) / excess)

/-- Targets T of every present site, as (site, T), after the rack clip and the row clip (R151, R152). -/
def rackTargets (s : State) (l : Nat) : List (Nat × Nat) :=
  let sites := loopSites s l
  let limit := rackInForce s l
  let fsum := floorSum s l
  let psum := pageCapSum s l
  let k := clipFactor limit fsum (psum - fsum)
  sites.map fun i =>
    let f := floorInForce s i
    let p := pageCapOf s i
    (i, if limit < psum then clipBy k f p else p)

def allTargets (s : State) : List (Nat × Nat) :=
  let t := (List.range 24).flatMap (rackTargets s)
  let fsum := (t.map fun x => floorInForce s x.1).sum
  let tsum := (t.map (·.2)).sum
  let k := clipFactor s.heat.rowLimit fsum (tsum - fsum)
  if s.heat.rowLimit < tsum then t.map fun x => (x.1, clipBy k (floorInForce s x.1) x.2) else t

/-- The slope rule (R151 stage 4). -/
def capSlope (up down prev t : Nat) : Nat := if prev < t then min t (prev + up) else max t (prev - down)

/-- Target that stage 4 uses: 2 % lower in the first half of a dither window (R334); in SAFE_HOLD and HOLD_LOCKED at
most the lower of the cap and the fallback cap (R48). -/
def stageTarget (s : State) (i t : Nat) : Nat :=
  let t1 := match (siteC s i).dither with
    | some d => if s.seq.frame < d.start + 100 then t - t / 50 else t
    | none => t
  if inHoldState s then min t1 (min (siteP s i).cap (slotCfg s i).fallbackCap) else t1
where
  /-- The sequencer is in SAFE_HOLD or HOLD_LOCKED. -/
  inHoldState (s : State) : Bool := s.seq.state ≠ .normal

/-- Effective cap (R151 stage 4, R153). In the frame that takes plant control it is the starting cap of R134. -/
def effectiveCap (s : State) (i t : Nat) : Nat :=
  if (loopP s (siteLoop s i)).isolated then floorInForce s i
  else if (siteC s i).response = .unresponsive then assumedCap s i
  else if s.pow.plantControl && s.pump.controlFrame = some s.seq.frame then
    min (slotCfg s i).fallbackCap (stageTarget s i t)
  else capSlope s.img.pages.slopeUp s.img.pages.slopeDown (siteP s i).cap (stageTarget s i t)

/-! Step 1: boundary work (R149, R150, R164). -/

/-- Pool pages of a loop in the order in which a shrink retires them (R150). -/
def shrinkOrder (s : State) (l : Nat) : List Nat :=
  let pool := (loopRange s l).filter fun k => inPool (page s k)
  let held := pool.filter fun k => (page s k).state = .held
  let byClass (g : Bool) : List Nat := (List.range 4).flatMap fun c =>
    newestFirst s (held.filter fun k => isGuaranteed s k = g && pageClass s k = c)
  (pool.filter fun k => (page s k).state = .free).reverse ++
  (pool.filter fun k => (page s k).state = .draining && !(page s k).pending).reverse ++
  (pool.filter fun k => (page s k).state = .draining && (page s k).pending).reverse ++
  byClass false ++ byClass true

/-- Retires the pages by which the pool exceeds its size in force (R150); event 0x4021 marks a shrink that takes HELD
pages (R177). -/
def shrinkPool (l : Nat) (s : State) : State :=
  let d := poolCount s l - (loopP s l).poolForce
  let victims := (shrinkOrder s l).take d
  let s1 := victims.foldl (fun t k => clearPage .retired k t) s
  let s2 := heatCount 10 victims.length s1
  if victims.any fun k => decide ((page s k).state = .held) then post 0x4021 s2 l else s2

/-- The lowest RETIRED pages join until the pool has its size in force (R149). -/
def fillPool (l : Nat) (s : State) : State :=
  let want := (loopP s l).poolForce - poolCount s l
  let cand := ((loopRange s l).filter fun k => (page s k).state = .retired).take want
  cand.foldl (fun t k => clearPage .free k t) s

/-- A new planned size at an epoch boundary (R149). -/
def takePool (l : Nat) (s : State) : State :=
  let x := loopP s l
  let planned := min x.poolPlan (s.img.pages.poolMax.getD l 0)
  if x.isolated then updLoopP l (fun y => { y with poolForce := 0, growCount := 0, growSeen := [] }) s
  else if planned ≤ x.poolForce then
    shrinkPool l (updLoopP l (fun y => { y with poolForce := planned, growCount := 0, growSeen := [] }) s)
  else if x.growCount < 2 then
    updLoopP l (fun y => { y with growCount := y.growCount + 1, growSeen := planned :: y.growSeen }) s
  else
    let size := listMin planned (planned :: x.growSeen)
    post 0x4022 (updLoopP l (fun y => { y with poolForce := size, growCount := 0, growSeen := [] }) s) l

/-- Surge pages of a loop, HELD and DRAINING. -/
def surgePages (s : State) (l : Nat) : List Nat :=
  (loopRange s l).filter fun k => (page s k).surge && ((page s k).state = .held || (page s k).state = .draining)

/-- While the loop's surge pages, HELD and DRAINING together, outnumber the surge pool, HELD ones are set draining, newest
first, until none is left (R164). A page that drains still counts, so the HELD ones all go (DEDUCED, log entry 20). -/
def surgeRemoval (l : Nat) (s : State) : State :=
  let all := surgePages s l
  let held := newestFirst s (all.filter fun k => (page s k).state = .held)
  let victims := if (loopP s l).surgePool < all.length then held else []
  let s1 := victims.foldl (fun t k => drainPage k none t) s
  if victims.isEmpty then s1 else post 0x4023 (heatCount 11 victims.length s1) l

/-- The surge pool is clamped so that pool and surge pool fit the loop's range (R164). -/
def clampSurge (l : Nat) (s : State) : State :=
  updLoopP l (fun y => { y with surgePool := min y.surgePool (s.img.pages.poolMax.getD l 0 - y.poolForce) }) s

/-- Pages a site loses in the order of R161: surge first, then converted cover, then the newest ordinary. -/
def leaveOrder (s : State) (ks : List Nat) : List Nat :=
  newestFirst s (ks.filter fun k => (page s k).surge) ++
  newestFirst s (ks.filter fun k => !(page s k).surge && (page s k).cover) ++
  newestFirst s (ks.filter fun k => !(page s k).surge && !(page s k).cover)

def drainAll (ks : List Nat) (s : State) : State := ks.foldl (fun t k => drainPage k none t) s

/-- Page work left by requests (R161, R168). -/
def doWork (w : PageWork) (s : State) : State :=
  match w with
  | .release ks => drainAll (ks.filter fun k => (page s k).state = .held) s
  | .vacate i =>
    let s1 := (promisedTo s i).foldl (fun t k => cancelPromise k t) s
    drainAll (leaveOrder s1 ((heldBy s1 i).filter fun k => !(page s1 k).cover || (page s1 k).converted)) s1

/-- Step 1 of R171. Boundary work that an overrun put off is taken in the next slice (DESIGN CHOICE, log entry 179). -/
def allocBoundary (s : State) : State :=
  let s1 := if s.heat.boundaryDue then
      (List.range 24).foldl (fun t l => clampSurge l (takePool l t))
        { s with heat := { s.heat with boundaryDue := false } }
    else s
  let s2 := s1.heat.work.foldl (fun t w => doWork w t) { s1 with heat := { s1.heat with work := [] } }
  let s3 := (List.range 24).foldl (fun t l => fillPool l t) s2
  (List.range 24).foldl (fun t l => surgeRemoval l t) s3

/-! Step 2: leak isolation and silence (R163, R165, R166). -/

/-- Every page of an isolated loop becomes RETIRED and its pool 0, its credit 0 (R163, R203); event 0x4030 marks the isolation. -/
def revokeLoop (l : Nat) (s : State) : State :=
  let ks := (loopRange s l).filter fun k => (page s k).state ≠ .retired
  let s1 := ks.foldl (fun t k => clearPage .retired k t) s
  let s2 := updLoopP l (fun y => { y with poolForce := 0, surgePool := 0, growCount := 0, growSeen := [], revoked := true }) s1
  let s3 := heatCount 12 ks.length { s2 with plan := { s2.plan with
    loops := upd s2.plan.loops l fun r => { r with credit := 0, armed := false, exhausted := false } } }
  if (loopP s l).revoked then s3 else post 0x4030 s3 l

/-- A site that falls silent is given cover in the same frame (R165). -/
def beginCover (i : Nat) (s : State) : State :=
  let f := floorInForce s i
  let q := ceilDiv (max (lastCapSent s i) (slotCfg s i).fallbackCap - f) 2000
  let need := q - (heldBy s i).length
  heatCount 0 need (updSiteP i (fun x => { x with
    covered := true, coverNeed := need, coverAge := 0, coverDenied := false, coverTrimmed := false }) s)

/-- R162: an idle return does not take a site's last guaranteed page while its tenant is below its minimum. -/
def keepsMinimum (s : State) (i k : Nat) : Bool :=
  match (siteP s i).tenant with
  | none => false
  | some t =>
    isGuaranteed s k && (tenantOrdinary s t).length < (tenantSt s t).minIn &&
    ((heldBy s i).countP fun j => isGuaranteed s j) ≤ 1

/-- Drains pages one after another as idle returns, counted by page, keeping the minimum (R161, R162, R174). -/
def idleDrain (i : Nat) : List Nat → State → State
  | [], s => s
  | k :: t, s => idleDrain i t (if keepsMinimum s i k then s else heatCount 8 1 (drainPage k none s))

/-- After 200 frames of silence the pages beyond the fallback cap are returned (R166). -/
def trimCover (i : Nat) (s : State) : State :=
  let keep := ceilDiv ((slotCfg s i).fallbackCap - floorInForce s i) 2000
  let held := heldBy s i
  let order := newestFirst s (held.filter fun k => (page s k).cover) ++
    newestFirst s (held.filter fun k => (page s k).surge) ++
    newestFirst s (held.filter fun k => !(page s k).cover && !(page s k).surge)
  let s1 := idleDrain i (order.take (held.length - keep)) s
  updSiteP i (fun x => { x with coverTrimmed := true, coverNeed := min x.coverNeed (keep - (heldBy s1 i).length) }) s1

/-- A cover page becomes a page of the site's tenant (R166). -/
def convertPage (k : Nat) (s : State) : State := setPage k (fun p => { p with converted := true }) s

/-- The site responds again (R166): cover pages convert as far as the quota allows, the rest drain; promised cover
is cancelled, and the effective cap starts from the assumed cap. -/
def endCover (i : Nat) (s : State) : State :=
  let cov := (heldBy s i).filter fun k => (page s k).cover && !(page s k).converted
  let room := match (siteP s i).tenant with
    | some t => (tenantSt s t).maxIn - tenantUse s t
    | none => 0
  let s1 := (cov.take room).foldl (fun t k => convertPage k t) s
  let s2 := drainAll (cov.drop room) s1
  let s3 := ((promisedTo s2 i).filter fun k => (page s2 k).nextCover).foldl (fun t k => cancelPromise k t) s2
  updSiteP i (fun x => { x with covered := false, coverNeed := 0, coverDenied := false, cap := assumedCap s i
                                idleFrames := 0 }) s3

def silenceChange (i : Nat) (s : State) : State :=
  let x := siteP s i
  match (siteC s i).response with
  | .unresponsive =>
    if !x.covered then beginCover i s else s
  | .responsive => if x.covered then endCover i s else s
  | _ => s

/-- Step 2 of R171. -/
def allocSilence (s : State) : State :=
  let s1 := (List.range 24).foldl (fun t l => if (loopP t l).isolated then revokeLoop l t
    else updLoopP l (fun y => { y with revoked := false }) t) s
  (presentSites s1).foldl (fun t i => silenceChange i t) s1

/-- SILENCE_FALLBACK (R166): 200 frames of silence; the assumed cap is FALLBACK_CAP from then on (R153). -/
def execSilenceFallback (site : Nat) (s : State) : Host.Outcome State Fault Refusal :=
  if (siteC s site).response = .unresponsive ∧ (siteP s site).covered ∧ !(siteP s site).coverTrimmed ∧
      200 ≤ silence s site then .next (trimCover site s)
  else .next s

/-! Step 3: idle and quota returns (R161). -/

/-- The idle window of a site; frames of a dither window neither count nor break it (R343). -/
def idleStep (i : Nat) (s : State) : State :=
  let x := siteP s i
  let h : Int := (pageCapOf s i : Int) - siteEG s i
  if x.tenant.isNone || !responsive s i || (siteC s i).dither.isSome then s
  else if h < 2500 then updSiteP i (fun y => { y with idleFrames := 0, idleMin := 0 }) s
  else
    let m := if x.idleFrames = 0 then h else min x.idleMin h
    if x.idleFrames + 1 < 10 * s.img.pages.idleHystMs then
      updSiteP i (fun y => { y with idleFrames := y.idleFrames + 1, idleMin := m }) s
    else
      let k := max 1 ((m - 500) / 2000).toNat
      let s1 := idleDrain i ((leaveOrder s (heldBy s i)).take k) s
      updSiteP i (fun y => { y with idleFrames := 0, idleMin := 0 }) s1

/-- Quota shrink of a tenant (R161): promises are cancelled first, then surge pages, then the newest ordinary. -/
def quotaShrink (t : Nat) (s : State) : State :=
  let excess := tenantUse s t - (tenantSt s t).maxIn
  if excess = 0 then s
  else
    let pr := (tenantPromised s t).take excess
    let s1 := pr.foldl (fun u k => cancelPromise k u) s
    let rest := excess - pr.length
    let order := leaveOrder s1 (tenantSurge s1 t ++ tenantOrdinary s1 t)
    heatCount 9 excess (drainAll (order.take rest) s1)

/-- Step 3 of R171. -/
def allocReturns (s : State) : State :=
  let s1 := (presentSites s).foldl (fun t i => idleStep i t) s
  (List.range s1.heat.tenants.length).foldl
    (fun u t => if (tenantSt u t).state = .active then quotaShrink t u else u) s1

/-! Step 5: heat faults (R157 to R159, R167). -/

/-- A pending fault as the allocator orders it (R159): site, and whether it asks for cover. -/
structure PendingFault where
  site : Nat
  cover : Bool
  rank : Nat
  laggard : Bool
  age : Nat
  deriving DecidableEq, Repr

/-- Rank of a site's fault (R157). -/
def faultRank (s : State) (i : Nat) : Nat :=
  match (siteP s i).tenant with
  | some t => if (tenantOrdinary s t).length < (tenantSt s t).minIn then 4 else (tenantCfg s t).cls
  | none => 0

def pendingFaults (s : State) : List PendingFault :=
  (presentSites s).flatMap fun i =>
    let x := siteP s i
    List.replicate x.coverNeed ⟨i, true, 5, false, x.coverAge⟩ ++
    (if x.fault then [⟨i, false, faultRank s i, (siteC s i).laggard, x.faultAge⟩] else [])

/-- The order of R159. -/
def faultBefore (frame : Nat) (a b : PendingFault) : Bool :=
  let key (f : PendingFault) : Nat := (f.site + 2048 - frame % 2048) % 2048
  if a.rank ≠ b.rank then b.rank < a.rank
  else if a.laggard ≠ b.laggard then a.laggard
  else if a.age ≠ b.age then b.age < a.age
  else key a < key b

/-- Why a fault was denied (R159, R176). -/
inductive Denial where
  | noPage | quota | limit | hold
  deriving DecidableEq, Repr

def Denial.code : Denial → Nat
  | .noPage => 1 | .quota => 2 | .limit => 3 | .hold => 4

/-- The first denial of a fault is counted once, with its reason; events once per run (R159, R177). The cover faults of
a site that stay are all denied with the first of them. A denied cover fault marks the loop for OVERCOMMIT (R167). -/
def denyFault (d : Denial) (f : PendingFault) (s : State) : State :=
  let x := siteP s f.site
  let n := if f.cover then (if x.coverDenied then 0 else x.coverNeed) else b2n !x.faultDenied
  let s1 := updSiteP f.site (fun y =>
    { y with deny := d.code
             faultDenied := if f.cover then y.faultDenied else true
             coverDenied := if f.cover then true else y.coverDenied }) s
  let s2 := match x.tenant with
    | some t => updTenant t (fun y => { y with denied := satAdd 32 y.denied n }) (heatCount (3 + d.code) n s1)
    | none => heatCount (3 + d.code) n s1
  let l := siteLoop s f.site
  match d with
  | .noPage => postRun 0x4010 s2 l f.site
  | .quota => postRun 0x4011 s2 (x.tenant.getD 0xFFFF) f.site
  | .limit => postRun 0x4012 s2 l f.site
  | .hold => s2

/-- A resolved fault ends (R159); a heat fault is counted as granted to its tenant (R542). -/
def endFault (f : PendingFault) (s : State) : State :=
  let s1 := match f.cover, (siteP s f.site).tenant with
    | false, some t => updTenant t (fun y => { y with granted := satAdd 16 y.granted 1 }) s
    | _, _ => s
  updSiteP f.site (fun y =>
    if f.cover then { y with coverNeed := y.coverNeed - 1, coverDenied := y.coverDenied && decide (1 < y.coverNeed) }
    else { y with fault := false, faultAge := 0, faultDenied := false, raiseRun := 0 }) s1

/-- The page that reclaim takes for a fault (R159 step 5): lowest class first, newest grant first, never a surge or
cover page. The faulting site's own pages stay HELD (R165), so a cover fault takes none of them (DEDUCED, log entry
178). -/
def reclaimVictim (s : State) (f : PendingFault) : Option Nat :=
  let l := siteLoop s f.site
  let own := (siteP s f.site).tenant
  let cand := (loopRange s l).filter fun k =>
    let p := page s k
    p.state = .held && !p.surge && !p.cover && p.site ≠ f.site &&
    (if f.cover then true
     else !isGuaranteed s k &&
      (if f.rank = 4 then (siteP s p.site).tenant ≠ own
       else pageClass s k < (match own with
        | some t => (tenantCfg s t).cls
        | none => 0)))
  ((List.range 4).flatMap fun c => newestFirst s (cand.filter fun k => pageClass s k = c)).head?

/-- A free page of the loop's pool, lowest number (R159 step 3). -/
def freePage (s : State) (l : Nat) : Option Nat :=
  (loopRange s l).find? fun k => (page s k).state = .free

/-- A RETIRED page of the loop's range, lowest number (R164, R165). -/
def retiredPage (s : State) (l : Nat) : Option Nat :=
  (loopRange s l).find? fun k => (page s k).state = .retired

/-- Cover from the pool (R165): the lowest FREE page retires, and the lowest other RETIRED number is held with COVER;
the capacity leaves the pool with it. -/
def coverFromPool (k i l : Nat) (s : State) : State :=
  let r := (retiredPage s l).getD k
  updLoopP l (fun y => { y with poolForce := y.poolForce - 1 })
    (grantPage r i false true (clearPage .retired k s))

/-- Quota and limits of R159 step 2; in an isolated loop a fault is denied LIMIT (R163). -/
def faultOver (s : State) (f : PendingFault) : Option Denial :=
  let l := siteLoop s f.site
  let atMax := match (siteP s f.site).tenant with
    | some t => (tenantSt s t).maxIn ≤ tenantUse s t
    | none => false
  if (loopP s l).isolated then some .limit
  else if !f.cover && atMax then some .quota
  else if rackInForce s l < pageCapSum s l + 2000 ||
      s.heat.rowLimit < rowPageCapSum s + 2000 then some .limit
  else none

/-- Resolves one fault by the first step of R159 that applies. -/
def resolveFault (f : PendingFault) (s : State) : State :=
  let l := siteLoop s f.site
  if s.seq.state ≠ .normal then denyFault .hold f s
  else match faultOver s f with
    | some d => denyFault d f s
    | none =>
      match freePage s l with
      | some k =>
        endFault f (heatCount 1 1
          (if f.cover then coverFromPool k f.site l s else grantPage k f.site false false s))
      | none =>
        let surgeOk := s.plan.mode = .feast && (surgePages s l).length < (loopP s l).surgePool &&
          (match (siteP s f.site).tenant with
           | some t => (tenantCfg s t).allowSurge
           | none => false)
        match (if surgeOk then retiredPage s l else none) with
        | some k => endFault f (heatCount 3 1 (grantPage k f.site true f.cover s))
        | none => match reclaimVictim s f with
          | some k =>
            let giver := (siteP s (page s k).site).tenant
            let s1 := drainPage k (some (f.site, f.cover)) s
            let s2 := match giver with
              | some t => updTenant t (fun y => { y with reclaimed := cnt y.reclaimed }) s1
              | none => s1
            endFault f (post 0x4020 (heatCount 2 1 s2) f.site k)
          | none => denyFault .noPage f s

/-- OVERCOMMIT of each loop: some cover fault stayed denied in this frame (R167). -/
def overcommitStep (l : Nat) (s : State) : State :=
  let bad := (loopSites s l).any fun i => 0 < (siteP s i).coverNeed && (siteP s i).coverDenied
  let s1 := updLoopP l (fun y => { y with overcommit := bad }) s
  if bad then postRun 0x4050 s1 l else s1

/-- Step 5 of R171. Faults grow a frame older. -/
def allocFaults (s : State) : State :=
  let s1 := (sortBy (faultBefore s.seq.frame) (pendingFaults s)).foldl (fun t f => resolveFault f t) s
  let s2 := (List.range 24).foldl (fun t l => overcommitStep l t) s1
  let s3 := if s2.heat.loops.any (·.overcommit) then heatCount 15 1 s2 else s2
  { s3 with heat := { s3.heat with sites := s3.heat.sites.map fun x =>
      { x with faultAge := if x.fault then x.faultAge + 1 else 0
               coverAge := if 0 < x.coverNeed then x.coverAge + 1 else 0 } } }

/-! Steps 6 to 8 (R151, R158, R160). -/

/-- Step 6: f, P, T and C of every present site; the cap of the previous frame is kept for step 8. -/
def storeCap (t : Nat × Nat) (s : State) : State :=
  updSiteP t.1 (fun x => { x with floor := floorInForce s t.1, pageCap := pageCapOf s t.1, target := t.2
                                  cap := effectiveCap s t.1 t.2 }) s

/-- CLIPPED and event 0x4051 (R152). -/
def clipFlag (rowLow : Bool) (l : Nat) (s : State) : State :=
  let has := !(loopSites s l).isEmpty
  let low := has && (rackInForce s l < floorSum s l || rowLow)
  let psum := pageCapSum s l
  let k := if rackInForce s l < psum then clipFactor (rackInForce s l) (floorSum s l) (psum - floorSum s l)
    else (loopP s l).clipK
  let s1 := updLoopP l (fun y => { y with clipped := low, clipK := k }) s
  if low then postRun 0x4051 s1 l else s1

def allocCaps (s : State) : State :=
  let ts := allTargets s
  let s1 := ts.foldl (fun t x => storeCap x t) s
  let rowLow := s.heat.rowLimit < ((presentSites s).map (floorInForce s)).sum
  let s2 := (List.range 24).foldl (fun t l => clipFlag rowLow l t) s1
  let clipped := s.heat.rowLimit < rowPageCapSum s ||
    (List.range 24).any fun l => rackInForce s l < pageCapSum s l
  if clipped then heatCount 14 1 s2 else s2

/-- Receivers of completed drains: the page counts toward the page cap from the same frame, and P and C are recomputed
(R160, R171 step 7). -/
def recapReceivers (prevCap : Nat → Nat) (s : State) : State :=
  (allTargets s).foldl (fun t x =>
    if pageCapOf t x.1 = (siteP t x.1).pageCap then t
    else storeCap x (updSiteP x.1 (fun y => { y with cap := prevCap x.1 }) t)) s

/-- A page has completed its drain (R160). A page that arrives as cover leaves the pool, whose size in force falls by it
(DEDUCED, log entry 180). -/
def completeDrain (k : Nat) (s : State) : State :=
  let p := page s k
  let l := pageLoop s k
  if p.pending then
    let s1 := grantPage k p.nextSite false p.nextCover s
    if p.nextCover then updLoopP l (fun y => { y with poolForce := y.poolForce - 1 }) s1 else s1
  else if p.surge || p.cover || (loopP s l).poolForce < poolCount s l then clearPage .retired k s
  else clearPage .free k s

/-- Drains of one holder, oldest first: a drain completes when C is at most P plus 2,000 for each later drain, both as
step 6 computed them. -/
def drainSite (i : Nat) : List Nat → State → State
  | [], s => s
  | k :: later, s =>
    if (siteP s i).cap ≤ (siteP s i).pageCap + 2000 * later.length then drainSite i later (completeDrain k s) else s

/-- Step 7 of R171. -/
def allocDrains (prevCap : Nat → Nat) (s : State) : State :=
  recapReceivers prevCap ((List.range (siteCount s)).foldl
    (fun t i => let d := drainingFrom t i; if d.isEmpty then t else drainSite i d t) s)

/-- Step 8 of R171: raises a fault after 3 consecutive frames of R158's conditions. -/
def raiseFault (prevCap : Nat → Nat) (i : Nat) (s : State) : State :=
  let x := siteP s i
  let p := pageCapOf s i
  let lastThree := prevCap i = p && p < s.img.limits.chipCap && (p : Int) - siteEG s i < 256
  let all := x.tenant.isSome && responsive s i && (promisedTo s i).isEmpty && lastThree
  if x.fault then
    if lastThree then s
    else updSiteP i (fun y => { y with fault := false, faultAge := 0, faultDenied := false, raiseRun := 0 }) s
  else if !all then updSiteP i (fun y => { y with raiseRun := 0 }) s
  else if x.raiseRun < 2 then updSiteP i (fun y => { y with raiseRun := y.raiseRun + 1 }) s
  else
    let s1 := heatCount 0 1 (updSiteP i (fun y =>
      { y with fault := true, faultAge := 0, faultDenied := false, raiseRun := 0 }) s)
    match x.tenant with
    | some t => updTenant t (fun y => { y with faults := cnt y.faults }) s1
    | none => s1

/-- Sums of the loop entry (R174). -/
def loopSums (l : Nat) (s : State) : State :=
  updLoopP l (fun y => { y with floorSum := floorSum s l, emberSum := emberSum s l, pageCapSum := pageCapSum s l
                                capSum := ((loopSites s l).map fun i => (siteP s i).cap).sum }) s

/-- Steps 6 to 9 of R171 with the caps of the previous frame. -/
def allocFinish (s : State) : State :=
  let prev := s.heat.sites.map (·.cap)
  let prevCap (i : Nat) : Nat := prev.getD i 0
  let s1 := allocDrains prevCap (allocCaps s)
  let s2 := (presentSites s1).foldl (fun t i => raiseFault prevCap i t) s1
  (List.range 24).foldl (fun t l => loopSums l t) s2

/-- Entry to safe hold: promises are cancelled, the pages drain to FREE (R172). -/
def cancelAllPromises (s : State) : State :=
  (pagesWhere s fun p => p.state = .draining && p.pending).foldl (fun t k => cancelPromise k t) s

/-- Initial grant of one site (R173). -/
def initialGrantSite (i : Nat) (s : State) : State :=
  match (siteP s i).tenant with
  | none => s
  | some t =>
    if !responsive s i then s
    else
      let want := ceilDiv ((slotCfg s i).fallbackCap - floorInForce s i) 2000 - (heldBy s i).length
      let room := (tenantSt s t).maxIn - tenantUse s t
      let free := (loopRange s (siteLoop s i)).filter fun k => (page s k).state = .free
      (free.take (min want room)).foldl (fun u k => grantPage k i false false u) s

/-- The initial grant at the start of plant control (R173). -/
def initialGrant (s : State) : State := (presentSites s).foldl (fun t i => initialGrantSite i t) s

/-- First caps at plant control (R134): the lower of the fallback cap and the target. -/
def initialCaps (s : State) : State :=
  (allTargets s).foldl (fun t x => updSiteP x.1 (fun y =>
    { y with floor := floorInForce s x.1, pageCap := pageCapOf s x.1, target := x.2
             cap := if (siteC s x.1).response = .unresponsive then assumedCap s x.1
                    else min (slotCfg s x.1).fallbackCap x.2 }) t) s

end Sys2Proof.Machine
end

