-- ==== Sys2Proof/Machine/Estimator.lean ====
section
/-! DEFINITION. The estimator (R327 to R337), the violation check, FLOOR_N (R326, R327), pacing (R338 to R341) and the
cap command records (R318 to R320). -/

namespace Sys2Proof.Machine

/-! Constants of the estimator in binary32. -/

def fSigma0 : F32 := f32OfInt 20
def fP0 : F32 := f32OfRatio 1 10000
def fLambda : F32 := f32OfRatio 8191 8192
def fLambdaS : F32 := f32OfRatio 63 64
def p0Class : List (List F32) := f32Diag (List.replicate 8 fP0)
def p0Static : List (List F32) := f32Diag [f32OfInt 400, f32OfInt 4, f32OfRatio 1 100]

/-- Distinct CHIP_CLASS values of the present slots, ascending (R335). -/
def classValues (img : Image) : List Nat :=
  (List.range 16).filter fun v => img.links.any fun l => l.present && l.slots.any fun sl => sl.present && sl.chipClass = v

/-- Class number of a site (R335). -/
def siteClass (s : State) (i : Nat) : Nat :=
  ((classValues s.img).findIdx? (· = (slotCfg s i).chipClass)).getD 0

def classModel (s : State) (c : Nat) : ClassModel := s.caps.classes.getD c {}

/-- Start values of the classes (R335). -/
def initClasses (img : Image) : List ClassModel :=
  let vs := classValues img
  (List.range 8).map fun c =>
    match vs[c]? with
    | some v =>
      { inUse := true, value := v, w := List.replicate 8 0, p := p0Class, sigma := fSigma0
        sites := (img.links.map fun l => if l.present then
          l.slots.countP (fun sl => sl.present && sl.chipClass = v) else 0).sum }
    | none => { w := List.replicate 8 0, p := p0Class, sigma := fSigma0 }

/-- Start values of a site's static term (R335): z0 in W is FLOOR_CAP / 32. -/
def initStatic (s : State) (i : Nat) : State :=
  updSiteC i (fun x => { x with z := [f32OfRatio ((slotCfg s i).floorCap) 32, 0, 0], zp := p0Static
                                refFrame := 0, noRef := false }) s

def initEstimator (s : State) : State :=
  (presentSites s).foldl initStatic { s with caps := { s.caps with classes := initClasses s.img } }

/-- ref_age_s: whole seconds since the site's last reference (R331). -/
def refAge (s : State) (i : Nat) : Nat := since s (siteC s i).refFrame / 10000

/-- Adds the frame's record to the site's regulator window; a new window moves the old one to `prev` (R329). -/
def windowAdd (n : Nat) (fresh lowest floored : Bool) (act : List Nat) (dyn stat tau : F32) (x : SiteCaps) : SiteCaps :=
  let m := (n - 1) / 10
  let y : SiteCaps := if x.win.m = m then x else { x with prev := x.win, win := { m := m } }
  let w := y.win
  { y with win :=
      { w with records := if fresh then w.records + 1 else w.records
               absent := w.absent || !fresh
               lowest := w.lowest || (fresh && lowest)
               floored := w.floored || floored
               act := if fresh then List.zipWith (· + ·) w.act act else w.act
               dyn := if fresh then f32Add w.dyn dyn else w.dyn
               stat := if fresh then f32Add w.stat stat else w.stat
               tau := if fresh then f32Add w.tau tau else w.tau } }

/-- The interval of the frame before overlaps a time when the line stands asserted for cap violation; a released line is
driven until the boundary that follows (R26, R327). -/
def violationStands (s : State) (l : Nat) : Bool :=
  let x := s.caps.floors.getD l {}
  x.violation || (match x.releasedAt with
    | some f => decide (s.seq.frame ≤ f + 1)
    | none => false)

/-- E and G of one site (R331); an absent record holds E and widens G (R330). -/
def estimateSite (i : Nat) (s : State) : State :=
  let x := siteC s i
  let c := classModel s (siteClass s i)
  let n := s.seq.frame
  let wAge : Int := 32 * (refAge s i / 60 : Nat)
  let wTel : Int := if !x.fresh || x.tel.dieTemp.isNone then 320 else 0
  let g := (clampI 0 4000 (f32Ceil (f32Mul (f32OfInt 48) c.sigma) + wAge + wTel)).toNat
  let floored := violationStands s (linkOf i)
  if x.fresh then
    let tau := match x.tel.dieTemp with
      | some d => f32Div (f32OfInt (d - 2880)) (f32OfInt 64)
      | none => x.tau
    let dyn := f32Dot c.w (x.tel.act.map fun (a : Nat) => f32OfInt (a : Int))
    let z := x.z
    let stat := f32Add (f32Add (z.getD 0 0) (f32Mul (z.getD 1 0) tau)) (f32Mul (z.getD 2 0) (f32Mul tau tau))
    let e := (clampI 0 1048575 (f32RoundEven (f32Mul (f32OfInt 16) (f32Add dyn stat)))).toNat
    updSiteC i (fun y =>
      windowAdd n true x.tel.lowestState floored x.tel.act dyn stat tau
        { y with tau, dyn, stat, est := e, guardBand := g, telAge := 0 }) s
  else
    updSiteC i (fun y =>
      windowAdd n false false floored [] 0 0 0 { y with guardBand := g, telAge := satAdd 8 y.telAge 1 }) s

/-- Energy of the frame to the site's account and the tenant's or the unbound account (R336). Accounts count
6.25 uJ and saturate at 2^64 J (R337). -/
def energyAdd (a e : Nat) : Nat := min (a + e) (160000 * 2 ^ 64 - 1)

def energySite (i : Nat) (s : State) : State :=
  let e := (siteC s i).est
  let s1 := updSiteC i (fun x => { x with energy := energyAdd x.energy e }) s
  match (siteP s i).tenant with
  | some t => { s1 with caps := { s1.caps with tenants := upd s1.caps.tenants t fun x =>
      { x with energy := energyAdd x.energy e } } }
  | none => { s1 with caps := { s1.caps with unbound := energyAdd s1.caps.unbound e } }

/-- The regulator window m of a site counts: ten records, none absent, a mean in range (R330). -/
def windowGood (s : State) (m : Nat) (x : SiteCaps) : Bool :=
  x.prev.m = m && x.prev.records = 10 && !x.prev.absent &&
  (match x.prev.reg with
   | some q => q ≤ 2 * s.img.limits.chipCap
   | none => false)

def fTen : F32 := f32OfInt 10
def f16 : F32 := f32OfInt 16

/-- reg_power / 16 of a window in W. -/
def regW (w : RegWindow) : F32 := f32Div (f32OfInt (w.reg.getD 0)) f16

/-- Sites of a class whose window takes part in its update (R332). -/
def classSites (s : State) (m c : Nat) : List Nat :=
  (presentSites s).filter fun i =>
    siteClass s i = c && responsive s i && windowGood s m (siteC s i) && !(siteC s i).prev.lowest

/-- The update of one class for window m (R332). -/
def updateClass (m c : Nat) (s : State) : State :=
  let k := classModel s c
  let sites := classSites s m c
  let n := sites.length
  if !k.inUse || n = 0 then s
  else
    let wins := sites.map fun i => (siteC s i).prev
    let phi := (List.range 8).map fun j => f32Sum (wins.map fun w => f32Div (f32OfInt (w.act.getD j 0)) fTen)
    let y := f32Sum (wins.map fun w => f32Sub (regW w) (f32Div w.stat fTen))
    let err := f32Sub y (f32Dot k.w phi)
    let nf := f32OfInt n
    let lim := f32Add (f32Mul (f32Mul (f32OfInt 8) k.sigma) (f32Sqrt nf)) (f32Mul (f32OfInt 50) nf)
    if f32Lt lim (f32Abs err) then postEvery 10000 0x8020 (capCount 3 s) c
    else
      let (w', p', susp) := rlsUpdate k.w k.p phi err fLambda (f32Trace p0Class)
      let s2 := f32Mul k.sigma k.sigma
      let sg := f32Sqrt (f32Add s2 (f32Div (f32Sub (f32Div (f32Mul err err) nf) s2) (f32OfInt 64)))
      let s1 := capCount 8 { s with caps := { s.caps with classes := upd s.caps.classes c fun x =>
        { x with w := w', p := p', sigma := sg, suspended := susp, updates := cnt x.updates } } }
      if susp then postRun 0x8021 s1 c else s1

/-- A reference of a site (R333): RLS of (1, tau, tau^2) to the value y, and the reference age starts again. -/
def takeReference (i : Nat) (y tau : F32) (s : State) : State :=
  let x := siteC s i
  let v : List F32 := [f32OfInt 1, tau, f32Mul tau tau]
  let err := f32Sub y (f32Dot x.z v)
  let (z', p', _) := rlsUpdate x.z x.zp v err fLambdaS (f32Trace p0Static)
  let s1 := updSiteC i (fun c => { c with z := z', zp := p', refFrame := s.seq.frame, noRef := false }) s
  if x.noRef then post 0x8031 s1 i else s1

/-- A dither window ends void (R334). -/
def voidDither (i : Nat) (s : State) : State :=
  postEvery 6000000 0x8032 (capCount 5 (updSiteC i (fun x => { x with dither := none }) s)) i

/-- A rest reference of window m (R333); one that occurs in a dither window abandons it (R334). -/
def restReference (m i : Nat) (s : State) : State :=
  let x := siteC s i
  let d := f32Div x.prev.dyn fTen
  if responsive s i && windowGood s m x && !x.prev.lowest && f32Le d (f32OfInt 2) then
    let s1 := capCount 6 (takeReference i (f32Sub (regW x.prev) d) (f32Div x.prev.tau fTen) s)
    if x.dither.isSome then voidDither i s1 else s1
  else s

/-- Window m joins the means of a dither window's judged quarters (R334). -/
def ditherSample (m i : Nat) (s : State) : State :=
  let x := siteC s i
  match x.dither with
  | none => s
  | some d =>
    if !windowGood s m x then s
    else
      let q := x.prev.reg.getD 0
      let dy := f32Div x.prev.dyn fTen
      let ta := f32Div x.prev.tau fTen
      let d' :=
        if d.start + 50 ≤ 10 * m ∧ 10 * m + 9 ≤ d.start + 99 then
          { d with q1 := d.q1 + q, n1 := d.n1 + 1, d1 := f32Add d.d1 dy, tauSum := f32Add d.tauSum ta }
        else if d.start + 150 ≤ 10 * m ∧ 10 * m + 9 ≤ d.start + 199 then
          { d with q2 := d.q2 + q, n2 := d.n2 + 1, d2 := f32Add d.d2 dy, tauSum := f32Add d.tauSum ta }
        else d
      updSiteC i (fun y => { y with dither := some d' }) s

/-- Once per regulator window, in frame 10m + 16: class updates, dither samples and rest references (R332, R333). -/
def windowWork (s : State) : State :=
  let n := s.seq.frame
  if n < 16 ∨ n % 10 ≠ 6 then s
  else
    let m := (n - 16) / 10
    let s1 := (List.range 8).foldl (fun t c => updateClass m c t) s
    let s2 := (presentSites s1).foldl (fun t i => ditherSample m i t) s1
    (presentSites s2).foldl (fun t i => restReference m i t) s2

/-- Causes that abandon a dither window (R334): FLOOR_N, unbinding, silence, a change of T by more than T / 50. -/
def ditherCheck (i : Nat) (s : State) : State :=
  match (siteC s i).dither with
  | none => s
  | some d =>
    let t := (siteP s i).target
    let moved := d.target / 50 < t - d.target || d.target / 50 < d.target - t
    if (s.caps.floors.getD (linkOf i) {}).driven || (siteP s i).tenant.isNone || !responsive s i ||
        (s.seq.frame < d.start + 200 && moved) then voidDither i s
    else s

/-- A silent site's E and G hold, and its age mark goes on (R330). -/
def ageSite (i : Nat) (s : State) : State :=
  if (siteC s i).response = .unresponsive then
    updSiteC i (fun x => { x with telAge := if x.fresh then 0 else satAdd 8 x.telAge 1 }) s
  else s

/-- The estimator's slice (R331, R332, R336). -/
def estimatorSlice (s : State) : State :=
  let live := (presentSites s).filter (responsive s)
  let s1 := live.foldl (fun t i => estimateSite i t) ((presentSites s).foldl (fun t i => ageSite i t) s)
  windowWork (live.foldl (fun t i => energySite i t) s1)

/-! The violation check and FLOOR_N (R326, R327). -/

def floorLine (s : State) (l : Nat) : FloorLine := s.caps.floors.getD l {}

def updFloor (l : Nat) (f : FloorLine → FloorLine) (s : State) : State :=
  { s with caps := { s.caps with floors := upd s.caps.floors l f } }

/-- Asserts FLOOR_N of a link for cap violation (R327): a second assertion within 600 s is held. -/
def assertViolation (l : Nat) (s : State) : State :=
  let x := floorLine s l
  let held := match x.lastViolation with
    | some f => s.seq.frame < f + 6000000
    | none => false
  let s1 := updFloor l (fun y => { y with violation := true, held := held, assertFrame := s.seq.frame
                                          lastViolation := some s.seq.frame }) s
  let clear := fun (i : Nat) (y : SiteCaps) => if linkOf i = l then { y with violRun := 0 } else y
  let s2 := { s1 with caps := { s1.caps with sites := s1.caps.sites.mapIdx clear } }
  let s3 := post 0x8002 (capCount 1 s2) l
  if held then post 0x8004 s3 l else s3

/-- Sum of the caps in force over window m, when all ten records were sent (R327). -/
def capsOverWindow (x : SiteCaps) (m : Nat) : Option Nat :=
  let cs := (List.range 10).map fun j => (x.capHistory.find? fun h => h.1 + 1 = 10 * m + j).map (·.2)
  if cs.all (·.isSome) && 1 ≤ m then some (cs.map (·.getD 0)).sum else none

/-- REGULATOR_WINDOW_JUDGE (R327) of the window whose mean has just arrived. -/
def judgeWindow (i : Nat) (s : State) : State :=
  let x := siteC s i
  match capsOverWindow x x.prev.m with
  | none => s
  | some sum =>
    if !responsive s i || !windowGood s x.prev.m x || x.prev.floored then s
    else
      let q := x.prev.reg.getD 0
      if sum + 10 * max (sum / 640) 128 < 10 * q then
        let run := x.violRun + 1
        let s1 := capCount 0 (updSiteC i (fun y =>
          { y with overCap := true, violRun := run, okRun := 0, violations := cnt y.violations }) s)
        let s2 := postRun 0x8001 s1 i
        if 50 ≤ run then assertViolation (linkOf i) s2 else s2
      else
        updSiteC i (fun y => { y with violRun := 0, okRun := min 10 (y.okRun + 1)
                                      overCap := if 10 ≤ y.okRun + 1 then false else y.overCap }) s

/-- A regulator mean reported in a record (R329): the first time the previous window's number appears in frames
10m + 11 to 10m + 15. The record of frame n is taken before the estimator moves the windows on, so the window may
still stand as the one in progress. -/
def takeMean (i : Nat) (tel : SiteTel) (s : State) : State :=
  let x := siteC s i
  let n := s.seq.frame
  if n < 11 then s
  else
    let m := (n - 11) / 10
    if tel.regValid ∧ (n - 11) % 10 < 5 ∧ tel.regSeq = m % 256 then
      let y : SiteCaps := if x.win.m = m ∧ x.prev.m ≠ m then { x with prev := x.win, win := { m := m + 1 } } else x
      if y.prev.m = m ∧ y.prev.reg = none then
        judgeWindow i (updSiteC i (fun _ =>
          { y with prev := { y.prev with reg := some tel.regPower }, lastReg := tel.regPower }) s)
      else s
    else s

/-! Pacing (R338 to R341). -/

/-- A site in a dither window (R334). -/
def dithering (s : State) (i : Nat) : Bool :=
  match (siteC s i).dither with
  | some d => d.start ≤ s.seq.frame && s.seq.frame < d.start + 200
  | none => false

/-- Participants of a tenant (R338). -/
def participants (s : State) (t : Nat) : List Nat :=
  (presentSites s).filter fun i =>
    boundTo s t i && responsive s i &&
    ((heldBy s i).any fun k => (page s k).surge || isOrdinary (page s k)) &&
    !(siteC s i).tel.lowestState && !dithering s i && 0 < (siteC s i).tel.freqAch

def tenantSites (s : State) (t : Nat) : List Nat := (presentSites s).filter (boundTo s t)

def forcedLockstep (s : State) (t : Nat) : Bool :=
  (tenantSites s t).any fun i => (linkCfg s (linkOf i)).lockstepAgent

/-- The tenant paces in Lockstep, and otherwise in Pace (R338). -/
def lockstepOf (s : State) (t : Nat) : Bool := forcedLockstep s t || (tenantCfg s t).lockstep

def updPace (t : Nat) (f : TenantPace → TenantPace) (s : State) : State :=
  { s with caps := { s.caps with tenants := upd s.caps.tenants t f } }

/-- Pacing of one tenant in the allocator's slice (R338, R340). In Lockstep the frequency stands for the epoch. -/
def paceTenant (t : Nat) (s : State) : State :=
  let ps := participants s t
  let forced := forcedLockstep s t
  let was := s.caps.tenants.getD t {}
  let s0 := if forced ≠ was.forced then post 0x8041 (updPace t (fun y => { y with forced := forced }) s) t else s
  let lock := forced || (tenantCfg s t).lockstep
  let fr := ps.map fun i => (siteC s i).tel.freqAch
  let lo := listMin 0 fr
  let fLo := listMin lo (lo :: ps.map fun i => (siteC s i).fTab)
  let lag := ps.filter fun i => !lock && (siteC s i).tel.capLimited && (siteC s i).tel.freqAch ≤ fLo * 129 / 128
  let mark := fun (i : Nat) (y : SiteCaps) => if boundTo s t i then { y with laggard := lag.contains i } else y
  let s1 := { s0 with caps := { s0.caps with sites := s0.caps.sites.mapIdx mark } }
  updPace t (fun y =>
    { y with mode := if ps.isEmpty then 0 else if lock then 2 else 1
             freq := if ps.isEmpty then 0xFFFF else if lock then y.freq else fLo * 65 / 64
             slow := lo, fast := listMax fr, laggards := lag.length }) s1

/-- Step 4 of R171: the pacing of every tenant, and the epoch's least capped frequency of each site (R341). -/
def allocPacing (s : State) : State :=
  let s1 := (List.range s.heat.tenants.length).foldl
    (fun u t => if (tenantSt u t).state = .active || (u.caps.tenants.getD t {}).mode ≠ 0 ||
      (u.caps.tenants.getD t {}).forced then paceTenant t u else u)
    { s with caps := { s.caps with sites := s.caps.sites.map fun y => { y with laggard := false } } }
  { s1 with caps := { s1.caps with sites := s1.caps.sites.map fun y =>
      if y.fresh && y.tel.capLimited then
        { y with epochFreq := some (match y.epochFreq with
            | some f => min f y.tel.freqAch
            | none => y.tel.freqAch) }
      else y } }

/-- LOCKSTEP_FREQ of one tenant at an epoch boundary (R341). -/
def lockstepFreq (t : Nat) (s : State) : State :=
  let ps := participants s t
  let lock := forcedLockstep s t || (tenantCfg s t).lockstep
  if !lock then s
  else if ps.isEmpty then updPace t (fun y => { y with freq := 0xFFFF }) s
  else
    let ok (i : Nat) : Nat := min ((siteC s i).epochFreq.getD (siteC s i).fTab) (siteC s i).fTab
    let least := listMin 0 (ps.map ok)
    let step := max 1 (listMax (ps.map fun i => (siteC s i).fStep))
    let ft := least / step * step
    let old := (s.caps.tenants.getD t {}).freq
    let f := if old = 0xFFFF ∨ ft ≤ old then ft else min ft (old + old / 64)
    let s1 := updPace t (fun y => { y with freq := f }) s
    if f = old then s1 else postEvery 10000 0x8040 s1 t

/-- LOCKSTEP_FREQ for every tenant; a new epoch of observation begins. -/
def lockstepAll (s : State) : State :=
  let s1 := (List.range s.heat.tenants.length).foldl
    (fun u t => if (tenantSt u t).state = .active then lockstepFreq t u else u) s
  { s1 with caps := { s1.caps with sites := s1.caps.sites.map fun y => { y with epochFreq := none } } }

/-! Records (R318, R320). -/

/-- The cap command record of a site in this frame (R320). -/
def capRecord (s : State) (i : Nat) : CapRecord :=
  let x := siteP s i
  let base : CapRecord :=
    { cap := x.cap, slopePermit := if s.seq.state = .normal then s.img.pages.slopeUp else 0
      emberW := if x.ember then (s.img.modes.modes.getD s.plan.mode.code {}).emberPower else 0
      dither := dithering s i, cmdFrame := s.seq.frame % 4294967296 }
  match x.tenant with
  | none => base
  | some t =>
    let p := s.caps.tenants.getD t {}
    let q := tenantSt s t
    { base with freq := p.freq, paceMode := if lockstepOf s t then 2 else 1, splitOrder := q.splitOrder, minCompute := q.minCompute
                minMemory := q.minMemory, minLinks := q.minLinks }

/-- The site's port is UP (R374). -/
def sitePortUp (s : State) (i : Nat) : Bool := (s.link.ports.getD (linkOf i) {}).state = .up

/-- Records are computed only during plant control (R133, R320); the first one since the port reached UP counts for
silence (R375). -/
def fillRecord (i : Nat) (s : State) : State :=
  let r := capRecord s i
  updSiteC i (fun y => { y with record := some r
                                firstRecord := match y.firstRecord with
                                  | some f => some f
                                  | none => if sitePortUp s i then some s.seq.frame else none
                                settled := if (siteP s i).cap = (siteP s i).target then y.settled + 1 else 0 }) s

def fillRecords (s : State) : State :=
  if s.pow.plantControl then (presentSites s).foldl (fun t i => fillRecord i t) s else s

/-- SURGE_DEBIT of one loop (R202): an armed loop pays for its cap sum above cap_low; at 0 or less it disarms and its
surge pages drain in the same frame, while the debit goes on. -/
def debitLoop (l : Nat) (s : State) : State :=
  let r := s.plan.loops.getD l {}
  if !r.armed && !r.exhausted then s
  else
    let low : Int := match s.plan.inForce with
      | some p => (p.loops.getD l {}).capLow
      | none => 0
    let c := satS 64 (r.credit - max 0 ((loopP s l).capSum - low))
    let out := r.armed && decide (c ≤ 0)
    let r1 := { r with credit := c, armed := r.armed && !out, exhausted := r.exhausted || out }
    let s1 := { s with plan := { s.plan with loops := upd s.plan.loops l fun _ => r1 } }
    if out then surgeRemoval l (updLoopP l (fun y => { y with surgePool := 0 }) (post 0x5020 s1 l)) else s1

def surgeDebit (s : State) : State := (List.range 24).foldl (fun t l => debitLoop l t) s

/-- The allocator's slice, in the order of R171. -/
def allocatorSlice (s : State) : State :=
  let s1 := allocPacing (allocReturns (allocSilence (surgeDebit (allocBoundary s))))
  let s2 := allocFinish (allocFaults s1)
  (presentSites s2).foldl (fun t i => ditherCheck i t) (fillRecords s2)

/-! Commands. -/

/-- CAP_VIOLATION_RELEASE (R327): 10 s after the assertion, unless the episode is held. -/
def execCapViolationRelease (link : Nat) (s : State) : Host.Outcome State Fault Refusal :=
  let x := floorLine s link
  if x.violation && !x.held && x.assertFrame + 100000 ≤ s.seq.frame then
    .next (post 0x8003 (updFloor link (fun y => { y with violation := false, releasedAt := some s.seq.frame }) s) link)
  else .next s

/-- A held episode is released by an accepted RELEASE_FLOOR (R327). -/
def releaseFloor (link : Nat) (s : State) : State :=
  if (floorLine s link).held then
    post 0x8003 (updFloor link (fun y => { y with
      violation := false, held := false, releasedAt := some s.seq.frame }) s) link
  else s

/-- Links whose LOOP is l (R326). -/
def loopLinks (s : State) (l : Nat) : List Nat :=
  (List.range s.img.links.length).filter fun k => (linkCfg s k).present && (linkCfg s k).loop = l

/-- Sets the thermal cause on a loop's links (R326). -/
def setThermal (l : Nat) (v : Bool) (s : State) : State :=
  (loopLinks s l).foldl (fun t k => updFloor k (fun y => { y with thermal := v }) t) s

/-- Counts of R326 in one frame: a missing reading restarts both. -/
def thermalCount (l : Nat) (s : State) : State :=
  let sn := s.plant.sensors.getD (s.img.topology.loops.getD l {}).tReturn {}
  let hot := sn.valid && s.img.limits.outletLimit ≤ sn.value
  let cool := sn.valid && sn.value ≤ s.img.limits.outletLimit - 128
  { s with caps := { s.caps with
      hotRun := upd s.caps.hotRun l fun n => if hot then n + 1 else 0
      coolRun := upd s.caps.coolRun l fun n => if cool then n + 1 else 0 } }

/-- THERMAL_TRIP (R326): the return has read at or above OUTLET_LIMIT for 10 frames. -/
def tripLoop (l : Nat) (s : State) : State :=
  post 0x8010 (capCount 2 (setThermal l true { s with caps := { s.caps with
    tripped := upd s.caps.tripped l fun _ => true } })) l

/-- THERMAL_TRIP_RELEASE (R326). -/
def execThermalTripRelease (loop : Nat) (s : State) : Host.Outcome State Fault Refusal :=
  if s.caps.tripped.getD loop false && 10000 ≤ s.caps.coolRun.getD loop 0 then
    .next (post 0x8011 (setThermal loop false { s with caps := { s.caps with
      tripped := upd s.caps.tripped loop fun _ => false } }) loop)
  else .next s

/-- NO_REFERENCE (R333): no reference for 600 s. -/
def execNoReference (site : Nat) (s : State) : Host.Outcome State Fault Refusal :=
  if sitePresent s site && 600 ≤ refAge s site && !(siteC s site).noRef then
    .next (post 0x8030 (capCount 7 (updSiteC site (fun x => { x with noRef := true }) s)) site)
  else .next s

/-- The dither reference of a finished window, if it is usable (R334). -/
def ditherResult (d : Dither) : Option (F32 × F32) :=
  if d.n1 = 0 ∨ d.n2 = 0 then none
  else
    let n1 := f32OfInt d.n1
    let n2 := f32OfInt d.n2
    let q1 := f32Div (f32Div (f32OfInt d.q1) n1) f16
    let q2 := f32Div (f32Div (f32OfInt d.q2) n2) f16
    let d1 := f32Div d.d1 n1
    let d2 := f32Div d.d2 n2
    let dd := f32Sub d1 d2
    let al := f32Div (f32Sub q1 q2) dd
    if f32Lt (f32Abs dd) (f32OfRatio d.target 2048) || f32View dd = f32View 0 then none
    else if f32Le (f32OfRatio 1 2) al && f32Le al (f32OfInt 2) then
      let y := f32Sub (f32Div (f32Add q1 q2) (f32OfInt 2)) (f32Div (f32Mul al (f32Add d1 d2)) (f32OfInt 2))
      some (y, f32Div d.tauSum (f32OfInt (d.n1 + d.n2)))
    else none

/-- DITHER_WINDOW_END (R334): judged once the means of its last regulator window can have arrived (R329). -/
def execDitherWindowEnd (site : Nat) (s : State) : Host.Outcome State Fault Refusal :=
  match (siteC s site).dither with
  | none => .next s
  | some d =>
    if s.seq.frame < d.start + 206 then .next s
    else match ditherResult d with
      | some (y, tau) => .next (updSiteC site (fun x => { x with dither := none }) (takeReference site y tau s))
      | none => .next (voidDither site s)

end Sys2Proof.Machine
end

