-- ==== Sys2Proof/Machine/CanTiming.lean ====
section
/-! DEFINITION. Bit timing, the longest frame and the Almanac's own rules (R466 to R471, R481). Times count units of
12.5 ns. -/

namespace Sys2Proof.Machine

/-- Data length of a DLC (R470). -/
def dlcBytes (dlc : Nat) : Nat := if dlc ≤ 8 then dlc else ([12, 16, 20, 24, 32, 48, 64] : List Nat).getD (dlc - 9) 64

def nominalBit (a : AlmanacCfg) : Nat := a.nbrp * (1 + a.ntseg1 + a.ntseg2)
def dataBit (a : AlmanacCfg) : Nat := a.dbrp * (1 + a.dtseg1 + a.dtseg2)

/-- Nominal and data bits of the longest frame (R470): format, identifier, bytes and rate switch. -/
def frameBits (ide fdf brs : Bool) (b : Nat) : Nat × Nat :=
  if fdf then
    let a := if ide then 36 else 17
    let head := a + (a - 1) / 4
    let body := 5 + 8 * b + (5 + 8 * b + 3) / 4 + (if b ≤ 16 then 27 else 32)
    if brs then (head + 13, body) else (head + body + 13, 0)
  else
    let n := (if ide then 54 else 34) + 8 * b
    (n + (n - 1) / 4 + 13, 0)

/-- The longest frame of a message on a channel (R470). -/
def longestFrame (a : AlmanacCfg) (ide fdf brs : Bool) (dlc : Nat) : Nat :=
  let n := frameBits ide fdf brs (dlcBytes dlc)
  n.1 * nominalBit a + n.2 * dataBit a

/-- Payload of a transmit object in bytes; 0 for a reserved one (R476). -/
def objectBytes (o : Nat) : Nat :=
  if o < 512 then 2 else if o < 516 then 8 else if o < 532 then 2 else if o = 1008 ∨ o = 1009 ∨ o = 1010 then 8 else 0

/-- R471's rules for a frame: a used cell or a host message. -/
def frameRules (ide fdf brs : Bool) (canId dlc : Nat) : Bool :=
  (fdf || (!brs && decide (dlc ≤ 8))) && (ide || decide (canId < 2048))

/-- R466, R467. -/
def timingRules (a : AlmanacCfg) : Bool :=
  2 ≤ a.ntseg1 && 2 ≤ a.ntseg2 && a.nsjw ≤ min a.ntseg1 a.ntseg2 && a.dsjw ≤ min a.dtseg1 a.dtseg2 &&
  80 ≤ nominalBit a && 10 ≤ dataBit a && dataBit a ≤ nominalBit a &&
  (if a.tdcEn then a.dbrp ≤ 2 && a.tdcOffset ≠ 0 else 40 ≤ dataBit a)

/-- R471's rules that concern the record alone. -/
def almanacRules (a : AlmanacCfg) : Bool :=
  timingRules a &&
  ((List.range (a.columns - 1)).all fun j =>
    let x := a.column.getD j {}
    let y := a.column.getD (j + 1) {}
    x.start < y.start && x.start + x.length ≤ y.start) &&
  ((List.range 1024).all fun k =>
    let c := a.cell.getD k {}
    let col := a.column.getD (k % 16) {}
    !c.used || (k % 16 < a.columns && col.kind ≤ 1 && frameRules c.ide c.fdf c.brs c.canId c.dlc &&
      longestFrame a c.ide c.fdf c.brs c.dlc ≤ 80 * col.length &&
      objectBytes c.source ≠ 0 && objectBytes c.source ≤ dlcBytes c.dlc)) &&
  (let used := (a.cell.filter (·.used)).map fun c => (c.canId, c.ide, c.source)
   let firsts := used.eraseDups
   firsts.all fun p => firsts.all fun q => p.1 ≠ q.1 || p.2.1 ≠ q.2.1 || p.2.2 = q.2.2)

/-- R481 for one entry. -/
def filterRule (f : FilterCfg) : Bool := f.ide || (f.idMatch < 2048 && f.mask < 2048)

/-- An enabled entry accepts an identifier (R481). -/
def filterAccepts (f : FilterCfg) (ide : Bool) (canId : Nat) : Bool :=
  f.enabled && f.ide = ide && (canId ^^^ f.idMatch) &&& f.mask = 0

end Sys2Proof.Machine
end

