-- ==== Sys2Proof/Machine/BoundArith.lean ====
section
/-! DEFINITION. The bound engine's arithmetic, element by element (R224 to R235), and the rounded tables of R263. -/

namespace Sys2Proof.Machine

/-- A dyadic number m * 2^e. -/
structure Dy where
  m : Int
  e : Int
  deriving DecidableEq, Repr

/-- Significand of a dyadic number at an exponent at or below its own. -/
def dyAt (x : Dy) (e : Int) : Int := x.m * 2 ^ (x.e - e).toNat

def dyAdd (x y : Dy) : Dy := let e := min x.e y.e; ⟨dyAt x e + dyAt y e, e⟩
def dyNeg (x : Dy) : Dy := ⟨-x.m, x.e⟩
def dySub (x y : Dy) : Dy := dyAdd x (dyNeg y)
def dyMul (x y : Dy) : Dy := ⟨x.m * y.m, x.e + y.e⟩
def dyLe (x y : Dy) : Bool := let e := min x.e y.e; dyAt x e ≤ dyAt y e
def dyLt (x y : Dy) : Bool := !(dyLe y x)
def dyMin (x y : Dy) : Dy := if dyLe x y then x else y
def dyMax (x y : Dy) : Dy := if dyLe x y then y else x
def dyOf (n : Int) : Dy := ⟨n, 0⟩

/-- floor and ceiling of n / 2^k. -/
def floorSh (n : Int) (k : Nat) : Int := n / (2 ^ k : Int)
def ceilSh (n : Int) (k : Nat) : Int := -((-n) / (2 ^ k : Int))

/-- Rounded down, up, or to nearest with ties away from zero, to an integer at exponent `e`. -/
def dyFloor (x : Dy) (e : Int) : Int := if e ≤ x.e then dyAt x e else floorSh x.m (e - x.e).toNat
def dyCeil (x : Dy) (e : Int) : Int := -(dyFloor (dyNeg x) e)
def dyRound (x : Dy) (e : Int) : Int := if e ≤ x.e then dyAt x e else roundDiv x.m (2 ^ (e - x.e).toNat)

/-- Rounded down to 24 significant bits and the least binary32 exponent; none past the range. -/
def dyDown24 (x : Dy) : Dy :=
  let k := max ((Nat.log2 x.m.natAbs : Int) - 23 + x.e) (-149)
  if k ≤ x.e then x else ⟨floorSh x.m (k - x.e).toNat, k⟩
def dyUp24 (x : Dy) : Dy := dyNeg (dyDown24 (dyNeg x))

/-- Rounded to nearest even in binary32, as a dyadic number. -/
def dyNear24 (x : Dy) : Dy :=
  match f32View (f32Round (decide (x.m < 0)) x.m.natAbs x.e) with
  | .fin s m e => ⟨if s then -(m : Int) else m, e⟩
  | _ => x

/-- Beyond the largest binary32 number. -/
def dyHuge (x : Dy) : Bool := dyLe ⟨1, 128⟩ x || dyLe x ⟨-1, 128⟩

/-! Edges of bounded elements (R230 step 1, R235). -/

def bndLo (x : Bnd) : Dy := ⟨x.c - x.r, x.e⟩
def bndHi (x : Bnd) : Dy := ⟨x.c + x.r, x.e⟩

def bndExact (m e : Int) : Bnd := { c := m, e := e }

def bndInf (c e : Int) : Bnd := { inf := true, c := c, e := e }

/-- R230 step 3: center and radius from two edges, at half an ulp. -/
def bndOfEdges (lo hi : Dy) : Bnd :=
  let e := min lo.e hi.e
  { c := dyAt lo e + dyAt hi e, r := (dyAt hi e - dyAt lo e).toNat, e := e - 1 }

/-! Accumulator pairs (R227, R228, R232). -/

/-- An accumulator pair of `w` bits: the joined pair of Q16 activations has 64 (R234). -/
structure Pair where
  c : Int := 0
  r : Nat := 0
  e : Int := 0
  inf : Bool := false
  sat : Bool := false
  deriving DecidableEq, Repr

def satPair (w : Nat) (p : Pair) : Pair :=
  if satS w p.c ≠ p.c ∨ 2 ^ w ≤ p.r then { p with c := satS w p.c, r := min p.r (2 ^ w - 1), inf := true, sat := true }
  else p

/-- Adds an exact product p with radius q at exponent ex into the pair (R227). -/
def pairAdd (w : Nat) (a : Pair) (p : Int) (q : Nat) (ex : Int) : Pair :=
  let s := ex - a.e
  if 16 < s then { a with inf := true, sat := true }
  else if 0 ≤ s then satPair w { a with c := a.c + p * 2 ^ s.toNat, r := a.r + q * 2 ^ s.toNat }
  else
    let k := (-s).toNat
    let lost := if p % (2 ^ k : Int) = 0 then 0 else 1
    satPair w { a with c := a.c + floorSh p k, r := a.r + (ceilSh q k).toNat + lost }

/-- Center MAC (R227): weight significand and exponent times a bounded operand. -/
def mac (w : Nat) (a : Pair) (wm ew : Int) (x : Bnd) : Pair :=
  let a' := pairAdd w a (wm * x.c) (wm.natAbs * x.r) (ew + x.e)
  if x.inf then { a' with inf := true } else a'

/-- Product of two bounded operands (R228). -/
def macProd (w : Nat) (a : Pair) (x y : Bnd) : Pair :=
  let a' := pairAdd w a (x.c * y.c) (x.c.natAbs * y.r + y.c.natAbs * x.r + x.r * y.r) (x.e + y.e)
  if x.inf || y.inf then { a' with inf := true } else a'

/-- An element as the pair it enters a reduction with. -/
def pairOf (x : Bnd) : Pair := { c := x.c, r := x.r, e := x.e, inf := x.inf }

/-- The reduction tree over pairs of `w` bits (R232, R234): aligned to the largest exponent; a shift that loses bits widens
the radius. -/
def reduceTree (w : Nat) (ps : List Pair) : Pair :=
  match ps with
  | [] => {}
  | p :: t =>
    let e := t.foldl (fun m x => max m x.e) p.e
    (p :: t).foldl (fun a x =>
      let k := (e - x.e).toNat
      let lost := if x.c % (2 ^ k : Int) = 0 then 0 else 1
      let a' := satPair w { a with c := a.c + floorSh x.c k, r := a.r + (ceilSh x.r k).toNat + lost }
      { a' with inf := a'.inf || x.inf, sat := a'.sat || x.sat }) { e := e }

/-- A bounded element enters requantization or conversion with this pair. -/
def pairEdges (lo hi : Dy) (inf : Bool) : Pair :=
  let b := bndOfEdges lo hi
  { c := b.c, r := b.r, e := b.e, inf := inf }

/-! Requantization and conversion (R229, R233). -/

/-- c_j and u_j of a pair at k = e_out - e_acc (R229). -/
def quant (p : Pair) (k : Int) : Int × Nat :=
  if k ≤ 0 then (p.c * 2 ^ (-k).toNat, p.r * 2 ^ (-k).toNat)
  else
    let n := k.toNat
    let c := roundDiv p.c (2 ^ n)
    (c, (ceilSh ((p.r : Int) + ((p.c - c * 2 ^ n).natAbs : Int)) n).toNat)

def fits (cMax : Int) (rMax : Nat) (q : Int × Nat) : Bool := q.1.natAbs ≤ cMax.natAbs && q.2 ≤ rMax

/-- One block of 32 lanes into bounded B8 (R229); `at_` gives the pairs that stand at each output exponent. -/
def requantWith (eMin : Int) (at_ : Int → List Pair) : List Bnd :=
  let eTry := (List.range (127 - eMin).toNat.succ).map fun (i : Nat) => eMin + (i : Int)
  match eTry.find? fun eo => (at_ eo).all fun p => p.inf || fits 127 254 (quant p (eo - p.e)) with
  | some eo => (at_ eo).map fun p =>
      let q := quant p (eo - p.e)
      { inf := p.inf, c := if p.inf then clampI (-127) 127 q.1 else q.1, r := if p.inf then 255 else q.2, e := eo,
        sat := p.sat }
  | none => (at_ 127).map fun (p : Pair) =>
      let edge : Int := if decide (p.c < (0 : Int)) then -127 else 127
      ({ inf := true, c := edge, r := 255, e := 127, sat := p.sat || !p.inf } : Bnd)

def requantB8 (eMin : Int) (ps : List Pair) : List Bnd := requantWith eMin fun _ => ps

/-- Blocks of 32 elements (R224). -/
def blocks32 {α : Type} : Nat → List α → List (List α)
  | 0, _ => []
  | _ + 1, [] => []
  | k + 1, l => l.take 32 :: blocks32 k (l.drop 32)

/-- A pair into Q16 or Q32 at the tensor's fixed exponent (R229). -/
def requantQ (wide : Bool) (frac : Nat) (p : Pair) : Bnd :=
  let q := quant p (-(frac : Int) - p.e)
  let cMax : Int := if wide then 2147483647 else 32767
  let rMax := if wide then 0xFFFFFFFE else 0xFFFE
  if p.inf then { inf := true, c := clampI (-cMax) cMax q.1, e := -(frac : Int), sat := p.sat }
  else if fits cMax rMax q then { c := q.1, r := q.2, e := -(frac : Int) }
  else { inf := true, c := clampI (-cMax) cMax q.1, e := -(frac : Int), sat := true }

/-- Bounded binary32 from edges (R233): edges rounded outward, then center and radius. An INF element keeps its center
(R226). -/
def f32OfEdges (lo hi : Dy) (inf sat : Bool) : Bnd :=
  let l := dyDown24 lo
  let h := dyUp24 hi
  if inf || dyHuge l || dyHuge h then
    let m := dyAdd lo hi
    { inf := true, sat := sat, c := m.m, e := m.e - 1 }
  else
    let c := dyNear24 (let s := dyAdd l h; ⟨s.m, s.e - 1⟩)
    let r := dyUp24 (dyMax (dySub h c) (dySub c l))
    let e := min c.e r.e
    { c := dyAt c e, r := (dyAt r e).toNat, e := e }

/-- Pairs of one node into its output format (R229, R233, R257). -/
def toFormat (nd : NodeCfg) (ps : List Pair) : List Bnd :=
  match nd.fmt with
  | 0 => ((blocks32 ps.length ps).map (requantB8 nd.eMin)).flatten
  | 1 => ps.map (requantQ false nd.frac)
  | 2 => ps.map (requantQ true nd.frac)
  | _ => ps.map fun p => f32OfEdges ⟨p.c - p.r, p.e⟩ ⟨p.c + p.r, p.e⟩ p.inf p.sat

/-- An element's edges rounded outward to whole counts at an exponent, and rebuilt as a pair (R230 step 3, R233). -/
def roundedPair (e : Int) (x : Bnd) : Pair :=
  let lo := dyFloor (bndLo x) e
  let hi := dyCeil (bndHi x) e
  { c := lo + hi, r := (hi - lo).toNat, e := e - 1, inf := x.inf }

/-- Conversion of elements into a node's output format (R233): the edges are rounded in the target. -/
def convertTo (nd : NodeCfg) (xs : List Bnd) : List Bnd :=
  match nd.fmt with
  | 0 => ((blocks32 xs.length xs).map fun b => requantWith nd.eMin fun eo => b.map (roundedPair eo)).flatten
  | 1 => xs.map fun x => requantQ false nd.frac (roundedPair (-(nd.frac : Int)) x)
  | 2 => xs.map fun x => requantQ true nd.frac (roundedPair (-(nd.frac : Int)) x)
  | _ => xs.map fun x => f32OfEdges (bndLo x) (bndHi x) x.inf false

/-! Operand buffers and scratch (R225). -/

/-- A block of bounded B8 as its 72 bytes (R224, R225): centers, radius codes with 255 for INF, the exponent, and reserved
bytes that are 0. -/
def blockBytes (b : List Bnd) : List Byte :=
  ((List.range 32).map fun i => BitVec.ofInt 8 (b.getD i {}).c) ++
  ((List.range 32).map fun i => if (b.getD i {}).inf then 255 else BitVec.ofNat 8 (b.getD i {}).r) ++
  [BitVec.ofInt 8 (b.getD 0 {}).e] ++ List.replicate 7 0

/-- The 32 elements of a block (R225). -/
def blockElems (b : List Byte) : List Bnd :=
  let e := (b.getD 64 0).toInt
  (List.range 32).map fun i =>
    let u := (b.getD (32 + i) 0).toNat
    { inf := u = 255, c := (b.getD i 0).toInt, r := u, e := e }

/-- Writes a node's value in its format. -/
def storeNode (nd : NodeCfg) (l : List Bnd) (certain : List Bool) : Stored :=
  if nd.fmt = 0 then { blocks := (blocks32 l.length l).map blockBytes, certain := certain }
  else { elems := l, certain := certain }

/-- Reads a node's value. -/
def loadNode (nd : NodeCfg) (x : Stored) : List Bnd :=
  if nd.fmt = 0 then ((x.blocks.map blockElems).flatten).take nd.n else x.elems

/-- A binary32 value as an element of a POINT node: radius 0; a NaN or an infinity is INF (R217, R224). -/
def pointOf (x : F32) : Bnd :=
  match f32View x with
  | .fin a m e => { c := if a then -(m : Int) else m, e := e }
  | _ => { inf := true }

/-! Comparison (R231). -/

/-- TRUE is the exact 1, FALSE the exact 0 and UNDECIDED the interval from 0 to 1. -/
def tri (t f : Bool) : Bnd :=
  if t then bndExact 1 0 else if f then bndExact 0 0 else { c := 1, r := 1, e := -1 }

def compareBnd (mode : Nat) (a b : Bnd) : Bnd :=
  let lt (x y : Bnd) := tri (dyLt (bndHi x) (bndLo y)) (dyLe (bndHi y) (bndLo x))
  let le (x y : Bnd) := tri (dyLe (bndHi x) (bndLo y)) (dyLt (bndHi y) (bndLo x))
  if a.inf || b.inf then { tri false false with inf := true }
  else match mode with
    | 0 => lt a b
    | 1 => le a b
    | 2 => lt b a
    | _ => le b a

def isTrue (c : Bnd) : Bool := !c.inf && c.r = 0 && c.c ≠ 0
def isFalse (c : Bnd) : Bool := !c.inf && c.r = 0 && c.c = 0

/-- Elementary functions for the tables of R263, in fixed point with `fp` fraction bits. -/
def fp : Nat := 160

def fpMul (a b : Int) : Int := a * b / 2 ^ fp

/-- exp of x/2^fp for |x| at most 2^fp, by its series. -/
def expSmall (x : Int) : Int :=
  ((List.range 60).foldl (fun (acc : Int × Int) (i : Nat) =>
    let t := fpMul acc.2 x / ((i : Int) + 1)
    (acc.1 + t, t)) (2 ^ fp, 2 ^ fp)).1

/-- exp of a dyadic number at most 0, by halving and squaring. -/
def expNeg (x : Dy) : Int :=
  let v : Int := dyFloor x (-(fp : Int))
  if v < -(120 * 2 ^ fp) then 0
  else
    let s := expSmall (v / 128)
    (List.range 7).foldl (fun a _ => fpMul a a) s

/-- ln(1 + y) for y from 0 to 1, as 2 atanh(y / (2 + y)). -/
def log1p (y : Int) : Int :=
  let t := y * 2 ^ fp / (2 * 2 ^ fp + y)
  let t2 := fpMul t t
  2 * ((List.range 120).foldl (fun (acc : Int × Int) (i : Nat) =>
    (acc.1 + acc.2 / (2 * (i : Int) + 1), fpMul acc.2 t2)) (0, t)).1

/-- The table functions of R262 at a dyadic point, in fixed point: 0 tanh, 1 sigmoid, 2 softplus. -/
def tableFn (which : Nat) (x : Dy) : Int :=
  let neg := x.m < 0
  let ax : Dy := if neg then dyNeg x else x
  match which with
  | 0 =>
    let q := expNeg (dyNeg (dyMul (dyOf 2) ax))
    let v := (2 ^ fp - q) * 2 ^ fp / (2 ^ fp + q)
    if neg then -v else v
  | 1 =>
    let q := expNeg (dyNeg ax)
    if neg then q * 2 ^ fp / (2 ^ fp + q) else 2 ^ fp * 2 ^ fp / (2 ^ fp + q)
  | _ =>
    let l := log1p (expNeg (dyNeg ax))
    if neg then l else l + dyFloor ax (-(fp : Int))

/-- The exact values of the table functions that are dyadic: tanh 0 and sigmoid 0. -/
def tableExact (which : Nat) (x : Dy) : Option Dy :=
  if x.m ≠ 0 then none
  else match which with
    | 0 => some (dyOf 0)
    | 1 => some ⟨1, -1⟩
    | _ => none

/-- f rounded down or up at exponent eT. The fixed-point value is off by far less than 2^-120, so it is nudged by
that much before the directed rounding. -/
def tableDown (which : Nat) (x : Dy) (eT : Int) : Dy :=
  match tableExact which x with
  | some v => ⟨dyFloor v eT, eT⟩
  | none =>
    let least : Int := if which = 0 then -(2 ^ fp) else if which = 1 then 0 else max 0 (dyFloor x (-(fp : Int)))
    ⟨dyFloor ⟨max least (tableFn which x - 2 ^ 30), -(fp : Int)⟩ eT, eT⟩

def tableUp (which : Nat) (x : Dy) (eT : Int) : Dy :=
  match tableExact which x with
  | some v => ⟨dyCeil v eT, eT⟩
  | none =>
    let v := tableFn which x + 2 ^ 30
    ⟨dyCeil ⟨if which = 2 then v else min (2 ^ fp) v, -(fp : Int)⟩ eT, eT⟩

/-- x + 0.6931472 rounded up at an exponent (R263). -/
def addLn2Up (x : Dy) (e : Int) : Dy :=
  let f := min 0 (min x.e e)
  -- in units of 2^f / 10^7
  let n : Int := dyAt x f * 10000000 + 6931472 * 2 ^ (-f).toNat
  let d : Int := 10000000 * 2 ^ (e - f).toNat
  ⟨-((-n) / d), e⟩

/-- The edges that the table gives (R263). -/
def tableEdges (which : Nat) (eIn eT : Int) (lo hi : Dy) : Dy × Dy :=
  let jl := dyFloor lo eIn
  let jh := dyCeil hi eIn
  let x0 : Dy := ⟨-512, eIn⟩
  let x1 : Dy := ⟨511, eIn⟩
  let lo' := if jl < -512 then (if which = 0 then (⟨-1, 0⟩ : Dy) else dyOf 0)
    else if 511 < jl then
      (if which = 2 then dyMax (tableDown which x1 eT) ⟨dyFloor lo eT, eT⟩ else tableDown which x1 eT)
    else tableDown which ⟨jl, eIn⟩ eT
  let hi' := if jh < -512 then tableUp which x0 eT
    else if 511 < jh then
      (if which = 2 then addLn2Up hi eT else dyOf 1)
    else tableUp which ⟨jh, eIn⟩ eT
  (lo', hi')

/-- Ports (R235): an element in counts of the port, with residual radius rho and demotion level d. -/
def portElem (x : Int) (m : Nat) (rho d : Nat) (b : Bnd) : PortElem :=
  let sc : Dy := ⟨(m : Int), x - 16⟩
  if b.inf then
    { lo := -2147483648, hi := 2147483647, center := satS 32 (dyRound (dyMul ⟨b.c, b.e⟩ sc) 0), inf := true
      lo0 := -2147483648, hi0 := 2147483647 }
  else
    let lo0 := dyFloor (dyMul (bndLo b) sc) 0
    let hi0 := dyCeil (dyMul (bndHi b) sc) 0
    let ctr := dyRound (dyMul ⟨b.c, b.e⟩ sc) 0
    let below := ctr - lo0 + rho
    let above := hi0 - ctr + rho
    { lo := satS 32 (ctr - 2 ^ d * below), hi := satS 32 (ctr + 2 ^ d * above), center := satS 32 ctr, lo0, hi0 }

end Sys2Proof.Machine
end

