-- ==== Sys2Proof/Machine/ImageParse.lean ====
section
/-! DEFINITION. Reading an image copy: bit fields of little-endian bytes (R7, R8), CRC-32, the header and the signature
block (R80, R81), record framing (R82 to R85) and every record's payload as its typed form (R87 to R103). -/

namespace Sys2Proof.Machine

/-- The number that bytes spell, least significant first (R8). -/
def bytesLE : List Byte → Nat
  | [] => 0
  | b :: t => b.toNat + 256 * bytesLE t

/-- Bits `lo .. lo+w-1` of a byte string (R7, R8). Bits past its end read 0. -/
def field (bs : List Byte) (lo w : Nat) : Nat :=
  (bytesLE ((bs.drop (lo / 8)).take ((lo % 8 + w + 7) / 8)) / 2 ^ (lo % 8)) % 2 ^ w

/-- A signed field (R9). -/
def fieldS (bs : List Byte) (lo w : Nat) : Int := toSigned w (field bs lo w)

/-- A one-bit field. -/
def fieldB (bs : List Byte) (lo : Nat) : Bool := field bs lo 1 == 1

/-- The bytes `off .. off+n-1`. -/
def slice (bs : List Byte) (off n : Nat) : List Byte := (bs.drop off).take n

/-- One byte into the CRC-32 of IEEE 802.3, bit reversed form. -/
def crcByte (c : BitVec 32) (b : Byte) : BitVec 32 :=
  (List.range 8).foldl
    (fun c _ => if c.getLsbD 0 then (c >>> 1) ^^^ (0xEDB88320 : BitVec 32) else c >>> 1)
    (c ^^^ b.setWidth 32)

/-- CRC-32 (IEEE 802.3 polynomial) of a byte string. -/
def crc32 (bs : List Byte) : Nat :=
  ((bs.foldl crcByte (0xFFFFFFFF : BitVec 32)) ^^^ (0xFFFFFFFF : BitVec 32)).toNat

/-- The copy header (R80). -/
structure ImgHeader where
  magic : Nat
  formatVersion : Nat
  headerLength : Nat
  imageLength : Nat
  imageSeq : Nat
  level : Nat
  minFw : Nat
  recordCount : Nat
  recordOffset : Nat
  sigOffset : Nat
  reserved : Nat
  crc : Nat
  deriving DecidableEq, Repr

def parseHeader (bs : List Byte) : ImgHeader :=
  { magic := field bs 0 32, formatVersion := field bs 32 16, headerLength := field bs 48 16
    imageLength := field bs 64 32, imageSeq := field bs 96 32, level := field bs 128 8
    minFw := field bs 136 8, recordCount := field bs 144 16, recordOffset := field bs 160 32
    sigOffset := field bs 192 32, reserved := field bs 288 1728, crc := field bs 2016 32 }

/-- Step 1 of R105: result code of the header, 0 for passed (R80, R111). -/
def headerCode (bs : List Byte) : Nat :=
  let h := parseHeader bs
  if h.magic = 0xFFFFFFFF then 1
  else if h.magic ≠ 0x4F584D4C then 2
  else if h.formatVersion ≠ 1 then 3
  else if h.crc ≠ crc32 (bs.take 252) then 4
  else if h.headerLength ≠ 256 ∨ h.recordOffset ≠ 256 ∨ h.reserved ≠ 0 ∨ h.imageSeq = 0 ∨
      h.imageSeq = 0xFFFFFFFF ∨ h.recordCount < 9 ∨ 1024 < h.recordCount ∨
      h.imageLength ≠ h.sigOffset + 512 ∨ 67108864 < h.imageLength ∨ h.sigOffset % 8 ≠ 0 ∨
      h.sigOffset < 256 then 5
  else 0

/-- The signature block (R81). -/
def sigBlock (bs : List Byte) : List Byte := slice bs (parseHeader bs).sigOffset 512

def chainDepth (bs : List Byte) : Nat := field (sigBlock bs) 0 8

def signingKeyId (bs : List Byte) : Nat := field (sigBlock bs) 1600 32

/-- SIGNING_MAX_LEVEL (R81), at either depth (R105 step 6). -/
def signingMax (bs : List Byte) : Nat := field (sigBlock bs) 1632 8

/-- Step 4 of R105: the signature block's fields are in range (R81). -/
def sigBlockOk (bs : List Byte) : Bool :=
  let b := sigBlock bs
  let depth := chainDepth bs
  (depth = 0 ∨ depth = 1) && field b 8 56 = 0 && field b 1640 24 = 0 && field b 3200 896 = 0 &&
  (depth = 1 || (field b 832 768 = 0 && field b 1600 32 = 0 && field b 1664 768 = 0))

/-- A framed record (R82): header fields and stored payload. -/
structure RawRecord where
  type : Nat
  version : Nat
  encrypted : Bool
  reserved : Bool
  index : Nat
  length : Nat
  crcOk : Bool
  paddingOk : Bool
  stored : List Byte
  deriving DecidableEq, Repr

/-- Bytes a record takes with its padding (R83). -/
def recordSpan (length : Nat) : Nat := 16 + ceilDiv length 8 * 8

/-- One record at the start of the bytes. -/
def parseRecord (bs : List Byte) : RawRecord :=
  let len := field bs 64 32
  let stored := slice bs 16 len
  { type := field bs 0 16, version := field bs 16 8, encrypted := fieldB bs 24
    reserved := field bs 25 7 = 0 && field bs 48 16 = 0, index := field bs 32 16, length := len
    crcOk := field bs 96 32 = crc32 stored && stored.length = len
    paddingOk := (slice bs (16 + len) (recordSpan len - 16 - len)).all (· == 0), stored }

/-- The records of the record area (R83); at most 1,025 are read, which is one more than any count allows. -/
def splitRecords : Nat → List Byte → List RawRecord
  | 0, _ => []
  | n + 1, bs =>
    if bs.isEmpty then []
    else
      let r := parseRecord bs
      r :: splitRecords n (bs.drop (recordSpan r.length))

/-- Plaintext length that a type requires (R85): none for types whose length their own header gives. -/
def requiredLength (type : Nat) (p : List Byte) : Option Nat :=
  match type with
  | 1 => some 776 | 2 => some 264 | 3 => some 4096 | 4 => some 1984 | 5 => some 64 | 6 => some 8328
  | 7 => some (8 + 16 * field p 0 8) | 9 => some 64 | 10 => some 56 | 11 => some 64 | 12 => some 104
  | 13 => some 128 | 14 => some (8 + 64 * field p 0 9) | _ => none

/-- The payload has room for the graph header and, in slots 0 and 1, for the vendor signature (R85, R97). Where the
sections lie is judged at step 8 (R256). -/
def graphFramed (index : Nat) (p : List Byte) : Bool := 64 + (if index < 2 then 96 else 0) ≤ p.length

/-- The record's type is known and its plaintext length is what the type requires (R83, R85). -/
def lengthOk (type index : Nat) (p : List Byte) : Bool :=
  if type = 0 ∨ 14 < type then false
  else if type = 8 then graphFramed index p
  else requiredLength type p = some p.length

/-- A framed and decrypted record. -/
structure ImgRecord where
  type : Nat
  version : Nat
  encrypted : Bool
  reserved : Bool
  index : Nat
  payload : List Byte
  deriving DecidableEq, Repr

/-- Plaintext of a record (R84): the stored payload, or what decryption gave for its ordinal. -/
def plaintext (f : CopyFacts) (ord : Nat) (r : RawRecord) : Option (List Byte) :=
  if r.encrypted then (f.plain.find? fun x => x.1 = ord).bind (·.2) else some r.stored

/-- Framing and decryption of one record after `prev` (R83, R84, R105 step 7): a code, or the record. -/
def frameRecord (f : CopyFacts) (ord : Nat) (prev : Option (Nat × Nat)) (r : RawRecord) : Nat × Option ImgRecord :=
  let ordered := match prev with
    | none => true
    | some (t, i) => t < r.type || (t = r.type && i < r.index)
  if !ordered || r.type = 0 || 14 < r.type || !r.paddingOk || !r.crcOk then (11, none)
  else match plaintext f ord r with
    | none => (12, none)
    | some p =>
      if (r.encrypted && p.length + 28 ≠ r.length) || !lengthOk r.type r.index p then (11, none)
      else if r.type = 8 && r.index < 2 && f.vendorSigBad.contains r.index then (15, none)
      else (0, some ⟨r.type, r.version, r.encrypted, r.reserved, r.index, p⟩)

/-- Step 7 over the records in order: the code and ordinal of the first failure, or every record. -/
def frameAll (f : CopyFacts) : Nat → Option (Nat × Nat) → List RawRecord → List ImgRecord →
    Nat × Nat × List ImgRecord
  | _, _, [], acc => (0, 0xFFFF, acc.reverse)
  | ord, prev, r :: t, acc =>
    match frameRecord f ord prev r with
    | (0, some x) => frameAll f (ord + 1) (some (r.type, r.index)) t (x :: acc)
    | (c, _) => (c, ord, [])

/-- The record types that a copy must hold (R85), as (type, index). -/
def requiredTypes : List (Nat × Nat) :=
  [(1, 0), (3, 0), (4, 0), (8, 0), (8, 1), (10, 0), (11, 0), (12, 0), (13, 0)]

/-- Step 7 of R105: framing, decryption, vendor signatures, then the count and the required types. -/
def framing (bs : List Byte) (f : CopyFacts) : Nat × Nat × List ImgRecord :=
  let h := parseHeader bs
  let raws := splitRecords 1025 (slice bs 256 (h.sigOffset - 256))
  match frameAll f 0 none raws [] with
  | (0, _, rs) =>
    if h.recordCount < rs.length then (11, h.recordCount, [])
    else if rs.length < h.recordCount then (11, 0xFFFF, [])
    else if requiredTypes.all fun q => rs.any fun r => r.type = q.1 && r.index = q.2 then (0, 0xFFFF, rs)
    else (11, 0xFFFF, [])
  | e => e

/-! Payloads as typed records. -/

def parseLoop (b : List Byte) : LoopCfg :=
  { configured := fieldB b 0, supplyValve := field b 1 6, returnValve := field b 7 6, balCh := field b 13 4
    balNode := field b 17 7, flow := field b 24 8, pSupply := field b 32 8, pReturn := field b 40 8
    tSupply := field b 48 8, tReturn := field b 56 8, leakK := field b 64 8, mbMin := field b 72 16
    mbMax := field b 88 16, decayMin := field b 104 16, decayMax := field b 120 16 }

def parseTopology (b : List Byte) : Topology :=
  { loopCount := field b 0 8, pumpCount := field b 8 8, fanCount := field b 16 8
    primary := match field b 24 2 with
      | 1 => .facilityWater | 2 => .dryCooler | _ => .invalid
    cvDrive := match field b 26 2 with
      | 0 => .none | 1 => .analog | 2 => .can | _ => .invalid
    cvAo := field b 28 3, ptpDomain := field b 32 7, ptpPort := field b 39 1, cvCh := field b 40 4
    cvNode := field b 44 7, loops := (List.range 24).map fun l => parseLoop (slice b (8 + 32 * l) 32) }

def parseSlot (b : List Byte) : SlotCfg :=
  { present := fieldB b 0, chipClass := field b 1 4, fallbackCap := field b 5 20, floorCap := field b 25 20 }

def parseLink (b : List Byte) : LinkCfg :=
  { present := true, siteCount := field b 0 6, loop := field b 6 5, lockstepAgent := fieldB b 11
    slots := (List.range 32).map fun s => parseSlot (slice b (8 + 8 * s) 8) }

def parseSensor (b : List Byte) : SensorCfg :=
  { kind := field b 0 4, quantity := field b 4 4, afe := field b 8 3, scaleLow := fieldS b 16 32
    scaleHigh := fieldS b 48 32, canCh := field b 80 4, canIde := fieldB b 84, canId := field b 85 29
    byteOffset := field b 114 6, width := field b 120 2, msbFirst := fieldB b 122, signed := fieldB b 123
    leakA := field b 85 5, leakB := field b 90 5, leakSplit := field b 95 16 }

def parseValve (b : List Byte) : ValveCfg :=
  { function := field b 0 4, loop := field b 4 5, normallyOpen := fieldB b 9, peakMa := field b 10 12
    holdMa := field b 22 12, peakMs := field b 34 8, dipStart := field b 42 8, dipEnd := field b 50 8
    dutyLimit := field b 58 16, flowRating := field b 74 16 }

def parsePump (b : List Byte) : PumpCfg :=
  { present := fieldB b 0, canCh := field b 1 4, node := field b 5 7, ratedRpm := field b 12 16
    overspeedOk := fieldB b 28, stallRetries := field b 29 8 }

def parseFan (b : List Byte) : FanCfg :=
  { present := fieldB b 0, pulses := field b 1 4, ratedRpm := field b 5 16, stallRetries := field b 21 8 }

def parseAo (b : List Byte) : AoCfg :=
  { function := field b 0 2, minMv := field b 2 16, maxMv := field b 18 16 }

def parseGroup (b : List Byte) : GroupCfg :=
  { skip := (List.range 4).map fun k => (field b (32 * k) 16, field b (32 * k + 16) 16)
    rateUp := field b 128 16, rateDown := field b 144 16, zoneMask := field b 160 16, minSpeed := field b 176 16 }

def parseZone (b : List Byte) : ZoneCfg :=
  { temp := (List.range 8).map fun k => fieldS b (16 * k) 16
    demand := (List.range 8).map fun k => field b (128 + 16 * k) 16
    sensor := (List.range 8).map fun k => field b (256 + 8 * k) 8, enabled := fieldB b 320 }

def parseCtl (b : List Byte) : CtlCfg :=
  { present := true, enabled := fieldB b 0, period := field b 1 10 + 1, input := field b 11 8
    outKind := field b 19 4, outIndex := field b 23 9, spSource := field b 32 2
    kff := fieldS b 64 32, kp := fieldS b 96 32, ki := fieldS b 128 32, kd := fieldS b 160 32
    shFf := field b 192 5, shP := field b 197 5, shI := field b 202 5, shD := field b 207 5
    dFilter := field b 212 4, iMin := fieldS b 224 32, iMax := fieldS b 256 32, outMin := fieldS b 288 32
    outMax := fieldS b 320 32, spConst := fieldS b 352 32, vLimit := field b 384 32, aLimit := field b 416 32
    jLimit := field b 448 32 }

def parseColumn (b : List Byte) : ColumnCfg :=
  { start := field b 0 10, length := field b 10 10, kind := field b 20 2 }

def parseCell (b : List Byte) : CellCfg :=
  { used := fieldB b 0, ide := fieldB b 1, canId := field b 2 29, dlc := field b 31 4, fdf := fieldB b 35
    brs := fieldB b 36, source := field b 37 10 }

def parseAlmanac (b : List Byte) : AlmanacCfg :=
  { present := true, restricted := fieldB b 0, nbrp := field b 2 8 + 1, ntseg1 := field b 10 8 + 1
    ntseg2 := field b 18 7 + 1, nsjw := field b 25 7 + 1, dbrp := field b 32 5 + 1, dtseg1 := field b 37 5 + 1
    dtseg2 := field b 42 4 + 1, dsjw := field b 46 4 + 1, tdcEn := fieldB b 50, tdcOffset := field b 51 7
    columns := field b 58 4 + 1
    column := (List.range 16).map fun j => parseColumn (slice b (8 + 8 * j) 8)
    cell := (List.range 1024).map fun k => parseCell (slice b (136 + 8 * k) 8) }

def parseFilter (b : List Byte) : FilterCfg :=
  { idMatch := field b 0 29, ide := fieldB b 29, enabled := fieldB b 30, mask := field b 32 29
    target := field b 61 2, hpBuffer := field b 63 3, mirror := fieldB b 66 }

def parseFilters (b : List Byte) : List FilterCfg :=
  (List.range (field b 0 8)).map fun k => parseFilter (slice b (8 + 16 * k) 16)

/-- An input node number; 0x1FFF stands for none (R257). -/
def parseIn (x : Nat) : Option Nat := if x = 0x1FFF then none else some x

def parseNode (b : List Byte) : NodeCfg :=
  { op := field b 0 8, fmt := field b 8 3, frac := field b 11 5, eMin := fieldS b 16 8, mode := field b 24 8
    ins := [parseIn (field b 32 13), parseIn (field b 45 13), parseIn (field b 58 13)], n := field b 72 16
    k := field b 88 16, p := field b 104 8, eIn := fieldS b 112 8, eT := fieldS b 120 8
    paramOff := field b 128 32, paramLen := field b 160 32 }

def nodeClean (b : List Byte) : Bool := field b 71 1 = 0 && field b 192 64 = 0

def parseInBound (b : List Byte) : InBound :=
  { kind := field b 0 4, slot := field b 4 3, field := Machine.field b 8 8, index := field b 16 16
    xExp := fieldS b 32 8, lo := fieldS b 64 32, hi := fieldS b 96 32 }

def inBoundClean (b : List Byte) : Bool := field b 7 1 = 0 && field b 40 24 = 0

def parsePort (b : List Byte) : PortCfg :=
  { role := field b 0 8, indexKind := field b 8 8, elements := field b 16 16, x := fieldS b 32 8, m := field b 64 32
    node := field b 96 13, first := field b 112 16 }

def portClean (b : List Byte) : Bool := field b 40 24 = 0 && field b 109 3 = 0

def parseCheck (b : List Byte) : CheckCfg :=
  { port := field b 0 6, sensor := field b 8 8, element := field b 16 16, start := field b 32 32
    length := field b 64 10 }

def checkClean (b : List Byte) : Bool := field b 6 2 = 0 && field b 74 54 = 0

def parseSlice (b : List Byte) : SliceCfg :=
  { frame := field b 0 10, stage := field b 10 3, len := field b 16 16, firstInstr := field b 32 32
    instrN := field b 64 32, ddrBytes := field b 96 21 }

def sliceClean (b : List Byte) : Bool := field b 13 3 = 0 && field b 117 11 = 0

def parseInstr (b : List Byte) : InstrCfg :=
  { issue := field b 0 20, unit := field b 20 3, bank := field b 24 6, node := field b 32 13, tile := field b 45 15
    step := field b 60 4, arg0 := field b 64 32, arg1 := field b 96 32 }

def instrClean (b : List Byte) : Bool := field b 23 1 = 0 && field b 30 2 = 0

/-- Entries of `w` bytes from a section. -/
def entries (b : List Byte) (off w n : Nat) : List (List Byte) :=
  (List.range n).map fun i => slice b (off + w * i) w

def parseSliceSched (b : List Byte) : SliceSched :=
  let ns := field b 16 10
  let ni := field b 96 32
  { wLen := field b 0 16, phase := field b 26 10, oprFirst := field b 36 8, oprRows := field b 44 9
    scrBase := field b 64 16, scrLen := field b 80 16
    slices := (entries b 16 16 ns).map parseSlice, instrs := (entries b (16 + 16 * ns) 16 ni).map parseInstr }

def sliceSchedClean (b : List Byte) : Bool :=
  let ns := field b 16 10
  field b 53 11 = 0 && (entries b 16 16 ns).all sliceClean && (entries b (16 + 16 * ns) 16 (field b 96 32)).all instrClean

/-- The bank blocks of a weight section of `left` bytes (R260); a block that runs past the end is kept, and the sum
of the block lengths then differs from WEIGHT_BYTES. -/
def parseBlocks : Nat → Nat → Nat → List Byte → List BankBlock
  | 0, _, _, _ => []
  | k + 1, left, at_, b =>
    if left = 0 then []
    else
      let rows := field b 20 12
      { bank := field b 0 6, firstRow := field b 8 12, rows := rows, node := field b 32 13, off := at_ + 8 } ::
        parseBlocks k (left - (8 + 256 * rows)) (at_ + 8 + 256 * rows) (b.drop (8 + 256 * rows))

def blocksClean : Nat → Nat → List Byte → Bool
  | 0, _, _ => true
  | k + 1, left, b =>
    left = 0 || (field b 6 2 = 0 && field b 45 19 = 0 &&
      blocksClean k (left - (8 + 256 * field b 20 12)) (b.drop (8 + 256 * field b 20 12)))

/-- Residual radii follow the ports in table order (R271). -/
def withResidual (b : List Byte) : Nat → List PortCfg → List PortCfg
  | _, [] => []
  | off, p :: t =>
    { p with residual := (List.range p.elements).map fun i => field (b.drop (off + 4 * i)) 0 32 } ::
      withResidual b (off + 4 * p.elements) t

def parseGraph (b : List Byte) : GraphCfg :=
  let nodes := entries b (field b 160 32) 32 (field b 32 13)
  let ib := b.drop (field b 288 32)
  let ins := entries ib 8 16 (field ib 0 16)
  let po := field b 352 32
  let pc := field b 384 8
  let ports := entries b po 16 pc
  let cb := b.drop (po + 16 * pc)
  let checks := entries cb 8 16 (field cb 0 16)
  let wb := field b 128 32
  let w := (b.drop (field b 192 32)).take wb
  let st := b.drop (field b 224 32)
  let fe := b.drop (field b 256 32)
  { present := true, graphId := field b 0 32, nodeCount := field b 32 13, period := field b 45 10
    priority := field b 55 2, budgetSteady := field b 64 32, budgetFeast := field b 96 32
    weightBytes := wb, nodeOff := field b 160 32, weightOff := field b 192 32
    schedSteadyOff := field b 224 32, schedFeastOff := field b 256 32, inputBoundsOff := field b 288 32
    residualOff := field b 320 32, portOff := po, portCount := pc
    breachLimit := field b 392 16, nodes := nodes.map parseNode, blocks := parseBlocks (wb / 8) wb 0 w
    payload := b
    inputs := ins.map parseInBound
    ports := withResidual b (field b 320 32) (ports.map parsePort)
    checks := checks.map parseCheck, steady := parseSliceSched st, feast := parseSliceSched fe
    clean := nodes.all nodeClean && ins.all inBoundClean && field ib 16 48 = 0 && ports.all portClean &&
      checks.all checkClean && field cb 16 48 = 0 && sliceSchedClean st && sliceSchedClean fe &&
      blocksClean (wb / 8) wb w }

def parseTenant (b : List Byte) : TenantCfg :=
  { present := true, enabled := fieldB b 0, cls := field b 1 2, allowDither := fieldB b 3
    allowEmber := fieldB b 4, allowSurge := fieldB b 5, lockstep := fieldB b 6, minPages := field b 16 16
    maxPages := field b 32 16, key := field b 64 256 }

def parsePages (b : List Byte) : PageParams :=
  { idleHystMs := field b 0 16, slopeUp := field b 16 20, slopeDown := field b 36 20
    poolMax := (List.range 24).map fun l => field b (64 + 16 * l) 16 }

def parseMaint (b : List Byte) : MaintCfg :=
  { row := (List.range 16).map fun a => field b (16 * a) 16
    maxDuration := (List.range 16).map fun a => field b (256 + 16 * a) 16 }

def parseMode (b : List Byte) : ModeCfg :=
  { supplyBias := fieldS b 0 16, sprayByCost := fieldB b 16, surgePct := field b 17 8, pumpLimit := field b 25 16
    engineFast := fieldB b 41, wWater := field b 64 16, wEnergy := field b 80 16, wCompute := field b 96 16
    emberFloor := fieldS b 112 16, emberAmplitude := field b 128 16, emberPower := field b 144 20 }

def parseModes (b : List Byte) : ModeTable :=
  { startMode := field b 0 2, allowed := field b 2 3
    modes := (List.range 3).map fun m => parseMode (slice b (8 + 32 * m) 32) }

def parseLimits (b : List Byte) : HardLimits :=
  { rowCap := field b 0 32, chipCap := field b 32 20
    rackCap := (List.range 24).map fun l => field b (64 + 32 * l) 32, waterDaily := field b 832 32
    outletLimit := fieldS b 864 16, supplyMin := fieldS b 880 16, supplyMax := fieldS b 896 16
    waterDayStart := field b 912 16 }

def parseSched (b : List Byte) : SchedCfg :=
  { actionId := field b 0 32, kind := field b 32 4, lateMode := fieldB b 36, firstTarget := field b 64 64
    repeatS := field b 128 32, payload := field b 256 256 }

/-- Payload of the record of a type and index, if the copy holds it. -/
def payloadOf (rs : List ImgRecord) (type index : Nat) : Option (List Byte) :=
  (rs.find? fun r => r.type = type && r.index = index).map (·.payload)

/-- The records of an indexed type as a list over all its indices. -/
def indexed {α : Type} (rs : List ImgRecord) (type n : Nat) (d : α) (parse : List Byte → α) : List α :=
  (List.range n).map fun i => match payloadOf rs type i with
    | some p => parse p
    | none => d

/-- The configuration of a copy (R85): every record in its typed form. -/
def buildImage (h : ImgHeader) (rs : List ImgRecord) : Image :=
  let one (t : Nat) : List Byte := (payloadOf rs t 0).getD []
  let act := one 4
  { seq := h.imageSeq, level := h.level, topology := parseTopology (one 1)
    links := indexed rs 2 64 {} parseLink
    sensors := (List.range 256).map fun i => parseSensor (slice (one 3) (16 * i) 16)
    valves := (List.range 48).map fun c => parseValve (slice act (16 * c) 16)
    pumps := (List.range 4).map fun p => parsePump (slice act (768 + 16 * p) 16)
    fans := (List.range 24).map fun f => parseFan (slice act (832 + 8 * f) 8)
    aos := (List.range 8).map fun a => parseAo (slice act (1024 + 8 * a) 8)
    groups := (List.range 4).map fun g => parseGroup (slice act (1088 + 32 * g) 32)
    zones := (List.range 16).map fun z => parseZone (slice act (1216 + 48 * z) 48)
    loops := indexed rs 5 512 {} parseCtl, almanacs := indexed rs 6 12 {} parseAlmanac
    filters := indexed rs 7 12 [] parseFilters, graphs := indexed rs 8 8 {} parseGraph
    tenants := indexed rs 9 256 {} parseTenant, pages := parsePages (one 10), maint := parseMaint (one 11)
    modes := parseModes (one 12), limits := parseLimits (one 13)
    schedule := match payloadOf rs 14 0 with
      | none => []
      | some b => (List.range (field b 0 9)).map fun k => parseSched (slice b (8 + 64 * k) 64) }
end Sys2Proof.Machine
end

