-- ==== Sys2Proof/Machine/GraphEval.lean ====
section
/-! DEFINITION. The operator library (R261 to R266): a node's constants from bank rows and payload (R225, R257, R260), and
its value from its operands; ports (R235). -/

namespace Sys2Proof.Machine

/-- Accumulator pairs of 32 bits for B8 operands, joined pairs of 64 for Q16 operands (R234); `x` is the node that gives the
operand. -/
def laneBits (x : NodeCfg) : Nat := if x.fmt = 1 || x.fmt = 2 then 64 else 32

/-! Constants (R225, R257, R260, R261). -/

/-- Rows of a node in the order of its bank blocks, as bank, row and the offset of its bytes in the weight section. -/
def nodeRows (g : GraphCfg) (n : Nat) : List (Nat × Nat × Nat) :=
  (g.blocks.filter fun b => b.node = n).flatMap fun b =>
    (List.range b.rows).map fun i => (b.bank, b.firstRow + i, b.off + 256 * i)

/-- The bank rows that a graph's weight section fills (R219, R260). -/
def graphRows (g : GraphCfg) : List BankRow :=
  g.blocks.flatMap fun b => (List.range b.rows).map fun i =>
    { bank := b.bank, row := b.firstRow + i, data := slice g.payload (g.weightOff + b.off + 256 * i) 256 }

def rowData (mem : List BankRow) (bank row : Nat) : List Byte :=
  ((mem.find? fun x => x.bank = bank && x.row = row).map (·.data)).getD []

/-- Byte of a row as a signed number. -/
def byteS (b : List Byte) (i : Nat) : Int := (b.getD i 0).toInt

/-- Weights of output row r of a node, bank by bank in ascending order and columns in ascending order (R219, R225): lane j of
tile t takes byte j of each of the tile's weight rows; the exponent of the lane's block of 32 stands in the exponent row of
the column's group of 32 (DEDUCED, log entry 35: byte 8 c + b for column c of the group and block b). -/
def weightParts (slot : Nat) (mem : List BankRow) (g : GraphCfg) (n r : Nat) : List WeightPart :=
  let t := r / 256
  let j := r % 256
  let rows := (nodeRows g n).mapIdx fun i x => (x.1, x.2.1, Config.rowUse slot n i)
  let cols := rows.filter fun x => !x.2.2.1 && x.2.2.2.1 = t
  let expo (k : Nat) : Int :=
    match rows.find? fun x => x.2.2.1 && x.2.2.2.1 = t && x.2.2.2.2 = k / 32 with
    | some x => byteS (rowData mem x.1 x.2.1) (8 * (k % 32) + j / 32)
    | none => 0
  (List.range 64).filterMap fun b =>
    let here := sortBy (fun (x y : Nat × Nat × Bool × Nat × Nat) => decide (x.2.2.2.2 < y.2.2.2.2))
      (cols.filter fun x => x.1 = b)
    if here.isEmpty then none
    else some { eAcc := Config.tileAcc slot n t b
                terms := here.map fun x => (x.2.2.2.2, byteS (rowData mem x.1 x.2.1) j, expo x.2.2.2.2) }

/-- Output elements of an input of a node, or 0 for none. -/
def inSize (g : GraphCfg) (nd : NodeCfg) (j : Nat) : Nat :=
  match nd.ins.getD j none with
  | some i => (g.nodes.getD i {}).n
  | none => 0

/-- State elements of SSM_STEP: K is the inner dimension of [A B] and [C D] (R262; DEDUCED, log entry 184). -/
def ssmState (g : GraphCfg) (nd : NodeCfg) : Nat := nd.k - inSize g nd 0

/-- Rows of weights that an operator takes (R262). -/
def weightRows (g : GraphCfg) (nd : NodeCfg) : Nat :=
  match nd.op with
  | 0x01 | 0x02 | 0x04 => nd.n
  | 0x03 => nd.n / nd.p
  | 0x05 => 4 * nd.n
  | 0x06 => ssmState g nd + nd.n
  | _ => 0

/-- State elements of an operator (R261, R262). -/
def stateSize (g : GraphCfg) (nd : NodeCfg) : Nat :=
  match nd.op with
  | 0x04 => nd.k - nd.k / nd.p
  | 0x05 | 0x50 | 0x51 => nd.n
  | 0x06 => ssmState g nd
  | 0x52 | 0x53 => nd.n * nd.p
  | _ => 0

/-- The node's constants in the payload (R257). -/
def paramBytes (g : GraphCfg) (nd : NodeCfg) : List Byte := slice g.payload nd.paramOff nd.paramLen

def s32At (b : List Byte) (off : Nat) : Int := fieldS (b.drop off) 0 32

/-- Breakpoints and values of INTERP: P of each, S32 (R264). -/
def interpXs (nd : NodeCfg) (b : List Byte) : List Int := (List.range nd.p).map fun i => s32At b (4 * i)
def interpYs (nd : NodeCfg) (b : List Byte) : List Int := (List.range nd.p).map fun i => s32At b (4 * (nd.p + i))

/-- Every constant of a node. -/
def nodeConst (slot : Nat) (mem : List BankRow) (g : GraphCfg) (n : Nat) : NodeConst :=
  let nd := g.nodes.getD n {}
  let b := paramBytes g nd
  let val (grp i : Nat) := Config.constValue b nd.op grp i
  let rows := weightRows g nd
  { weights := (List.range rows).map (weightParts slot mem g n)
    bias := (List.range (max rows nd.n)).map (val 0), scale := (List.range nd.n).map (val 1)
    eAcc := (List.range (nd.n / 256 + 1)).map fun t => Config.tileAcc slot n t 64
    state := (List.range (stateSize g nd)).map fun i =>
      (s32At b (Config.statePlace nd.op + 8 * i), s32At b (Config.statePlace nd.op + 8 * i + 4))
    index := (List.range nd.n).map fun i => (val 2 i).1.toNat
    xs := if nd.op = 0x24 then interpXs nd b else [], ys := if nd.op = 0x24 then interpYs nd b else [] }

/-- Accumulator exponent of output element i: one per tile of 256 (R227). -/
def tileExp (k : NodeConst) (i : Nat) : Int := k.eAcc.getD (i / 256) 0

def constAt (l : List (Int × Int)) (i : Nat) : Int × Int := l.getD i (l.getD 0 (0, 0))

def bndAt (l : List Bnd) (i : Nat) : Bnd := l.getD i (bndInf 0 0)

/-- One part of a weight row over an operand vector (R227). -/
def rowPart (w : Nat) (x : List Bnd) (p : WeightPart) : Pair :=
  p.terms.foldl (fun a t => mac w a t.2.1 t.2.2 (bndAt x t.1)) { e := p.eAcc }

/-- One row: its parts, joined by the reduction tree when there are several (R219, R232), then its bias. -/
def rowValue (w : Nat) (x : List Bnd) (row : List WeightPart) (bias : Option (Int × Int)) : Pair :=
  let ps := row.map (rowPart w x)
  let s := match ps with
    | [p] => p
    | _ => reduceTree w ps
  match bias with
  | some b => mac w s 1 0 (bndExact b.1 b.2)
  | none => s

/-- W x + b for the rows from `first` on. -/
def matVec (w : Nat) (k : NodeConst) (first n : Nat) (x : List Bnd) : List Pair :=
  (List.range n).map fun i => rowValue w x (k.weights.getD (first + i) []) (k.bias[first + i]?)

/-- Element-wise sum a + s b, at the tile's exponent (R227). -/
def addPair (w : Nat) (e : Int) (a : Bnd) (sgn : Int) (b : Bnd) : Pair := mac w (mac w { e := e } 1 0 a) sgn 0 b

/-- B8 blocks of a vector of pairs, for the intermediate values of composed operators (R229). -/
def toB8 (eMin : Int) (ps : List Pair) : List Bnd := toFormat { eMin := eMin } ps

def edgePair (lo hi : Dy) (inf : Bool) : Pair := pairEdges lo hi inf

/-- Element-wise function given by its edges. -/
def mapEdges (f : Dy → Dy → Dy × Dy) (x : Bnd) : Pair :=
  let r := f (bndLo x) (bndHi x)
  edgePair r.1 r.2 x.inf

def tableMap (which : Nat) (nd : NodeCfg) (x : Bnd) : Pair := mapEdges (tableEdges which nd.eIn nd.eT) x

def dyAbsEdges (lo hi : Dy) : Dy × Dy :=
  let z := dyOf 0
  let n := dyNeg lo
  if dyLe lo z && dyLe z hi then (z, dyMax n hi)
  else if dyLt hi z then (dyNeg hi, n) else (lo, hi)

/-- The piecewise-linear function of R264 at a point, rounded down or up to binary32. -/
def interpAt (k : NodeConst) (eIn eT : Int) (up : Bool) (x : Dy) : Dy :=
  let n := k.xs.length
  let at_ (l : List Int) (i : Nat) (e : Int) : Dy := ⟨l.getD i 0, e⟩
  let round (v : Dy) : Dy := if up then dyUp24 v else dyDown24 v
  if dyLe x (at_ k.xs 0 eIn) then round (at_ k.ys 0 eT)
  else if dyLe (at_ k.xs (n - 1) eIn) x then round (at_ k.ys (n - 1) eT)
  else
    let i := ((List.range n).filter fun j => dyLe (at_ k.xs j eIn) x).length - 1
    let dx := k.xs.getD (i + 1) 0 - k.xs.getD i 0
    let dy := k.ys.getD (i + 1) 0 - k.ys.getD i 0
    -- y_i + (x - x_i) dy / dx, with 200 more bits than the operands before the directed rounding
    let t := dySub x (at_ k.xs i eIn)
    let num := t.m * dy * 2 ^ 200
    let q : Int := if dx = 0 then 0 else if up then -((-num) / dx) else num / dx
    round (dyAdd (at_ k.ys i eT) ⟨q, t.e + eT - eIn - 200⟩)

def interpEdges (k : NodeConst) (eIn eT : Int) (lo hi : Dy) : Dy × Dy :=
  let inside := (List.range k.xs.length).filter fun i =>
    dyLt lo ⟨k.xs.getD i 0, eIn⟩ && dyLt ⟨k.xs.getD i 0, eIn⟩ hi
  let ys : List Dy := inside.map fun i => ⟨k.ys.getD i 0, eT⟩
  let a := dyMin (interpAt k eIn eT false lo) (interpAt k eIn eT false hi)
  let b := dyMax (interpAt k eIn eT true lo) (interpAt k eIn eT true hi)
  (ys.foldl dyMin a, ys.foldl dyMax b)

/-- Group i of K elements. -/
def group (x : List Bnd) (k i : Nat) : List Bnd := (x.drop (i * k)).take k

def anyInf (l : List Bnd) : Bool := l.any (·.inf)

def foldEdges (f : Dy → Dy → Dy) (l : List Bnd) : Pair :=
  match l with
  | [] => {}
  | a :: t => edgePair (t.foldl (fun m x => f m (bndLo x)) (bndLo a)) (t.foldl (fun m x => f m (bndHi x)) (bndHi a))
      (anyInf l)

/-- Division of edges by a count, rounded outward (R233). -/
def divEdges (k : Nat) (x : Bnd) : Dy × Dy :=
  let lo := bndLo x
  let hi := bndHi x
  (dyDown24 ⟨floorSh (lo.m * 2 ^ 64) 0 / (k : Int), lo.e - 64⟩, dyUp24 ⟨-((-(hi.m * 2 ^ 64)) / (k : Int)), hi.e - 64⟩)

/-- Element numbers in descending order of upper edge, ties to the lower number (R265). -/
def byUpper (x : List Bnd) : List Nat :=
  sortBy (fun (a b : Nat) =>
    let ha := bndHi (bndAt x a)
    let hb := bndHi (bndAt x b)
    (bndAt x a).inf && !(bndAt x b).inf ||
      ((bndAt x a).inf == (bndAt x b).inf && (dyLt hb ha || (!(dyLt ha hb) && a < b)))) (List.range x.length)

/-- CERTAIN marks of the P indices (R265): the lower edge is at least the (P+1)-th largest upper edge, if there is one. -/
def topCertain (p : Nat) (x : List Bnd) : List Bool :=
  let his := byUpper x
  (List.range p).map fun j =>
    let l := bndAt x (his.getD j 0)
    match his[p]? with
    | some q => !l.inf && !(bndAt x q).inf && dyLe (bndHi (bndAt x q)) (bndLo l)
    | none => true

/-- TOPK (R265): values, then indices when the node has room for them. An INF input reaches every index (R226). -/
def topK (p n : Nat) (x : List Bnd) : List Pair :=
  let idx := (List.range x.length)
  let his := byUpper x
  let los := sortBy (fun (a b : Nat) =>
    let la := bndLo (bndAt x a)
    let lb := bndLo (bndAt x b)
    !(bndAt x a).inf && (bndAt x b).inf || ((bndAt x a).inf == (bndAt x b).inf && (dyLt lb la || (!(dyLt la lb) && a < b)))) idx
  (List.range n).map fun j =>
    if j < p then
      let h := bndAt x (his.getD j 0)
      let l := bndAt x (los.getD j 0)
      edgePair (bndLo l) (bndHi h) (h.inf || l.inf)
    else { pairOf (bndExact (his.getD (j - p) 0 : Nat) 0) with inf := anyInf x }

/-- The sites that GATHER_SITE and SCATTER_LOOP sum over: the loop of each present site (R262). -/
abbrev SiteLoops := List (Option Nat)

/-- A node's result: its elements, its advanced operator state (R261), the elements that a saturation made INF on the way
(R227, R232) and CERTAIN marks (R265). -/
structure NodeResult where
  out : List Bnd
  state : List Bnd := []
  sats : Nat := 0
  certain : List Bool := []
  deriving DecidableEq, Repr

/-- Elements that a saturation made INF (R227, R232, R253). -/
def satCount (l : List Bnd) : Nat := l.countP (·.sat)

/-- A result without state. -/
def plainResult (l : List Bnd) : NodeResult := { out := l, sats := satCount l }

/-- 1 - x of a constant (R262, EWVAR). -/
def oneMinus (x : Int × Int) : Int × Int :=
  if x.2 ≤ 0 then (2 ^ (-x.2).toNat - x.1, x.2) else (1 - x.1 * 2 ^ x.2.toNat, 0)

/-- GRU_STEP (R262). -/
def gruStep (w : Nat) (nd : NodeCfg) (k : NodeConst) (a st : List Bnd) : NodeResult :=
  let h := nd.n
  let xh := a ++ st
  let pre (f : Nat) := toB8 nd.eMin (matVec w k (f * h) h xh)
  let gate (p : List Bnd) := toB8 nd.eMin (p.map (tableMap 1 nd))
  let zp := pre 0
  let rp := pre 1
  let z := gate zp
  let r := gate rp
  let un := toB8 nd.eMin (matVec w k (3 * h) h st)
  let wn := matVec w k (2 * h) h a
  let np := toB8 nd.eMin ((List.range h).map fun i => macProd w (wn.getD i {}) (bndAt r i) (bndAt un i))
  let n := toB8 nd.eMin (np.map (tableMap 0 nd))
  let d := toB8 nd.eMin ((List.range h).map fun i => addPair w (tileExp k i) (bndAt st i) (-1) (bndAt n i))
  let out := toFormat nd ((List.range h).map fun i =>
    macProd w (mac w { e := tileExp k i } 1 0 (bndAt n i)) (bndAt z i) (bndAt d i))
  { out := out, state := out, sats := satCount (zp ++ rp ++ un ++ np ++ d ++ out) }

/-- SSM_STEP (R262): the rows of [A B] before those of [C D]. -/
def ssmStep (w : Nat) (nd : NodeCfg) (k : NodeConst) (a st : List Bnd) : NodeResult :=
  let s := st.length
  let xu := st ++ a
  let next := toB8 nd.eMin (matVec w k 0 s xu)
  let out := toFormat nd (matVec w k s nd.n xu)
  { out := out, state := next, sats := satCount (next ++ out) }

/-- EWVAR (R262). -/
def ewvar (w : Nat) (nd : NodeCfg) (k : NodeConst) (a b st : List Bnd) : NodeResult :=
  let al := constAt k.scale 0
  let be := oneMinus al
  let d := toB8 nd.eMin ((List.range nd.n).map fun i => addPair w (tileExp k i) (bndAt a i) (-1) (bndAt b i))
  let d2 := toB8 nd.eMin (d.mapIdx fun i x => macProd w { e := tileExp k i } x x)
  let t := toB8 nd.eMin (d2.mapIdx fun i x => mac w (mac w { e := tileExp k i } 1 0 (bndAt st i)) al.1 al.2 x)
  let out := toFormat nd (t.mapIdx fun i x => mac w { e := tileExp k i } be.1 be.2 x)
  { out := out, state := out, sats := satCount (d ++ d2 ++ t ++ out) }

/-- A node's value (R262). `st` is the operator state that the evaluation began with, `w` the width of the accumulator pairs,
and `qp` the solver's iterate, or none for a QP_STEP that is not the plan's, whose free values `draw` numbers. -/
def nodeValue (qp : Option (List Bnd)) (draw w : Nat) (loops : SiteLoops) (ins : List Bnd) (nd : NodeCfg) (k : NodeConst)
    (a b c st : List Bnd) : NodeResult :=
  let each (f : Nat → Pair) : List Bnd := toFormat nd ((List.range nd.n).map f)
  let plain (l : List Bnd) : NodeResult := plainResult l
  match nd.op with
  | 0x00 => plain (convertTo nd ((List.range nd.n).map fun i => bndAt ins (nd.k + i)))
  | 0x01 | 0x02 => plain (toFormat nd (matVec w k 0 nd.n a))
  | 0x03 =>
    let m := nd.n / nd.p
    plain (toFormat nd ((List.range nd.p).map fun t => matVec w k 0 m ((a.drop (t * nd.k)).take nd.k)).flatten)
  | 0x04 =>
    let hist := a ++ st
    { plain (toFormat nd (matVec w k 0 nd.n hist)) with state := hist.take (a.length * (nd.p - 1)) }
  | 0x05 => gruStep w nd k a st
  | 0x06 => ssmStep w nd k a st
  | 0x10 => plain (each fun i => addPair w (tileExp k i) (bndAt a i) 1 (bndAt b i))
  | 0x11 => plain (each fun i => addPair w (tileExp k i) (bndAt a i) (-1) (bndAt b i))
  | 0x12 => plain (each fun i => macProd w { e := tileExp k i } (bndAt a i) (bndAt b i))
  | 0x13 => plain (each fun i => mac w { e := tileExp k i } (constAt k.scale 0).1 (constAt k.scale 0).2 (bndAt a i))
  | 0x14 => plain (each fun i =>
      let t := constAt k.bias i
      mac w (mac w { e := tileExp k i } (constAt k.scale i).1 (constAt k.scale i).2 (bndAt a i)) 1 0 (bndExact t.1 t.2))
  | 0x15 => plain (toFormat nd (a.map fun x => { pairOf x with c := -x.c }))
  | 0x16 => plain (each fun i => mapEdges dyAbsEdges (bndAt a i))
  | 0x17 => plain (each fun i => foldEdges dyMax [bndAt a i, bndAt b i])
  | 0x18 => plain (each fun i => foldEdges dyMin [bndAt a i, bndAt b i])
  | 0x19 => plain (each fun i =>
      let lo : Dy := ⟨(constAt k.scale i).1, (constAt k.scale i).2⟩
      let hi : Dy := ⟨(constAt k.bias i).1, (constAt k.bias i).2⟩
      mapEdges (fun l h => (dyMin (dyMax l lo) hi, dyMin (dyMax h lo) hi)) (bndAt a i))
  | 0x1A => plain (each fun i =>
      let x := bndAt a i
      let y := bndAt b i
      edgePair (dyMin (bndLo x) (bndLo y)) (dyMax (bndHi x) (bndHi y)) (x.inf || y.inf))
  | 0x1B => plain (each fun i =>
      let g : Dy := ⟨((constAt k.scale i).1.natAbs : Int), (constAt k.scale i).2⟩
      mapEdges (fun l h => (dySub l g, dyAdd h g)) (bndAt a i))
  | 0x1C => plain (convertTo nd a)
  | 0x20 => plain (each fun i => mapEdges (fun l h => (dyMax (dyOf 0) l, dyMax (dyOf 0) h)) (bndAt a i))
  | 0x21 => plain (each fun i => tableMap 0 nd (bndAt a i))
  | 0x22 => plain (each fun i => tableMap 1 nd (bndAt a i))
  | 0x23 => plain (each fun i => tableMap 2 nd (bndAt a i))
  | 0x24 => plain (each fun i => mapEdges (interpEdges k nd.eIn nd.eT) (bndAt a i))
  | 0x30 => plain (each fun i => reduceTree w ((group a nd.k i).map pairOf))
  | 0x31 => plain (each fun i =>
      let s := reduceTree w ((group a nd.k i).map pairOf)
      let x : Bnd := { c := s.c, r := s.r, e := s.e }
      let q := divEdges nd.k x
      { edgePair q.1 q.2 s.inf with sat := s.sat })
  | 0x32 => plain (each fun i => (List.range nd.k).foldl (fun p j => macProd w p (bndAt a j) (bndAt b j))
      { e := tileExp k i })
  | 0x33 => plain (each fun i => foldEdges dyMax (group a nd.k i))
  | 0x34 => plain (each fun i => foldEdges dyMin (group a nd.k i))
  | 0x38 =>
    let sites := (List.range loops.length).filter fun i => loops.getD i none = some nd.p
    plain (toFormat nd ((List.range nd.n).map fun i => pairOf (bndAt a (sites.getD i 2048))))
  | 0x39 => plain (each fun l => reduceTree w
      (((List.range loops.length).filter fun i => loops.getD i none = some l).map fun i => pairOf (bndAt a i)))
  | 0x3A => plain (each fun i => pairOf (bndAt a (k.index.getD i a.length)))
  | 0x40 => { plain (toFormat nd (topK nd.p nd.n a)) with certain := topCertain nd.p a }
  | 0x41 => plain (toFormat nd ((List.range nd.n).map fun i => pairOf (compareBnd nd.mode (bndAt a i) (bndAt b i))))
  | 0x42 => plain (each fun i =>
      let s := bndAt a i
      let x := bndAt b i
      let y := bndAt c i
      if isTrue s then pairOf x else if isFalse s then pairOf y
      else edgePair (dyMin (bndLo x) (bndLo y)) (dyMax (bndHi x) (bndHi y)) (x.inf || y.inf || s.inf))
  | 0x50 =>
    let al := constAt k.scale 0
    let out := each fun i =>
      let s := bndAt st i
      mac w (mac w (mac w { e := tileExp k i } 1 0 s) al.1 al.2 (bndAt a i)) (-al.1) al.2 s
    { plain out with state := out }
  | 0x51 => ewvar w nd k a b st
  | 0x52 =>
    let hist := a ++ st
    { plain (toFormat nd ((hist.drop (nd.p * a.length)).take nd.n |>.map pairOf)) with state := hist.take (a.length * nd.p) }
  | 0x53 =>
    let hist := a ++ st
    let old := hist.drop (nd.p * a.length)
    { plain (each fun i => addPair w (tileExp k i) (bndAt a i) (-1) (bndAt old i)) with
      state := hist.take (a.length * nd.p) }
  | _ => { out := match qp with
      | some u => (List.range nd.n).map (bndAt u)
      | none => (List.range nd.n).map fun i => bndExact (Config.qpValue draw i) 0 }

/-- The state bound of a node at load and after a reset of its state (R261). -/
def initNodeState (nd : NodeCfg) (k : NodeConst) : List Bnd :=
  let e : Int := if nd.fmt = 0 then nd.eMin else -(nd.frac : Int)
  k.state.map fun x => bndOfEdges ⟨x.1, e⟩ ⟨x.2, e⟩

/-- The whole state bounds of a graph; they stand in the payload, so no bank row is read. -/
def initGraphState (slot : Nat) (g : GraphCfg) : List (List Bnd) :=
  (List.range g.nodes.length).map fun i => initNodeState (g.nodes.getD i {}) (nodeConst slot [] g i)

/-- Ports of one evaluation (R235); every output is INF when it is out of domain or struck (R216, R247, R248). -/
def evalPorts (g : GraphCfg) (vals : List Stored) (level : Nat) (allInf : Bool) : List (List PortElem) :=
  g.ports.map fun p => (List.range p.elements).map fun i =>
    let b := bndAt (loadNode (g.nodes.getD p.node {}) (vals.getD p.node {})) (p.first + i)
    portElem p.x p.m (p.residual.getD i 0) level (if allInf then { b with inf := true } else b)

end Sys2Proof.Machine
end

