-- ==== Sys2Proof/Machine/GraphLoad.lean ====
section
/-! DEFINITION. What a graph image must satisfy: its sections and nodes (R256 to R262, step 8), its ports and checks
(R237, R269 to R273, step 9) and its slice schedules (R273 to R279, step 10). -/

namespace Sys2Proof.Machine

/-- The sections of a graph as offset and length, the seven of R97. -/
def graphSections (g : GraphCfg) : List (Nat × Nat) :=
  let sched (s : SliceSched) := 16 + 16 * s.slices.length + 16 * s.instrs.length
  [(g.nodeOff, 32 * g.nodeCount), (g.weightOff, g.weightBytes), (g.schedSteadyOff, sched g.steady),
   (g.schedFeastOff, sched g.feast), (g.inputBoundsOff, 8 + 16 * g.inputs.length),
   (g.residualOff, 4 * (g.ports.map (·.elements)).sum),
   (g.portOff, 16 * g.portCount + 8 + 16 * g.checks.length)]

/-- Two sections do not overlap. -/
def disjointFrom (a b : Nat × Nat) : Bool := a.1 + a.2 ≤ b.1 || b.1 + b.2 ≤ a.1 || a.2 = 0 || b.2 = 0

/-- R256: 8-byte boundaries, no overlap, all inside the payload and before a vendor signature. -/
def sectionsOk (room : Nat) (g : GraphCfg) : Bool :=
  let l := graphSections g
  l.all (fun x => x.1 % 8 = 0 && 64 ≤ x.1 && x.1 + x.2 ≤ room) &&
  (List.range l.length).all fun i => (List.range i).all fun j => disjointFrom (l.getD i (0, 0)) (l.getD j (0, 0))

/-- How many inputs an operator names. -/
def arity (op : Nat) : Nat :=
  if op = 0x42 then 3 else if [0x10, 0x11, 0x12, 0x17, 0x18, 0x1A, 0x32, 0x41, 0x51].contains op then 2
  else if op = 0 then 0 else 1

/-- Limits and sizes of an operator (R262). -/
def operatorOk (g : GraphCfg) (nd : NodeCfg) : Bool :=
  let a := inSize g nd 0
  let b := inSize g nd 1
  let c := inSize g nd 2
  match nd.op with
  | 0x00 => nd.k + nd.n ≤ g.inputs.length
  | 0x01 | 0x02 => a = nd.k && nd.k ≤ 61440
  | 0x03 => 1 ≤ nd.p && nd.k ≤ 61440 && a = nd.p * nd.k && nd.n % nd.p = 0
  | 0x04 => 1 ≤ nd.p && nd.p ≤ 64 && nd.k = nd.p * a
  | 0x05 => nd.n ≤ 256 && a = nd.k
  | 0x06 => a < nd.k && ssmState g nd ≤ 512
  | 0x10 | 0x11 | 0x12 | 0x17 | 0x18 | 0x1A | 0x51 => a = nd.n && b = nd.n
  | 0x41 => a = nd.n && b = nd.n && nd.mode ≤ 3
  | 0x13 | 0x14 | 0x15 | 0x16 | 0x19 | 0x1B | 0x1C | 0x20 | 0x21 | 0x22 | 0x23 | 0x50 => a = nd.n
  | 0x24 => a = nd.n && 2 ≤ nd.p && nd.paramLen = 8 * nd.p &&
      (let xs := interpXs nd (paramBytes g nd)
       (List.range (nd.p - 1)).all fun i => xs.getD i 0 < xs.getD (i + 1) 0)
  | 0x30 | 0x31 | 0x33 | 0x34 => 1 ≤ nd.k && a = nd.n * nd.k
  | 0x32 => nd.n = 1 && a = nd.k && b = nd.k
  | 0x38 => a = 2048 && nd.p < 24
  | 0x39 => a = 2048 && nd.n = 24
  | 0x3A => 1 ≤ a
  | 0x40 => a = nd.k && nd.k ≤ 4096 && 1 ≤ nd.p && nd.p ≤ 64 && nd.p ≤ nd.k && (nd.n = nd.p || nd.n = 2 * nd.p)
  | 0x42 => a = nd.n && b = nd.n && c = nd.n
  | 0x52 | 0x53 => a = nd.n && 1 ≤ nd.p
  | 0x60 => nd.n ≤ 1024 && nd.k ≤ 8192
  | _ => false

/-- The node's constants lie in the payload, and hold a state bound for each state element (R257, R261). -/
def paramsOk (g : GraphCfg) (nd : NodeCfg) : Bool :=
  nd.paramOff + nd.paramLen ≤ g.payload.length && 8 * stateSize g nd ≤ nd.paramLen

/-- A node entry (R257). -/
def nodeOk (g : GraphCfg) (i : Nat) (nd : NodeCfg) : Bool :=
  (i ≠ 0 || nd.op = 0) && 1 ≤ nd.n && nd.n ≤ 8192 && nd.fmt ≤ 4 && (nd.fmt ≠ 4 || nd.op = 0x60) &&
  (match nd.fmt with
   | 1 => nd.frac ≤ 15
   | 2 => true
   | _ => nd.frac = 0) &&
  (List.range 3).all (fun j => match nd.ins.getD j none with
    | some m => m < i
    | none => (nd.op = 0x60 && 0 < j) || arity nd.op ≤ j) &&
  operatorOk g nd && paramsOk g nd

/-- An entry of the input bound table of slot s (R258, R272). -/
def inBoundOk (s : Nat) (x : InBound) : Bool :=
  x.kind ≤ 6 && x.lo ≤ x.hi && (x.kind ≠ 0 || x.lo = x.hi) && (x.kind ≠ 5 || s = 0) &&
  (x.kind ≠ 6 || (s ≠ 0 && x.slot ≠ s)) &&
  (match x.kind with
   | 1 => x.index < 256
   | 2 => x.index < 2048 && (x.field ≤ 2 || (8 ≤ x.field && x.field ≤ 15))
   | 3 => x.index < 24 && x.field ≤ 8
   | 4 => x.field ≤ 6
   | 6 => x.field < 64
   | _ => true)

/-- Elements that an index kind takes (R268). -/
def indexCount (kind n : Nat) : Bool :=
  match kind with
  | 0 => n = 1
  | 1 => n = 24
  | 2 => n = 200
  | 3 => n = 4800
  | 4 => n = 4
  | 5 => 1 ≤ n && n ≤ 8192
  | _ => false

def portOk (g : GraphCfg) (p : PortCfg) : Bool :=
  p.role ≤ 10 && indexCount p.indexKind p.elements && p.node < g.nodeCount &&
  p.first + p.elements ≤ (g.nodes.getD p.node {}).n

/-- R237, R271: the element a check names exists, and its interval lies in range. -/
def checkCfgOk (g : GraphCfg) (c : CheckCfg) : Bool :=
  c.port < g.portCount && c.element < (g.ports.getD c.port {}).elements && g.period ≤ c.start && c.start ≤ 200000 &&
  1 ≤ c.length && c.length ≤ 1000

/-- Fields of a slice schedule (R275, R276). -/
def schedFieldsOk (g : GraphCfg) (s : SliceSched) : Bool :=
  1 ≤ s.slices.length && s.slices.length ≤ g.period && s.phase < g.period && 1 ≤ s.oprRows &&
  s.oprFirst + s.oprRows ≤ 256 && s.scrBase + s.scrLen ≤ 16384 &&
  s.slices.all (fun x => x.len ≤ s.wLen && x.stage ≤ 4 && x.ddrBytes ≤ 1048576 &&
    x.firstInstr + x.instrN ≤ s.instrs.length) &&
  (s.slices.getD 0 {}).frame = 0 &&
  (List.range s.slices.length).all (fun i => i = 0 || (s.slices.getD (i - 1) {}).frame < (s.slices.getD i {}).frame) &&
  s.instrs.all fun x => x.unit ≤ 5 && x.step ≤ 4 && x.node < g.nodeCount

/-- Step 8 for the sections of a graph (R256 to R262, R268, R271, R275, R276). -/
def graphSectionsOk (s room : Nat) (g : GraphCfg) : Bool :=
  g.clean && sectionsOk room g && 1 ≤ g.inputs.length && g.inputs.length ≤ 8192 &&
  (List.range g.nodes.length).all (fun i => nodeOk g i (g.nodes.getD i {})) && g.inputs.all (inBoundOk s) &&
  g.ports.all (portOk g) && g.checks.length ≤ 256 && g.checks.all (checkCfgOk g) &&
  ((g.blocks.map fun b => 8 + 256 * b.rows).sum = g.weightBytes) &&
  g.blocks.all (fun b => b.firstRow + b.rows ≤ 3840 && b.node < g.nodeCount) &&
  schedFieldsOk g g.steady && schedFieldsOk g g.feast

/-- A weight significand of 0x80 is invalid (R224, R260): no weight row of the section holds one. -/
def weightsOk (slot : Nat) (g : GraphCfg) : Bool :=
  (List.range g.nodes.length).all fun n =>
    ((nodeRows g n).mapIdx fun i x => (x.2.2, (Config.rowUse slot n i).1)).all fun y =>
      y.2 || !((slice g.payload (g.weightOff + y.1) 256).contains 0x80)

/-- R269: role, slot, index kind and no POINT node for an edge. -/
def roleOk (s : Nat) (g : GraphCfg) (p : PortCfg) : Bool :=
  let point := (g.nodes.getD p.node {}).fmt = 4
  let kindOf (k : Nat) := p.indexKind = k
  match p.role with
  | 0 => true
  | 1 | 2 | 3 => s = 0 && kindOf 3 && !point
  | 4 => s = 0 && kindOf 2 && !point
  | 5 | 6 => s = 0 && kindOf 5
  | 7 => 2 ≤ s && kindOf 1 && !point
  | 8 => 2 ≤ s && kindOf 4 && !point
  | 9 => 2 ≤ s && kindOf 0 && !point
  | 10 => 1 ≤ s && kindOf 1 && !point
  | _ => false

/-- Quantity of the count unit of a role, for the sensor of a check (R13, R237); none: the owner's choice. -/
def roleQuantity (role : Nat) : Option Nat :=
  match role with
  | 2 | 3 => some 0
  | 1 | 4 | 5 | 6 | 7 | 8 | 9 | 10 => some 99
  | _ => none

/-- R237: the sensor of a check is used, and its quantity's count unit is the port's. -/
def checkSensorOk (img : Image) (g : GraphCfg) (c : CheckCfg) : Bool :=
  let x := img.sensors.getD c.sensor {}
  x.kind ≠ 0 && (match roleQuantity (g.ports.getD c.port {}).role with
    | none => true
    | some q => x.quantity = q)

/-- R104: a sensor that an input takes (R258) is used. -/
def inputSensorOk (img : Image) (x : InBound) : Bool := x.kind ≠ 1 || (img.sensors.getD x.index {}).kind ≠ 0

/-- R272: slot 0 declares ports of roles 1 to 6, slot 1 exactly one of role 10. -/
def slotRolesOk (s : Nat) (g : GraphCfg) : Bool :=
  let n (r : Nat) := g.ports.countP fun p => p.role = r
  if s = 0 then [1, 2, 3, 4, 5, 6].all fun r => 1 ≤ n r
  else if s = 1 then n 10 = 1 else true

/-- R260: rows of different graphs in one bank do not overlap, and the total fits the banks. -/
def weightRowsOk (gs : List GraphCfg) : Bool :=
  let bl := (gs.map (·.blocks)).zipIdx
  (((gs.map (·.blocks)).flatten.map (·.rows)).sum ≤ 245760) &&
  bl.all fun a => bl.all fun b => a.2 = b.2 || a.1.all fun x => b.1.all fun y =>
    x.bank ≠ y.bank || disjointFrom (x.firstRow, x.rows) (y.firstRow, y.rows)

/-- Step 9 for a graph: the rules of code 14. -/
def graphCrossOk (img : Image) (s : Nat) : Bool :=
  let g := img.graphs.getD s {}
  !g.present || (g.ports.all (roleOk s g) && g.checks.all (checkSensorOk img g) && g.inputs.all (inputSensorOk img) &&
    slotRolesOk s g)

/-- Instructions of a slice. -/
def sliceInstrs (s : SliceSched) (x : SliceCfg) : List InstrCfg := (s.instrs.drop x.firstInstr).take x.instrN

/-- R278: both schedules have the same slices and instructions. -/
def schedulesAgree (g : GraphCfg) : Bool :=
  let a := g.steady
  let b := g.feast
  let key (x : InstrCfg) := (x.node, x.tile, x.step)
  let part (s : SliceSched) (x : SliceCfg) := (sliceInstrs s x).map key
  a.slices.length = b.slices.length && a.phase = b.phase &&
  (List.range a.slices.length).all fun i =>
    let x := a.slices.getD i {}
    let y := b.slices.getD i {}
    x.frame = y.frame && x.stage = y.stage && (part a x).all (fun k => (part b y).contains k) &&
      (part b y).all fun k => (part a x).contains k

/-- R273: the frames of the epoch that a stage of slot 0 may use. -/
def stageFrames (stage f : Nat) : Bool :=
  match stage with
  | 1 => f ≤ 29
  | 2 => 30 ≤ f && f ≤ 69
  | 3 => 70 ≤ f && f ≤ 79
  | 4 => 81 ≤ f && f ≤ 90
  | _ => false

/-- R273, R274: periods, phases and stages. -/
def schedTimesOk (s : Nat) (g : GraphCfg) : Bool :=
  let sc := g.steady
  sc.slices.all (fun x => x.frame < g.period) &&
  (if s = 0 then g.period = 100 && sc.phase = 0 && sc.slices.all fun x => stageFrames x.stage x.frame
   else (100 % g.period = 0 || g.period % 100 = 0) && sc.slices.all fun x => x.stage = 0)

/-- Latency of a unit in cycles: 8 for the reduction tree (R220). -/
def latencyOf (unit : Nat) : Nat := if unit = 1 then 8 else Config.unitLatency unit

/-- Two instructions name one unit: banks, trees, F32 units and exchanges are told apart by their bank or cluster (R276). -/
def sameUnit (a b : InstrCfg) : Bool :=
  a.unit = b.unit && (if a.unit = 0 then a.bank = b.bank else 4 ≤ a.unit || a.bank % 4 = b.bank % 4)

/-- Window of an LPDDR5X transfer in cycles: 34 GB/s plus 1.2 us, at 1.0 or 1.25 GHz (R222, R250). -/
def transferWindow (fast : Bool) (bytes : Nat) : Nat :=
  if fast then ceilDiv (5 * (bytes + 40800)) 136 else ceilDiv (bytes + 40800) 34

/-- Instructions of one slice (R279): each ends before LEN, no unit is used twice in one cycle, a transfer's window ends
before the next instruction of its node, whose data it moves, and the transfers move at most 1 MiB. -/
def sliceInstrOk (fast : Bool) (s : SliceSched) (x : SliceCfg) : Bool :=
  let l := sliceInstrs s x
  l.all (fun i => i.issue < x.len && i.issue + latencyOf i.unit < x.len) &&
  ((List.range l.length).all fun i => (List.range i).all fun j =>
    let a := l.getD i {}
    let b := l.getD j {}
    a.issue ≠ b.issue || !(sameUnit a b)) &&
  (l.all fun i => i.unit ≠ 4 || l.all fun k => k.unit = 4 || k.node ≠ i.node || k.issue < i.issue ||
    i.issue + transferWindow fast i.arg1 ≤ k.issue) &&
  ((l.filter fun i => i.unit = 4).map (·.arg1)).sum ≤ 1048576

/-! Counted operations (R267). -/

/-- Operators that the lanes compute by center MACs (R227, R228, R262). -/
def macOperator (op : Nat) : Bool :=
  [0x01, 0x02, 0x03, 0x04, 0x05, 0x06, 0x10, 0x11, 0x12, 0x13, 0x14, 0x32, 0x50, 0x51, 0x53].contains op

/-- Output elements of a tile of a node, one for each lane (R219). -/
def tileLanes (g : GraphCfg) (nd : NodeCfg) (tile : Nat) : Nat := min 256 (max nd.n (weightRows g nd) - 256 * tile)

/-- Operations of one instruction: a compute step works on its lanes over ARG1 inner indices (R267, R276; DEDUCED, log entry
183). A lane MAC counts 2, or 4 with a Q16 operand; a fused multiply-add, which the solver step uses, counts 2; every other
lane operation, tree addition and F32 operation counts 1. Moves count nothing. -/
def instrOps (g : GraphCfg) (i : InstrCfg) : Nat :=
  let nd := g.nodes.getD i.node {}
  let wide : Bool := match nd.ins.getD 0 none with
    | some m => (g.nodes.getD m {}).fmt = 1
    | none => false
  let each := if i.unit = 0 then (if macOperator nd.op then (if wide then 4 else 2) else 1)
    else if i.unit = 1 then 1
    else if i.unit = 2 then (if nd.op = 0x60 then 2 else 1) else 0
  if i.step = 1 then each * tileLanes g nd i.tile * i.arg1 else 0

/-- Counted operations of a slice (R267). -/
def sliceOps (g : GraphCfg) (s : SliceSched) (x : SliceCfg) : Nat := ((sliceInstrs s x).map (instrOps g)).sum

/-- R219, R279: a lane instruction names a bank that holds its node's weights, if the node has weights. -/
def laneBanksOk (g : GraphCfg) (s : SliceSched) : Bool :=
  s.instrs.all fun i => i.unit ≠ 0 || i.step ≠ 1 || !(g.blocks.any fun b => b.node = i.node) ||
    g.blocks.any fun b => b.node = i.node && b.bank = i.bank

/-- The part of R279 for one graph. -/
def graphSchedOk (s : Nat) (g : GraphCfg) : Bool :=
  g.budgetSteady ≤ g.steady.wLen * 32768 && g.budgetFeast ≤ g.feast.wLen * 32768 &&
  g.steady.slices.all (sliceInstrOk false g.steady) && g.feast.slices.all (sliceInstrOk true g.feast) &&
  g.steady.slices.all (fun x => sliceOps g g.steady x ≤ g.budgetSteady) &&
  g.feast.slices.all (fun x => sliceOps g g.feast x ≤ g.budgetFeast) &&
  laneBanksOk g g.steady && laneBanksOk g g.feast && schedulesAgree g && schedTimesOk s g

/-- R279: operand rows and scratch regions of two graphs do not overlap, under either clock. -/
def regionsOk (a b : SliceSched) : Bool :=
  disjointFrom (a.oprFirst, a.oprRows) (b.oprFirst, b.oprRows) && disjointFrom (a.scrBase, a.scrLen) (b.scrBase, b.scrLen)

/-- Step 10 of R105: the first slot whose graph the load-time check of R279 refuses. A sum of windows or a region that
does not fit is charged to the later slot. -/
def graphRefused (bad : List Nat) (img : Image) : Option Nat :=
  let g (s : Nat) := img.graphs.getD s {}
  let before (s : Nat) := (List.range s).filter fun j => (g j).present
  (List.range 8).find? fun s => (g s).present &&
    (bad.contains s || !(graphSchedOk s (g s)) ||
     39872 < (((before s) ++ [s]).map fun j => (g j).steady.wLen).sum ||
     49840 < (((before s) ++ [s]).map fun j => (g j).feast.wLen).sum ||
     (before s).any fun j => !(regionsOk (g j).steady (g s).steady) || !(regionsOk (g j).feast (g s).feast))

/-- Bank groups that a graph uses (R121, R285). -/
def graphBanks (g : GraphCfg) : List Nat := (List.range 16).filter fun k => g.blocks.any fun b => b.bank / 4 = k

/-- The steady or feast schedule. -/
def schedOf (fast : Bool) (g : GraphCfg) : SliceSched := if fast then g.feast else g.steady

end Sys2Proof.Machine
end

