-- ==== Sys2Proof/Machine/ImageCheck.lean ====
section
/-! DEFINITION. Validation of a copy: field ranges and reserved fields (R105 step 8), the cross-record rules of R104
(step 9), the whole check of R105 and the selection of a copy (R106). -/

namespace Sys2Proof.Machine

/-- Every named reserved field is 0 (R12); a field is its lowest bit and its width. -/
def resZero (b : List Byte) (l : List (Nat × Nat)) : Bool := l.all fun x => field b x.1 x.2 = 0

def between (lo x hi : Nat) : Bool := lo ≤ x && x ≤ hi

/-- ROW_TOPOLOGY (R87, R88). The numbers of a loop entry are judged where the loop is configured (DESIGN CHOICE, log
entry 172). -/
def topologyOk (b : List Byte) : Bool :=
  let t := parseTopology b
  resZero b [(31, 1), (51, 13)] && between 1 t.loopCount 24 &&
  t.loopCount = t.loops.countP (·.configured) && between 1 t.pumpCount 4 && t.fanCount ≤ 24 &&
  t.primary ≠ .invalid &&
  (match t.primary with
   | .facilityWater => t.cvDrive = .analog || t.cvDrive = .can
   | _ => t.cvDrive = .none) &&
  (if t.cvDrive = .analog then between 4 t.cvAo 7 else t.cvAo = 0) &&
  (if t.cvDrive = .can then t.cvCh ≤ 11 && between 1 t.cvNode 127 else t.cvCh = 0 && t.cvNode = 0) &&
  ((List.range 24).all fun l =>
    let e := slice b (8 + 32 * l) 32
    let c := parseLoop e
    resZero e [(136, 120)] &&
    (!c.configured ||
      (c.supplyValve < 48 && c.returnValve < 48 && c.balCh < 12 && between 1 c.balNode 127 &&
       between 16 c.leakK 255)))

/-- LINK_MAP (R89). -/
def linkOk (b : List Byte) : Bool :=
  let c := parseLink b
  resZero b [(12, 52)] && c.siteCount = c.slots.countP (·.present) && c.loop < 24 &&
  ((List.range 32).all fun s => resZero (slice b (8 + 8 * s) 8) [(45, 19)])

/-- The kind that a sensor number's range gives (R90). -/
def sensorKind (i : Nat) : Nat :=
  if i < 48 then 1 else if i < 80 then 2 else if i < 96 then 3 else if i < 104 then 4 else 5

/-- SENSOR_MAP (R90); for a rope or a float the leak assignment stands in place of the CAN fields (R435). -/
def sensorsOk (b : List Byte) : Bool :=
  (List.range 256).all fun i =>
    let e := slice b (16 * i) 16
    let c := parseSensor e
    resZero e [(11, 5)] && (c.kind = 0 || c.kind = sensorKind i) && c.quantity ≤ 5 &&
    (if c.kind = 3 || c.kind = 4 then resZero e [(80, 5), (111, 17)] && c.quantity = 3
     else resZero e [(124, 4)] && c.canCh ≤ 11 && c.width ≠ 3) &&
    (c.kind ≠ 3 || c.scaleLow = 0) && ([2, 3, 5].contains c.kind || c.scaleHigh = 0)

/-- A valve entry (R91). The specification does not say whether the fields of an entry that is not in use are judged; the
model judges an unused entry's reserved bits, its FUNCTION, LOOP and FLOW_RATING alone (DESIGN CHOICE, log entry 172). -/
def valveOk (e : List Byte) : Bool :=
  let v := parseValve e
  resZero e [(90, 38)] && v.function ≤ 4 && v.loop < 24 && (v.function = 3 || v.flowRating = 0) &&
  (v.function = 0 ||
    (between 100 v.peakMa 4000 && v.holdMa ≤ v.peakMa && between 300 v.holdMa 1500 && between 1 v.peakMs 200 &&
     v.dipStart < v.dipEnd && v.dipEnd ≤ v.peakMs &&
     (!(v.function = 1 || v.function = 2) || v.normallyOpen)))

/-- ACTUATOR_MAP (R91 to R93); pump and fan counts are the topology's. The numbers of a pump, fan, analog output or zone
entry are judged where the entry is in use (DESIGN CHOICE, log entry 172). -/
def actuatorOk (top : Topology) (b : List Byte) : Bool :=
  ((List.range 48).all fun c => valveOk (slice b (16 * c) 16)) &&
  ((List.range 4).all fun p =>
    let e := slice b (768 + 16 * p) 16
    let c := parsePump e
    resZero e [(37, 91)] && c.present = decide (p < top.pumpCount) &&
    (!c.present || (c.canCh ≤ 1 && between 1 c.node 127 && 1 ≤ c.ratedRpm))) &&
  ((List.range 24).all fun f =>
    let e := slice b (832 + 8 * f) 8
    let c := parseFan e
    resZero e [(29, 35)] && c.present = decide (f < top.fanCount) &&
    (!c.present || (between 1 c.pulses 8 && 1 ≤ c.ratedRpm))) &&
  ((List.range 8).all fun a =>
    let e := slice b (1024 + 8 * a) 8
    let c := parseAo e
    resZero e [(34, 30)] && (a < 4 || c.function ≠ 1) &&
    (c.function = 0 || (c.minMv ≤ 10000 && c.minMv < c.maxMv))) &&
  ((List.range 4).all fun g =>
    let e := slice b (1088 + 32 * g) 32
    resZero e [(192, 64)] &&
    (parseGroup e).skip.all fun k => k.1 < k.2 || (k.1 = 0 && k.2 = 0)) &&
  ((List.range 16).all fun z =>
    let e := slice b (1216 + 48 * z) 48
    let c := parseZone e
    resZero e [(321, 63)] &&
    (!c.enabled ||
      ((c.demand.all fun d => d ≤ 11000) && (c.temp.zip (c.temp.drop 1)).all fun p => p.1 < p.2)))

/-- CONTROL_LOOP (R94), with the ranges of R303. -/
def ctlOk (b : List Byte) : Bool :=
  let c := parseCtl b
  resZero b [(34, 30), (216, 8), (480, 32)] && c.outKind ≤ 5 && c.spSource ≤ 2 &&
  c.iMin ≤ c.iMax && c.outMin ≤ c.outMax && 1 ≤ c.vLimit && 1 ≤ c.aLimit && 1 ≤ c.jLimit &&
  (match c.outKind with
   | 1 => 0 ≤ c.outMin && c.outMax ≤ 11000
   | 2 | 3 | 5 => 0 ≤ c.outMin && c.outMax ≤ 10000
   | _ => true)

/-- ALMANAC (R95, R466 to R471). Column entries at or beyond the column count are judged for their reserved bits alone
(DESIGN CHOICE, log entry 173). -/
def almanacOk (b : List Byte) : Bool :=
  let a := parseAlmanac b
  let cols := (a.column.take a.columns)
  resZero b [(1, 1), (62, 2)] && almanacRules a && a.nsjw ≤ a.ntseg2 && a.dsjw ≤ a.dtseg2 &&
  80 ≤ a.nbrp * (1 + a.ntseg1 + a.ntseg2) && 10 ≤ a.dbrp * (1 + a.dtseg1 + a.dtseg2) &&
  ((List.range 16).all fun j => resZero (slice b (8 + 8 * j) 8) [(22, 42)]) &&
  ((List.range 1024).all fun k => resZero (slice b (136 + 8 * k) 8) [(47, 17)]) &&
  (cols.all fun c => c.start ≤ 999 && 1 ≤ c.length && c.start + c.length ≤ 1000 && c.kind ≠ 3) &&
  ((List.range cols.length).all fun i => (List.range cols.length).all fun j =>
    match cols[i]?, cols[j]? with
    | some x, some y => i = j || x.start + x.length ≤ y.start || y.start + y.length ≤ x.start
    | _, _ => true) &&
  ((List.range 1024).all fun k => match a.cell[k]? with
    | some c => !c.used || (k % 16 < a.columns && (match a.column[k % 16]? with
        | some col => col.kind ≠ 2
        | none => false))
    | none => true)

/-- CAN_FILTER (R96). -/
def filtersOk (index : Nat) (b : List Byte) : Bool :=
  let fs := parseFilters b
  let hp := (fs.filter fun f => f.target = 2).map (·.hpBuffer)
  resZero b [(8, 56)] &&
  ((List.range fs.length).all fun k => resZero (slice b (8 + 16 * k) 16) [(31, 1), (67, 61)]) &&
  (fs.all fun f => filterRule f && f.target ≠ 3 && (f.target ≠ 1 || index < 2)) &&
  (if index < 2 then fs.length ≤ 128 && hp.isEmpty else fs.length ≤ 72 && hp.length ≤ 8 && hp.Nodup)

/-- GRAPH_IMAGE header (R97). -/
def graphHeaderOk (index : Nat) (b : List Byte) : Bool :=
  let g := parseGraph b
  resZero b [(57, 7), (408, 104)] && between 1 g.nodeCount 4096 && between 1 g.period 1000 &&
  g.budgetSteady ≤ 1312000000 && g.budgetFeast ≤ 1640000000 && g.weightBytes ≤ 50331648 &&
  between 1 g.portCount 64 && graphSectionsOk index (b.length - (if index < 2 then 96 else 0)) g

/-- TENANT (R98). -/
def tenantOk (b : List Byte) : Bool :=
  let t := parseTenant b
  resZero b [(7, 9), (48, 16), (320, 192)] && t.minPages ≤ 32768 &&
  between t.minPages t.maxPages 32768 && t.key ≠ 0

/-- PAGE_PARAMS (R99). -/
def pagesOk (b : List Byte) : Bool :=
  let p := parsePages b
  resZero b [(56, 8)] && between 10 p.idleHystMs 1000 && p.slopeUp ≤ p.slopeDown && p.poolMax.all (· ≤ 32768)

/-- The vendor minimum set of conflicts, row by row (R570). -/
def vendorMatrix : List Nat := [0x0003, 0x0007, 0x0002, 0, 0x0020, 0x0010, 0, 0x0080, 0x0100]

/-- MAINT_MATRIX (R100): symmetric, holding the vendor minimum, rows and columns 9 to 15 zero. -/
def maintOk (b : List Byte) : Bool :=
  let m := parseMaint b
  let at' (a c : Nat) : Bool := bit (m.row.getD a 0) c
  ((List.range 16).all fun a => (List.range 16).all fun c =>
    at' a c = at' c a && ((a < 9 && c < 9) || !at' a c)) &&
  ((List.range 9).all fun a => (List.range 9).all fun c => !bit (vendorMatrix.getD a 0) c || at' a c) &&
  ((List.range 9).all fun a => 1 ≤ m.maxDuration.getD a 0) &&
  ((List.range 7).all fun a => m.maxDuration.getD (9 + a) 0 = 0)

/-- MODE_TABLE (R101). -/
def modesOk (b : List Byte) : Bool :=
  let t := parseModes b
  resZero b [(5, 59)] && t.startMode ≤ 1 && bit t.allowed 1 &&
  ((List.range 3).all fun m =>
    let e := slice b (8 + 32 * m) 32
    let c := parseMode e
    resZero e [(42, 22), (164, 92)] && c.surgePct ≤ 25 &&
    (m = 2 || (c.surgePct = 0 && c.pumpLimit ≤ 10000 && !c.engineFast)))

/-- HARD_LIMITS (R19, R103). -/
def limitsOk (b : List Byte) : Bool :=
  let l := parseLimits b
  resZero b [(52, 12), (928, 96)] && l.rowCap ≤ 64000000 && l.chipCap ≤ 31200 &&
  (l.rackCap.all (· ≤ l.rowCap)) && l.supplyMin < l.supplyMax && l.waterDayStart ≤ 1439

/-- Payload reserved bits of a schedule entry, by kind, whatever the chapter of the kind checks further (R66, R600). -/
def schedPayloadShape (kind payload : Nat) : Bool :=
  match kind with
  | 0 => bits payload 31 9 = 0 && payload < 2 ^ 64
  | 1 => payload < 4
  | 2 => payload < 65536
  | 3 | 4 => !(bit payload 3) && bits payload 31 21 = 0 && payload < 2 ^ 80
  | 5 => payload % 2 ^ 32 < 64 && bits payload 5 1 < 24 && payload < 2 ^ 64
  | _ => true

/-- SCHEDULE (R67, R102). -/
def scheduleOk (b : List Byte) : Bool :=
  let n := field b 0 9
  let es := (List.range n).map fun k => slice b (8 + 64 * k) 64
  n ≤ 256 && resZero b [(9, 55)] &&
  ((es.map fun e => (parseSched e).actionId).Nodup) &&
  (es.all fun e =>
    let c := parseSched e
    resZero e [(37, 27), (160, 96)] && c.actionId ≠ 0 && c.kind ≤ 5 && c.kind ≠ 2 &&
    (c.kind ≠ 4 || c.lateMode) && (c.repeatS = 0 || between 60 c.repeatS 31536000) &&
    schedPayloadShape c.kind c.payload)

/-- Step 8 for one record (R105, R111 code 13). -/
def rangesOk (top : Topology) (r : ImgRecord) : Bool :=
  r.version = 1 && r.reserved &&
  (match r.type with
   | 1 => topologyOk r.payload
   | 2 => linkOk r.payload
   | 3 => sensorsOk r.payload
   | 4 => actuatorOk top r.payload
   | 5 => ctlOk r.payload
   | 6 => almanacOk r.payload
   | 7 => filtersOk r.index r.payload
   | 8 => graphHeaderOk r.index r.payload
   | 9 => tenantOk r.payload
   | 10 => pagesOk r.payload
   | 11 => maintOk r.payload
   | 12 => modesOk r.payload
   | 13 => limitsOk r.payload
   | 14 => scheduleOk r.payload
   | _ => false)

/-- How many indices a record type has (R4, R85). -/
def typeIndices (type : Nat) : Nat :=
  match type with
  | 2 => 64 | 5 => 512 | 6 | 7 => 12 | 8 => 8 | 9 => 256 | _ => 1

/-- Ordinal of the record of a type and index, or 0xFFFF (R83, R110). -/
def ordinalOf (rs : List ImgRecord) (type index : Nat) : Nat :=
  (rs.findIdx? fun r => r.type = type && r.index = index).getD 0xFFFF

/-- A sensor reference: used, and of the quantity its use requires (R104). -/
def sensorIs (img : Image) (i q : Nat) : Bool :=
  match img.sensors[i]? with
  | some c => c.kind ≠ 0 && c.quantity = q
  | none => false

def loopConfigured (img : Image) (l : Nat) : Bool := (img.topology.loops.getD l {}).configured

/-- The rules of R104 in its order, each with the ordinal shown when it is broken. A rule that no single record
breaks shows 0xFFFF (log entry 12). -/
def crossRules (img : Image) (rs : List ImgRecord) : List (Bool × Nat) :=
  let o := ordinalOf rs
  let top := img.topology
  let loopsOn := (List.range 24).filter (loopConfigured img)
  let isoValves := (List.range 48).filter fun c =>
    let f := (img.valves.getD c {}).function
    f = 1 ∨ f = 2
  let chUsed (c : Nat) : Bool := (img.almanacs.getD c {}).present
  let ctl := (List.range img.loops.length).filter fun i => (img.loops.getD i {}).present
  let outs := (ctl.map fun i => img.loops.getD i {}).filter (fun c => [2, 3, 4, 5].contains c.outKind)
  rs.zipIdx.map (fun r => (decide (r.1.index < typeIndices r.1.type), r.2)) ++
  ([ -- R23, R104: one function for each solenoid channel; the two valves of a loop
    ((loopsOn.flatMap fun l => [(top.loops.getD l {}).supplyValve, (top.loops.getD l {}).returnValve]).Nodup, o 1 0),
    (loopsOn.all fun l =>
      let c := top.loops.getD l {}
      let s := img.valves.getD c.supplyValve {}
      let r := img.valves.getD c.returnValve {}
      s.function = 1 && s.loop = l && r.function = 2 && r.loop = l &&
      isoValves.all fun v => (img.valves.getD v {}).loop ≠ l || v = c.supplyValve || v = c.returnValve, o 1 0),
    (isoValves.all fun v => loopConfigured img (img.valves.getD v {}).loop, o 4 0),
    -- R104: sensors
    (loopsOn.all fun l =>
      let c := top.loops.getD l {}
      sensorIs img c.flow 2 && sensorIs img c.pSupply 1 && sensorIs img c.pReturn 1 && sensorIs img c.tSupply 0 &&
      sensorIs img c.tReturn 0, o 1 0),
    (img.zones.all fun z => !z.enabled || z.sensor.all fun k => k = 0xFF || sensorIs img k 0, o 4 0),
    -- R21, R22: the backup speed outputs and the control valve's analog output
    (top.cvDrive ≠ .analog || (img.aos.getD top.cvAo {}).function = 2, o 4 0),
    ((List.range 4).all fun a =>
      (img.aos.getD a {}).function = (if (img.pumps.getD a {}).present then 1 else 0), o 4 0),
    ((List.range 8).all fun a => (img.aos.getD a {}).function ≠ 2 || (top.cvDrive = .analog && a = top.cvAo), o 4 0),
    -- R104: pools
    (img.pages.poolMax.sum ≤ 32768, o 10 0),
    (img.pages.poolMax.sum ≤ img.limits.rowCap / 2000, 0xFFFF),
    ((List.range 24).all fun l => loopConfigured img l || img.pages.poolMax.getD l 0 = 0, o 10 0),
    ((List.range 24).all fun l => loopConfigured img l || img.limits.rackCap.getD l 0 = 0, o 13 0),
    (((img.tenants.filter (·.enabled)).map (·.minPages)).sum ≤ img.pages.poolMax.sum, 0xFFFF),
    -- R104: control loops
    ((outs.map fun c => (c.outKind, if c.outKind = 5 then 0 else c.outIndex)).Nodup, 0xFFFF) ] : List (Bool × Nat)) ++
  ((List.range 64).filter (fun k => (img.links.getD k {}).present)).map (fun k =>
    let c := img.links.getD k {}
    (loopConfigured img c.loop && c.slots.all fun sl => !sl.present ||
      (sl.floorCap ≤ sl.fallbackCap && sl.fallbackCap ≤ img.limits.chipCap), o 2 k)) ++
  ctl.map (fun i =>
    let c := img.loops.getD i {}
    ((match img.sensors[c.input]? with
      | some sn => sn.kind = 1 || sn.kind = 2 || sn.kind = 5
      | none => false) && !(c.outKind = 4 && c.outIndex = i) &&
      (c.outKind ≠ 3 || (loopConfigured img c.outIndex)) &&
      (c.outKind ≠ 1 || (img.pumps.getD c.outIndex {}).present) &&
      (c.outKind ≠ 2 || (4 ≤ c.outIndex && (img.aos.getD c.outIndex {}).function = 3)) &&
      (c.outKind ≠ 4 || (img.loops.getD c.outIndex {}).present) &&
      (c.outKind ≠ 5 || top.primary = .facilityWater), o 5 i)) ++
  -- R104: every CAN channel that is named has an ALMANAC record
  ([ (img.pumps.all fun p => !p.present || chUsed p.canCh, o 4 0),
    (loopsOn.all fun l => chUsed (top.loops.getD l {}).balCh, o 1 0),
    (top.cvDrive ≠ .can || chUsed top.cvCh, o 1 0),
    (img.sensors.all fun c => c.kind ≠ 5 || chUsed c.canCh, o 3 0) ] : List (Bool × Nat)) ++
  (rs.filter (fun r => r.type = 7)).map (fun r => (chUsed r.index, o 7 r.index)) ++
  (rs.filter (fun r => r.type = 9)).map (fun r => (r.encrypted, o 9 r.index))

/-- Step 9 of R105: the ordinal of the first broken rule. -/
def crossCheck (img : Image) (rs : List ImgRecord) : Option Nat :=
  ((crossRules img rs).find? fun x => !x.1).map (·.2)

/-- What the check of one copy gives (R105, R110). -/
structure CopyCheck where
  reason : Nat
  failRecord : Nat
  seq : Nat
  level : Nat
  image : Option Image
  deriving DecidableEq, Repr

/-- The key can no longer be read when step k of R105 is reached: code 16 at any step. -/
def unreadAt (f : CopyFacts) (k : Nat) : Bool := match f.readError with
  | some n => decide (n ≤ k)
  | none => false

/-- The whole check of a copy in the order of R105. `fw` is the running minor release, `fused` the rollback counter;
`later` gives the first broken rule of the chapters that add rules at step 9 (with its ordinal). A copy whose header
fails step 1 counts as unreadable for SEQ and LEVEL (R110; DESIGN CHOICE, log entry 174). -/
def checkCopy (fw fused : Nat) (later : Image → List ImgRecord → Option Nat) (bs : List Byte)
    (f : CopyFacts) : CopyCheck :=
  let h := parseHeader bs
  let fail (c o : Nat) : CopyCheck := ⟨c, o, if headerCode bs = 0 then h.imageSeq else 0,
    if headerCode bs = 0 then h.level else 0, none⟩
  if unreadAt f 1 then ⟨16, 0xFFFF, 0, 0, none⟩
  else if headerCode bs ≠ 0 then fail (headerCode bs) 0xFFFF
  else if unreadAt f 2 then fail 16 0xFFFF
  else if fw < h.minFw then fail 6 0xFFFF
  else if unreadAt f 3 then fail 16 0xFFFF
  else if !f.ownerKeyOk then fail 7 0xFFFF
  else if unreadAt f 4 then fail 16 0xFFFF
  else if !sigBlockOk bs then fail 8 0xFFFF
  else if chainDepth bs = 1 && !f.certSigOk then fail 8 0xFFFF
  else if unreadAt f 5 then fail 16 0xFFFF
  else if !f.imageSigOk then fail 9 0xFFFF
  else if unreadAt f 6 then fail 16 0xFFFF
  else if h.level < fused ∨ 64 < h.level ∨ signingMax bs < h.level then fail 10 0xFFFF
  else if unreadAt f 7 then fail 16 0xFFFF
  else match framing bs f with
    | (0, _, rs) =>
      let img := buildImage h rs
      if unreadAt f 10 then fail 16 0xFFFF
      else match rs.findIdx? fun r => !rangesOk img.topology r with
      | some i => fail 13 i
      | none => match (List.range 8).find? fun g => !(weightsOk g (img.graphs.getD g {})) with
      | some g => fail 13 (ordinalOf rs 8 g)
      | none => match crossCheck img rs with
        | some i => fail 14 i
        | none => match later img rs with
          | some i => fail 14 i
          | none => match graphRefused f.schedBad img with
            | some g => fail 15 (ordinalOf rs 8 g)
            | none => ⟨0, 0xFFFF, h.imageSeq, h.level, some img⟩
    | (c, o, _) => fail c o

end Sys2Proof.Machine
end

