-- ==== Sys2Proof/Machine/ImageRules.lean ====
section
/-! DEFINITION. The cross-record rules that the chapters after R104 add to step 9 of R105 (code 14). -/

namespace Sys2Proof.Machine

/-- The chain of cascade targets from a loop ends within 4 levels (R293). A disabled loop drives none (DEDUCED, log entry
185). -/
def cascadeEnds (img : Image) : Nat → Nat → Bool
  | 0, _ => false
  | k + 1, i =>
    let c := img.loops.getD i {}
    if ctlOn c && c.outKind = 4 then cascadeEnds img k c.outIndex else true

/-- R292 to R294 and R303 for control loop i. -/
def loopRules (img : Image) (i : Nat) : Bool :=
  let c := img.loops.getD i {}
  let r := spRange img i
  !c.present ||
   (r.1 ≤ c.spConst && c.spConst ≤ r.2 && (!(cascadeTarget img i) || c.spSource = 0) && cascadeEnds img 4 i &&
    (c.outKind ≠ 4 || (let t := spRange img c.outIndex; t.1 ≤ c.outMin && c.outMax ≤ t.2)))

/-- R187: a loop that takes its set-point from the plan has one of the plan's combinations. -/
def planLoopRule (img : Image) (i : Nat) : Bool :=
  let c := img.loops.getD i {}
  let q := (img.sensors.getD c.input {}).quantity
  !c.present || c.spSource ≠ 1 || (c.outKind = 5 && q = 0) || (c.outKind = 3 && (q = 0 || q = 2))

/-- Row supply box of a mode (R185). -/
def supplyBox (img : Image) (m : ModeCfg) : Int × Int :=
  (img.limits.supplyMin + max 0 m.supplyBias, img.limits.supplyMax + min 0 m.supplyBias)

/-- Cells with a transmit object as source in every cycle of a channel (R383). -/
def cellEveryCycle (a : AlmanacCfg) (source : Nat) : Bool :=
  a.present && (List.range 64).all fun y => (List.range 16).any fun j =>
    let c := a.cell.getD (16 * y + j) {}
    c.used && c.source = source

/-- An enabled filter entry could accept an 11-bit identifier of the pump status range (R383, R481). -/
def filterTakesPumpStatus (f : FilterCfg) : Bool :=
  f.enabled && !f.ide && !f.mirror &&
  (List.range 127).any fun k => (0x701 + k) &&& f.mask = f.idMatch &&& f.mask

/-- R383. -/
def pumpRules (img : Image) (p : Nat) : Bool :=
  let c := img.pumps.getD p {}
  !c.present || (cellEveryCycle (img.almanacs.getD c.canCh {}) (512 + p) &&
    (List.range p).all fun q =>
      let d := img.pumps.getD q {}
      !d.present || d.canCh ≠ c.canCh || d.node ≠ c.node)

def pumpChannelRules (img : Image) (ch : Nat) : Bool :=
  (img.almanacs.getD ch {}).cell.all (fun c => !c.used || c.ide || c.canId < 0x701 || 0x77F < c.canId) &&
  !((img.filters.getD ch []).any filterTakesPumpStatus)

/-- R391: bands of a group do not overlap and end at 11,000 or below. -/
def groupRules (g : GroupCfg) : Bool :=
  let on := g.skip.filter fun k => 0 < k.2
  on.all (fun k => k.2 ≤ 11000) &&
  (List.range on.length).all fun i => (List.range i).all fun j =>
    let a := on.getD i (0, 0)
    let b := on.getD j (0, 0)
    a.2 ≤ b.1 || b.2 ≤ a.1

/-- R387: an enabled zone names at least one sensor. -/
def zoneRules (z : ZoneCfg) : Bool := !z.enabled || z.sensor.any (· ≠ 0xFF)

/-- CAN spray valve j exists (R400). -/
def canSprayExists (img : Image) (j : Nat) : Bool :=
  img.almanacs.any fun a => a.present && a.cell.any fun c => c.used && c.source = 516 + j

/-- R400. -/
def canSprayRule (img : Image) (j : Nat) : Bool :=
  let x := img.sensors.getD (240 + j) {}
  !(canSprayExists img j) || (x.kind = 5 && x.quantity = 2)

/-- R426 for bank b. -/
def bankRules (img : Image) (b : Nat) : Bool :=
  let v (c : Nat) := img.valves.getD c {}
  let chs := (List.range 8).map fun i => 8 * b + i
  let used := chs.filter fun c => (v c).function ≠ 0
  let iso := chs.filter fun c => (v c).function = 1 || (v c).function = 2
  let hold := (iso.map fun c => (v c).holdMa).sum
  iso.isEmpty || (hold ≤ 6000 && iso.all (fun c => (v c).peakMa + (hold - (v c).holdMa) ≤ 7500) &&
    used.all (fun c => (v c).peakMs ≤ 40) && (iso.length ≤ 6 || used.all fun c => (v c).peakMs ≤ 25))

/-- A loop code of a leak assignment (R435, R436). -/
def leakCodeOk (img : Image) (c : Nat) : Bool := c = 30 || c = 31 || loopConfigured img c

/-- R436 for sensor i. -/
def leakRules (img : Image) (i : Nat) : Bool :=
  let c := img.sensors.getD i {}
  if c.kind = 3 then
    leakCodeOk img c.leakA && leakCodeOk img c.leakB && (c.leakSplit ≠ 0 || c.leakB = 31) &&
    (c.leakSplit = 0 || decide ((c.leakSplit : Int) < c.scaleHigh))
  else if c.kind = 4 then leakCodeOk img c.leakA && c.leakB = 31 && c.leakSplit = 0
  else true

/-- R438 for loop l. -/
def returnFlowRule (img : Image) (l : Nat) : Bool :=
  let f := (img.topology.loops.getD l {}).flow + 1
  let c := img.sensors.getD f {}
  !(loopConfigured img l) || (c.kind ≠ 0 && c.quantity = 2 &&
    (List.range 24).all fun m => m = l || !(loopConfigured img m) || (img.topology.loops.getD m {}).flow ≠ f)

/-- R463 and the ties of R471 for channel c. -/
def channelRules (img : Image) (c : Nat) : Bool :=
  let a := img.almanacs.getD c {}
  let used := a.cell.filter (·.used)
  (!a.restricted || (used.isEmpty && img.pumps.all fun p => !p.present || p.canCh ≠ c)) &&
  used.all fun x =>
    if x.source < 512 then
      (let l := img.loops.getD x.source {}
       l.present && (l.outKind = 3 || (l.outKind = 5 && img.topology.cvDrive = .can)))
    else if x.source < 516 then (img.pumps.getD (x.source - 512) {}).present else true

/-- CAN-connected valves (R485): channel and node. -/
def canValveNames (img : Image) : List (Nat × Nat) :=
  ((List.range 24).filterMap fun l =>
    let t := img.topology.loops.getD l {}
    if t.configured then some (t.balCh, t.balNode) else none) ++
  (if img.topology.cvDrive = .can then [(img.topology.cvCh, img.topology.cvNode)] else [])

/-- R485. -/
def canValveRules (img : Image) : Bool :=
  (canValveNames img).Nodup && (canValveNames img).all fun v =>
    let a := img.almanacs.getD v.1 {}
    a.present && a.cell.all (fun c => !c.used || c.ide || c.canId < 0x681 || 0x6FF < c.canId) &&
    (img.filters.getD v.1 []).all fun f =>
      f.mirror || (List.range 127).all fun k => !(filterAccepts f false (0x681 + k))

/-- R483 for sensor i. -/
def canSensorRule (img : Image) (i : Nat) : Bool :=
  let c := img.sensors.getD i {}
  c.kind ≠ 5 || (img.filters.getD c.canCh []).any fun f => filterAccepts f c.canIde c.canId

/-- The rules in the order of the chapters, each with the ordinal of the record it names. -/
def laterList (img : Image) (rs : List ImgRecord) : List (Bool × Nat) :=
  let o := ordinalOf rs
  ([ (img.pages.slopeDown ≠ 0 && ceilDiv img.limits.chipCap img.pages.slopeDown ≤ 200, o 10 0) ] : List (Bool × Nat)) ++
  (List.range img.loops.length).map (fun i => (planLoopRule img i, o 5 i)) ++
  ([ (img.modes.modes.all fun m => (supplyBox img m).1 ≤ (supplyBox img m).2, o 12 0) ] : List (Bool × Nat)) ++
  (List.range 8).map (fun k => (graphCrossOk img k, o 8 k)) ++
  ([ (weightRowsOk img.graphs, 0xFFFF) ] : List (Bool × Nat)) ++
  (List.range img.loops.length).map (fun i => (loopRules img i, o 5 i)) ++
  ([ ((classValues img).length ≤ 8, 0xFFFF) ] : List (Bool × Nat)) ++
  (List.range img.pumps.length).map (fun p => (pumpRules img p, o 4 0)) ++
  (List.range 2).map (fun c => (pumpChannelRules img c, o 6 c)) ++
  ([ (img.groups.all groupRules, o 4 0), (img.zones.all zoneRules, o 4 0) ] : List (Bool × Nat)) ++
  (List.range 16).map (fun j => (canSprayRule img j, o 3 0)) ++
  (List.range 6).map (fun b => (bankRules img b, o 4 0)) ++
  (List.range img.sensors.length).map (fun i => (leakRules img i, o 3 0)) ++
  (List.range 24).map (fun l => (returnFlowRule img l, o 1 0)) ++
  (List.range 12).map (fun c => (channelRules img c, o 6 c)) ++
  (List.range img.sensors.length).map (fun i => (canSensorRule img i, o 3 0)) ++
  ([ (canValveRules img, o 1 0) ] : List (Bool × Nat))

def laterRules (img : Image) (rs : List ImgRecord) : Option Nat :=
  ((laterList img rs).find? fun x => !x.1).map (·.2)

end Sys2Proof.Machine
end

