-- ==== Sys2Proof/Machine/Sequencer.lean ====
section
/-! DEFINITION. Frame sequencer: overruns, shedding, safe hold and the clocks (R40 to R54, R74, R637). -/

namespace Sys2Proof.Machine

/-- A client missed its latest completion (R45): its work is abandoned, the counters increment once per frame, the
consecutive count of its phase increments once per frame, and event 0x1020 marks the first frame of a run (R74). -/
def seqOverrun (q : Sequencer) (c : Client) : Sequencer :=
  let phaseFirst := !(q.overran.any fun d => d.phase == c.phase)
  { q with
    overran := c :: q.overran
    clientOver := upd q.clientOver c.index cnt
    phaseOver := if phaseFirst then upd q.phaseOver c.phase.index cnt else q.phaseOver
    consec := if phaseFirst then upd q.consec c.phase.index (fun n => satAdd 8 n 1) else q.consec
    engineConsec := if c = .engine then q.engineConsec + 1 else q.engineConsec
    shedIssued := if c = .engine then false else q.shedIssued
    clean := if q.state = .safeHold then 0 else q.clean }

/-- Applies the overrun of one client; a client that has overrun already in this frame changes nothing. -/
def overrunClient (c : Client) (s : State) : State :=
  if s.seq.overran.contains c then s
  else
    let s1 := { s with seq := seqOverrun s.seq c }
    if s.seq.overPrev.contains c then s1 else post 0x1020 s1 c.index

/-- A client whose power domain is off is not a client (R45): the engine without domain 84, the beacons, the CAN snapshot
and the plant inputs without any of their domains. -/
def clientPowered (c : Client) (s : State) : Bool :=
  let any (lo n : Nat) : Bool := (List.range n).any fun k => domainOn s (lo + k)
  match c with
  | .engine => domainOn s 84
  | .beacon => any 0 64
  | .canSnapshot => any 85 12
  | .plantInput => any 103 15
  | _ => true

/-- The client's clock runs (R53, R637). The engine takes its clock from the PLL of the clock in force (R251). -/
def clockRuns (c : Client) (s : State) : Bool :=
  if c = .engine && s.eng.clock = 2 then s.eng.fastLocked
  else match c.pll with
    | some p => !(s.seq.unlocked.contains p)
    | none => true

/-- A client works in this frame: the module operates, its domain is on, its clock runs, and it has not overrun
(R45, R53, R637). -/
def clientRuns (c : Client) (s : State) : Bool :=
  operating s && clientPowered c s && clockRuns c s && !(s.seq.overran.contains c)

/-- Clients of a phase whose clock stands still and that have not yet been recorded as overrun in this frame (R53,
R637). -/
def stoppedClients (p : Phase) (s : State) : List Client :=
  Client.all.filter fun c =>
    c.phase = p && !(s.seq.overran.contains c) && clientPowered c s && !(clockRuns c s)

/-- The clients of a phase whose clock stands still miss it (R53, R637): recorded as the phase runs, so that a loss of lock
after a client's work, or a relock before the Guard phase, changes nothing. -/
def missStopped (p : Phase) (s : State) : State := (stoppedClients p s).foldl (fun t c => overrunClient c t) s

/-- A phase completed without overrun resets its consecutive count; a completed engine slice resets its own
(R45, R46). -/
def seqEvaluate (q : Sequencer) : Sequencer :=
  let done (p : Phase) : Bool := !(q.overran.any fun d => d.phase == p)
  { q with
    consec := q.consec.mapIdx fun i n =>
      if done (if i = 0 then .ingest else if i = 1 then .compute else if i = 2 then .emit else .guard)
      then 0 else n
    engineConsec := if q.overran.contains .engine then q.engineConsec else 0
    shedIssued := if q.overran.contains .engine then q.shedIssued else false
    clean := if q.state = .safeHold then (if q.overran.isEmpty then q.clean + 1 else 0) else q.clean }

/-- Step 1 of the Guard phase (R42): overruns of the frame are evaluated. -/
def evaluateOverruns (s : State) : State :=
  let s1 := missStopped .guard s
  { s1 with seq := seqEvaluate s1.seq }

/-- A shed request is due: the engine's count stands at 3, 6, 9, 12 or 15 and none was issued for it (R46). -/
def shedDue (q : Sequencer) : Bool :=
  [3, 6, 9, 12, 15].contains q.engineConsec && !q.shedIssued

/-- Safe hold is due at the next boundary (R47). -/
def safeHoldDue (q : Sequencer) : Bool := q.state = .normal && q.consec.any (fun n => 16 ≤ n)

/-- Enters SAFE_HOLD, or HOLD_LOCKED when three entries lie in the last 600 s already (R47). -/
def seqEnterHold (q : Sequencer) : Sequencer :=
  let recent := q.holdEntries.filter fun f => q.frame - f < 6000000
  { q with
    state := if recent.length < 3 then .safeHold else .holdLocked
    holdEntries := q.frame :: recent
    holdCount := cnt q.holdCount
    clean := 0 }

/-- The sequencer in SAFE_HOLD or HOLD_LOCKED (R48). -/
def inHold (s : State) : Bool := s.seq.state != .normal

/-- A frame boundary for the sequencer and the timebase (R40, R44, R54, R55): row time advances by 100 us times
1 + a, or by 100 us in limp mode; the first boundary after READY begins frame 0, each later one increments. -/
def seqBoundary (q : Sequencer) (ready : Bool) (rate : Int) : Sequencer :=
  { q with
    rowT := q.rowT + (if q.backupClock then 1000000000 else (1000000000 + rate).toNat)
    frame := if q.frameValid then q.frame + 1 else 0
    frameValid := q.frameValid || ready
    overPrev := q.overran
    overran := [] }

/-- A PLL loses lock: its clock stops, and event 0x1040 is logged once per loss (R53). -/
def pllLoss (p : Pll) (s : State) : State :=
  if s.seq.unlocked.contains p then s
  else post 0x1040 { s with seq := { s.seq with unlocked := p :: s.seq.unlocked } }

/-- A PLL relocks (R53). The value that the crossing into the analog or the CAN clock holds is delivered once (R51). -/
def pllRelock (p : Pll) (s : State) : State :=
  let s1 := { s with seq := { s.seq with unlocked := s.seq.unlocked.filter (· ≠ p) } }
  if p = .analog then
    { s1 with plant := { s1.plant with aoOut := s1.plant.aoHeld.getD s1.plant.aoOut, aoHeld := none } }
  else if p = .can then
    { s1 with can := { s1.can with force := s1.can.held.getD s1.can.force, held := none } }
  else s1

end Sys2Proof.Machine
end

