-- ==== Sys2Proof/Machine/Engine.lean ====
section
/-! DEFINITION. The bound engine in operation: inputs, slices, publication, the breach checker, shedding, memory
errors, precision runs and the clock (R216, R221 to R223, R236 to R252, R258, R259, R273 to R284). -/

namespace Sys2Proof.Machine

def graphCfg (s : State) (g : Nat) : GraphCfg := s.img.graphs.getD g {}
def graphSt (s : State) (g : Nat) : GraphSt := s.eng.graphs.getD g {}
def updGraph (g : Nat) (f : GraphSt → GraphSt) (s : State) : State :=
  { s with eng := { s.eng with graphs := upd s.eng.graphs g f } }
def engCount (k n : Nat) (s : State) : State :=
  { s with eng := { s.eng with counters := upd s.eng.counters k fun x => satAdd 32 x n } }

/-- Schedule of the clock in force (R33, R278). -/
def schedNow (s : State) (g : Nat) : SliceSched := schedOf (s.eng.clock = 2) (graphCfg s g)

/-- Slice window of the clock in force (R223, R253). -/
def windowCycles (s : State) : Nat := if s.eng.clock = 2 then 49840 else 39872

/-- Shed steps in force shed an owner graph of its priority (R281). -/
def shedNow (s : State) (g : Nat) : Bool := 2 ≤ g && (graphCfg s g).priority < min s.eng.shedSteps 4

/-- A graph's ports may be read by their consumers (R242, R270, R282, R285). -/
def portsAvailable (s : State) (g : Nat) : Bool :=
  let x := graphSt s g
  x.loaded && !x.shed && !x.disabled && x.published

/-- Element i of a port as last published. -/
def portElement (s : State) (g p i : Nat) : Option PortElem :=
  if portsAvailable s g then ((graphSt s g).ports.getD p [])[i]? else none

/-- First port of a role. -/
def portOfRole (s : State) (g role : Nat) : Option Nat := (graphCfg s g).ports.findIdx? fun p => p.role = role

/-- Element i of every port of a role in a graph (R269, R270). -/
def roleElements (s : State) (g role i : Nat) : List PortElem :=
  ((List.range (graphCfg s g).ports.length).filter fun p => ((graphCfg s g).ports.getD p {}).role = role).filterMap
    fun p => portElement s g p i

def roleElement (s : State) (g role i : Nat) : Option PortElem :=
  match portOfRole s g role with
  | some p => portElement s g p i
  | none => none

/-! Inputs (R182, R258, R259). -/

/-- An input bound in counts of the input. The bounds of this section are in units of 2^-32 counts, so that the radius
of R182, which need be no whole count, is taken outward far below the step of bounded binary32. -/
def counts (lo hi : Int) : Option (Int × Int) := some (lo * 2 ^ 32, hi * 2 ^ 32)

def point (x : Int) : Option (Int × Int) := counts x x

/-- Radius of a sensor (R182): its tolerance and 0.5 % of the value for each 100 ms of age. -/
def sensorRadius (s : State) (i : Nat) : Nat :=
  let x := sensor s i
  ceilDiv ((20 * toleranceExact (sensorCfg s i) x.value + x.value.natAbs * since s x.frame) * 2 ^ 32) 200000

/-- Bound of a sensor (R182). -/
def sensorBound (s : State) (i : Nat) : Option (Int × Int) :=
  let x := sensor s i
  let r : Int := sensorRadius s i
  if x.valid then some (x.value * 2 ^ 32 - r, x.value * 2 ^ 32 + r) else none

/-- Bound of a site field (R258, R259). -/
def siteBound (s : State) (i field : Nat) : Option (Int × Int) :=
  let x := siteC s i
  if x.response ≠ .responsive then none
  else match field with
    | 0 => match x.tel.dieTemp with
      | some t => point t
      | none => none
    | 1 => counts ((x.est : Int) - x.guardBand) ((x.est : Int) + x.guardBand)
    | 2 => point x.tel.regPower
    | _ => point (x.tel.act.getD (field - 8) 0 : Nat)

def loopCfg (s : State) (l : Nat) : LoopCfg := s.img.topology.loops.getD l {}

/-- Bound of a loop field: radius 0, and missing where its sensor reads nothing (R259). -/
def loopBound (s : State) (l field : Nat) : Option (Int × Int) :=
  let x := loopP s l
  let c := loopCfg s l
  match field with
  | 0 => point x.floorSum
  | 1 => point x.capSum
  | 2 => point x.pageCapSum
  | 3 => point x.poolForce
  | 4 => (sensorValue s c.flow).bind point
  | 5 => (sensorValue s c.tSupply).bind point
  | 6 => (sensorValue s c.tReturn).bind point
  | 7 => (sensorValue s c.pSupply).bind point
  | _ => (sensorValue s c.pReturn).bind point

/-- Bound of a row field. -/
def rowBound (s : State) (field : Nat) : Option (Int × Int) :=
  match field with
  | 0 => point s.plan.mode.code
  | 1 => point (planDemand s 0)
  | 2 | 3 | 4 => point (planDemand s (field - 1))
  | 5 => point (sprayDuty s)
  | _ => point (waterLeftMl s)

/-- The bound supplied for an input; none is missing (R258, R259). -/
def inputBound (s : State) (vars : List Int) (x : InBound) : Option (Int × Int) :=
  match x.kind with
  | 0 => point x.lo
  | 1 => sensorBound s x.index
  | 2 => siteBound s x.index x.field
  | 3 => loopBound s x.index x.field
  | 4 => rowBound s x.field
  | 5 => match vars[x.index]? with
    | some v => point v
    | none => none
  | _ => match portElement s x.slot x.field x.index with
    | some e => counts e.lo e.hi
    | none => none

/-- An input element and whether it lies inside its declared bound (R216). -/
def inputElement (s : State) (vars : List Int) (x : InBound) : Bnd × Bool :=
  match inputBound s vars x with
  | none => (bndOfEdges ⟨x.lo, x.xExp⟩ ⟨x.hi, x.xExp⟩, true)
  | some (lo, hi) => (bndOfEdges ⟨lo, x.xExp - 32⟩ ⟨hi, x.xExp - 32⟩,
      decide (x.lo * 2 ^ 32 ≤ lo) && decide (hi ≤ x.hi * 2 ^ 32))

/-! Evaluations and slices (R273, R274, R277, R280). -/

/-- Frame offset in a graph's period, and whether its first snapshot frame has come (R274). -/
def periodOffset (s : State) (g : Nat) : Option Nat :=
  let p := (graphCfg s g).period
  let ph := (schedNow s g).phase
  if p = 0 || s.seq.frame < ph then none else some ((s.seq.frame - ph) % p)

def snapshotFrame (s : State) (g : Nat) : Bool := periodOffset s g = some 0

/-- The graph takes part in this frame (R277). -/
def graphRuns (s : State) (g : Nat) : Bool :=
  let x := graphSt s g
  x.loaded && !x.shed && !x.disabled

/-- Stage 4 was restored in the epoch in progress: it begins with the next snapshot frame (R283). -/
def stage4Restored (s : State) (snapshot : Nat) : Bool :=
  match s.eng.lastRestore with
  | some f => s.eng.shedSteps = 4 && decide (snapshot < f) && (match s.eng.lastShed with
      | some k => decide (k < f)
      | none => true)
  | none => false

/-- The slice of a graph in this frame. Stage 4 runs only in Feast and while it is not shed (R273, R281). -/
def sliceNow (s : State) (g : Nat) : Option SliceCfg :=
  match periodOffset s g with
  | none => none
  | some j =>
    match (schedNow s g).slices.find? fun x => x.frame = j with
    | some x => if x.stage = 4 && (s.plan.mode ≠ .feast || 5 ≤ s.eng.shedSteps || stage4Restored s (s.seq.frame - j)) then none
        else some x
    | none => none

/-- Nodes that the slices of a stage work on; every input node belongs to every stage. -/
def stageNode (s : State) (g stage n : Nat) : Bool :=
  let c := schedNow s g
  ((graphCfg s g).nodes.getD n {}).op = 0 || c.slices.any fun x => x.stage = stage &&
    ((c.instrs.drop x.firstInstr).take x.instrN).any fun i => i.node = n

/-- Loops of the present sites, for GATHER_SITE and SCATTER_LOOP (R262). -/
def siteLoops (s : State) : SiteLoops :=
  (List.range (siteCount s)).map fun i => if sitePresent s i then some (siteLoop s i) else none

/-- Opens an evaluation on its inputs, each with whether it lies inside its declared bound: an input outside makes it out of
domain, which is counted and logged (R216). It begins clean but for a graph that reads POISONED (R248, R254). -/
def openEval (g : Nat) (e : Eval) (ins : List (Bnd × Bool)) (s : State) : State :=
  let ood := ins.any fun b => !b.2
  let s1 := updGraph g (fun y => { y with
    eval := some { e with inputs := ins.map (·.1), bad := ins.map (!·.2), outOfDomain := ood, struck := y.poisoned }
    next := y.state, oodEvals := if ood then cnt y.oodEvals else y.oodEvals }) s
  if ood then postEvery 10000 0x6021 (engCount 6 1 s1) g else s1

/-- Begins an evaluation at its snapshot frame: its inputs are latched (R216, R274). A graph that lost its last evaluation
begins with its whole state bounds (R280). -/
def beginEval (g stage : Nat) (vars : List Int) (s : State) : State :=
  let c := graphCfg s g
  let x := graphSt s g
  let snap := s.seq.frame - (periodOffset s g).getD 0
  let e : Eval := { snapshot := snap, stage := stage, level := x.level, inputs := [], outOfDomain := false }
  openEval g e (c.inputs.map (inputElement s vars)) (updGraph g (fun y => { y with
    state := if x.abandoned then initGraphState g c else y.state
    vals := if stage ≤ 1 then [] else y.vals, abandoned := false }) s)

/-- Starts the evaluation that this frame's slice opens. Each stage of slot 0 is one of its own and keeps the
snapshot inputs of the first, with the plan variables of its stage (R273). -/
def startEval (vars : Nat → List Int) (g : Nat) (s : State) : State :=
  if !graphRuns s g then s
  else
    let s1 := if snapshotFrame s g then
        updGraph g (fun y => { y with eval := none, done := if y.eval.isSome then [] else y.done }) s
      else s
    match sliceNow s1 g with
    | none => s1
    | some sl =>
      if snapshotFrame s1 g then beginEval g sl.stage (vars sl.stage) s1
      else match (graphSt s1 g).eval with
        | some e =>
          if e.stage = sl.stage then s1
          else
            let ins := (graphCfg s1 g).inputs.mapIdx fun i b =>
              if b.kind = 5 then inputElement s1 (vars sl.stage) b else (e.inputs.getD i {}, !(e.bad.getD i false))
            openEval g { e with stage := sl.stage } ins s1
        | none => s1

/-- No later slice belongs to the stage of this one. -/
def lastOfStage (s : State) (g : Nat) (sl : SliceCfg) : Bool :=
  !((schedNow s g).slices.any fun x => x.stage = sl.stage && sl.frame < x.frame)

/-- A slice works on a node last among the slices of its stage, so that the node's value stands when it completes; input nodes
are formed in the stage's first slice (R221, R276). -/
def nodeInSlice (s : State) (g : Nat) (sl : SliceCfg) (n : Nat) : Bool :=
  let c := schedNow s g
  let works (x : SliceCfg) : Bool := (sliceInstrs c x).any fun i => i.node = n
  if ((graphCfg s g).nodes.getD n {}).op = 0 then !(c.slices.any fun x => x.stage = sl.stage && x.frame < sl.frame)
  else works sl && !(c.slices.any fun x => x.stage = sl.stage && sl.frame < x.frame && works x)

/-- What the nodes of a slice have computed: values, advanced operator states, and elements that a saturation made INF. -/
structure SliceWork where
  vals : List Stored
  next : List (List Bnd)
  sats : Nat := 0
  deriving DecidableEq, Repr

/-- A node's operand as it stands in operand buffers and scratch (R219, R220). -/
def operand (c : GraphCfg) (vals : List Stored) (nd : NodeCfg) (j : Nat) : List Bnd :=
  match nd.ins.getD j none with
  | some m => loadNode (c.nodes.getD m {}) (vals.getD m {})
  | none => []

/-- Width of the accumulator pairs of a node: that of its first operand (R234). -/
def nodeWidth (c : GraphCfg) (nd : NodeCfg) : Nat :=
  match nd.ins.getD 0 none with
  | some m => laneBits (c.nodes.getD m {})
  | none => 32

/-- One node of a slice. The outputs of an evaluation that is out of domain or that reads a bad word are INF (R216, R247,
R248). -/
def computeNode (s : State) (g : Nat) (e : Eval) (w : SliceWork) (n : Nat) : SliceWork :=
  let c := graphCfg s g
  let nd := c.nodes.getD n {}
  let qp := if g = 0 then (s.plan.snap.bind (·.solver)).map fun v => v.u.map pointOf else none
  let r := nodeValue qp (s.free + n) (nodeWidth c nd) (siteLoops s) e.inputs nd (nodeConst g s.eng.rows c n)
    (operand c w.vals nd 0) (operand c w.vals nd 1) (operand c w.vals nd 2) ((graphSt s g).state.getD n [])
  let out := if e.outOfDomain || e.struck then r.out.map fun b => { b with inf := true } else r.out
  { vals := (w.vals ++ List.replicate (n + 1 - w.vals.length) ({} : Stored)).set n (storeNode nd out r.certain)
    next := (w.next ++ List.replicate (n + 1 - w.next.length) ([] : List Bnd)).set n r.state
    sats := w.sats + r.sats }

/-- A node reads a row with a double-bit error (R247). -/
def readsBadRow (s : State) (g n : Nat) : Bool :=
  (nodeRows (graphCfg s g) n).any fun x => s.eng.badRows.contains (x.1, x.2.1)

/-- A slice whose window completes: the values of its nodes stand (R221, R277). -/
def runSlice (g : Nat) (sl : SliceCfg) (s : State) : State :=
  match (graphSt s g).eval with
  | none => s
  | some e =>
    let ns := (List.range (graphCfg s g).nodes.length).filter (nodeInSlice s g sl)
    let e1 := { e with struck := e.struck || ns.any (readsBadRow s g) }
    let w := ns.foldl (computeNode s g e1) { vals := (graphSt s g).vals, next := (graphSt s g).next }
    let s1 := updGraph g (fun y => { y with eval := some e1, vals := w.vals, next := w.next })
      { s with free := s.free + (graphCfg s g).nodes.length }
    if w.sats ≠ 0 then postEvery 10000 0x6020 (engCount 5 w.sats s1) g else s1

/-- The last slice of an evaluation has completed: its results wait for the next boundary (R236). -/
def finishEval (g : Nat) (sl : SliceCfg) (s : State) : State :=
  match (graphSt s g).eval with
  | none => s
  | some e =>
    let c := graphCfg s g
    let x := graphSt s g
    let all := evalPorts c x.vals e.level (e.outOfDomain || e.struck)
    let ports := (List.range c.ports.length).filterMap fun p =>
      if stageNode s g sl.stage (c.ports.getD p {}).node then some (p, all.getD p []) else none
    let last := g ≠ 0 || !((schedNow s g).slices.any fun x => sl.frame < x.frame)
    updGraph g (fun y => { y with
      done := y.done ++ [{ eval := e, ports := ports, state := y.next }], eval := if last then none else y.eval }) s

/-- Windows of this frame in order, as slot, slice and cycles (R277). -/
def windowsNow (s : State) : List (Nat × SliceCfg) :=
  let owners := sortBy (fun (a b : Nat) =>
    let pa := (graphCfg s a).priority
    let pb := (graphCfg s b).priority
    decide (pb < pa) || (pa = pb && decide (a < b))) [2, 3, 4, 5, 6, 7]
  ([1, 0] ++ owners).filterMap fun g =>
    if graphRuns s g && !(graphSt s g).abandoned && (graphSt s g).eval.isSome then
      (sliceNow s g).map fun sl => (g, sl)
    else none

/-- A graph whose slice has not completed abandons its evaluation (R280). -/
def abandonGraph (g : Nat) (s : State) : State :=
  if (graphSt s g).eval.isNone then s
  else postEvery 10000 0x6052
    (updGraph g (fun y => { y with eval := none, done := [], abandoned := true, lostEvals := cnt y.lostEvals }) s) g

/-- Runs the windows of the frame one after another from cycle `at_`: each lasts its slice's length and the stalls in
it, and completes when it ends by the end of the slice window (R222, R277). -/
def runWindows (stall : Nat → Nat) : List (Nat × SliceCfg) → Nat → State → State
  | [], at_, s => if s.seq.overran.contains .engine then s else { s with eng := { s.eng with sliceCycles := at_ } }
  | (g, sl) :: t, at_, s =>
    let len := sl.len + stall g
    let fin := at_ + len
    if fin ≤ windowCycles s then
      let s1 := runSlice g sl (updGraph g (fun y => { y with lastCycles := len }) s)
      runWindows stall t fin (if lastOfStage s1 g sl then finishEval g sl s1 else s1)
    else
      let s1 := ((g, sl) :: t).foldl (fun u x => abandonGraph x.1 u) s
      overrunClient .engine s1

/-! The breach checker (R238 to R241). -/

/-- Adds a counting check to a breach window of 16 blocks of 62,500 (R240). -/
def windowAddCheck (breach : Bool) (w : List (Nat × Nat)) : List (Nat × Nat) :=
  let b := b2n breach
  match w.reverse with
  | (c, k) :: t => if c < 62500 then ((c + 1, k + b) :: t).reverse else (((1, b) :: (c, k) :: t).take 16).reverse
  | [] => [(1, b)]

def windowChecks (w : List (Nat × Nat)) : Nat := (w.map (·.1)).sum
def windowBreaches (w : List (Nat × Nat)) : Nat := (w.map (·.2)).sum

/-- A check's sample of this frame (R239). -/
def foldCheck (s : State) (p : Pending) : Pending :=
  if p.first ≤ s.seq.frame ∧ s.seq.frame ≤ p.last then
    match sensorValue s p.sensor with
    | none => { p with void := true }
    | some v =>
      { p with min := some (match p.min with
                  | some m => min m v
                  | none => v)
               max := some (match p.max with
                  | some m => max m v
                  | none => v) }
  else p

/-- Counts beyond a bound widened by the sensor's tolerance; positive for a breach (R239, R254). -/
def breachExcess (s : State) (p : Pending) : Int :=
  match p.min, p.max with
  | some a, some b =>
    let c := sensorCfg s p.sensor
    max (p.lo - (tolerance c a : Int) - a) (b - (p.hi + (tolerance c b : Int)))
  | _, _ => 0

/-- Resolves a check whose interval has ended (R239); a check of another level than the graph's is discarded
(R241). -/
def resolveCheck (p : Pending) (s : State) : State :=
  if p.level ≠ (graphSt s p.slot).level || (graphSt s p.slot).disabled then s
  else if p.void || p.inf || p.min.isNone then
    updGraph p.slot (fun y => { y with voidChecks := cnt y.voidChecks }) s
  else
    let x := breachExcess s p
    let br := decide (0 < x)
    let s1 := updGraph p.slot (fun y => { y with
      window := windowAddCheck br y.window, totalChecks := satAdd 64 y.totalChecks 1
      totalBreaches := if br then cnt y.totalBreaches else y.totalBreaches
      lastBreachFrame := if br then s.seq.frame else y.lastBreachFrame
      lastBreachElement := if br then p.element else y.lastBreachElement
      lastBreachExcess := if br then satS 16 x else y.lastBreachExcess }) s
    if br then postEvery 10000 0x6010 s1 p.slot else s1

/-- The pending checks of one level of a graph are discarded (R241). -/
def dropLevel (g d : Nat) (s : State) : State :=
  { s with eng := { s.eng with pending := s.eng.pending.filter fun p => p.slot ≠ g || p.level ≠ d } }

def dropPending (g : Nat) (s : State) : State :=
  { s with eng := { s.eng with pending := s.eng.pending.filter fun p => p.slot ≠ g } }

/-- Loaded graphs with data in a bank. -/
def bankGraphs (s : State) (bank : Nat) : List Nat :=
  (List.range 8).filter fun g => (graphSt s g).loaded && (graphCfg s g).blocks.any fun b => b.bank = bank

/-- Disables a graph (R241, R242, R252). The reload of its banks is cancelled, unless another graph that runs has weights in
the bank (R244, R260). -/
def disableGraph (g : Nat) (s : State) : State :=
  let s1 := dropPending g (updGraph g (fun y => { y with
    disabled := true, eval := none, done := [] }) s)
  { s1 with eng := { s1.eng with
    reload := s1.eng.reload.filter fun b =>
      !((bankGraphs s b).contains g) || (bankGraphs s1 b).any fun h => !(graphSt s1 h).disabled
    precision := match s1.eng.precision with
      | some p => if p.slot = g then none else some p
      | none => none } }

/-- Demotion once per frame and graph when the window's breaches exceed the limit (R241). -/
def demotionStep (s : State) (g : Nat) : State :=
  let x := graphSt s g
  if !x.loaded || x.disabled || windowBreaches x.window ≤ (graphCfg s g).breachLimit then s
  else if x.level < 2 then
    post 0x6011 (dropLevel g x.level (updGraph g (fun y => { y with
      level := y.level + 1, window := [], demotedFrame := s.seq.frame }) s)) g
  else post 0x6012 (updGraph g (fun y => { y with demotedFrame := s.seq.frame }) (disableGraph g s)) g

/-- The checker's work in a frame whose engine slice completed (R239, R241). -/
def checkerFrame (s : State) : State :=
  let ps := s.eng.pending.map (foldCheck s)
  let done := ps.filter fun p => p.last < s.seq.frame
  let rest := ps.filter fun p => s.seq.frame ≤ p.last
  let s1 := done.foldl (fun t p => resolveCheck p t) { s with eng := { s.eng with pending := rest } }
  (List.range 8).foldl demotionStep s1

/-- A frame whose slice was abandoned voids the checks that span it (R239). -/
def checkerLost (s : State) : State :=
  { s with eng := { s.eng with pending := s.eng.pending.map fun p =>
      if p.first ≤ s.seq.frame ∧ s.seq.frame ≤ p.last then { p with void := true } else p } }

/-- Opens the pending checks of a published evaluation (R238); slot 0 opens them for pass 2a only (R273). -/
def openChecks (g : Nat) (e : Eval) (s : State) : State :=
  if g = 0 && e.stage ≠ 3 then s
  else
    let cs := (graphCfg s g).checks
    (List.range cs.length).foldl (fun t i =>
      let c := cs.getD i {}
      let el := ((graphSt t g).ports.getD c.port []).getD c.element { inf := true }
      let first := e.snapshot + c.start
      if t.eng.pending.length < 16384 then
        { t with eng := { t.eng with pending := t.eng.pending ++
          [{ slot := g, element := i, sensor := c.sensor, lo := el.lo, hi := el.hi, inf := el.inf
             level := e.level, first := first, last := first + c.length - 1 }] } }
      else postEvery 10000 0x6013 (engCount 7 1 t)) s

/-- Publishes one completed evaluation (R236): its ports together, its state, and its checks. -/
def publishOne (g : Nat) (d : Completed) (s : State) : State :=
  let blank := List.replicate (graphCfg s g).ports.length ([] : List PortElem)
  let s1 := updGraph g (fun y => { y with
    ports := d.ports.foldl (fun l p => l.set p.1 p.2) (if y.published then y.ports else blank)
    published := true, state := d.state, evals := cnt y.evals, lastPublish := s.seq.frame
    lastSnapshot := d.eval.snapshot, lastInputs := d.eval.inputs }) s
  openChecks g d.eval s1

/-- PORT_PUBLISH (R236) at a frame boundary. -/
def publishPorts (s : State) : State :=
  (List.range 8).foldl (fun t g =>
    let x := graphSt t g
    let t1 := updGraph g (fun y => { y with done := [] }) t
    if x.disabled || x.shed then t1 else x.done.foldl (fun u d => publishOne g d u) t1) s

/-- The engine is clocked: domain 84 is on and a clock is selected. -/
def engineOn (s : State) : Bool := s.eng.clock ≠ 0 && domainOn s 84

/-- ENGINE_SLICE (R277) of one frame. `vars` gives the plan variables of a stage, `stalls` the LPDDR5X stall of each
slot in cycles (R222). An overrun for another cause than the windows leaves the windows that completed (R280). -/
def engineSlice (vars : Nat → List Int) (stalls : List Nat) (s : State) : State :=
  if !engineOn s then s
  else
    let s1 := (List.range 8).foldl (fun t g => startEval vars g t) s
    let ws := windowsNow s1
    let stall (g : Nat) : Nat := stalls.getD g 0
    let s2 := { s1 with eng := { s1.eng with stallCycles := (ws.map fun x => stall x.1).sum } }
    let s3 := runWindows stall ws 0 s2
    if s3.seq.overran.contains .engine then
      checkerLost { s3 with eng := { s3.eng with cleanFrames := 0 } }
    else checkerFrame { s3 with eng := { s3.eng with cleanFrames := cnt s3.eng.cleanFrames } }

/-- The engine's clock stands (R53): no window completes, and every graph with a slice in the frame loses its
evaluation (R280). -/
def engineLost (vars : Nat → List Int) (s : State) : State :=
  let s1 := (List.range 8).foldl (fun t g => startEval vars g t) s
  let s2 := (windowsNow s1).foldl (fun t x => abandonGraph x.1 t) s1
  checkerLost { s2 with eng := { s2.eng with cleanFrames := 0 } }

/-! Shedding (R46, R281 to R283). -/

/-- Shed marks follow the steps in force; a graph newly shed discards its evaluation, a restored one begins with its
whole state bounds (R282, R283). -/
def markShed (s : State) : State :=
  (List.range 8).foldl (fun t g =>
    let now := shedNow t g
    if now = (graphSt t g).shed then t
    else updGraph g (fun y => { y with
      shed := now, eval := none, done := [], abandoned := false
      state := if now then y.state else initGraphState g (graphCfg t g) }) t) s

/-- SHED_REQUEST (R46): the next step is due at the next boundary. -/
def execShedRequest (s : State) : Host.Outcome State Fault Refusal :=
  .next (if Sys2Proof.Machine.shedDue s.seq then
      post 0x1021 { s with
        seq := { s.seq with shedIssued := true, shedCount := cnt s.seq.shedCount }
        eng := { s.eng with shedDue := s.eng.shedDue + 1 } }
    else s)

/-- SHED_STEP (R281 to R283) at a frame boundary. A request beyond step 5 changes nothing. -/
def shedStep (s : State) : State :=
  if s.eng.shedDue = 0 then s
  else if 5 ≤ s.eng.shedSteps then { s with eng := { s.eng with shedDue := 0 } }
  else
    let n := s.seq.frame
    let soon := match s.eng.lastRestore with
      | some f => decide (n < f + 6000000)
      | none => false
    let quiet := match s.eng.lastShed with
      | some f => decide (f + 6000000 ≤ n)
      | none => false
    let base := if quiet then 10000 else s.eng.restoreNeed
    let s1 := { s with eng := { s.eng with
      shedDue := s.eng.shedDue - 1, shedSteps := s.eng.shedSteps + 1, shedCount := cnt s.eng.shedCount
      lastShed := some n, cleanFrames := 0, restoreNeed := if soon then min 1280000 (2 * base) else base } }
    post 0x6050 (markShed s1) s1.eng.shedSteps

/-- RESTORE_NEED returns to 10,000 after 600 s without a shed (R283). -/
def shedQuiet (s : State) : State :=
  match s.eng.lastShed with
  | some f => if f + 6000000 ≤ s.seq.frame then { s with eng := { s.eng with restoreNeed := 10000 } } else s
  | none => s

/-- SHED_RESTORE (R283). -/
def execShedRestore (s : State) : Host.Outcome State Fault Refusal :=
  .next (if s.eng.shedSteps ≠ 0 && s.eng.restoreNeed ≤ s.eng.cleanFrames then
      let step := s.eng.shedSteps
      let s1 := { s with eng := { s.eng with
        shedSteps := step - 1, cleanFrames := 0, restoreCount := cnt s.eng.restoreCount
        lastRestore := some s.seq.frame } }
      post 0x6051 (markShed s1) step
    else s)

/-! Memory errors (R245 to R248). -/

/-- A graph that is not loaded (R129, R247). -/
def unloadGraph (g : Nat) (s : State) : State :=
  let s1 := dropPending g (updGraph g (fun y => { y with loaded := false, eval := none, done := [], poisoned := false }) s)
  { s1 with pow := { s1.pow with graphNotLoaded := s1.pow.graphNotLoaded.set g true } }

/-- A bank group fails with reason 6: its graphs are not loaded (R247, R129). -/
def failBank (bank : Nat) (s : State) : State :=
  let k := bank / 4
  let gs := (List.range 8).filter fun g => (graphSt s g).loaded && (graphBanks (graphCfg s g)).contains k
  let s1 := setDomain (64 + k) (fun d => { d with state := .failed, failReason := 6 }) s
  let s2 := { s1 with
    pow := { s1.pow with bankGroupFail := s1.pow.bankGroupFail.set k true }
    eng := { s1.eng with reload := s1.eng.reload.filter fun b => b / 4 ≠ k } }
  post 0x6005 (gs.foldl (fun t g => unloadGraph g t) s2) k

/-- SINGLE_BIT_ERROR (R245). -/
def execSingleBitError (scratch : Bool) (s : State) : Host.Outcome State Fault Refusal :=
  .next (postEvery 10000 0x6001 (engCount (b2n scratch) 1 s))

def noteDbe (k : Nat) (s : State) : State :=
  let s1 := engCount k 1 s
  { s1 with eng := { s1.eng with lastDbe := s.seq.frame % 4294967296 } }

/-- Evaluations in progress that a double-bit error strikes give INF outputs (R247, R248). -/
def strikeGraph (g : Nat) (s : State) : State :=
  updGraph g (fun y => { y with eval := y.eval.map fun e => { e with struck := true } }) s

/-- LPDDR5X is trained and filled (R127). -/
def lpddrOk (s : State) : Bool := s.pow.ddrOk

/-- Loaded graphs whose weight or exponent rows include a row of a bank (R247, R260). -/
def rowGraphs (s : State) (bank row : Nat) : List Nat :=
  (List.range 8).filter fun g => (graphSt s g).loaded && (graphCfg s g).blocks.any fun b =>
    b.bank = bank && b.firstRow ≤ row && row < b.firstRow + b.rows

/-- WEIGHT_DOUBLE_BIT_ERROR in a weight or exponent row (R247): the graph whose row it is reads POISONED, and an evaluation in
progress that has yet to read the row gives INF. -/
def execWeightDoubleBitError (place : RowPlace) (s : State) : Host.Outcome State Fault Refusal :=
  let bank := place.bank
  let row := place.row
  let again := s.eng.bankDbe.any fun x => x.1 = bank && s.seq.frame < x.2 + 6000000
  let gs := rowGraphs s bank row
  let s1 := gs.foldl (fun t g => updGraph g (fun y => { y with poisoned := true }) t) (noteDbe 2 s)
  let s2 := { s1 with eng := { s1.eng with
    badRows := (bank, row) :: s1.eng.badRows.filter (· ≠ (bank, row))
    bankDbe := (bank, s.seq.frame) :: s1.eng.bankDbe.filter fun x => x.1 ≠ bank } }
  let s3 := post 0x6002 s2 bank
  .next (if again || !lpddrOk s then failBank bank s3
    else if gs.any fun g => !(graphSt s g).disabled then
      { s3 with eng := { s3.eng with reload := bank :: s3.eng.reload.filter (· ≠ bank) } }
    else s3)

/-- A bank's rows as the payloads in LPDDR5X give them (R246, R247). -/
def reloadRows (s : State) (bank : Nat) : List BankRow :=
  (s.eng.rows.filter fun x => x.bank ≠ bank) ++
    (bankGraphs s bank).flatMap fun g => (graphRows (graphCfg s g)).filter fun x => x.bank = bank

/-- WEIGHT_RELOAD_COMPLETE (R247): `hashOk` tells that the payload in LPDDR5X gave the SHA-384 held for it (R246). -/
def execWeightReloadComplete (bank : Nat) (hashOk : Bool) (s : State) : Host.Outcome State Fault Refusal :=
  .next (if !(s.eng.reload.contains bank) then s
    else if !hashOk || !lpddrOk s then failBank bank s
    else
      let s1 := engCount 4 1 { s with eng := { s.eng with
        reload := s.eng.reload.filter (· ≠ bank), rows := reloadRows s bank
        badRows := s.eng.badRows.filter fun x => x.1 ≠ bank } }
      let clean (g : Nat) : Bool := !((graphCfg s1 g).blocks.any fun b => s1.eng.reload.contains b.bank)
      let s2 := ((bankGraphs s1 bank).filter clean).foldl
        (fun t g => updGraph g (fun y => { y with poisoned := y.scrubEnd.isSome }) t) s1
      post 0x6004 s2 bank)

/-- SCRATCH_DOUBLE_BIT_ERROR (R248): `state` tells that the word held operator state of `node`. -/
def execScratchDoubleBitError (slot node : Nat) (state : Bool) (s : State) : Host.Outcome State Fault Refusal :=
  let c := graphCfg s slot
  let s1 := strikeGraph slot (noteDbe 3 s)
  let whole := initNodeState (c.nodes.getD node {}) (nodeConst slot [] c node)
  let s2 := if state then updGraph slot (fun y => { y with
      state := y.state.set node whole, next := y.next.set node whole
      done := y.done.map fun d => { d with state := d.state.set node whole } }) s1 else s1
  .next (post 0x6003 s2 slot)

/-- ECC_SCRUB (R245): a pass ends every 128 frames; a full scrub that a precision run asked for clears POISONED
(R252, R254). -/
def scrubFrame (s : State) : State :=
  if !engineOn s then s
  else
    let s1 := if s.seq.frame % 128 = 127 then engCount 8 1 s else s
    let ends (y : GraphSt) : Bool := match y.scrubEnd with
      | some f => decide (f ≤ s.seq.frame)
      | none => false
    let done := (List.range 8).filter fun g => ends (graphSt s1 g)
    done.foldl (fun t g =>
      let busy := (graphCfg t g).blocks.any fun b => t.eng.reload.contains b.bank
      updGraph g (fun y => { y with scrubEnd := none, poisoned := busy }) t) s1

/-! Precision runs (R252). -/

/-- Own check of PRECISION_RUN: BUSY is code 7, STATE code 2, RANGE code 3 (R587). -/
def precisionCheck (s : State) (slot : Nat) : Nat :=
  if 8 ≤ slot then 3
  else if s.eng.precision.isSome || (lpddrOk s && !s.pow.upperFill) then 7
  else if !lpddrOk s || !graphRuns s slot || !(graphSt s slot).published then 2 else 0

def applyPrecision (slot : Nat) (s : State) : State :=
  let x := graphSt s slot
  { s with eng := { s.eng with precision := some { slot, snapshot := x.lastSnapshot, inputs := x.lastInputs, edges := x.ports } } }

/-- Two bounds of one exact value, in counts, that share no point. -/
def disjointEdges (e : PortElem) (r : Int × Int) : Bool := !e.inf && (decide (r.2 < e.lo0) || decide (e.hi0 < r.1))

/-- An empty intersection (R252): the graph reads POISONED, so the evaluation in progress gives INF outputs as well (R254). A
second case within 600 s disables every graph. -/
def precisionEmpty (slot : Nat) (s : State) : State :=
  let again := match s.eng.lastEmpty with
    | some f => decide (s.seq.frame < f + 6000000)
    | none => false
  let s1 := strikeGraph slot (updGraph slot (fun y => { y with poisoned := true, scrubEnd := some (s.seq.frame + 128) }) s)
  let s2 := post 0x6040 { s1 with eng := { s1.eng with lastEmpty := some s.seq.frame } } slot
  if again then
    (List.range 8).foldl (fun t g => disableGraph g t)
      { s2 with eng := { s2.eng with distrusted := true } }
  else s2

/-- PRECISION_RUN_COMPLETE (R252): `result` holds each port's Q16 edges in counts. -/
def execPrecisionRunComplete (result : List (List (Int × Int))) (s : State) : Host.Outcome State Fault Refusal :=
  .next (match s.eng.precision with
    | none => s
    | some p =>
      let s1 := post 0x6041 { s with eng := { s.eng with
        precision := none, precisionResult := result } } p.slot
      let empty := (List.zip p.edges result).any fun x => (List.zip x.1 x.2).any fun y => disjointEdges y.1 y.2
      if empty then precisionEmpty p.slot s1 else s1)

/-! The engine clock (R31 to R33, R251). -/

/-- Junction readings of the frame (R251). -/
def junctionSample (s : State) : State :=
  match s.thermal.engineJunction with
  | none => s
  | some t => { s with eng := { s.eng with
      junctionHot := s.eng.junctionHot || decide (6720 < t)
      junctionLast := if 6080 < t then some s.seq.frame else s.eng.junctionLast } }

/-- Frames of a counted run that lie in the 600 s that end with frame `n`. -/
def runInWindow (n : Nat) (r : Nat × Nat) : Nat := r.1 + r.2 - max r.1 (n + 1 - 6000000)

/-- 1.25 GHz operation counted in the last 600 s, in frames (R32). -/
def clockUsed (s : State) : Nat := (s.plan.clockUse.map (runInWindow s.seq.frame)).sum

/-- Frame `n` joins the counted runs; runs that have left the window are dropped. -/
def countClock (n : Nat) (l : List (Nat × Nat)) : List (Nat × Nat) :=
  let l1 := l.filter fun r => 0 < runInWindow n r
  match l1 with
  | r :: rest => if r.1 + r.2 = n then (r.1, r.2 + 1) :: rest else (n, 1) :: l1
  | [] => [(n, 1)]

/-- One frame of the count of R32: it runs above 40.0 C and stops at 39.5 C. While the sensor has no reading the count goes
on as it stood (DESIGN CHOICE, log entry 169). -/
def clockFrame (s : State) : State :=
  let counts := match s.thermal.inlet with
    | some t => if 2560 < t then true else if t ≤ 2528 then false else s.plan.clockCounts
    | none => s.plan.clockCounts
  { s with plan := { s.plan with
    clockCounts := counts
    clockUse := if counts && s.eng.clock = 2 then countClock s.seq.frame s.plan.clockUse else s.plan.clockUse } }

/-- A mode asks for 1.25 GHz (R31). -/
def fastWanted (s : State) (m : RowMode) : Bool := m = .feast && (s.img.modes.modes.getD m.code {}).engineFast

/-- The limit of R31 and R32 allows 1.25 GHz; it binds only while the count runs. -/
def clockAllowed (s : State) : Bool :=
  if s.plan.clockLimited then decide (clockUsed s ≤ 600000)
  else !s.plan.clockCounts || decide (clockUsed s < 1200000)

/-- A refusal of 1.25 GHz holds (R251). -/
def fastRefusal (s : State) : Bool :=
  let cool := match s.eng.junctionLast with
    | some f => decide (f + 10000 ≤ s.seq.frame)
    | none => true
  !s.eng.fastLocked || s.eng.junctionHot || (s.eng.fastRefused && !cool)

/-- ENGINE_CLOCK_SWITCH for the plan epoch that begins next, in mode `m` (R33, R251). A refusal stands for 1.25 GHz that
the limit of R31 would allow. -/
def clockSwitch (m : RowMode) (s : State) : State :=
  if !engineOn s then s
  else
    let allowed := clockAllowed s
    let refuse := fastRefusal s
    let want := fastWanted s m && allowed
    let fast := want && !refuse
    let s1 := { s with
      plan := { s.plan with clockLimited := !allowed }
      eng := { s.eng with junctionHot := false
                          fastRefused := if want then refuse else s.eng.fastRefused && refuse } }
    let s2 := if want && refuse && !s.eng.fastRefused then post 0x6031 s1 else s1
    let c := if fast then 2 else 1
    if c = s.eng.clock then s2
    else post 0x6030 (engCount 9 1 { s2 with eng := { s2.eng with clock := c } })

/-- Loads the graphs of the selected image (R127 to R129); levels and disabled states kept over a warm reset come from
`keep` (R141, R243); a distrusted engine disables every graph until a power-on reset (R252). The rows of the graphs that load go to their banks (R225, R260), and LPDDR5X holds the payloads with
their hashes (R246). -/
def loadGraphs (keep : List GraphSt) (s : State) : State :=
  let f := fun (g : Nat) =>
    let c := graphCfg s g
    let k := keep.getD g {}
    let ok := c.present && !(s.pow.graphNotLoaded.getD g false) && (graphBanks c).all fun b => domainOn s (64 + b)
    ({ loaded := ok, level := k.level, disabled := k.disabled || s.eng.distrusted, demotedFrame := k.demotedFrame
       state := initGraphState g c } : GraphSt)
  let gs := (List.range 8).map f
  { s with eng := { s.eng with
    graphs := gs, badRows := []
    rows := (List.range 8).flatMap fun g => if (gs.getD g {}).loaded then graphRows (graphCfg s g) else []
    payloadSha := (List.range 8).map fun g => Config.sha384 (graphCfg s g).payload } }

end Sys2Proof.Machine
end

