-- ==== Sys2Proof/Machine/Leak.lean ====
section
/-! DEFINITION. Leak detection and isolation (R434 to R460). -/

namespace Sys2Proof.Machine

def leakIn (s : State) (i : Nat) : LeakInput := s.leak.inputs.getD i {}
def leakLoop (s : State) (l : Nat) : LoopLeak := s.leak.loops.getD l {}
def updLeakIn (i : Nat) (f : LeakInput → LeakInput) (s : State) : State :=
  { s with leak := { s.leak with inputs := upd s.leak.inputs i f } }
def updLeak (l : Nat) (f : LoopLeak → LoopLeak) (s : State) : State :=
  { s with leak := { s.leak with loops := upd s.leak.loops l f } }
def leakCount (k : Nat) (s : State) : State :=
  { s with leak := { s.leak with counters := upd s.leak.counters k cnt } }

/-- Sensor number of a leak input (R90): ropes are 80 to 95, floats 96 to 103. -/
def leakSensor (i : Nat) : Nat := 80 + i

def leakCfg (s : State) (i : Nat) : SensorCfg := sensorCfg s (leakSensor i)

/-- The input is used (R90, R435). -/
def leakUsed (s : State) (i : Nat) : Bool := (leakCfg s i).kind = (if i < 16 then 3 else 4)

def leakLoops (s : State) : List Nat := (List.range 24).filter fun l => loopConfigured s.img l

/-! Readings (R434, R626). -/

def ropeBand (ua ohm : Nat) : LeakBand :=
  if 2000 < ua ∨ 2000 < ohm then .fault else if 25 < ua then .wet else if ua < 10 then .dry else .between

def floatBand (ohm : Nat) : LeakBand :=
  if ohm < 200 ∨ 20000 < ohm then .fault
  else if 600 ≤ ohm ∧ ohm ≤ 1200 then .wet
  else if 3800 ≤ ohm ∧ ohm ≤ 5600 then .dry else .between

/-- An input whose front end cannot read it reads FAULT: its group is off, its ADC is out of limit, or for a rope its
excitation is (R125). -/
def leakBand (s : State) (i : Nat) (r : LeakReadings) : LeakBand :=
  let g := (leakCfg s i).afe
  if !(adcValid s g) || (i < 16 && !(afeValid s g 4)) then .fault
  else if i < 16 then (let p := r.ropes.getD i (0, 0); ropeBand p.1 p.2)
  else floatBand (r.floats.getD (i - 16) 4700)

/-- The counts of one frame (R434). -/
def leakCountBand (n : Nat) (b : LeakBand) (x : LeakInput) : LeakInput :=
  match b with
  | .wet => { x with wetStart := if x.wetRun = 0 then n else x.wetStart, wetRun := x.wetRun + 1, dryRun := 0
                     faultRun := 0, wholeRun := x.wholeRun + 1 }
  | .dry => { x with wetRun := 0, dryRun := x.dryRun + 1, faultRun := 0, wholeRun := x.wholeRun + 1 }
  | .fault => { x with wetRun := 0, dryRun := 0, faultRun := x.faultRun + 1, wholeRun := 0 }
  | .between => { x with dryRun := 0, wholeRun := x.wholeRun + 1 }

/-- Sampling of the ropes, floats and the ring in the Ingest phase. The ring is sensed while the own contact is
closed and the bypass open (R452). -/
def sampleLeak (r : LeakReadings) (s : State) : State :=
  let one := fun (t : State) (i : Nat) =>
    if leakUsed t i then
      updLeakIn i (fun x =>
        { leakCountBand t.seq.frame (leakBand t i r) x with
          leakUa := if i < 16 then (r.ropes.getD i (0, 0)).1 else 0 }) t
    else t
  let s1 := (List.range 24).foldl one s
  let sense := s.pow.ownContactClosed && !s.pow.bypassClosed
  { s1 with leak := { s1.leak with
      ringUa := r.ringUa
      ringOpenRun := if sense && decide (r.ringUa < 1000) then s1.leak.ringOpenRun + 1 else 0
      ringClosedRun := if sense && decide (3000 < r.ringUa) then s1.leak.ringClosedRun + 1 else 0 } }

/-! Sides (R437). -/

/-- The sides that a contact at x gives, and NEAR_SPLIT. -/
def ropeSides (c : SensorCfg) (x : Nat) : Bool × Bool × Bool :=
  if c.leakSplit = 0 then (true, false, false)
  else
    let near := decide (((x : Int) - c.leakSplit).natAbs * 100 ≤ c.scaleHigh.natAbs + 500)
    (near || decide (x < c.leakSplit), near || decide (c.leakSplit ≤ x), near)

/-- A self-test of the input runs: it confirms nothing until the test ends (R576). -/
def underTest (s : State) (i : Nat) : Bool :=
  (holding s).any fun a => a.code = 3 && a.target % 256 = leakSensor i

/-- Takes a measured location of a WET rope: sides are added, never taken away, and NEAR_SPLIT stands with them. -/
def locate (i x : Nat) (s : State) : State :=
  let (a, b, near) := ropeSides (leakCfg s i) x
  updLeakIn i (fun y => { y with sideA := y.sideA || a, sideB := y.sideB || b, nearSplit := y.nearSplit || near, location := x
                                 measured := s.seq.frame }) s

/-- WET is declared. -/
def declareWet (i x : Nat) (s : State) : State :=
  let s1 := updLeakIn i (fun y => { y with state := .wet, contacts := cnt y.contacts, lastWet := s.seq.frame
                                           sideA := i ≥ 16 || y.sideA }) s
  if i < 16 then post 0xB001 (leakCount 0 (locate i x s1)) i 0xFFFF (leBytes 2 x)
  else post 0xB010 (leakCount 1 s1) (i - 16)

/-- LEAK_INPUT_STATE (R434): the input is declared `state` once its count is full. `x` is the located contact of a
rope in 0.1 m. A rope that comes back from FAULT keeps the sides it confirmed while it was WET. -/
def execLeakInputState (input : Nat) (state : LeakInState) (x : Nat) (s : State) : Host.Outcome State Fault Refusal :=
  let y := leakIn s input
  let n := if input < 16 then input else input - 16
  let rope := decide (input < 16)
  .next (if !(leakUsed s input) || y.state = state then s
    else
      match state with
      | .wet =>
        if (if rope then 5 else 10) ≤ y.wetRun then
          declareWet input x (if y.state = .fault then post (if rope then 0xB004 else 0xB013) s n else s)
        else s
      | .dry =>
        if 10000 ≤ y.dryRun || (y.state = .fault && 10000 ≤ y.wholeRun && y.wetRun = 0) then
          post (if y.state = .fault then (if rope then 0xB004 else 0xB013) else if rope then 0xB002 else 0xB011)
            (updLeakIn input (fun z => { z with
              state := .dry, sideA := z.state = .fault && z.sideA, sideB := z.state = .fault && z.sideB
              nearSplit := z.state = .fault && z.nearSplit, location := 0xFFFF }) s) n
        else s
      | .fault =>
        if 100 ≤ y.faultRun then
          post (if rope then 0xB003 else 0xB012)
            (updLeakIn input (fun z => { z with state := .fault, location := 0xFFFF }) s) n
        else s)

/-- ROPE_LOCATION (R437): once per second while the rope stays WET. -/
def execRopeLocation (rope x : Nat) (s : State) : Host.Outcome State Fault Refusal :=
  let y := leakIn s rope
  .next (if rope < 16 && y.state = .wet && y.measured + 10000 ≤ s.seq.frame then locate rope x s else s)

/-! Isolation channels. -/

def isoChs (s : State) (l : Nat) : List Nat := [(loopCfg s l).supplyValve, (loopCfg s l).returnValve]

/-- Both isolation channels are released, or both energised (R441, R442). -/
def isoReleased (s : State) (l : Nat) : Bool := (isoChs s l).all fun c => !(inCurrent (vch s c).drive)

def isoEnergised (s : State) (l : Nat) : Bool := (isoChs s l).all fun c => inCurrent (vch s c).drive

/-- A drain or fill runs on the loop (R441). -/
def drainFill (s : State) (l : Nat) : Bool :=
  (List.range 4).any fun k => (activity s k).state = .running && ((activity s k).code = 4 || (activity s k).code = 5) &&
    (activity s k).target % 32 = l

/-! Mass balance (R438 to R441). -/

/-- v that makes the threshold equal its maximum (R441). -/
def startVar (c : LoopCfg) (top : Nat) : F32 :=
  let x := f32Div (f32OfInt (16 * top)) (f32OfInt c.leakK)
  f32Mul x x

/-- thr from v (R439). -/
def leakThr (c : LoopCfg) (v : F32) (lo hi : Nat) : F32 :=
  let t := f32Mul (f32Div (f32OfInt c.leakK) (f32OfInt 16)) (f32Sqrt v)
  let a := f32OfInt lo
  let b := f32OfInt hi
  if f32Lt t a then a else if f32Lt b t then b else t

/-- The mass balance restarts (R441). Its threshold then stands at MB_MAX; event 0xB022 is the adaptation stage's (R439). -/
def restartBalance (l : Nat) (s : State) : State :=
  let c := loopCfg s l
  updLeak l (fun x => { x with
    stat := 0, run := 0, mbConfirmed := false, mean := none, var := startVar c c.mbMax
    thr := f32OfInt c.mbMax, thrAtMax := true, holdUntil := some (s.seq.frame + 100000) }) s

/-- At READY (R441, R442). -/
def startLeak (s : State) : State :=
  (leakLoops s).foldl (fun t l =>
    let c := loopCfg t l
    updLeak l (fun x => { x with base := 0, decayVar := startVar c c.decayMax, decayThr := f32OfInt c.decayMax })
      (restartBalance l t)) s

/-- The residual of one frame (R438); none with a missing reading. -/
def residual (s : State) (l : Nat) : Option F32 :=
  let c := loopCfg s l
  match sensorValue s c.flow, sensorValue s (c.flow + 1), sensorValue s c.tSupply, sensorValue s c.tReturn with
  | some qs, some qr, some ts, some tr =>
    let e := f32Div (f32Mul (f32OfRatio 4 10000) (f32OfInt (tr - ts))) (f32OfInt 64)
    some (f32Sub (f32OfInt qs) (f32Mul (f32OfInt qr) (f32Sub (f32OfInt 1) e)))
  | _, _, _, _ => none

/-- The mass balance of the loop runs (R441). -/
def balanceRuns (s : State) (l : Nat) : Bool :=
  isoReleased s l && !(drainFill s l) && (leakLoop s l).holdUntil.isNone

/-- Confirmation by a means: its event once per run, and its counter. -/
def confirmMeans (l counter code : Nat) (s : State) : State := post code (leakCount counter s) l

/-- MASS_BALANCE_EVAL (R440) at the end of a ms that is not void. -/
def balanceEval (l : Nat) (m : F32) (s : State) : State :=
  let x := leakLoop s l
  let r := f32Sub m x.base
  let v := f32Sub (f32Add x.stat r) (f32Div x.thr (f32OfInt 2))
  let st := if f32Lt 0 v then v else 0
  let run := if f32Lt 0 st then x.run + 1 else 0
  let hit := decide (2000 ≤ run) && f32Le (f32Mul (f32OfInt 10000) x.thr) st
  let s1 := updLeak l (fun y => { y with resid := r, stat := st, run := run, mean := some m
                                         mbConfirmed := decide (0 < run) && (x.mbConfirmed || hit) }) s
  if hit && !x.mbConfirmed then confirmMeans l 2 0xB020 s1 else s1

/-- The residual of a frame joins the ms in progress (R438); a missing reading makes the ms void and the mass balance
unavailable, event 0xB021 (R441). -/
def residualFrame (s : State) (l : Nat) : State :=
  match residual s l with
  | some v => updLeak l (fun y => { y with raws := v :: y.raws, mean := none }) s
  | none => updLeak l (fun y => { y with raws := [], mean := none }) (postRun 0xB021 s l)

/-- The mass balance of a loop in one frame. The residual is formed in every frame; S, b and v hold in SAFE_HOLD and
HOLD_LOCKED (R444), and S is 0 while the mass balance does not run (R441). -/
def balanceFrame (s : State) (l : Nat) : State :=
  let s1 := residualFrame s l
  let raws := (leakLoop s1 l).raws
  let ends := decide (s.seq.frame % 10 = 9)
  let s2 := if ends then updLeak l (fun y => { y with raws := [] }) s1 else s1
  if s.seq.state ≠ .normal then updLeak l (fun y => { y with mbActive := false }) s2
  else if !(balanceRuns s l) then
    updLeak l (fun y => { y with stat := 0, run := 0, mbConfirmed := false, mbActive := false }) s2
  else
    let s3 := updLeak l (fun y => { y with mbActive := (residual s l).isSome }) s2
    if ends && raws.length = 10 then balanceEval l (f32Div (f32Sum raws.reverse) (f32OfInt 10)) s3 else s3

/-- Adaptation of b, v and thr after a ms that is not void (R439). -/
def balanceAdapt (s : State) (l : Nat) : State :=
  let x := leakLoop s l
  let c := loopCfg s l
  match x.mean with
  | none => s
  | some m =>
    let r := x.resid
    let b := if f32Lt r (f32Div x.thr (f32OfInt 2)) && f32View x.stat = f32View 0 then
        f32Add x.base (f32Div (f32Sub m x.base) (f32OfInt 65536))
      else x.base
    let rr := f32Mul r r
    let g := if f32Lt x.var rr then f32OfRatio 1 1024 else f32OfRatio 1 65536
    let v := if f32Lt r x.thr then f32Add x.var (f32Mul (f32Sub rr x.var) g) else x.var
    let t := leakThr c v c.mbMin c.mbMax
    let top := decide (t = f32OfInt c.mbMax)
    let s1 := updLeak l (fun y => { y with base := b, var := v, thr := t, thrAtMax := top, mean := none }) s
    if top then postRun 0xB022 s1 l else s1

/-- MASS_BALANCE_HOLDOFF_END (R441): 10 s after READY or after a release. -/
def execMassBalanceHoldoffEnd (loop : Nat) (s : State) : Host.Outcome State Fault Refusal :=
  .next (match (leakLoop s loop).holdUntil with
    | some f => if f ≤ s.seq.frame then updLeak loop (fun y => { y with holdUntil := none }) s else s
    | none => s)

/-! Pressure decay (R442). -/

/-- Collects the pressures of a frame. The time both channels have been energised is counted in every state; in SAFE_HOLD
and HOLD_LOCKED the rest holds (R444) and the second in progress is void. -/
def decayFrame (s : State) (l : Nat) : State :=
  let x := leakLoop s l
  let c := loopCfg s l
  if !(isoEnergised s l) then
    updLeak l (fun y => { y with closedSince := none, decayActive := false, pSum := 0, pCount := 0, pVoid := false
                                 pVals := [], decayRun := 0, decayConfirmed := false }) s
  else
    let f := x.closedSince.getD s.seq.frame
    let on := decide (f + 300000 ≤ s.seq.frame) && !(drainFill s l)
    if s.seq.state ≠ .normal then
      updLeak l (fun y => { y with closedSince := some f, pVoid := y.pVoid || decide (0 < y.pCount) }) s
    else
    let s1 := updLeak l (fun y => { y with closedSince := some f, decayActive := on }) s
    if !on then
      updLeak l (fun y => { y with pSum := 0, pCount := 0, pVoid := false, pVals := [], decayRun := 0
                                   decayConfirmed := false }) s1
    else
      let s2 := if x.decayActive then s1
        else updLeak l (fun y => { y with decayVar := startVar c c.decayMax, decayThr := f32OfInt c.decayMax, sec := 0 }) s1
      if 10000 ≤ (leakLoop s2 l).pCount then s2
      else
        match sensorValue s c.pSupply, sensorValue s c.pReturn with
        | some a, some b => updLeak l (fun y => { y with pSum := y.pSum + a + b, pCount := y.pCount + 1 }) s2
        | _, _ => updLeak l (fun y => { y with pCount := y.pCount + 1, pVoid := true }) s2

/-- Negative least-squares slope over the values at their seconds, in 0.1 kPa/s. -/
def decaySlope (v : List (Nat × Int)) : F32 :=
  let n : Int := v.length
  let st : Int := (v.map fun p => (p.1 : Int)).sum
  let sp : Int := (v.map fun p => p.2).sum
  let stp : Int := (v.map fun p => (p.1 : Int) * p.2).sum
  let stt : Int := (v.map fun p => (p.1 : Int) * p.1).sum
  let den := n * stt - st * st
  if den ≤ 0 then 0 else f32OfRatio (-(n * stp - st * sp)) (20000 * den.toNat)

/-- A decay evaluation with slope d (R442): the threshold in force judges it and then follows it. -/
def decayJudge (l : Nat) (d : F32) (s : State) : State :=
  let x := leakLoop s l
  let c := loopCfg s l
  let run := if f32Lt x.decayThr d then x.decayRun + 1 else 0
  let dd := f32Mul d d
  let g := if f32Lt x.decayVar dd then f32OfRatio 1 8 else f32OfRatio 1 256
  let v := if f32Lt d x.decayThr then f32Add x.decayVar (f32Mul (f32Sub dd x.decayVar) g) else x.decayVar
  let hit := decide (5 ≤ run)
  let s1 := updLeak l (fun y => { y with
    decay := d, decayRun := run, decayVar := v, decayThr := leakThr c v c.decayMin c.decayMax
    decayConfirmed := hit, decayFrame := if hit then some s.seq.frame else y.decayFrame }) s
  if hit && !x.decayConfirmed then
    if x.iso = .isOpen then confirmMeans l 3 0xB030 s1
    else post 0xB031 (leakCount 3 (updLeak l (fun y => { y with decayInside := true }) s1)) l
  else s1

/-- PRESSURE_DECAY_EVAL (R442): a full second of samples; a void second changes no fit. -/
def execPressureDecayEval (loop : Nat) (s : State) : Host.Outcome State Fault Refusal :=
  let x := leakLoop s loop
  .next (if !(x.decayActive && decide (10000 ≤ x.pCount)) || s.seq.state ≠ .normal then s
    else
      let vals := if x.pVoid then x.pVals else ((x.sec, x.pSum) :: x.pVals).take 10
      let s1 := updLeak loop (fun y => { y with pVals := vals, sec := y.sec + 1, pSum := 0, pCount := 0, pVoid := false }) s
      if x.pVoid || vals.length < 10 then s1 else decayJudge loop (decaySlope vals) s1)

/-! The classifier (R443). -/

def scoreOf (s : State) (l : Nat) : Option Int :=
  (([1, 2, 3, 4, 5, 6, 7] : List Nat).flatMap fun g => roleElements s g 10 l).foldl (fun m e => match m with
    | some v => some (max v e.lo)
    | none => some e.lo) none

/-- The score of a frame (R443). It is taken in every state; in SAFE_HOLD and HOLD_LOCKED the count holds (R444), but an
absent classifier's count is 0. -/
def classifierFrame (s : State) (l : Nat) : State :=
  match scoreOf s l with
  | none => updLeak l (fun y => { y with clsAvailable := false, clsRun := 0, clsConfirmed := false }) s
  | some v =>
    let high := decide (32768 ≤ v)
    let hit := high && isoReleased s l
    let s1 := updLeak l (fun y => { y with
      clsAvailable := true, score := v, scoreFrame := if high then s.seq.frame else y.scoreFrame }) s
    if s.seq.state ≠ .normal then s1
    else updLeak l (fun y => { y with clsRun := if hit then y.clsRun + 1 else 0, clsConfirmed := hit && y.clsConfirmed }) s1

/-! Confirmation and isolation (R444 to R448). -/

/-- A loop code is confirmed by an input (R437, R444): a rope keeps what it confirmed while it was WET until it is
declared DRY from WET or, after a FAULT, the loop is released. -/
def inputConfirms (s : State) (i code : Nat) : Bool :=
  let x := leakIn s i
  let c := leakCfg s i
  leakUsed s i && !(underTest s i) && (x.state = .wet || i < 16) &&
  ((x.sideA && c.leakA = code) || (i < 16 && x.sideB && c.leakB = code))

/-- Inputs that confirm a code, ropes (`floats` false) or floats. -/
def confirming (s : State) (floats : Bool) (code : Nat) : List Nat :=
  (if floats then (List.range 8).map (· + 16) else List.range 16).filter fun i => inputConfirms s i code

/-- Means that confirm a leak of loop l at present, in the order of R458. A decay counts only on a loop that no leak
isolation closed (R444). -/
def confirmedBy (s : State) (l : Nat) : List Bool :=
  let x := leakLoop s l
  [!(confirming s false l).isEmpty, !(confirming s true l).isEmpty, x.mbConfirmed,
   x.decayConfirmed && x.iso = .isOpen, x.clsConfirmed]

/-- Row-level emergency begins or gains a cause (R450, R451). -/
def beginEmergency (cause : Nat) (s : State) : State :=
  if s.leak.emergency then s
  else abortWhere 6 (fun a => a.code ≠ 3 && a.code ≠ 8)
    (post 0xB060 (leakCount 7 { s with leak := { s.leak with emergency := true } }) 0xFFFF 0xFFFF [cause])

/-- The trigger frame of a decision (R447): the earliest WET run of the inputs that confirm, else this frame. -/
def triggerFrame (s : State) (l : Nat) : Nat :=
  listMin s.seq.frame (((confirming s false l) ++ (confirming s true l)).filterMap fun i =>
    if (leakIn s i).state = .wet && (leakIn s i).lastWet = s.seq.frame then some (leakIn s i).wetStart else none)

def setC0 (v : Bool) (l : Nat) (s : State) : State :=
  (isoChs s l).foldl (fun t c => updCh c (fun x => { x with c0 := v }) t) s

def setLeakFloor (v : Bool) (l : Nat) (s : State) : State :=
  (loopLinks s l).foldl (fun t k => updFloor k (fun y => { y with leak := v }) t) s

/-- What an isolation in force holds of the plant (R446, points 1 to 3). -/
def holdIsolation (l : Nat) (s : State) : State :=
  let s1 := setLeakFloor true l (setC0 true l s)
  let s2 := updLoopP l (fun y => { y with isolated := true }) s1
  { s2 with plan := { s2.plan with loops := upd s2.plan.loops l fun r =>
      { r with credit := 0, armed := false, exhausted := false } } }

def boolBits (l : List Bool) : Nat := l.foldr (fun b n => b2n b + 2 * n) 0

/-- ISOLATION_DECIDED (R446, R450). -/
def isolateLoop (l : Nat) (cause : List Bool) (s : State) : State :=
  let n := s.seq.frame
  let x := match confirming s false l with
    | i :: _ => (leakIn s i).location
    | [] => 0xFFFF
  let s1 := updLeak l (fun y => { y with
    iso := .closing, cause := cause, trigger := triggerFrame s l, decidedFrame := n, isolations := cnt y.isolations
    flowSeen := false }) (holdIsolation l s)
  let s2 := abortWhere 1 (strokeOf l) (post 0xB050 (leakCount 5 s1) l 0xFFFF (boolBits cause :: leBytes 2 x))
  let recent := n :: s2.leak.decisions.filter fun f => n < f + 100000
  let s3 := { s2 with leak := { s2.leak with decisions := recent } }
  if 3 ≤ recent.length then
    beginEmergency 2 { s3 with leak := { s3.leak with manyLoops := true, manyFrame := n } }
  else s3

/-- Isolates a confirmed open loop, or adds a cause to an isolated one (R444, R456). -/
def decideLoop (s : State) (l : Nat) : State :=
  let c := confirmedBy s l
  if !(c.any id) then s
  else if (leakLoop s l).iso = .isOpen then isolateLoop l c s
  else updLeak l (fun y => { y with cause := List.zipWith (· || ·) y.cause c }) s

def anyNotHolding (s : State) : Bool := s.leak.loops.any fun x => x.iso = .notHolding

/-- A loop enters NOT_HOLDING (R448, R450). -/
def enterNotHolding (l : Nat) (s : State) : State :=
  let s1 := updLeak l (fun y => { y with iso := .notHolding, checkFrame := s.seq.frame }) s
  beginEmergency 1 (post 0xB052 (leakCount 6 { s1 with leak := { s1.leak with notHolding := true } }) l)

/-- A loop holds (R448). -/
def enterHeld (l : Nat) (s : State) : State :=
  let s1 := updLeak l (fun y => { y with iso := .held }) s
  post 0xB051 { s1 with leak := { s1.leak with notHolding := anyNotHolding s1 } } l

/-- LOOP_ISOLATED (R447, R448): both channels are energised. `half` is 1 for an edge at offset 50 us. -/
def markIsolated (l half : Nat) (s : State) : State :=
  let x := leakLoop s l
  if x.iso = .closing && isoEnergised s l then
    updLeak l (fun y => { y with iso := .checking, edgeFrame := s.seq.frame, flowSeen := false
                                 isoTime := min 65535 (s.seq.frame - x.trigger + half) }) s
  else s

def undriven (s : State) (l : Nat) : Bool := (isoChs s l).any fun c => !(driven s c 0)

/-- A channel that is not driven ends CLOSING, CHECKING and HELD (R448). -/
def judgeDriven (s : State) (l : Nat) : State :=
  let i := (leakLoop s l).iso
  if (i = .closing || i = .checking || i = .held) && undriven s l then enterNotHolding l s else s

/-- A row sensor reads WET (R450). -/
def rowSensorWet (s : State) : Bool :=
  (List.range 24).any fun i => (leakIn s i).state = .wet && inputConfirms s i 30

/-- FLOOR_N of every powered link for an emergency or an external opening (R451, R452). -/
def rowFloors (s : State) : State :=
  let on := s.leak.emergency || s.leak.ringExt
  { s with caps := { s.caps with floors := s.caps.floors.mapIdx fun k y => { y with row := on && domainOn s k } } }

/-- CLASSIFIER_CONFIRM (R443): 200 consecutive frames. The loop is decided in the frame of confirmation (R447). -/
def execClassifierConfirm (loop : Nat) (s : State) : Host.Outcome State Fault Refusal :=
  let x := leakLoop s loop
  .next (if 200 ≤ x.clsRun && !x.clsConfirmed && s.seq.state = .normal then
      let s1 := confirmMeans loop 4 0xB040 (updLeak loop (fun y => { y with clsConfirmed := true }) s)
      if s.pow.plantControl then rowFloors (decideLoop s1 loop) else s1
    else s)

/-- Last frames in which sides read WET. -/
def wetFrames (s : State) : State :=
  { s with leak := { s.leak with inputs := s.leak.inputs.map fun x =>
      if x.state = .wet then { x with wetFrameA := if x.sideA then s.seq.frame else x.wetFrameA
                                      wetFrameB := if x.sideB then s.seq.frame else x.wetFrameB }
      else x } }

/-- The decision stage (R445). The means that infer hold in SAFE_HOLD and HOLD_LOCKED (R444); only the module that
holds plant control isolates or declares an emergency (R455). -/
def leakDecision (s : State) : State :=
  let s0 := wetFrames s
  let s1 := (leakLoops s0).foldl (fun t l => classifierFrame (decayFrame (balanceFrame t l) l) l) s0
  if !s.pow.plantControl then s1
  else
    let s2 := (leakLoops s1).foldl decideLoop s1
    let s3 := (leakLoops s2).foldl (fun t l => markIsolated l 0 (judgeDriven t l)) s2
    let s4 := if rowSensorWet s3 && !s3.leak.rowSensor then
        beginEmergency 0 { s3 with leak := { s3.leak with rowSensor := true } }
      else s3
    rowFloors s4

/-- The adaptation stage (R439, R445). -/
def leakAdaptation (s : State) : State :=
  if s.seq.state = .normal then (leakLoops s).foldl balanceAdapt s else s

/-- ISOLATION_FLOW_CHECK (R448), in each frame from 1 s to 3 s after the later edge. -/
def isolationFlowCheck (s : State) : State :=
  (leakLoops s).foldl (fun t l =>
    let x := leakLoop t l
    if x.iso = .checking && x.edgeFrame + 10000 ≤ t.seq.frame && t.seq.frame ≤ x.edgeFrame + 30000 then
      match sensorValue t (loopCfg t l).flow with
      | some q => if q < 10 then enterHeld l t else updLeak l (fun y => { y with flowSeen := true }) t
      | none => t
    else t) s

/-- ISOLATION_CHECK_TIMEOUT (R448): 3 s after the later edge, once the flow of that frame has been sampled. Without any flow reading, two channels that moved hold. -/
def execIsolationCheckTimeout (loop : Nat) (s : State) : Host.Outcome State Fault Refusal :=
  let x := leakLoop s loop
  .next (if x.iso = .checking &&
        (x.edgeFrame + 30000 < s.seq.frame || (x.edgeFrame + 30000 = s.seq.frame && 1 ≤ s.seq.phase)) then
      if !x.flowSeen && (isoChs s loop).all (fun c => (vch s c).moved) then enterHeld loop s
      else rowFloors (enterNotHolding loop s)
    else s)

/-- NOT_HOLDING_RECHECK (R448): every 10 s. -/
def execNotHoldingRecheck (loop : Nat) (s : State) : Host.Outcome State Fault Refusal :=
  let x := leakLoop s loop
  .next (if x.iso = .notHolding && x.checkFrame + 100000 ≤ s.seq.frame then
      let s1 := updLeak loop (fun y => { y with checkFrame := s.seq.frame }) s
      match sensorValue s (loopCfg s loop).flow with
      | some q => if q < 10 && !(undriven s loop) then enterHeld loop s1 else s1
      | none => s1
    else s)

/-- ENERGISING_EDGE (R413, R447): an admitted channel starts PEAK. -/
def execEnergisingEdge (channel : Nat) (s : State) : Host.Outcome State Fault Refusal :=
  .next (if (vch s channel).staged = some true && stagedBefore s then
      let s1 := energise channel s
      (leakLoops s1).foldl (fun t l => if (isoChs t l).contains channel then markIsolated l 1 t else t) s1
    else s)

/-! Releasing (R449). -/

/-- Sides of an input assigned to a code have not read WET for 60 s. -/
def inputDry (s : State) (code i : Nat) : Bool :=
  let x := leakIn s i
  let c := leakCfg s i
  let quiet (side : Bool) (f : Nat) : Bool := !(x.state = .wet && side) && decide (f + 600000 ≤ s.seq.frame)
  !(leakUsed s i) || ((c.leakA ≠ code || quiet x.sideA x.wetFrameA) &&
    (16 ≤ i || c.leakB ≠ code || quiet x.sideB x.wetFrameB))

/-- The conditions of R449. -/
def releaseConditions (s : State) (l : Nat) : Bool :=
  let x := leakLoop s l
  x.iso ≠ .isOpen && (List.range 24).all (inputDry s l) && decide (x.scoreFrame + 600000 ≤ s.seq.frame) &&
  (match x.decayFrame with
   | some f => decide (f + 600000 ≤ s.seq.frame)
   | none => true)

/-- RELEASE_LOOP's own check: 0 OK, 2 STATE, 3 RANGE. -/
def releaseLoopCheck (s : State) (l : Nat) : Nat :=
  if 24 ≤ l || !(loopConfigured s.img l) then 3 else if releaseConditions s l then 0 else 2

/-- A refusal logs event 0xB054 (R449). -/
def releaseRefused (l : Nat) (s : State) : State := post 0xB054 (leakCount 9 s) l

/-- Rope sides kept for a loop end with its release (R434). -/
def dropSides (l : Nat) (s : State) : State :=
  (List.range 16).foldl (fun t i =>
    let c := leakCfg t i
    updLeakIn i (fun x => if x.state = .wet then x else { x with
      sideA := x.sideA && c.leakA ≠ l, sideB := x.sideB && c.leakB ≠ l }) t) s

/-- The release at the frame boundary (R449); a confirmation that came in between keeps the isolation (R456). -/
def applyReleaseLoop (l : Nat) (s : State) : State :=
  if !(releaseConditions s l) then releaseRefused l s
  else
    let s1 := updLoopP l (fun y => { y with isolated := false }) (setLeakFloor false l (setC0 false l s))
    let s2 := updLeak l (fun y => { y with
      iso := .isOpen, cause := List.replicate 5 false, decayInside := false, decayConfirmed := false, decayRun := 0 })
      (dropSides l s1)
    let s3 := restartBalance l { s2 with
      leak := { s2.leak with notHolding := anyNotHolding s2 }
      pump := { s2.pump with releaseFrame := some s.seq.frame } }
    abortWhere 10 (fun a => (a.code = 4 || a.code = 5) && a.target % 32 = l) (post 0xB053 (leakCount 8 s3) l)

/-! Row-level emergency (R450 to R452). -/

/-- ROW_SENSOR_CAUSE_END (R450): every row input has been DRY or FAULT for 60 s. -/
def execRowSensorCauseEnd (s : State) : Host.Outcome State Fault Refusal :=
  .next (if s.leak.rowSensor && (List.range 24).all (inputDry s 30) then
      { s with leak := { s.leak with rowSensor := false } }
    else s)

/-- MANY_LOOPS_END (R450). -/
def execManyLoopsEnd (s : State) : Host.Outcome State Fault Refusal :=
  .next (if s.leak.manyLoops && s.leak.manyFrame + 600000 ≤ s.seq.frame then
      { s with leak := { s.leak with manyLoops := false } }
    else s)

/-- ROW_STOP takes effect (R454). -/
def applyRowStop (s : State) : State :=
  rowFloors (beginEmergency 3 { s with leak := { s.leak with stopRequest := true } })

/-- RELEASE_ROW's own check (R451, R454). -/
def releaseRowCheck (s : State) : Nat :=
  if s.leak.emergency && !s.leak.rowSensor && !s.leak.notHolding && !s.leak.manyLoops then 0 else 2

def applyReleaseRow (s : State) : State :=
  if releaseRowCheck s ≠ 0 then s
  else post 0xB062 (rowFloors { s with leak := { s.leak with emergency := false, stopRequest := false } })

/-- RING_OPEN_EXTERNAL (R452): 50 frames below the open threshold. -/
def execRingOpenExternal (s : State) : Host.Outcome State Fault Refusal :=
  .next (if 50 ≤ s.leak.ringOpenRun && !s.leak.ringExt then
      post 0xB061 (rowFloors { s with leak := { s.leak with ringExt := true } })
    else s)

/-- RING_CLOSED_EXTERNAL (R452): 10,000 frames above the closed threshold. -/
def execRingClosedExternal (s : State) : Host.Outcome State Fault Refusal :=
  .next (if 10000 ≤ s.leak.ringClosedRun && s.leak.ringExt then
      post 0xB063 (rowFloors { s with leak := { s.leak with ringExt := false } })
    else s)

/-- Outputs at a frame boundary (R326, R451): the contact and the FLOOR_N lines of a module in plant control. The line of a
port whose domain is off stands at high impedance (R123). -/
def leakOutputs (s : State) : State :=
  let c := s.pow.plantControl
  { s with
    pow := { s.pow with ownContactClosed := !(c && s.leak.emergency) }
    caps := { s.caps with floors := s.caps.floors.mapIdx fun k y => { y with driven := c && y.asserted && domainOn s k } } }

/-- Isolations and emergency are driven again in the first frame of plant control (R134, R455). -/
def leakTakeControl (s : State) : State :=
  rowFloors ((leakLoops s).foldl (fun t l =>
    if (leakLoop t l).iso = .isOpen then t
    else updLeak l (fun y => { y with iso := .closing, trigger := t.seq.frame, flowSeen := false })
      (holdIsolation l t)) s)

end Sys2Proof.Machine
end

