-- ==== Sys2Proof/Machine/Can.lean ====
section
/-! DEFINITION. The CAN FD channels: states, reception, mirror queues and host messages (R461 to R494). -/

namespace Sys2Proof.Machine

def canCh (s : State) (c : Nat) : CanCh := s.can.ch.getD c {}
def updCan (c : Nat) (f : CanCh → CanCh) (s : State) : State :=
  { s with can := { s.can with ch := upd s.can.ch c f } }
def canCount (c k n : Nat) (s : State) : State :=
  updCan c (fun x => { x with counters := upd x.counters k fun v => satAdd 32 v n }) s
def canSum (k : Nat) (s : State) : State :=
  { s with can := { s.can with counters := upd s.can.counters k cnt } }

def almanac (s : State) (c : Nat) : AlmanacCfg := s.img.almanacs.getD c {}

/-! Channel states (R463). -/

/-- RESTRICT_CAUSE (R463, R491): image, no plant control, storm. -/
def restrictCauses (s : State) (c : Nat) : List Bool :=
  [(almanac s c).restricted, !s.pow.plantControl, (canCh s c).storm]

/-- Messages that wait are dropped (R480). -/
def dropWaiting (c : Nat) (s : State) : State :=
  let n := ((canCh s c).slots.filter fun x => x.state = .waiting).length
  canCount c 15 n (updCan c (fun y => { y with slots := y.slots.map fun x =>
    if x.state = .waiting then { x with state := .dropped, doneFrame := s.seq.frame } else x }) s)

/-- CHANNEL_STATE_UPDATE (R463, R489): a bus-off keeps the waiting messages, the end of plant control drops them. -/
def channelUpdate (s : State) (c : Nat) : State :=
  let x := canCh s c
  let on := domainOn s (85 + c) && (almanac s c).present
  let restrict := (restrictCauses s c).any id
  if !on then
    (if x.state = .off then s
     else dropWaiting c (updCan c (fun y => { y with state := .off, recovered := false, passive := false }) s))
  else match x.state with
    | .off => updCan c (fun y => { y with
      state := .restricted, tec := 0, rec_ := 0
      returnFrame := if y.storm then some (y.returnFrame.getD s.seq.frame) else y.returnFrame }) s
    | .restricted => if restrict then s else updCan c (fun y => { y with state := .normal }) s
    | .normal => if restrict then dropWaiting c (updCan c (fun y => { y with state := .restricted }) s) else s
    | .busOff =>
      if !x.recovered then s
      else
        let s1 := post 0xC002 (canCount c 11 1 (updCan c (fun y => { y with
          state := if restrict then .restricted else .normal, recovered := false
          returnFrame := some s.seq.frame }) s)) c
        if s.pow.plantControl then s1 else dropWaiting c s1

/-- The CAN clock runs: while it stands the channels neither send nor receive, and values cross when it returns (R49, R51,
R637). -/
def canClock (s : State) : Bool := !(s.seq.unlocked.contains .can)

/-- All channels at a frame boundary; staged transmit values come into force (R474). While the CAN clock stands, the crossing
keeps the first of them and delivers it at the return of the clock (R51). -/
def canFrame (s : State) : State :=
  let s1 := (List.range 12).foldl channelUpdate s
  { s1 with can := { s1.can with
      force := if canClock s then s1.can.staged else s1.can.force
      held := if canClock s then none else some (s1.can.held.getD s1.can.staged) } }

/-- Valves that the image names (R485). -/
def initCan (s : State) : State :=
  { s with can := { s.can with valves := (canValveNames s.img).map fun v => { channel := v.1, node := v.2 } } }

/-- BUS_OFF (R463, R488): the transmit error counter has passed 255. -/
def execBusOff (channel : Nat) (s : State) : Host.Outcome State Fault Refusal :=
  let x := canCh s channel
  .next (if x.state = .normal then
      let recent := s.seq.frame :: x.busOffFrames.filter fun f => s.seq.frame < f + 600000
      let storm := decide (8 ≤ recent.length) && !x.storm
      let s1 := post 0xC001 (canCount channel 10 1 (updCan channel (fun y => { y with
        state := .busOff, recovered := false, busOffFrames := recent, lastBusOff := s.seq.frame, returnFrame := none
        tec := 255, storm := y.storm || storm }) s)) channel
      if storm then post 0xC003 (canSum 0 s1) channel else s1
    else s)

/-- BUS_OFF_RECOVERY (R463): 128 occurrences of 11 recessive bits; the error counters return to 0. -/
def execBusOffRecovery (channel : Nat) (s : State) : Host.Outcome State Fault Refusal :=
  .next (if (canCh s channel).state = .busOff then
      updCan channel (fun y => { y with recovered := true, tec := 0, rec_ := 0, passive := false }) s
    else s)

/-- BUS_OFF_STORM_END (R488): 60 s after the return. -/
def execBusOffStormEnd (channel : Nat) (s : State) : Host.Outcome State Fault Refusal :=
  let x := canCh s channel
  .next (match x.storm, x.returnFrame with
    | true, some f =>
      if f + 600000 ≤ s.seq.frame then post 0xC004 (updCan channel (fun y => { y with storm := false }) s) channel
      else s
    | _, _ => s)

/-- Error counters as observed, and the errors counted by kind (R487). -/
def noteErrors (c : Nat) (errors : List Nat) (tec rec_ : Nat) (s : State) : State :=
  let s1 := (List.range 5).foldl (fun t k => canCount c (5 + k) (errors.getD k 0) t) s
  updCan c (fun y => { y with tec := min 255 tec, rec_ := min 255 rec_ }) s1

/-- ERROR_PASSIVE (R487). In restricted operation the counters stay unchanged (R462). -/
def execErrorPassive (channel : Nat) (errors : List Nat) (tec rec_ : Nat) (s : State) :
    Host.Outcome State Fault Refusal :=
  let x := canCh s channel
  .next (if x.state = .normal && !x.passive then
      postEvery 10000 0xC010 (updCan channel (fun y => { y with passive := true })
        (noteErrors channel errors tec rec_ s)) channel
    else s)

/-- ERROR_ACTIVE (R487). -/
def execErrorActive (channel tec rec_ : Nat) (s : State) : Host.Outcome State Fault Refusal :=
  let x := canCh s channel
  .next (if x.state = .normal && x.passive then
      postEvery 10000 0xC011 (updCan channel (fun y => { y with passive := false })
        (noteErrors channel [] tec rec_ s)) channel
    else s)

/-! Reception (R481 to R486). -/

/-- First accepting entry (R481). -/
def acceptingFilter (s : State) (c : Nat) (m : CanMsg) : Option Nat :=
  (s.img.filters.getD c []).findIdx? fun f => filterAccepts f m.ide m.canId

/-- Some enabled entry with MIRROR 1 would accept the frame (R481). -/
def mirrorAccepts (s : State) (c : Nat) (m : CanMsg) : Bool :=
  (s.img.filters.getD c []).any fun f => f.mirror && filterAccepts f m.ide m.canId

def mqCount (x : CanCh) : Nat := (x.mqHead + 256 - x.mqTail) % 256

/-- A message goes to the mirror queue of its channel (R486). -/
def mirrorPut (c : Nat) (r : CanRx) (s : State) : State :=
  let x := canCh s c
  if mqCount x = 255 then
    postRun 0xC031 (canCount c 13 1 (updCan c (fun y => { y with mqOverflow := true }) s)) c
  else
    updCan c (fun y =>
      let q := if y.mq.length = 256 then y.mq else List.replicate 256 {}
      let e : CanRx := { r with seq := y.mqSeq }
      { y with mq := q.set y.mqHead e, mqHead := (y.mqHead + 1) % 256
               mqSeq := (y.mqSeq + 1) % 65536 }) s

/-- Into the receive FIFO or queue 0 (R482). -/
def fifoPut (c : Nat) (r : CanRx) (s : State) : State :=
  let x := canCh s c
  if 64 ≤ x.fifo.length then postRun 0xC030 (canCount c 12 1 s) c
  else updCan c (fun y => { y with
    fifo := y.fifo ++ [{ r with seq := y.fifoSeq }], fifoSeq := (y.fifoSeq + 1) % 65536
    rxLevel := max y.rxLevel (y.fifo.length + 1) }) s

def queue1Put (c : Nat) (r : CanRx) (s : State) : State :=
  let x := canCh s c
  if 64 ≤ x.queue1.length then postRun 0xC030 (canCount c 12 1 s) c
  else updCan c (fun y => { y with
    queue1 := y.queue1 ++ [{ r with seq := y.queue1Seq }], queue1Seq := (y.queue1Seq + 1) % 65536
    rxLevel := max y.rxLevel (y.queue1.length + 1) }) s

/-- Entry of the mirror window and of a high-priority buffer (R492). -/
def rxFields (r : CanRx) (isNew : Bool) : List (Nat × Nat × Int) :=
  let m := r.msg
  [(0, 29, m.canId), (29, 1, b2n m.ide), (30, 1, b2n m.fdf), (31, 1, b2n m.brs), (32, 4, m.dlc), (36, 1, b2n m.esi),
   (37, 1, b2n isNew), (40, 8, r.filter), (48, 16, r.seq), (64, 64, r.rxNs), (128, 512, leNat m.data)]

/-- Into a high-priority buffer; an untaken message is overwritten and counted (R482). The sessions that subscribed to it
are notified (R590). -/
def hpPut (c b : Nat) (r : CanRx) (s : State) : State :=
  let s1 := if ((canCh s c).hp.getD b {}).changed then canCount c 12 1 s else s
  let f := fun (h : HpBuffer) =>
    let q : CanRx := { r with seq := h.seq }
    { h with rx := q, isNew := true, changed := true, seq := (h.seq + 1) % 65536 }
  let s2 := updCan c (fun y => { y with hp := upd y.hp b f }) s1
  notify 4 (16 * c + b) (leBytes 128 (pack (rxFields ((canCh s2 c).hp.getD b {}).rx true))) s2

/-- Pump whose status the frame is (R382, R481). -/
def pumpOf (s : State) (c : Nat) (m : CanMsg) : Option Nat :=
  (List.range 4).find? fun p =>
    let x := s.img.pumps.getD p {}
    x.present && x.canCh = c && x.node + 0x700 = m.canId

/-- A valid or discarded valve status (R485). -/
def valveStatus (i dlc position cmdSeen : Nat) (fault : Bool) (s : State) : State :=
  match s.can.valves[i]? with
  | none => s
  | some v =>
    if dlc ≠ 8 then updCan v.channel (fun y => { y with unknown := cnt y.unknown }) s
    else
      let w : CanValve := { v with position := position, fault := fault, cmdSeen := cmdSeen, lastStatus := some s.seq.frame
                                   stale := false }
      { s with can := { s.can with valves := s.can.valves.set i w } }

/-- VALVE_STATUS_RECEIVED (R485). -/
def execValveStatusReceived (valve dlc position cmdSeen : Nat) (fault : Bool) (s : State) :
    Host.Outcome State Fault Refusal :=
  .next (valveStatus valve dlc position cmdSeen fault s)

/-- VALVE_STATUS_STALE (R485): 100 ms without a valid status. -/
def execValveStatusStale (valve : Nat) (s : State) : Host.Outcome State Fault Refusal :=
  .next (match s.can.valves[valve]? with
    | none => s
    | some v =>
      let old := match v.lastStatus with
        | some f => decide (f + 1000 ≤ s.seq.frame)
        | none => true
      if old then { s with can := { s.can with valves := s.can.valves.set valve { v with stale := true } } } else s)

/-- Frames that hardware takes ahead of the filters: pump statuses on channels 0 and 1, valve statuses on a valve's
channel (R481, R485). -/
def hardwareTakes (s : State) (c : Nat) (m : CanMsg) : Bool :=
  !m.ide && ((c < 2 && 0x701 ≤ m.canId && m.canId ≤ 0x77F) ||
    (0x681 ≤ m.canId && m.canId ≤ 0x6FF && s.can.valves.any fun v => v.channel = c))

/-- The pump logic or the valve logic takes the frame; any other is discarded and counted. -/
def takeHardware (c : Nat) (m : CanMsg) (s : State) : State :=
  let drop := updCan c (fun y => { y with unknown := cnt y.unknown }) s
  if 0x701 ≤ m.canId then
    match pumpOf s c m with
    | some p => pumpStatus p (if m.dlc = 8 then m.data.take 8 else []) s
    | none => drop
  else
    match s.can.valves.findIdx? fun v => v.channel = c && v.node + 0x680 = m.canId with
    | some i =>
      let n := leNat (m.data.take 8)
      valveStatus i m.dlc (n % 65536) (n / 2 ^ 32 % 65536) (bit n 16) s
    | none => drop

/-- The frame with its time; data are cut to the data length. -/
def canRx (s : State) (m : CanMsg) (filter offsetNs : Nat) (mirror : Bool) : CanRx :=
  { msg := { m with data := m.data.take (dlcBytes m.dlc) }, filter := filter, mirror := mirror
    rxNs := rowNs s + offsetNs }

/-- Filtering of a received frame (R481, R482). -/
def canReceive (c offsetNs : Nat) (m : CanMsg) (s : State) : State :=
  let s1 := canCount c 1 1 s
  let drop := updCan c (fun y => { y with unknown := cnt y.unknown }) s1
  if m.remote then drop
  else if hardwareTakes s c m then
    let s2 := takeHardware c m s1
    if mirrorAccepts s c m then mirrorPut c (canRx s m 0xFF offsetNs true) s2 else s2
  else match acceptingFilter s c m with
    | none => drop
    | some k =>
      let f := (s.img.filters.getD c []).getD k {}
      let r := canRx s m k offsetNs f.mirror
      if f.target = 2 then hpPut c f.hpBuffer r s1
      else if f.target = 1 then queue1Put c r s1 else fifoPut c r s1

/-- A channel receives in every state but OFF and during the recovery from bus-off (R463). -/
def canListens (x : CanCh) : Bool := x.state ≠ .off && (x.state ≠ .busOff || x.recovered)

/-- CAN_FRAME_RECEIVED (R482): valid at `offsetNs` of the frame in progress. -/
def execCanFrameReceived (channel : Nat) (msg : CanMsg) (offsetNs : Nat) (s : State) :
    Host.Outcome State Fault Refusal :=
  .next (if canListens (canCh s channel) && canClock s then canReceive channel offsetNs msg s else s)

/-- Raw value of a sensor in a payload, or none when the message is too short (R90, R483). -/
def canRaw (c : SensorCfg) (data : List Nat) : Option Int :=
  let w := 2 ^ c.width
  if data.length < c.byteOffset + w then none
  else
    let bs := (data.drop c.byteOffset).take w
    let n : Nat := leNat (if c.msbFirst then bs.reverse else bs)
    some (if c.signed && 2 ^ (8 * w - 1) ≤ n then (n : Int) - 2 ^ (8 * w) else n)

/-- A message updates the CAN sensors that match it (R483). -/
def updateSensors (c : Nat) (m : CanMsg) (s : State) : State :=
  (List.range 256).foldl (fun t i =>
    let k := sensorCfg t i
    if k.kind = 5 && k.canCh = c && k.canIde = m.ide && k.canId = m.canId then
      match canRaw k m.data with
      | some v => { t with plant := { t.plant with sensors := upd t.plant.sensors i fun _ =>
          { value := canValue k v, valid := true, frame := t.seq.frame } } }
      | none => postRun 0xC032 t i
    else t) s

/-- One message of the snapshot. -/
def takeMessage (c : Nat) (sensors : Bool) (s : State) (r : CanRx) : State :=
  let s1 := if sensors then updateSensors c r.msg s else s
  if r.mirror then mirrorPut c r s1 else s1

/-- The snapshot of one channel (R483, R484): messages received before offset 38.0 us, from the FIFO or the queues in
arrival order, then from the buffers. -/
def snapshotChannel (s : State) (c : Nat) : State :=
  let x := canCh s c
  let due (r : CanRx) : Bool := decide (r.rxNs < rowNs s + 38000)
  let s1 := updCan c (fun y => { y with
    fifo := y.fifo.filter (fun r => !(due r)), queue1 := y.queue1.filter (fun r => !(due r))
    hp := y.hp.map fun h => if h.changed && due h.rx then { h with changed := false } else h }) s
  let queued := sortBy (fun p q => p.2.rxNs < q.2.rxNs)
    ((x.fifo.filter due).map (true, ·) ++ (x.queue1.filter due).map (false, ·))
  let s2 := queued.foldl (fun t p => takeMessage c p.1 t p.2) s1
  ((x.hp.filter fun h => h.changed && due h.rx).map (·.rx)).foldl (takeMessage c true) s2

/-- The CAN receive snapshot. A CAN value not received for 100 ms is missing (R292). -/
def canSnapshot (s : State) : State :=
  let s1 := (List.range 12).foldl snapshotChannel s
  let old := fun (i : Nat) (x : Sensor) =>
    if (sensorCfg s1 i).kind = 5 && decide (x.frame + 1000 ≤ s1.seq.frame) then { x with valid := false } else x
  { s1 with plant := { s1.plant with sensors := s1.plant.sensors.mapIdx old } }

/-! Mirror queues and clears (R486, R491, R492). -/

/-- A write of MQ_TAIL: in the range from the tail to the head, or ignored and counted. -/
def mqTailWrite (c value : Nat) (s : State) : State :=
  let x := canCh s c
  if value < 256 ∧ (value + 256 - x.mqTail) % 256 ≤ mqCount x then updCan c (fun y => { y with mqTail := value }) s
  else canCount c 13 1 s

/-- MQ_TAIL_WRITE (R486). -/
def execMqTailWrite (channel value : Nat) (s : State) : Host.Outcome State Fault Refusal :=
  .next (mqTailWrite channel value s)

/-- MQ_OVERFLOW_CLEAR (R491). -/
def execMqOverflowClear (channel : Nat) (s : State) : Host.Outcome State Fault Refusal :=
  .next (updCan channel (fun y => { y with mqOverflow := false }) s)

/-- NEW_CLEAR (R492). -/
def execNewClear (channel buffer : Nat) (s : State) : Host.Outcome State Fault Refusal :=
  .next (updCan channel (fun y => { y with hp := upd y.hp buffer fun h => { h with isNew := false } }) s)

/-! Host messages (R478 to R480). -/

/-- The channel's intercalary columns. -/
def intercalary (a : AlmanacCfg) : List ColumnCfg := (a.column.take a.columns).filter fun c => c.kind = 2

/-- An element of the activity's footprint hangs on channel c: its pump, or a CAN sensor of its loop (R478, R566). -/
def actOnChannel (s : State) (c : Nat) (a : Activity) : Bool :=
  let t := loopCfg s (a.target % 32)
  let sensors : List Nat := if a.code = 2 then [t.flow] else if a.code = 4 || a.code = 5 then [t.pSupply, t.pReturn] else []
  (a.code = 1 && (s.img.pumps.getD (a.target % 4) {}).canCh = c) ||
  sensors.any fun i => (sensorCfg s i).kind = 5 && (sensorCfg s i).canCh = c

/-- A running activity uses channel c (R478). -/
def activityUses (s : State) (c : Nat) : Bool :=
  (List.range 4).any fun i => (activity s i).state = .running && actOnChannel s c (activity s i)

/-- The intercalary columns of a channel are open (R478). -/
def intercalaryOpen (s : State) (c : Nat) : Bool :=
  (canCh s c).state = .normal &&
  ((s.maint.windows.any fun w => w.isOpen && bit w.canMask c) || activityUses s c)

/-- CAN_SEND's own check (R479, R485): 0 OK, 2 STATE, 3 RANGE, 6 FULL. -/
def canSendCheck (s : State) (c : Nat) (m : CanMsg) : Nat :=
  let a := almanac s c
  if 12 ≤ c then 3
  else if (canCh s c).state = .off || (intercalary a).isEmpty then 2
  else if !(frameRules m.ide m.fdf m.brs m.canId m.dlc) || 15 < m.dlc || 2 ^ 29 ≤ m.canId ||
      m.data.length ≠ dlcBytes m.dlc ||
      a.cell.any (fun k => k.used && k.ide = m.ide && k.canId = m.canId) ||
      (c < 2 && !m.ide && 0x700 ≤ m.canId && m.canId ≤ 0x77F) ||
      (!m.ide && 0x681 ≤ m.canId && m.canId ≤ 0x6FF && s.can.valves.any fun v => v.channel = c) ||
      80 * listMax ((intercalary a).map (·.length)) < longestFrame a m.ide m.fdf m.brs m.dlc then 3
  else if !((canCh s c).slots.any fun x => x.state = .free) then 6 else 0

/-- The message takes a free slot, from which it is sent from frame `effect` on (R27, R479). -/
def canSend (c : Nat) (m : CanMsg) (effect : Nat) (s : State) : State :=
  match (canCh s c).slots.findIdx? fun x => x.state = .free with
  | none => s
  | some i => canSum 2 (updCan c (fun y => { y with
      slots := y.slots.set i { state := .waiting, sendId := y.nextSend, msg := m, acceptFrame := s.seq.frame
                               effect := effect }
      nextSend := (y.nextSend + 1) % 65536 }) s)

/-- CAN_CANCEL's own check (R479). -/
def canCancelCheck (s : State) (c id : Nat) : Nat :=
  if 12 ≤ c then 3
  else match (canCh s c).slots.find? fun x => x.state ≠ .free && x.sendId = id with
    | none => 3
    | some x => if x.state = .waiting then 0 else 2

def canCancel (c id : Nat) (s : State) : State :=
  canSum 3 (canCount c 15 1 (updCan c (fun y => { y with slots := y.slots.map fun x =>
    if x.state = .waiting && x.sendId = id then { x with state := .cancelled, doneFrame := s.seq.frame } else x }) s))

/-- HOST_MESSAGE_EXPIRE (R480): 10 s after its acceptance. -/
def execHostMessageExpire (channel slot : Nat) (s : State) : Host.Outcome State Fault Refusal :=
  let x := (canCh s channel).slots.getD slot {}
  .next (if x.state = .waiting && x.acceptFrame + 100000 ≤ s.seq.frame then
      post 0xC060 (canCount channel 15 1 (updCan channel (fun y => { y with
        slots := upd y.slots slot fun z => { z with state := .expired, doneFrame := s.seq.frame } }) s)) channel
    else s)

/-- SEND_SLOT_FREE (R480): 10 s after the outcome. -/
def execSendSlotFree (channel slot : Nat) (s : State) : Host.Outcome State Fault Refusal :=
  let x := (canCh s channel).slots.getD slot {}
  .next (if x.state ≠ .free && x.state ≠ .waiting && x.state ≠ .sending && x.doneFrame + 100000 ≤ s.seq.frame then
      updCan channel (fun y => { y with slots := upd y.slots slot fun _ => {} }) s
    else s)

/-! Kind-2 schedule entries (R477). -/

/-- Channel and cells that a payload names. -/
def namedCells (payload : Nat) : List Nat :=
  let j := payload / 1024 % 16
  if bit payload 15 then (List.range 64).map fun y => 16 * y + j else [16 * (payload / 16 % 64) + j]

/-- The commit's check: 0 OK, 2 STATE, 3 RANGE. -/
def cellCheck (s : State) (payload : Nat) : Nat :=
  let a := almanac s (payload % 16)
  let cells := (namedCells payload).map fun k => a.cell.getD k {}
  if 12 ≤ payload % 16 || 65536 ≤ payload || !a.present || cells.any (fun c => !c.used) then 3
  else if cells.any fun c => 512 ≤ c.source && c.source ≤ 515 then 2 else 0

/-- Execution at a boundary (R477). -/
def applyCells (payload : Nat) (s : State) : State :=
  let c := payload % 16
  let ks := namedCells payload
  let f := fun (l : List Nat) => if bit payload 14 then l.filter (fun k => !(ks.contains k))
    else (ks.filter fun k => !(l.contains k)) ++ l
  post 0xC050 (canSum 1 (updCan c (fun y => { y with inactive := f y.inactive }) s)) c

/-! Staging (R43, R474). -/

/-- Value of a transmit object from 0 to 531 as staged in this frame (R382, R400, R476); a pump command is without
its CMD_COUNT. -/
def objectValue (s : State) (o : Nat) : Nat :=
  if o < 512 then (clampI 0 65535 (ctl s o).u).toNat
  else if o < 516 then
    (let p := pumpSt s (o - 512)
     p.speedCmd % 65536 + (if p.runOut then 65536 else 0))
  else if (s.pump.spray.getD (48 + (o - 516)) {}).open_ then 10000 else 0

/-- Objects that used cells name. -/
def usedObjects (s : State) : List Nat :=
  (s.img.almanacs.flatMap fun a => (a.cell.filter fun c => c.used && c.source < 532).map (·.source)).eraseDups

/-- CAN schedule staging. -/
def canStage (s : State) : State :=
  { s with can := { s.can with staged := (usedObjects s).map fun o => (o, objectValue s o) } }

end Sys2Proof.Machine
end

