-- ==== Sys2Proof/Machine/Packets.lean ====
section
/-! DEFINITION. Packets of Gwynlink and the pair port as bytes: header, tag and CRC, the keys that protect them, cap command
and site telemetry records (R318, R328, R352 to R354, R371, R508). -/

namespace Sys2Proof.Machine

def lport (s : State) (p : Nat) : LinkPort := s.link.ports.getD p {}
def updPort (p : Nat) (f : LinkPort → LinkPort) (s : State) : State :=
  { s with link := { s.link with ports := upd s.link.ports p f } }

/-- The link carries packets: it has trained (R374). -/
def linkAlive (x : LinkPort) : Bool := x.state = .attesting || x.state = .config || x.state = .up

/-- The header of a packet (R352); LENGTH is that of the payload beside it. -/
structure PktHead where
  type : Nat
  dir : Nat := 0
  auth : Bool := false
  phase : Nat := 0
  tag : Nat := 0
  tgen : Nat := 0
  op : Nat := 0
  seq : Nat := 0
  deriving DecidableEq, Repr

/-- The 8 bytes of a header (R352). -/
def headBytes (h : PktHead) (length : Nat) : List Nat :=
  leBytes 8 (h.type % 16 + h.dir % 2 * 2 ^ 4 + b2n h.auth * 2 ^ 5 + h.phase % 2 * 2 ^ 6 + h.tag % 256 * 2 ^ 8 +
    h.tgen % 16 * 2 ^ 16 + h.op % 16 * 2 ^ 20 + h.seq % 65536 * 2 ^ 24 + length % 65536 * 2 ^ 48)

/-- The header that the first 8 bytes of a packet spell (R352). -/
def parseHead (pkt : List Nat) : PktHead :=
  let w := leNat (pkt.take 8)
  { type := bits w 3 0, dir := bits w 4 4, auth := bit w 5, phase := bits w 6 6, tag := bits w 15 8
    tgen := bits w 19 16, op := bits w 23 20, seq := bits w 39 24 }

/-- Bytes of an ASCII label. -/
def ascii (t : String) : List Nat := t.toList.map Char.toNat

/-- DIR of what the module sends (R352); on the pair port the direction that the unit with the lower strap sends is 0
(PRESUMED, log entry 190). -/
def outDir (s : State) (p : Nat) : Nat := if p < 64 then 0 else if s.pow.slotStrap = 1 then 0 else 1

/-- The labels of a direction's key and IV (R371, R508). -/
def keyLabel (p dir : Nat) : String :=
  if p < 64 then (if dir = 0 then "gwl m2a " else "gwl a2m ") else if dir = 0 then "pair lo " else "pair hi "

/-- A key (`iv` false, 32 bytes) or IV (12 bytes) of a direction for generation g (R371). -/
def linkKey (x : LinkPort) (p dir g : Nat) (iv : Bool) : Nat :=
  Config.hkdfExpand x.secret (ascii (keyLabel p dir ++ (if iv then "iv" else "key")) ++ leBytes 4 g) (if iv then 12 else 32)

/-- The nonce: the direction's IV XOR CLASS x 2^64 + NUM (R354). -/
def linkNonce (x : LinkPort) (p dir g cls num : Nat) : Nat :=
  Nat.xor (linkKey x p dir g true) (cls * 2 ^ 64 + num)

/-- A packet that the module sends: header, payload, tag and CRC (R352, R354). Before a session AUTH is 0 and the tag zero;
in a session they are those of the transmit generation. -/
def packet (s : State) (p cls num : Nat) (h : PktHead) (payload : List Nat) : List Nat :=
  let x := lport s p
  let h1 := { h with dir := outDir s p, auth := x.session, phase := if x.session then x.keyGen % 2 else 0 }
  let body := headBytes h1 payload.length ++ payload
  let key := linkKey x p h1.dir x.keyGen false
  let nonce := linkNonce x p h1.dir x.keyGen cls num
  let tag := (List.range 8).map fun i => if x.session then Config.gmac key nonce body i % 256 else 0
  body ++ tag ++ leBytes 4 (crc32 ((body ++ tag).map (BitVec.ofNat 8)))

/-- Sends a packet of class `cls` (R353). -/
def sendPacket (p cls num : Nat) (h : PktHead) (payload : List Nat) (s : State) : State :=
  send (.link p (packet s p cls num h payload)) s

/-- Bytes of a cap command record (R318). -/
def recordBytes (r : CapRecord) : List Nat :=
  leBytes 32 (r.cap % 2 ^ 20 + r.slopePermit % 2 ^ 20 * 2 ^ 20 + r.emberW % 2 ^ 20 * 2 ^ 40 + r.freq % 2 ^ 16 * 2 ^ 64 +
    r.paceMode % 4 * 2 ^ 80 + r.splitOrder % 8 * 2 ^ 82 + r.minCompute % 256 * 2 ^ 88 + r.minMemory % 256 * 2 ^ 96 +
    r.minLinks % 256 * 2 ^ 104 + b2n r.dither * 2 ^ 112 + r.cmdFrame % 2 ^ 32 * 2 ^ 128)

/-- A site telemetry record from its 64 bytes (R328). -/
def parseTel (b : List Nat) : SiteTel :=
  let w := leNat (b.take 64)
  let t := toSigned 16 (bits w 143 128)
  { act := (List.range 8).map fun k => bits w (16 * k + 15) (16 * k)
    dieTemp := if t = -32768 then none else some t
    freqAch := bits w 159 144, capLimited := bit w 160, lowestState := bit w 161, emberActive := bit w 162
    regSeq := bits w 175 168, regValid := bit w 176, regPower := bits w 211 192, cmdEcho := bits w 255 224
    capApplied := bits w 275 256 }

/-- The k-th record of a TEL (R357). -/
def telRecordAt (records : List Nat) (k : Nat) : SiteTel := parseTel ((records.drop (64 * k)).take 64)

/-- The event entries of an EVT payload (R367). -/
def parseEvts (payload : List Nat) : List EvtEntry :=
  (List.range (payload.length / 8)).map fun k =>
    let w := leNat ((payload.drop (8 * k)).take 8)
    { code := bits w 7 0, slot := bits w 12 8, slotValid := bit w 13, detail := bits w 63 32 }

end Sys2Proof.Machine
end

