-- ==== Sys2Proof/Machine/LinkLayer.lean ====
section
/-! DEFINITION. The link layer of Gwynlink and the pair port: reliable delivery, control packets, key phases and
transactions (R352 to R366, R372). -/

namespace Sys2Proof.Machine

def portCount (p k n : Nat) (s : State) : State :=
  updPort p (fun x => { x with counters := upd x.counters k fun c => satAdd 32 c n }) s

/-- The frame stamp of a reception (R373). -/
def noteValid (p : Nat) (s : State) : State := updPort p (fun x => { x with lastValid := s.seq.frame }) s

/-- Sends a control packet: 0 ACK, 1 NAK, 2 PING, 3 PONG (R353, R362). -/
def sendCtl (p op num : Nat) (telMissing : Bool) (s : State) : State :=
  let n := (lport s p).ctlSend
  sendPacket p 2 n { type := 15, op } (leBytes 2 num ++ [b2n telMissing, 0] ++ leBytes 4 n)
    (updPort p (fun x => { x with ctlSend := n + 1 }) s)

/-- Bytes of a packet in the replay buffer: header, payload, tag and CRC (R352, R360). -/
def packetSize (payload : List Nat) : Nat := 20 + payload.length

def replayBytes (x : LinkPort) : Nat := (x.replay.map fun k => packetSize k.payload).sum

/-- The replay buffer holds at most 64 packets or 65,536 bytes (R360). -/
def replayRoom (x : LinkPort) (payload : List Nat) : Bool :=
  x.replay.length < 64 && replayBytes x + packetSize payload ≤ 65536

/-- Sends or replays a packet of the replay buffer, with its tag under the present key (R354, R360). -/
def transmitReliable (p : Nat) (k : ReplayPkt) (s : State) : State :=
  sendPacket p 0 k.pn { type := k.type, op := k.op, tag := k.tag, tgen := k.tgen, seq := k.pn % 65536 } k.payload s

/-- Sends a new reliable packet (R353, R360). -/
def sendReliable (p type op tag tgen : Nat) (payload : List Nat) (s : State) : State :=
  let k : ReplayPkt := { pn := (lport s p).sendPn, type, op, tag, tgen, sent := s.seq.frame, payload }
  transmitReliable p k (updPort p (fun y => { y with sendPn := y.sendPn + 1, replay := y.replay ++ [k] }) s)

/-- Rebuilds a packet number from its low 16 bits and the number expected (R353). -/
def rebuildPn (expect seq : Nat) : Int := (expect : Int) + toSigned 16 (seq + 65536 - expect % 65536)

/-- Frees acknowledged packets (R360). -/
def freeAcked (p : Nat) (pn : Int) (s : State) : State :=
  updPort p (fun x =>
    let keep := x.replay.filter fun k => decide (pn < (k.pn : Int))
    if keep.length = x.replay.length then x
    else { x with replay := keep.map fun k => { k with replays := 0 } }) s

/-- Replays every unacknowledged packet from `pn` on; none when one of them has reached the limit (R360). -/
def replayFrom (p : Nat) (pn : Int) (s : State) : Option State :=
  let due := (lport s p).replay.filter fun k => decide (pn ≤ (k.pn : Int))
  if due.any fun k => 4 ≤ k.replays then none
  else
    let f := fun (k : ReplayPkt) =>
      if decide (pn ≤ (k.pn : Int)) then { k with replays := k.replays + 1, sent := s.seq.frame } else k
    let s1 := updPort p (fun x => { x with replay := x.replay.map f }) s
    let s2 := due.foldl (fun t k => transmitReliable p k t) s1
    some (portCount p 2 due.length s2)

/-- A control packet's number is new (R362). -/
def ctlFresh (x : LinkPort) (ctlNum : Nat) : Bool := match x.ctlLast with
  | some n => decide (n < ctlNum)
  | none => true

/-- A control packet out of order is discarded and counted (R362). -/
def badCtl (p : Nat) (s : State) : State := portCount p 6 1 s

def takeCtl (p ctlNum : Nat) (s : State) : State :=
  noteValid p (updPort p (fun x => { x with ctlLast := some ctlNum }) s)

/-! Transactions (R363, R364). -/

/-- Frees a tag: its generation rises by 1 (R363). -/
def freeTag (p tag : Nat) (s : State) : State :=
  updPort p (fun x => { x with
    gens := upd x.gens tag fun g => (g + 1) % 16
    freeTags := x.freeTags ++ [tag], txns := x.txns.filter fun t => t.tag ≠ tag }) s

/-- Present slots of a port. -/
def portSlots (s : State) (p : Nat) : List Nat := (List.range 32).filter fun k => sitePresent s (32 * p + k)

/-- Configuration writes of R366 item 1, as address and bytes (R365). DUAL_HOMED is set where the module is one of a
pair. -/
def cfgWrites (s : State) (p : Nat) : List (Nat × List Nat) :=
  let mask := (portSlots s p).foldl (fun m k => m + 2 ^ k) 0
  let pair := b2n (domainOn s 120)
  [(0x10, [p]), (0x14, leBytes 4 mask), (0x18, [pair])] ++
  (portSlots s p).map fun k =>
    let c := slotCfg s (32 * p + k)
    (0x100 + 16 * k, leBytes 4 c.fallbackCap ++ leBytes 4 c.floorCap ++ leBytes 4 s.img.pages.slopeUp ++ leBytes 4 0)

/-- Steps of CONFIG: writes, readbacks, AGENT_INFO, descriptors (R366). -/
def cfgCount (s : State) (p : Nat) : Nat := 2 * (cfgWrites s p).length + 1 + (portSlots s p).length

/-- The request of a step of CONFIG: OP and payload, an 8-byte request part and a write's data (R365, R366). A descriptor
is read with the length of the longest. -/
def cfgRequest (s : State) (p k : Nat) : Nat × List Nat :=
  let ws := cfgWrites s p
  let n := ws.length
  let part (addr len : Nat) : List Nat := leBytes 4 addr ++ leBytes 2 len ++ [0, 0]
  if k < n then
    let w := ws.getD k (0, [])
    (1, part w.1 w.2.length ++ w.2)
  else if k < 2 * n then
    let w := ws.getD (k - n) (0, [])
    (0, part w.1 w.2.length)
  else if k = 2 * n then (0, part 0 16)
  else (0, part (0x10000 + 0x1000 * (portSlots s p).getD (k - 2 * n - 1) 0) 2056)

/-- The SPDM request of an ATT transaction (R368, R369): 0 GET_VERSION to 8 FINISH, 100 KEY_UPDATE, 101 END_SESSION,
102 RESPOND_IF_READY. The payload is the message's header of 4 bytes, for GET_CERTIFICATE the offset and length of the
portion, filled with zeros to 8 bytes (PRESUMED, log entry 190). -/
def attRequest (x : LinkPort) (item : Nat) : List Nat := match item with
  | 0 => [0x10, 0x84, 0, 0, 0, 0, 0, 0]
  | 1 => [0x12, 0xE1, 0, 0, 0, 0, 0, 0]
  | 2 => [0x12, 0xE3, 0, 0, 0, 0, 0, 0]
  | 3 => [0x12, 0x81, 0, 0, 0, 0, 0, 0]
  | 4 => [0x12, 0x82, 0, 0] ++ leBytes 2 (2048 * x.attPortion) ++ leBytes 2 2048
  | 5 => [0x12, 0x83, 0, 0xFF, 0, 0, 0, 0]
  | 6 => [0x12, 0xE0, 1, 0xFF, 0, 0, 0, 0]
  | 7 => [0x12, 0xE4, 0xFF, 0, 0, 0, 0, 0]
  | 8 => [0x12, 0xE5, 0, 0, 0, 0, 0, 0]
  | 100 => [0x12, 0xE9, 2, 0, 0, 0, 0, 0]
  | 101 => [0x12, 0xEC, 0, 0, 0, 0, 0, 0]
  | _ => [0x12, 0xFF, 0, 0, 0, 0, 0, 0]

/-- OP and payload of the request that a transaction opens with (R353). -/
def txnRequest (s : State) (p : Nat) (att : Bool) (item : Nat) : Nat × List Nat :=
  if att then (0, attRequest (lport s p) item) else cfgRequest s p item

/-- Sends a request under the tag that has been free the longest; it waits while 32 are outstanding or the replay
buffer is full (R360, R363). -/
def sendTxn (p : Nat) (att : Bool) (item tries : Nat) (s : State) : State :=
  let x := lport s p
  let r := txnRequest s p att item
  match x.freeTags with
  | [] => s
  | tag :: rest =>
    if 32 ≤ x.txns.length || !(replayRoom x r.2) then
      updPort p (fun y => { y with waiting := y.waiting ++ [(att, item, tries)] }) s
    else
      let t : Txn := { tag, tgen := x.gens.getD tag 0, att, item, sent := s.seq.frame, tries }
      sendReliable p (if att then 4 else 3) r.1 tag t.tgen r.2
        (updPort p (fun y => { y with freeTags := rest, txns := y.txns ++ [t] }) s)

/-- Sends requests that waited, as far as there is room. -/
def sendWaiting (p : Nat) : Nat → State → State
  | 0, s => s
  | k + 1, s =>
    let x := lport s p
    match x.waiting with
    | [] => s
    | (att, item, tries) :: t =>
      if x.txns.length < 32 && replayRoom x (txnRequest s p att item).2 then
        sendWaiting p k (sendTxn p att item tries (updPort p (fun y => { y with waiting := t }) s))
      else s

/-- A response's place (R363): 0 delivered, 1 late, 2 not outstanding. -/
def responseKind (x : LinkPort) (tag tgen : Nat) : Nat :=
  if x.txns.any fun t => t.tag = tag && t.tgen = tgen then 0
  else
    let g := x.gens.getD tag 0
    let behind := (g + 16 - tgen % 16) % 16
    if !(x.txns.any fun t => t.tag = tag) && 1 ≤ behind && behind ≤ 7 then 1 else 2

/-- The session and its transactions end: tags' generations advance, buffers and numbers clear (R353, R362, R373). -/
def endSession (p : Nat) (s : State) : State :=
  let s1 := (lport s p).txns.foldl (fun t x => freeTag p x.tag t) s
  updPort p (fun x => { x with
    session := false, waiting := [], replay := [], sendPn := 0, expectPn := 0, nakPn := none, ctlSend := 0
    ctlLast := none, timeouts := 0, rekey := none, keyDue := false, keyGen := 0, pingFrame := none
    attStart := none, attStep := 0, attPortion := 0, cfgStep := 0, descs := [], secret := 0, rxGen := 0
    phaseFrame := none }) s1

/-! Packets received (R352 to R354, R371, R372, R380). -/

/-- A packet's key phase is one that the receiver accepts: that of the generation received, the one after it once the module
sends under it, and the one before it for 16 frames after the new phase was first seen (R372). -/
def phaseOk (x : LinkPort) (phase now : Nat) : Bool :=
  phase = x.rxGen % 2 || decide (x.rxGen < x.keyGen) || (match x.phaseFrame with
    | some f => decide (now < f + 16)
    | none => false)

/-- The first packet under the new phase ends the re-key (R372). -/
def seePhase (p phase : Nat) (s : State) : State :=
  updPort p (fun x =>
    if x.session && decide (phase ≠ x.rxGen % 2) && decide (x.rxGen < x.keyGen) then
      { x with rxGen := x.rxGen + 1, phaseFrame := some s.seq.frame, rekey := none }
    else x) s

/-- What the header of a packet says whose CRC and tag pass. -/
inductive HeadVerdict where
  | taken
  /-- The port ignores everything it receives (R374). -/
  | ignored
  /-- Wrong direction, or a packet of no kind that comes before the session (R354, R380). -/
  | unknown
  /-- Without AUTH or under another phase in a session (R371, R372). -/
  | authFail
  deriving DecidableEq, Repr

/-- The checks of a header (R352, R354, R371, R372, R380). -/
def headVerdict (s : State) (p : Nat) (h : PktHead) : HeadVerdict :=
  let x := lport s p
  if !linkAlive x then .ignored
  else if x.session && !(h.auth && phaseOk x h.phase s.seq.frame) then .authFail
  else if !x.session && (h.auth || !(h.type = 15 || h.type = 4)) then .unknown
  else if h.dir = outDir s p then .unknown
  else .taken

/-- A packet of unknown type, operation or direction is discarded and counted (R379, R380). -/
def unknownPacket (p : Nat) (s : State) : State := postRun 0x9023 (portCount p 6 1 s) p

def setPortState (p : Nat) (st : PortState) (s : State) : State :=
  updPort p (fun x => if x.state = st then x else { x with state := st, stateFrame := s.seq.frame }) s

/-! Streaming a checkpoint over the pair port (R511). -/

def setPair (f : PairSt → PairSt) (s : State) : State := { s with pair := f s.pair }
def portUp (s : State) : Bool := (lport s 64).state = .up

/-- Sections of a snapshot: 694,528 bytes, in 169 full CKPT packets of 4,096 bytes and a last one of 2,304 bytes with the
trailer's SHA-384 (R511). -/
def ckptPackets : Nat := 170

/-- The payload of packet k of a snapshot (R511). -/
def ckptPayload (c : Checkpoint) (k : Nat) : List Nat :=
  let part (len : Nat) : List Nat := (List.range len).map fun i => Config.checkpointByte c (4096 * k + i) % 256
  if k + 1 < ckptPackets then part 4096 else part 2304 ++ leBytes 48 (Config.checkpointHash c)

/-- Streams the snapshot as far as the replay buffer has room (R360, R511). -/
def streamCheckpoint : Nat → State → State
  | 0, s => s
  | fuel + 1, s =>
    match s.pair.snap with
    | none => s
    | some c =>
      let k := s.pair.streamed
      if k < ckptPackets && s.pair.ckptFrame < s.seq.frame && portUp s && replayRoom (lport s 64) (List.replicate 4096 0) then
        streamCheckpoint fuel (setPair (fun p => { p with streamed := k + 1 }) (sendReliable 64 7 0 0 0 (ckptPayload c k) s))
      else s

end Sys2Proof.Machine
end

