-- ==== Sys2Proof/Machine/Gwynlink.lean ====
section
/-! DEFINITION. Gwynlink: beacons, telemetry, reliable packets, attestation, configuration, keys, ports and agent
events (R348 to R380). Port 64 is the pair port. -/

namespace Sys2Proof.Machine

/-- Sites of a port's present slots. -/
def portSites (s : State) (p : Nat) : List Nat :=
  if p < 64 then ((List.range 32).map (32 * p + ·)).filter (sitePresent s) else []

/-- A responsive site becomes unresponsive (R375). -/
def siteDown (i : Nat) (s : State) : State :=
  if responsive s i then
    post 0x9027 (updSiteC i (fun x => { x with response := .unresponsive, validRun := 0 }) s) i
  else s

/-- The port leaves UP: its sites become unresponsive (R375). -/
def sitesDown (p : Nat) (s : State) : State :=
  (portSites s p).foldl (fun t i => updSiteC i (fun x => { x with validRun := 0 }) (siteDown i t)) s

/-- Enters TRAINING, with its entry counted (R374, R379). -/
def enterTraining (p : Nat) (s : State) : State :=
  let n := s.seq.frame
  setPortState p .training (updPort p (fun x => { x with
    trainCount := satAdd 16 x.trainCount 1, entries := n :: x.entries.filter fun f => n < f + 600000 }) s)

/-- The link of the pair port ends while PRIMED is not acknowledged: the standby leaves PRIMED and keeps the final checkpoint
as its last complete checkpoint (R503). -/
def primedUnacked (p : Nat) (s : State) : State :=
  if p = 64 && s.pair.role = .primed && (lport s p).replay.any (fun k => k.type = 9 && k.op = 2) then
    { s with pair := { s.pair with role := .standby, boundary := none, ckpt := s.pair.finalCkpt, restored := false
                                   holdChannels := [], swap := none } }
  else s

/-- The port leaves its session: its sites become unresponsive, and everything of the session ends (R373, R374). -/
def portEnds (p : Nat) (s : State) : State := endSession p (primedUnacked p (sitesDown p s))

/-- Enters QUARANTINE (R374). -/
def enterQuarantine (p cause : Nat) (s : State) : State :=
  post 0x9042 (setPortState p .quarantine (updPort p (fun x => { x with quarAt := s.seq.frame, leaveCause := cause })
    (portEnds p s))) p

/-- A lost link (R373, R374). -/
def linkLost (p cause : Nat) (s : State) : State :=
  let x := lport s p
  if !linkAlive x then s
  else
    let recent := x.entries.filter fun f => s.seq.frame < f + 600000
    if 8 ≤ recent.length then enterQuarantine p 11 s
    else post 0x9002 (enterTraining p (updPort p (fun y => { y with leaveCause := cause })
      (portEnds p s))) p cause

/-- A port whose domain is marked failed is FAILED (R374). -/
def portDomain (p : Nat) (s : State) : State :=
  let d := if p < 64 then p else 120
  if (s.pow.domains.getD d {}).state = .failed && (lport s p).state ≠ .failed then
    setPortState p .failed (updPort p (fun x => { x with leaveCause := 12 }) (portEnds p s))
  else s

def portDomains (s : State) : State := (List.range 65).foldl (fun t p => portDomain p t) s

/-! Attestation and configuration (R366, R369). -/

/-- Starts an attestation at READY or at entry to ATTESTING, whichever is later (R369). Without random values it is refused,
and tried again after 10 s (R530; DEDUCED, log entry 197). -/
def startAttest (p : Nat) (s : State) : State :=
  if !((lport s p).state = .attesting && s.pow.ready && (lport s p).attStart.isNone) then s
  else if !s.sec.drbgOk then updPort p (fun x => { x with retryAt := some (s.seq.frame + 100000) }) s
  else
    sendTxn p true 0 0 (updPort p (fun x => { x with attStart := some s.seq.frame, attStep := 0, retryAt := none }) s)

/-- Attestation or configuration fails: END_SESSION where a session exists, a new attestation after 10 s (R374). -/
def attestFails (p event cause : Nat) (s : State) : State :=
  let s0 := if (lport s p).session then sendTxn p true 101 0 s else s
  post event (setPortState p .attesting (updPort p (fun x => { x with
    retryAt := some (s.seq.frame + 100000), leaveCause := cause }) (portEnds p s0))) p

/-- CONFIG passes: UP, event 0x9001; descriptors take force (R339, R374). Echoes and records count anew (R375). -/
def enterUp (p : Nat) (s : State) : State :=
  let s0 := (portSites s p).foldl (fun t i => updSiteC i (fun x => { x with echoed := false, firstRecord := none }) t) s
  let s1 := (lport s p).descs.foldl (fun t d => updSiteC (32 * p + d.slot) (fun x =>
    { x with fTab := d.fTab, fStep := d.fStep, fTol := d.fTol }) t) s0
  post 0x9001 (setPortState p .up (updPort p (fun x => { x with
    emptied := [], lastValid := s.seq.frame, pingFrame := none }) s1)) p

/-- Descriptor in the ranges of R339; the read reaches past a shorter list of cores. -/
def parseDesc (slot : Nat) (b : List Nat) : Option ChipDesc :=
  let cores := leNat (b.take 2)
  let fs := (List.range cores).map fun i => leNat ((b.drop (8 + 2 * i)).take 2)
  let step := leNat ((b.drop 2).take 2)
  let tol := b.getD 4 0
  if 1 ≤ cores && cores ≤ 1024 && 8 + 2 * cores ≤ b.length && fs.all (fun f => 100 ≤ f && f ≤ 10000) &&
      1 ≤ step && step ≤ 100 && tol ≤ 51 then
    some { slot, fTab := listMin 0 fs, fStep := step, fTol := tol }
  else none

/-- A CFG response of step k passes (R366): a write response to a write, a read response with the content to a read. -/
def cfgStepOk (s : State) (p k op : Nat) (b : List Nat) : Bool × Option ChipDesc × Option Nat :=
  let ws := cfgWrites s p
  let n := ws.length
  if op ≠ (if k < n then 9 else 8) then (false, none, none)
  else if k < n then (true, none, none)
  else if k < 2 * n then (decide (b = (ws.getD (k - n) (0, [])).2), none, none)
  else if k = 2 * n then (b.length = 16 && b.getD 8 0 = 1, none, some (leNat ((b.drop 4).take 4)))
  else match parseDesc ((portSlots s p).getD (k - 2 * n - 1) 0) b with
    | some d => (true, some d, none)
    | none => (false, none, none)

def cfgResponse (p op : Nat) (data : List Nat) (s : State) : State :=
  let k := (lport s p).cfgStep
  let r := cfgStepOk s p k op data
  if !r.1 then attestFails p 0x9013 9 s
  else
    let s1 := updPort p (fun x => { x with
      cfgStep := k + 1, agentFw := r.2.2.getD x.agentFw
      descs := match r.2.1 with
        | some d => x.descs ++ [d]
        | none => x.descs }) s
    if k + 1 < cfgCount s p then sendTxn p false (k + 1) 0 s1 else enterUp p s1

/-- The session is established (R353, R371): its secret, packet numbers from 0, g = 0. -/
def openSession (p : Nat) (s : State) : State :=
  updPort p (fun x => { x with
    session := true, secret := Config.linkSecret s.free, keyGen := 0, rxGen := 0, phaseFrame := none, sendPn := 0
    expectPn := 0, replay := [], nakPn := none, ctlSend := 0, ctlLast := none, sessionFrame := s.seq.frame
    attStart := none, cfgStep := 0 }) { s with free := s.free + 1 }

/-- Steps: 0 GET_VERSION, 1 GET_CAPABILITIES, 2 NEGOTIATE_ALGORITHMS, 3 GET_DIGESTS, 4 GET_CERTIFICATE, 5 CHALLENGE,
6 GET_MEASUREMENTS, 7 KEY_EXCHANGE, 8 FINISH (R369). After FINISH a Gwynlink port is configured; the pair port is up
(R508). -/
def attResponse (p : Nat) (v : AttVerdict) (s : State) : State :=
  let k := (lport s p).attStep
  match v with
  | .fail => attestFails p (if p < 64 then 0x9011 else 0xE031) 8 s
  | .more => sendTxn p true k 0 (updPort p (fun x => { x with attPortion := x.attPortion + 1 }) s)
  | .notReady => sendTxn p true 102 0 s
  | .pass d =>
    let s1 := updPort p (fun x => { x with
      attStep := k + 1, attPortion := 0
      certDigest := if k = 4 then d else x.certDigest
      measDigest := if k = 6 then d else x.measDigest }) s
    let s2 := if k = 4 && !wallValid s then post 0x9012 s1 p else s1
    if 4 ≤ k && k ≤ 6 && !s.sec.drbgOk then attestFails p (if p < 64 then 0x9011 else 0xE031) 8 s2
    else if k < 8 then sendTxn p true (k + 1) 0 s2
    else
      let s3 := openSession p (if p < 64 then post 0x9010 s2 p 0xFFFF
        (leBytes 12 (lport s2 p).certDigest ++ leBytes 12 (lport s2 p).measDigest) else s2)
      if p < 64 then sendTxn p false 0 0 (setPortState p .config s3)
      else setPortState p .up (updPort p (fun x => { x with lastValid := s.seq.frame }) s3)

/-! Re-keys (R372). -/

/-- Starts a re-key: KEY_UPDATE is sent; none begins while one is in progress, or while no random values are issued
(R530). -/
def startRekey (p : Nat) (s : State) : State :=
  let x := lport s p
  if x.session && x.rekey.isNone && s.sec.drbgOk then
    post 0x9041 (sendTxn p true 100 0 (portCount p 11 1 (updPort p (fun y => { y with rekey := some s.seq.frame }) s))) p
  else s

/-- REKEY_START (R372): 24 h of session, or a packet number of 2^31. -/
def execRekeyStart (port : Nat) (s : State) : Host.Outcome State Fault Refusal :=
  let x := lport s port
  .next (if x.session && (x.sessionFrame + 864000000 ≤ s.seq.frame || 2147483648 ≤ x.sendPn || 2147483648 ≤ x.expectPn)
    then startRekey port s else s)

/-- KEY_UPDATE_ACK (R372): the module sends under g + 1 from the next boundary. -/
def execKeyUpdateAck (port : Nat) (s : State) : Host.Outcome State Fault Refusal :=
  let x := lport s port
  .next (if x.rekey.isSome then
      match x.txns.find? fun t => t.att && (t.item = 100 || t.item = 102) with
      | some t => noteValid port (updPort port (fun y => { y with keyDue := true, timeouts := 0 }) (freeTag port t.tag s))
      | none => s
    else s)

/-- REKEY_TIMEOUT (R372): 32 frames after the KEY_UPDATE the agent has not acknowledged it, or has sent nothing under the
new phase. -/
def execRekeyTimeout (port : Nat) (s : State) : Host.Outcome State Fault Refusal :=
  .next (match (lport s port).rekey with
    | some f => if f + 32 ≤ s.seq.frame then linkLost port 7 s else s
    | none => s)

/-- Key switches at the frame boundary (R372). The session's 24 h and its numbers run from the switch. -/
def keySwitch (s : State) : State :=
  let f := fun (x : LinkPort) =>
    if x.keyDue then { x with keyGen := x.keyGen + 1, keyDue := false, sessionFrame := s.seq.frame } else x
  { s with link := { s.link with ports := s.link.ports.map f } }

/-- A packet of the session fails its tag check; it is discarded and not acknowledged (R372, R374). -/
def authFailure (port : Nat) (s : State) : State :=
  let n := s.seq.frame
  let s1 := updPort port (fun x => { x with authFails := n :: x.authFails.filter fun f => n < f + 100000 })
    (portCount port 10 1 s)
  let s2 := postRun 0x9040 s1 port
  let x := lport s2 port
  if !(lport s port).session then s
  else if (x.state = .config || x.state = .up) && 16 ≤ x.authFails.length then enterQuarantine port 10 s2
  else if (x.authFails.filter fun f => n < f + 10000).length = 3 then startRekey port s2
  else s2

/-- AUTH_FAILURE (R372, R374). -/
def execAuthFailure (port : Nat) (s : State) : Host.Outcome State Fault Refusal := .next (authFailure port s)

/-! Training and the port's states (R350, R373, R374). -/

/-- TRAINING_COMPLETE (R350, R374). -/
def execTrainingComplete (port ctle : Nat) (dfe : List Int) (s : State) : Host.Outcome State Fault Refusal :=
  .next (if (lport s port).state = .training then
      startAttest port (setPortState port .attesting (updPort port (fun x => { x with
        trainFails := 0, ctle := ctle % 16, dfe := dfe.take 3, attStart := none, retryAt := none
        lastValid := s.seq.frame }) s))
    else s)

/-- TRAINING_ATTEMPT_FAIL (R374): the third in a row cycles the domain once FLOOR_N of the link is released. -/
def execTrainingAttemptFail (port : Nat) (s : State) : Host.Outcome State Fault Refusal :=
  .next (if (lport s port).state = .training then
      let s1 := post 0x9003 (updPort port (fun x => { x with trainFails := x.trainFails + 1 }) s) port
      if 3 ≤ (lport s1 port).trainFails && !(port < 64 && (floorLine s1 port).asserted) then
        cycleDomain (if port < 64 then port else 120) (updPort port (fun x => { x with trainFails := 0 }) s1)
      else s1
    else s)

/-- ATTESTATION_TIMEOUT (R369): 1.0 s after the first request. -/
def execAttestationTimeout (port : Nat) (s : State) : Host.Outcome State Fault Refusal :=
  .next (match (lport s port).attStart with
    | some f =>
      if (lport s port).state = .attesting && f + 10000 ≤ s.seq.frame then
        attestFails port (if port < 64 then 0x9011 else 0xE031) 8 s
      else s
    | none => s)

/-- ATTESTATION_RETRY (R374). -/
def execAttestationRetry (port : Nat) (s : State) : Host.Outcome State Fault Refusal :=
  .next (match (lport s port).retryAt with
    | some f =>
      if port < 64 && (lport s port).state = .attesting && f ≤ s.seq.frame then
        startAttest port (updPort port (fun x => { x with retryAt := none }) s)
      else s
    | none => s)

/-- LINK_LOST (R373): 1 lock, 2 code errors, 3 TS1 after training, 4 silence; the other causes have rows of their
own. -/
def execLinkLost (port cause : Nat) (s : State) : Host.Outcome State Fault Refusal :=
  let x := lport s port
  let holds :=
    if cause = 1 || cause = 3 then true
    else if cause = 2 then 16 ≤ x.codeErrors
    else if cause = 4 then x.state = .up && x.lastValid + 10 ≤ s.seq.frame
    else false
  .next (if holds then linkLost port cause s else s)

/-- PORT_QUARANTINE_END (R374): 10 s. -/
def execPortQuarantineEnd (port : Nat) (s : State) : Host.Outcome State Fault Refusal :=
  let x := lport s port
  .next (if x.state = .quarantine && x.quarAt + 100000 ≤ s.seq.frame then
      post 0x9043 (enterTraining port (updPort port (fun y => { y with authFails := [] }) s)) port
    else s)

/-- MARGIN_MEASURE (R351). -/
def execMarginMeasure (port height width : Nat) (s : State) : Host.Outcome State Fault Refusal :=
  let n := s.seq.frame
  let warn := height < 40 || width < 16
  let low := height < 20 || width < 8
  let x := lport s port
  let lowS := if low then some (x.lowSince.getD n) else none
  let goodS := if warn then none else some (x.goodSince.getD n)
  let old (f : Option Nat) : Bool := match f with
    | some g => decide (g + 100000 ≤ n)
    | none => false
  let s1 := updPort port (fun y => { y with
    marginH := height, marginW := width, lowSince := lowS, goodSince := goodS
    marginLow := if old lowS then true else if old goodS then false else y.marginLow }) s
  let s2 := if warn then postRun 0x9030 s1 port else s1
  .next (if old lowS && !x.marginLow then post 0x9031 s2 port else s2)

/-! Packets (R352, R359 to R362). -/

/-- PACKET_ERROR (R359, R380): a bad CRC, or code errors in it; a NAK asks for the frame's TEL while it is missing. -/
def execPacketError (port codeErrors : Nat) (badCrc : Bool) (s : State) : Host.Outcome State Fault Refusal :=
  let s1 := portCount port 1 codeErrors (portCount port 0 (b2n badCrc) s)
  let s2 := postRun 0x9020 (updPort port (fun x => { x with codeErrors := x.codeErrors + codeErrors }) s1) port
  let x := lport s2 port
  .next (if port < 64 && x.state = .up && x.telFrame ≠ some s.seq.frame && x.telNak ≠ some s.seq.frame then
      sendCtl port 1 x.expectPn true (updPort port (fun y => { y with telNak := some s.seq.frame }) s2)
    else s2)

/-- TYPE and OP that a port takes as reliable packets of its direction (R353, R508). -/
def knownReliable (port type op : Nat) : Bool :=
  if port < 64 then (type = 3 && (op = 8 || op = 9 || op = 15)) || (type = 4 && op = 8) || (type = 5 && op = 0)
  else type = 7 || type = 8 || type = 9 || (type = 4 && (op = 0 || op = 8))

/-- A reliable packet's number is judged (R361); one that is not known is acknowledged, discarded and counted (R380). -/
def takeReliable (port : Nat) (known : Bool) (seqNum : Nat) (s : State) : State :=
  let x := lport s port
  let pn := rebuildPn x.expectPn seqNum
  if pn = x.expectPn then
    let s1 := updPort port (fun y => { y with expectPn := y.expectPn + 1, nakPn := none }) s
    let s2 := sendCtl port 0 x.expectPn false s1
    if known then s2 else unknownPacket port s2
  else if (x.expectPn : Int) < pn then
    let s1 := postRun 0x9022 (portCount port 4 1 s) port
    if x.nakPn = some (x.expectPn, s.seq.frame) then s1
    else sendCtl port 1 x.expectPn false (updPort port (fun y => { y with nakPn := some (x.expectPn, s.seq.frame) }) s1)
  else sendCtl port 0 (x.expectPn + 65535) false (portCount port 5 1 s)

/-- RELIABLE_PACKET_RECEIVED (R361): header and payload of a packet whose CRC passes; what it carries has a row of its own,
which takes `payload`. A tag that fails in a session is an authentication failure (R372). -/
def execReliablePacketReceived (port : Nat) (head _payload : List Nat) (tagOk : Bool) (s : State) :
    Host.Outcome State Fault Refusal :=
  let h := parseHead head
  let s0 := noteValid port (seePhase port h.phase s)
  .next (match headVerdict s port h with
    | .ignored => s
    | .authFail => authFailure port s
    | .unknown => takeReliable port false h.seq s0
    | .taken =>
      if (lport s port).session && !tagOk then authFailure port s
      else takeReliable port (knownReliable port h.type h.op) h.seq s0)

/-- A control packet of operation `op` (R362): one out of order is discarded and counted, a fresh one is taken by
`take` with its NUM16. -/
def takeControlPacket (port op : Nat) (head b : List Nat) (take : Nat → State → State) (s : State) : State :=
  let h := parseHead head
  match headVerdict s port h with
  | .ignored => s
  | .authFail => authFailure port s
  | .unknown => unknownPacket port (noteValid port s)
  | .taken =>
    let s0 := noteValid port (seePhase port h.phase s)
    let n := leNat ((b.drop 4).take 4)
    if h.type ≠ 15 || h.op ≠ op then unknownPacket port s0
    else if ctlFresh (lport s port) n then take (leNat (b.take 2)) (takeCtl port n s0)
    else badCtl port s0

/-- ACK_RECEIVED (R360, R362). -/
def execAckReceived (port : Nat) (head payload : List Nat) (s : State) : Host.Outcome State Fault Refusal :=
  .next (takeControlPacket port 0 head payload (fun num t => match (lport t port).replay with
    | [] => t
    | k :: _ =>
      let t1 := sendWaiting port 32 (freeAcked port (rebuildPn k.pn num) t)
      if port < 64 then t1 else streamCheckpoint 16 t1) s)

/-- NAK_RECEIVED (R360): replay from the packet that it names. -/
def execNakReceived (port : Nat) (head payload : List Nat) (s : State) : Host.Outcome State Fault Refusal :=
  .next (takeControlPacket port 1 head payload (fun num t =>
    let s1 := portCount port 3 1 t
    match (lport s1 port).replay with
    | [] => s1
    | k :: _ => match replayFrom port (rebuildPn k.pn num) s1 with
      | some u => u
      | none => linkLost port 5 s1) s)

/-- REPLAY_TIMEOUT (R360): 4 frames without the oldest packet acknowledged. -/
def execReplayTimeout (port : Nat) (s : State) : Host.Outcome State Fault Refusal :=
  .next (match (lport s port).replay with
    | [] => s
    | k :: _ =>
      if k.sent + 4 ≤ s.seq.frame then
        match replayFrom port k.pn s with
        | some t => t
        | none => linkLost port 5 s
      else s)

/-- PING_SEND (R362): once per second on an UP port. -/
def execPingSend (port : Nat) (s : State) : Host.Outcome State Fault Refusal :=
  let x := lport s port
  let due := match x.pingFrame with
    | some f => decide (f + 10000 ≤ s.seq.frame)
    | none => true
  .next (if x.state = .up && due then
      sendCtl port 2 (x.pingNum + 1) false (updPort port (fun y => { y with
        pingNum := (y.pingNum + 1) % 65536, pingFrame := some s.seq.frame }) s)
    else s)

/-- PONG_RECEIVED (R362). -/
def execPongReceived (port : Nat) (head payload : List Nat) (rttNs : Nat) (s : State) :
    Host.Outcome State Fault Refusal :=
  .next (takeControlPacket port 3 head payload (fun num t =>
    if num = (lport t port).pingNum && (lport t port).pingFrame.isSome then
      let s2 := updPort port (fun y => { y with rtt := min 65535 rttNs }) t
      if 1400 < rttNs then postRun 0x9052 s2 port else s2
    else t) s)

/-! Transactions (R363, R364). -/

/-- TRANSACTION_RESPONSE (R363): delivered, or discarded as late or not outstanding. -/
def execTransactionResponse (port tag tgen : Nat) (body : TxnBody) (s : State) : Host.Outcome State Fault Refusal :=
  let x := lport s port
  .next (match responseKind x tag tgen with
    | 0 =>
      let s1 := sendWaiting port 32 (updPort port (fun y => { y with timeouts := 0 }) (freeTag port tag s))
      match body with
      | .cfg op data => if x.state = .config then cfgResponse port op data s1 else s1
      | .att v =>
        if x.session then
          match v with
          | .pass _ => if x.rekey.isSome then updPort port (fun y => { y with keyDue := true }) s1 else s1
          | .fail => s1
          | _ => if x.rekey.isSome then sendTxn port true 102 0 s1 else s1
        else if x.state = .attesting then attResponse port v s1 else s1
    | 1 => postRun 0x9024 (portCount port 8 1 s) port
    | _ => postRun 0x9023 (portCount port 7 1 s) port)

/-- TRANSACTION_TIMEOUT (R364): 8 frames since the request was first sent; the fourth in a row loses the link. -/
def execTransactionTimeout (port tag : Nat) (s : State) : Host.Outcome State Fault Refusal :=
  let x := lport s port
  .next (match x.txns.find? fun t => t.tag = tag with
    | none => s
    | some t =>
      if s.seq.frame < t.sent + 8 then s
      else
        let s1 := post 0x9025 (portCount port 9 1 (updPort port (fun y => { y with timeouts := y.timeouts + 1 })
          (freeTag port tag s))) port
        if 4 ≤ (lport s1 port).timeouts || 3 ≤ t.tries then linkLost port 6 s1
        else sendTxn port t.att t.item (t.tries + 1) s1)

/-! Agent events (R367). -/

def evtEntry (p : Nat) (s : State) (e : EvtEntry) : State :=
  let n := s.seq.frame
  let x := lport s p
  let recent := x.evts.filter fun f => n < f + 10000
  let s1 := portCount p 15 1 s
  if 16 ≤ recent.length then postRun 0x9051 s1 p
  else
    let s2 := post 0x9050 (updPort p (fun y => { y with evts := n :: recent }) s1) p e.slot
      (e.code :: e.slot :: leBytes 4 e.detail)
    let site := 32 * p + e.slot % 32
    let named := e.slotValid
    if named && (e.code = 1 || e.code = 2 || e.code = 3) then
      updSiteC site (fun y => { y with validRun := 0 }) (siteDown site s2)
    else if named && e.code = 4 then
      updPort p (fun y => { y with emptied := (e.slot % 32) :: y.emptied })
        (updSiteC site (fun y => { y with validRun := 0 }) (siteDown site s2))
    else if e.code = 0 || (6 ≤ e.code && e.code ≤ 0x7F) then portCount p 6 1 s2
    else s2

/-- EVT_RECEIVED (R367): the payload of an EVT packet that was accepted. -/
def execEvtReceived (port : Nat) (payload : List Nat) (s : State) : Host.Outcome State Fault Refusal :=
  .next (if port < 64 && (lport s port).session then (parseEvts payload).foldl (evtEntry port) s else s)

/-! Beacons (R320, R356, R376). -/

/-- The frame in which a record was computed, from its CMD_FRAME bits. -/
def recordFrame (s : State) (r : CapRecord) : Nat := s.seq.frame - (s.seq.frame + 4294967296 - r.cmdFrame) % 4294967296

/-- The record sent for a site is remembered with the frame that computed it (R375). -/
def sentRecord (i : Nat) (s : State) : State :=
  match (siteC s i).record with
  | none => s
  | some r =>
    let f := recordFrame s r
    updSiteC i (fun x => { x with
      capHistory := ((f, r.cap) :: x.capHistory.filter fun h => h.1 ≠ f && s.seq.frame < h.1 + 400)
      highestSent := if x.response = .unresponsive then x.highestSent else max x.highestSent r.cap }) s

/-- The beacon of one port; records follow during plant control once the session protects them. -/
def beaconPort (s : State) (p : Nat) : State :=
  let x := lport s p
  if !linkAlive x then s
  else
    let sites := portSites s p
    let caps := s.pow.plantControl && x.session && sites.all fun i => (siteC s i).record.isSome
    let head := leBytes 6 s.seq.frame ++ [b2n caps, 0] ++ leBytes 8 (rowNs s)
    let h : PktHead := { type := 1, seq := s.seq.frame % 65536 }
    if caps then
      let recs := (sites.filterMap fun i => (siteC s i).record).map recordBytes
      sendPacket p 1 s.seq.frame h (head ++ recs.flatten) (sites.foldl (fun t i => sentRecord i t) s)
    else sendPacket p 1 s.seq.frame h head s

/-- BEACON_TRANSMIT (R356). -/
def beacons (s : State) : State := (List.range 64).foldl beaconPort s

/-! Telemetry (R329, R330, R357, R358, R375). -/

/-- The frame an echo names as one of the module's own, or none when it is later than n - 2 (R358). -/
def echoFrame (s : State) (echo : Nat) : Option Nat :=
  let back := (s.seq.frame - 2 + 4294967296 - echo % 4294967296) % 4294967296
  if back ≤ s.seq.frame - 2 && 2 ≤ s.seq.frame then some (s.seq.frame - 2 - back) else none

/-- The frame that an echo of the former holder names, translated by D (R375, R510) and held to n - 2. -/
def formerEcho (s : State) (echo : Nat) : Option Nat :=
  let back := (((s.seq.frame : Int) - s.pair.delta - (echo : Int)) % 4294967296).toNat
  if back ≤ s.seq.frame then some (s.seq.frame - max 2 back) else none

/-- An echo names a record of this unit's own: c0 <= e <= n - 2 during plant control (R375). -/
def ownEcho (s : State) (echo : Nat) : Bool := match echoFrame s echo with
  | some c => !s.pow.plantControl || decide (s.pow.controlSince ≤ c)
  | none => false

/-- The echo is read as one of the former holder's (R375): any other echo, after a takeover or handover. -/
def formerHolder (s : State) (echo : Nat) : Bool := s.pow.plantControl && s.pair.succeeded && !(ownEcho s echo)

/-- The frame c that an echo stands for (R358, R375). -/
def echoOf (s : State) (echo : Nat) : Option Nat :=
  if formerHolder s echo then formerEcho s echo else echoFrame s echo

/-- A present slot's record is absent in this frame (R330, R375). -/
def absentRecord (p i : Nat) (s : State) : State :=
  capCount 9 (portCount p 13 1 (updSiteC i (fun x => { x with absentRun := x.absentRun + 1, validRun := 0 }) s))

/-- The last cap sent for a site once a record echoes `echo` (R375): the CAP of record c, or the one that the checkpoint
holds where the record was the former holder's. -/
def lastSentBy (s : State) (i : Nat) (x : SiteCaps) (echo : Nat) : Nat :=
  if formerHolder s echo then match s.pair.ckpt with
    | some c => (c.caps.getD i {}).lastSent
    | none => x.lastSent
  else match echoFrame s echo with
    | some c => match x.capHistory.find? fun h => h.1 = c with
      | some h => h.2
      | none => x.lastSent
    | none => x.lastSent

/-- A valid record (R330, R375). During plant control only an echo of n - 2 of the module's own records counts toward
a responsive site. -/
def validRecord (i : Nat) (t : SiteTel) (s : State) : State :=
  let n := s.seq.frame
  let none_ := t.cmdEcho = 4294967295
  let e := echoOf s t.cmdEcho
  let onTime := echoFrame s t.cmdEcho = some (n - 2) && ownEcho s t.cmdEcho
  let s1 := updSiteC i (fun x => { x with
    tel := t, fresh := true, absentRun := 0
    validRun := if s.pow.plantControl && !onTime then 0 else x.validRun + 1
    echo := if none_ then x.echo else e.getD x.echo
    echoed := x.echoed || !none_
    lastSent := if none_ then x.lastSent else lastSentBy s i x t.cmdEcho }) s
  let s2 := if !none_ && e ≠ some (n - 2) then capCount 10 s1 else s1
  takeMean i t s2

/-- The record of a present slot in an accepted TEL (R330, R358, R378). -/
def telRecord (p i : Nat) (t : Option SiteTel) (s : State) : State :=
  match t with
  | none => absentRecord p i s
  | some r =>
    if r.cmdEcho ≠ 4294967295 && (echoOf s r.cmdEcho).isNone then absentRecord p i s
    else if (lport s p).emptied.contains (i % 32) then s
    else validRecord i r s

/-- Slots of a SLOT_MASK, in slot order (R357). -/
def maskSlots (mask : Nat) : List Nat := (List.range 32).filter fun k => bit mask k

/-- A TEL that is accepted (R357, R358): MISSED is shown, and every present slot's record is taken, or is absent where
SLOT_MASK leaves it out. -/
def acceptTel (port missed mask : Nat) (records : List Nat) (s : State) : State :=
  let slots := maskSlots mask
  let s1 := updPort port (fun y => { y with
    telFrame := some s.seq.frame, counters := y.counters.set 14 missed }) s
  let extra := (slots.filter fun k => !(sitePresent s (32 * port + k))).length
  (portSlots s port).foldl (fun t k =>
    telRecord port (32 * port + k) ((slots.findIdx? (· = k)).map (telRecordAt records)) t) (portCount port 6 extra s1)

/-- TEL_RECEIVED (R358): a packet whose CRC and tag pass, as its header, the fields of its TEL header (R357) and the bytes of
its records; `inTime` tells that its last symbol was decoded by offset 39.0 us. A telemetry ingest that overran or whose
clock stands takes nothing (R45, R53). -/
def execTelReceived (port : Nat) (head : List Nat) (interval missed mask : Nat) (records : List Nat) (inTime : Bool)
    (s : State) : Host.Outcome State Fault Refusal :=
  let h := parseHead head
  let n := s.seq.frame
  let s0 := noteValid port (seePhase port h.phase s)
  .next (if s.seq.overran.contains .telemetry || !(clockRuns .telemetry s) then s
    else match headVerdict s port h with
    | .ignored => s
    | .authFail => authFailure port s
    | .unknown => unknownPacket port s0
    | .taken =>
      if h.type ≠ 2 || h.op ≠ 0 then unknownPacket port s0
      else if !inTime then postRun 0x9026 (portCount port 12 1 s0) port
      else if interval + 1 ≠ n || records.length ≠ 64 * (maskSlots mask).length then postRun 0x9026 s0 port
      else if (lport s port).telFrame = some n then portCount port 5 1 s0
      else acceptTel port missed mask records s0)

/-- TEL_DEADLINE (R358): offset 39.0 us passes without a valid TEL. -/
def execTelDeadline (port : Nat) (s : State) : Host.Outcome State Fault Refusal :=
  let x := lport s port
  .next (if !x.session || x.telFrame = some s.seq.frame then s
    else
      let s1 := updPort port (fun y => { y with telFrame := some s.seq.frame }) s
      (portSites s port).foldl (fun t i => absentRecord port i t) s1)

/-- SITE_UNRESPONSIVE (R375). -/
def execSiteUnresponsive (site : Nat) (s : State) : Host.Outcome State Fault Refusal :=
  .next (if 10 ≤ (siteC s site).absentRun || (lport s (linkOf site)).state ≠ .up then siteDown site s else s)

/-- SITE_RESPONSIVE (R375): 10 consecutive valid records on an UP port. -/
def execSiteResponsive (site : Nat) (s : State) : Host.Outcome State Fault Refusal :=
  .next (if sitePresent s site && (lport s (linkOf site)).state = .up && 10 ≤ (siteC s site).validRun &&
      !((lport s (linkOf site)).emptied.contains (site % 32)) && !(responsive s site) then
      post 0x9028 (updSiteC site (fun x => { x with response := .responsive, absentRun := 0 }) s) site
    else s)

/-- A domain cycle that waited for FLOOR_N runs once the line is released (R374, R378). -/
def dueCycle (p : Nat) (s : State) : State :=
  let x := lport s p
  if x.state = .training && 3 ≤ x.trainFails && !(floorLine s p).asserted then
    cycleDomain p (updPort p (fun y => { y with trainFails := 0 }) s)
  else s

def dueCycles (s : State) : State := (List.range 64).foldl (fun t p => dueCycle p t) s

/-- Frame-by-frame marks of the links begin anew. -/
def linkFrame (s : State) : State :=
  let f := fun (x : LinkPort) => { x with codeErrors := 0 }
  let g := fun (x : SiteCaps) => { x with fresh := false }
  portDomains (dueCycles (keySwitch { s with
    link := { s.link with ports := s.link.ports.map f }
    caps := { s.caps with sites := s.caps.sites.map g } }))

end Sys2Proof.Machine
end

