-- ==== Sys2Proof/Machine/PlanVars.lean ====
section
/-! DEFINITION. The plan's horizon, decision variables, boxes and graph ports (R183 to R188, R195, R205, R270). -/

namespace Sys2Proof.Machine


def setPlan (f : Plan → Plan) (s : State) : State := { s with plan := f s.plan }
def planCount (k : Nat) (s : State) : State := setPlan (fun p => { p with counters := upd p.counters k cnt }) s
def updRun (l : Nat) (f : LoopRun → LoopRun) (s : State) : State :=
  setPlan (fun p => { p with loops := upd p.loops l f }) s
def setHeat (f : Heat → Heat) (s : State) : State := { s with heat := f s.heat }
def loopRun (s : State) (l : Nat) : LoopRun := s.plan.loops.getD l {}

/-! Horizon and variables (R184, R185). -/

def blockOf (k : Nat) : Nat :=
  if k < 1 then 0 else if k < 2 then 1 else if k < 4 then 2 else if k < 8 then 3 else if k < 16 then 4
  else if k < 32 then 5 else if k < 64 then 6 else if k < 100 then 7 else if k < 150 then 8 else 9

def blockSteps (b : Nat) : List Nat := (List.range 200).filter fun k => blockOf k = b

/-- The control loop that takes a loop's flow from the plan (R187). -/
def flowLoop (img : Image) (l : Nat) : Option Nat :=
  (List.range img.loops.length).find? fun i =>
    let c := img.loops.getD i {}
    ctlOn c && c.spSource = 1 && c.outKind = 3 && c.outIndex = l && (img.sensors.getD c.input {}).quantity = 2

/-- A spray valve exists: a channel of FUNCTION 3 or a CAN spray valve (R400). -/
def sprayExists (img : Image) : Bool :=
  img.valves.any (fun v => v.function = 3) || (List.range 16).any fun j => canSprayExists img j

/-- The variables of one block, in the order of R185. -/
def planVars (img : Image) : List PlanVar :=
  let ls := (List.range 24).filter fun l => loopConfigured img l
  let dry := img.topology.primary = .dryCooler
  (if img.topology.primary = .facilityWater then [.rowSupply] else []) ++
  ls.map .offset ++ ((ls.filter fun l => (flowLoop img l).isSome).map .flow) ++ [.pump] ++
  (if dry then (([1, 2, 3] : List Nat).filter fun g =>
      (List.range 8).any fun j => (img.fans.getD (8 * (g - 1) + j) {}).present).map .fan else []) ++
  (if dry && sprayExists img then [.spray] else [])

def varIndex (img : Image) (v : PlanVar) : Option Nat := (planVars img).findIdx? (· = v)

/-- Value of a variable in step k of a list of values laid out block by block. -/
def varAt (img : Image) (vars : List Int) (v : PlanVar) (k : Nat) : Option Int :=
  match varIndex img v with
  | some j => vars[blockOf k * (planVars img).length + j]?
  | none => none

def planMode (s : State) (m : RowMode) : ModeCfg := s.img.modes.modes.getD m.code {}

/-- Water allowance (R194), mL. -/
def waterAllowance (x : Snapshot) : Nat := x.waterLeft * 20 / max x.timeLeft 20

/-- Spray is boxed at 0 (R188). -/
def sprayBoxed (s : State) (x : Snapshot) : Bool :=
  s.img.topology.primary ≠ .dryCooler || x.sprayBan || waterAllowance x = 0 ||
  (!(planMode s x.mode).sprayByCost && !s.plan.sprayUnlocked)

/-- Upper edge of the pump demand in step k (R31, R34, R186), for the pumps available at the snapshot (R181). B is the boundary of the next epoch. -/
def pumpUpper (s : State) (x : Snapshot) (k : Nat) : Int :=
  let ok := x.mode = .feast && (List.range s.img.pumps.length).any fun p =>
    let c := s.img.pumps.getD p {}
    c.present && c.overspeedOk && x.pumpsRun.getD p false
  let ends := x.frame + 100 + (k + 1) * 1000
  let inEpisode := match x.episodeEnd with
    | some f => decide (ends < f)
    | none => true
  let rested := match x.restEnd with
    | some f => decide (f ≤ x.frame + 100 + k * 1000)
    | none => true
  let m := (planMode s x.mode).pumpLimit
  if ok && inEpisode && rested then m else min m 10000

/-- Box of a variable in a block (R185 to R188, R205). -/
def varBox (s : State) (x : Snapshot) (b : Nat) (v : PlanVar) : Int × Int :=
  let cap (g : Nat) (u : Int) : Int := match x.pumpMax.getD g none with
    | some m => min u m
    | none => u
  match v with
  | .rowSupply => supplyBox s.img (planMode s x.mode)
  | .offset l =>
    let hi := s.img.limits.supplyMax - s.img.limits.supplyMin
    (min hi (x.raised.getD l 0), hi)
  | .flow l => match flowLoop s.img l with
    | some i => spRange s.img i
    | none => (0, 0)
  | .pump =>
    let hi := cap 0 (((blockSteps b).map (pumpUpper s x)).foldl min (planMode s x.mode).pumpLimit)
    (min (groupCfg s 0).minSpeed hi, hi)
  | .fan g =>
    let hi := cap g 10000
    (min (groupCfg s g).minSpeed hi, hi)
  | .spray => if sprayBoxed s x then (0, 0) else (0, 10000)

/-- Every variable in the layout's order, as block and kind. -/
def allVars (img : Image) : List (Nat × PlanVar) :=
  ((List.range 10).map fun b => (planVars img).map fun v => (b, v)).flatten

/-- The variable is one of the plan's: a loop that is isolated has none (R185). The places of a loop's variables in ports
and inputs stay, because the graph numbers them by the image (DEDUCED, log entry 181). -/
def decides (x : Snapshot) (v : PlanVar) : Bool :=
  match v with
  | .offset l | .flow l => !(x.loops.getD l {}).excluded
  | _ => true

/-- Values held to their boxes (R195); in the place of a variable that the plan does not have, the last value stays. -/
def project (s : State) (x : Snapshot) (vars : List Int) : List Int :=
  (allVars s.img).mapIdx fun i bv =>
    let bx := varBox s x bv.1 bv.2
    if decides x bv.2 then clampI bx.1 bx.2 (vars.getD i bx.1) else x.lineVars.getD i 0

/-- Row supply temperature of step k (R185). -/
def rowSupplyAt (s : State) (x : Snapshot) (vars : List Int) (k : Nat) : Int :=
  (varAt s.img vars .rowSupply k).getD x.tRow

/-- Supply set-point of a loop in step k (R185). -/
def supplyAt (s : State) (x : Snapshot) (vars : List Int) (l k : Nat) : Int :=
  min (rowSupplyAt s x vars k + (varAt s.img vars (.offset l) k).getD 0)
    (supplyBox s.img (planMode s x.mode)).2

/-! Ports the plan reads (R183, R270). -/


def slot0Enabled (s : State) : Bool := (graphSt s 0).loaded && !(graphSt s 0).disabled

/-- The lesser of two values that may be absent. -/
def leastOf (a b : Option Int) : Option Int :=
  match a, b with
  | some x, some y => some (min x y)
  | none, y => y
  | x, none => x

/-- Lower edge of one element of an owner port held to its range; a clamp is counted and logged (R270). -/
def ownerClamp (g : Nat) (hi : Int) (e : PortElem) (s : State) : Int × State :=
  let v := clampI 0 hi e.lo
  if v = e.lo then (v, s)
  else (v, postEvery 10000 0x6053 (updGraph g (fun y => { y with clamped := cnt y.clamped }) s) g)

/-- Least lower edge of an owner role's element over the ports of one graph (R270). -/
def ownerEdge (g role i : Nat) (hi : Int) (s : State) : Option Int × State :=
  (roleElements s g role i).foldl (fun (acc : Option Int × State) e =>
    let r := ownerClamp g hi e acc.2
    (leastOf acc.1 (some r.1), r.2)) (none, s)

/-- Least value of an owner role's element over slots 2 to 7 (R183, R270). -/
def ownerLeast (role i : Nat) (hi : Int) (s : State) : Option Int × State :=
  [2, 3, 4, 5, 6, 7].foldl (fun (acc : Option Int × State) g =>
    let r := ownerEdge g role i hi acc.2
    (leastOf acc.1 r.1, r.2)) (none, s)

/-- Owner ports at the snapshot: CAP_SCALE, PUMP_MAX and SPRAY_BAN (R183, R270). -/
def ownerPorts (s : State) : List Nat × List (Option Nat) × Bool × State :=
  let a := (List.range 24).foldl (fun (acc : List Nat × State) l =>
    let r := ownerLeast 7 l 65536 acc.2
    (acc.1 ++ [(r.1.getD 65536).toNat], r.2)) ([], s)
  let b := (List.range 4).foldl (fun (acc : List (Option Nat) × State) g =>
    let r := ownerLeast 8 g 11000 acc.2
    (acc.1 ++ [r.1.map Int.toNat], r.2)) ([], a.2)
  let ban := ([2, 3, 4, 5, 6, 7] : List Nat).any fun g =>
    (roleElements s g 9 0).any fun e => decide (0 < e.lo)
  (a.1, b.1, ban, b.2)

/-- A derivative that pass 1 gives at the center of SENS, in 1/65,536 output count per variable count; 0 where the port has
no element for it (R183). -/
def sens (s : State) (v o : Nat) (second : Bool) : Int :=
  match roleElement s 0 5 (Config.sensIndex v o second) with
  | some e => if e.inf then 0 else e.center
  | none => 0

/-- Codes of the outputs that SENS differentiates. -/
def outCap (l k : Nat) : Nat := 200 * l + k
def outOutlet (l k : Nat) : Nat := 4800 + 200 * l + k
def outPower (k : Nat) : Nat := 9600 + k

/-- The sum of the floors without what Ember grants add, and the excess of an overcommitted loop (R192). -/
def plainFloor (y : LoopSnap) : Nat :=
  y.floorSum - y.emberSum + (if y.overcommit then y.capSum - y.pageCapSum else 0)

end Sys2Proof.Machine
end

