-- ==== Sys2Proof/Machine/Solver.lean ====
section
/-! DEFINITION. The plan's quadratic program: its cost and penalties (R189, R190) and the primal-dual iteration of QP_STEP
in binary32 (R195, R266). Coefficients are formed as exact fractions and rounded once; sums run in ascending order of their
index (DESIGN CHOICE, log entry 25). -/

namespace Sys2Proof.Machine

/-- A fraction; the denominator is positive. -/
structure Frac where
  num : Int := 0
  den : Nat := 1
  deriving DecidableEq, Repr

def fracOf (n : Int) (d : Nat) : Frac := ⟨n, max d 1⟩

def fracAdd (a b : Frac) : Frac :=
  if a.num = 0 then b else if b.num = 0 then a
  else if a.den = b.den then ⟨a.num + b.num, a.den⟩ else ⟨a.num * b.den + b.num * a.den, a.den * b.den⟩

def fracMul (a : Frac) (n : Int) (d : Nat) : Frac := ⟨a.num * n, a.den * max d 1⟩

def fracSum (l : List Frac) : Frac := l.foldl fracAdd {}

def fracF32 (a : Frac) : F32 := f32OfRatio a.num a.den

/-! The cost (R189). -/

/-- The largest of the three weights of the mode. -/
def topWeight (m : ModeCfg) : Nat := max m.wEnergy (max m.wWater m.wCompute)

/-- CAP_LO[l,k] of pass 1: its lower edge scaled by CAP_SCALE (R189, R190). -/
def capLine (s : State) (x : Snapshot) (l k : Nat) : Int :=
  ((roleElement s 0 1 (outCap l k)).getD { lo := -2147483648 }).lo * (x.capScale.getD l 65536 : Nat) / 65536

/-- First derivative of CAP_LO[l,k] with respect to variable j, scaled alike. -/
def capDerivative (s : State) (x : Snapshot) (j l k : Nat) : Frac :=
  fracOf (sens s j (outCap l k) false * (x.capScale.getD l 65536 : Nat)) (65536 * 65536)

/-- Places of the plan's variables among all of them. -/
def deciding (s : State) (x : Snapshot) : List Nat :=
  (List.range (allVars s.img).length).filter fun j => decides x ((allVars s.img).getD j (0, .pump)).2

def loopsIn (x : Snapshot) : List Nat := (List.range 24).filter fun l => !(x.loops.getD l {}).excluded

/-- Neighbours of a variable's value in the blocks beside its own, as places (the move penalty of R189). -/
def neighbours (s : State) (j : Nat) : List Nat :=
  let n := (planVars s.img).length
  (if n ≤ j then [j - n] else []) ++ (if j + n < 10 * n then [j + n] else [])

/-- mu of R189, as a fraction. -/
def muOf (m : ModeCfg) : Frac := fracOf (topWeight m) 64

/-- 0.1 w_energy / 1000 for one 1/65,536 of a count of PLANT_POWER. -/
def energyTerm (m : ModeCfg) (d : Int) : Frac := fracOf (m.wEnergy * d) (10000 * 65536)

/-- 0.1 w_compute / 16000: the weight of a capacity that falls short of the rack limit. -/
def computeWeight (m : ModeCfg) : Frac := fracOf m.wCompute 160000

/-- Diagonal of H for a variable: second derivatives of PLANT_POWER, those of a capacity below the rack limit, and the move
penalty. H is non-negative (R266), so a negative sum counts as 0. -/
def costH (s : State) (x : Snapshot) (m : ModeCfg) (j : Nat) : Frac :=
  let power := fracSum ((List.range 200).map fun k => energyTerm m (sens s j (outPower k) true))
  let caps := fracSum ((loopsIn x).map fun l => fracSum ((List.range 200).map fun k =>
    if capLine s x l k < ((x.loops.getD l {}).rack : Nat) then
      fracMul (computeWeight m) (-(sens s j (outCap l k) true * (x.capScale.getD l 65536 : Nat))) (65536 * 65536)
    else {}))
  let second := fracAdd power caps
  fracAdd (if second.num < 0 then {} else second) (fracMul (muOf m) (2 * (neighbours s j).length) 1)

/-- Spray flow of a variable's block for one count of spray duty, with 0.1 w_water (R189). -/
def sprayTerm (x : Snapshot) (m : ModeCfg) (b : Nat) : Frac :=
  fracOf (m.wWater * x.sprayRate * (blockSteps b).length) (10 * 10000 * 100)

/-- g of a variable: first derivatives of PLANT_POWER and the spray flow, the point of linearisation u0 taken into account,
and the move penalty's cross terms at u0 (DESIGN CHOICE, log entry 25: H is diagonal). -/
def costG (s : State) (x : Snapshot) (m : ModeCfg) (h : Frac) (j : Nat) : Frac :=
  let bv := (allVars s.img).getD j (0, .pump)
  let u0 := x.lineVars.getD j 0
  let power := fracSum ((List.range 200).map fun k => energyTerm m (sens s j (outPower k) false))
  let spray := if bv.2 = .spray then sprayTerm x m bv.1 else {}
  let near := neighbours s j
  -- h u0 is taken out again, but for the share of the move penalty, whose own point is the neighbours' value
  let second := fracAdd h (fracMul (muOf m) (-(2 * (near.length : Int))) 1)
  let cross := fracSum (near.map fun i => fracMul (muOf m) (-(2 * x.lineVars.getD i 0)) 1)
  fracSum [power, spray, fracMul second (-u0) 1, cross]

/-! Penalty terms (R189, R190). -/

/-- A row over the deciding variables from the coefficient of each and its constant: w max(0, a u - b), where the value at
u0 is `v0`. -/
def lineRow (s : State) (x : Snapshot) (coef : Nat → Frac) (v0 : Frac) (w : Frac) : QpRow :=
  let cs := ((deciding s x).map fun j => (j, coef j)).filter fun c => c.2.num ≠ 0
  let at0 := fracSum (cs.map fun c => fracMul c.2 (x.lineVars.getD c.1 0) 1)
  { a := cs.map fun c => (c.1, fracF32 c.2), b := fracF32 (fracAdd at0 (fracMul v0 (-1) 1)), w := fracF32 w }

/-- The capacity terms of the cost: -w min(cap, rack) is -w rack + w max(0, rack - cap) (R189). -/
def capacityRows (s : State) (x : Snapshot) (m : ModeCfg) : List QpRow :=
  (loopsIn x).flatMap fun l => (List.range 200).map fun k =>
    lineRow s x (fun j => fracMul (capDerivative s x j l k) (-1) 1)
      (fracOf (((x.loops.getD l {}).rack : Nat) - capLine s x l k) 1) (computeWeight m)

/-- Penalty weight of R190, per count of the port in violation. -/
def penaltyWeight (m : ModeCfg) : Frac := fracOf (65536 * topWeight m) 1

/-- Outlet constraint of a loop in every step, 1 K inside the limit (R190). -/
def outletRows (s : State) (x : Snapshot) (m : ModeCfg) : List QpRow :=
  (loopsIn x).flatMap fun l => (List.range 200).map fun k =>
    let v := ((roleElement s 0 2 (outOutlet l k - 4800)).getD { hi := 2147483647 }).hi
    lineRow s x (fun j => fracOf (sens s j (outOutlet l k) false) 65536)
      (fracOf (v - (s.img.limits.outletLimit - 64)) 1) (penaltyWeight m)

/-- Floor constraint of a loop, 1 kW above F' (R190). -/
def floorRows (s : State) (x : Snapshot) (m : ModeCfg) : List QpRow :=
  (loopsIn x).map fun l =>
    lineRow s x (fun j => fracMul (capDerivative s x j l 0) (-1) 1)
      (fracOf ((plainFloor (x.loops.getD l {}) : Nat) + 16000 - capLine s x l 0) 1) (penaltyWeight m)

/-- Water constraint over the horizon, 2 % inside the allowance, in mL (R190, R194). -/
def waterRow (s : State) (x : Snapshot) (m : ModeCfg) : QpRow :=
  let coef (j : Nat) : Frac :=
    let bv := (allVars s.img).getD j (0, .pump)
    if bv.2 = .spray then fracOf ((x.sprayRate * (blockSteps bv.1).length : Nat)) 600000 else {}
  let used := fracSum ((deciding s x).map fun j => fracMul (coef j) (x.lineVars.getD j 0) 1)
  lineRow s x coef (fracAdd used (fracOf (-(98 * (waterAllowance x : Nat) : Int)) 100)) (penaltyWeight m)

/-- The problem of an epoch (R189, R190). A place without a variable has neither cost nor room to move. -/
def qpOf (s : State) (x : Snapshot) : Qp :=
  let m := planMode s x.mode
  let vs := allVars s.img
  let held (j : Nat) : Bool := !(decides x (vs.getD j (0, .pump)).2)
  let hs := (List.range vs.length).map fun j => if held j then ({} : Frac) else costH s x m j
  let edge (f : Int × Int → Int) : List F32 := vs.mapIdx fun j bv =>
    f32OfInt (if held j then x.lineVars.getD j 0 else f (varBox s x bv.1 bv.2))
  { h := hs.map fracF32
    g := (List.range vs.length).map fun j => fracF32 (if held j then {} else costG s x m (hs.getD j {}) j)
    lo := edge (·.1), hi := edge (·.2)
    rows := capacityRows s x m ++ outletRows s x m ++ floorRows s x m ++ [waterRow s x m] }

/-! The iteration (R266). -/

/-- Held between two values: NaN stays NaN. -/
def f32Clamp (lo hi x : F32) : F32 := if f32Lt x lo then lo else if f32Lt hi x then hi else x

def rowDot (r : QpRow) (u : List F32) : F32 :=
  f32Sum (r.a.map fun c => f32Mul c.2 (u.getD c.1 0))

/-- Element j of the transpose of A times the dual iterate. -/
def dualPull (q : Qp) (lam : List F32) (j : Nat) : F32 :=
  f32Sum ((List.zip q.rows lam).flatMap fun rl =>
    (rl.1.a.filter fun c => c.1 = j).map fun c => f32Mul c.2 rl.2)

/-- Gradient h u + g + A' lam. -/
def qpGrad (q : Qp) (u lam : List F32) : List F32 :=
  (List.range u.length).map fun j =>
    f32Add (f32Add (f32Mul (q.h.getD j 0) (u.getD j 0)) (q.g.getD j 0)) (dualPull q lam j)

/-- u - t grad, projected onto the box. -/
def qpMove (q : Qp) (t : F32) (u gr : List F32) : List F32 :=
  (List.range u.length).map fun j =>
    f32Clamp (q.lo.getD j 0) (q.hi.getD j 0) (f32Sub (u.getD j 0) (f32Mul t (gr.getD j 0)))

/-- Norm of the projected gradient: the length of u - proj(u - grad) (DESIGN CHOICE, log entry 25). -/
def gradNorm (q : Qp) (u lam : List F32) : F32 :=
  let d := List.zipWith f32Sub u (qpMove q (f32OfInt 1) u (qpGrad q u lam))
  f32Sqrt (f32Dot d d)

/-- The dual iterate after a primal step. -/
def dualStep (q : Qp) (sigma : F32) (u v lam : List F32) : List F32 :=
  let ext := List.zipWith (fun a b => f32Sub (f32Mul (f32OfInt 2) a) b) v u
  List.zipWith (fun r l => f32Clamp 0 r.w (f32Add l (f32Mul sigma (f32Sub (rowDot r ext) r.b)))) q.rows lam

/-- The value rounded toward zero, of a finite non-negative m 2^e. -/
def f32TowardZero (m : Nat) (e : Int) : F32 :=
  let drop := Nat.log2 m - 23
  f32Pack false (m / 2 ^ drop) (e + drop)

/-- 0.99 divided by the Frobenius norm of A, rounded down (R266); an infinity for a norm of 0, 0 for one that is not
finite. -/
def stepSize (q : Qp) : F32 :=
  let sq := f32Sum (q.rows.flatMap fun r => r.a.map fun c => f32Mul c.2 c.2)
  match f32View (f32Sqrt sq) with
  | .fin _ m e => if m = 0 then f32Inf false else f32TowardZero (99 * 2 ^ 80 / (100 * m)) (-80 - e)
  | .inf _ => 0
  | .nan => f32NaN

/-- The start of a run: the warm start with dual iterates of 0 (R195; DESIGN CHOICE, log entry 25). -/
def solverStart (s : State) (x : Snapshot) : Solver :=
  let q := qpOf s x
  let u := x.lineVars.map f32OfInt
  let lam := q.rows.map fun _ => (0 : F32)
  let n := gradNorm q u lam
  { qp := q, tau := stepSize q, u := u, lam := lam, norm0 := n, norm := n }

/-- 10^-4 as binary32. -/
def convergeBound : F32 := f32OfRatio 1 10000

/-- One iteration (R195, R266). -/
def solverStep (v : Solver) : Solver :=
  let u := qpMove v.qp v.tau v.u (qpGrad v.qp v.u v.lam)
  let lam := dualStep v.qp v.tau v.u u v.lam
  let n := gradNorm v.qp u lam
  let hit := f32Lt n (f32Mul convergeBound v.norm0)
  { v with u := u, lam := lam, iter := v.iter + 1, norm := n
           converged := if v.converged.isSome then v.converged else if hit then some (v.iter + 1) else none }

/-- The five iterations of one frame (R273), up to 200. -/
def solverFrame (v : Solver) : Solver :=
  (List.range 5).foldl (fun w _ => if w.iter < 200 then solverStep w else w) v

/-- Final norm relative to iteration 0, as binary32 (R210). -/
def solverResidual (v : Solver) : Nat := (f32Div v.norm v.norm0).toNat

end Sys2Proof.Machine
end

