-- ==== Sys2Proof/Machine/Plan.lean ====
section
/-! DEFINITION. The row plan: snapshot, derivations, feasibility, plan states, surge credit, Ember and the plan epoch
boundary (R29 to R36, R178 to R209). -/

namespace Sys2Proof.Machine

/-! Snapshot (R181). -/

def nonFreePool (s : State) (l : Nat) : Nat :=
  (loopRange s l).countP fun k => inPool (page s k) && (page s k).state ≠ .free

/-- What the snapshot latches for one loop at the boundary. -/
def loopSnap (s : State) (l : Nat) : LoopSnap :=
  let x := loopP s l
  { excluded := !(loopConfigured s.img l) || x.isolated
    floorSum := x.floorSum, emberSum := x.emberSum, capSum := x.capSum, pageCapSum := x.pageCapSum, overcommit := x.overcommit
    nonFree := nonFreePool s l, rack := rackInForce s l
    surgeHeld := ((surgePages s l).filter fun k => (page s k).state = .held).length
    guaranteed := (loopRange s l).countP fun k => (page s k).state = .held && isGuaranteed s k }

/-- PLAN_SNAPSHOT (R181): what stands at the boundary of frame 100e. Under SET_SPRAY_INHIBIT no water is left (R399). -/
def planSnapshot (s : State) : State :=
  let o := ownerPorts s
  let s1 := o.2.2.2
  let eps := (s.pump.pumps.mapIdx fun p x => if (s.img.pumps.getD p {}).overspeedOk then x.episode else none).filterMap id
  let rests := (s.pump.pumps.mapIdx fun p x => if (s.img.pumps.getD p {}).overspeedOk then x.restEnd else none).filterMap id
  let x : Snapshot :=
    { frame := s.seq.frame, mode := s.plan.mode, loops := (List.range 24).map (loopSnap s)
      waterLeft := if s.pump.sprayInhibit then 0 else waterLeftMl s, timeLeft := timeLeft s
      sprayRate := ((sprayServed s).map fun v => (s.pump.spray.getD v {}).rate).sum
      episodeEnd := if eps.isEmpty then none else some (listMin 0 eps + 1200000)
      restEnd := if rests.isEmpty then none else some (listMax rests)
      pumpsRun := s.pump.pumps.map fun p => decide (p.state = .run)
      fansRun := s.pump.fans.map fun f => decide (f.state = .run)
      capScale := o.1, pumpMax := o.2.1, sprayBan := o.2.2.1
      fbReady := decide (5 ≤ s.plan.sampleEpochs), raised := List.replicate 24 0 }
  setPlan (fun p => { p with snap := some x }) s1

/-! Measured inputs of the snapshot and Ember (R181, R204). -/

/-- Highest die temperature of the last 60 s (R204). -/
def tHot (s : State) (l : Nat) : Option Int :=
  match (loopRun s l).hot.filterMap id with
  | [] => none
  | a :: t => some (t.foldl max a)

/-- One frame of the 1 s buckets (R204). -/
def hotLoop (s : State) (l : Nat) : State :=
  let ts := ((loopSites s l).filter (responsive s)).filterMap fun i => (siteC s i).tel.dieTemp
  let top := match ts with
    | [] => none
    | a :: t => some (t.foldl max a)
  let merge (b : Option Int) : Option Int := match b, top with
    | some x, some y => some (max x y)
    | none, y => y
    | x, none => x
  updRun l (fun r =>
    let h := if s.seq.frame % 10000 = 0 || r.hot.isEmpty then (none :: r.hot).take 60 else r.hot
    { r with hot := upd h 0 merge }) s

def hotFrame (s : State) : State := (List.range 24).foldl hotLoop s

/-- FLOOR_EFF (R204); none while no die temperature has been reported. -/
def floorEff (s : State) (m : ModeCfg) (l : Nat) : Option Int :=
  (tHot s l).map fun t => min (max m.emberFloor (t - m.emberAmplitude)) (s.img.limits.outletLimit - 320)

/-- The first two conditions of a cold site (R204). -/
def emberCandidate (s : State) (i : Nat) : Bool :=
  responsive s i &&
  (match (siteP s i).tenant with
   | some t => (tenantCfg s t).allowEmber
   | none => false) &&
  !((heldBy s i).any fun k => (page s k).surge || isOrdinary (page s k))

/-- Cold sites of a loop (R204): a cold site stays cold until it reaches FLOOR_EFF + 1 K. -/
def coldSites (s : State) (l : Nat) (eff : Int) : List Nat :=
  (loopSites s l).filter fun i => emberCandidate s i &&
    (match (siteC s i).tel.dieTemp with
     | some t => decide (t < eff) || ((loopRun s l).cold.contains i && decide (t < eff + 64))
     | none => false)

/-- RISE: the lower middle value of the rises over the loop's supply, at least 0 (R204). -/
def riseOf (s : State) (cold : List Nat) (supply : Int) : Int :=
  let r := sortBy (fun (a b : Int) => decide (a < b)) (cold.map fun i => ((siteC s i).tel.dieTemp.getD 0) - supply)
  max 0 (r.getD ((r.length - 1) / 2) 0)

/-- Measured part of the snapshot, from the samples of frame 100e, with the linearisation point (R181, R195, R204). -/
def measureSnap (s : State) (x : Snapshot) : Snapshot :=
  let sup (l : Nat) : Option Int := sensorValue s (loopCfg s l).tSupply
  let loops := x.loops.mapIdx fun l y => { y with supply := sup l, returnTemp := sensorValue s (loopCfg s l).tReturn }
  let sups := (List.range 24).filterMap fun l => if (x.loops.getD l {}).excluded then none else sup l
  let tRow := match sups with
    | [] => s.plan.lastRowSupply.getD s.img.limits.supplyMin
    | a :: t => t.foldl min a
  let m := planMode s x.mode
  let eff := (List.range 24).map fun l => if (x.loops.getD l {}).excluded then none else floorEff s m l
  let cold := (List.range 24).map fun l => match eff.getD l none with
    | some e => coldSites s l e
    | none => []
  let desired := (List.range 24).map fun l =>
    match eff.getD l none, sup l with
    | some e, some t => if (cold.getD l []).isEmpty then none else some (e - riseOf s (cold.getD l []) t)
    | _, _ => none
  let y : Snapshot := { x with loops := loops, tRow := tRow, floorEff := eff, desired := desired }
  let present : List Int := (allVars s.img).map fun bv => match bv.2 with
    | .rowSupply => tRow
    | .offset l => ((sup l).getD tRow) - tRow
    | .flow l => (sensorValue s (loopCfg s l).flow).getD 0
    | .pump => listMax ((List.range 4).map fun p => if x.pumpsRun.getD p false then (pumpSt s p).speedCmd else 0)
    | .fan g => listMax ((List.range 8).map fun j =>
        let f := 8 * (g - 1) + j
        if x.fansRun.getD f false then (fanSt s f).speedCmd else 0)
    | .spray => sprayDuty s
  let prev := match s.plan.inForce with
    | some p => if p.vars.length = present.length then p.vars else present
    | none => present
  { y with lineVars := project s { y with lineVars := prev } prev }

/-- Cold sites of every loop, kept from epoch to epoch (R204). -/
def keepCold (s : State) (x : Snapshot) : State :=
  (List.range 24).foldl (fun t l => updRun l (fun r => { r with cold := match x.floorEff.getD l none with
    | some e => coldSites s l e
    | none => [] }) t) s

/-- The supply to which the pass 1 linearisation of CAP_LO[l,0], scaled by CAP_SCALE, lets the loop's supply rise, if it
falls at all (R205). -/
def supplyRoom (s : State) (x : Snapshot) (l : Nat) : Option Int :=
  let now := supplyAt s x x.lineVars l 0
  match roleElement s 0 1 (200 * l), varIndex s.img (.offset l) with
  | some _, some v =>
    let y := x.loops.getD l {}
    let room : Int := capLine s x l 0 - (y.floorSum + 2000 * y.nonFree : Nat)
    let slope := sens s v (outCap l 0) false * (x.capScale.getD l 65536 : Nat)
    if slope < 0 then some (now + room * (65536 * 65536) / (-slope)) else if room < 0 then some now else none
  | _, _ => some now

/-- Raised lower edges of the supply offsets (R205). The set-point stays at or above its floor wherever the row supply
comes to lie: at its lower edge in a facility-water row, at T_row in a dry-cooler row (R185). -/
def emberBox (s : State) (x : Snapshot) : Snapshot :=
  let hi := s.img.limits.supplyMax - s.img.limits.supplyMin
  { x with raised := (List.range 24).map fun l => match x.desired.getD l none with
    | none => 0
    | some d =>
      let sp := match supplyRoom s x l with
        | some r => min d r
        | none => d
      clampI 0 hi (sp - (if s.img.topology.primary = .facilityWater then (varBox s x 0 .rowSupply).1 else x.tRow)) }

/-- EMBER_SUPPLY and event 0x5030 at the start of each run (R205). -/
def emberSupplyRun (s : State) (x : Snapshot) : State :=
  (List.range 24).foldl (fun t l =>
    let on := decide (0 < x.raised.getD l 0)
    let s1 := updRun l (fun r => { r with emberRun := on }) t
    if on && !(loopRun t l).emberRun then post 0x5030 s1 l else s1) s

/-- The solver's result, projected onto the boxes (R195). -/
def takeSolution (s : State) (x : Snapshot) : Snapshot :=
  let n := (allVars s.img).length
  let es := (List.range n).map fun j => roleElement s 0 6 j
  { x with
    solution := if es.all (·.isSome) then some (project s x (es.map fun e => (e.getD {}).center)) else none
    solverBad := es.any fun e => (e.getD {}).inf
    converged := x.solver.bind (·.converged), residual := (x.solver.map solverResidual).getD 0 }

/-- Pages that a capacity leaves above a floor (R193). -/
def poolFrom (s : State) (l : Nat) (cap : Int) (f : Nat) : Nat :=
  (clampI 0 (s.img.pages.poolMax.getD l 0) ((cap - f) / 2000)).toNat

/-- Surge ceiling of a loop (R200). -/
def surgeCeiling (m : ModeCfg) (capLow : Int) : Int := capLow * (100 + m.surgePct : Nat) / 100

/-- The heat at which a stage of slot 0 judges a loop: its surge ceiling in pass 2b (R200), and otherwise the greater of
CAP_SUM at the snapshot and F' with the pool that the last CAP_LO gives (R190, R191; DESIGN CHOICE, log entry 182). -/
def statedHeat (s : State) (x : Snapshot) (stage l : Nat) : Int :=
  let y := x.loops.getD l {}
  if y.excluded then 0
  else if stage = 4 then surgeCeiling (planMode s x.mode) ((x.derived.getD []).getD l {}).capLow
  else max y.capSum (plainFloor y + 2000 * poolFrom s l (capLine s x l 0) (plainFloor y) : Nat)

/-- Plan variables that a stage of slot 0 reads (R273), followed by the heat of each loop. -/
def stageVars (s : State) (stage : Nat) : List Int :=
  match s.plan.snap with
  | none => []
  | some x => (if stage = 1 then x.lineVars else x.solution.getD []) ++ (List.range 24).map (statedHeat s x stage)

/-- Frame of the epoch in progress (R178). -/
def epochFrame (s : State) : Nat := s.seq.frame % 100

def setSnap (x : Snapshot) (s : State) : State := setPlan (fun p => { p with snap := some x }) s

/-- Plan work before the engine slice: measured inputs in frame 0, with that frame's die temperatures (R181, R204), the
Ember box before the solver, the solver's iterations, the solution before pass 2a (R179). -/
def planBefore (s : State) : State :=
  match s.plan.snap with
  | none => s
  | some x =>
    let j := epochFrame s
    if j = 0 then
      let y := measureSnap (hotFrame s) x
      setPlan (fun p => { p with lastRowSupply := some y.tRow }) (setSnap y (keepCold s y))
    else if j = 30 then
      let y := emberBox s x
      setSnap { y with solver := some (solverFrame (solverStart s y)) } (emberSupplyRun s y)
    else if 31 ≤ j ∧ j ≤ 69 then setSnap { x with solver := x.solver.map solverFrame } s
    else if j = 70 then setSnap (takeSolution s x) s
    else s

/-- After the engine slice: an evaluation of slot 0 out of domain makes the epoch infeasible with reason 4 (R182). -/
def planAfterEngine (s : State) : State :=
  let g := graphSt s 0
  let ood := ((g.done.map (·.eval)) ++ g.eval.toList).any fun e => e.outOfDomain
  match s.plan.snap with
  | some x => if ood then setSnap { x with outOfDomain := true } s else s
  | none => s

/-! Derivation 1 (R192, R193, R206). -/

/-- Ember grants of a loop: its cold sites in ascending order while the floors' increases fit (R206). A site granted
before keeps its grant while it stays cold. -/
def emberGrants (s : State) (m : ModeCfg) (x : Snapshot) (sol : List Int) (l : Nat) (capLow : Int) : List Nat × Nat :=
  let y := x.loops.getD l {}
  let short := match x.desired.getD l none with
    | some d => decide (supplyAt s x sol l 0 + 32 < d)
    | none => false
  let cand := (loopRun s l).cold.filter fun i => short || (siteP s i).ember
  let room : Int := capLow - (y.floorSum - y.emberSum : Nat) - 2000 * y.nonFree
  let r := cand.foldl (fun (acc : List Nat × Nat × Bool) i =>
    let f := (slotCfg s i).floorCap
    let add := max f m.emberPower - f
    if acc.2.2 || room < (acc.2.1 + add : Nat) then (acc.1, acc.2.1, true)
    else (acc.1 ++ [i], acc.2.1 + add, false)) ([], 0, false)
  (r.1, r.2.1)

/-- F' of a loop (R192): the floor sum at the snapshot counts the grants in force in frame 100e - 1, so they are taken out
before the grants of this plan are added. -/
def floorPlan (y : LoopSnap) (ember : Nat) : Nat := plainFloor y + ember

/-- What an excluded loop keeps (R185, R193). -/
def excludedPlan (s : State) (l : Nat) : LoopPlan :=
  let o := match s.plan.inForce with
    | some p => p.loops.getD l {}
    | none => {}
  { excluded := true, supplySp := o.supplySp, flowSp := o.flowSp }

/-- Derivation 1 for one loop. -/
def deriveLoop (s : State) (x : Snapshot) (sol : List Int) (l : Nat) : LoopPlan :=
  let y := x.loops.getD l {}
  if y.excluded then excludedPlan s l
  else
    let e := (roleElement s 0 1 (200 * l)).getD { lo := -2147483648 }
    let capLow := e.lo * (x.capScale.getD l 65536 : Nat) / 65536
    let g := emberGrants s (planMode s x.mode) x sol l capLow
    let f := floorPlan y g.2
    { capLow := capLow, capCenter := e.center
      outletHi := (roleElement s 0 2 (200 * l)).map (·.hi)
      supplySp := supplyAt s x sol l 0, flowSp := ((varAt s.img sol (.flow l) 0).getD 0).toNat
      pool := poolFrom s l capLow f, rack := y.rack, floorPlan := f
      ocApplied := y.overcommit && y.pageCapSum < y.capSum
      floorEff := x.floorEff.getD l none, emberSupply := decide (0 < x.raised.getD l 0), emberSites := g.1 }

/-- Least margin to OUTLET_LIMIT in each step (R212). -/
def marginAt (s : State) (x : Snapshot) (k : Nat) : Option Int :=
  let hs := (List.range 24).filterMap fun l =>
    if (x.loops.getD l {}).excluded then none else (roleElement s 0 2 (200 * l + k)).map (·.hi)
  match hs with
  | [] => none
  | a :: t => some (satS 16 (s.img.limits.outletLimit - t.foldl max a))

/-- DERIVATION_1 (R193), with the unlocking of spray (R188). -/
def derivation1 (s : State) (x : Snapshot) : State :=
  match x.solution with
  | none => s
  | some sol =>
    let ls := (List.range 24).map (deriveLoop s x sol)
    let tight := !(planMode s x.mode).sprayByCost && (List.range 24).any fun l =>
      let p := ls.getD l {}
      !p.excluded && decide (p.capLow < (p.floorPlan + 2000 * (x.loops.getD l {}).guaranteed : Nat))
    let s1 := setSnap { x with derived := some ls, margin := (List.range 200).map (marginAt s x) } s
    setPlan (fun p => { p with unlockDue := p.unlockDue || tight }) s1

/-! Derivation 2 (R191, R200). -/

/-- h: leading steps in which the surge scenario stays within OUTLET_LIMIT (R200, R282). -/
def surgeSteps (s : State) (l : Nat) : Nat :=
  if 5 ≤ s.eng.shedSteps then 0
  else ((List.range 200).takeWhile fun k => match roleElement s 0 3 (200 * l + k) with
    | some e => decide (e.hi ≤ s.img.limits.outletLimit)
    | none => false).length

/-- Surge ceiling and fresh credit of a loop (R200). -/
def surgeLoop (s : State) (x : Snapshot) (l : Nat) (p : LoopPlan) : LoopPlan :=
  if p.excluded || x.mode ≠ .feast then p
  else
    let ceil := surgeCeiling (planMode s x.mode) p.capLow
    let h := surgeSteps s l
    let d := ceilDiv s.img.limits.chipCap s.img.pages.slopeDown + 2
    { p with ceil := ceil.toNat, surgeSteps := h
             fresh := (max 0 ((ceil - p.capLow) * ((1000 * h : Nat) - (d : Int)))).toNat }

/-- Planned water, in 1/600,000 mL (R191). -/
def plannedWater (duty : List Nat) (rate : Nat) : Nat := (duty.map (· * rate)).sum

/-- The plan's outputs over the horizon from the values of its variables. -/
def planOutputs (s : State) (x : Snapshot) (kind : PlanKind) (vars : List Int) (ls : List LoopPlan)
    (margin : List (Option Int)) : PlanValues :=
  let at_ (v : PlanVar) (d : Nat) : List Nat := (List.range 200).map fun k => ((varAt s.img vars v k).getD d).toNat
  let spray := at_ .spray 0
  { kind := kind, epoch := x.frame / 100, mode := x.mode, vars := vars
    rowSupply := (List.range 200).map (rowSupplyAt s x vars), pump := at_ .pump 0
    fans := [1, 2, 3].map fun g => at_ (.fan g) 0, spray := spray, margin := margin, loops := ls
    waterAllow := waterAllowance x, waterPlanned := plannedWater spray x.sprayRate / 600000 }

/-- The first check of R191 that fails, or 0. -/
def feasibility (s : State) (x : Snapshot) (ls : List LoopPlan) (spray : List Nat) : Nat :=
  let inUse := ls.filter fun p => !p.excluded
  if x.outOfDomain then 4
  else if inUse.any fun p => decide (p.capLow < p.floorPlan) then 2
  else if inUse.any fun p => decide (s.img.limits.outletLimit < p.outletHi.getD 2147483647) then 1
  else if waterAllowance x * 600000 < plannedWater spray x.sprayRate then 3
  else if x.solverBad then 6 else 0

/-- DERIVATION_2 (R191): a slice lost, or a stage without a result, is reason 5. -/
def derivation2 (s : State) (x : Snapshot) : State :=
  match x.solution, x.derived with
  | some sol, some ls =>
    let ls2 := ls.mapIdx (surgeLoop s x)
    let v := planOutputs s x .surrogate sol ls2 x.margin
    let r := if x.lost || (graphSt s 0).abandoned then 5 else feasibility s x ls2 v.spray
    setSnap { x with result := some (r, v) } s
  | _, _ => setSnap { x with result := some (5, {}) } s

/-! Fallback and held plans (R197 to R199). -/

/-- cap_fb of a loop (R198). -/
def capFallback (s : State) (l : Nat) : Nat :=
  let r := loopRun s l
  match r.lastFlow, r.lastSupply with
  | some f, some t =>
    if r.lastMissing then 0
    else
      let flow := f * 98 / 100 - 5
      let dt := (s.img.limits.outletLimit - 512 - (t + 32)).toNat
      13 * flow * dt / 8
  | _, _ => 0

/-- Spray duty at the allowance rate while a return is near the limit (R199). -/
def fallbackSpray (s : State) (x : Snapshot) : Nat :=
  let near := (x.loops.filter fun y => !y.excluded).any fun y => match y.returnTemp with
    | some t => decide (s.img.limits.outletLimit - 512 - 192 ≤ t)
    | none => false
  if s.img.topology.primary ≠ .dryCooler || x.sprayBan || !near || x.sprayRate = 0 then 0
  else min 10000 (waterAllowance x * 3000 / x.sprayRate)

/-- The fallback plan (R199): row and loop supplies at the lower edge of the mode's supply box, in a dry-cooler row too. -/
def fallbackPlan (s : State) (x : Snapshot) : PlanValues :=
  let duty := fallbackSpray s x
  let y : Snapshot := { x with raised := List.replicate 24 0, tRow := (supplyBox s.img (planMode s x.mode)).1 }
  let vars : List Int := (allVars s.img).map fun bv => match bv.2 with
    | .pump => 10000
    | .fan _ => 10000
    | .spray => duty
    | .flow l =>
      let b := varBox s y bv.1 bv.2
      clampI b.1 b.2 (Config.fallbackFlow s.free l)
    | v => (varBox s y bv.1 v).1
  let ls := (List.range 24).map fun l =>
    let z := x.loops.getD l {}
    if z.excluded then excludedPlan s l
    else
      let cap : Nat := capFallback s l * x.capScale.getD l 65536 / 65536
      let f := floorPlan z 0
      ({ capLow := cap, supplySp := supplyAt s y vars l 0, flowSp := ((varAt s.img vars (.flow l) 0).getD 0).toNat
         pool := poolFrom s l cap f, rack := z.rack, floorPlan := f
         ocApplied := z.overcommit && z.pageCapSum < z.capSum, floorEff := x.floorEff.getD l none } : LoopPlan)
  planOutputs s y .fallback vars ls (List.replicate 200 none)

/-- The held plan (R197). -/
def heldPlan (s : State) (x : Snapshot) (p : PlanValues) : PlanValues :=
  let keep := fun (l : Nat) (q : LoopPlan) =>
    let y := x.loops.getD l {}
    if y.excluded then excludedPlan s l
    else { q with excluded := false, pool := min q.pool y.nonFree, surgePool := min (loopP s l).surgePool y.surgeHeld }
  { p with kind := .held, epoch := x.frame / 100, loops := p.loops.mapIdx keep }

/-! The plan states (R196). -/

def enterFallback (s : State) : State :=
  post 0x5003 (planCount 4 (setPlan (fun p => { p with state := .fallback, infeasibleRun := 0, returnRun := 0 }) s))

/-- Writes the fallback plan to the shadow as R198 allows. -/
def commitFallback (x : Snapshot) (s : State) : State :=
  if x.fbReady then
    let v := fallbackPlan s x
    let low := (List.range 24).filter fun l =>
      let p := v.loops.getD l {}
      !p.excluded && decide (capFallback s l < p.floorPlan)
    let s1 := setPlan (fun p => { p with shadow := some v, reason := if low.isEmpty then p.reason else 2 })
      { s with free := s.free + 1 }
    low.foldl (fun t l => postRun 0x5042 t l) s1
  else s

def commitSurrogate (v : PlanValues) (s : State) : State :=
  setPlan (fun p => { p with state := .surrogate, shadow := some v, infeasibleRun := 0, returnRun := 0 }) s

/-- A feasible epoch (R196). -/
def feasibleEpoch (x : Snapshot) (v : PlanValues) (s : State) : State :=
  match s.plan.state with
  | .wait | .surrogate => commitSurrogate v s
  | .held => post 0x5004 (commitSurrogate v s)
  | .fallback =>
    if 2 ≤ s.plan.returnRun then
      let s1 := post 0x5004 (commitSurrogate v s)
      { s1 with pump := { s1.pump with leftFallback := some s1.seq.frame } }
    else commitFallback x (setPlan (fun p => { p with returnRun := p.returnRun + 1 }) s)
  | .stopped => s

/-- An infeasible epoch (R196). -/
def infeasibleEpoch (x : Snapshot) (s : State) : State :=
  let c := s.plan.infeasibleRun + 1
  match s.plan.state with
  | .wait =>
    if c < 5 then setPlan (fun p => { p with infeasibleRun := c }) s
    else commitFallback x (enterFallback (post 0x5002 s))
  | .surrogate =>
    let s1 := postRun 0x5001 (planCount 3 (setPlan (fun p => { p with state := .held, infeasibleRun := 1 }) s))
    setPlan (fun p => { p with shadow := p.inForce.map (heldPlan s x) }) s1
  | .held =>
    if c < 5 then
      markRun 0x5001 0xFFFF (setPlan (fun p => { p with infeasibleRun := c, shadow := p.inForce.map (heldPlan s x) }) s)
    else commitFallback x (enterFallback (post 0x5002 s))
  | .fallback => commitFallback x (setPlan (fun p => { p with returnRun := 0 }) s)
  | .stopped => s

/-- Status, counters and events of an epoch's result (R195, R210, R213): 0x5007 is for a lost slice of slot 0. -/
def noteResult (r : Nat) (x : Snapshot) (v : PlanValues) (s : State) : State :=
  let s1 := setPlan (fun p => { p with
    feasible := decide (r = 0), reason := if r = 0 then p.reason else r, converged := x.converged.isSome
    iterations := min 200 (x.converged.getD 200), residual := x.residual
    zeroRun := if r ≠ 5 && v.spray.getD 0 0 = 0 then p.zeroRun + 1 else 0 }) s
  let s2 := planCount (if r = 0 then 0 else 1) s1
  let s3 := if x.converged.isNone && x.solution.isSome then postRun 0x5005 (planCount 2 s2) else s2
  let s4 := if r ≠ 5 then s3
    else if (graphSt s 0).abandoned || !x.lost then postRun 0x5007 (planCount 5 s3) else planCount 5 s3
  let s5 := if r = 4 then postRun 0x5006 (planCount 6 s4) else s4
  let limited := v.waterPlanned ≠ 0 && decide (98 * v.waterAllow ≤ 100 * v.waterPlanned)
  if limited then postRun 0x5041 s5 else s5

/-- PLAN_COMMIT (R196): frame 98 of the epoch. -/
def planCommit (s : State) : State :=
  match s.plan.snap with
  | none => s
  | some x =>
    if s.plan.state = .stopped then s
    else if !slot0Enabled s then
      commitFallback x (if s.plan.state = .fallback then setPlan (fun p => { p with returnRun := 0 }) s
        else enterFallback s)
    else
      let r := match x.result with
        | some q => if x.lost || (graphSt s 0).abandoned then (5, q.2) else q
        | none => (5, {})
      let s1 := noteResult r.1 x r.2 s
      if r.1 = 0 then feasibleEpoch x r.2 s1 else infeasibleEpoch x s1

/-- ROW_PLAN_SLICE (R179): the core stage that falls in this frame. -/
def planSlice (s : State) : State :=
  let s0 := hotFrame s
  match s0.plan.snap with
  | none => s0
  | some x =>
    if epochFrame s = 80 then derivation1 s0 x
    else if epochFrame s = 97 then derivation2 s0 x
    else if epochFrame s = 98 then planCommit s0
    else s0

/-- A core stage did not complete in its frame (R180): the epoch is infeasible, and a commit still takes place. -/
def planSliceLost (s : State) : State :=
  let j := epochFrame s
  if j = 0 || j = 80 || (91 ≤ j && j ≤ 97) then
    match s.plan.snap with
    | some x => setSnap { x with lost := true } s
    | none => s
  else if j = 98 then
    match s.plan.snap with
    | some x => planCommit (setSnap { x with lost := true } s)
    | none => s
  else s

/-! Samples of the fallback model (R198). -/

def sampleLoop (s : State) (l : Nat) : State :=
  let f := sensorValue s (loopCfg s l).flow
  let t := sensorValue s (loopCfg s l).tSupply
  updRun l (fun r => { r with
    flowMin := match f, r.flowMin with
      | some a, some b => some (min a.toNat b)
      | some a, none => some a.toNat
      | none, b => b
    supplyMax := match t, r.supplyMax with
      | some a, some b => some (max a b)
      | some a, none => some a
      | none, b => b
    sampleMissing := r.sampleMissing || f.isNone || t.isNone }) s

/-- Samples of one frame, taken in the Ingest phase. -/
def planSamples (s : State) : State := (List.range 24).foldl sampleLoop s

/-- A whole epoch of samples ends. -/
def rollSamples (s : State) : State :=
  let whole := decide (s.plan.sampleStart + 100 ≤ s.seq.frame)
  setPlan (fun p => { p with
    sampleEpochs := if whole then p.sampleEpochs + 1 else p.sampleEpochs, sampleStart := s.seq.frame
    loops := p.loops.map fun r => { r with
      lastFlow := r.flowMin, lastSupply := r.supplyMax, lastMissing := r.sampleMissing || !whole
      flowMin := none, supplyMax := none, sampleMissing := false } }) s

/-! The plan epoch boundary (R30, R35, R36, R201, R207, R208). -/

/-- A mode request is accepted for the boundary of frame `due` (R30): the last one for a boundary applies, each earlier
one is logged. -/
def requestMode (due : Nat) (m : RowMode) (s : State) : State :=
  let old := s.plan.requests.find? fun r => r.due = due
  let s1 := if old.isSome then post 0x5011 s else s
  let r : ModeReq := ⟨due, m, if m = .feast then old.bind (·.low) else some m⟩
  setPlan (fun p => { p with requests := p.requests.filter (fun q => q.due ≠ due) ++ [r] }) s1

/-- Frame of the next plan epoch boundary that has not run: that of the frame in progress as long as the frame is at its
boundary and the plan's work there has not been done. -/
def boundaryAhead (s : State) : Nat :=
  if s.seq.frame % 100 = 0 && s.seq.phase = 0 && s.plan.lastBoundary ≠ some s.seq.frame then s.seq.frame
  else (s.seq.frame / 100 + 1) * 100

/-- The request that the boundary of frame `b` takes (R30). -/
def requestAt (s : State) (b : Nat) : Option ModeReq := (s.plan.requests.filter fun r => r.due ≤ b).getLast?

/-- The mode requests that the boundary of frame `b` takes are used up. -/
def takeRequests (b : Nat) (s : State) : State :=
  setPlan (fun p => { p with requests := p.requests.filter fun r => b < r.due }) s

/-- Mode and limit requests of a module that runs no plan end at their boundary (log entry 170). -/
def dropRequests (b : Nat) (s : State) : State :=
  setHeat (fun h => { h with limitRequests := h.limitRequests.filter fun r => b < r.due }) (takeRequests b s)

/-- A cause of R36 holds. -/
def lowerCause (s : State) : Bool := s.plan.state = .fallback || inHold s || s.plan.lowerDue

/-- Mode from a boundary on, given the request that it takes (R29, R30, R36). -/
def modeFrom (s : State) (q : Option ModeReq) : RowMode :=
  let base := if s.plan.started || !s.pow.plantControl then s.plan.mode else RowMode.ofCode s.img.modes.startMode
  match q with
  | none => if lowerCause s && base = .feast then .steady else base
  | some r =>
    if r.mode = .feast && lowerCause s then r.low.getD (if base = .feast then .steady else base) else r.mode

/-- Mode at the next plan epoch boundary as things stand (R30, R36, R210). -/
def modeNext (s : State) : RowMode := modeFrom s (requestAt s (boundaryAhead s))

/-- Mode change at the boundary (R29, R30, R36). -/
def modeBoundary (s : State) : State :=
  let q := requestAt s s.seq.frame
  let m := modeFrom s q
  let dropped := lowerCause s && (q.map (·.mode)) = some .feast
  let lowered := lowerCause s && s.plan.mode = .feast && (q.bind (·.low)).isNone
  let s1 := setPlan (fun p => { p with
    mode := m, lowerDue := false, started := p.started || s.pow.plantControl }) (takeRequests s.seq.frame s)
  let s2 := if dropped then post 0x5011 s1 else s1
  let s3 := if lowered then post 0x5012 s2 else s2
  if m = s.plan.mode then s3 else post 0x5010 s3

/-- One limit request takes effect (R152, R600). -/
def applyLimit (h : Heat) (r : LimitReq) : Heat := match r.loop with
  | none => { h with rowLimit := r.limit }
  | some l => { h with rackLimit := h.rackLimit.set l r.limit }

/-- The limit requests that the boundary of frame `b` takes, in order of arrival. -/
def limitBoundary (s : State) : State :=
  let due := s.heat.limitRequests.filter fun r => r.due ≤ s.seq.frame
  let rest := s.heat.limitRequests.filter fun r => s.seq.frame < r.due
  setHeat (fun h => due.foldl applyLimit { h with limitRequests := rest }) s

/-- Credit, arming and surge pool of a loop when a plan takes effect (R201, R203). -/
def creditLoop (v : PlanValues) (l : Nat) (s : State) : State :=
  let p := v.loops.getD l {}
  let out := p.excluded || (loopP s l).isolated || s.plan.mode ≠ .feast
  let clear (t : State) : State :=
    updLoopP l (fun y => { y with surgePool := 0 }) (updRun l (fun r => { r with credit := 0, armed := false, exhausted := false }) t)
  match v.kind with
  | .held =>
    if out then clear s
    else updLoopP l (fun y => { y with surgePool := if (loopRun s l).armed then p.surgePool else 0 }) s
  | .fallback => clear s
  | .surrogate =>
    if out || v.mode ≠ .feast then clear (updRun l (fun r => { r with fresh := 0 }) s)
    else
      let x : Int := p.ceil - p.capLow
      let arm := !(loopRun s l).armed && decide (x * 50000 ≤ p.fresh)
      let s1 := updRun l (fun r => { r with fresh := p.fresh }) s
      if (loopRun s l).armed || arm then
        let a : Int := ((p.ceil : Int) - p.floorPlan) / 2000
        let b : Int := ((p.rack : Int) - p.floorPlan) / 2000
        let s2 := updLoopP l (fun y => { y with surgePool := (max 0 (min a b - p.pool)).toNat })
          (updRun l (fun r => { r with armed := true, exhausted := false, credit := satS 64 p.fresh }) s1)
        if arm then post 0x5021 s2 l else s2
      else clear s1

/-- Ember flags of a loop's sites (R206). -/
def emberLoop (v : PlanValues) (l : Nat) (s : State) : State :=
  let p := v.loops.getD l {}
  let want := if p.excluded || (loopP s l).isolated then [] else p.emberSites
  let have_ := (loopSites s l).filter fun i => (siteP s i).ember
  if want = have_ then s
  else
    let s1 := (loopSites s l).foldl (fun t i => updSiteP i (fun y => { y with ember := want.contains i }) t) s
    post 0x5031 (planCount 7 (updRun l (fun r => { r with ember := want }) s1)) l

/-- Targets that control loops take from the plan (R187). -/
def planTargets (v : PlanValues) (s : State) : State :=
  (enabledLoops s).foldl (fun t i =>
    let c := ctlCfg t i
    let p := v.loops.getD c.outIndex {}
    if c.spSource ≠ 1 then t
    else if c.outKind = 5 then updCtl i (fun y => { y with target := v.rowSupply.getD 0 y.target }) t
    else if p.excluded || (loopP t c.outIndex).isolated then t
    else if (sensorCfg t c.input).quantity = 2 then updCtl i (fun y => { y with target := p.flowSp }) t
    else updCtl i (fun y => { y with target := p.supplySp }) t) s

/-- No plan is taken at this boundary, so no run of larger pool sizes goes on over it (R149). -/
def growthStops (s : State) : State :=
  setHeat (fun h => { h with loops := h.loops.map fun y => { y with growCount := 0, growSeen := [] } }) s

/-- Slot 0 was disabled after the commit of its plan: the result is discarded, and the fallback plan takes its place as R198
allows (R196, R209). -/
def discardResult (s : State) : State :=
  if slot0Enabled s || s.plan.state = .fallback || s.plan.state = .stopped || s.plan.shadow.isNone then s
  else
    let s1 := enterFallback (setPlan (fun p => { p with shadow := none }) s)
    match s.plan.snap with
    | some x => commitFallback x s1
    | none => s1

/-- The shadow becomes the plan in force (R178, R208). -/
def commitBoundary (s : State) : State :=
  match s.plan.shadow with
  | none => growthStops (vigilCommit false s)
  | some v =>
    let s1 := setPlan (fun p => { p with
      inForce := some v, shadow := none, epoch := v.epoch }) s
    let pools := fun (l : Nat) (y : LoopPages) =>
      let q := v.loops.getD l {}
      { y with poolPlan := q.pool, growCount := if v.kind = .held then 0 else y.growCount
               growSeen := if v.kind = .held then [] else y.growSeen }
    let s2 := { s1 with heat := { s1.heat with loops := s1.heat.loops.mapIdx pools, boundaryDue := true } }
    let s3 := (List.range 24).foldl (fun t l => emberLoop v l (creditLoop v l t)) s2
    vigilCommit true (planTargets v s3)

/-- R35: on leaving Feast every credit and surge pool is 0. -/
def leaveFeast (s : State) : State :=
  let s1 := setPlan (fun p => { p with loops := p.loops.map fun r => { r with credit := 0, armed := false, exhausted := false } }) s
  { s1 with heat := { s1.heat with loops := s1.heat.loops.map fun y => { y with surgePool := 0 } } }

/-- Spray lock and unlock at the boundary (R188). -/
def sprayLock (s : State) : State :=
  let e := s.seq.frame / 100
  if s.plan.unlockDue && !s.plan.sprayUnlocked then
    post 0x5040 (setPlan (fun p => { p with sprayUnlocked := true, unlockEpoch := e, unlockDue := false }) s)
  else
    let s1 := setPlan (fun p => { p with unlockDue := false }) s
    if s.plan.sprayUnlocked && s.plan.unlockEpoch + 6000 ≤ e && 100 ≤ s.plan.zeroRun then
      post 0x5040 (setPlan (fun p => { p with sprayUnlocked := false }) s1)
    else s1

/-- The plan stops at the entry to SAFE_HOLD or HOLD_LOCKED (R196). -/
def stopPlan (s : State) : State :=
  if s.plan.state = .stopped then s
  else post 0x5050 (setPlan (fun p => { p with state := .stopped, snap := none, shadow := none }) s)

/-- The return to NORMAL (R196): the plan waits, and it restarts at the next plan epoch boundary. -/
def restartPlan (s : State) : State :=
  if s.plan.state = .stopped then
    post 0x5051 (setPlan (fun p => { p with
      state := .wait, infeasibleRun := 0, returnRun := 0, sampleEpochs := 0, sampleStart := s.seq.frame
      loops := p.loops.map fun r => { r with flowMin := none, supplyMax := none, sampleMissing := false } }) s)
  else s

/-- What a plan epoch boundary does with the plan, the mode and the limits, for a module that runs its plan. -/
def planBoundary (s : State) : State :=
  let wasFeast := s.plan.mode = .feast
  let s1 := limitBoundary (modeBoundary s)
  let s2 := commitBoundary (discardResult s1)
  let s3 := if wasFeast && s2.plan.mode ≠ .feast then leaveFeast s2 else s2
  let s4 := lockstepAll (sprayLock s3)
  let s5 := rollSamples s4
  if s5.plan.state = .stopped then s5 else planSnapshot s5

/-- The plan at READY (R141, R196). -/
def initPlan (s : State) : State :=
  { s with plan := { mode := RowMode.ofCode (if s.img.modes.startMode = 0 then 0 else 1) } }

end Sys2Proof.Machine
end

