-- ==== Sys2Proof/Machine/Health.lean ====
section
/-! DEFINITION. FAULT_N (R138), the health grade (R501) and the module's status objects (R476, R525). -/

namespace Sys2Proof.Machine

/-- The invalid strap (R497); open strap inputs read 1. -/
def strapInvalid (s : State) : Bool := s.pow.slotStrap = 0

/-- FAULT_N is asserted: R138, and what R497, R563 and R632 add. -/
def faultN (s : State) : Bool :=
  !s.pow.powerGood || !s.pow.ready || s.pow.deadMan ||
  [StartState.limp, .noImage, .held, .dead].contains s.pow.state || s.seq.state = .holdLocked || railFailed s ||
  strapInvalid s || s.pair.conflict || (s.log.state = .degraded || s.log.state = .lastWordsOnly) || bothFansFailed s

def railBad (s : State) (k : Nat) : Bool :=
  let r := (s.pow.rails.getD k {}).state
  r = .failed || r = .lost

def domainFailed (s : State) (d : Nat) : Bool := (s.pow.domains.getD d {}).state = .failed

/-- The rows of R501, in order. -/
def penaltyRows (s : State) : List Bool :=
  [inHold s,
   railBad s 4,
   s.valve.banks.any (fun b => (b.state = .failed && b.switchFailed) || b.state = .hot),
   railBad s 3 || s.eng.distrusted,
   ((List.range 18).map (97 + ·)).any (domainFailed s),
   railBad s 5,
   ((List.range 64).any fun p => (lport s p).state = .failed),
   s.thermal.fans.any (·.failed),
   (s.log.state = .degraded || s.log.state = .lastWordsOnly),
   (s.pair.role = .standby || s.pair.role = .primed) && !s.pair.ckptValid]

/-- Penalties of R501. -/
def penaltyWeights : List Nat := [8, 8, 6, 4, 3, 2, 1, 1, 1, 1]

def healthGrade (s : State) : Nat :=
  max 1 (15 - (List.zipWith (fun b w => if b then w else 0) (penaltyRows s) penaltyWeights).sum)

/-- Bits l of the loops whose ISO_STATE is not OPEN (R457). -/
def isolatedMask (s : State) : Nat := boolBits (s.leak.loops.map fun x => decide (x.iso ≠ .isOpen))

/-- Object 1,008, module status (R476). -/
def moduleStatus (s : State) : Nat :=
  s.seq.frame % 65536 + s.pow.state.code * 2 ^ 16 + b2n s.pow.plantControl * 2 ^ 19 + b2n (faultN s) * 2 ^ 20 +
  s.plan.mode.code * 2 ^ 21 + b2n s.leak.emergency * 2 ^ 23 + b2n s.pump.vigil * 2 ^ 24 + isolatedMask s * 2 ^ 32

/-- Object 1,009, event announcement (R476). -/
def announceStatus (s : State) : Nat :=
  s.can.announceSeq % 256 * 65536 +
  (match s.log.announce with
   | some (e, _) => e.code + e.frame % 4294967296 * 2 ^ 32
   | none => 0)

/-- Object 1,010, pair status (R525). -/
def pairStatus (s : State) : Nat :=
  s.pair.grade + s.pair.partner.grade * 16 + b2n s.pair.partnerSeen * 256 + b2n s.pair.partner.ckptValid * 512 +
  b2n (s.pair.role = .handing) * 1024 + b2n s.pair.pairHold * 2048 + s.pair.ckptSeq % 65536 * 65536 +
  s.pair.term * 2 ^ 32

/-- The value that a cell carries at its column start (R474): what is in force, with a pump command's count. -/
def cellValue (s : State) (o : Nat) : Nat :=
  if o = 1008 then moduleStatus s else if o = 1009 then announceStatus s else if o = 1010 then pairStatus s
  else
    let v := ((s.can.force.find? fun p => p.1 = o).map (·.2)).getD 0
    if 512 ≤ o ∧ o < 516 then v + (pumpSt s (o - 512)).cmdCount % 256 * 2 ^ 24 else v

/-- TDC_MEASURE (R467) of a sent frame. -/
def tdcMeasure (c d : Nat) (s : State) : State :=
  let ssp := d + (almanac s c).tdcOffset
  let sat := decide (127 < ssp)
  let s1 := updCan c (fun y => { y with tdcValue := d % 128, tdcSsp := min 127 ssp, tdcSat := sat }) s
  if sat then postRun 0xC040 s1 c else s1

/-- A frame has been sent, with ESI recessive while the channel is error passive (R475). Data are filled with zeros to the data
length (R476). -/
def frameSent (c source : Nat) (m : CanMsg) (tdc : Option Nat) (s : State) : State :=
  let data := (m.data ++ List.replicate 64 0).take (dlcBytes m.dlc)
  let s1 := send (.can c source { m with esi := m.fdf && (canCh s c).passive, data := data }) (canCount c 0 1 s)
  match tdc with
  | some d => if m.fdf && m.brs && (almanac s c).tdcEn then tdcMeasure c d s1 else s1
  | none => s1

/-- A cell of kind 0 or 1 (R472, R473). -/
def cellColumn (c : Nat) (col : ColumnCfg) (k : Nat) (f : BusFacts) (s : State) : State :=
  let x := (almanac s c).cell.getD k {}
  if !x.used || (canCh s c).inactive.contains k then s
  else
    let s1 := canCount c 4 f.lost s
    let s2 := if col.kind = 0 && (f.busyAtStart || 0 < f.lost) then postRun 0xC021 (canCount c 3 (b2n f.busyAtStart + f.lost) s1) c else s1
    if f.sent then
      let m : CanMsg := { canId := x.canId, ide := x.ide, fdf := x.fdf, brs := x.brs, dlc := x.dlc
                          data := leBytes (objectBytes x.source) (cellValue s x.source) }
      let s3 := frameSent c x.source m f.tdc s2
      if 512 ≤ x.source && x.source < 516 then
        updPump (x.source - 512) (fun p => { p with cmdCount := (p.cmdCount + 1) % 256 }) s3
      else s3
    else postRun 0xC020 (canCount c 2 1 s2) c

/-- The slots of a channel that wait or whose SOF has been sent, in the order of their acceptance. -/
def waitingSlots (s : State) (c : Nat) : List Nat :=
  let w := indicesWhere (canCh s c).slots fun _ x =>
    x.state = .sending || (x.state = .waiting && x.effect ≤ s.seq.frame)
  let key (i : Nat) : Nat × Nat :=
    let x := (canCh s c).slots.getD i {}
    (x.acceptFrame, x.sendId)
  sortBy (fun i j => (key i).1 < (key j).1 || ((key i).1 = (key j).1 && (key i).2 < (key j).2)) w

/-- Sends waiting host messages, as many as the bus allowed and the column holds (R478). One that has begun and did not come
to its end goes on in a later open column; it cannot be cancelled and does not expire (R479, R480). -/
def hostSend (c : Nat) (f : BusFacts) : Nat → Nat → List Nat → State → State
  | _, _, [], s => s
  | left, room, i :: t, s =>
    let x := (canCh s c).slots.getD i {}
    let len := longestFrame (almanac s c) x.msg.ide x.msg.fdf x.msg.brs x.msg.dlc
    if room < len then s
    else if left = 0 then
      (if f.begun then updCan c (fun y => { y with slots := upd y.slots i fun z => { z with state := .sending } }) s else s)
    else
      let s1 := updCan c (fun y => { y with slots := upd y.slots i fun z =>
        { z with state := .sent, doneFrame := s.seq.frame } }) s
      let s2 := canCount c 14 1 (frameSent c 0xFFFF x.msg f.tdc s1)
      hostSend c f (left - 1) (room - len) t s2

/-- The transmit stage of the channel passes the module's bits: on channels 0 and 1 only while its claim wins (R464). -/
def stagePasses (s : State) (c : Nat) : Bool := decide (2 ≤ c) || s.pair.stages

/-- CELL_TRANSMIT (R472): the start of column `column` of the basic cycle in progress. A cell of a channel whose transmitter is
off the bus, or whose stage is released, is missed. -/
def execCellTransmit (channel column : Nat) (facts : BusFacts) (s : State) : Host.Outcome State Fault Refusal :=
  let a := almanac s channel
  let col := a.column.getD column {}
  let due := decide (column < a.columns) && decide (s.seq.frame % 10 = col.start / 100)
  .next (if !due || !(canClock s) then s
    else if (canCh s channel).state = .normal && stagePasses s channel then
      let s1 := noteErrors channel facts.errors facts.tec facts.rec_ s
      if col.kind = 2 then
        (if intercalaryOpen s1 channel then
          hostSend channel facts facts.hosts (80 * col.length) (waitingSlots s1 channel) (canCount channel 4 facts.lost s1)
         else s1)
      else cellColumn channel col (16 * (s.seq.frame / 10 % 64) + column) facts s1
    else if ((canCh s channel).state = .busOff || (canCh s channel).state = .normal) && col.kind ≤ 1 then
      cellColumn channel col (16 * (s.seq.frame / 10 % 64) + column) { sent := false } s
    else s)

end Sys2Proof.Machine
end

