-- ==== Sys2Proof/Machine/Tenants.lean ====
section
/-! DEFINITION. Tenants: the checks and effects of the page requests, the split, quarantine, and the tenant slots at a
start (R155, R156, R168 to R170, R322); dither windows and thermal trips (R326, R334). -/

namespace Sys2Proof.Machine

/-- A STALE request or page is counted and logged at most once a second (R170). -/
def noteStale (t : Nat) (s : State) : State :=
  postEvery 10000 0x4043 (heatCount 13 1 (updTenant t (fun x => { x with stale := cnt x.stale }) s)) t

def tenantActive (s : State) (t : Nat) : Bool := (tenantSt s t).state = .active

/-- Own checks (R168), as STATUS codes of R587. -/
def bindCheck (s : State) (site t : Nat) : Nat :=
  if siteCount s ≤ site || 256 ≤ t || !(sitePresent s site) then 3
  else if (siteP s site).tenant.isSome || !(tenantActive s t) then 2 else 0

def applyBind (site t : Nat) (s : State) : State :=
  post 0x4044 (updSiteP site (fun x => { x with tenant := some t, tgen := (tenantSt s t).gen }) s) site t

def unbindCheck (s : State) (site t : Nat) : Nat :=
  if siteCount s ≤ site || 256 ≤ t || !(sitePresent s site) then 3
  else if (siteP s site).tenant = some t then 0 else 2

/-- A site is unbound: its pages leave in the allocator's slice, and its fault ends (R161, R168, R172). -/
def vacateSite (site : Nat) (s : State) : State :=
  updSiteP site (fun x => { x with
    tenant := none, tgen := 0, fault := false, faultAge := 0, faultDenied := false, raiseRun := 0, deny := 0
    idleFrames := 0, idleMin := 0 })
    { s with heat := { s.heat with work := s.heat.work ++ [.vacate site] } }

def quotaCheck (s : State) (t lo hi : Nat) : Nat :=
  if 256 ≤ t then 3
  else if !(tenantActive s t) then 2
  else if lo ≤ (tenantCfg s t).minPages && lo ≤ hi && hi ≤ (tenantCfg s t).maxPages then 0 else 3

def applyQuota (t lo hi : Nat) (s : State) : State :=
  updTenant t (fun x => { x with minIn := lo, maxIn := hi, record := some (lo, hi, s.key.digest) }) s

def lowerMaxCheck (s : State) (t hi : Nat) : Nat :=
  if !(tenantActive s t) then 2
  else if (tenantSt s t).minIn ≤ hi && hi ≤ (tenantSt s t).maxIn then 0 else 3

/-- Result of one named page (R168, R170). -/
def pageCheck (s : State) (t : Nat) (x : Nat × Nat) : Nat :=
  if 32768 ≤ x.1 then 3
  else if (page s x.1).pgen ≠ x.2 then 1
  else if (page s x.1).state = .held && boundTo s t (page s x.1).site then 0 else 2

/-- RELEASE_PAGES: one page number outside 0 to 32,767 refuses the whole request (R4). -/
def pagesCheck (s : State) (t : Nat) (l : List (Nat × Nat)) : Nat :=
  if l.isEmpty || 16 < l.length || l.any (fun x => decide (32768 ≤ x.1)) then 3
  else if !(tenantActive s t) then 2 else 0

/-- RELEASE_PAGES takes effect page by page; a page that passed at its arrival and has changed since gets STALE
(R168). `first` are the results at arrival. -/
def pageResults (s : State) (t : Nat) (l : List (Nat × Nat)) (first : List Nat) : List Nat :=
  List.zipWith (fun (x : Nat × Nat) (r : Nat) =>
    if r ≠ 0 then r else if pageCheck s t x = 0 then 0 else 1) l first

def applyPages (t : Nat) (l : List (Nat × Nat)) (rs : List Nat) (s : State) : State :=
  let ok := (List.zip l rs).filterMap fun x => if x.2 = 0 then some x.1.1 else none
  let s1 := (rs.filter (· = 1)).foldl (fun u _ => noteStale t u) s
  { s1 with heat := { s1.heat with work := s1.heat.work ++ [.release ok] } }

def releaseTenantCheck (s : State) (t : Nat) : Nat := if 256 ≤ t then 3 else if tenantActive s t then 0 else 2

/-- The slot leaves ACTIVE: its sites are vacated and its split returns to the defaults (R169, R322). -/
def applyReleaseTenant (t : Nat) (s : State) : State :=
  let s1 := (tenantSites s t).foldl (fun u i => vacateSite i u) s
  post 0x4040 (updTenant t (fun x => { x with
    state := .quarantine, gen := (x.gen + 1) % 65536, quarFrame := s.seq.frame
    splitOrder := 0, minCompute := 32, minMemory := 48, minLinks := 16 }) s1) t

/-- ADMIT_TENANT: 4 is QUARANTINE, with event 0x4042 (R169). -/
def admitCheck (s : State) (t : Nat) : Nat :=
  if 256 ≤ t then 3
  else match (tenantSt s t).state with
    | .released => 0
    | .quarantine => 4
    | _ => 2

def applyAdmit (t : Nat) (s : State) : State :=
  post 0x4041 (updTenant t (fun x => { x with
    state := .active, minIn := (tenantCfg s t).minPages, maxIn := (tenantCfg s t).maxPages, record := none }) s) t

/-- QUARANTINE_TIMER_EXPIRY (R169): 20,000 frames. -/
def execQuarantineTimerExpiry (tenant : Nat) (s : State) : Host.Outcome State Fault Refusal :=
  .next (if (tenantSt s tenant).state = .quarantine && (tenantSt s tenant).quarFrame + 20000 ≤ s.seq.frame then
      updTenant tenant (fun x => { x with state := .released }) s
    else s)

def splitCheck (s : State) (t order c m l : Nat) : Nat :=
  if !(tenantActive s t) then 2 else if order ≤ 5 && c + m + l ≤ 192 then 0 else 3

def applySplit (t order c m l : Nat) (s : State) : State :=
  post 0x8042 (updTenant t (fun x => { x with splitOrder := order, minCompute := c, minMemory := m, minLinks := l }) s) t

/-- A tenant slot at a start-up (R156, R169); with a new generation LAST_NONCE returns to 0 (R538). -/
def startTenant (s : State) (t : Nat) : State :=
  let c := tenantCfg s t
  let x := tenantSt s t
  let on := c.present && c.enabled
  let q := match x.record with
    | some (lo, hi, d) => if d = s.key.digest then (lo, hi) else (c.minPages, c.maxPages)
    | none => (c.minPages, c.maxPages)
  let base := { x with minIn := q.1, maxIn := q.2, splitOrder := 0, minCompute := 32, minMemory := 48, minLinks := 16 }
  if on then
    updTenant t (fun _ => match x.state with
      | .disabled => { base with state := .active }
      | .quarantine => { base with quarFrame := 0 }
      | _ => base) s
  else if x.state = .disabled then s
  else
    let free := fun (p : SitePages) => { p with tenant := if p.tenant = some t then none else p.tenant }
    let s1 := { s with heat := { s.heat with sites := s.heat.sites.map free } }
    updTenant t (fun y => { y with
      state := .disabled, gen := if y.state = .active then (y.gen + 1) % 65536 else y.gen })
      (if x.state = .active then
        { s1 with sec := { s1.sec with tenants := upd s1.sec.tenants t fun y => { y with lastNonce := 0 } } }
      else s1)

def startTenants (s : State) : State := (List.range 256).foldl startTenant s

/-! Dither windows and thermal trips. -/

/-- DITHER_WINDOW_START (R334). -/
def execDitherWindowStart (site : Nat) (s : State) : Host.Outcome State Fault Refusal :=
  let x := siteC s site
  let ok := sitePresent s site && s.seq.frame % 100000 = 200 * (site % 500) &&
    (match (siteP s site).tenant with
     | some t => (tenantCfg s t).allowDither
     | none => false) &&
    responsive s site && !((loopRun s (siteLoop s site)).cold.contains site) &&
    x.refFrame + 100000 ≤ s.seq.frame && !(floorLine s (linkOf site)).driven && 100 ≤ x.settled
  .next (if ok then
      capCount 4 (updSiteC site (fun y =>
        { y with dither := some { start := s.seq.frame, target := (siteP s site).target } }) s)
    else s)

/-- THERMAL_TRIP (R326): the loop's return has stood at or above OUTLET_LIMIT for 10 frames. -/
def execThermalTrip (loop : Nat) (s : State) : Host.Outcome State Fault Refusal :=
  .next (if 10 ≤ s.caps.hotRun.getD loop 0 && !(s.caps.tripped.getD loop false) then
      abortWhere 15 (strokeOf loop) (tripLoop loop s)
    else s)

/-- The return readings of every loop (R326), one frame. -/
def thermalFrame (s : State) : State :=
  (List.range 24).foldl (fun t l => if loopConfigured s.img l then thermalCount l t else t) s

end Sys2Proof.Machine
end

