-- ==== Sys2Proof/Machine/Security.lean ====
section
/-! DEFINITION. Fuses, life cycle, enrolment, release, attestation and telemetry blocks (R527 to R554). -/

namespace Sys2Proof.Machine

def setSec (f : Security → Security) (s : State) : State := { s with sec := f s.sec }

/-- Counter k of R552. -/
def secCount (k : Nat) (s : State) : State := setSec (fun c => { c with counters := upd c.counters k cnt }) s

/-- Two of three copies (R528). -/
def majority (l : List Bool) : Bool := 2 ≤ l.countP (· = true)

/-- The life cycle follows from the fuses (R528, R529). -/
def lifeCycle (s : State) : LifeCycle :=
  if majority s.sec.fuses.released then .returned
  else if majority s.sec.fuses.enrolled then .enrolled else .unenrolled

/-- The core runs, so management does (R137, R545). -/
def coreRuns (s : State) : Bool := s.pow.powerGood && s.pow.state ≠ .dead

/-- A session carries a message (R582, R595): `size` bytes. -/
def carry (i size : Nat) (s : State) : State :=
  updSession i (fun x => { x with messages := cnt x.messages, lastNs := rowNs s, bytesIn := x.bytesIn + size }) s

/-! Answers (R582, R584): the messages of one session are answered in their order. -/

/-- A message of the status window protocol (R584): MSG_TYPE, STATUS, MSG_ID, FRAME and the body. -/
def message (kind status msgId frame : Nat) (body : List Nat) : List Nat :=
  [kind, status, 0, 0] ++ leBytes 4 msgId ++ leBytes 4 body.length ++ leBytes 4 frame ++ body

/-- Bytes that something sent puts on its session (R581); of an SPDM answer the header of both protocols and its data. -/
def sentBytes : Tx → Nat
  | .message _ d => d.length
  | .spdm _ _ d => 20 + d.length
  | _ => 0

/-- Sends on session i. -/
def put (i : Nat) (t : Tx) (s : State) : State :=
  send t (updSession i (fun x => { x with bytesOut := x.bytesOut + sentBytes t }) s)

/-- Sends the answers at the front of the outbox, up to a message that has none yet. -/
def flush (i : Nat) : List Slot → State → State
  | [], s => updSession i (fun x => { x with outbox := [] }) s
  | x :: rest, s => match x.answer with
    | some t => flush i rest (put i t s)
    | none => updSession i (fun y => { y with outbox := x :: rest }) s

/-- Answers a message that has just come (R582): at once, or after the earlier ones. -/
def answer (i msgId : Nat) (t : Tx) (s : State) : State :=
  if (session s i).outbox.isEmpty then put i t s
  else updSession i (fun x => { x with outbox := x.outbox ++ [{ msgId, answer := some t }] }) s

/-- A message that is answered later takes its place. -/
def await (i msgId : Nat) (s : State) : State :=
  updSession i (fun x => { x with outbox := x.outbox ++ [{ msgId }] }) s

/-- The first unanswered message of that MSG_ID takes its answer; none is left where there is none. -/
def fillSlot (msgId : Nat) (t : Tx) : List Slot → Option (List Slot)
  | [] => none
  | x :: rest =>
    if x.msgId = msgId && x.answer.isNone then some ({ x with answer := some t } :: rest)
    else (fillSlot msgId t rest).map (x :: ·)

/-- The answer to a message that waits for it; the session that carried it may have closed (R611). -/
def resolve (i msgId : Nat) (t : Tx) (s : State) : State :=
  match fillSlot msgId t (session s i).outbox with
  | some l => flush i l s
  | none => s

/-- A session queues at most 64 messages (R582). -/
def queueFull (s : State) (i : Nat) : Bool := decide (64 ≤ (session s i).outbox.length)

/-- ERROR (R585, R587). -/
def errorMsg (s : State) (msgId code : Nat) : List Nat := message 0xFF code msgId (frameStamp s) []

def errorAnswer (i msgId code : Nat) (s : State) : State := answer i msgId (.message i (errorMsg s msgId code)) s

/-- A message of `size` bytes comes on session i: its answer `f`, or ERROR QUEUE, sent at once, when the queue is full
(R582). -/
def onMessage (i msgId size : Nat) (f : State → State) (s : State) : State :=
  if queueFull s i then put i (.message i (errorMsg s msgId 0x85)) (carry i size s) else f (carry i size s)

/-! Random values (R530). -/

/-- Draws a fresh value. -/
def draw (s : State) : Nat × State := (Config.fresh s.free % 2 ^ 256, { s with free := s.free + 1 })

/-- A fresh ENROL_NONCE (R531), when the DRBG issues values; else one is drawn when it resumes (R551). -/
def newEnrolNonce (s : State) : State :=
  if s.sec.drbgOk && lifeCycle s = .unenrolled then
    (let d := draw s
     setSec (fun c => { c with enrolNonce := d.1 }) d.2)
  else s

/-- DRBG_HEALTH_FAILURE (R530). -/
def execDrbgHealthFailure (s : State) : Host.Outcome State Fault Refusal :=
  .next (if s.sec.drbgOk then post 0xE061 (setSec (fun c => { c with drbgOk := false }) s) else s)

/-- DRBG_RESUME (R530): 16 consecutive tests have passed. -/
def execDrbgResume (s : State) : Host.Outcome State Fault Refusal :=
  .next (if coreRuns s && !s.sec.drbgOk then
      post 0xE062 (newEnrolNonce (setSec (fun c => { c with drbgOk := true }) s))
    else s)

/-! Enrolment (R531). -/

/-- ENROL_N has been held low for the last 1 s. -/
def enrolHeld (s : State) : Bool := s.sec.enrolLow && s.sec.enrolSince + 1000000000 ≤ rowNs s

/-- ENROL_N_CHANGE (R531). -/
def execEnrolNChange (low : Bool) (s : State) : Host.Outcome State Fault Refusal :=
  .next (if low = s.sec.enrolLow then s
    else setSec (fun c => { c with enrolLow := low, enrolSince := rowNs s }) s)

/-- Every bit blown already is set in the value (R531). -/
def superset (blown value : Nat) : Bool := Nat.land blown value = blown

/-- The checks of OWNER_ENROL: 0 OK; 2 STATE; 7 BUSY; 10 AUTH; 14 FUSE (R531, R550, R551). -/
def enrolCheck (s : State) (f : EnrolFacts) : Nat :=
  if lifeCycle s ≠ .unenrolled then 2
  else if !s.sec.drbgOk then 7
  else if !(enrolHeld s) then 2
  else if !f.sigOk || !f.unwrapOk then 10
  else if !(superset s.sec.fuses.ownerImageKey f.imageKey) || !(superset s.sec.fuses.ownerKeyHash f.rootHash) ||
      !f.fuseOk then 14
  else 0

/-- A fuse write that fails has blown some of the bits of its value; which is a free value. -/
def partFuses (f : EnrolFacts) (s : State) : State :=
  let cut (old v k : Nat) : Nat := Nat.lor old (Nat.land v (Config.fuseMask (s.free + k)))
  if superset s.sec.fuses.ownerImageKey f.imageKey && superset s.sec.fuses.ownerKeyHash f.rootHash then
    (let u := s.sec.fuses
     setSec (fun c => { c with fuses := { u with ownerImageKey := cut u.ownerImageKey f.imageKey 0
                                                 ownerKeyHash := cut u.ownerKeyHash f.rootHash 1 } })
       { s with free := s.free + 2 })
  else s

/-- OWNER_ENROL: its result and its effect (R529, R531). -/
def enrol (f : EnrolFacts) (s : State) : Nat × State :=
  let r := enrolCheck s f
  if r = 0 then
    (let u := s.sec.fuses
     (0, post 0xE001 (setSec (fun c => { c with
       fuses := { u with ownerImageKey := f.imageKey, ownerKeyHash := f.rootHash, enrolled := [true, true, true] }
       enrolReboot := some (rowNs s + 1000000000) }) s)))
  else
    let s1 := if r = 14 && !f.fuseOk then partFuses f s else s
    (r, newEnrolNonce (post 0xE002 s1 0xFFFF 0xFFFF [r]))

/-- ENROL_REBOOT (R529): 1 s after an accepted enrolment. -/
def execEnrolReboot (s : State) : Host.Outcome State Fault Refusal :=
  .next (match s.sec.enrolReboot with
    | some t =>
      if t ≤ rowNs s then
        { setSec (fun c => { c with enrolReboot := none }) s with pow := { s.pow with resetDue := some 1 } }
      else s
    | none => s)

/-! Device certificates (R532, R599). -/

/-- Judgement of a whole chain: 10 AUTH; 3 RANGE for its size. -/
def chainCheck (s : State) (bytes : List Nat) (f : ChainFacts) : Nat :=
  if f.rootHash ≠ s.sec.fuses.ownerKeyHash || !f.verified || !f.leafKey then 10
  else if 4 < f.certs || 4096 < bytes.length then 3 else 0

/-- SET_DEVICE_CERT: parts come in order and from one session; the last part is judged. A part out of order ends the
transfer. -/
def certPart (session part last : Nat) (bytes : List Nat) (f : ChainFacts) (s : State) : Nat × State :=
  let drop := setSec (fun c => { c with certParts := none }) s
  if 1 < part || 1 < last then (3, s)
  else match part, s.sec.certParts with
    | 0, none =>
      if last = 1 then (chainCheck s bytes f, s)
      else (0, setSec (fun c => { c with certParts := some (session, bytes) }) s)
    | 1, some (owner, head) =>
      if owner ≠ session then (2, s)
      else if last = 1 then (chainCheck s (head ++ bytes) f, s)
      else (2, drop)
    | _, some (owner, _) => if owner ≠ session then (2, s) else (2, drop)
    | _, none => (2, s)

/-- The chain replaces slot 1 (R532). -/
def installCert (part : Nat) (bytes : List Nat) (s : State) : State :=
  let head := if part = 0 then [] else match s.sec.certParts with
    | some x => x.2
    | none => []
  post 0xE003 (setSec (fun c => { c with slot1 := some (head ++ bytes), certParts := none }) s)

/-! Release (R545 to R550). -/

/-- GET_RELEASE_NONCE (R547). -/
def releaseNonceCheck (s : State) : Nat :=
  if lifeCycle s = .returned then 2 else if !s.sec.drbgOk then 7 else 0

def issueNonce (s : State) : State :=
  let d := draw s
  post 0xE050 (setSec (fun c => { c with releaseNonce := some (d.1, rowNs s) }) d.2)

/-- RELEASE_NONCE_EXPIRY (R547): 60 s. -/
def execReleaseNonceExpiry (s : State) : Host.Outcome State Fault Refusal :=
  .next (match s.sec.releaseNonce with
    | some (_, t) =>
      if t + 60000000000 ≤ rowNs s then setSec (fun c => { c with releaseNonce := none }) s else s
    | none => s)

/-- The checks of OWNER_RELEASE (R548): 2 STATE; 12 EXPIRED without a valid nonce; 10 AUTH. A unit that has won a
claim in this frame refuses (R551). -/
def ownerReleaseCheck (s : State) (rootHash : Nat) (sigOk : Bool) (nonce : Nat) : Nat :=
  if lifeCycle s ≠ .enrolled || !([StartState.standby, .noImage, .held].contains s.pow.state) ||
      !(enrolHeld s) || s.pair.wonFrame = some s.seq.frame then 2
  else match s.sec.releaseNonce with
    | none => 12
    | some (n, t) =>
      if t + 60000000000 ≤ rowNs s then 12
      else if rootHash = s.sec.fuses.ownerKeyHash && sigOk && nonce = n then 0 else 10

/-- What is left once every store is overwritten with zeros (R549 step 4): the clocks, the supplies, the key in its
socket, the fuses and the management ports. -/
def emptied (s : State) : State :=
  { State.reset with
    free := s.free, seq := s.seq, wall := { State.reset.wall with activePort := s.wall.activePort }
    key := { State.reset.key with source := s.key.source, frontPresent := s.key.frontPresent, copyA := s.key.copyA
                                  copyB := s.key.copyB, factsA := s.key.factsA, factsB := s.key.factsB }
    pow := { s.pow with warmHistory := [], xtalTries := 0 }
    thermal := s.thermal, sent := s.sent, pending := s.pending
    sec := { State.reset.sec with fuses := s.sec.fuses, drbgOk := s.sec.drbgOk, enrolLow := s.sec.enrolLow
                                  enrolSince := s.sec.enrolSince }
    mgmt := { State.reset.mgmt with ports := s.mgmt.ports, sessions := s.mgmt.sessions } }

/-- Return mode (R545): every output off, no claim, no port, START_STATE reads HELD, sessions without a role. -/
def enterReturn (s : State) : State :=
  let off := fun (d : Nat) (x : Domain) => if d < 64 || (85 ≤ d && d < 97) || d = 120 then { x with state := .off } else x
  let bare := fun (x : Session) => { x with role := .none }
  { s with
    sec := { s.sec with returnMode := true }
    pow := { s.pow with state := .held, ready := false, plantControl := false, deadMan := true, bypassClosed := true
                        ownContactClosed := false, backupDrive := false, backupMv := 0
                        domains := s.pow.domains.mapIdx off }
    mgmt := { s.mgmt with sessions := s.mgmt.sessions.map bare } }

/-- Zeroisation in the order of R549: RELEASED, the owner keys, the stores, then the one record. -/
def zeroise (s : State) : State :=
  let f := { s.sec.fuses with released := [true, true, true], ownerImageKey := 2 ^ 256 - 1, ownerKeyHash := 2 ^ 384 - 1 }
  let log := s.log.state
  let s1 := emptied (setSec (fun c => { c with fuses := f }) s)
  let s2 := enterReturn (setSec (fun c => { c with zeroised := true }) { s1 with log := { s1.log with state := log } })
  post 0xE051 s2 0xFFFF 0xFFFF (leBytes 16 Config.serial)

/-- OWNER_RELEASE: its result and its effect. -/
def ownerRelease (rootHash : Nat) (sigOk : Bool) (nonce : Nat) (s : State) : Nat × State :=
  let r := ownerReleaseCheck s rootHash sigOk nonce
  if r = 0 then (0, zeroise s) else (r, post 0xE052 s 0xFFFF 0xFFFF [r])

/-! SPDM responder (R533, R534). -/

/-- The device identity key, derived from DEVICE_SEED (R532). -/
def deviceKey (s : State) : Nat := Config.hkdfExpand s.sec.fuses.deviceSeed (ascii "eh device id") 56

/-- Content of a certificate slot; none where it is not installed. -/
def slotChain (s : State) (slot : Nat) : Option (List Nat) :=
  if slot = 0 then some ((List.range (Config.chain0Len % 4097)).map fun i => Config.chain0 i % 256)
  else if slot = 1 then s.sec.slot1 else none

/-- A measurement block (R534): 48-byte digests, or the raw content. -/
def measurement (s : State) (i k : Nat) : List Nat :=
  match k with
  | 1 => leBytes 48 Config.bootRomDigest
  | 2 => leBytes 48 s.pow.fw.digest
  | 3 => leBytes 48 s.key.digest
  | 4 => (List.range 8).flatMap fun g =>
      leBytes 48 (if (s.img.graphs.getD g {}).present then Config.sha384 (s.img.graphs.getD g {}).payload else 0)
  | 5 => leBytes 48 s.sec.fuses.vendorRootHash ++ leBytes 48 s.sec.fuses.ownerKeyHash ++
      [s.sec.fuses.rollback, (lifeCycle s).code]
  | 6 => ("EH6400-HW2".toList.map Char.toNat) ++ [0x43] ++ leBytes 16 Config.serial ++
      [2, 3, s.pow.fw.minor] ++ leBytes 2 s.pow.fw.patch
  | 7 => leBytes 48 (Config.exporter i (session s i).openFrame)
  | _ => []

/-- Kind of a block: 1 digest, 2 raw. -/
def measureKind (k : Nat) : Nat := if k ≤ 3 then 1 else 2

/-- The manifest (R534): index, kind and length of every block. -/
def manifest (s : State) (i : Nat) : List Nat :=
  (((List.range 7).map (· + 1)).flatMap fun k => [k, measureKind k] ++ leBytes 2 (measurement s i k).length) ++
    [0xFE, 2] ++ leBytes 2 32

/-- The blocks that a request names: one of 1 to 7, 0xFE, or every one (0xFF). -/
def measured (s : State) (i index : Nat) : Option (List Nat) :=
  if index = 0xFE then some (manifest s i)
  else if index = 0xFF then some (((List.range 7).flatMap fun k => measurement s i (k + 1)) ++ manifest s i)
  else if index = 0 then some [8]
  else if index ≤ 7 then some (measurement s i index) else none

/-- An SPDM message of the session has not been answered yet (R585). -/
def spdmWaits (s : State) (i : Nat) : Bool := (session s i).outbox.any fun x => match x.answer with
  | some (.spdm ..) => true
  | _ => false

/-- An SPDM answer on an open session; codes 1 to 7 follow the requests of R533 in its order, 0 is ERROR. A second
message before the first is answered gets ERROR QUEUE (R585). -/
def spdmAnswer (i code : Nat) (data : List Nat) (s : State) : State :=
  if coreRuns s && (session s i).isOpen then
    onMessage i 0 (16 + 4) (fun t => if spdmWaits t i then errorAnswer i 0 0x85 t else answer i 0 (.spdm i code data) t) s
  else s

def execGetVersion (session : Nat) (s : State) : Host.Outcome State Fault Refusal :=
  .next (spdmAnswer session 1 [0x12] s)

/-- GET_CAPABILITIES: CERT_CAP, CHAL_CAP and MEAS_CAP with signature, one byte each. -/
def execGetCapabilities (session : Nat) (s : State) : Host.Outcome State Fault Refusal :=
  .next (spdmAnswer session 2 [1, 1, 2] s)

/-- NEGOTIATE_ALGORITHMS: ECDSA P-384 and SHA-384, or an error when the requester offers neither. -/
def execNegotiateAlgorithms (session : Nat) (offersEcdsaP384 offersSha384 : Bool) (s : State) :
    Host.Outcome State Fault Refusal :=
  .next (if offersEcdsaP384 && offersSha384 then spdmAnswer session 3 [1, 1] s else spdmAnswer session 0 [1] s)

/-- GET_DIGESTS: the mask of the slots, and a digest for each. -/
def execGetDigests (session : Nat) (s : State) : Host.Outcome State Fault Refusal :=
  let ds := [0, 1].filterMap fun k => slotChain s k
  .next (spdmAnswer session 4 ((if s.sec.slot1.isSome then 3 else 1) ::
    ds.flatMap fun c => leBytes 48 (Config.chainDigest c)) s)

/-- GET_CERTIFICATE (R532): a portion of a slot's chain. -/
def execGetCertificate (session slot offset length : Nat) (s : State) : Host.Outcome State Fault Refusal :=
  .next (match slotChain s slot with
    | some c =>
      if offset ≤ c.length then spdmAnswer session 5 ((c.drop offset).take length) s else spdmAnswer session 0 [1] s
    | none => spdmAnswer session 0 [1] s)

/-- CHALLENGE (R533): a signed answer over the slot's digest and the nonce. -/
def execChallenge (session slot nonce : Nat) (s : State) : Host.Outcome State Fault Refusal :=
  .next (match slotChain s slot with
    | some c =>
      let body := slot :: leBytes 48 (Config.chainDigest c)
      spdmAnswer session 6 (body ++ leBytes 96 (Config.spdmSign (deviceKey s) body nonce)) s
    | none => spdmAnswer session 0 [1] s)

/-- A signed answer is counted, and logged at most once per session per minute (R534). -/
def noteAttested (i : Nat) (s : State) : State :=
  let due := match (session s i).attested with
    | some t => decide (t + 60000000000 ≤ rowNs s)
    | none => true
  let s1 := secCount 7 s
  if due then post 0xE030 (updSession i (fun x => { x with attested := some (rowNs s) }) s1) i else s1

/-- GET_MEASUREMENTS (R534). -/
def execGetMeasurements (session index : Nat) (signed : Bool) (nonce : Nat) (s : State) :
    Host.Outcome State Fault Refusal :=
  .next (if !(coreRuns s && (Machine.session s session).isOpen) then s
    else match measured s session index with
      | none => spdmAnswer session 0 [1] s
      | some body =>
        if signed then
          (if spdmWaits s session || queueFull s session then id else noteAttested session) (spdmAnswer session 7 (body ++ leBytes 96 (Config.spdmSign (deviceKey s) body nonce)) s)
        else spdmAnswer session 7 body s)

/-- SPDM_UNSUPPORTED_REQUEST (R533): ERROR UnsupportedRequest (7). -/
def execSpdmUnsupportedRequest (session : Nat) (s : State) : Host.Outcome State Fault Refusal :=
  .next (spdmAnswer session 0 [7] s)

/-! Telemetry blocks (R541 to R544). -/

def tenantSec (s : State) (t : Nat) : TenantSec := s.sec.tenants.getD t {}
def updSecTenant (t : Nat) (f : TenantSec → TenantSec) (s : State) : State :=
  setSec (fun c => { c with tenants := upd c.tenants t f }) s

/-- Account values at the start of a block. -/
def telStart (s : State) (t : Nat) : TenantTel :=
  { energy0 := (s.caps.tenants.getD t {}).energy, denied0 := (tenantSt s t).denied
    reclaimed0 := (tenantSt s t).reclaimed }

/-- Energy of every site in 6.25 uJ (R336, R543). -/
def rowEnergy (s : State) : Nat := s.caps.unbound + (s.caps.tenants.map (·.energy)).sum

def rowTelStart (s : State) : RowTel :=
  { rowTime := rowNs s, wallTime := if wallValid s then (wallNow s).toNat else 0, epoch := s.wall.epoch
    firstFrame := s.seq.frame, energy0 := rowEnergy s, water0 := s.pump.total }

/-- A block of the second that begins in this frame. -/
def beginBlocks (s : State) : State :=
  let clear := fun (x : TenantSt) => { x with granted := 0 }
  let begin := fun (t : Nat) (x : TenantSec) => { x with tel := telStart s t }
  { s with
    heat := { s.heat with tenants := s.heat.tenants.map clear }
    sec := { s.sec with tenants := s.sec.tenants.mapIdx begin, rowTel := rowTelStart s } }

/-- The tenant's block as gathered (R542); its number, previous value and tag are set when it is sealed. -/
def gatherTenant (s : State) (t : Nat) : Option TenantBlock :=
  let x := (tenantSec s t).tel
  if x.active then
    some { tenant := t, tgen := x.gen, firstFrame := s.sec.rowTel.firstFrame, rowTime := s.sec.rowTel.rowTime
           epoch := s.sec.rowTel.epoch, energyJ := ((s.caps.tenants.getD t {}).energy - x.energy0) / 160000
           pageFrames := x.pageFrames, capMean := x.capSum / x.frames, sites := x.sites
           granted := (tenantSt s t).granted, denied := min 65535 ((tenantSt s t).denied - x.denied0)
           reclaimed := min 65535 ((tenantSt s t).reclaimed - x.reclaimed0), reqOk := x.reqOk
           reqRefused := x.reqRefused, unrespMax := x.unrespMax, left := x.left }
  else none

/-- The row's block as gathered (R543). -/
def gatherRow (s : State) : RowBlock :=
  let x := s.sec.rowTel
  { firstFrame := x.firstFrame, rowTime := x.rowTime, wallTime := x.wallTime, epoch := x.epoch
    energyJ := (rowEnergy s - x.energy0) / 160000, waterMl := (s.pump.total - x.water0) / 60000
    mode := s.plan.mode.code, planState := s.plan.state.code, plantControl := s.pow.plantControl
    emergency := x.emergency, isolated := boolBits x.isolated, term := s.pair.term, digest := s.key.digest }

/-- One frame of the accounts (R542, R543), taken in its Guard phase. -/
def telemetryFrame (s : State) : State :=
  if !s.seq.frameValid then s
  else
    let one := fun (t : Nat) (x : TenantSec) =>
      let act := decide ((tenantSt s t).state = .active)
      let y := x.tel
      if act then
        let ss := tenantSites s t
        let tel : TenantTel := { y with
          active := true, gen := (tenantSt s t).gen, frames := y.frames + 1
          pageFrames := y.pageFrames + (tenantOrdinary s t).length + (tenantSurge s t).length
          capSum := y.capSum + (ss.map fun i => (siteP s i).cap).sum, sites := ss.length
          unrespMax := max y.unrespMax (ss.countP fun i => (siteC s i).response = .unresponsive) }
        { x with tel := tel }
      else if y.active then { x with tel := { y with left := true, sites := (tenantSites s t).length } } else x
    let iso := List.zipWith (fun (b : Bool) (l : LoopLeak) => b || decide (l.iso ≠ .isOpen)) s.sec.rowTel.isolated s.leak.loops
    setSec (fun c => { c with
      tenants := c.tenants.mapIdx one
      rowTel := { c.rowTel with emergency := c.rowTel.emergency || s.leak.emergency, isolated := iso } }) s

/-- Fields of a tenant block before its TAG, as (first bit, width, value) (R542). -/
def tenantFields (b : TenantBlock) : List (Nat × Nat × Int) :=
  [(0, 8, b.tenant), (16, 16, b.tgen), (32, 32, b.seq), (64, 48, b.firstFrame), (128, 64, b.rowTime),
   (192, 32, b.epoch), (224, 32, b.energyJ), (256, 32, b.pageFrames), (288, 32, b.capMean), (320, 16, b.sites),
   (336, 16, b.granted), (352, 16, b.denied), (368, 16, b.reclaimed), (384, 16, b.reqOk), (400, 16, b.reqRefused),
   (416, 16, b.unrespMax), (432, 1, b2n b.left), (512, 128, b.prevTag)]

/-- Fields of a row block before its SIGNATURE (R543). -/
def rowFields (b : RowBlock) : List (Nat × Nat × Int) :=
  [(0, 32, b.seq), (32, 48, b.firstFrame), (96, 64, b.rowTime), (160, 64, b.wallTime), (224, 32, b.epoch),
   (256, 32, b.energyJ), (288, 32, b.waterMl), (320, 2, b.mode), (322, 3, b.planState), (325, 1, b2n b.plantControl),
   (326, 1, b2n b.emergency), (352, 24, b.isolated), (384, 32, b.term), (416, 384, b.digest), (1056, 128, b.prevHash)]

def tenantBytes (b : TenantBlock) : List Nat := leBytes 128 (pack ((640, 128, (b.tag : Int)) :: tenantFields b))
def rowBytes (b : RowBlock) : List Nat := leBytes 256 (pack ((1280, 768, (b.signature : Int)) :: rowFields b))

/-- BLOCK_SEQ and PREV_TAG by the tenant's chain (R542, R544). -/
def chainOf (x : TenantSec) (gen : Nat) : Nat × Nat :=
  if x.chainGen = some gen then (x.nextSeq, x.prevTag) else (0, 0)

/-- Seals a tenant block (R541, R542). -/
def sealTenant (b : TenantBlock) (s : State) : State :=
  let ch := chainOf (tenantSec s b.tenant) b.tgen
  let b1 := { b with seq := ch.1, prevTag := ch.2 }
  let tag := Config.telTag (tenantCfg s b.tenant).key b.tgen (leBytes 80 (pack (tenantFields b1))) % 2 ^ 128
  let b2 := { b1 with tag := tag }
  let s1 := updSecTenant b.tenant (fun x => { x with
    chainGen := some b.tgen, nextSeq := (ch.1 + 1) % 4294967296, prevTag := tag, lastSeq := ch.1
    blocks := (b2 :: x.blocks).take 4 }) s
  send (.block b.tenant ch.1) (notify 3 b.tenant (tenantBytes b2) (secCount 8 s1))

/-- Seals the row block (R543). -/
def sealRow (b : RowBlock) (s : State) : State :=
  let b1 := { b with seq := s.sec.rowNext, prevHash := s.sec.rowPrev }
  let b2 := { b1 with signature := Config.rowSign (deviceKey s) (leBytes 160 (pack (rowFields b1))) % 2 ^ 768 }
  let s1 := setSec (fun c => { c with
    rowNext := (c.rowNext + 1) % 4294967296, rowPrev := Config.rowHash (rowBytes b2) % 2 ^ 128
    rowBlocks := (b2 :: c.rowBlocks).take 8 }) s
  send (.block 0xFFFF b2.seq) (notify 2 0 (rowBytes b2) s1)

/-- TELEMETRY_BLOCK_SEAL (R541): from frame 10,000 (k + 1) + 100. -/
def execTelemetryBlockSeal (s : State) : Host.Outcome State Fault Refusal :=
  .next (match s.sec.due with
    | some (k, ts, r) =>
      if 10000 * (k + 1) + 100 ≤ s.seq.frame && s.seq.frame ≤ 10000 * (k + 1) + 5000 then
        sealRow r (ts.foldl (fun t b => sealTenant b t) (setSec (fun c => { c with due := none }) s))
      else s
    | none => s)

/-- Blocks that were not sealed: each number is consumed (R544). -/
def skipBlocks (ts : List TenantBlock) (s : State) : State :=
  let s1 := ts.foldl (fun t b =>
    let ch := chainOf (tenantSec t b.tenant) b.tgen
    post 0xE040 (secCount 9 (updSecTenant b.tenant (fun x => { x with
      chainGen := some b.tgen, nextSeq := (ch.1 + 1) % 4294967296, prevTag := ch.2 }) t)) b.tenant) s
  post 0xE040 (secCount 9 (setSec (fun c => { c with rowNext := (c.rowNext + 1) % 4294967296, due := none }) s1))

/-- BLOCK_NOT_SEALED (R544): the deadline is frame 10,000 (k + 1) + 5,000. -/
def execBlockNotSealed (s : State) : Host.Outcome State Fault Refusal :=
  .next (match s.sec.due with
    | some (k, ts, _) => if 10000 * (k + 1) + 5000 ≤ s.seq.frame then skipBlocks ts s else s
    | none => s)

/-- The blocks of the second that has ended, at a boundary of frame 10,000 j; a block still unsealed is lost. -/
def rollBlocks (s : State) : State :=
  if s.seq.frameValid && s.seq.frame % 10000 = 0 then
    let s1 := match s.sec.due with
      | some (_, ts, _) => skipBlocks ts s
      | none => s
    if s.seq.frame = 0 then beginBlocks s1
    else
      let ts := (List.range 256).filterMap (gatherTenant s1)
      beginBlocks (setSec (fun c => { c with due := some (s.seq.frame / 10000 - 1, ts, gatherRow s1) }) s1)
  else s

/-- SESSION_LOCKOUT_END (R540): 10 s. -/
def execSessionLockoutEnd (session : Nat) (s : State) : Host.Outcome State Fault Refusal :=
  .next (match (Machine.session s session).lockout with
    | some f => if f + 100000 ≤ s.seq.frame then updSession session (fun x => { x with lockout := none }) s else s
    | none => s)

end Sys2Proof.Machine
end

