-- ==== Sys2Proof/Machine/Copies.lean ====
section
/-! DEFINITION. The two copies of a key: their check, and an image update of the copy not selected (R105 to R112,
R602). -/

namespace Sys2Proof.Machine

def copyBytes (k : Key) : Copy → List Byte
  | .a => k.copyA
  | .b => k.copyB

def copyFacts (k : Key) : Copy → CopyFacts
  | .a => k.factsA
  | .b => k.factsB

def copyStatus (k : Key) : Copy → CopyStatus
  | .a => k.statusA
  | .b => k.statusB

def setStatus (c : Copy) (x : CopyStatus) (k : Key) : Key := match c with
  | .a => { k with statusA := x }
  | .b => { k with statusB := x }

def otherCopy : Copy → Copy
  | .a => .b
  | .b => .a

/-- The check of one copy (R105). An UNENROLLED module's key hash matches no key (R529). -/
def verifyCopy (c : Copy) (s : State) : CopyCheck :=
  let f := copyFacts s.key c
  checkCopy s.pow.fw.minor s.sec.fuses.rollback laterRules (copyBytes s.key c)
    { f with ownerKeyOk := f.ownerKeyOk && lifeCycle s = .enrolled }

def copyHeaderOk (k : Key) (c : Copy) : Bool := !(unreadAt (copyFacts k c) 1) && headerCode (copyBytes k c) = 0

def statusOf (r : CopyCheck) : CopyStatus :=
  { reason := r.reason, failRecord := r.failRecord, seq := r.seq, level := r.level }

/-- A copy fails: its reason and ordinal are recorded, event 0x3002 (R112), at every check, so also at each retry in
NO_IMAGE (DESIGN CHOICE, log entry 175). -/
def copyFails (c : Copy) (x : CopyStatus) (s : State) : State :=
  post 0x3002 { s with key := setStatus c x s.key } (if c = .a then 0 else 1) 0xFFFF
    ([x.reason] ++ leBytes 2 x.failRecord)

/-! Image update (R109, R602). -/

/-- An image update ends without a verified copy (R602). -/
def endUpdate (s : State) : State :=
  { s with
    mgmt := { s.mgmt with update := none }
    key := { s.key with otherState := 2 } }

/-- IMAGE_BEGIN: 3 RANGE, 7 BUSY, 2 STATE (R109, R112, R602). -/
def imageBeginCheck (s : State) (length : Nat) : Nat :=
  if length < 256 || 67108864 < length then 3
  else if s.mgmt.update.isSome || s.key.otherChecking then 7
  else if s.key.lost || s.key.selected.isNone then 2 else 0

/-- The key answers again after a loss (R112: recovery of 0x3009). -/
def keyRestored (s : State) : State := { s with key := { s.key with lost := false } }

def setCopy (c : Copy) (bs : List Byte) (k : Key) : Key := match c with
  | .a => { k with copyA := bs }
  | .b => { k with copyB := bs }

def setFacts (c : Copy) (f : CopyFacts) (k : Key) : Key := match c with
  | .a => { k with factsA := f }
  | .b => { k with factsB := f }

/-- The copy that an update writes. -/
def updateCopy (s : State) : Option Copy := s.key.selected.map otherCopy

/-- The erase begins. -/
def imageBegin (h : ReqHdr) (length : Nat) (s : State) : State :=
  match updateCopy s with
  | some c =>
    { s with
      mgmt := { s.mgmt with update := some { session := h.session, msgId := h.msgId, length := length, lastNs := rowNs s } }
      key := setCopy c [] { s.key with otherState := 0 } }
  | none => s

/-- IMAGE_WRITE: its result and its effect (R602). -/
def imageWrite (h : ReqHdr) (offset : Nat) (bytes : List Byte) (s : State) : Nat × State :=
  match s.mgmt.update, updateCopy s with
  | some u, some c =>
    if u.session ≠ h.session || u.erasing then (2, s)
    else
      let s1 := { s with mgmt := { s.mgmt with update := some { u with lastNs := rowNs s } } }
      if bytes.isEmpty || 4000 < bytes.length || offset ≠ u.next || u.length < offset + bytes.length then (3, s1)
      else
        (0, { s with
          mgmt := { s.mgmt with update := some { u with lastNs := rowNs s, next := offset + bytes.length } }
          key := setCopy c (copyBytes s.key c ++ bytes) s.key })
  | _, _ => (2, s)

/-- IMAGE_END: its result, the result code of R111 and its effect; bytes not written stand erased (R602). -/
def imageEnd (h : ReqHdr) (f : CopyFacts) (s : State) : Nat × List Nat × State :=
  match s.mgmt.update, updateCopy s with
  | some u, some c =>
    if u.session ≠ h.session || u.erasing then (2, [], s)
    else
      let bs := copyBytes s.key c ++ List.replicate (u.length - u.next) (255 : Byte)
      let s1 := { s with
        mgmt := { s.mgmt with update := none }
        key := setFacts c f (setCopy c bs s.key) }
      let r := verifyCopy c s1
      if r.reason = 0 then
        (0, [0], post 0x300A { s1 with key := setStatus c (statusOf r) { s1.key with otherState := 3 } })
      else (2, [r.reason], copyFails c (statusOf r) { s1 with key := { s1.key with otherState := 2 } })
  | _, _ => (2, [], s)

end Sys2Proof.Machine
end

