-- ==== Sys2Proof/Machine/LogWriter.lean ====
section
/-! DEFINITION. The event log: the writer, announcements, the last-words buffer and a failing medium (R557 to R565). -/

namespace Sys2Proof.Machine

/-- Announced codes (R561). -/
def isAnnounced (c : Nat) : Bool :=
  [0x1030, 0x1032, 0x1041, 0x2021, 0x2023, 0x3009, 0x5003, 0x6012, 0x8002, 0x8004, 0x8010, 0x9042, 0xA003, 0xA012,
   0xA020, 0xA061, 0xA062, 0xA063, 0xA064, 0xA065, 0xA06B, 0xA06D, 0xB050, 0xB052, 0xB060, 0xB061, 0xC001, 0xC003,
   0xD001, 0xD003, 0xD032, 0xE014, 0xF001, 0xF013, 0xF014, 0xF019].contains c

/-- Class of a code (R558). -/
def eventClass (c : Nat) : Nat := c / 4096 % 16

def setLog (f : Log → Log) (s : State) : State := { s with log := f s.log }

/-- Fields of an event record before its CRC (R557). -/
def eventFields (e : Event) : List (Nat × Nat × Int) :=
  [(0, 16, e.code), (16, 1, b2n e.announced), (17, 1, b2n e.lastWords), (18, 1, b2n e.inReserve), (19, 1, b2n e.stampLag),
   (32, 32, e.seq), (64, 48, e.frame), (128, 64, e.rowNs), (192, 32, e.epoch), (224, 32, e.boot), (256, 16, e.index),
   (272, 16, e.sub), (288, 192, leNat e.detail)]

/-- The 64 bytes of a record with its CRC (R557). -/
def eventBytes (e : Event) : List Nat :=
  let b := leBytes 60 (pack (eventFields e))
  b ++ leBytes 4 (crc32 (b.map (BitVec.ofNat 8)))

/-- Announces a record (R561, R476): subscribers, and transmit object 1,009. -/
def announce (e : Event) (s : State) : State :=
  let s1 := { s with log := { s.log with announce := some (e, s.seq.frame) }
                     can := { s.can with announceSeq := (s.can.announceSeq + 1) % 256 } }
  notify 1 0 (eventBytes e) s1

/-- Writes one record by the state of the log (R559, R562 to R564). A record moved from the last-words buffer is no new
event: it is neither announced nor buffered again. -/
def writeRecord (e0 : Event) (s : State) : State :=
  let ann := isAnnounced e0.code && !e0.lastWords
  let e := { e0 with seq := s.log.nextSeq, announced := ann || e0.announced, inReserve := decide (s.log.state = .degraded) }
  let s1 := setLog (fun l => { l with
    nextSeq := (l.nextSeq + 1) % 4294967296, classCount := upd l.classCount (eventClass e.code) cnt }) s
  let s2 := match s.log.state with
    | .isOpen => setLog (fun l => { l with ring := (e :: l.ring).take 131072 }) s1
    | .degraded => setLog (fun l => { l with reserve := (e :: l.reserve).take 4096 }) s1
    | _ => s1
  let s3 := if s.log.state = .lastWordsOnly || (ann && s.log.state ≠ .isOpen) then
      setLog (fun l => logLastWord l e) s2
    else s2
  if ann then announce e s3 else s3

/-- Event 0xF001 (R563): announced, and written to the last-words buffer. -/
def mediaEvent (address cause : Nat) (s : State) : State :=
  let e := { mkEvent s 0xF001 0xFFFF 0xFFFF (leBytes 4 address ++ [cause]) with seq := s.log.nextSeq, announced := true }
  announce e (setLog (fun l => { logLastWord l e with
    nextSeq := (l.nextSeq + 1) % 4294967296, classCount := upd l.classCount 15 cnt, codesNow := 0xF001 :: l.codesNow }) s)

/-- The medium has failed (R563, R564): the reserve region with event 0xF002 as its first record, or last words only. -/
def mediaFailure (address cause : Nat) (s : State) : State :=
  let last := (s.log.nextSeq + 4294967295) % 4294967296
  let s1 := mediaEvent address cause (setLog (fun l => { l with
    faultMedia := true, state := if s.pow.ddrOk then .degraded else .lastWordsOnly }) s)
  if s.pow.ddrOk then writeRecord (mkEvent s1 0xF002 0xFFFF 0xFFFF (leBytes 4 last)) s1 else s1

/-- DEGRADED without LPDDR5X (R563). -/
def loseReserve (s : State) : State :=
  if s.log.state = .degraded then
    mediaEvent 0 2 (setLog (fun l => { l with state := .lastWordsOnly, reserve := [] }) s)
  else s

/-- Writes the batch; the record at which the ring fails, and every later one, goes to the reserve region (R563). -/
def writeBatch (fail : Option (Nat × Nat)) : Nat → List Event → State → State
  | _, [], s => s
  | k, e :: t, s =>
    let s1 := match fail with
      | some (at_, address) => if at_ = k && s.log.state = .isOpen then mediaFailure address 1 s else s
      | none => s
    writeBatch fail (k + 1) t (writeRecord e s1)

/-- LOG_WRITE (R559): at most 16 records in a frame, in posting order. `fail` is the record of the batch at which the medium
fails its read-back twice, or an uncorrectable error is read, and the address. -/
def execLogWrite (fail : Option (Nat × Nat)) (s : State) : Host.Outcome State Fault Refusal :=
  .next (if !(coreRuns s) || s.log.state = .opening then s
    else
      let n := 16 - s.log.taken
      let batch := s.log.queue.take n
      let s1 := writeBatch fail 0 batch
        (setLog (fun l => { l with queue := l.queue.drop n, taken := l.taken + batch.length }) s)
      if s1.log.droppedRun ≠ 0 && s1.log.queue.length < 1024 then
        post 0xF003 (setLog (fun l => { l with droppedRun := 0 }) s1) 0xFFFF 0xFFFF (leBytes 4 s1.log.droppedRun)
      else s1)

/-- ANNOUNCEMENT_EXPIRY (R476): 1 s without a newer one. -/
def execAnnouncementExpiry (s : State) : Host.Outcome State Fault Refusal :=
  .next (match s.log.announce with
    | some (_, f) => if f + 10000 ≤ s.seq.frame then setLog (fun l => { l with announce := none }) s else s
    | none => s)

/-- LAST_WORDS_MOVE (R562): every buffered record goes into the log with its original stamps. -/
def moveLastWords (s : State) : State :=
  let old := s.log.lastWords.reverse
  if old.isEmpty then s
  else
    let put := fun (l : Log) (e : Event) => logPost l { e with lastWords := true }
    post 0xF004 (setLog (fun l => old.foldl put { l with lastWords := [] }) s) 0xFFFF 0xFFFF [old.length]

/-- LOG_RING_CHECK at step 8 (R560, R563): the log state is judged afresh. -/
def openLog (ringOk : Bool) (s0 : State) : State :=
  let head := ((s0.log.ring.head?).map (·.seq)).getD 0
  let oldest := ((s0.log.ring.getLast?).map (·.seq)).getD 0
  let s := setLog (fun l => { l with nextSeq := if l.ring.isEmpty then 0 else (head + 1) % 4294967296 }) s0
  if ringOk then
    let s1 := setLog (fun l => { l with state := .isOpen, faultMedia := false }) s
    moveLastWords (post 0xF005 s1 0xFFFF 0xFFFF (leBytes 4 head ++ leBytes 4 oldest))
  else if s.pow.ddrOk then
    let old := s.log.lastWords
    let s1 := mediaFailure 0 0 (setLog (fun l => { l with lastWords := [] }) s)
    let fresh := s1.log.lastWords
    let s2 := moveLastWords (setLog (fun l => { l with lastWords := old }) s1)
    setLog (fun l => { l with lastWords := fresh }) s2
  else mediaFailure 0 0 s

end Sys2Proof.Machine
end

