-- ==== Sys2Proof/Machine/Maintenance.lean ====
section
/-! DEFINITION. Maintenance activities and windows (R566 to R577). -/

namespace Sys2Proof.Machine

def maintCount (k : Nat) (s : State) : State :=
  { s with maint := { s.maint with counters := upd s.maint.counters k cnt } }

/-- An element of a footprint (R566). -/
inductive Element where
  | channel (c : Nat)
  | pump (p : Nat)
  | loop (l : Nat)
  | sensor (i : Nat)
  | canSpray (j : Nat)
  | pairPort
  deriving DecidableEq, Repr

/-- Every spray valve of the image (R400). -/
def sprayElements (s : State) : List Element :=
  ((List.range 48).filter fun c => (valveCfg s c).function = 3).map Element.channel ++
  ((List.range 16).filter fun j => canSprayExists s.img j).map Element.canSpray

/-- Footprint of an activity (R566). -/
def footprint (s : State) (code target : Nat) : List Element :=
  let l := target % 32
  let c := loopCfg s l
  match code with
  | 0 => [.channel (target % 64)]
  | 1 => [.pump (target % 4)]
  | 2 => [.loop l, .channel c.supplyValve, .channel c.returnValve, .sensor c.flow]
  | 3 => [.sensor (target % 256)]
  | 4 | 5 => [.loop l, .channel (target / 32 % 64), .sensor c.pSupply, .sensor c.pReturn]
  | 6 => [.sensor (target % 256)]
  | 7 => sprayElements s
  | _ => [.pairPort]

/-- TARGET names elements that exist; bits outside its fields are 0 (R572 step 1). -/
def targetOk (code target : Nat) : Bool :=
  match code with
  | 0 => target < 48
  | 1 => target < 4
  | 2 => target < 24
  | 3 => 80 ≤ target && target ≤ 103
  | 4 | 5 => target % 32 < 24 && target / 32 % 64 < 48 && target < 2 ^ 27
  | 6 => target < 80
  | 7 => 1 ≤ target && target ≤ 600
  | 8 => target = 0
  | _ => false

/-- Water that a flush takes, in the account's unit (R402, R566). -/
def flushWater (s : State) (seconds : Nat) : Nat :=
  ((sprayServed s).map fun v => (s.pump.spray.getD v {}).rate * 10000 * seconds).sum

/-- Preconditions (R566). `receives`: the partner's security block stands in exchange receive (R569). -/
def startConditions (s : State) (code target : Nat) (receives : Bool) : Bool :=
  let l := target % 32
  let c := loopCfg s l
  match code with
  | 0 => (valveCfg s target).function = 4 && valveHealth s target = 0
  | 1 => (pumpSt s target).state = .run &&
      (List.range 4).any fun q => q ≠ target && pumpPresent s q && (pumpSt s q).state = .run
  | 2 => loopConfigured s.img l && (leakLoop s l).iso = .isOpen && valveHealth s c.supplyValve = 0 &&
      valveHealth s c.returnValve = 0 && !(sensorMissing s c.flow) &&
      (match sensorValue s c.tReturn with
       | some t => decide (t ≤ s.img.limits.outletLimit - 320)
       | none => false)
  | 3 => leakUsed s (target - 80) && (leakIn s (target - 80)).state ≠ .wet
  | 4 | 5 => ((leakLoop s l).iso = .held || (leakLoop s l).iso = .notHolding) &&
      (valveCfg s (target / 32 % 64)).function = 4 && valveHealth s (target / 32 % 64) = 0
  | 6 => (sensorCfg s target).kind = 1 || (sensorCfg s target).kind = 2
  | 7 => s.img.topology.primary = .dryCooler && !s.pump.sprayInhibit &&
      flushWater s target + s.pump.today ≤ s.img.limits.waterDaily * 60000000
  | 8 => s.pair.partnerSeen || receives
  | _ => false

/-- A running activity that conflicts (R570). -/
def conflictWith (s : State) (code target : Nat) : Option Activity :=
  let fp := footprint s code target
  s.maint.activities.find? fun a => inProgress a &&
    (bit (s.img.maint.row.getD code 0) a.code || (footprint s a.code a.target).any fp.contains)

/-- The checks of R572 in order, as STATUS codes: 3 RANGE, 2 STATE, 8 CONFLICT, 6 FULL. -/
def startCheck (s : State) (code duration target : Nat) (receives : Bool) : Nat :=
  if 8 < code || !(targetOk code target) || s.img.maint.maxDuration.getD code 0 < duration then 3
  else if !s.pow.plantControl || inHold s then 2
  else if !(startConditions s code target receives) then 2
  else if (conflictWith s code target).isSome then 8
  else if 4 ≤ s.maint.activities.countP inProgress then 6 else 0

/-- A refusal is logged with its reason and, for CONFLICT, the running activity (R572). -/
def startRefused (r code target : Nat) (s : State) : State :=
  let other := match conflictWith s code target with
    | some a => if r = 8 then a.id else 0
    | none => 0
  post 0xF012 (maintCount (if r = 8 then 1 else 2) s) 0xFFFF 0xFFFF ([r, code] ++ leBytes 2 other)

/-- Entry of a new activity: a free one, else the one that ended first (R572, R573; DEDUCED, log entry 115). -/
def startEntry (s : State) : Nat :=
  match s.maint.activities.findIdx? fun a => a.state = .free with
  | some i => i
  | none =>
    let ended := (List.range 4).filter fun i => !(inProgress (activity s i))
    (ended.foldl (fun (b : Option Nat) i => match b with
      | some j => if (activity s i).endFrame < (activity s j).endFrame then some i else some j
      | none => some i) none).getD 0

/-- An accepted start (R572): it runs from the next boundary (R571). -/
def acceptStart (code duration target window : Nat) (s : State) : State :=
  let i := startEntry s
  let d := if duration = 0 then s.img.maint.maxDuration.getD code 0 else duration
  let a : Activity := { state := .starting, code, target, window, id := s.maint.nextId, durationS := d
                        startFrame := s.seq.frame + 1 }
  let s1 := { updActivity i (fun _ => a) s with
    maint := { s.maint with activities := upd s.maint.activities i (fun _ => a), nextId := (s.maint.nextId + 1) % 65536 } }
  post 0xF010 (maintCount 0 s1) i 0xFFFF (leBytes 2 a.id ++ [code])

/-- Commands a channel by class 1 (R412, R566). -/
def classOne (c : Nat) (open_ : Bool) (s : State) : State :=
  updCh c (fun x => { x with c1 := some (commandFor (valveCfg s c) open_) }) s

/-- The mean, rounded up: a count lies at or above half the mean when twice it lies at or above this. -/
def meanOf (l : List Int) : Int := if l.isEmpty then 0 else -((-l.sum) / l.length)

/-- What an activity does in its first frame (R567). -/
def beginActivity (i : Nat) (s : State) : State :=
  let a := activity s i
  let s1 := updActivity i (fun y => { y with state := .running, startFrame := s.seq.frame }) s
  match a.code with
  | 0 => classOne a.target true s1
  | 1 => updPump a.target (fun x => { x with state := .unavailable, rotated := true, keepsRunning := false
                                             runOut := false, speed := 0, speedCmd := 0, target := 0 }) s1
  | 2 => updActivity i (fun y => { y with
      stroke := .toFloor, stepFrame := s.seq.frame, flowMean := meanOf (s.maint.flows.getD (a.target % 32) []) }) s1
  | 4 | 5 => classOne (a.target / 32 % 64) true s1
  | _ => s1

/-- What the end of an activity leaves for the boundary after it (R573). -/
def cleanActivity (s1 : State) (a : Activity) : State :=
  let drop := fun (t : State) (c : Nat) => updCh c (fun x => { x with c1 := none }) t
  match a.code with
  | 1 =>
    let s2 := updPump (a.target % 4) (fun x => { x with rotated := false }) s1
    if domainOn s2 (111 + a.target % 4) then restartPump (a.target % 4) s2 else s2
  | 7 =>
    let shut := fun (v : Nat) (x : SprayValve) => if 48 ≤ v then { x with open_ := false } else x
    let s2 := ((List.range 48).filter fun c => (valveCfg s1 c).function = 3).foldl drop s1
    { s2 with pump := { s2.pump with spray := s2.pump.spray.mapIdx shut } }
  | _ => (actChannels s1 a).foldl drop s1

/-- The boundary's part of maintenance: ends are cleaned up, accepted starts begin (R571, R573). -/
def maintBoundary (s : State) : State :=
  let s1 := s.maint.dropping.foldl cleanActivity { s with maint := { s.maint with dropping := [] } }
  (List.range 4).foldl (fun t i => if (activity t i).state = .starting then beginActivity i t else t) s1

/-- Samples of one frame (R567). -/
def maintSamples (s : State) : State :=
  let flow := fun (l : Nat) (h : List Int) =>
    match sensorValue s (loopCfg s l).flow with
    | some v => if loopConfigured s.img l then (v :: h).take 10000 else []
    | none => []
  let press := fun (a : Activity) =>
    if a.state = .running && (a.code = 4 || a.code = 5) then
      let c := loopCfg s (a.target % 32)
      match sensorValue s c.pSupply, sensorValue s c.pReturn with
      | some p, some q => { a with samples := ((p + q) :: a.samples).take 10000 }
      | _, _ => { a with samples := [] }
    else a
  { s with maint := { s.maint with
      flows := s.maint.flows.mapIdx flow, activities := s.maint.activities.map press } }

def ranFrames (s : State) (a : Activity) : Nat := s.seq.frame - a.startFrame

/-- The duration of an activity is over. -/
def durationOver (s : State) (a : Activity) : Bool := a.durationS * 10000 ≤ ranFrames s a

/-- A flush has reached its last valve. -/
def flushOver (s : State) (a : Activity) : Bool := flushLength s (10000 * (a.target % 1024)) ≤ ranFrames s a

/-- ACTIVITY_END (R567, R573): the end of a duration, or of a flush. A drain or fill fails at the end of its duration;
a test or exchange that has not ended by itself is aborted. -/
def execActivityEnd (index : Nat) (s : State) : Host.Outcome State Fault Refusal :=
  let a := activity s index
  .next (if a.state ≠ .running then s
    else if a.code = 7 && flushOver s a then endActivity index .complete 0 s
    else if !(durationOver s a) then s
    else if a.code = 0 || a.code = 1 || a.code = 6 then endActivity index .complete 0 s
    else if a.code = 4 || a.code = 5 then endActivity index .fail 0 s
    else endActivity index .aborted 0 s)

/-- ACTIVITY_ENTRY_FREE (R573): 10 s after its end. -/
def execActivityEntryFree (index : Nat) (s : State) : Host.Outcome State Fault Refusal :=
  let a := activity s index
  .next (if a.state ≠ .free && !(inProgress a) && a.endFrame + 100000 ≤ s.seq.frame then
      updActivity index (fun _ => {}) s
    else s)

/-! Valve stroke test (R567, R568). -/

def strokeChannel (s : State) (a : Activity) : Nat :=
  let c := loopCfg s (a.target % 32)
  if a.stroke = .returnDue || a.stroke = .returnClosing || a.stroke = .returnOpening then c.returnValve
  else c.supplyValve

/-- STROKE_VALVE_CLOSE (R568 step 2): the loop's cap sum stands at its floor sum. -/
def execStrokeValveClose (index : Nat) (s : State) : Host.Outcome State Fault Refusal :=
  let a := activity s index
  let l := a.target % 32
  .next (if a.state = .running && a.code = 2 && (a.stroke = .toFloor || a.stroke = .returnDue) &&
        (loopP s l).capSum ≤ (loopP s l).floorSum then
      classOne (strokeChannel s a) false (updActivity index (fun y => { y with
        stroke := if y.stroke = .toFloor then .supplyClosing else .returnClosing, stepFrame := s.seq.frame }) s)
    else s)

/-- A stroke test misses a requirement (R567): the valve and the requirement (0 moved, 1 flow down, 2 flow back). -/
def strokeFail (i requirement : Nat) (s : State) : State :=
  let c := strokeChannel s (activity s i)
  post 0xF014 (endActivity i .fail 0 s) i c [c, requirement]

/-- Dip time and time to flow below 10 counts of the valve that has closed (R577), 0.1 ms. -/
def strokeDetail (c : ValveCh) (s : State) : List Nat := leBytes 2 c.dipTime ++ leBytes 2 (min 65535 (s.seq.frame - c.edge))

/-- Closing: MOVED and flow below 10 counts within 3 s of the edge. -/
def strokeClosing (i : Nat) (s : State) : State :=
  let a := activity s i
  let ch := strokeChannel s a
  let c := vch s ch
  let low := match sensorValue s (loopCfg s (a.target % 32)).flow with
    | some v => decide (v < 10)
    | none => false
  if !(inCurrent c.drive) || c.edge < a.stepFrame then s
  else if !c.window && !c.moved then strokeFail i 0 s
  else if low && c.moved then
    classOne ch true (updActivity i (fun y => { y with
      stroke := if y.stroke = .supplyClosing then .supplyOpening else .returnOpening, stepFrame := s.seq.frame
      detail := y.detail ++ strokeDetail c s }) s)
  else if c.edge + 30000 ≤ s.seq.frame then strokeFail i (if c.moved then 1 else 0) s
  else s

/-- Opening: flow at or above half its mean within 10 s of the release, which takes effect in the frame after its command. -/
def strokeOpening (i : Nat) (s : State) : State :=
  let a := activity s i
  let back := match sensorValue s (loopCfg s (a.target % 32)).flow with
    | some v => decide (a.flowMean ≤ 2 * v)
    | none => false
  if s.seq.frame ≤ a.stepFrame then s
  else if back then
    (if a.stroke = .supplyOpening then
      updActivity i (fun y => { y with stroke := .returnDue, stepFrame := s.seq.frame }) s
     else endActivity i .pass 0 s)
  else if a.stepFrame + 100001 ≤ s.seq.frame then strokeFail i 2 s
  else s

/-- STROKE_FLOW_CHECK (R567). -/
def execStrokeFlowCheck (index : Nat) (s : State) : Host.Outcome State Fault Refusal :=
  let a := activity s index
  .next (if a.state ≠ .running || a.code ≠ 2 then s
    else match a.stroke with
      | .supplyClosing | .returnClosing => strokeClosing index s
      | .supplyOpening | .returnOpening => strokeOpening index s
      | _ => s)

/-- STROKE_FLOOR_TIMEOUT (R568): 2 s. -/
def execStrokeFloorTimeout (index : Nat) (s : State) : Host.Outcome State Fault Refusal :=
  let a := activity s index
  .next (if a.state = .running && a.code = 2 && a.stroke = .toFloor && 20000 ≤ ranFrames s a then
      endActivity index .aborted 0 s
    else s)

/-- DRAIN_FILL_END_PRESSURE (R567): the mean of both pressures over 1 s. -/
def execDrainFillEndPressure (index : Nat) (s : State) : Host.Outcome State Fault Refusal :=
  let a := activity s index
  let p : Int := (a.target / 2 ^ 11 % 65536 : Nat)
  let sum := a.samples.sum
  let reached := if a.code = 4 then decide (sum ≤ 20000 * p) else decide (20000 * p ≤ sum)
  .next (if a.state = .running && (a.code = 4 || a.code = 5) && a.samples.length = 10000 && reached then
      endActivity index .complete 0 s
    else s)

/-- The accuracy of R437 about SCALE_HIGH. -/
def locatedWell (c : SensorCfg) (x : Nat) : Bool :=
  decide (((x : Int) - c.scaleHigh).natAbs * 100 ≤ c.scaleHigh.natAbs + 500)

/-- SELF_TEST_RESULT (R567): whether the input read WET within its debounce, and where a rope located it. -/
def execSelfTestResult (index : Nat) (wet : Bool) (x : Nat) (s : State) : Host.Outcome State Fault Refusal :=
  let a := activity s index
  let sensor := a.target % 256
  let pass := wet && (96 ≤ sensor || locatedWell (sensorCfg s sensor) x)
  .next (if a.state ≠ .running || a.code ≠ 3 then s
    else
      let s1 := updActivity index (fun y => { y with detail := leBytes 2 x }) s
      if pass && ranFrames s a ≤ 20000 then endActivity index .pass 0 s1
      else post 0xF017 (endActivity index .fail 0 s1) index sensor)

/-- FIRMWARE_EXCHANGE_REPORT (R567, R569). -/
def execFirmwareExchangeReport (index : Nat) (verified : Bool) (bytes : Nat) (s : State) :
    Host.Outcome State Fault Refusal :=
  let a := activity s index
  .next (if a.state ≠ .running || a.code ≠ 8 then s
    else
      let s1 := updActivity index (fun y => { y with detail := leBytes 4 bytes }) s
      if verified then post 0xF018 (endActivity index .pass 0 s1) index
      else post 0xF019 (endActivity index .fail 0 s1) index)

/-! Windows (R574). -/

/-- MAINT_WINDOW_CLOSE. -/
def closeWindow (w : Nat) (s : State) : State :=
  if (s.maint.windows.getD w {}).isOpen then
    post 0xF016 { s with maint := { s.maint with windows := upd s.maint.windows w fun _ => {} } } w
  else s

/-- MAINT_WINDOW_OPEN: a kind-3 entry executes (R574). -/
def openWindow (payload : Nat) (s : State) : State :=
  let w := payload % 8
  let s1 := post 0xF015 { s with maint := { s.maint with windows := upd s.maint.windows w fun _ =>
    { isOpen := true, canMask := bits payload 15 4, openFrame := s.seq.frame } } } w
  if bit payload 16 then
    let code := bits payload 20 17
    let target := bits payload 63 32
    let d := bits payload 79 64
    let r := startCheck s1 code d target false
    if r = 0 then acceptStart code d target w s1 else startRefused r code target s1
  else s1

/-- A kind-4 entry executes: the window closes and, with START 1, the activity it started stops (R574, R576). -/
def executeClose (payload : Nat) (s : State) : State :=
  let w := payload % 8
  let s1 := if bit payload 16 then
      (List.range 4).foldl (fun t i =>
        if inProgress (activity t i) && (activity t i).window = w then endActivity i .stopped 0 t else t) s
    else s
  closeWindow w s1

/-- MAINT_WINDOW_TIMEOUT (R574): 24 h. -/
def execMaintWindowTimeout (window : Nat) (s : State) : Host.Outcome State Fault Refusal :=
  .next (if (s.maint.windows.getD window {}).openFrame + 864000000 ≤ s.seq.frame then closeWindow window s else s)

/-- MAINT_STOP (R571): the running activity of that number. -/
def stopCheck (s : State) (id : Nat) : Nat :=
  match s.maint.activities.find? fun a => a.state ≠ .free && a.id = id with
  | some a => if inProgress a then 0 else 2
  | none => 3

def applyStop (id : Nat) (s : State) : State :=
  match s.maint.activities.findIdx? fun a => inProgress a && a.id = id with
  | some i => endActivity i .stopped 0 s
  | none => s

end Sys2Proof.Machine
end

