-- ==== Sys2Proof/Machine/Timebase.lean ====
section
/-! DEFINITION. Row time, wall time, the time epoch and PTP (R55 to R65). -/

namespace Sys2Proof.Machine

/-- The limit of the rate adjustment, 0.001 ppm (R55: 200 ppm). -/
def rateLimit : Int := 200000

/-- R62: the size above which an offset is not slewed, ns. -/
def stepLimit : Int := 50000000

/-- The rate adjustment the servo sets at a slewed Sync: the manual states no servo law, so its two parts are free
values; the total is held within 200 ppm (R55, R62). In holdover and on an ARB master it does not run (R60, R64). -/
def servo (n : Nat) (w : Wall) : Wall :=
  let fp := Config.servoFreq n
  let pp := Config.servoPhase n
  { w with freqPart := fp, phasePart := pp, rate := clampI (-rateLimit) rateLimit (fp + pp) }

/-- The limit of R65: how long the rate has stood at its limit without the offset below 50 us. -/
def trackLimit (frame : Nat) (off : Int) (w : Wall) : Wall :=
  { w with limitSince :=
      if w.rate.natAbs < rateLimit.natAbs then none
      else if off.natAbs < 50000 then none
      else match w.limitSince with
        | none => some frame
        | some f => some f }

/-- Offset of a Sync: the master's time at its arrival less wall time at its arrival (R61, R62). The example of
"Frame, time and clock crossings" fixes the sign: a master that steps back gives a negative offset. -/
def syncOffset (w : Wall) (origin correction rxRow : Int) : Int :=
  origin + correction + w.pathDelay - (rxRow + w.offset)

/-- An offset within 10 us counts toward lock; 16 in a row declare it (R61). -/
def lockCount (off : Int) (w : Wall) : Wall :=
  let run := if off.natAbs ≤ 10000 then w.lockRun + 1 else 0
  { w with lockRun := min run 16 }

/-- What a Sync does to the timebase (R61, R62, R65). On an ARB master the offset is measured only (R60). The 8 Syncs of
R62 need not agree in sign or size, and the offset of the 8th is the confirmed one (DESIGN CHOICE, log entry 163). -/
def wallSync (n frame : Nat) (off : Int) (w0 : Wall) : Wall :=
  let w := { w0 with syncCount := cnt w0.syncCount, offsetNs := off }
  if w.arb then w
  else if off.natAbs ≤ stepLimit.natAbs then
    let w1 := lockCount off { w with bigRun := 0 }
    let w2 := servo n w1
    let w3 := trackLimit frame off w2
    let w4 := if w3.lockRun = 16 ∧ !w3.ptpLocked then { w3 with ptpLocked := true } else w3
    let w5 := if w4.ptpLocked ∧ w4.epoch = 0 ∧ w4.step = none then { w4 with step := some 0 } else w4
    if off.natAbs < 10000 then { w5 with degraded := false } else w5
  else
    let run := w.bigRun + 1
    if 8 ≤ run then { w with bigRun := 0, lockRun := 0, step := some off }
    else { w with bigRun := run, lockRun := 0 }

/-- Announce comparison of the standard's default algorithm (R59): `a` is better than `b`. -/
def announceBetter (a b : Announce) : Bool :=
  if a.gm = b.gm then a.stepsRemoved < b.stepsRemoved || (a.stepsRemoved = b.stepsRemoved && a.source < b.source)
  else if a.priority1 ≠ b.priority1 then a.priority1 < b.priority1
  else if a.clockClass ≠ b.clockClass then a.clockClass < b.clockClass
  else if a.accuracy ≠ b.accuracy then a.accuracy < b.accuracy
  else if a.variance ≠ b.variance then a.variance < b.variance
  else if a.priority2 ≠ b.priority2 then a.priority2 < b.priority2
  else a.gm < b.gm

/-- A master of the domain in force on the active port (R59). The default algorithm does not qualify an Announce that has
passed 255 boundary clocks or more (PRESUMED, log entry 164). -/
def announceEligible (s : State) (a : Announce) : Bool :=
  a.domain = s.img.topology.ptpDomain && a.port = s.wall.activePort && decide (a.stepsRemoved < 255)

/-- Same sender on the same port. -/
def sameSender (a b : Announce) : Bool := a.source = b.source && a.port = b.port

/-- The Announce joins the record of its sender (R59): the standard keeps those of the last 4 announce intervals. -/
def noteForeign (a : Announce) (s : State) : State :=
  let now := rowNs s
  let old := ((s.wall.foreign.find? fun f => sameSender f.data a).map (·.times)).getD []
  let f : ForeignMaster := ⟨a, now :: old.filter fun t => now ≤ t + 4 * a.intervalNs⟩
  { s with wall := { s.wall with foreign := f :: s.wall.foreign.filter fun x => !(sameSender x.data a) } }

/-- A sender qualifies with two Announce messages inside 4 announce intervals (the standard's foreign master window); the
master in use stays qualified until its receipt timeout (PRESUMED, log entry 164). -/
def qualified (s : State) (f : ForeignMaster) : Bool :=
  f.data.port = s.wall.activePort &&
  (((s.wall.master.map (sameSender f.data)).getD false) ||
   decide (2 ≤ f.times.countP fun t => rowNs s ≤ t + 4 * f.data.intervalNs))

/-- The best of the qualified senders (R59). -/
def bestMaster (s : State) : Option ForeignMaster :=
  (s.wall.foreign.filter (qualified s)).foldl (fun b f => match b with
    | none => some f
    | some g => if announceBetter f.data g.data then some f else b) none

/-- Takes an Announce: the master's data, the ARB mark (R60) and a change of grandmaster (R63). -/
def takeAnnounce (a : Announce) (s : State) : State :=
  let changed := s.wall.gmIdentity ≠ a.gm ∧ s.wall.gmIdentity ≠ 0
  let arbNew := !a.ptpTimescale && !s.wall.arb
  let s1 := { s with wall := { s.wall with
      master := some a
      lastAnnounce := ((s.wall.foreign.find? fun f => sameSender f.data a).bind (·.times.head?)).getD (rowNs s)
      announceNs := a.intervalNs, gmIdentity := a.gm
      utcOffset := a.utcOffset, arb := !a.ptpTimescale
      delayOpen := s.wall.delayOpen && ((s.wall.master.map (sameSender a)).getD false) } }
  let s2 := if changed then post 0x1005 s1 else s1
  if arbNew then post 0x1006 s2 else s2

/-- Counts an ignored PTP message (R59). -/
def ptpIgnore (s : State) : State := { s with wall := { s.wall with ignored := cnt s.wall.ignored } }

/-- Announce receipt timeout: holdover (R64). The frequency part is kept, the phase part is 0; a rate that leaves its
limit by this ends the count of R65. -/
def enterHoldover (s : State) : State :=
  let rate := clampI (-rateLimit) rateLimit s.wall.freqPart
  post 0x1002 { s with wall := { s.wall with
    master := none, holdover := true, holdoverSince := rowNs s, phasePart := 0, ptpLocked := false, lockRun := 0
    delayOpen := false, rate, limitSince := if rate.natAbs < rateLimit.natAbs then none else s.wall.limitSince } }

/-- Begins a new time epoch at the frame boundary (R57): WALL_OFFSET is rewritten, the epoch increments and is kept
with the last 16. -/
def newEpoch (d : Int) (s : State) : State :=
  let off := s.wall.offset + d
  let e := s.wall.epoch + 1
  { s with wall := { s.wall with
      epoch := e % 4294967296, offset := off, step := none, epochCount := cnt s.wall.epochCount
      history := ({ epoch := e % 4294967296, wallOffset := off, startRow := rowNs s,
                    startFrame := s.seq.frame : EpochRec } :: s.wall.history).take 16 } }

/-- Before the first lock the epoch stays 0 (R57), so a confirmed step rewrites WALL_OFFSET alone, with its event
(R62). -/
def preEpochStep (d : Int) (s : State) : State :=
  post 0x1004 { s with wall := { s.wall with offset := s.wall.offset + d, step := none } }

/-- Sends a Delay_Req from the active port (R59). The manual leaves its pace to the standard; one leaves after each Sync
taken while none is outstanding (DESIGN CHOICE, log entry 165). -/
def sendDelayReq (s : State) : State :=
  if s.wall.delayOpen then s
  else
    let n := (s.wall.delaySeq + 1) % 65536
    send (.ptpDelayReq s.wall.activePort s.img.topology.ptpDomain n)
      { s with wall := { s.wall with delaySeq := n, delayOpen := true } }

/-! Commands of the timebase. -/

/-- A message of the master in use: from its port and its sender. -/
def fromMaster (s : State) (port source : Nat) : Bool :=
  port = s.wall.activePort && ((s.wall.master.map fun m => decide (m.source = source)).getD false)

/-- SYNC_RECEIVED (R62): a Sync with its Follow_Up. The origin and the correction are the master's, the receive
time is row time at the port, ns. A Sync outside the support of R59 is ignored and counted; one that does not come from
the master in use is ignored. -/
def execSyncReceived (port : Nat) (sender : PtpSender) (origin correction rxRow logInterval : Int) (s : State) :
    Host.Outcome State Fault Refusal :=
  if !(sequencerRuns s) then .next s
  else if sender.domain ≠ s.img.topology.ptpDomain ∨ logInterval < -7 ∨ 0 < logInterval then .next (ptpIgnore s)
  else if !(fromMaster s port sender.source) then .next s
  else
    let off := syncOffset s.wall origin correction rxRow
    let ended := s.wall.holdover
    let w := wallSync s.free s.seq.frame off
      { s.wall with holdover := false, syncOrigin := origin + correction, syncRx := rxRow, syncLog := logInterval }
    let s1 := { s with
      wall := { w with stepAt := if w.step = s.wall.step then s.wall.stepAt else s.seq.rowT }
      free := s.free + 1 }
    .next (sendDelayReq (if ended then post 0x1003 s1 else s1))

/-- The answer to the Delay_Req that is outstanding, from the master in use (R59). -/
def delayAnswers (s : State) (r : DelayResp) : Bool :=
  r.ours && s.wall.delayOpen && r.seq = s.wall.delaySeq && fromMaster s r.port r.source

/-- DELAY_RESP_RECEIVED (R59): end-to-end mean path delay from the last Sync and this exchange. One of another domain is
ignored and counted; one that answers no request of the module changes nothing. -/
def execDelayRespReceived (head : DelayHead) (txRow rxMaster : Int) (s : State) : Host.Outcome State Fault Refusal :=
  let r : DelayResp := ⟨head, txRow, rxMaster⟩
  .next (if !(sequencerRuns s) then s
    else if r.domain ≠ s.img.topology.ptpDomain then ptpIgnore s
    else if delayAnswers s r then { s with wall := { s.wall with
      delayOpen := false
      pathDelay := ((s.wall.syncRx + s.wall.offset - s.wall.syncOrigin) +
                    (r.rxMaster - r.correction - (r.txRow + s.wall.offset))) / 2 } }
    else s)

/-- PTP_MESSAGE_IGNORED (R59). -/
def execPtpMessageIgnored (s : State) : Host.Outcome State Fault Refusal :=
  .next (if sequencerRuns s then ptpIgnore s else s)

/-- ANNOUNCE_RECEIVED (R63). -/
def execAnnounceReceived (a : Announce) (s : State) : Host.Outcome State Fault Refusal :=
  if !(sequencerRuns s) then .next s
  else if a.domain ≠ s.img.topology.ptpDomain then .next (ptpIgnore s)
  else if !announceEligible s a then .next s
  else
    let s1 := noteForeign a s
    match bestMaster s1 with
    | some f =>
      if sameSender f.data a || !((s.wall.master.map (sameSender f.data)).getD false) then .next (takeAnnounce f.data s1)
      else .next s1
    | none => .next s1

/-- The master in use is dropped with its record. -/
def dropMaster (s : State) : State :=
  match s.wall.master with
  | none => s
  | some m => { s with wall := { s.wall with
      master := none, foreign := s.wall.foreign.filter fun f => !(sameSender f.data m) } }

/-- ANNOUNCE_RECEIPT_TIMEOUT (R64): 3 announce intervals without an Announce of the master (R59). Another eligible master
is taken; without one holdover begins, or goes on when its new master fell silent before the first Sync. -/
def execAnnounceReceiptTimeout (s : State) : Host.Outcome State Fault Refusal :=
  if sequencerRuns s && (s.wall.master.isSome || !s.wall.holdover) &&
      s.wall.lastAnnounce + 3 * s.wall.announceNs ≤ rowNs s then
    let s1 := dropMaster s
    match bestMaster s1 with
    | some f => .next (takeAnnounce f.data s1)
    | none =>
      if s.wall.holdover then .next { s1 with wall := { s1.wall with holdoverSince := rowNs s } }
      else .next (enterHoldover s1)
  else .next s

/-- PTP_PORT_TAKEOVER (R64): one further timeout in holdover, and the listening port becomes active. -/
def execPtpPortTakeover (s : State) : Host.Outcome State Fault Refusal :=
  if s.wall.holdover && s.wall.master.isNone && s.wall.holdoverSince + 3 * s.wall.announceNs ≤ rowNs s then
    .next { s with wall := { s.wall with activePort := 1 - s.wall.activePort, holdoverSince := rowNs s } }
  else .next s

/-- WALL_DEGRADED (R65): the rate has stood at its limit for more than 600 s. -/
def execWallDegraded (s : State) : Host.Outcome State Fault Refusal :=
  match s.wall.limitSince with
  | some f =>
    if 6000000 < since s f ∧ rateLimit.natAbs ≤ s.wall.rate.natAbs ∧ !s.wall.degraded then
      .next (post 0x1007 { s with wall := { s.wall with degraded := true } })
    else .next s
  | none => .next s

end Sys2Proof.Machine
end

