-- ==== Sys2Proof/Machine/Schedule.lean ====
section
/-! DEFINITION. The schedule table (R66 to R73) and the image schedule (R102). -/

namespace Sys2Proof.Machine

/-- LATE_MODE by kind (R67): LATE_RUN but for CAN slots and window opens. -/
def lateDefault (kind : Nat) : Bool := kind ≠ 2 ∧ kind ≠ 3

/-- R67: a window close is always LATE_RUN and a CAN schedule slot always LATE_DROP. -/
def lateAllowed (kind : Nat) (run : Bool) : Bool :=
  if kind = 4 then run else if kind = 2 then !run else true

/-- Due frame of a wall-keyed target by the rule of R70; an instant before frame 0 is held at frame 0. -/
def convertDue (s : State) (target : Nat) : Nat :=
  ((s.seq.frame : Int) - Int.ediv (wallNow s - (target : Int)) 100000).toNat

/-- The history holds the identity (R71). -/
def inHistory (s : State) (actionId occ : Nat) : Bool :=
  s.sched.history.any fun h => h.actionId = actionId && h.occurrence = occ

/-- A pending entry of the table, or a commit not yet in it, has the identity (R71). -/
def identityPending (s : State) (actionId occ : Nat) : Bool :=
  (s.sched.table.any fun e => e.valid && e.state = .pending && e.actionId = actionId && e.occurrence = occ) ||
  (s.sched.commits.any fun e => e.actionId = actionId && e.occurrence = occ)

/-- Free slots less the commits that wait for one. -/
def freeSlots (s : State) : Nat :=
  (s.sched.table.countP fun e => !e.valid) - s.sched.commits.length

/-- 25 h of row time in ns (R71). -/
def histLife : Int := 90000000000000

/-- No slot is free, or every one of the 4,096 history records is younger than 25 h (R72). -/
def schedFull (s : State) : Bool :=
  freeSlots s = 0 ||
  (4096 ≤ s.sched.history.length &&
   s.sched.history.all fun h => (rowNs s : Int) - h.rowNs < histLife)

/-- Records an identity in the history (R71). A record beyond the 4,096 takes the place of the oldest once that one is
25 h old; entries that were pending when the history filled are recorded besides it until then (DESIGN CHOICE, log entry
166). -/
def record (s : State) (e : SchedEntry) (frame : Nat) : State :=
  let young (h : SchedHist) : Bool := (rowNs s : Int) - h.rowNs < histLife
  let put (h : List SchedHist) : State :=
    { s with sched := { s.sched with history := h.take 4096 ++ (h.drop 4096).filter young } }
  put (⟨e.actionId, e.occurrence, frame, rowNs s⟩ :: s.sched.history)

/-- Sets slot `i` to an outcome in the frame in progress and records it (R66, R71). -/
def closeEntry (i : Nat) (st : EntryState) (s : State) : State :=
  match s.sched.table[i]? with
  | none => s
  | some e =>
    let late := st = .executed ∧ e.due < s.seq.frame
    let e' := { e with
      state := st, execFrame := s.seq.frame, leftAt := rowNs s, late := e.late || decide late
      lateness := if late then min (s.seq.frame - e.due) 65535 else e.lateness }
    record { s with sched := { s.sched with table := upd s.sched.table i (fun _ => e') } } e s.seq.frame

/-- The next occurrence of an image entry as a schedule entry (R102). -/
def imageEntry (s : State) (i k : Nat) (c : SchedCfg) : SchedEntry :=
  let target := c.firstTarget + k * c.repeatS * 1000000000
  { valid := true, actionId := c.actionId, occurrence := k % 65536, kind := c.kind, wallKeyed := true
    lateRun := c.lateMode, target, due := convertDue s target, convEpoch := s.wall.epoch % 65536
    payload := c.payload, image := some i, imageK := k }

/-- Commits occurrence `k` of image entry `i` (R102). On an ARB master it waits for one of the PTP timescale (R60). A commit
that the history knows is refused as a duplicate (R71, event 0x1013), one without a slot with event 0x1014 (R72); either
refusal ends the entry's chain of occurrences (DESIGN CHOICE, log entry 167). -/
def commitImage (i k : Nat) (s : State) : State :=
  match s.img.schedule[i]? with
  | none => s
  | some c =>
    let e := imageEntry s i k c
    if s.wall.arb then { s with sched := { s.sched with imageWait := s.sched.imageWait ++ [(i, k)] } }
    else if inHistory s e.actionId e.occurrence || identityPending s e.actionId e.occurrence then post 0x1013 s
    else if schedFull s then post 0x1014 s
    else { s with sched := { s.sched with commits := s.sched.commits ++ [e] } }

/-- The first occurrence whose target lies after the wall time (R102). -/
def firstOccurrence (s : State) (c : SchedCfg) : Option Nat :=
  let now := wallNow s
  if now < (c.firstTarget : Int) then some 0
  else if c.repeatS = 0 then none
  else some (((now - c.firstTarget).toNat) / (c.repeatS * 1000000000) + 1)

/-- The image entries can be committed for the first time: an image is loaded, wall time is valid and the master has the
PTP timescale (R60, R102). -/
def imageSchedDue (s : State) : Bool :=
  !s.wall.imageSchedDone && s.key.selected.isSome && wallValid s && !s.wall.arb

/-- When wall time first becomes valid, each image entry's next occurrence is committed (R102). -/
def commitImageSchedule (s : State) : State :=
  if !(imageSchedDue s) then s
  else
    (List.range s.img.schedule.length).foldl
      (fun t i => match t.img.schedule[i]? with
        | none => t
        | some c => match firstOccurrence t c with
          | none => t
          | some k => commitImage i k t)
      { s with wall := { s.wall with imageSchedDone := true } }

/-- After an occurrence of an image entry leaves the pending state, the next one is committed (R102). -/
def nextOccurrence (e : SchedEntry) (s : State) : State :=
  match e.image with
  | none => s
  | some i => match s.img.schedule[i]? with
    | none => s
    | some c => if c.repeatS = 0 then s else commitImage i (e.imageK + 1) s

/-- Drops slot `i` as late (R68): dropped, counted, event 0x1011. -/
def dropLate (i : Nat) (s : State) : State :=
  match s.sched.table[i]? with
  | none => s
  | some e =>
    let s1 := closeEntry i .dropped s
    let s2 := { s1 with sched := { s1.sched with lateDropCount := cnt s1.sched.lateDropCount } }
    nextOccurrence e (post 0x1011 s2 i 0xFFFF (leBytes 4 e.actionId))

/-- A pending entry that may run: with wall time not TAI a wall-keyed one stays pending (R60). -/
def mayRun (s : State) (e : SchedEntry) : Bool := e.valid && e.state = .pending && !(e.wallKeyed && s.wall.arb)

/-- An entry found late (R68): LATE_RUN stays pending and executes in the next frame; LATE_DROP is dropped. -/
def judgeLate (i : Nat) (s : State) : State :=
  match s.sched.table[i]? with
  | none => s
  | some e =>
    if mayRun s e && e.due ≤ s.seq.frame && !e.lateRun then dropLate i s else s

/-- A committed entry enters the table in the frame that begins at this boundary, in the lowest free slot (R68). -/
def enterTable (e : SchedEntry) (s : State) : State :=
  match s.sched.table.findIdx? (fun x => !x.valid) with
  | none => post 0x1014 s
  | some i =>
    judgeLate i { s with sched := { s.sched with
      table := upd s.sched.table i (fun _ => { e with commitFrame := s.seq.frame }) } }

/-- All commits of the frame enter the table (R27, R68). -/
def enterCommits (s : State) : State :=
  s.sched.commits.foldl (fun t e => enterTable e t) { s with sched := { s.sched with commits := [] } }

/-- Occurrences that waited for a PTP-timescale master are committed once one is selected (R60, R102). -/
def commitWaiting (s : State) : State :=
  if s.wall.arb || s.sched.imageWait.isEmpty then s
  else s.sched.imageWait.foldl (fun t w => commitImage w.1 w.2 t) { s with sched := { s.sched with imageWait := [] } }

/-- Guard phase, step 3 (R42, R69): the pending entries due at the next boundary, or late, are staged in the order
of R73. One that could not run at its due frame is judged late (R68). -/
def stageSchedule (s0 : State) : State :=
  let s := (indicesWhere s0.sched.table fun _ e => mayRun s0 e && decide (e.due ≤ s0.seq.frame)).foldl
    (fun t i => judgeLate i t) s0
  let due := indicesWhere s.sched.table fun _ e => mayRun s e && decide (e.due ≤ s.seq.frame + 1)
  let key (i : Nat) : Nat × Nat := match s.sched.table[i]? with
    | some e => (e.commitFrame, e.actionId)
    | none => (0, 0)
  let lt (a b : Nat) : Bool :=
    (key a).1 < (key b).1 || ((key a).1 = (key b).1 && (key a).2 < (key b).2)
  { s with sched := { s.sched with staged := sortBy lt due } }

/-- Marks slot `i` executed at this boundary; a late run is counted and logged as 0x1010 (R68, R69, R71). R73 says that
each entry is logged, and no table gives an event to one that runs on time: its record in the history is its log (DEDUCED,
log entry 168). -/
def markExecuted (i : Nat) (s : State) : State :=
  match s.sched.table[i]? with
  | none => s
  | some e =>
    let s1 := closeEntry i .executed s
    let s2 := if e.due < s.seq.frame then
        post 0x1010 { s1 with sched := { s1.sched with lateRunCount := cnt s1.sched.lateRunCount } } i 0xFFFF
          (leBytes 4 e.actionId)
      else s1
    nextOccurrence e s2

/-- Converts slot `i` again (R70). An identity that the history holds is set to skipped with event 0x1012 and never
becomes pending again; the skip is recorded, and an image entry that leaves the pending state by it commits its next
occurrence (R71, R102). -/
def reconvert (i : Nat) (s : State) : State :=
  match s.sched.table[i]? with
  | none => s
  | some e =>
    if !e.valid || !e.wallKeyed || e.state = .skipped then s
    else if inHistory s e.actionId e.occurrence then
      let s1 := record { s with sched := { s.sched with table := upd s.sched.table i (fun x =>
        { x with state := .skipped, execFrame := s.seq.frame
                 leftAt := if x.state = .pending then rowNs s else x.leftAt }) } } e s.seq.frame
      let s2 := post 0x1012 s1 i 0xFFFF (leBytes 4 e.actionId)
      if e.state = .pending then nextOccurrence e s2 else s2
    else if e.state = .pending then
      judgeLate i { s with sched := { s.sched with table := upd s.sched.table i (fun x =>
        { x with due := convertDue s e.target, convEpoch := s.wall.epoch % 65536 }) } }
    else s

/-- Commits that have not yet entered the table are converted again as well (R70). -/
def reconvertCommits (s : State) : State :=
  { s with sched := { s.sched with commits := s.sched.commits.map fun e =>
      if e.wallKeyed then { e with due := convertDue s e.target, convEpoch := s.wall.epoch % 65536 } else e } }

/-! Commands of the schedule. -/

/-- TIME_EPOCH_INCREMENT (R57, R62): at the frame boundary after a first lock or a confirmed step. Every wall-keyed
entry is converted again (R70), and at the first validity of wall time the image schedule is committed (R102). -/
def execTimeEpochIncrement (s : State) : Host.Outcome State Fault Refusal :=
  match s.wall.step with
  | none => .next s
  | some d =>
    if !(sequencerRuns s && s.seq.phase = 0 && decide (s.wall.stepAt < s.seq.rowT)) then .next s
    else if s.wall.epoch = 0 ∧ !s.wall.ptpLocked then .next (preEpochStep d s)
    else
      let first := s.wall.epoch = 0
      let s1 := newEpoch d s
      let s2 := if first ∧ d = 0 then s1 else post 0x1004 s1
      let s3 := (List.range s2.sched.table.length).foldl (fun t i => reconvert i t) (reconvertCommits s2)
      .next (commitImageSchedule s3)

/-- WALL_KEY_CONVERSION (R70): once per second, the pending wall-keyed entries due more than 10,000 frames ahead. -/
def execWallKeyConversion (s : State) : Host.Outcome State Fault Refusal :=
  if wallValid s && !s.wall.arb && s.sched.lastConv + 1000000000 ≤ rowNs s then
    let far := indicesWhere s.sched.table fun _ e =>
      e.valid && e.wallKeyed && e.state = .pending && s.seq.frame + 10000 < e.due
    .next (far.foldl (fun t i => reconvert i t) { s with sched := { s.sched with lastConv := rowNs s } })
  else .next s

/-- HISTORY_RECORD_EXPIRY (R71): records that have reached 25 h of row time are discarded. -/
def execHistoryRecordExpiry (s : State) : Host.Outcome State Fault Refusal :=
  let kept := s.sched.history.filter fun h => (rowNs s : Int) - h.rowNs < histLife
  .next { s with sched := { s.sched with history := kept } }

/-- SCHEDULE_SLOT_FREE (R72): slots whose entries left the pending state 10 s ago are freed. -/
def execScheduleSlotFree (s : State) : Host.Outcome State Fault Refusal :=
  let freed := s.sched.table.map fun e =>
    if e.valid && e.state ≠ .pending && e.leftAt + 10000000000 ≤ rowNs s then ({} : SchedEntry) else e
  .next { s with sched := { s.sched with table := freed } }

end Sys2Proof.Machine
end

