-- ==== Sys2Proof/Machine/Pair.lean ====
section
/-! DEFINITION. The redundant pair: claim rounds, roles, checkpoints, takeover and handover (R495 to R526), and taking
plant control (R131 to R134). -/

namespace Sys2Proof.Machine

def pairCount (k : Nat) (s : State) : State := setPair (fun p => { p with counters := upd p.counters k cnt }) s

/-- HOME and SINGLE (R497). -/
def isHome (s : State) : Bool := s.pow.slotStrap = 1 || s.pow.slotStrap = 3
def isSingle (s : State) : Bool := s.pow.slotStrap = 3

/-- The unit may place a claim (R497, R500, R503). -/
def claimAllowed (s : State) : Bool :=
  s.pow.ready && [StartState.arming, .standby, .control].contains s.pow.state && !s.pow.deadMan && !(strapInvalid s) &&
  !s.pair.conflict && !s.pair.withheld

/-- Its own claim (R496). -/
def ownClaim (s : State) : Nat :=
  healthGrade s * 16 + b2n (isHome s) * 8 + b2n (s.pair.role = .control && s.pair.swap.isSome) * 4 + s.pow.slotStrap % 4

/-- A request claim (R502). -/
def requestClaim (s : State) : Nat := b2n (isHome s) * 8 + 4 + s.pow.slotStrap % 4

/-- A CTRL message: OP 0 SWAP_REQ, 1 HANDOVER, 2 PRIMED, 3 REFUSED (R508), with a payload of 8 bytes: the boundary of
HANDOVER as a U48, otherwise zeros (PRESUMED, log entry 190). -/
def sendCtrl (op boundary : Nat) (s : State) : State :=
  if portUp s then sendReliable 64 9 op 0 0 (leBytes 8 boundary) s else s

/-- PRIMED has been acknowledged (R503, R520). -/
def primedAcked (s : State) : Bool := !((lport s 64).replay.any fun k => k.type = 9 && k.op = 2)

/-- The claim that the role places in a round of this frame (R502, R520). A request claim ends with HANDOVER. -/
def placedClaim (s : State) : Option Nat :=
  if !(claimAllowed s) then none
  else match s.pair.role with
    | .control | .taking => some s.pair.claim
    | .handing => if s.pair.primed then none else some s.pair.claim
    | .primed => if primedAcked s then some s.pair.claim else none
    | .standby =>
      (match s.pair.swap, s.pair.holderClaim with
       | some _, some f => if s.seq.frame ≤ f + 1 && s.pair.boundary.isNone then some (requestClaim s) else none
       | _, _ => none)
    | .none => none

/-! Leaving control. -/

/-- The output stages are released (R500). -/
def releaseStages (s : State) : State :=
  banksRefresh (releaseOutputs { s with
    pow := { s.pow with plantControl := false }
    pair := { s.pair with stages := false } })

/-- Plant control ends (R305, R395, R575). -/
def leaveControl (s : State) : State :=
  let s1 := endVigil (abortAll 5 (loopsLeaveControl (releaseStages s)))
  setPair (fun p => { p with inControl := false }) { s1 with key := { s1.key with controlNormalSince := none } }

/-- The unit becomes standby (R503). -/
def becomeStandby (s : State) : State :=
  let s1 := leaveControl s
  { s1 with
    pow := { s1.pow with state := .standby }
    pair := { s1.pair with role := .standby, boundary := none, primed := false, idleSince := s.seq.frame, restored := false } }

/-- The claim is withheld and the role ends (R503): LIMP, NO_IMAGE, HELD, dead-man. -/
def loseRole (s : State) : State :=
  setPair (fun p => { p with role := .none, won := false, boundary := none, primed := false }) (leaveControl s)

/-- Role term on entering CONTROL (R504). -/
def advanceTerm (s : State) : State :=
  setPair (fun p => { p with term := (max p.term p.termSeen + 1) % 4294967296 }) s

/-! Swaps (R518, R519, R522). -/

/-- The holder's conditions (R519). -/
def swapAcceptable (s : State) (src : SwapSource) : Bool :=
  s.pair.role = .control && s.pair.partnerSeen && (src = .grade || s.pair.grade ≤ s.pair.partner.grade) &&
  (s.pair.partner.ckptSeq = s.pair.ckptSeq || s.pair.partner.ckptSeq + 1 = s.pair.ckptSeq) &&
  s.key.digest = s.pair.partner.digest

/-- The holder accepts and names boundary B, the first plan epoch boundary at least 20 frames on (R520). -/
def acceptSwap (s : State) : State :=
  let b := ceilDiv (s.seq.frame + 20) 100 * 100
  post 0xD011 (sendCtrl 1 b
    (setPair (fun p => { p with role := .handing, boundary := some b, primed := false }) s))

/-- A request that is refused, crossed or abandoned ends; an automatic one waits 60 s (R518). -/
def endSwap (s : State) : State :=
  setPair (fun p => { p with
    swap := none
    retryAt := match p.swap with
      | some .takeback | some .grade => s.seq.frame + 600000
      | _ => p.retryAt }) s

/-- The holder refuses (R519). -/
def refuseSwap (s : State) : State := post 0xD013 (pairCount 2 (endSwap s))

/-- The holder judges its own request, carried in its claims. -/
def judgeOwnSwap (s : State) : State :=
  match s.pair.role, s.pair.swap with
  | .control, some src => if swapAcceptable s src then acceptSwap s else refuseSwap s
  | _, _ => s

/-- CROSSED_SWAP (R522). -/
def crossedSwap (s : State) : State :=
  post 0xD014 (pairCount 3 (endSwap s))

def carriesSwap (c : Nat) : Bool := bit c 2

/-! Claim rounds (R498, R499). -/

/-- The wired-or of two claims as a losing unit reads it: the greater of the two. -/
def wireValue (own : Nat) (partner : Nat) (open_ : Bool) : Nat := if open_ then own else max own partner

/-- R499: lost on a wire when recessive was sent and dominant read. -/
def judgeRound (p : PairSt) (own : Option Nat) (f : RoundFacts) : RoundResult :=
  let o := own.getD 0
  let q := f.partner.getD 0
  let lostA := decide (o < wireValue o q f.openA)
  let lostB := decide (o < wireValue o q f.openB)
  let ok := (p.stuckA || !lostA) && (p.stuckB || !lostB) && !(p.stuckA && p.stuckB)
  let win := own.isSome && ok
  let seen := (!p.stuckA && !f.openA) || (!p.stuckB && !f.openB)
  { win, partner := if seen then q else 0
    partnerWins := seen && !win && decide (16 ≤ q)
    fault := p.stuckA || p.stuckB || lostA != lostB }

/-- What a round leaves in the pair block; a claim of GRADE 0 enables nothing (R502). -/
def recordRound (own : Option Nat) (r : RoundResult) (s : State) : State :=
  let n := s.seq.frame
  let holds := r.win && decide (16 ≤ own.getD 0)
  let s1 := setPair (fun p => { p with
    won := holds, wonFrame := if holds then some n else p.wonFrame
    winClaim := if r.win then own.getD 0 else r.partner, partnerClaim := r.partner
    holderClaim := if r.partnerWins then some n else p.holderClaim
    busVeto := p.busVeto && !r.partnerWins
    wireFault := r.fault, claimAge := p.claimAge + 1 }) s
  if r.fault then postRun 0xD030 (if s.pair.wireFault then s1 else pairCount 7 s1) else s1

/-- The role after a round that this unit did not win (R503). -/
def roundLost (r : RoundResult) (s : State) : State :=
  match s.pair.role with
  | .control => if r.partnerWins then post 0xD003 (becomeStandby s) else releaseStages s
  | .handing =>
    if s.pair.primed then post 0xD012 (pairCount 1 (setPair (fun p => { p with swap := none }) (becomeStandby s)))
    else if r.partnerWins then post 0xD003 (becomeStandby s) else releaseStages s
  | .taking => if r.partnerWins then becomeStandby s else s
  | _ => s

/-- Steps 2 and 3 of R515 (isolations, emergency and the plan) for a loaded checkpoint. The plan that takes force counts as a
commit for Vigil (DEDUCED, log entry 189). -/
def resumePlan (s : State) : State :=
  let m := s.pair.mark.isolated
  let f := fun (l : Nat) (x : LoopLeak) => if x.iso = .isOpen && bit m l then { x with iso := .closing } else x
  { s with
    leak := { s.leak with
      loops := s.leak.loops.mapIdx f
      emergency := s.leak.emergency || s.pair.mark.emergency }
    heat := { s.heat with
      loops := s.heat.loops.mapIdx fun l x => { x with isolated := x.isolated || bit m l }
      rackLimit := s.img.limits.rackCap, rowLimit := s.img.limits.rowCap
      limitRequests := [] }
    plan := { s.plan with
      state := .held, infeasibleRun := 0, returnRun := 0, snap := none, shadow := none, started := true
      lowerDue := s.plan.mode = .feast }
    pump := { s.pump with planAge := 0 } }

/-- The primed standby enters control by the handover round or by a takeover bid (R503, R520); only a handover keeps coils
in HOLD (R521). -/
def primedWins (code : Nat) (s : State) : State :=
  let s1 := advanceTerm (resumePlan s)
  post code { s1 with
    pow := { s1.pow with state := .control }
    pair := { s1.pair with role := .control, boundary := none, swap := none, takeFrame := s.seq.frame, succeeded := true
                           holdChannels := if code = 0xD012 then s1.pair.holdChannels else [] } }

/-- The role after a round that this unit won (R503). -/
def roundWon (s : State) : State :=
  let s1 := setPair (fun p => { p with stages := true }) s
  match s.pair.role with
  | .primed => primedWins 0xD012 (pairCount 1 s1)
  | .control | .handing =>
    -- stages that lapsed for want of a won round drive again
    if s.pair.inControl && !s.pow.plantControl then
      banksRefresh { s1 with pow := { s1.pow with plantControl := true } }
    else s1
  | _ => s1

/-- CLAIM_ROUND_END (R499, R503, R522). -/
def roundEnd (own : Option Nat) (f : RoundFacts) (s : State) : State :=
  let s0 := setPair (fun p => { p with stuckA := p.stuckA && !f.freeA, stuckB := p.stuckB && !f.freeB }) s
  let r := judgeRound s0.pair own f
  let s1 := recordRound own r s0
  let s2 := if s1.pair.won then roundWon s1 else roundLost r s1
  match own with
  | some o =>
    if carriesSwap o && carriesSwap r.partner then crossedSwap s2
    else if s1.pair.won then judgeOwnSwap s2 else s2
  | none => s2

/-- In LIMP or NO_IMAGE a claim on the bus releases the backup stage (R135). -/
def claimSeen (f : RoundFacts) (s : State) : State :=
  if f.partner.isSome && (s.pow.state = .limp || s.pow.state = .noImage) then
    let s1 := releaseBackup s
    { s1 with pow := { s1.pow with noClaimFrames := 0 } }
  else s

/-- CLAIM_ROUND (R498): the unit opens or joins the round of this frame. A claim value that has not been refreshed for
2 rounds is withheld (R500). -/
def execClaimRound (facts : RoundFacts) (s : State) : Host.Outcome State Fault Refusal :=
  .next (claimSeen facts (roundEnd (if s.pair.claimAge < 2 then placedClaim s else none) facts s))

/-- CLAIM_REFRESH_TIMEOUT (R500). -/
def execClaimRefreshTimeout (s : State) : Host.Outcome State Fault Refusal :=
  .next (if 2 ≤ s.pair.claimAge then setPair (fun p => { p with withheld := true }) s else s)

/-- CLAIM_WIRE_STUCK (R499): dominant for 10 us outside a round. -/
def execClaimWireStuck (wireB : Bool) (s : State) : Host.Outcome State Fault Refusal :=
  let s1 := setPair (fun p => if wireB then { p with stuckB := true, wireFault := true }
    else { p with stuckA := true, wireFault := true }) s
  .next (postRun 0xD030 (if s.pair.wireFault then s1 else pairCount 7 s1))

/-- STRAP_CONFLICT (R497). -/
def execStrapConflict (s : State) : Host.Outcome State Fault Refusal :=
  .next (if (strapInvalid s || (s.pair.partnerSeen && s.pair.partner.strap = s.pow.slotStrap)) && !s.pair.conflict then
      post 0xD032 (setPair (fun p => { p with conflict := true }) s)
    else s)

/-! HEALTH and MARK (R507 to R510). -/

/-- The HEALTH message that the unit sends (R497, R507, R518). -/
def ownHealth (s : State) : HealthMsg :=
  let p := s.pair
  { grade := p.grade, penalties := p.penalties, role := p.role.code, term := p.term, ckptSeq := p.ckptSeq
    digest := s.key.digest, fwMajor := s.pow.fw.major, fwMinor := s.pow.fw.minor, fwPatch := s.pow.fw.patch
    strap := s.pow.slotStrap, pairHold := p.pairHold, ckptValid := p.ckptValid }

/-- The 72-byte payload of a HEALTH message (R507): the order and places of its fields are PRESUMED (log entry 190). -/
def healthBytes (m : HealthMsg) : List Nat :=
  [m.grade % 256, m.role % 256] ++ leBytes 2 m.penalties ++ leBytes 4 m.term ++ leBytes 4 m.ckptSeq ++
  [m.fwMajor % 256, m.fwMinor % 256] ++ leBytes 2 m.fwPatch ++
  [m.strap % 256, b2n m.pairHold + 2 * b2n m.ckptValid] ++ List.replicate 6 0 ++ leBytes 48 m.digest

/-- The HEALTH message that a payload spells. -/
def parseHealth (b : List Nat) : HealthMsg :=
  let num (at_ len : Nat) : Nat := leNat ((b.drop at_).take len)
  { grade := num 0 1, role := num 1 1, penalties := num 2 2, term := num 4 4, ckptSeq := num 8 4, fwMajor := num 12 1
    fwMinor := num 13 1, fwPatch := num 14 2, strap := num 16 1, pairHold := bit (num 17 1) 0
    ckptValid := bit (num 17 1) 1, digest := num 24 48 }

/-- HEALTH_SEND (R507): every 100 ms. -/
def execHealthSend (s : State) : Host.Outcome State Fault Refusal :=
  .next (if portUp s && s.pair.lastHealthSent + 1000 ≤ s.seq.frame then
      sendReliable 64 8 0 0 0 (healthBytes (ownHealth s)) (setPair (fun q => { q with lastHealthSent := s.seq.frame }) s)
    else s)

def seeTerm (t : Nat) (s : State) : State := setPair (fun p => { p with termSeen := max p.termSeen t }) s

/-- HEALTH_RECEIVED (R507): a change of the partner's PAIR_HOLD is taken over (R518). -/
def execHealthReceived (payload : List Nat) (s : State) : Host.Outcome State Fault Refusal :=
  let msg := parseHealth payload
  .next (seeTerm msg.term (setPair (fun p => { p with
    partner := msg, partnerSeen := true, healthFrame := some s.seq.frame
    pairHold := if msg.pairHold = p.partner.pairHold then p.pairHold else msg.pairHold
    conflict := p.conflict && (strapInvalid s || msg.strap = s.pow.slotStrap) }) s))

/-- PARTNER_SILENT (R507): no HEALTH for 300 ms. -/
def execPartnerSilent (s : State) : Host.Outcome State Fault Refusal :=
  let old := match s.pair.healthFrame with
    | some f => decide (f + 3000 ≤ s.seq.frame)
    | none => decide (3000 ≤ s.seq.frame)
  .next (if old && !(isSingle s) then postRun 0xD040 (setPair (fun p => { p with partnerSeen := false }) s) else s)

/-- The 16-byte payload of a MARK (R509): the frame, HOLDER, the term, and the word of R457 with ROW_EMERGENCY in bit 0 and
ISOLATED_MASK from bit 8; the places of the first three are PRESUMED (log entry 190). -/
def markBytes (m : MarkMsg) : List Nat :=
  leBytes 6 m.frame ++ [b2n m.holder, 0] ++ leBytes 4 m.term ++ leBytes 4 (b2n m.emergency + m.isolated % 2 ^ 24 * 2 ^ 8)

/-- The MARK that a payload spells. -/
def parseMark (b : List Nat) : MarkMsg :=
  let num (at_ len : Nat) : Nat := leNat ((b.drop at_).take len)
  { frame := num 0 6, holder := bit (num 6 1) 0, term := num 8 4, emergency := bit (num 12 4) 0
    isolated := bits (num 12 4) 31 8 }

/-- The MARK of this frame. -/
def ownMark (s : State) : MarkMsg :=
  { frame := s.seq.frame, holder := s.pair.won, term := s.pair.term, isolated := isolatedMask s
    emergency := s.leak.emergency }

/-- MARK_SEND (R508, R509) at offset 0 of a frame: a timed packet, numbered by its frame (R354). -/
def markSend (s : State) : State :=
  if portUp s then
    sendPacket 64 1 s.seq.frame { type := 6, seq := s.seq.frame % 65536 } (markBytes (ownMark s)) s
  else s

/-- TERM_UPDATE (R504): a holder that sees a higher term. -/
def termUpdate (t : Nat) (s : State) : State :=
  let s1 := seeTerm t s
  if (s.pair.role = .control || s.pair.role = .handing) && s.pair.term < t then
    setPair (fun p => { p with term := (t + 1) % 4294967296 }) s1
  else s1

/-- MARK_RECEIVED (R510): D = G + 1 - F. -/
def execMarkReceived (payload : List Nat) (s : State) : Host.Outcome State Fault Refusal :=
  let msg := parseMark payload
  .next (termUpdate msg.term (setPair (fun p => { p with
    delta := (s.seq.frame : Int) + 1 - msg.frame
    mark := if msg.holder then msg else p.mark
    holderMark := if msg.holder then some s.seq.frame else p.holderMark }) s))

/-! Checkpoints (R511 to R513). -/

/-- A frame number of the partner as the unit's own (R510). -/
def trFrame (d : Int) (f : Nat) : Nat := ((f : Int) + d).toNat

/-- CHECKPOINT_SNAPSHOT (R511): the state committed in this frame. -/
def makeCheckpoint (s : State) : Checkpoint :=
  { term := s.pair.term, seq := (s.pair.ckptSeq + 1) % 4294967296, frame := s.seq.frame, rowNs := rowNs s
    digest := s.key.digest, fwMinor := s.pow.fw.minor, mode := s.plan.mode
    final := s.pair.boundary = some (s.seq.frame + 1)
    pages := s.heat.pages, loops := s.heat.loops, tenants := s.heat.tenants, nonces := s.sec.tenants.map (·.lastNonce)
    sites := s.heat.sites
    caps := s.caps.sites, classes := s.caps.classes, paces := s.caps.tenants, unbound := s.caps.unbound
    ctl := s.ctl.loops, planInForce := s.plan.inForce, planLoops := s.plan.loops
    leak := s.leak.loops, emergency := s.leak.emergency, rowSensor := s.leak.rowSensor
    manyLoops := s.leak.manyLoops, manyFrame := s.leak.manyFrame, stopRequest := s.leak.stopRequest
    pump := s.pump, hold := (List.range 48).filter fun c => (vch s c).drive = .hold
    table := s.sched.table, history := s.sched.history, windows := s.maint.windows, inactive := s.can.ch.map (·.inactive) }

/-- In frames that end in 9 the holder takes a snapshot; it streams it from the next frame on. -/
def checkpointSnapshot (s : State) : State :=
  if s.seq.frame % 10 = 9 && s.pow.plantControl && (s.pair.role = .control || s.pair.role = .handing) then
    let c := makeCheckpoint s
    pairCount 4 (setPair (fun p => { p with snap := some c, streamed := 0, ckptSeq := c.seq, ckptFrame := c.frame }) s)
  else s

/-- The parts that MRAM keeps are written at each checkpoint taken (R513): bindings and tenants with their nonces (R155, R156,
R551), water
(R402), isolation states (R448) and the schedule history (R140). The plan variables of the standby's graphs come from
its plan in force (R505). -/
def keepCheckpoint (c : Checkpoint) (s : State) : State :=
  let site := fun (i : Nat) (x : SitePages) =>
    let y := c.sites.getD i {}
    { x with tenant := y.tenant, tgen := y.tgen }
  let tenant := fun (t : Nat) (x : TenantSt) =>
    let y := c.tenants.getD t {}
    { x with state := y.state, gen := y.gen, record := y.record }
  let loop := fun (l : Nat) (x : LoopLeak) =>
    let y := c.leak.getD l {}
    { x with iso := y.iso, cause := y.cause }
  let hist := fun (h : SchedHist) => { h with rowNs := (rowNs s : Int) - ((c.rowNs : Int) - h.rowNs) }
  { s with
    heat := { s.heat with sites := s.heat.sites.mapIdx site, tenants := s.heat.tenants.mapIdx tenant }
    sec := { s.sec with tenants := s.sec.tenants.mapIdx fun t x => { x with lastNonce := c.nonces.getD t x.lastNonce } }
    pump := { s.pump with today := c.pump.today, total := c.pump.total, day := c.pump.day, dayStored := c.pump.dayStored }
    leak := { s.leak with loops := s.leak.loops.mapIdx loop }
    sched := { s.sched with history := c.history.map hist }
    plan := { s.plan with inForce := c.planInForce } }

/-- CKPT_RECEIVED (R512): every packet has arrived or not, and the trailer's hash matches or not. -/
def execCkptReceived (ckpt : Checkpoint) (complete hashOk : Bool) (s : State) : Host.Outcome State Fault Refusal :=
  let c := ckpt
  .next (if !(s.pair.role = .standby || s.pair.role = .primed) then seeTerm c.term s
    else
      let same := decide (c.digest = s.key.digest)
      let ok := complete && hashOk && decide (s.pair.term ≤ c.term) && same && decide (c.fwMajor = 3 ∧ c.fwMinor ≤ 9)
      let s1 := seeTerm c.term s
      if ok then
        keepCheckpoint c (pairCount 5 (setPair (fun p => { p with
          ckpt := some c, ckptSeq := c.seq, ckptFrame := c.frame, ckptValid := true
          ckptAt := some (min s.seq.frame (trFrame p.delta c.frame))
          finalCkpt := if c.final then some c else p.finalCkpt }) s1))
      else
        let s2 := post 0xD020 (pairCount 6 s1)
        if same then s2 else postRun 0xD022 s2)

/-- No last complete checkpoint younger than 100 ms. -/
def ckptOld (s : State) : Bool := match s.pair.ckptAt with
  | some f => decide (f + 1000 ≤ s.seq.frame)
  | none => true

/-- CHECKPOINT_STALE (R512). -/
def execCheckpointStale (s : State) : Host.Outcome State Fault Refusal :=
  .next (if (s.pair.role = .standby || s.pair.role = .primed) && ckptOld s then
      postRun 0xD021 (setPair (fun p => { p with ckptValid := false }) s)
    else s)

/-! Loading a checkpoint (R510, R515 step 1). -/

def trOpt (d : Int) (f : Option Nat) : Option Nat := f.map (trFrame d)

/-- Site parts of R344 and R331 to R337: models, accounts, the last cap sent and the echo. -/
def loadCaps (d : Int) (c x : SiteCaps) : SiteCaps :=
  { x with
    z := c.z, zp := c.zp, refFrame := trFrame d c.refFrame, noRef := c.noRef, energy := c.energy
    est := c.est, guardBand := c.guardBand, tau := c.tau
    lastSent := c.lastSent, highestSent := c.highestSent, echo := trFrame d c.echo, echoed := c.echoed
    firstRecord := trOpt d c.firstRecord, capHistory := c.capHistory.map fun p => (trFrame d p.1, p.2)
    fTab := c.fTab, fStep := c.fStep, fTol := c.fTol }

def loadLoop (c x : CtlLoop) : CtlLoop := { x with target := c.target, x := c.x, v := c.v, a := c.a, u := c.u }

def loadLeak (d : Int) (c x : LoopLeak) : LoopLeak :=
  { x with iso := c.iso, cause := c.cause, trigger := trFrame d c.trigger, decidedFrame := trFrame d c.decidedFrame
           edgeFrame := trFrame d c.edgeFrame, isoTime := c.isoTime, isolations := c.isolations
           decayInside := c.decayInside }

def loadPump (d : Int) (c x : PumpSt) : PumpSt :=
  { x with state := c.state, retries := c.retries, retrySince := trFrame d c.retrySince, stalls := c.stalls
           stallFrame := trFrame d c.stallFrame, episode := trOpt d c.episode, restEnd := trOpt d c.restEnd
           keepsRunning := c.keepsRunning, fullSince := trOpt d c.fullSince }

def loadFan (d : Int) (c x : FanSt) : FanSt :=
  { x with state := c.state, retries := c.retries, retrySince := trFrame d c.retrySince, stalls := c.stalls
           stallFrame := trFrame d c.stallFrame, fullSince := trOpt d c.fullSince }

/-- A schedule entry with its frames translated; a wall-keyed entry is converted on the unit's own clock. -/
def loadEntry (d : Int) (s : State) (e : SchedEntry) : SchedEntry :=
  { e with due := if e.wallKeyed && wallValid s then convertDue s e.target else trFrame d e.due
           execFrame := trFrame d e.execFrame, commitFrame := trFrame d e.commitFrame }

/-- The windows that stand open are opened again, with event 0xF015 (R574, R575). -/
def reopenWindows (d : Int) (ws : List MaintWindow) (s : State) : State :=
  (List.range 8).foldl (fun t w => if (ws.getD w {}).isOpen then post 0xF015 t w else t)
    { s with maint := { s.maint with windows := s.maint.windows.mapIdx fun w _ =>
        (let x := ws.getD w {}
         { x with openFrame := trFrame d x.openFrame }) } }

/-- Every section goes into its block. -/
def loadSections (c : Checkpoint) (s : State) : State :=
  let d := s.pair.delta
  let zip {α : Type} (e : α) (f : α → α → α) (a b : List α) : List α := b.mapIdx fun i x => f (a.getD i e) x
  let hist := fun (h : SchedHist) =>
    { h with execFrame := trFrame d h.execFrame, rowNs := (rowNs s : Int) - ((c.rowNs : Int) - h.rowNs) }
  let s1 := { s with
    heat := { s.heat with
      pages := c.pages, loops := c.loops, sites := c.sites, work := [], boundaryDue := false
      tenants := c.tenants.map fun t => { t with quarFrame := trFrame d t.quarFrame } }
    caps := { s.caps with
      sites := zip {} (loadCaps d) c.caps s.caps.sites, classes := c.classes
      tenants := zip {} (fun a b => { b with energy := a.energy }) c.paces s.caps.tenants, unbound := c.unbound }
    ctl := { s.ctl with loops := zip {} loadLoop c.ctl s.ctl.loops }
    plan := { s.plan with mode := c.mode, inForce := c.planInForce, loops := c.planLoops }
    leak := { s.leak with
      loops := zip {} (loadLeak d) c.leak s.leak.loops
      emergency := s.leak.emergency || c.emergency, rowSensor := s.leak.rowSensor || c.rowSensor
      manyLoops := s.leak.manyLoops || c.manyLoops, stopRequest := s.leak.stopRequest || c.stopRequest
      manyFrame := max s.leak.manyFrame (trFrame d c.manyFrame)
      notHolding := c.leak.any fun x => x.iso = .notHolding }
    pump := { s.pump with
      pumps := zip {} (loadPump d) c.pump.pumps s.pump.pumps, fans := zip {} (loadFan d) c.pump.fans s.pump.fans
      today := c.pump.today, total := c.pump.total, day := c.pump.day, dayStored := c.pump.dayStored
      budgetSpent := c.pump.budgetSpent, sprayInhibit := c.pump.sprayInhibit, fullSpeed := c.pump.fullSpeed }
    sched := { s.sched with table := c.table.map (loadEntry d s), history := c.history.map hist, staged := [] }
    can := { s.can with ch := s.can.ch.mapIdx fun i x => { x with inactive := c.inactive.getD i [] } } }
  let s2 := (List.range s1.sched.table.length).foldl (fun t i => judgeLate i t) s1
  setPair (fun p => { p with restored := true, holdChannels := c.hold }) (reopenWindows d c.windows s2)

/-! Takeover (R514, R515, R517). -/

/-- Three own frames without a valid holder claim, all in STANDBY or PRIMED and withholding nothing (R514). -/
def bidDue (s : State) : Bool :=
  (s.pair.role = .standby || s.pair.role = .primed) && !(isSingle s) && claimAllowed s &&
  max (s.pair.holderClaim.getD 0) s.pair.idleSince + 4 ≤ s.seq.frame

/-- A MARK with HOLDER 1 arrived in those frames. -/
def bidVetoed (s : State) : Bool := match s.pair.holderMark with
  | some f => decide (s.seq.frame < f + 4)
  | none => false

/-- COLD_TAKEOVER (R517). -/
def coldTakeover (s : State) : State :=
  let s1 := advanceTerm s
  post 0xD002 { s1 with
    pow := { s1.pow with state := .control }
    plan := { s1.plan with state := .wait, inForce := none, shadow := none, snap := none, started := false, lowerDue := false
                           mode := RowMode.ofCode (if s.img.modes.startMode = 0 then 0 else 1) }
    pair := { s1.pair with role := .control, cold := true, restored := false, takeFrame := s.seq.frame } }
    0xFFFF 0xFFFF [1]

/-- The bid has won (R503). -/
def bidWon (s : State) : State :=
  let s1 := setPair (fun p => { p with swap := none, takeover := true, stages := true, succeeded := true }) (pairCount 0 s)
  if s.pair.role = .primed then primedWins 0xD001 s1
  else
    let s2 := post 0xD001 s1
    if s.pair.ckpt.isSome && !(ckptOld s && !s.pair.ckptValid) then
      { s2 with
        pow := { s2.pow with state := .control }
        pair := { s2.pair with role := .taking, takeFrame := s.seq.frame } }
    else coldTakeover s2

/-- TAKEOVER_BID (R514): a round that the standby opens with its own claim. -/
def execTakeoverBid (facts : RoundFacts) (s : State) : Host.Outcome State Fault Refusal :=
  .next (if !(bidDue s) then s
    else if bidVetoed s then postRun 0xD031 (setPair (fun p => { p with busVeto := true }) s)
    else
      let own := some (ownClaim s)
      let s0 := setPair (fun p => { p with busVeto := false, stuckA := p.stuckA && !facts.freeA
                                           stuckB := p.stuckB && !facts.freeB }) s
      let r := judgeRound s0.pair own facts
      let s1 := recordRound own r s0
      if s1.pair.won then bidWon s1 else s1)

/-- RESTORE_COMPLETE (R515): TAKING becomes CONTROL. Coils that were undriven in the gap start with PEAK. -/
def execRestoreComplete (s : State) : Host.Outcome State Fault Refusal :=
  .next (match s.pair.role, s.pair.ckpt with
    | .taking, some c =>
      post 0xD002 (setPair (fun p => { p with role := .control, cold := false, holdChannels := [] })
        (advanceTerm (resumePlan (loadSections c s)))) 0xFFFF 0xFFFF [0]
    | _, _ => s)

/-! Handover (R518 to R521). -/

/-- SWAP_REQUEST_RAISE (R518): takeback by the home standby, or a grade request by the holder. -/
def execSwapRequestRaise (source : SwapSource) (s : State) : Host.Outcome State Fault Refusal :=
  let p := s.pair
  let free := p.swap.isNone && decide (p.retryAt ≤ s.seq.frame) && !(isSingle s)
  .next (match source with
    | .takeback =>
      let well := match p.healthySince with
        | some f => decide (f + 600000 ≤ s.seq.frame)
        | none => false
      if free && p.role = .standby && isHome s && well && !p.pairHold && p.partnerSeen then
        sendCtrl 0 0 (setPair (fun q => { q with swap := some .takeback }) s)
      else s
    | .grade =>
      let low := match p.gradeLow with
        | some f => decide (f + 10000 ≤ s.seq.frame)
        | none => false
      if free && p.role = .control && low then setPair (fun q => { q with swap := some .grade }) s else s
    | .request => s)

/-- PAIR_SWAP's own check (R518): 0 OK, 2 STATE. -/
def pairSwapCheck (s : State) : Nat :=
  if (s.pair.role = .standby || s.pair.role = .control) && s.pair.partnerSeen then 0 else 2

def applyPairSwap (s : State) : State :=
  if pairSwapCheck s ≠ 0 then s
  else
    let s1 := setPair (fun p => { p with swap := some .request }) s
    if s.pair.role = .standby then sendCtrl 0 0 s1 else s1

def applyPairHold (v : Bool) (s : State) : State := post 0xD016 (setPair (fun p => { p with pairHold := v }) s)

/-- SWAP_REQ_RECEIVED (R519). -/
def execSwapReqReceived (s : State) : Host.Outcome State Fault Refusal :=
  .next (if s.pair.role = .control then
      if swapAcceptable s .request then acceptSwap s
      else post 0xD013 (pairCount 2 (sendCtrl 3 0 s))
    else if s.pair.role = .handing then post 0xD013 (pairCount 2 (sendCtrl 3 0 s))
    else s)

/-- REFUSED_RECEIVED (R519): the standby's request is cancelled. -/
def execRefusedReceived (s : State) : Host.Outcome State Fault Refusal :=
  .next (if s.pair.swap.isSome && s.pair.role = .standby then endSwap s else s)

/-- HANDOVER_RECEIVED (R520): boundary B in the holder's frames. -/
def execHandoverReceived (boundary : Nat) (s : State) : Host.Outcome State Fault Refusal :=
  .next (if s.pair.role = .standby then
      setPair (fun p => { p with boundary := some (trFrame p.delta boundary), finalCkpt := none }) s
    else s)

/-- FINAL_CHECKPOINT_LOADED (R520): the standby enters PRIMED. Without a pair port that could carry PRIMED there is no
acknowledgement, and it stays in STANDBY (R503). -/
def execFinalCheckpointLoaded (s : State) : Host.Outcome State Fault Refusal :=
  .next (match s.pair.role, s.pair.finalCkpt with
    | .standby, some c =>
      if portUp s then sendCtrl 2 0 (setPair (fun p => { p with role := .primed, cold := false }) (loadSections c s)) else s
    | _, _ => s)

/-- PRIMED_RECEIVED (R520): the holder yields in its next round. -/
def execPrimedReceived (s : State) : Host.Outcome State Fault Refusal :=
  .next (if s.pair.role = .handing then setPair (fun p => { p with primed := true }) s else s)

/-- HANDOVER_TIMEOUT (R503): 30 frames after the boundary; a standby that is not PRIMED drops the accepted request. -/
def execHandoverTimeout (s : State) : Host.Outcome State Fault Refusal :=
  let late := match s.pair.boundary with
    | some b => decide (b + 30 ≤ s.seq.frame)
    | none => false
  .next (if !late then s
    else match s.pair.role with
      | .handing =>
        if s.pair.primed then s
        else post 0xD015 (setPair (fun p => { p with role := .control, boundary := none }) (endSwap s))
      | .primed => setPair (fun p => { p with role := .standby, boundary := none, ckpt := p.finalCkpt
                                              restored := false, holdChannels := [] }) (endSwap s)
      | .standby => setPair (fun p => { p with boundary := none }) (endSwap s)
      | _ => s)

/-- The hold of a handover is in force (R520). -/
def handoverHold (s : State) : Bool := s.pair.role = .handing && (match s.pair.boundary with
  | some b => decide (b ≤ s.seq.frame)
  | none => false)

/-! Standby self-tests (R506). -/

def lastTest (l : List (Nat × Nat)) (k : Nat) : Option Nat := (l.find? fun p => p.1 = k).map (·.2)

def setTest (l : List (Nat × Nat)) (k f : Nat) : List (Nat × Nat) := (k, f) :: l.filter fun p => p.1 ≠ k

def testDue (s : State) (l : List (Nat × Nat)) (k period : Nat) : Bool := match lastTest l k with
  | some f => decide (f + period ≤ s.seq.frame)
  | none => true

/-- STANDBY_SELF_TEST (R506): the drive test of a stage (its domain) every 10 s, its release in every frame, or the sense
test of a valve channel every 60 s. A stage that fails is a failed domain, a channel that fails has failed its
calibration. -/
def execStandbySelfTest (test : SelfTest) (index : Nat) (pass : Bool) (s : State) : Host.Outcome State Fault Refusal :=
  let stageFails (t : State) : State := setDomain index (fun x => { x with state := .failed, failReason := 5 }) t
  .next (if !(s.pair.role = .standby || s.pair.role = .primed) then s
    else match test with
    | .sense =>
      if testDue s s.pair.senseTest index 600000 then
        let s1 := setPair (fun p => { p with senseTest := setTest p.senseTest index s.seq.frame }) s
        if pass then s1
        else post 0x2030 { s1 with pow := { s1.pow with calValve := upd s1.pow.calValve index fun _ => true } } index 5
      else s
    | .drive =>
      if testDue s s.pair.driveTest index 100000 && domainOn s index then
        let s1 := setPair (fun p => { p with driveTest := setTest p.driveTest index s.seq.frame }) s
        if pass then s1 else stageFails s1
      else s
    | .release => if domainOn s index && !pass then stageFails s else s)

/-- PARTNER_ATTEST_RETRY (R535): 10 s after a failure. -/
def execPartnerAttestRetry (s : State) : Host.Outcome State Fault Refusal :=
  .next (match (lport s 64).retryAt with
    | some f =>
      if (lport s 64).state = .attesting && f ≤ s.seq.frame then
        startAttest 64 (updPort 64 (fun x => { x with retryAt := none }) s)
      else s
    | none => s)

/-! Arming and plant control (R131 to R134). -/

/-- ARM_PENDING (R131, R142). -/
def armUpdate (s : State) : State :=
  let n := s.seq.frame
  let pumps := (List.range 4).all fun p => !(pumpPresent s p) || (pumpSt s p).lastStatus.isSome
  let links := (List.range 64).all fun p => !(domainOn s p) || (lport s p).session
  let logOk := s.log.state ≠ .opening
  { s with pow := { s.pow with
      armPumps := s.pow.armPumps && !(pumps || 10000 ≤ n)
      armPlan := s.pow.armPlan && s.plan.inForce.isNone
      armLinks := s.pow.armLinks && !(links || 20000 ≤ n)
      armSensors := s.pow.armSensors && !(decide (100 ≤ s.pow.sampledFrames) && logOk) } }

def armed (s : State) : Bool := !s.pow.armPumps && !s.pow.armPlan && !s.pow.armLinks && !s.pow.armSensors

/-- ARMING_COMPLETE (R132): at a plan epoch boundary. -/
def execArmingComplete (facts : RoundFacts) (s : State) : Host.Outcome State Fault Refusal :=
  let held := match s.pair.holderClaim with
    | some f => decide (s.seq.frame ≤ f + 3)
    | none => false
  .next (if !(s.pow.state = .arming && armed s && s.seq.frame % 100 = 0 && claimAllowed s) then s
    else if held then becomeStandby s
    else
      let own := some (ownClaim s)
      let s1 := recordRound own (judgeRound s.pair own facts) s
      if s1.pair.won then
        let s2 := advanceTerm s1
        { s2 with
          pow := { s2.pow with state := .control }
          pair := { s2.pair with role := .control, stages := true, restored := false, takeover := false, succeeded := false
                                 takeFrame := s.seq.frame } }
      else becomeStandby s1)

/-- Backup speed of a pump (R134, R135). -/
def backupSpeed (s : State) (p : Nat) : Nat :=
  let a := s.img.aos.getD p {}
  let v : Int := 3000 + 1000 * (s.pow.speedStrap : Int)
  (clampI (groupCfg s 0).minSpeed 10000 (roundDiv ((v - a.minMv) * 10000) (a.maxMv - a.minMv))).toNat

/-- Pumps and fans start from the plant as it is (R134). -/
def startSpeeds (s : State) : State :=
  let pump := fun (p : Nat) (x : PumpSt) =>
    let v := if x.lastStatus.isSome then x.speedAct else backupSpeed s p
    { x with speed := v * 65536, speedCmd := v }
  { s with pump := { s.pump with
      pumps := s.pump.pumps.mapIdx pump
      fans := s.pump.fans.map fun x => { x with speed := 10000 * 65536, speedCmd := 10000 } } }

/-- Sites whose port is not done are unresponsive until they complete (R131). -/
def pendingSites (s : State) : State :=
  { s with caps := { s.caps with sites := s.caps.sites.map fun x =>
      if x.response = .notAttested then { x with response := .unresponsive } else x } }

/-- R521: a channel that the final checkpoint shows in HOLD and that is still commanded enters HOLD without PEAK,
judged against the hold limit of its bank alone. -/
def directHold (s : State) (c : Nat) : State :=
  match requestInForce (vch s c) with
  | some (cls, true) =>
    if driven s c cls && holdSum s (c / 8) + (valveCfg s c).holdMa ≤ 6000 then
      updCh c (fun x => { x with drive := .hold, staged := none, since := none, edge := s.seq.frame, moved := true }) s
    else s
  | _ => s

/-- A new primary after a takeover begins its own row chain at BLOCK_SEQ 0, and the tenants' chains go on with PREV_TAG 0
(R544, R551). -/
def freshChains (takeover : Bool) (s : State) : State :=
  if takeover then
    { s with sec := { s.sec with rowNext := 0, rowPrev := 0, tenants := s.sec.tenants.map fun x => { x with prevTag := 0 } } }
  else s

/-- TAKE_PLANT_CONTROL (R133, R134, R173, R515): the first frame of control. -/
def takeControl (s : State) : State :=
  let n := s.seq.frame
  let s1 := banksRefresh (pendingSites { s with
    pow := { s.pow with plantControl := true, state := .control, controlSince := n
                        controlMs := if s.pow.controlMs = 0xFFFF then min 65534 (n / 10) else s.pow.controlMs }
    pump := { s.pump with controlFrame := some n
                          takeoverFrame := if s.pair.takeover then some n else s.pump.takeoverFrame } })
  let s2 := initialCaps (if s.pair.restored then s1 else initialGrant s1)
  let s3 := freshChains s.pair.takeover (leakTakeControl (startSpeeds s2))
  let s4 := s.pair.holdChannels.foldl directHold s3
  post 0x2003 (setPair (fun p => { p with restored := false, takeover := false, holdChannels := [], inControl := true }) s4)

/-- TAKE_PLANT_CONTROL (R132, R503, R515): at the boundary of a frame after the one in which the claim was won. -/
def execTakePlantControl (s : State) : Host.Outcome State Fault Refusal :=
  .next (if s.pair.role = .control && s.pair.won && s.pair.stages && !s.pair.inControl && s.pow.ready &&
      s.pow.state = .control && s.seq.phase = 0 && s.pair.takeFrame < s.seq.frame then takeControl s else s)

/-! Frame work. -/

/-- In the Guard phase the core writes the grade and the claim value (R500, R501). -/
def pairGuard (s : State) : State :=
  let n := s.seq.frame
  let g := healthGrade s
  let s1 := setPair (fun p => { p with
    grade := g, penalties := boolBits (penaltyRows s)
    gradeLow := if p.partnerSeen && decide (g + 2 ≤ p.partner.grade) then some (p.gradeLow.getD n) else none
    healthySince := if g = 15 && !(faultN s) then some (p.healthySince.getD n) else none
    claimAge := 0, withheld := false
    idleSince := if (p.role = .standby || p.role = .primed) && claimAllowed s then p.idleSince else n }) s
  setPair (fun p => { p with claim := ownClaim s1 }) s1

/-- Stages stay enabled for 110 us after the end of the last won round (R500). -/
def stagesLapse (s : State) : State :=
  match s.pair.wonFrame with
  | some f => if s.pair.stages && f + 2 ≤ s.seq.frame then releaseStages s else s
  | none => if s.pair.stages then releaseStages s else s

/-- At a frame boundary: the hold of a handover begins (R576), the MARK is sent, and the snapshot streams on. -/
def pairFrame (s : State) : State :=
  let s1 := stagesLapse s
  let s2 := if s1.pair.role = .handing && s1.pair.boundary = some s1.seq.frame then abortAll 14 s1 else s1
  streamCheckpoint 16 (markSend s2)

end Sys2Proof.Machine
end

