-- ==== Sys2Proof/Machine/Requests.lean ====
section
/-! DEFINITION. Requests: the checks of R538 in order, acceptance, and their effect at the boundary (R27, R537 to R540,
R583, R598 to R604). -/

namespace Sys2Proof.Machine

def setMgmt (f : Mgmt → Mgmt) (s : State) : State := { s with mgmt := f s.mgmt }

/-- Requests keyed by a tenant (R539). -/
def tenantKeyed : ReqBody → Bool
  | .lowerMax .. | .releasePages .. | .setSplit .. => true
  | _ => false

/-- Requests that name a tenant (R538 step 2). -/
def namesTenant (b : ReqBody) : Bool := tenantKeyed b || (match b with
  | .bindSite _ | .unbindSite _ | .setQuota .. | .releaseTenant | .admitTenant => true
  | _ => false)

/-- Requests of the owner role (R539). -/
def ownerKind : ReqBody → Bool
  | .imageBegin _ | .imageWrite .. | .imageEnd _ | .mgmtReset _ | .precisionRun _ | .setDeviceCert .. |
    .getReleaseNonce | .ownerRelease .. | .setFieldbus .. => true
  | _ => false

def enrolKind : ReqBody → Bool
  | .ownerEnrol _ => true
  | _ => false

/-- Requests of the facility role (R539). -/
def facilityKind (b : ReqBody) : Bool := !(tenantKeyed b) && !(ownerKind b) && !(enrolKind b)

/-- Facility requests that a unit without plant control serves (R598). -/
def servedByStandby : ReqBody → Bool
  | .pairSwap | .pairHold _ | .releaseHeld => true
  | _ => false

/-- Step 1 of R538: the session's role, and the key that the KIND asks for (R539). -/
def mayRequest (role : SessRole) (h : ReqHdr) (b : ReqBody) : Bool :=
  if enrolKind b then !h.tenantAuth
  else if tenantKeyed b then h.tenantAuth && 1 ≤ role.code
  else if ownerKind b then !h.tenantAuth && role = .owner
  else !h.tenantAuth && 2 ≤ role.code

/-- Tenant for which a failure is counted; none when no tenant is named. -/
def countedTenant (h : ReqHdr) (b : ReqBody) : Option Nat :=
  if h.tenantAuth || namesTenant b then some h.tenant else none

/-- Counts a refusal at steps 1 and 4 to 7 for the tenant, or the session, and logs it (R538, R554). -/
def countFailure (k code : Nat) (f : TenantSec → TenantSec) (h : ReqHdr) (b : ReqBody) (s : State) : State :=
  let s1 := secCount k s
  match countedTenant h b with
  | some t => postEvery 10000 code (updSecTenant t f s1) t
  | none => postEvery 10000 code (updSession h.session (fun x => { x with failures := cnt x.failures }) s1)

/-- A tag that fails counts toward the session's lockout: 16 within 1 s (R540). -/
def countTagFail (i : Nat) (s : State) : State :=
  let fails := s.seq.frame :: (session s i).tagFails.filter fun f => s.seq.frame < f + 10000
  if 16 ≤ fails.length then
    post 0xE014 (secCount 6 (updSession i (fun x => { x with tagFails := [], lockout := some s.seq.frame }) s)) i
  else updSession i (fun x => { x with tagFails := fails }) s

/-- ISSUED lies within the window of step 6. -/
def issuedInTime (s : State) (h : ReqHdr) : Bool :=
  let age := wallNow s - (h.issued : Int)
  decide (-100000000 ≤ age) && decide (age ≤ 1000000000)

/-- Steps 1 to 7 of R538 with the lockout of R540 and the role of R598: the result and the state it leaves. -/
def commonCheck (role : SessRole) (h : ReqHdr) (b : ReqBody) (s : State) : Nat × State :=
  if !(mayRequest role h b) && !(lifeCycle s = .returned && b = .releaseHeld) then
    (9, countFailure 1 0xE013 (fun x => { x with permFail := cnt x.permFail }) h b s)
  else if (tenantKeyed b || (facilityKind b && !(servedByStandby b))) && !s.pow.plantControl then (2, s)
  else if h.tenantAuth && (session s h.session).lockout.isSome then (10, s)
  else if namesTenant b && (256 ≤ h.tenant || !(tenantCfg s h.tenant).present) then (3, s)
  else if namesTenant b && h.tgen ≠ (tenantSt s h.tenant).gen then (1, noteStale h.tenant s)
  else if h.tenantAuth && !h.tagOk then
    (10, countTagFail h.session (countFailure 2 0xE010 (fun x => { x with authFail := cnt x.authFail }) h b s))
  else if h.tenantAuth && !(wallValid s) then (11, countFailure 3 0xE011 (fun x => { x with expired := cnt x.expired }) h b s)
  else if (h.tenantAuth || (facilityKind b && h.issued ≠ 0)) && !(issuedInTime s h) then
    (12, countFailure 4 0xE011 (fun x => { x with expired := cnt x.expired }) h b s)
  else if h.tenantAuth && h.nonce ≤ (tenantSec s h.tenant).lastNonce then
    (13, countFailure 5 0xE012 (fun x => { x with replays := cnt x.replays }) h b s)
  else (0, if h.tenantAuth then updSecTenant h.tenant (fun x => { x with lastNonce := h.nonce }) s else s)

/-! Step 8: the checks of each request's own rule. -/

def modeCheck (s : State) (m : Nat) : Nat := if 2 < m then 3 else if bit s.img.modes.allowed m then 0 else 2

/-- SET_LIMIT (R600). -/
def limitCheck (s : State) (scope loop limit : Nat) : Nat :=
  if scope = 0 then (if limit ≤ s.img.limits.rowCap then 0 else 3)
  else if scope = 1 && loop < 24 && loopConfigured s.img loop && limit ≤ s.img.limits.rackCap.getD loop 0 then 0 else 3

/-- A limit request that the plan epoch boundary of frame `due` takes (R600). -/
def requestLimit (due scope loop limit : Nat) (s : State) : State :=
  { s with heat := { s.heat with
      limitRequests := s.heat.limitRequests ++ [⟨due, if scope = 0 then none else some loop, limit⟩] } }

/-- Argument checks of a commit by its kind (R295, R477, R600). -/
def payloadCheck (s : State) (kind payload : Nat) : Nat :=
  if 5 < kind || !(schedPayloadShape kind payload) then 3
  else match kind with
    | 0 => setLoopCheck s (payload % 512) (toSigned 32 (payload / 2 ^ 32))
    | 1 => modeCheck s payload
    | 2 => cellCheck s payload
    | 5 => limitCheck s (payload % 2) (bits payload 5 1) (payload / 2 ^ 32)
    | _ => 0

/-- LATE_MODE of a commit (R67, R601). -/
def lateOf (b : SchedReq) : Bool := b.late.getD (lateDefault b.kind)

/-- SCHED_COMMIT (R67, R71, R72, R601): 5 DUPLICATE, 6 FULL, 11 TIME. -/
def commitCheck (s : State) (b : SchedReq) : Nat :=
  let arg := payloadCheck s b.kind b.payload
  if b.actionId = 0 || 65536 ≤ b.occurrence then 3
  else if arg ≠ 0 then arg
  else if b.wallKeyed && (!(wallValid s) || s.wall.arb) then 11
  else if !(lateAllowed b.kind (lateOf b)) then 2
  else if inHistory s b.actionId b.occurrence || identityPending s b.actionId b.occurrence then 5
  else if schedFull s then 6 else 0

/-- The entry that an accepted commit brings (R66, R70). -/
def commitEntry (s : State) (b : SchedReq) : SchedEntry :=
  { valid := true, actionId := b.actionId, occurrence := b.occurrence, kind := b.kind, wallKeyed := b.wallKeyed
    lateRun := lateOf b, target := b.target, due := if b.wallKeyed then convertDue s b.target else b.target
    convEpoch := s.wall.epoch % 65536, payload := b.payload }

/-- Release from HELD over management (R137, R545). -/
def heldCheck (s : State) : Nat :=
  if s.pow.state = .held && warmResets s < 6 && lifeCycle s ≠ .returned then 0 else 2

def resetCheck (s : State) (force : Nat) : Nat :=
  if 1 < force then 3 else if s.pow.plantControl && force = 0 then 2 else 0

/-- SET_FIELDBUS (R605). -/
def fieldbusCheck (c : Fieldbus) (count : Nat) : Nat :=
  if 8 < count || c.allow.length ≠ count || 4194302 < c.device || c.allow.any (fun x => 32 < x.2) then 3 else 0

def flagCheck (v : Nat) : Nat := if v ≤ 1 then 0 else 3

/-- Result of step 8. -/
def ownCheck (s : State) (h : ReqHdr) (b : ReqBody) : Nat :=
  if !h.lengthOk then 3
  else match b with
    | .lowerMax hi => lowerMaxCheck s h.tenant hi
    | .releasePages l _ => pagesCheck s h.tenant l
    | .setSplit o c m k => splitCheck s h.tenant o c m k
    | .bindSite i => bindCheck s i h.tenant
    | .unbindSite i => unbindCheck s i h.tenant
    | .setQuota lo hi => quotaCheck s h.tenant lo hi
    | .releaseTenant => releaseTenantCheck s h.tenant
    | .admitTenant => admitCheck s h.tenant
    | .setMode m => modeCheck s m
    | .setLimit sc l x => limitCheck s sc l x
    | .setLoopSp i g => setLoopCheck s i g
    | .schedCommit c => commitCheck s c
    | .clearElement f n => if 1 < f then 3 else clearElementCheck s (f = 1) n
    | .setSprayInhibit v => flagCheck v
    | .setValve c p => setValveCheck s c p
    | .clearValve n k => if 1 < k then 3 else clearValveCheck s (k = 1) n
    | .releaseLoop l => releaseLoopCheck s l
    | .rowStop => 0
    | .releaseRow => releaseRowCheck s
    | .releaseFloor l => if 64 ≤ l then 3 else if (floorLine s l).held then 0 else 2
    | .canSend c m => canSendCheck s c m
    | .canCancel c i => canCancelCheck s c i
    | .pairSwap => pairSwapCheck s
    | .pairHold v => flagCheck v
    | .maintStart c d t r => startCheck s c d t r
    | .maintStop i => stopCheck s i
    | .releaseHeld => heldCheck s
    | .mgmtReset f => resetCheck s f
    | .precisionRun g => precisionCheck s g
    | .setFieldbus c n => fieldbusCheck c n
    | .getReleaseNonce => releaseNonceCheck s
    | .imageBegin n => imageBeginCheck s n
    | _ => 0

/-- What a refusal by step 8 itself logs. -/
def ownRefused (r : Nat) (h : ReqHdr) (b : ReqBody) (s : State) : State :=
  match b with
  | .admitTenant => if r = 4 then post 0x4042 s h.tenant else s
  | .releaseLoop l => releaseRefused l s
  | .maintStart c _ t _ => startRefused r c t s
  | .schedCommit c =>
    if r = 5 then post 0x1013 s 0xFFFF 0xFFFF (leBytes 4 c.actionId)
    else if r = 6 then post 0x1014 s 0xFFFF 0xFFFF (leBytes 4 c.actionId)
    else if r = 2 && c.kind = 1 && modeCheck s c.payload = 2 then post 0x5013 s else s
  | .setMode _ => if r = 2 then post 0x5013 s else s
  | _ => s

/-! Acceptance and effect. -/

/-- Frame of the next plan epoch boundary (R178, R600). -/
def nextEpochFrame (s : State) : Nat := (s.seq.frame / 100 + 1) * 100

/-- EFFECT_FRAME of an accepted request (R604). -/
def effectFrame (s : State) (b : ReqBody) : Nat :=
  match b with
  | .setMode _ | .setLimit .. => nextEpochFrame s
  | _ => s.seq.frame + 1

/-- REQUEST_RESP (R604): EFFECT_FRAME and kind-specific data. -/
def requestResp (s : State) (h : ReqHdr) (code effect : Nat) (data : List Nat) : List Nat :=
  message 0x83 code h.msgId (frameStamp s) (leBytes 6 effect ++ [0, 0] ++ data)

/-- A request is answered; one of a fieldbus server comes from no session. -/
def respond (h : ReqHdr) (code effect : Nat) (data : List Nat) (s : State) : State :=
  resolve h.session h.msgId (.message h.session (requestResp s h code effect data)) s

/-- What an acceptance does at once: reservations, and requests that the plan epoch boundary takes. -/
def reserve (h : ReqHdr) (b : ReqBody) (s : State) : State :=
  match b with
  | .setMode m => requestMode (nextEpochFrame s) (RowMode.ofCode m) s
  | .setLimit sc l x => requestLimit (nextEpochFrame s) sc l x s
  | .schedCommit c => { s with sched := { s.sched with commits := s.sched.commits ++ [commitEntry s c] } }
  | .canSend c m => canSend c m (s.seq.frame + 1) s
  | .maintStart c d t _ => acceptStart c d t 0xFF s
  | .mgmtReset _ => setMgmt (fun x => { x with resetAt := some (s.seq.frame + 1) }) s
  | .getReleaseNonce => issueNonce s
  | .imageBegin n => imageBegin h n s
  | .releasePages l _ => setMgmt (fun x => { x with
      accepted := x.accepted ++ [{ hdr := h, body := .releasePages l (l.map (pageCheck s h.tenant)) }] }) s
  | _ => setMgmt (fun x => { x with accepted := x.accepted ++ [{ hdr := h, body := b }] }) s

/-- Kind-specific data of an answer that leaves at acceptance (R604). -/
def answerData (s : State) (b : ReqBody) : List Nat :=
  match b with
  | .maintStart .. => leBytes 2 s.maint.nextId
  | .canSend c _ => leBytes 2 (canCh s c).nextSend
  | _ => []

/-- Requests answered at the boundary at which they take effect (R168, R479), or when the erase completes (R602). -/
def answeredLater : ReqBody → Bool
  | .releasePages .. | .canCancel .. | .imageBegin _ => true
  | _ => false

/-- Counts a request for its tenant's telemetry block and LAST_REQ_FRAME (R542, R553). -/
def noteResult' (ok : Bool) (h : ReqHdr) (b : ReqBody) (s : State) : State :=
  match countedTenant h b with
  | some t => updSecTenant t (fun x =>
      let y := x.tel
      { x with lastReqFrame := if ok then s.seq.frame else x.lastReqFrame
               tel := { y with reqOk := if ok then satAdd 16 y.reqOk 1 else y.reqOk
                               reqRefused := if ok then y.reqRefused else satAdd 16 y.reqRefused 1 } }) s
  | none => s

/-- Requests that act and are answered on completion (R598): the result, EFFECT_FRAME's data and the state. -/
def actNow (h : ReqHdr) (b : ReqBody) (s : State) : Option (Nat × List Nat × State) :=
  match b with
  | .ownerEnrol f => if !h.lengthOk then none else
      (let r := enrol f s
       some (r.1, [], r.2))
  | .ownerRelease k ok n => if !h.lengthOk then none else
      (let r := ownerRelease k ok n s
       some (r.1, [], r.2))
  | .setDeviceCert p last bytes f => if !h.lengthOk then none else
      (let r := certPart h.session p last bytes f s
       if r.1 = 0 && last = 1 then some (0, [], installCert p bytes r.2)
       else if last = 1 then some (r.1, [], setSec (fun c => { c with
         certParts := if r.1 = 2 then c.certParts else none }) r.2)
       else some (r.1, [], r.2))
  | .imageWrite o bs => if !h.lengthOk then none else
      (let r := imageWrite h o bs s
       some (r.1, [], r.2))
  | .imageEnd f => if !h.lengthOk then none else
      (let r := imageEnd h f s
       some r)
  | _ => none

/-- Judges a request in its arrival frame and answers it (R538, R598, R604). -/
def judge (role : SessRole) (q : Request) (s0 : State) : Nat × State :=
  let s := setMgmt (fun x => { x with taken := x.taken + 1 }) s0
  let c := commonCheck role q.hdr q.body s
  if c.1 ≠ 0 then (c.1, noteResult' false q.hdr q.body (respond q.hdr c.1 0 [] c.2))
  else match actNow q.hdr q.body c.2 with
    | some (r, data, s1) => (r, respond q.hdr r (if r = 0 then s.seq.frame else 0) data s1)
    | none =>
      let r := ownCheck c.2 q.hdr q.body
      if r ≠ 0 then
        (r, noteResult' false q.hdr q.body (respond q.hdr r 0 [] (ownRefused r q.hdr q.body c.2)))
      else
        let data := answerData c.2 q.body
        let s1 := reserve q.hdr q.body c.2
        let nonce := match q.body, s1.sec.releaseNonce with
          | .getReleaseNonce, some (n, _) => leBytes 32 n
          | _, _ => data
        let s2 := if answeredLater q.body then s1 else respond q.hdr 0 (effectFrame s q.body) nonce s1
        (0, noteResult' true q.hdr q.body s2)

/-- Body bytes of a request (R531, R548, R599, R602, R605). -/
def bodyBytes : ReqBody → Nat
  | .lowerMax _ | .bindSite _ | .unbindSite _ | .clearElement .. | .setValve .. | .clearValve .. | .maintStop _ => 2
  | .releasePages l _ => 1 + 4 * l.length
  | .setSplit .. | .setQuota .. | .canCancel .. | .imageBegin _ => 4
  | .releaseTenant | .admitTenant | .rowStop | .releaseRow | .pairSwap | .releaseHeld | .imageEnd _ | .getReleaseNonce => 0
  | .setMode _ | .setSprayInhibit _ | .releaseLoop _ | .releaseFloor _ | .pairHold _ | .mgmtReset _ | .precisionRun _ => 1
  | .setLimit .. | .setLoopSp .. | .maintStart .. => 8
  | .schedCommit _ => 48
  | .canSend _ m => 8 + m.data.length
  | .imageWrite _ b => 4 + b.length
  | .setDeviceCert _ _ b _ => 2 + b.length
  | .ownerRelease .. => 192
  | .setFieldbus c _ => 8 + 8 * c.allow.length
  | .ownerEnrol _ => 348

/-- Bytes of a REQUEST message (R537, R584): its header, the request header, the body and TAG. -/
def requestBytes (q : Request) : Nat := 48 + bodyBytes q.body + (if q.hdr.tenantAuth then 16 else 0)

/-- What comes now has a later arrival frame (R583): the Guard phase has begun, 256 requests have been checked in the
frame, or others wait already. -/
def mustWait (s : State) : Bool := s.mgmt.guardDone || 256 ≤ s.mgmt.taken || !s.mgmt.waiting.isEmpty

/-- A request arrives on a session (R582, R583): it is judged now, or waits for its arrival frame. -/
def arrive (q : Request) (s : State) : State :=
  let i := q.hdr.session
  if !(coreRuns s && (session s i).isOpen) then s
  else
    onMessage i q.hdr.msgId (requestBytes q) (fun t =>
      let s1 := await i q.hdr.msgId t
      if mustWait s then setMgmt (fun x => { x with waiting := x.waiting ++ [.request q] }) s1
      else (judge (session s i).role q s1).2) s

/-- Applies a tenant or site request if its own check still holds after the requests applied before it. -/
def applyIf (check : Nat) (f : State → State) (s : State) : State := if check = 0 then f s else s

/-- The effect of an accepted request at its boundary (R27). -/
def applyRequest (q : Request) (s : State) : State :=
  let h := q.hdr
  match q.body with
  | .lowerMax hi => applyIf (lowerMaxCheck s h.tenant hi) (applyQuota h.tenant (tenantSt s h.tenant).minIn hi) s
  | .releasePages l first =>
    let rs := pageResults s h.tenant l first
    respond h 0 s.seq.frame rs (applyPages h.tenant l rs s)
  | .setSplit o c m k => applyIf (splitCheck s h.tenant o c m k) (applySplit h.tenant o c m k) s
  | .bindSite i => applyIf (bindCheck s i h.tenant) (applyBind i h.tenant) s
  | .unbindSite i => applyIf (unbindCheck s i h.tenant) (fun t => post 0x4044 (vacateSite i t) i h.tenant) s
  | .setQuota lo hi => applyIf (quotaCheck s h.tenant lo hi) (applyQuota h.tenant lo hi) s
  | .releaseTenant => applyIf (releaseTenantCheck s h.tenant) (fun t =>
      updSecTenant h.tenant (fun x => { x with lastNonce := 0 }) (applyReleaseTenant h.tenant t)) s
  | .admitTenant => applyIf (admitCheck s h.tenant) (applyAdmit h.tenant) s
  | .setLoopSp i g => { s with ctl := { s.ctl with fromRequest := s.ctl.fromRequest ++ [(i, g)] } }
  | .clearElement f n => if clearElementCheck s (f = 1) n = 0 then applyClearElement (f = 1) n s else s
  | .setSprayInhibit v =>
    let s1 := applySprayInhibit (v = 1) s
    if v = 1 then abortFlush s1 else s1
  | .setValve c p => applySetValve c p s
  | .clearValve n k => applyClearValve (k = 1) n s
  | .releaseLoop l => applyReleaseLoop l s
  | .rowStop => applyRowStop s
  | .releaseRow => applyReleaseRow s
  | .releaseFloor l => releaseFloor l s
  | .canCancel c i =>
    if canCancelCheck s c i = 0 then respond h 0 s.seq.frame [] (canCancel c i s) else respond h 2 0 [] s
  | .pairSwap => applyPairSwap s
  | .pairHold v => applyPairHold (v = 1) s
  | .maintStop i => applyStop i s
  | .releaseHeld => { s with pow := { s.pow with resetDue := some 1 } }
  | .precisionRun g => applyPrecision g s
  | .setFieldbus c _ =>
    if c = s.mgmt.fieldbus then s else post 0x0020 (setMgmt (fun x => { x with fieldbus := c }) s)
  | _ => s

/-- Step 2 of the Guard phase (R42): the accepted requests of the frame are committed. -/
def commitRequests (s : State) : State :=
  setMgmt (fun x => { x with committed := x.committed ++ x.accepted, accepted := [], guardDone := true }) s

/-- At the boundary the committed requests take effect in order of arrival. -/
def applyRequests (s : State) : State :=
  s.mgmt.committed.foldl (fun t q => applyRequest q t) (setMgmt (fun x => { x with committed := [] }) s)

/-! The request rows. -/

def execLowerMax (hdr : ReqHdr) (max : Nat) (s : State) : Host.Outcome State Fault Refusal :=
  .next (arrive ⟨hdr, .lowerMax max⟩ s)
def execReleasePages (hdr : ReqHdr) (pages : List (Nat × Nat)) (s : State) : Host.Outcome State Fault Refusal :=
  .next (arrive ⟨hdr, .releasePages pages []⟩ s)
def execSetSplit (hdr : ReqHdr) (order compute memory links : Nat) (s : State) : Host.Outcome State Fault Refusal :=
  .next (arrive ⟨hdr, .setSplit order compute memory links⟩ s)
def execBindSite (hdr : ReqHdr) (site : Nat) (s : State) : Host.Outcome State Fault Refusal :=
  .next (arrive ⟨hdr, .bindSite site⟩ s)
def execUnbindSite (hdr : ReqHdr) (site : Nat) (s : State) : Host.Outcome State Fault Refusal :=
  .next (arrive ⟨hdr, .unbindSite site⟩ s)
def execSetQuota (hdr : ReqHdr) (min max : Nat) (s : State) : Host.Outcome State Fault Refusal :=
  .next (arrive ⟨hdr, .setQuota min max⟩ s)
def execReleaseTenant (hdr : ReqHdr) (s : State) : Host.Outcome State Fault Refusal :=
  .next (arrive ⟨hdr, .releaseTenant⟩ s)
def execAdmitTenant (hdr : ReqHdr) (s : State) : Host.Outcome State Fault Refusal :=
  .next (arrive ⟨hdr, .admitTenant⟩ s)
def execSetMode (hdr : ReqHdr) (mode : Nat) (s : State) : Host.Outcome State Fault Refusal :=
  .next (arrive ⟨hdr, .setMode mode⟩ s)
def execSetLimit (hdr : ReqHdr) (scope loop limit : Nat) (s : State) : Host.Outcome State Fault Refusal :=
  .next (arrive ⟨hdr, .setLimit scope loop limit⟩ s)
def execSetLoopSp (hdr : ReqHdr) (loop : Nat) (value : Int) (s : State) : Host.Outcome State Fault Refusal :=
  .next (arrive ⟨hdr, .setLoopSp loop value⟩ s)
def execSchedCommit (hdr : ReqHdr) (body : SchedReq) (s : State) : Host.Outcome State Fault Refusal :=
  .next (arrive ⟨hdr, .schedCommit body⟩ s)
def execClearElement (hdr : ReqHdr) (fan index : Nat) (s : State) : Host.Outcome State Fault Refusal :=
  .next (arrive ⟨hdr, .clearElement fan index⟩ s)
def execSetSprayInhibit (hdr : ReqHdr) (value : Nat) (s : State) : Host.Outcome State Fault Refusal :=
  .next (arrive ⟨hdr, .setSprayInhibit value⟩ s)
def execSetValve (hdr : ReqHdr) (channel position : Nat) (s : State) : Host.Outcome State Fault Refusal :=
  .next (arrive ⟨hdr, .setValve channel position⟩ s)
def execClearValve (hdr : ReqHdr) (index bank : Nat) (s : State) : Host.Outcome State Fault Refusal :=
  .next (arrive ⟨hdr, .clearValve index bank⟩ s)
def execReleaseLoop (hdr : ReqHdr) (loop : Nat) (s : State) : Host.Outcome State Fault Refusal :=
  .next (arrive ⟨hdr, .releaseLoop loop⟩ s)
def execRowStop (hdr : ReqHdr) (s : State) : Host.Outcome State Fault Refusal := .next (arrive ⟨hdr, .rowStop⟩ s)
def execReleaseRow (hdr : ReqHdr) (s : State) : Host.Outcome State Fault Refusal := .next (arrive ⟨hdr, .releaseRow⟩ s)
def execReleaseFloor (hdr : ReqHdr) (link : Nat) (s : State) : Host.Outcome State Fault Refusal :=
  .next (arrive ⟨hdr, .releaseFloor link⟩ s)
def execCanSend (hdr : ReqHdr) (channel : Nat) (msg : CanMsg) (s : State) : Host.Outcome State Fault Refusal :=
  .next (arrive ⟨hdr, .canSend channel msg⟩ s)
def execCanCancel (hdr : ReqHdr) (channel id : Nat) (s : State) : Host.Outcome State Fault Refusal :=
  .next (arrive ⟨hdr, .canCancel channel id⟩ s)
def execPairSwap (hdr : ReqHdr) (s : State) : Host.Outcome State Fault Refusal := .next (arrive ⟨hdr, .pairSwap⟩ s)
def execPairHold (hdr : ReqHdr) (value : Nat) (s : State) : Host.Outcome State Fault Refusal :=
  .next (arrive ⟨hdr, .pairHold value⟩ s)
def execMaintStart (hdr : ReqHdr) (code duration target : Nat) (receives : Bool) (s : State) :
    Host.Outcome State Fault Refusal := .next (arrive ⟨hdr, .maintStart code duration target receives⟩ s)
def execMaintStop (hdr : ReqHdr) (id : Nat) (s : State) : Host.Outcome State Fault Refusal :=
  .next (arrive ⟨hdr, .maintStop id⟩ s)
def execMaintReleaseHeld (hdr : ReqHdr) (s : State) : Host.Outcome State Fault Refusal :=
  .next (arrive ⟨hdr, .releaseHeld⟩ s)
def execMgmtReset (hdr : ReqHdr) (force : Nat) (s : State) : Host.Outcome State Fault Refusal :=
  .next (arrive ⟨hdr, .mgmtReset force⟩ s)
def execPrecisionRun (hdr : ReqHdr) (slot : Nat) (s : State) : Host.Outcome State Fault Refusal :=
  .next (arrive ⟨hdr, .precisionRun slot⟩ s)
def execSetDeviceCert (hdr : ReqHdr) (part last : Nat) (bytes : List Nat) (facts : ChainFacts) (s : State) :
    Host.Outcome State Fault Refusal := .next (arrive ⟨hdr, .setDeviceCert part last bytes facts⟩ s)
def execGetReleaseNonce (hdr : ReqHdr) (s : State) : Host.Outcome State Fault Refusal :=
  .next (arrive ⟨hdr, .getReleaseNonce⟩ s)
def execOwnerRelease (hdr : ReqHdr) (rootHash : Nat) (sigOk : Bool) (nonce : Nat) (s : State) :
    Host.Outcome State Fault Refusal := .next (arrive ⟨hdr, .ownerRelease rootHash sigOk nonce⟩ s)
def execSetFieldbus (hdr : ReqHdr) (cfg : Fieldbus) (count : Nat) (s : State) : Host.Outcome State Fault Refusal :=
  .next (arrive ⟨hdr, .setFieldbus cfg count⟩ s)
def execOwnerEnrol (hdr : ReqHdr) (facts : EnrolFacts) (s : State) : Host.Outcome State Fault Refusal :=
  .next (arrive ⟨hdr, .ownerEnrol facts⟩ s)

/-- IMAGE_BEGIN (R602). -/
def execImageBegin (hdr : ReqHdr) (start : UpdateStart) (s : State) : Host.Outcome State Fault Refusal :=
  .next (arrive ⟨hdr, .imageBegin start.length⟩ (if start.keyAnswers then keyRestored s else s))

/-- IMAGE_WRITE (R602). -/
def execImageWrite (hdr : ReqHdr) (offset : Nat) (bytes : List Byte) (s : State) : Host.Outcome State Fault Refusal :=
  .next (arrive ⟨hdr, .imageWrite offset bytes⟩ s)

/-- IMAGE_END (R602). -/
def execImageEnd (hdr : ReqHdr) (facts : CopyFacts) (s : State) : Host.Outcome State Fault Refusal :=
  .next (arrive ⟨hdr, .imageEnd facts⟩ s)

/-- IMAGE_ERASE_COMPLETE (R602): IMAGE_BEGIN is answered, and the idle timer runs again. -/
def execImageEraseComplete (s : State) : Host.Outcome State Fault Refusal :=
  .next (match s.mgmt.update with
    | some u =>
      if u.erasing then
        respond { session := u.session, msgId := u.msgId } 0 s.seq.frame []
          (updSession u.session (fun x => { x with lastNs := rowNs s })
            (setMgmt (fun m => { m with update := some { u with erasing := false, lastNs := rowNs s } }) s))
      else s
    | none => s)

/-- IMAGE_UPDATE_TIMEOUT (R602): 60 s without the next message. -/
def execImageUpdateTimeout (s : State) : Host.Outcome State Fault Refusal :=
  .next (match s.mgmt.update with
    | some u => if !u.erasing && u.lastNs + 60000000000 ≤ rowNs s then endUpdate s else s
    | none => s)

end Sys2Proof.Machine
end

