-- ==== Sys2Proof/Machine/Sessions.lean ====
section
/-! DEFINITION. Ethernet ports and sessions (R536, R579 to R586, R590). -/

namespace Sys2Proof.Machine

def ethPort (s : State) (p : Nat) : EthPort := s.mgmt.ports.getD p {}
def updEth (p : Nat) (f : EthPort → EthPort) (s : State) : State :=
  setMgmt (fun m => { m with ports := upd m.ports p f }) s

/-- Counter k of R595. -/
def mgmtCount (k : Nat) (s : State) : State := setMgmt (fun m => { m with counters := upd m.counters k cnt }) s

/-- A session closes (R582, R611): its subscriptions and messages go, an update it carries ends. The causes are numbered by the model. -/
def closeSession (i cause : Nat) (s : State) : State :=
  if (session s i).isOpen then
    let s1 := match s.mgmt.update with
      | some u => if u.session = i then endUpdate s else s
      | none => s
    let s2 := match s1.sec.certParts with
      | some (j, _) => if j = i then setSec (fun c => { c with certParts := none }) s1 else s1
      | none => s1
    let mine := fun (x : Arrival) => match x with
      | .request q => decide (q.hdr.session = i)
      | .points .. => false
    let s3 := setMgmt (fun m => { m with waiting := m.waiting.filter fun x => !(mine x) }) s2
    post 0x0011 (updSession i (fun _ => {}) s3) i 0xFFFF [cause]
  else s

/-- Every session of a port closes. -/
def closePort (p cause : Nat) (s : State) : State :=
  (List.range 8).foldl (fun t i => if (session t i).port = p then closeSession i cause t else t) s

/-- The core serves a message of session i: the session is open and the core runs. -/
def served (s : State) (i : Nat) : Bool := coreRuns s && (session s i).isOpen

/-! Ports. -/

/-- Client identifier of a port (R580): the serial number, then the port number. -/
def dhcpClient (port : Nat) : List Nat := leBytes 16 Config.serial ++ [port]

/-- ETH_LINK_UP (R580): the port asks for a lease. -/
def execEthLinkUp (port : Nat) (s : State) : Host.Outcome State Fault Refusal :=
  .next (if port < 2 && coreRuns s && domainOn s (118 + port) && !(ethPort s port).linkUp then
      send (.dhcp port (dhcpClient port)) (post 0x0002 (updEth port (fun x =>
        { x with linkUp := true, upNs := rowNs s, askNs := rowNs s }) s) port)
    else s)

/-- A link goes down: its sessions close (R580, R612). -/
def linkDown (p : Nat) (s : State) : State :=
  if (ethPort s p).linkUp then
    let bare := fun (x : EthPort) =>
      { x with linkUp := false, linkLocal := false, ipv4 := 0, prefixLen := 0, addressed := false }
    post 0x0003 (closePort p 3 (updEth p bare s)) p
  else s

/-- ETH_LINK_DOWN (R580). -/
def execEthLinkDown (port : Nat) (s : State) : Host.Outcome State Fault Refusal := .next (linkDown port s)

/-- A port takes an address: sessions on the old one close, event 0x0004 marks a change (R580). -/
def takeAddress (p ipv4 len : Nat) (local_ : Bool) (s : State) : State :=
  let x := ethPort s p
  if x.addressed && x.ipv4 = ipv4 then
    updEth p (fun y => { y with linkLocal := local_, prefixLen := len }) s
  else
    post 0x0004 (updEth p (fun y => { y with ipv4 := ipv4, prefixLen := len, linkLocal := local_, addressed := true })
      (closePort p 4 s)) p

/-- DHCP_LEASE (R580). -/
def execDhcpLease (port ipv4 prefixLen : Nat) (s : State) : Host.Outcome State Fault Refusal :=
  .next (if coreRuns s && (ethPort s port).linkUp then takeAddress port ipv4 prefixLen false s else s)

/-- 169.254.1.0 to 169.254.254.255 (RFC 3927). -/
def linkLocalAddress (a : Nat) : Bool := 0xA9FE0100 ≤ a && a ≤ 0xA9FEFEFF

/-- LINK_LOCAL_FALLBACK (R580): no lease 10 s after link-up. -/
def execLinkLocalFallback (port ipv4 : Nat) (s : State) : Host.Outcome State Fault Refusal :=
  let x := ethPort s port
  .next (if coreRuns s && x.linkUp && !x.addressed && x.upNs + 10000000000 ≤ rowNs s && linkLocalAddress ipv4 then
      updEth port (fun y => { y with askNs := rowNs s }) (takeAddress port ipv4 16 true s)
    else s)

/-- DHCP_RETRY (R580): on a link-local address, every 60 s. -/
def execDhcpRetry (port : Nat) (s : State) : Host.Outcome State Fault Refusal :=
  let x := ethPort s port
  .next (if coreRuns s && x.linkUp && x.linkLocal && x.askNs + 60000000000 ≤ rowNs s then
      send (.dhcp port (dhcpClient port)) (updEth port (fun y => { y with askNs := rowNs s }) s)
    else s)

/-- ETH_FLOOD_DISCARD (R579): frames beyond 20,000 in one second; frames with an 802.1Q tag are discarded too. -/
def execEthFloodDiscard (port frames tagged : Nat) (s : State) : Host.Outcome State Fault Refusal :=
  .next (updEth port (fun x => { x with
    floodDrops := satAdd 32 x.floodDrops (frames - 20000), taggedDrops := satAdd 32 x.taggedDrops tagged }) s)

/-! Sessions. -/

/-- Role of the one organizationalUnitName of the table (R536). -/
def unitRole (u : Nat) : Option SessRole :=
  if u = 0 then some .observer else if u = 1 then some .facility else if u = 2 then some .owner else none

/-- Reason for refusing a client (R536), 0 none; the reasons are numbered in the order of its checks. -/
def clientRefused (s : State) (f : ClientFacts) : Nat :=
  if !f.hasCert then 1
  else if 4 < f.certs || 8192 < f.chainBytes then 2
  else if f.rootHash ≠ s.sec.fuses.ownerKeyHash || !f.signaturesOk then 3
  else if wallValid s && !f.inValidity then 4
  else if (f.units.filterMap unitRole).length ≠ 1 then 5
  else 0

/-- The client is served without a certificate (R536). -/
def bareCycle (s : State) : Bool := lifeCycle s ≠ .enrolled

def admitClient (i : Nat) (role : SessRole) (f : ClientFacts) (s : State) : State :=
  let x : Session :=
    { isOpen := true, role := role, port := f.port, openFrame := s.seq.frame % 4294967296
      subjectHash := f.subjectHash % 2 ^ 128, lastNs := rowNs s, keyNs := rowNs s }
  post 0x0010 (updSession i (fun _ => x) s) i 0xFFFF [role.code]

/-- TLS_SESSION_OPEN (R536, R581, R582): the ninth connection is reset; without random values there is no handshake. -/
def execTlsSessionOpen (client : ClientFacts) (s : State) : Host.Outcome State Fault Refusal :=
  .next (if !(coreRuns s && (ethPort s client.port).linkUp && (ethPort s client.port).addressed) then s
    else match s.mgmt.sessions.findIdx? (fun x => !x.isOpen) with
      | none => postRun 0x0012 (mgmtCount 0 (send (.tcpReset false) s))
      | some i =>
        if !s.sec.drbgOk || !client.tlsOk then s
        else if bareCycle s then admitClient i .none client s
        else
          let r := clientRefused s client
          if r ≠ 0 then post 0xE020 (secCount 0 s) 0xFFFF 0xFFFF [r]
          else
            let role := ((client.units.filterMap unitRole)[0]?).getD .none
            let s1 := admitClient i role client s
            if wallValid s then s1 else post 0xE021 s1 i)

/-- SESSION_IDLE_CLOSE (R582): 60 s without a message; the timer rests while the session's update erases (R602). -/
def execSessionIdleClose (session : Nat) (s : State) : Host.Outcome State Fault Refusal :=
  let erasing := match s.mgmt.update with
    | some u => u.session = session && u.erasing
    | none => false
  .next (if (Machine.session s session).isOpen && !erasing &&
      (Machine.session s session).lastNs + 60000000000 ≤ rowNs s then closeSession session 1 s else s)

/-- SESSION_CLOSE (R581, R582): by the client, or by a fatal alert. -/
def execSessionClose (session : Nat) (s : State) : Host.Outcome State Fault Refusal := .next (closeSession session 2 s)

/-- MALFORMED_MESSAGE (R586): a LENGTH above 8,192 or reserved header bits close the session, another fault is
answered with HEADER. -/
def execMalformedMessage (session msgId : Nat) (badHeader : Bool) (s : State) : Host.Outcome State Fault Refusal :=
  .next (if !(served s session) then s
    else if badHeader then closeSession session 5 s
    else onMessage session msgId 16 (errorAnswer session msgId 0x80) s)

/-- PING (R585). -/
def execPing (session msgId : Nat) (s : State) : Host.Outcome State Fault Refusal :=
  .next (if served s session then
      onMessage session msgId 16 (fun t => answer session msgId
        (.message session (message 0x87 0 msgId (frameStamp s) [])) t) s
    else s)

/-- SUBSCRIBE (R590). Topics 1 and 2 have no index. -/
def execSubscribe (session msgId topic index : Nat) (on : Bool) (s : State) : Host.Outcome State Fault Refusal :=
  let x := Machine.session s session
  let key := (topic, if topic ≤ 2 then 0 else index)
  let held := x.subs.filter (· ≠ key)
  .next (if !(served s session) then s
    else
      onMessage session msgId 21 (fun t =>
        if x.role = .none then errorAnswer session msgId 0x86 t
        else if topic = 0 || 4 < topic then errorAnswer session msgId 3 t
        else if on && 32 ≤ held.length then errorAnswer session msgId 6 t
        else answer session msgId (.message session (message 0x84 0 msgId (frameStamp s) []))
          (updSession session (fun y => { y with subs := if on then held ++ [key] else held }) t)) s)

/-- NOTIFY (R590): the oldest waiting notification leaves, with the number dropped; no request of the client has its
MSG_ID, which is 0 (DESIGN CHOICE, log entry 201). -/
def execNotify (session : Nat) (s : State) : Host.Outcome State Fault Refusal :=
  .next (if !(served s session) then s
    else match (Machine.session s session).notes with
      | [] => s
      | n :: rest =>
        put session (.message session (message 0x85 0 0 n.frame (leBytes 4 (Machine.session s session).dropped ++ n.data)))
          (updSession session (fun x => { x with notes := rest, dropped := 0 }) s))

/-- TLS_KEY_UPDATE (R581): after 2^30 bytes or 1 h. -/
def execTlsKeyUpdate (session : Nat) (s : State) : Host.Outcome State Fault Refusal :=
  let x := Machine.session s session
  .next (if served s session && (decide (2 ^ 30 ≤ max x.bytesIn x.bytesOut) || decide (x.keyNs + 3600000000000 ≤ rowNs s)) then
      send (.keyUpdate session) (updSession session (fun y => { y with bytesIn := 0, bytesOut := 0, keyNs := rowNs s }) s)
    else s)

end Sys2Proof.Machine
end

