-- ==== Sys2Proof/Machine/StatusFields.lean ====
section
/-! DEFINITION. The status window: fields, the latched view (R42, R588), and the identity, start-up, image, management,
frame, schedule, power and thermal parts (R66, R110, R142, R143, R594 to R597, R634). A field is its lowest bit, its
width and its value; a value is reduced to the width, so the low bits of a frame number are its frame stamp (R592). -/

namespace Sys2Proof.Machine

/-- The fields of an entry. -/
abbrev Fields := List (Nat × Nat × Int)

/-- Consecutive fields of one width from bit `lo`: counters (R592). -/
def fieldsAt (lo width : Nat) (l : List Nat) : Fields :=
  l.mapIdx fun k (n : Nat) => (lo + width * k, width, Int.ofNat n)

/-- Groups of fields one after the other. -/
def parts (l : List Fields) : Fields := l.flatten

/-- U32 counters from bit `lo`. -/
def countersAt (lo : Nat) (l : List Nat) : Fields := fieldsAt lo 32 l

/-- Flags, one bit each, from bit `lo`. -/
def flagsAt (lo : Nat) (l : List Bool) : Fields := fieldsAt lo 1 (l.map b2n)

/-- A number that saturates at its field (R15). -/
def satN (width n : Nat) : Int := (min n (2 ^ width - 1) : Nat)

/-- A temperature field, saturated at its range; 0x8000, which is never a temperature, while no valid reading is available
(R13 to R15). -/
def tempField (t : Option Int) : Int := (t.map satTemp).getD (-32768)

/-- A count in another unit, rounded to nearest and saturated at its field (R15). -/
def scaleN (width n per : Nat) : Int := satN width (roundDiv n per).toNat

/-- A frame that may be missing, as a frame stamp. -/
def stampOf (f : Option Nat) : Int := (f.getD 0 : Nat)

/-- Latches what the window shows (R42 step 4). -/
def latchOf (s : State) : Latch :=
  { seq := s.seq, wall := s.wall, sched := s.sched, key := s.key, img := s.img, pow := s.pow, thermal := s.thermal,
    log := s.log, maint := s.maint, heat := s.heat, caps := s.caps, plan := s.plan, plant := s.plant, eng := s.eng,
    ctl := s.ctl, pump := s.pump, can := s.can, link := s.link, valve := s.valve, leak := s.leak, pair := s.pair,
    sec := s.sec, mgmt := s.mgmt }

/-- The state as last latched; before any Guard phase, the state itself. -/
def latched (s : State) : State := match s.latch with
  | none => s
  | some x => { s with
      seq := x.seq, wall := x.wall, sched := x.sched, key := x.key, img := x.img, pow := x.pow, thermal := x.thermal,
      log := x.log, maint := x.maint, heat := x.heat, caps := x.caps, plan := x.plan, plant := x.plant, eng := x.eng,
      ctl := x.ctl, pump := x.pump, can := x.can, link := x.link, valve := x.valve, leak := x.leak, pair := x.pair,
      sec := x.sec, mgmt := x.mgmt }

/-- ASCII characters, the first lowest. -/
def asciiNat (t : String) : Nat := leNat (t.toList.map fun c => c.toNat)

/-- Identity part (R594). -/
def identityFields (s : State) : Fields :=
  [(0, 128, asciiNat "EH6400-HW2"), (128, 8, 0x43), (136, 8, 2), (144, 8, 3), (152, 8, s.pow.fw.minor),
   (160, 16, s.pow.fw.patch), (176, 8, 1), (192, 128, Config.serial), (320, 48, Config.mac 0), (368, 48, Config.mac 1),
   (416, 32, s.log.boot)]

/-- Start-up record (R142). -/
def startFields (s : State) : Fields :=
  let p := s.pow
  parts [
    [(0, 3, p.state.code), (3, 1, b2n p.ready), (4, 1, b2n p.plantControl), (5, 1, b2n (faultN s)), (6, 4, p.lastStep),
     (10, 4, p.failStep), (14, 2, p.resetKind), (16, 4, p.xtalTries), (20, 3, p.speedStrap), (23, 2, p.slotStrap)],
    flagsAt 25 [p.armPumps, p.armPlan, p.armLinks, p.armSensors], [(32, 8, satN 8 (warmResets s))],
    fieldsAt 64 16 (p.stepMs.map (min 65535)), [(224, 16, satN 16 p.readyMs), (240, 16, satN 16 p.controlMs)],
    flagsAt 256 (p.calAfe.map fun c => (calItems c).any id), flagsAt 264 p.calValve, flagsAt 312 p.calPort,
    [(376, 1, b2n p.calPair), (377, 1, b2n p.ddrReduced)], flagsAt 378 p.bankGroupFail, flagsAt 394 p.graphNotLoaded]

/-- Image status (R110). -/
def imageFields (s : State) : Fields :=
  let k := s.key
  let sel : Nat := match k.selected with
    | none => 0
    | some .a => 1
    | some .b => 2
  [(0, 2, k.source), (2, 1, b2n k.frontPresent), (3, 2, sel), (5, 5, k.statusA.reason), (10, 5, k.statusB.reason),
   (15, 2, k.otherState), (17, 8, s.sec.fuses.rollback), (32, 32, k.statusA.seq), (64, 32, k.statusB.seq),
   (96, 16, k.statusA.failRecord), (112, 16, k.statusB.failRecord), (128, 8, k.statusA.level), (136, 8, k.statusB.level),
   (192, 384, k.digest)]

/-- Port part of the management status (R595). -/
def ethFields (s : State) (k : Nat) : Fields :=
  let p := ethPort s k
  [(0, 1, b2n p.linkUp), (1, 1, b2n p.linkLocal), (32, 32, p.ipv4), (64, 8, p.prefixLen), (96, 32, p.floodDrops),
   (128, 32, p.taggedDrops)]

/-- Shared part of the management status (R595). -/
def mgmtFields (s : State) : Fields :=
  let f := s.mgmt.fieldbus
  parts [
    [(0, 4, s.mgmt.sessions.countP (·.isOpen))], flagsAt 4 [f.modbusEn, f.modbusWrite, f.bacnetEn, f.bacnetWrite],
    [(8, 22, f.device)], countersAt 32 s.mgmt.counters]

/-- Session entry (R595). A session is free or open: the handshake is part of one command. -/
def sessionFields (s : State) (i : Nat) : Fields :=
  let x := session s i
  if x.isOpen then
    [(0, 2, 2), (2, 2, x.role.code), (4, 1, x.port), (16, 8, x.subs.length), (32, 32, x.openFrame), (64, 32, x.messages),
     (128, 128, x.subjectHash)]
  else []

/-- Frame and time summary (R596). -/
def frameFields (s : State) : Fields :=
  let q := s.seq
  let w := s.wall
  parts [
    [(0, 2, q.state.code), (2, 1, b2n q.frameValid), (3, 1, b2n (wallValid s)), (4, 2, (wallMark s).code),
     (6, 1, b2n q.backupClock), (7, 1, b2n w.ptpLocked), (8, 1, w.activePort), (9, 7, s.img.topology.ptpDomain),
     (32, 32, w.epoch), (64, 48, q.frame), (128, 64, rowNs s), (192, 64, if wallValid s then wallNow s else 0),
     (256, 64, w.offset), (320, 32, w.rate), (384, 64, w.offsetNs), (448, 64, w.gmIdentity), (512, 16, w.utcOffset),
     (528, 8, w.syncLog), (544, 16, satN 16 q.clean)],
    countersAt 576 (q.phaseOver ++ q.clientOver ++
      [q.holdCount, q.shedCount, w.ignored, w.syncCount, w.epochCount, s.sched.lateRunCount, s.sched.lateDropCount]),
    fieldsAt 1344 8 q.consec]

/-- Epoch history (R597). -/
def epochFields (s : State) (i : Nat) : Fields :=
  let e := s.wall.history.getD i {}
  [(0, 32, e.epoch), (64, 64, e.wallOffset), (128, 64, e.startRow), (192, 48, e.startFrame)]

/-- Schedule table entry (R66). -/
def schedFields (s : State) (i : Nat) : Fields :=
  let e := s.sched.table.getD i {}
  [(0, 32, e.actionId), (32, 16, e.occurrence), (48, 4, e.kind), (52, 1, b2n e.wallKeyed), (53, 1, b2n e.lateRun),
   (54, 2, e.state.code), (56, 1, b2n e.late), (57, 1, b2n e.valid), (64, 64, e.target), (128, 48, e.due),
   (176, 16, satN 16 e.lateness), (192, 48, e.execFrame), (240, 16, e.convEpoch), (256, 256, e.payload)]

/-- Power domains summary (R143). -/
def powerFields (s : State) : Fields :=
  parts [
    [(0, 8, s.pow.domains.countP (·.state = .on)), (8, 8, s.pow.domains.countP (·.state = .failed))],
    flagsAt 16 ((List.range 8).map (railBad s)),
    [(24, 1, b2n s.pow.act24), (32, 16, satN 16 (roundDiv s.pow.mainMv 10).toNat),
     (48, 16, satN 16 (roundDiv s.pow.act24Mv 10).toNat)]]

/-- Rail entry (R143). -/
def railFields (s : State) (k : Nat) : Fields :=
  let r := s.pow.rails.getD k {}
  [(0, 2, r.state.code), (8, 16, satN 16 r.voltageMv), (24, 16, satN 16 r.readyUs), (40, 16, satN 16 r.lossCount)]

/-- Domain entry (R143); entry 126 is reserved, entry 127 is the always-on domain on rail 0. -/
def domainFields (s : State) (d : Nat) : Fields :=
  if d = 127 then [(0, 2, b2n s.pow.powerGood), (2, 1, 1), (3, 3, 0)]
  else if d = 126 then []
  else
    let x := s.pow.domains.getD d {}
    [(0, 2, x.state.code), (2, 1, b2n x.selected), (3, 3, domainRail d), (8, 8, x.failReason), (16, 16, satN 16 x.cycles),
     (32, 32, x.lastChange)]

/-- Thermal part (R634). -/
def thermalFields (s : State) : Fields :=
  let t := s.thermal
  let f0 := t.fans.getD 0 {}
  let f1 := t.fans.getD 1 {}
  parts [
    [(0, 16, tempField t.inlet), (16, 16, tempField t.exhaust), (32, 16, satN 16 f0.rpm), (48, 16, satN 16 f1.rpm)],
    flagsAt 64 [f0.failed, f1.failed, t.inletOver],
    [(80, 16, t.fanCmd), (96, 16, if t.fans.any (·.failed) then 2880 else 3520)],
    countersAt 128 [t.fanFailures, t.overRuns, t.fanRetries]]

end Sys2Proof.Machine
end

