-- ==== Sys2Proof/Machine/StatusHeat.lean ====
section
/-! DEFINITION. The status window: plan and modes (R210 to R212), heat pages, sites and caps (R174 to R176, R344 to
R346). -/

namespace Sys2Proof.Machine

/-- Row values of the plan in force at step k: ROW_SUPPLY_SP, PUMP_DEMAND, three FAN_DEMAND and SPRAY_DUTY. -/
def planStep (s : State) (k lo : Nat) : Fields :=
  match s.plan.inForce with
  | none => []
  | some v => parts [
      [(lo, 16, v.rowSupply.getD k 0), (lo + 16, 16, (v.pump.getD k 0 : Nat))],
      fieldsAt (lo + 32) 16 (v.fans.map (·.getD k 0)),
      [(lo + 80, 16, (v.spray.getD k 0 : Nat))]]

/-- Plan and modes summary (R210). -/
def planFields (s : State) : Fields :=
  let p := s.plan
  let v : PlanValues := p.inForce.getD {}
  parts [
    [(0, 2, p.mode.code), (2, 2, (modeNext s).code), (4, 3, p.state.code)],
    flagsAt 7 [p.feasible, p.converged, p.sprayUnlocked, slot0Enabled s, decide (5 ≤ p.sampleEpochs)],
    [(12, 4, p.reason), (16, 3, p.infeasibleRun), (19, 2, p.returnRun), (32, 32, p.epoch), (64, 16, p.iterations),
     (80, 16, satN 16 (roundDiv (clockUsed s : Nat) 1000).toNat), (96, 32, p.residual),
     (128, 32, (v.loops.map (·.capLow)).sum), (160, 32, satN 32 v.waterAllow), (192, 32, satN 32 v.waterPlanned)],
    countersAt 256 p.counters,
    planStep s 0 512]

/-- Plan loop entry (R211). -/
def planLoopFields (s : State) (l : Nat) : Fields :=
  let r := loopRun s l
  let v : LoopPlan := match s.plan.inForce with
    | some p => p.loops.getD l {}
    | none => {}
  parts [
    [(0, 32, v.capLow), (32, 32, v.capCenter), (64, 16, tempField v.outletHi), (80, 16, v.supplySp),
     (96, 16, satN 16 v.flowSp), (112, 8, v.surgeSteps), (128, 32, satS 32 (r.credit / 160000)),
     (160, 32, satS 32 (r.fresh / 160000 : Nat))],
    flagsAt 192 [r.armed, v.emberSupply, !r.ember.isEmpty, v.ocApplied, v.excluded],
    [(208, 16, tempField v.floorEff), (224, 16, r.ember.length), (256, 32, satN 32 v.floorPlan)]]

/-- Horizon entry (R212). -/
def horizonFields (s : State) (k : Nat) : Fields :=
  let m : Option Int := match s.plan.inForce with
    | some v => (v.margin.getD k none)
    | none => none
  parts [planStep s k 0, [(96, 16, tempField m)]]

/-- Heat pages summary (R174). -/
def heatFields (s : State) (w : Windows) : Fields :=
  let count (q : Page → Bool) : Nat := s.heat.pages.countP q
  parts [
    fieldsAt 0 16 ([count inPool, count (·.state = .free), count (·.state = .held), count (·.state = .draining),
      count (fun p => p.surge && (p.state = .held || p.state = .draining)),
      count (fun p => p.cover && (p.state = .held || p.state = .draining)),
      102 + ceilDiv s.img.limits.chipCap s.img.pages.slopeDown, w.ptBase].map (min 65535)),
    countersAt 128 s.heat.counters]

/-- Heat loop entry (R174). -/
def heatLoopFields (s : State) (l : Nat) : Fields :=
  let x := loopP s l
  let count (q : Page → Bool) : Nat := (loopRange s l).countP fun k => q (page s k)
  let ordinary (p : Page) : Bool := !p.surge && !(p.cover && !p.converted)
  parts [
    fieldsAt 0 16 [poolCount s l, x.poolPlan, count (·.state = .free), count (fun p => p.state = .held && ordinary p),
      count (fun p => p.state = .draining && ordinary p), x.surgePool, (surgePages s l).length,
      count (fun p => p.cover && (p.state = .held || p.state = .draining))],
    [(128, 2, x.growCount)], flagsAt 130 [x.isolated, x.overcommit, x.clipped],
    countersAt 160 [x.floorSum, x.pageCapSum, x.capSum, rackInForce s l], [(288, 17, x.clipK)]]

/-- Heat tenant entry (R174). -/
def heatTenantFields (s : State) (t : Nat) : Fields :=
  let x := tenantSt s t
  let left := x.quarFrame + 20000 - s.seq.frame
  parts [
    [(0, 2, x.state.code), (2, 2, (tenantCfg s t).cls)],
    fieldsAt 16 16 [x.gen, (tenantOrdinary s t).length, (tenantSurge s t).length, x.minIn, x.maxIn,
      s.heat.sites.countP (fun y => y.tenant = some t), if x.state = .quarantine then (roundDiv left 10).toNat else 0],
    countersAt 128 [x.faults, x.denied, x.reclaimed, x.stale]]

/-- Tenant of a page's site, 0 for an unbound one (R175). -/
def pageTenant (s : State) (site : Nat) : Int := (((siteP s site).tenant.getD 0 : Nat) : Int)

/-- Page window entry (R175): page PT_WINDOW_BASE + i. -/
def pageFields (s : State) (w : Windows) (i : Nat) : Fields :=
  let k := w.ptBase + i
  let p := page s k
  let used := decide (p.state = .held ∨ p.state = .draining)
  [(0, 2, p.state.code), (2, 1, b2n p.surge), (3, 1, b2n p.pending), (4, 5, pageLoop s k),
   (9, 11, if used then p.site else 0), (20, 8, if used then pageTenant s p.site else 0),
   (28, 11, if p.pending then p.nextSite else 0), (39, 8, if p.pending then pageTenant s p.nextSite else 0),
   (47, 16, p.pgen), (63, 1, b2n p.cover)]

/-- Site entry (R176, R344). -/
def siteFields (s : State) (i : Nat) : Fields :=
  let x := siteP s i
  let c := siteC s i
  let surge := s.heat.pages.countP fun p => p.state = .held && p.surge && p.site = i
  let promised := s.heat.pages.any fun p => p.state = .draining && p.pending && p.nextSite = i
  parts [
    [(0, 1, b2n x.tenant.isSome), (1, 1, b2n x.covered), (2, 2, if promised then 2 else b2n (x.fault || decide (0 < x.coverNeed))), (4, 4, x.deny),
     (8, 8, (x.tenant.getD 0 : Nat)), (16, 16, x.tgen), (32, 5, (heldBy s i).length), (37, 5, (drainingFrom s i).length),
     (42, 5, surge), (47, 1, b2n x.ember), (48, 20, x.floor), (68, 20, x.pageCap), (88, 20, x.target),
     (108, 16, scaleN 16 x.idleFrames 10),
     (128, 20, x.cap), (148, 20, c.tel.capApplied), (168, 2, c.response.code)],
    flagsAt 170 [(s.caps.floors.getD (linkOf i) {}).driven, c.tel.lowestState, c.tel.capLimited, c.laggard, c.noRef,
      c.overCap, dithering s i],
    [(184, 8, satN 8 c.telAge), (192, 32, c.est), (224, 16, satN 16 c.guardBand), (240, 16, tempField c.tel.dieTemp),
     (256, 16, c.tel.freqAch), (272, 16, c.fTab), (288, 20, c.lastReg), (320, 16, satN 16 (refAge s i)),
     (336, 16, satS 16 (f32Nearest (f32Mul f16 c.stat))), (352, 32, c.violations), (384, 64, (c.energy / 160000 : Nat))]]

/-- Cap summary (R345). -/
def capFields (s : State) : Fields :=
  let live := (presentSites s).filter (responsive s)
  parts [
    [(0, 32, satN 32 ((s.heat.sites.map (·.cap)).sum)), (32, 32, satN 32 ((live.map fun i => (siteC s i).est).sum)),
     (64, 32, satN 32 ((s.caps.sites.map (·.lastReg)).sum))],
    flagsAt 96 (s.caps.floors.map (·.driven)), flagsAt 160 (s.caps.floors.map (·.held)),
    [(224, 64, (s.caps.unbound / 160000 : Nat))], countersAt 288 s.caps.counters]

/-- Class entry (R345). -/
def classFields (s : State) (c : Nat) : Fields :=
  let x := classModel s c
  if x.inUse then
    parts [
      [(0, 1, 1), (1, 1, b2n x.suspended), (2, 4, x.value), (16, 16, x.sites)],
      countersAt 32 (x.w.map (·.toNat)),
      countersAt 288 [x.sigma.toNat, (f32Trace x.p).toNat, x.updates]]
  else [(288, 32, fSigma0.toNat), (320, 32, (f32Trace p0Class).toNat)]

/-- Tenant cap entry (R346). -/
def paceFields (s : State) (t : Nat) : Fields :=
  let x := s.caps.tenants.getD t {}
  let y := tenantSt s t
  let spread := (roundDiv ((x.fast - x.slow : Nat) * 65536) x.slow).toNat
  [(0, 2, x.mode), (2, 1, b2n x.forced), (16, 16, x.freq), (32, 16, x.slow), (48, 16, x.fast), (64, 16, satN 16 spread),
   (80, 12, satN 12 x.laggards), (96, 3, y.splitOrder), (104, 8, y.minCompute), (112, 8, y.minMemory), (120, 8, y.minLinks),
   (128, 64, (x.energy / 160000 : Nat))]

end Sys2Proof.Machine
end

