-- ==== Sys2Proof/Machine/StatusPlant.lean ====
section
/-! DEFINITION. The status window: pumps and fans (R406 to R408), valves (R431, R432), leak (R457 to R459) and CAN (R490
to R493). -/

namespace Sys2Proof.Machine

/-- Pumps and fans summary (R406). -/
def pumpsFields (s : State) : Fields :=
  let p := s.pump
  parts [
    flagsAt 0 ([p.vigil, p.sprayInhibit, p.budgetSpent, p.wallDay] ++ p.fullSpeed ++
      [startWindow s, testWindow s, recoveryWindow s]),
    [(16, 16, satN 16 p.planAge), (32, 32, p.day), (64, 32, timeLeft s), (96, 32, satN 32 (waterLeftMl s)),
     (128, 32, satN 32 (p.today / 60000)), (160, 64, (p.total / 60000 : Nat))],
    countersAt 256 p.counters]

/-- Pump entry (R407). -/
def pumpFields (s : State) (i : Nat) : Fields :=
  let p := pumpSt s i
  let n := s.seq.frame
  let episode := match p.episode with
    | some f => (roundDiv (n - f : Nat) 1000).toNat
    | none => 0
  let rest := match p.restEnd with
    | some f => (roundDiv (f - n : Nat) 1000).toNat
    | none => 0
  parts [
    [(0, 3, p.state.code)],
    flagsAt 3 [p.analog, runAsserted s i, p.faultIn, p.episode.isSome, p.restEnd.isSome],
    [(8, 8, p.retries)],
    fieldsAt 16 16 ([p.target, p.speedCmd, p.speedAct, p.limit, episode, rest, p.faultCode,
      aoVoltage s i].map (min 65535)),
    [(160, 32, p.stalls), (192, 32, p.statusCount), (224, 32, stampOf p.lastStatus)]]

/-- Fan entry (R407). -/
def fanFields (s : State) (i : Nat) : Fields :=
  let f := fanSt s i
  [(0, 3, f.state.code), (8, 8, f.retries), (16, 16, f.target), (32, 16, f.speedCmd), (48, 16, satN 16 f.rpm),
   (64, 11, fanDuty s i), (96, 32, f.stalls)]

/-- Elements of a group in RUN (R408). -/
def groupRunning (s : State) (g : Nat) : Nat :=
  if g = 0 then s.pump.pumps.countP (·.state = .run)
  else ((List.range 24).filter fun f => fanGroup f = g && (fanSt s f).state = .run).length

/-- Group entry (R408). -/
def groupFields (s : State) (g : Nat) : Fields :=
  let x := s.pump.groups.getD g {}
  [(0, 16, x.zoneDemand), (16, 16, x.planDemand), (32, 16, x.loopDemand), (48, 1, b2n (s.pump.fullSpeed.getD g false)),
   (49, 4, x.hottest), (64, 8, groupRunning s g)]

/-- Zone entry (R408). -/
def zoneFields (s : State) (z : Nat) : Fields :=
  let x := s.pump.zones.getD z {}
  [(0, 16, tempField x.temp), (16, 16, x.demand), (32, 1, b2n (s.img.zones.getD z {}).enabled), (40, 8, x.missing)]

/-- Spray entry (R408): channel v, or CAN spray valve v - 48. -/
def sprayFields (s : State) (v : Nat) : Fields :=
  let x := s.pump.spray.getD v {}
  [(0, 1, b2n x.inService), (1, 1, b2n x.open_), (2, 1, b2n (decide (48 ≤ v) && canSprayExists s.img (v - 48))),
   (16, 16, satN 16 x.rate), (32, 32, satN 32 (x.account / 60000)), (64, 32, scaleN 32 x.openFrames 10000)]

/-- Requests that wait in a bank (R431). -/
def bankWaiting (s : State) (b : Nat) : Nat := ((bankChs b).filter fun c => (vch s c).drive = .waiting).length

/-- Valves summary (R431). -/
def valvesFields (s : State) : Fields :=
  parts [
    flagsAt 0 (s.valve.banks.map fun b => decide (b.state = .on)),
    flagsAt 6 (s.valve.banks.map fun b => decide (b.state = .failed)),
    flagsAt 12 ((List.range 6).map fun b => decide (0 < bankWaiting s b)),
    countersAt 64 s.valve.counters]

/-- Bank entry (R431). -/
def bankFields (s : State) (b : Nat) : Fields :=
  let x := vbank s b
  let peak := (bankChs b).findIdx? fun c => (vch s c).drive = .peak
  let hold := ((bankChs b).filter fun c => (vch s c).drive = .hold).map fun c => (valveCfg s c).holdMa
  [(0, 3, x.state.code), (3, 1, b2n x.thermWarn), (4, 1, b2n peak.isSome), (5, 3, (peak.getD 0 : Nat)),
   (8, 4, bankWaiting s b), (16, 16, satN 16 hold.sum), (32, 16, satN 16 x.hsMa), (48, 16, satN 16 x.mv),
   (64, 16, tempField x.temp), (80, 8, satN 8 (x.tripFrames.countP fun f => decide (s.seq.frame < f + 600000))),
   (128, 32, x.trips), (160, 32, x.peaks)]

/-- Valve channel entry (R432). -/
def valveFields (s : State) (c : Nat) : Fields :=
  let x := vch s c
  let v := valveCfg s c
  let req := requestInForce x
  [(0, 3, x.drive.code), (3, 2, valveHealth s c), (5, 3, x.reason), (8, 1, b2n (valvePosition s c)), (9, 1, b2n x.moved),
   (10, 1, b2n x.dutyOver), (11, 2, ((req.map (·.1)).getD 0 : Nat)), (13, 1, b2n req.isSome), (16, 4, v.function),
   (20, 1, b2n v.normallyOpen), (24, 8, satN 8 x.missRun), (32, 16, satN 16 x.ma), (48, 16, satN 16 x.dipTime),
   (64, 16, satN 16 x.dipDepth), (80, 16, satN 16 x.offMv), (96, 32, satN 32 (roundDiv (windowSum x) 1000).toNat),
   (128, 32, x.edges), (160, 32, x.misses), (192, 32, x.lastEdge), (224, 16, satN 16 x.waitFrames),
   (240, 4, x.lastResult)]

/-- Leak summary (R457). -/
def leakFields (s : State) : Fields :=
  let k := s.leak
  parts [
    flagsAt 0 [k.emergency, !s.pow.ownContactClosed, k.ringExt],
    flagsAt 4 [k.rowSensor, k.notHolding, k.manyLoops, k.stopRequest],
    flagsAt 8 (k.loops.map fun x => decide (x.iso ≠ .isOpen)),
    flagsAt 32 (k.loops.map fun x => decide (x.iso = .notHolding)),
    [(64, 16, satN 16 k.ringUa)], countersAt 96 k.counters]

/-- Leak loop entry (R458). Binary32 values in 0.1 L/min and 0.1 kPa/s are reported under R15. -/
def leakLoopFields (s : State) (l : Nat) : Fields :=
  let x := leakLoop s l
  let ten (v : F32) : Int := f32Nearest (f32Mul fTen v)
  let nat16 (v : Int) : Int := clampI 0 65535 v
  parts [
    [(0, 3, x.iso.code)], flagsAt 3 x.cause,
    flagsAt 8 [x.mbActive, x.decayActive, x.decayInside, x.clsAvailable, x.thrAtMax],
    [(16, 16, nat16 (ten x.thr)), (32, 16, satS 16 (ten x.resid)), (48, 16, satS 16 (ten x.base)),
     (64, 32, clampI 0 4294967295 (f32Floor x.stat)), (96, 16, satN 16 x.run), (112, 16, satS 16 (f32Nearest x.decay)),
     (128, 16, nat16 (f32Nearest x.decayThr)), (144, 16, nat16 x.score), (160, 32, x.decidedFrame),
     (192, 32, x.edgeFrame), (224, 16, satN 16 x.isoTime), (256, 32, x.isolations)]]

/-- Rope entry (R459). -/
def ropeFields (s : State) (i : Nat) : Fields :=
  let x := leakIn s i
  [(0, 2, if leakUsed s i then x.state.code else 3), (2, 1, b2n x.nearSplit), (3, 1, b2n x.sideA), (4, 1, b2n x.sideB),
   (16, 16, if x.state = .wet then x.location else 0xFFFF), (32, 16, satN 16 x.leakUa), (64, 32, x.contacts),
   (96, 32, x.lastWet)]

/-- Float entry (R459): inputs 16 to 23. -/
def floatFields (s : State) (i : Nat) : Fields :=
  let x := leakIn s (16 + i)
  [(0, 2, if leakUsed s (16 + i) then x.state.code else 3), (32, 32, x.contacts), (64, 32, x.lastWet)]

/-- CAN summary (R490). -/
def canFields (s : State) (w : Windows) : Fields :=
  parts [
    flagsAt 0 (s.can.ch.map fun x => decide (x.state ≠ .off)),
    flagsAt 12 (s.can.ch.map fun x => decide (x.state = .normal)),
    flagsAt 24 (s.can.ch.map fun x => decide (x.state = .busOff)),
    [(36, 6, (s.seq.frame / 10 % 64 : Nat)), (42, 4, w.mqSel)], countersAt 128 s.can.counters]

/-- CAN channel entry (R491). -/
def canChFields (s : State) (c : Nat) : Fields :=
  let x := canCh s c
  let a := almanac s c
  let err : Nat := if x.state = .busOff then 2 else b2n x.passive
  let kbps (cycles : Nat) : Nat := if a.present then 80000 / cycles else 0
  parts [
    [(0, 2, x.state.code), (2, 2, err)], flagsAt 4 (restrictCauses s c),
    flagsAt 8 [x.tdcSat, x.mqOverflow, intercalaryOpen s c],
    [(16, 8, satN 8 x.tec), (24, 8, satN 8 x.rec_), (32, 7, x.tdcValue), (40, 7, x.tdcSsp),
     (64, 16, satN 16 (kbps (nominalBit a))), (80, 16, satN 16 (kbps (dataBit a))), (96, 8, x.mqHead), (104, 8, x.mqTail),
     (112, 8, satN 8 x.rxLevel), (120, 8, x.slots.countP (·.state = .waiting))],
    countersAt 128 x.counters, [(640, 32, x.lastBusOff)]]

/-- High-priority buffer b of channel c, at entry 8 (c - 2) + b (R490). -/
def hpFields (s : State) (c b : Nat) : Fields :=
  let h := (canCh s c).hp.getD b {}
  rxFields h.rx h.isNew

/-- Mirror window entry (R490, R492). -/
def mirrorFields (s : State) (w : Windows) (i : Nat) : Fields := match (canCh s w.mqSel).mq[i]? with
  | some r => rxFields r false
  | none => []

/-- Send slot entry (R493). -/
def slotFields (s : State) (c i : Nat) : Fields :=
  let x := (canCh s c).slots.getD i {}
  [(0, 16, x.sendId), (16, 3, x.state.code), (32, 32, x.acceptFrame), (64, 32, x.doneFrame)]

/-- Cell active map of a channel (R490). -/
def cellMapFields (s : State) (c : Nat) : Fields :=
  flagsAt 0 ((almanac s c).cell.mapIdx fun k x => x.used && !((canCh s c).inactive.contains k))

end Sys2Proof.Machine
end

