-- ==== Sys2Proof/Machine/Fieldbus.lean ====
section
/-! DEFINITION. Modbus TCP and BACnet/IP (R605 to R610). Object types, properties, services and error codes of BACnet
are numbered as ASHRAE 135 numbers them. -/

namespace Sys2Proof.Machine

/-- The source of a write lies within an allow-list entry (R605). -/
def allowed (c : Fieldbus) (source : Nat) : Bool :=
  c.allow.any fun x => source / 2 ^ (32 - x.2) = x.1 / 2 ^ (32 - x.2)

/-! Input points (R607, R610). -/

/-- A state point: its code is the register's value, present-value is the code + 1. -/
def statePoint (a code : Nat) : Point := { addr := a, reg := code, kind := .multi, num := code + 1 }

/-- A number that both servers show alike. -/
def plainPoint (a : Nat) (wide : Bool) (v : Int) : Point := { addr := a, wide := wide, reg := v, num := v }

/-- A power in counts of 1/16 W: registers in 0.1 kW under R15, object in kW. -/
def powerPoint (a : Nat) (counts : Nat) : Point :=
  { addr := a, wide := true, reg := roundDiv counts 1600, num := counts, den := 16000 }

/-- A value in counts of which `den` make the object's unit. -/
def scaledPoint (a den : Nat) (v : Int) : Point := { addr := a, reg := v, num := v, den := den }

/-- A temperature: 0x8000 in the register while missing (R13, R14). -/
def tempPoint (a : Nat) (v : Option Int) : Point := match v with
  | some x => scaledPoint a 64 x
  | none => { addr := a, reg := -32768, num := 0, missing := true }

/-- A pressure or a flow; the register shows a free value while missing. -/
def meterPoint (s : State) (a : Nat) (v : Option Int) : Point := match v with
  | some x => scaledPoint a 10 x
  | none => { addr := a, reg := Config.missingRegister s.free a, num := 0, missing := true }

/-- The reading of a loop's sensor; none where the loop is not configured. -/
def loopReading (s : State) (l : Nat) (sel : LoopCfg → Nat) : Option Int :=
  let c := s.img.topology.loops.getD l {}
  if c.configured then sensorValue s (sel c) else none

/-- The flags of input register 3 (R607). -/
def rowFlags (s : State) : List Bool :=
  [s.pow.ready, s.pow.plantControl, faultN s, s.leak.emergency, s.pump.vigil, s.pump.sprayInhibit, s.pump.budgetSpent,
   decide (s.seq.state ≠ .normal)]

/-- Counts of a loop input's quantity in its unit: 1/64 C, 0.1 kPa, 0.1 L/min (R13). -/
def quantityDen (q : Nat) : Nat := if q = 0 then 64 else if q ≤ 2 then 10 else 1

/-- Counts of control loop i's input in its unit. -/
def inputDen (s : State) (i : Nat) : Nat := quantityDen (sensorCfg s (ctlCfg s i).input).quantity

/-- Counts of control loop i's output in its unit (R303): 0.01 %, or those of the loop that it feeds. -/
def outputDen (s : State) (i : Nat) : Nat :=
  let c := ctlCfg s i
  if c.outKind = 0 then 1 else if c.outKind = 4 then inputDen s c.outIndex else 100

/-- Points of the row (registers 0 to 17 but for the flags). -/
def rowPoint (s : State) (k : Nat) : Option Point :=
  let v : PlanValues := s.plan.inForce.getD {}
  let live := (presentSites s).filter (responsive s)
  match k with
  | 0 => some (statePoint 0 s.pow.state.code)
  | 1 => some (statePoint 1 s.plan.mode.code)
  | 2 => some (statePoint 2 s.plan.state.code)
  | 4 => some (plainPoint 4 true (isolatedMask s))
  | 6 => some (powerPoint 6 ((s.heat.sites.map (·.cap)).sum))
  | 8 => some (powerPoint 8 ((live.map fun i => (siteC s i).est).sum))
  | 10 => some (powerPoint 10 ((v.loops.map fun (x : LoopPlan) => x.capLow).sum.toNat))
  | 12 => some { addr := 12, wide := true, reg := roundDiv s.pump.today 60000000, num := s.pump.today, den := 60000000 }
  | 14 => some { addr := 14, wide := true, reg := roundDiv (waterLeftMl s) 1000, num := waterLeftMl s, den := 1000 }
  | 16 => some (plainPoint 16 true ((s.seq.frame % 2 ^ 32 : Nat)))
  | _ => none

/-- Points of loop l at offset k of its 16 registers. -/
def loopPoint (s : State) (l k : Nat) : Option Point :=
  let a := 100 + 16 * l + k
  let v : LoopPlan := match s.plan.inForce with
    | some p => p.loops.getD l {}
    | none => {}
  match k with
  | 0 => some (statePoint a (leakLoop s l).iso.code)
  | 1 => some (tempPoint a (loopReading s l (·.tSupply)))
  | 2 => some (tempPoint a (loopReading s l (·.tReturn)))
  | 3 => some (meterPoint s a (loopReading s l (·.flow)))
  | 4 => some (meterPoint s a (loopReading s l (·.pSupply)))
  | 5 => some (meterPoint s a (loopReading s l (·.pReturn)))
  | 6 => some (scaledPoint a 64 v.supplySp)
  | 7 => some (plainPoint a false (poolCount s l))
  | 8 => some (powerPoint a (loopP s l).capSum)
  | 10 => some (powerPoint a v.capLow.toNat)
  | _ => none

def pumpPoint (s : State) (p k : Nat) : Option Point :=
  let a := 500 + 8 * p + k
  let x := pumpSt s p
  match k with
  | 0 => some (statePoint a x.state.code)
  | 1 => some (statePoint a (b2n x.analog))
  | 2 => some (scaledPoint a 100 x.speedCmd)
  | 3 => some (scaledPoint a 100 x.speedAct)
  | 4 => some (plainPoint a false (aoVoltage s p))
  | _ => none

def fanPoint (s : State) (f k : Nat) : Option Point :=
  let a := 540 + 4 * f + k
  let x := fanSt s f
  match k with
  | 0 => some (statePoint a x.state.code)
  | 1 => some (scaledPoint a 100 x.speedCmd)
  | 2 => some (plainPoint a false x.rpm)
  | _ => none

def zonePoint (s : State) (z k : Nat) : Option Point :=
  let a := 640 + 2 * z + k
  let x := s.pump.zones.getD z {}
  if k = 0 then some (tempPoint a x.temp) else some (scaledPoint a 100 x.demand)

def ctlPoint (s : State) (i k : Nat) : Option Point :=
  let a := 1000 + 8 * i + k
  let p := ctl s i
  let wide (den : Nat) (v : Int) : Point := { addr := a, wide := true, reg := v, num := v, den := den }
  match k with
  | 0 => some (statePoint a p.state.code)
  | 2 => some (wide (inputDen s i) p.target)
  | 4 => some (wide (inputDen s i) p.r)
  | 6 => some (wide (outputDen s i) p.u)
  | _ => none

/-- The point whose first register is `a`. -/
def inputPoint (s : State) (a : Nat) : Option Point :=
  if a < 18 then rowPoint s a
  else if 100 ≤ a && a < 484 then loopPoint s ((a - 100) / 16) ((a - 100) % 16)
  else if 500 ≤ a && a < 532 then pumpPoint s ((a - 500) / 8) ((a - 500) % 8)
  else if 540 ≤ a && a < 636 then fanPoint s ((a - 540) / 4) ((a - 540) % 4)
  else if 640 ≤ a && a < 672 then zonePoint s ((a - 640) / 2) ((a - 640) % 2)
  else if 1000 ≤ a && a < 5096 then ctlPoint s ((a - 1000) / 8) ((a - 1000) % 8)
  else none

/-- `a` is the low half of a 32-bit point. -/
def lowHalf (pt : Nat → Option Point) (a : Nat) : Bool := match a with
  | 0 => false
  | b + 1 => match pt b with
    | some p => p.wide
    | none => false

def highHalf (pt : Nat → Option Point) (a : Nat) : Bool := match pt a with
  | some p => p.wide
  | none => false

/-- A register's value: of a 32-bit point the high word at the lower address (R606). -/
def register (pt : Nat → Option Point) (a : Nat) : Nat :=
  match pt a with
  | some p => if p.wide then toBits 32 p.reg / 65536 else toBits 16 p.reg
  | none => match a with
    | 0 => 0
    | b + 1 => match pt b with
      | some p => if p.wide then toBits 32 p.reg % 65536 else 0
      | none => 0

/-- The value of input register `a`: register 3 holds the flags. -/
def inputRegister (s : State) (a : Nat) : Nat :=
  if a = 3 then boolBits (rowFlags s) else register (inputPoint s) a

/-! Holding points (R608, R610). -/

/-- The point whose first holding register is `a`, with the value in force. -/
def holdingPoint (s : State) (a : Nat) : Option Point :=
  if a = 0 then some (statePoint 0 s.plan.mode.code)
  else if a = 1 then some { plainPoint 1 false (b2n s.pump.sprayInhibit) with kind := .binary }
  else if a = 2 then some { plainPoint 2 false (b2n s.leak.emergency) with kind := .binary }
  else if a = 3 then some (powerPoint 3 s.heat.rowLimit)
  else if 10 ≤ a && a < 58 && a % 2 = 0 then some (powerPoint a (rackInForce s ((a - 10) / 2)))
  else if 1000 ≤ a && a < 2024 && a % 2 = 0 then
    let i := (a - 1000) / 2
    some { addr := a, wide := true, reg := (ctl s i).target, num := (ctl s i).target, den := inputDen s i }
  else none

/-- A holding register exists. -/
def holdingMapped (s : State) (a : Nat) : Bool := (holdingPoint s a).isSome || lowHalf (holdingPoint s) a

/-- The facility request that a write of counts `v` to the point at `a` makes (R608); none is refused as RANGE. -/
def pointRequest (a : Nat) (v : Int) : Option ReqBody :=
  if a = 0 then (if 0 ≤ v then some (.setMode v.toNat) else none)
  else if a = 1 then (if 0 ≤ v then some (.setSprayInhibit v.toNat) else none)
  else if a = 2 then (if v = 1 then some .rowStop else none)
  else if a = 3 then (if 0 ≤ v then some (.setLimit 0 0 v.toNat) else none)
  else if a < 1000 then (if 0 ≤ v then some (.setLimit 1 ((a - 10) / 2) v.toNat) else none)
  else some (.setLoopSp ((a - 1000) / 2) v)

/-- Header of a fieldbus request (R608): TENANT 0 and ISSUED 0, from no session. -/
def fieldbusHdr : ReqHdr := { session := 255 }

/-- Counts a fieldbus write: `k` is the counter of acceptances (R595); a refusal logs event 0x0021 once per run. -/
def noteWrite (k result : Nat) (s : State) : State :=
  if result = 0 then mgmtCount k s else postRun 0x0021 (mgmtCount (k + 1) s)

/-- Writes counts `v` to the point at `a` as a facility request: its result (R608). -/
def writePoint (k a : Nat) (v : Int) (s : State) : Nat × State := match pointRequest a v with
  | some b =>
    let r := judge .facility ⟨fieldbusHdr, b⟩ s
    (r.1, noteWrite k r.1 r.2)
  | none => (3, noteWrite k 3 s)

/-! Modbus TCP (R606). -/

/-- A message on connection c is served. -/
def modbusServed (s : State) (c : Nat) : Bool :=
  coreRuns s && s.mgmt.fieldbus.modbusEn && (s.mgmt.modbus.getD c none).isSome

/-- A message restarts the connection's idle time. -/
def modbusTouch (c : Nat) (s : State) : State :=
  setMgmt (fun m => { m with modbus := upd m.modbus c (fun _ => some (rowNs s)) }) s

def modbusError (c function code : Nat) (s : State) : State := send (.modbus c (function + 128) [code]) s

/-- Answers a read of `n` registers from `a`: each mapped, no half of a 32-bit point. -/
def modbusRead (c function a n : Nat) (mapped : Nat → Bool) (pt : Nat → Option Point) (value : Nat → Nat) (s : State) :
    State :=
  let s1 := { modbusTouch c s with free := s.free + 1 }
  if n = 0 || 125 < n then modbusError c function 3 s1
  else
    let l := (List.range n).map (a + ·)
    if !(l.all mapped) || lowHalf pt a || highHalf pt (a + n - 1) then modbusError c function 2 s1
    else send (.modbus c function (l.map value)) s1

/-- MODBUS_READ_INPUT (R607). -/
def execModbusReadInput (conn address count : Nat) (s : State) : Host.Outcome State Fault Refusal :=
  let v := latched s
  .next (if modbusServed s conn then
      modbusRead conn 4 address count (fun a => decide (a ≤ 5095)) (inputPoint v) (inputRegister v) s
    else s)

/-- MODBUS_READ_HOLDING (R608). -/
def execModbusReadHolding (conn address count : Nat) (s : State) : Host.Outcome State Fault Refusal :=
  let v := latched s
  .next (if modbusServed s conn then
      modbusRead conn 3 address count (holdingMapped v) (holdingPoint v) (register (holdingPoint v)) s
    else s)

/-- The points that the values written from register `a` make up, with their counts (R606, R608): none where a register
is unmapped or half of a point is missing. -/
def writtenPoints (s : State) : Nat → List Nat → Option (List (Nat × Int))
  | _, [] => some []
  | a, w :: t => match holdingPoint s a, t with
    | none, _ => none
    | some p, [] => if p.wide then none else some [(a, (w % 65536 : Nat))]
    | some p, w' :: t' =>
      if p.wide then
        let raw := 65536 * (w % 65536) + w' % 65536
        let v : Int := if a < 1000 then 1600 * raw else toSigned 32 raw
        (writtenPoints s (a + 2) t').map ((a, v) :: ·)
      else (writtenPoints s (a + 1) (w' :: t')).map ((a, ((w % 65536 : Nat) : Int)) :: ·)

/-- Counter of the accepted writes of a protocol (R595). -/
def replyCounter : FieldReply → Nat
  | .modbus .. => 1
  | .bacnet => 3

/-- The answer to a write whose result is known (R606, R610): an echo or exception 0x03 or 0x04; no error,
value-out-of-range (37) or write-access-denied (40). -/
def fieldAnswer (y : FieldReply) (result : Nat) (s : State) : State :=
  match y with
  | .modbus c function echo =>
    if (s.mgmt.modbus.getD c none).isNone then s
    else if result = 0 then send (.modbus c function echo) s
    else modbusError c function (if result = 3 then 3 else 4) s
  | .bacnet => send (.bacnet 15 (if result = 0 then 0 else if result = 3 then 37 else 40) []) s

/-- Applies the points of a write in ascending order up to the first refusal, and answers it (R608); points beyond the
256 requests of the frame are left for the next (R583). -/
def writePoints (y : FieldReply) : List (Nat × Int) → State → List (Nat × Int) × State
  | [], s => ([], fieldAnswer y 0 s)
  | (a, v) :: t, s =>
    if 256 ≤ s.mgmt.taken then ((a, v) :: t, s)
    else
      let r := writePoint (replyCounter y) a v s
      if r.1 = 0 then writePoints y t r.2 else ([], fieldAnswer y r.1 r.2)

/-- Adds what waits for its arrival frame (R583). -/
def enqueue (l : List Arrival) (s : State) : State := setMgmt (fun m => { m with waiting := l ++ m.waiting }) s

/-- A write of points arrives (R583): it is judged now, or waits behind what waits already. -/
def arrivePoints (y : FieldReply) (l : List (Nat × Int)) (s : State) : State :=
  if mustWait s then setMgmt (fun m => { m with waiting := m.waiting ++ [.points y l] }) s
  else
    let r := writePoints y l s
    if r.1.isEmpty then r.2 else enqueue [.points y r.1] r.2

/-- Takes waiting arrivals in order while fewer than 256 requests have been checked in the frame (R583). -/
def takeArrivals : List Arrival → State → State
  | [], s => s
  | x :: t, s =>
    if 256 ≤ s.mgmt.taken then enqueue (x :: t) s
    else match x with
      | .request q => takeArrivals t
          (if (session s q.hdr.session).isOpen then (judge (session s q.hdr.session).role q s).2 else s)
      | .points y l =>
        let r := writePoints y l s
        if r.1.isEmpty then takeArrivals t r.2 else enqueue (.points y r.1 :: t) r.2

/-- What waited arrives in the frame that begins (R583). -/
def takeWaiting (s : State) : State :=
  takeArrivals s.mgmt.waiting (setMgmt (fun x => { x with waiting := [], taken := 0, guardDone := false }) s)

/-- A write of registers from a source (R605, R606, R608). -/
def modbusWrite (c function source a : Nat) (ws : List Nat) (answer : List Nat) (s0 : State) : State :=
  let s := modbusTouch c s0
  let refuse (code : Nat) (t : State) : State := modbusError c function code (noteWrite 1 code t)
  if !(s.mgmt.fieldbus.modbusWrite && allowed s.mgmt.fieldbus source) then refuse 1 s
  else if ws.isEmpty || 123 < ws.length then refuse 3 s
  else match writtenPoints s a ws with
    | none => refuse 2 s
    | some l => arrivePoints (.modbus c function answer) l s

/-- MODBUS_WRITE_SINGLE (R608): the answer echoes address and value. -/
def execModbusWriteSingle (conn source address value : Nat) (s : State) : Host.Outcome State Fault Refusal :=
  .next (if modbusServed s conn then modbusWrite conn 6 source address [value] [address, value] s else s)

/-- MODBUS_WRITE_MULTIPLE (R608): the answer echoes address and quantity. -/
def execModbusWriteMultiple (conn source address : Nat) (values : List Nat) (s : State) :
    Host.Outcome State Fault Refusal :=
  .next (if modbusServed s conn then modbusWrite conn 16 source address values [address, values.length] s else s)

/-- MODBUS_CONNECTION_OPEN (R606): a fifth connection is reset. -/
def execModbusConnectionOpen (s : State) : Host.Outcome State Fault Refusal :=
  .next (if coreRuns s && s.mgmt.fieldbus.modbusEn then
      match s.mgmt.modbus.findIdx? (·.isNone) with
      | some c => modbusTouch c s
      | none => send (.tcpReset true) s
    else s)

/-- MODBUS_CONNECTION_IDLE (R606): 30 s without a message. -/
def execModbusConnectionIdle (conn : Nat) (s : State) : Host.Outcome State Fault Refusal :=
  .next (match s.mgmt.modbus.getD conn none with
    | some t =>
      if t + 30000000000 ≤ rowNs s then setMgmt (fun m => { m with modbus := upd m.modbus conn (fun _ => none) }) s else s
    | none => s)

/-! BACnet/IP (R609, R610). -/

def bacnetServed (s : State) : Bool := coreRuns s && s.mgmt.fieldbus.bacnetEn

/-- The point of a BACnet object: 13 Multi-state Input, 19 Multi-state Value, 3 Binary Input, 5 Binary Value, 0 Analog
Input, 2 Analog Value. -/
def bacPoint (s : State) (kind inst : Nat) : Option Point :=
  let pick (k : PointKind) (p : Option Point) : Option Point := p.filter fun x => x.kind = k
  let flag (b : Bool) : Point := { addr := inst, reg := b2n b, kind := .binary, num := b2n b }
  match kind with
  | 13 => pick .multi (inputPoint s inst)
  | 0 => pick .analog (inputPoint s inst)
  | 3 =>
    if inst < 8 then some (flag ((rowFlags s).getD inst false))
    else if 100 ≤ inst && inst < 124 then some (flag (decide ((leakLoop s (inst - 100)).iso ≠ .isOpen))) else none
  | 19 => pick .multi (holdingPoint s inst)
  | 5 => pick .binary (holdingPoint s inst)
  | 2 => pick .analog (holdingPoint s inst)
  | _ => none

/-- The present-value: a real as its binary32 encoding, any other as its number. -/
def presentValue (p : Point) : Int :=
  if p.kind = .analog then ((f32OfRatio p.num p.den).toNat : Int) else p.num

/-- "EH6400-" followed by the serial number (R609). -/
def deviceName : List Int :=
  ("EH6400-".toList.map fun c => (c.toNat : Int)) ++ (leBytes 16 Config.serial).map Int.ofNat

/-- A property read: an error code or 0, and the value. Properties: 85 present-value, 103 reliability (1 NO_SENSOR), 77
object-name. Errors: 31 unknown-object, 32 unknown-property. -/
def bacRead (s : State) (x : BacProp) : Nat × List Int :=
  if x.kind = 8 then
    if x.inst ≠ s.mgmt.fieldbus.device then (31, [])
    else if x.prop = 77 then (0, deviceName) else (32, [])
  else match bacPoint s x.kind x.inst with
    | none => (31, [])
    | some p =>
      if x.prop = 85 then (0, [presentValue p])
      else if x.prop = 103 then (0, [(b2n p.missing : Int)]) else (32, [])

/-- READ_PROPERTY (R609): service 12. -/
def execReadProperty (item : BacProp) (s : State) : Host.Outcome State Fault Refusal :=
  let r := bacRead (latched s) item
  .next (if bacnetServed s then send (.bacnet 12 r.1 r.2) s else s)

/-- READ_PROPERTY_MULTIPLE (R609): service 14; each result is its error, its length and its values. -/
def execReadPropertyMultiple (items : List BacProp) (s : State) : Host.Outcome State Fault Refusal :=
  let r := (items.map (bacRead (latched s))).flatMap fun r => (r.1 : Int) :: (r.2.length : Int) :: r.2
  .next (if bacnetServed s then send (.bacnet 14 0 r) s else s)

/-- A finite binary32 value times `k`: numerator and denominator. -/
def realTimes (x : F32) (k : Nat) : Option (Int × Nat) := match f32View x with
  | .fin neg m e =>
    let n : Int := if neg then -((m * k : Nat) : Int) else ((m * k : Nat) : Int)
    if 0 ≤ e then some (n * 2 ^ e.toNat, 1) else some (n, 2 ^ (-e).toNat)
  | _ => none

/-- The counts that a WriteProperty asks for (R610): a limit rounds down, a target to nearest with ties away from zero;
`none` stands for a value out of range, an inner `none` for a value of another type. -/
def bacCounts (s : State) (a kind : Nat) (v : BacValue) : Option (Option Int) := match v with
  | .nat n =>
    if kind = 19 then some (some ((n : Int) - 1)) else if kind = 5 then some (some (n : Int)) else some none
  | .real x =>
    if kind = 2 then
      if a < 1000 then (realTimes x 16000).map fun r => some (r.1 / (r.2 : Int))
      else (realTimes x (inputDen s ((a - 1000) / 2))).map fun r => some (roundDiv r.1 r.2)
    else some none
  | .null => some none

/-- A WriteProperty: error 31 unknown-object, 37 value-out-of-range, 40 write-access-denied, or the write of its point
(R610). -/
def bacWrite (source : Nat) (x : BacProp) (v : BacValue) (s : State) : State :=
  let refuse (code : Nat) : State := send (.bacnet 15 code []) (noteWrite 3 code s)
  if !(s.mgmt.fieldbus.bacnetWrite && allowed s.mgmt.fieldbus source) then refuse 40
  else if x.kind = 8 then refuse (if x.inst = s.mgmt.fieldbus.device then 40 else 31)
  else match bacPoint s x.kind x.inst with
    | none => refuse 31
    | some _ =>
      if x.prop ≠ 85 || !([2, 5, 19].contains x.kind) then refuse 40
      else match bacCounts s x.inst x.kind v with
        | none => refuse 37
        | some none => refuse 40
        | some (some n) => arrivePoints .bacnet [(x.inst, n)] s

/-- WRITE_PROPERTY (R610): service 15, at any priority. -/
def execWriteProperty (source : Nat) (item : BacProp) (value : BacValue) (s : State) :
    Host.Outcome State Fault Refusal :=
  .next (if bacnetServed s then bacWrite source item value s else s)

/-- WHO_IS (R609): I-Am, with the device instance number and the longest APDU. -/
def execWhoIs (range : Option (Nat × Nat)) (s : State) : Host.Outcome State Fault Refusal :=
  let d := s.mgmt.fieldbus.device
  let inRange := match range with
    | some (lo, hi) => lo ≤ d && d ≤ hi
    | none => true
  .next (if bacnetServed s && inRange then send (.bacnet 0 0 [(d : Int), 1476]) s else s)

end Sys2Proof.Machine
end

