-- ==== Sys2Proof/Machine/Inputs.lean ====
section
/-! DEFINITION. Plant input sampling (R41, R90, R125, R131, R386, R396, R626) and the module's own cooling (R631 to
R634). -/

namespace Sys2Proof.Machine

/-! Sensors. -/

/-- The sensor is in calibration: it reads as missing until the boundary after the end (R567 activity 6, R573). -/
def inCalibration (s : State) (i : Nat) : Bool := (holding s).any fun a => a.code = 6 && a.target = i

/-- The entry of the running calibration of a sensor, if any. -/
def calibrating (s : State) (i : Nat) : Option Nat :=
  s.maint.activities.findIdx? fun a => a.state = .running && a.code = 6 && a.target = i

/-- The value that an RTD or a current loop converts to, before validity (R90, R626). -/
def convert (c : SensorCfg) (i : Nat) (r : Readings) : Option Int :=
  if c.kind = 1 then (r.rtd.getD i none).map fun t => satQuantity c.quantity (t + c.scaleLow)
  else if c.kind = 2 then
    match r.loops[i - 48]? with
    | some ua => if 3600 ≤ ua && ua ≤ 21000 then some (satQuantity c.quantity (loopValue c ua)) else none
    | none => none
  else none

/-- One RTD or current-loop sensor. A sensor in calibration reads as missing, its raw value stands in DETAIL. -/
def sampleSensor (r : Readings) (s : State) (i : Nat) : State :=
  let c := sensorCfg s i
  let v := if afeValid s c.afe (if c.kind = 1 then 2 else 3) then convert c i r else none
  let put := fun (x : Sensor) => match v with
    | some y => { value := y, valid := !(inCalibration s i), frame := s.seq.frame }
    | none => { x with valid := false }
  let s1 := { s with plant := { s.plant with sensors := upd s.plant.sensors i put } }
  match calibrating s i, v with
  | some k, some y => updActivity k (fun a => { a with detail := leBytes 4 (toBits 32 y) }) s1
  | _, _ => s1

def sampleSensors (r : Readings) (s : State) : State :=
  ((List.range 80).filter fun i => (sensorCfg s i).kind = 1 || (sensorCfg s i).kind = 2).foldl (sampleSensor r) s

/-- The pump fault inputs (R381, R396). No event code is given for one that is asserted outside plant control (DEDUCED, log
entry 203). -/
def sampleFaults (r : Readings) (s : State) : State :=
  (List.range 4).foldl (fun t p =>
    let on := domainOn t (111 + p) && r.flt.getD p false
    updPump p (fun x => { x with faultIn := on
                                 faultSince := if on then some (x.faultSince.getD t.seq.frame) else none }) t) s

/-- Speed from a tachometer (R386), in the field's 16 bits. -/
def tachRpm (pulses : Nat) (period : Option Nat) : Nat := match period with
  | some p => if p = 0 || pulses = 0 then 0 else min 65535 (roundDiv 2400000000 (pulses * p)).toNat
  | none => 0

def sampleFans (r : Readings) (s : State) : State :=
  (List.range 24).foldl (fun t f =>
    if fanPresent t f && domainOn t (115 + f / 8) then
      updFan f (fun x => { x with rpm := tachRpm (t.img.fans.getD f {}).pulses (r.tach.getD f none) }) t
    else t) s

/-! Cooling. -/

/-- Inlet limit in force, 1/64 C (R631). -/
def inletLimit (s : State) : Int := if s.thermal.fans.any (·.failed) then 2880 else 3520

/-- 30 % at `lo`, rising linearly to 100 % at `hi` (R632), in 0.01 %. -/
def fanDemand (draw : Nat) (lo hi : Int) (t : Option Int) : Nat := match t with
  | some x => (clampI 3000 10000 (3000 + roundDiv ((x - lo) * 7000) (hi - lo).toNat)).toNat
  | none => max 3000 (min 10000 (Config.missingFanDemand draw))

/-- The internal fans' command (R632): the other fan of a failed one runs at 100 %. -/
def fanCommand (s : State) : Nat :=
  if s.thermal.fans.countP (·.failed) = 1 then 10000
  else max (fanDemand s.free 1600 2880 s.thermal.inlet) (fanDemand (s.free + 1) 5120 6080 s.thermal.engineJunction)

/-- Since when a condition has held. -/
def sinceWhen (now : Nat) (on : Bool) (f : Option Nat) : Option Nat := if on then some (f.getD now) else none

def sampleInFan (now : Nat) (r : Readings) (i : Nat) (x : InFan) : InFan :=
  let y := r.inFans.getD i {}
  let trying := x.retrying && now ≤ x.lastRetry + 100000
  { x with rpm := min 65535 y.rpm, retrying := trying
           lowSince := sinceWhen now y.low x.lowSince
           goodSince := sinceWhen now (y.atSpeed && (!x.failed || trying)) x.goodSince }

/-- Temperatures, fans and supplies of the module (R631, R632). -/
def sampleCooling (r0 : Readings) (s : State) : State :=
  let r := { r0 with inlet := r0.inlet.map satTemp, exhaust := r0.exhaust.map satTemp
                     engineJunction := r0.engineJunction.map satTemp }
  let n := s.seq.frame
  let t := s.thermal
  let above := match r.inlet with
    | some x => decide (inletLimit s < x)
    | none => false
  let below := match r.inlet with
    | some x => decide (x + 64 ≤ inletLimit s)
    | none => false
  let volts := fun (k : Nat) (x : Rail) => { x with voltageMv := r.railMv.getD k x.voltageMv }
  let t1 : Thermal := { t with
    inlet := r.inlet, exhaust := r.exhaust, engineJunction := r.engineJunction
    fans := t.fans.mapIdx (sampleInFan n r)
    overSince := sinceWhen n above t.overSince, underSince := sinceWhen n below t.underSince }
  let s1 := { s with
    thermal := t1
    pow := { s.pow with rails := s.pow.rails.mapIdx volts, mainMv := r.mainMv, act24Mv := r.act24Mv } }
  { s1 with thermal := { s1.thermal with fanCmd := fanCommand s1 }, free := s1.free + 2 }

/-- Plant input sampling and conversion of one frame. -/
def samplePlant (r : Readings) (s : State) : State :=
  let s1 := sampleValves r.valves (sampleFans r (sampleFaults r (sampleSensors r s)))
  let s2 := sampleCooling r (sampleLeak r.leak s1)
  { s2 with
    plant := { s2.plant with aoMv := (List.range 8).map fun i => r.aoMv.getD i 0 }
    pow := { s2.pow with sampledFrames := s2.pow.sampledFrames + 1 } }

/-- A frame without samples breaks the run of R131. -/
def sampleLost (s : State) : State := { s with pow := { s.pow with sampledFrames := 0 } }

/-! Rows. -/

def thermalCounter (f : Thermal → Thermal) (s : State) : State := { s with thermal := f s.thermal }

/-- INLET_OVER (R631). -/
def execInletOver (s : State) : Host.Outcome State Fault Refusal :=
  .next (match s.thermal.overSince with
    | some f =>
      if !s.thermal.inletOver && f + 600000 ≤ s.seq.frame then
        post 0x0030 (thermalCounter (fun t => { t with inletOver := true, overRuns := cnt t.overRuns }) s)
      else s
    | none => s)

/-- INLET_OVER_CLEAR (R631). -/
def execInletOverClear (s : State) : Host.Outcome State Fault Refusal :=
  .next (match s.thermal.underSince with
    | some f =>
      if s.thermal.inletOver && f + 600000 ≤ s.seq.frame then
        post 0x0031 (thermalCounter (fun t => { t with inletOver := false }) s)
      else s
    | none => s)

def inFan (s : State) (i : Nat) : InFan := s.thermal.fans.getD i {}
def updInFan (i : Nat) (f : InFan → InFan) (s : State) : State :=
  thermalCounter (fun t => { t with fans := upd t.fans i f }) s

/-- INTERNAL_FAN_FAILED (R632): below half of the speed its command calls for over 5 s. -/
def execInternalFanFailed (fan : Nat) (s : State) : Host.Outcome State Fault Refusal :=
  .next (match (inFan s fan).lowSince with
    | some f =>
      if fan < 2 && !(inFan s fan).failed && f + 50000 < s.seq.frame then
        let s1 := post 0x0032 (thermalCounter (fun t => { t with fanFailures := cnt t.fanFailures })
          (updInFan fan (fun x => { x with failed := true, retrying := false, lastRetry := s.seq.frame, goodSince := none })
            s)) fan
        if bothFansFailed s1 then post 0x0034 s1 else s1
      else s
    | none => s)

/-- INTERNAL_FAN_RETRY (R632): once every 60 s. -/
def execInternalFanRetry (fan : Nat) (s : State) : Host.Outcome State Fault Refusal :=
  let x := inFan s fan
  .next (if fan < 2 && x.failed && !x.retrying && x.lastRetry + 600000 ≤ s.seq.frame then
      thermalCounter (fun t => { t with fanRetries := cnt t.fanRetries })
        (updInFan fan (fun y => { y with retrying := true, lastRetry := s.seq.frame, goodSince := none }) s)
    else s)

/-- INTERNAL_FAN_RESTORED (R632): 10 s at the speed its command calls for. -/
def execInternalFanRestored (fan : Nat) (s : State) : Host.Outcome State Fault Refusal :=
  .next (match (inFan s fan).goodSince with
    | some f =>
      if fan < 2 && (inFan s fan).failed && f + 100000 ≤ s.seq.frame then
        post 0x0033 (updInFan fan (fun x => { x with failed := false, retrying := false, lowSince := none }) s) fan
      else s
    | none => s)

end Sys2Proof.Machine
end

