-- ==== Sys2Proof/Machine/Startup.lean ====
section
/-! DEFINITION. The ten steps of start-up, the key and its copies, the rails and the resets (R75 to R79, R105 to R144,
R545, R549). -/

namespace Sys2Proof.Machine

def setPow (f : Power → Power) (s : State) : State := { s with pow := f s.pow }

/-! What a reset keeps (R139, R140). -/

/-- The stores that keep their content without power: fuses, boot flash and MRAM; what the model records of the outside
world goes on. Schedule history records keep their ages. -/
def keepMram (s : State) : State :=
  let aged := fun (h : SchedHist) => { h with rowNs := h.rowNs - rowNs s }
  let tenant := fun (x : TenantSt) => ({ state := x.state, gen := x.gen, record := x.record } : TenantSt)
  let site := fun (x : SitePages) => ({ tenant := x.tenant, tgen := x.tgen } : SitePages)
  let valve := fun (x : SprayValve) => ({ account := x.account } : SprayValve)
  let loop := fun (x : LoopLeak) => ({ iso := x.iso, cause := x.cause } : LoopLeak)
  let nonce := fun (x : TenantSec) => ({ lastNonce := x.lastNonce } : TenantSec)
  { State.reset with
    free := s.free, sent := s.sent, pending := s.pending
    sched := { State.reset.sched with history := s.sched.history.map aged }
    log := { State.reset.log with ring := s.log.ring, boot := s.log.boot, nextSeq := s.log.nextSeq }
    heat := { State.reset.heat with tenants := s.heat.tenants.map tenant, sites := s.heat.sites.map site }
    pump := { State.reset.pump with spray := s.pump.spray.map valve, today := s.pump.today, total := s.pump.total
                                    day := s.pump.day, dayStored := s.pump.dayStored }
    leak := { State.reset.leak with loops := s.leak.loops.map loop }
    pair := { State.reset.pair with term := s.pair.term }
    sec := { State.reset.sec with fuses := s.sec.fuses, zeroised := s.sec.zeroised, slot1 := s.sec.slot1
                                  enrolLow := s.sec.enrolLow, tenants := s.sec.tenants.map nonce }
    mgmt := { State.reset.mgmt with fieldbus := s.mgmt.fieldbus } }

/-- A warm reset keeps always-on SRAM as well: last words, the reset kind and history, crystal tries, graph demotion
state and DISTRUSTED (R252), and the banks that are FAILED (R421, log entry 188). The 24 V monitor stands outside the reset. -/
def keepWarm (kind : Nat) (s : State) : State :=
  let t := keepMram s
  let now : Int := rowNs s
  let bank := fun (b : ValveBank) => if b.state = .failed then ({ state := .failed, switchFailed := b.switchFailed } : ValveBank) else {}
  let demotion := fun (x : GraphSt) =>
    ({ level := x.level, disabled := x.disabled, demotedFrame := x.demotedFrame } : GraphSt)
  { t with
    log := { t.log with lastWords := s.log.lastWords }
    valve := { t.valve with banks := s.valve.banks.map bank }
    pow := { t.pow with resetKind := kind, xtalTries := s.pow.xtalTries, act24 := s.pow.act24
                        act24Absent := s.pow.act24Absent
                        warmHistory := 0 :: s.pow.warmHistory.map (· - now) }
    eng := { t.eng with graphs := s.eng.graphs.map demotion, keepDigest := s.eng.keepDigest, distrusted := s.eng.distrusted } }

/-! Steps. -/

/-- Step k has ended; its time counts in row time from the boot ROM on (R55, R116). -/
def stepTime (f : StartFacts) (k : Nat) (s : State) : State :=
  let ms := f.stepMs.getD (k - 1) 0
  { s with
    pow := { s.pow with stepMs := s.pow.stepMs.set (k - 1) ms }
    seq := { s.seq with rowT := if 4 ≤ k then s.seq.rowT + ms * 10000000000 else s.seq.rowT } }

/-- Step k has completed (R116). -/
def stepDone (f : StartFacts) (k : Nat) (s : State) : State :=
  setPow (fun p => { p with lastStep := k }) (stepTime f k s)

/-- The core does not run (R119, R130, R137): the dead-man stays engaged and nothing is driven or claimed. -/
def coreStops (s : State) : State :=
  setPow (fun p => { p with state := .dead, ready := false, deadMan := true, bypassClosed := true, waiting := none })
    (releaseBackup (loseRole s))

/-- A rail of a group is enabled and reports (R118, R119): step 2 ends in failure when it is not ready in 50 ms. -/
def railReport (f : StartFacts) (k : Nat) (s : State) : State :=
  let r := s.pow.rails.getD k {}
  let put (g : Rail → Rail) (t : State) : State := setPow (fun p => { p with rails := upd p.rails k g }) t
  if r.state ≠ .off then s
  else match f.rails.getD k (some none) with
    | none => put (fun x => { x with enabled := true }) s
    | some (some t) => put (fun x => { x with enabled := true, state := .ready, readyUs := t }) s
    | some none =>
    post 0x2020 (railDomainsOff k (setPow (fun p => { p with failStep := 2 })
      (put (fun x => { x with enabled := true, state := .failed }) s))) k

/-- Step 2: the groups in turn. The answer is false while a rail has not reported, or when the core cannot run. -/
def railGroups (f : StartFacts) : List (List Nat) → State → Bool × State
  | [], s => (true, s)
  | g :: rest, s =>
    let s1 := g.foldl (fun t k => railReport f k t) s
    if g.any fun k => (s1.pow.rails.getD k {}).state = .off then (false, setPow (fun p => { p with waiting := some f }) s1)
    else if (g.contains 1 || g.contains 2) && g.any fun k => (s1.pow.rails.getD k {}).state = .failed then
      (false, lastWord 0x2020 (coreStops s1))
    else railGroups f rest s1

/-- The groups that a start-up enables: in LIMP the rails of the core alone. -/
def groupsFor (s : State) : List (List Nat) := if s.pow.state = .limp then [[1, 2]] else [[1, 2], [3, 4, 5], [6, 7]]

/-- Step 3: a failed check clears the retained state; the straps are sampled (R114, R620). -/
def alwaysOnStep (f : StartFacts) (s : State) : State :=
  let s1 := if f.alwaysOnOk then s
    else { s with
      log := { s.log with lastWords := [] }
      pow := { s.pow with resetKind := 0, xtalTries := 0, warmHistory := [] }
      eng := { s.eng with graphs := State.reset.eng.graphs, keepDigest := 0 } }
  stepDone f 3 (setPow (fun p => { p with
    speedStrap := bits f.straps 2 0, slotStrap := bits f.straps 4 3, waiting := none }) s1)

/-- The Ethernet ports alone are powered while no image selects domains (R116, R121, R545). -/
def managementDomains (s : State) : State :=
  let on (d : Nat) (t : State) : State := powerDomain d (setDomain d (fun x => { x with selected := true }) t)
  on 119 (on 118 s)

/-- A start in RETURN: what a release has left undone is completed first (R545, R549). -/
def startReturn (f : StartFacts) (s : State) : State :=
  let s1 := if s.sec.zeroised then enterReturn s else zeroise s
  managementDomains (openLog f.ringOk s1)

/-! The key and its copies (R75 to R78, R105 to R107). -/

/-- The device meets every condition of R75: JESD216D is SFDP revision 1.8. -/
def keyUsable (d : KeyDevice) : Bool :=
  decide (128 ≤ d.densityMiB) && d.fourByte && d.ioMv = 1800 && d.sfdpMajor = 1 && decide (8 ≤ d.sfdpMinor) && d.bfpt &&
  d.xspiProfile && d.octalRead

/-- Step 5 (R77). -/
def keyCheck (f : StartFacts) (s : State) : State :=
  let base : Key := { lastRetry := s.key.lastRetry, frontPresent := f.front.present }
  let take (src : Nat) (d : KeyDevice) : Key :=
    { base with source := src, copyA := d.copyA, copyB := d.copyB, factsA := d.factsA, factsB := d.factsB
                statusA := if keyUsable d then {} else { reason := 16 }
                statusB := if keyUsable d then {} else { reason := 16 } }
  let s1 := stepDone f 5 s
  if f.backplane.present then
    let s2 := { s1 with key := take 1 f.backplane }
    let s3 := if f.front.present then post 0x3004 s2 else s2
    if keyUsable f.backplane then s3 else post 0x3005 s3
  else if f.front.present then { s1 with key := take 2 f.front }
  else { s1 with key := base }

/-- A copy is selected: its configuration is loaded (R112). The event carries SIGNING_KEY_ID (R81; DESIGN CHOICE, log
entry 176). -/
def selectCopy (c : Copy) (other : Nat) (r : CopyCheck) (s : State) : State :=
  let k := setStatus c (statusOf r) s.key
  post 0x3001 { s with
    key := { k with selected := some c, otherState := other, digest := (copyFacts k c).digest }
    img := r.image.getD {} } (if c = .a then 0 else 1) 0xFFFF (leBytes 4 (signingKeyId (copyBytes s.key c)))

/-- Header fields of the copy not yet checked (R106, R110); a header that fails its check shows none (DESIGN CHOICE, log
entry 174). -/
def headerStatus (k : Key) (c : Copy) : CopyStatus :=
  let h := parseHeader (copyBytes k c)
  if copyHeaderOk k c then { seq := h.imageSeq, level := h.level } else {}

/-- The copy that is checked first (R106). -/
def firstCopy (k : Key) : Copy :=
  let a := copyHeaderOk k .a
  let b := copyHeaderOk k .b
  if a && b then
    if (parseHeader k.copyA).imageSeq < (parseHeader k.copyB).imageSeq then .b else .a
  else if b then .b else .a

/-- The second copy is checked before READY. -/
def trySecond (c : Copy) (s : State) : State :=
  let r := verifyCopy c s
  if r.reason = 0 then selectCopy c 2 r s else copyFails c (statusOf r) { s with key := { s.key with selected := none } }

/-- Step 6 (R106). -/
def verifyImages (s : State) : State :=
  if s.key.source = 0 || s.key.statusA.reason = 16 then s
  else
    let c := firstCopy s.key
    let r := verifyCopy c s
    if r.reason = 0 then
      selectCopy c 0 r { s with key := setStatus (otherCopy c) (headerStatus s.key (otherCopy c)) s.key }
    else trySecond (otherCopy c) (copyFails c (statusOf r) s)

/-- Step 6 with its time: it completes when a copy is selected (R114, R116). -/
def verifyStep (f : StartFacts) (s : State) : State :=
  let s1 := verifyImages s
  if s1.key.selected.isSome then stepDone f 6 s1 else stepTime f 6 s1

/-- The selected copy has failed with reason 16 (R128), and R106 goes on with the other. -/
def copyUnread (c : Copy) (s : State) : State :=
  let s1 := copyFails c { copyStatus s.key c with reason := 16 } { s with key := { s.key with selected := none } }
  if (copyStatus s1.key (otherCopy c)).reason = 0 then trySecond (otherCopy c) s1 else s1

/-- NO_IMAGE (R106, R137). -/
def noImage (s : State) : State :=
  managementDomains (post 0x3003 { s with
    pow := { s.pow with state := .noImage, failStep := 6, noClaimFrames := 0 }
    key := { s.key with lastRetry := rowNs s, otherState := 0 }
    img := {} })

/-! Steps 7 to 10. -/

/-- Step 8: bank groups and LPDDR5X (R127). The SRAM item is skipped without VENG. -/
def memoryStep (f : StartFacts) (s : State) : State :=
  let bad (g : Nat) : Bool := railReady s 3 && f.bankGroupFail.getD g false
  let s1 := setPow (fun p => { p with bankGroupFail := (List.range 16).map bad }) s
  let s2 := (List.range 16).foldl (fun t g =>
    if bad g then post 0x2040 (setDomain (64 + g) (fun x => { x with state := .failed, failReason := 6 }) t) g
    else t) s1
  if !(railReady s 5) then s2
  else if f.ddrFailures = 0 then setPow (fun p => { p with ddrOk := true }) s2
  else if f.ddrFailures = 1 then post 0x2041 (setPow (fun p => { p with ddrOk := true, ddrReduced := true }) s2)
  else post 0x2042 (post 0x2041 (setDomain 121 (fun x => { x with state := .failed, failReason := 6 }) s2))

/-- The graphs are loaded, each one that is not with event 0x2044 (R127, R129, R141). -/
def graphStep (s : State) : State :=
  let keep := if s.eng.keepDigest = s.key.digest then s.eng.graphs else []
  let s1 := loadGraphs keep s
  let missing (g : Nat) : Bool := (graphCfg s1 g).present && !(graphSt s1 g).loaded
  let s2 := { s1 with
    pow := { s1.pow with graphNotLoaded := (List.range 8).map missing }
    eng := { s1.eng with keepDigest := s1.key.digest, clock := if domainOn s1 84 then 1 else 0 } }
  (List.range 8).foldl (fun t g => if missing g then post 0x2044 t g else t) s2

/-- Step 9 for the ports: training begins in every powered port and the pair port (R374). -/
def portStep (s : State) : State :=
  let s1 := portDomains s
  let train := fun (t : State) (p : Nat) => if domainOn t (if p < 64 then p else 120) then enterTraining p t else t
  (List.range 12).foldl channelUpdate ((List.range 65).foldl train s1)

/-- What the image gives the blocks at their start. -/
def loadConfiguration (s : State) : State :=
  let s1 := { s with
    wall := { s.wall with activePort := s.img.topology.ptpPort }
    heat := { s.heat with
      rackLimit := s.img.limits.rackCap, rowLimit := s.img.limits.rowCap
      loops := s.heat.loops.mapIdx fun l x => { x with isolated := decide ((leakLoop s l).iso ≠ .isOpen) } } }
  startLeak (startTenants (initEstimator (initElements (initLoops (initPlan (initCan s1))))))

/-- DETAIL of event 0x0001 (R558). -/
def readyDetail (s : State) : List Nat :=
  [3, s.pow.fw.minor] ++ leBytes 2 s.pow.fw.patch ++ [0x43, 2, 1, 0] ++ leBytes 16 s.key.digest

/-- Step 10 (R130, R131, R133, R137): READY, and ARMING or HELD. -/
def readyStep (f : StartFacts) (s0 : State) : State :=
  let s := stepDone f 10 s0
  let storm := decide (6 ≤ warmResets s)
  let held := storm || !(railReady s 6)
  let s1 := { s with
    pow := { s.pow with
      ready := true, state := if held then .held else .arming
      readyMs := min 65535 ((s.pow.stepMs.take 3).sum + rowNs s / 1000000)
      deadMan := false, heartbeat := !s.pow.heartbeat, lastHeartbeat := rowNs s
      bypassClosed := false, ownContactClosed := true
      vanaSince := if held && railReady s 6 then some 0 else none }
    key := { s.key with otherChecking := s.key.otherState = 0 } }
  let s2 := post 0x0001 (post 0x2002 s1) 0xFFFF 0xFFFF (readyDetail s1)
  let s3 := if storm then post 0x2052 s2 else s2
  (List.range 65).foldl (fun t p => startAttest p t)
    s3

/-- A graph that step 8 loads (R127, R129): none of its bank groups failed its memory check, and the engine is powered. -/
def graphLoads (s : State) (g : Nat) : Bool :=
  (graphCfg s g).present && railReady s 3 && (graphBanks (graphCfg s g)).all fun b => !(s.pow.bankGroupFail.getD b false)

/-- A loaded graph places data in bank group k (R121). -/
def bankGroupUsed (s : State) (k : Nat) : Bool :=
  (List.range 8).any fun g => graphLoads s g && (graphBanks (graphCfg s g)).contains k

/-- A domain that the image selects and that its rail can power (R121, R122). -/
def willPower (s : State) (d : Nat) : Bool := domainSelected s.img (bankGroupUsed s) d && railReady s (domainRail d)

/-- The rest of step 8, and steps 9 and 10 (R127 to R131). -/
def finishStart (f : StartFacts) (m : State) : State :=
  let s9 := calibrationDomains (powerDomains (bankGroupUsed m) m)
  readyStep f (stepDone f 9 (portStep (loadConfiguration (openLog f.ringOk (graphStep s9)))))

/-- Steps 7 on, with the image that step 6 selected. A graph load whose payload hash differs restarts at step 5, up to
three times in one start-up; after that the copy has failed (R128). `n` is the number of loads that differ. -/
def fromImage (f : StartFacts) : Nat → State → State
  | n, s =>
    match s.key.selected with
    | none => noImage s
    | some c =>
      let m := stepDone f 8 (memoryStep f (stepDone f 7 (calibrate (willPower s) f
        { s with pow := { s.pow with state := .powerUp } })))
      match n with
      | 0 => finishStart f m
      | k + 1 =>
        if (List.range 8).any (graphLoads m) then
          let s1 := post 0x2043 m
          if s1.pow.hashRestarts < 3 then
            fromImage f k (verifyStep f (keyCheck f (setPow (fun p => { p with hashRestarts := p.hashRestarts + 1 }) s1)))
          else fromImage f k (copyUnread c s1)
        else finishStart f m

/-- Steps 5 and 6, and what follows from them. -/
def keyToReady (f : StartFacts) (s : State) : State := fromImage f f.hashMismatches (verifyStep f (keyCheck f s))

/-- A firmware copy that the boot ROM accepts: it verifies, and its release is one of 3.0 to 3.9 (R1, R115). -/
def fwAccepted (c : FwCopy) : Bool := c.verifies && c.major = 3 && decide (c.minor ≤ 9)

def fwNewer (a b : FwCopy) : Bool := decide (b.minor < a.minor) || (a.minor = b.minor && decide (b.patch < a.patch))

/-- The newer copy that verifies (R115). -/
def firmwareChoice (f : StartFacts) : Option FwCopy :=
  (f.firmware.filter fwAccepted).foldl (fun m c => match m with
    | none => some c
    | some d => if fwNewer c d then some c else some d) none

/-- No firmware copy verifies (R569): the security block powers the pair port and stands in exchange receive. A failed
test of the security block leaves it no means to check one (DEDUCED, log entry 200). -/
def exchangeReceive (f : StartFacts) (s : State) : State :=
  if f.romOk then setPow (fun p => { p with exchangeReceive := true }) (setDomain 120 (fun x => { x with state := .on }) s) else s

/-- Step 4 (R115, R528, R530) and what follows: the core runs from here. A 24 V supply that was absent before is logged
(R120). -/
def bootRom (f : StartFacts) (s : State) : State :=
  if !f.fuseOk then lastWord (Config.lastWordCode 1) (coreStops (setPow (fun p => { p with failStep := 4 }) s))
  else match (if f.romOk then firmwareChoice f else none) with
  | none => lastWord 0x2051 (exchangeReceive f (coreStops (setPow (fun p => { p with failStep := 4 }) s)))
  | some fw =>
    let s0 := setSec (fun c => { c with drbgOk := true }) (stepDone f 4 (setPow (fun p => { p with fw := fw }) s))
    let s1 := if s0.pow.act24Absent then post 0x2023 s0 else s0
    if lifeCycle s1 = .returned then startReturn f s1
    else if s1.pow.state = .limp then openLog f.ringOk s1
    else keyToReady f (newEnrolNonce s1)

/-- Step 2 on, as far as the rails have reported. -/
def fromRails (f : StartFacts) (s : State) : State :=
  let r := railGroups f (groupsFor s) s
  if r.1 then bootRom f (alwaysOnStep f (if s.pow.state = .limp then r.2 else stepDone f 2 r.2)) else r.2

/-- The sequence from step 1 (R114, R137). -/
def startUp (f : StartFacts) (s : State) : State :=
  let s0 := { s with
    log := { s.log with boot := (s.log.boot + 1) % 4294967296 }
    pow := { s.pow with powerGood := true, rails := upd s.pow.rails 0 fun r => { r with state := .ready, enabled := true } } }
  let s1 := post 0x2001 s0
  if f.crystalOk then fromRails f (stepDone f 1 s1)
  else
    fromRails f (post 0x2010 { s1 with
      seq := { s1.seq with backupClock := true }
      pow := { s1.pow with state := .limp, failStep := 1, xtalTries := 0 } })

/-- POWER_GOOD_ASSERT (R113): a power-on reset ends and start-up begins. -/
def execPowerGoodAssert (facts : StartFacts) (s : State) : Host.Outcome State Fault Refusal :=
  .next (if s.pow.powerGood then s else startUp facts (keepMram s))

/-- Power is gone: what MRAM, the fuses and the last words hold remains; the last words go at the next power-on. -/
def powerOff (s : State) : State :=
  let t := keepMram s
  { t with log := { t.log with lastWords := s.log.lastWords } }

/-- POWER_GOOD_DEASSERT (R113). -/
def execPowerGoodDeassert (s : State) : Host.Outcome State Fault Refusal :=
  .next (if s.pow.powerGood then powerOff s else s)

/-- INPUT_OVERVOLTAGE (R614, R636): the input switch opens, which is a loss of the input. -/
def execInputOvervoltage (s : State) : Host.Outcome State Fault Refusal :=
  .next (if s.pow.powerGood then
      setPow (fun p => { p with inputOpen := true }) (powerOff (lastWord (Config.lastWordCode 2) s))
    else setPow (fun p => { p with inputOpen := true }) s)

/-- The module is held in reset: the core stops, so the outputs are released and the bypass closes (R24, R130, R138). -/
def enterReset (kind : Nat) (s : State) : State := setPow (fun p => { p with resetDue := some kind }) (coreStops s)

/-- RESET_N_ASSERT (R139): held low for 10 us or more. -/
def execResetNAssert (s : State) : Host.Outcome State Fault Refusal :=
  .next (if s.pow.powerGood then enterReset 1 s else s)

/-- CORE_WATCHDOG (R139): no heartbeat for 100 ms while the core should run. -/
def execCoreWatchdog (s : State) : Host.Outcome State Fault Refusal :=
  .next (if coreRuns s && s.pow.lastHeartbeat + 100000000 ≤ rowNs s then enterReset 2 s else s)

/-- WARM_RESET (R139). -/
def execWarmReset (facts : StartFacts) (s : State) : Host.Outcome State Fault Refusal :=
  .next (match s.pow.resetDue with
    | some kind => if s.pow.powerGood then startUp facts (keepWarm kind s) else s
    | none => s)

/-- RAIL_READY (R118); the return of VANA is acted on in HELD (R137). -/
def execRailReady (rail readyUs : Nat) (s : State) : Host.Outcome State Fault Refusal :=
  .next (match s.pow.waiting with
    | some f =>
      let r := s.pow.rails.getD rail {}
      if r.enabled && r.state = .off then fromRails { f with rails := f.rails.set rail (some (some readyUs)) } s else s
    | none =>
      if rail = 6 && s.pow.state = .held && s.pow.ready && !(railReady s 6) && s.pow.vanaSince.isNone then
        setPow (fun p => { p with vanaSince := some s.seq.frame }) s
      else s)

/-- RAIL_READY_TIMEOUT (R118): not ready 50 ms after its enable. -/
def execRailReadyTimeout (rail : Nat) (s : State) : Host.Outcome State Fault Refusal :=
  .next (match s.pow.waiting with
    | some f =>
      let r := s.pow.rails.getD rail {}
      if r.enabled && r.state = .off then fromRails { f with rails := f.rails.set rail (some none) } s else s
    | none => s)

/-! Rails lost in operation (R119). -/

/-- No graph runs without the engine. -/
def engineOff (s : State) : State :=
  (List.range 8).foldl (fun t g => if (graphSt t g).loaded then unloadGraph g t else t)
    { s with eng := { s.eng with clock := 0 } }

/-- HELD (R137): the claim is withheld and nothing is driven. -/
def enterHeldState (s : State) : State := setPow (fun p => { p with state := .held, vanaSince := none }) (loseRole s)

/-- Reloads that LPDDR5X no longer serves end with their bank groups failed (R247). -/
def reloadsFail (s : State) : State := s.eng.reload.foldl (fun t b => if t.eng.reload.contains b then failBank b t else t) s

/-- The consequences of R119 for a rail that is lost. -/
def railConsequences (k : Nat) (s : State) : State :=
  let s1 := railDomainsOff k s
  match k with
  | 3 => engineOff s1
  | 4 => portDomains s1
  | 5 => reloadsFail (probesLost (loseReserve (setPow (fun p => { p with ddrOk := false, upperFill := false }) s1)))
  | 6 =>
    if [StartState.arming, .standby, .control].contains s1.pow.state then enterHeldState s1
    else setPow (fun p => { p with vanaSince := none }) (banksRefresh s1)
  | 7 => linkDown 1 (linkDown 0 s1)
  | _ => s1

/-- RAIL_LOST (R119). VANA that came back in HELD and drops again is not ready any more (R137). -/
def execRailLost (rail : Nat) (s : State) : Host.Outcome State Fault Refusal :=
  let mark := setPow (fun p => { p with rails := upd p.rails rail fun r =>
    { r with state := .lost, lossCount := satAdd 16 r.lossCount 1 } }) s
  .next (if rail = 6 && s.pow.state = .held && !(railReady s 6) then setPow (fun p => { p with vanaSince := none }) s
    else if !(s.pow.powerGood && railReady s rail) then s
    else if rail < 3 then lastWord 0x2021 (railDomainsOff rail (coreStops mark))
    else railConsequences rail (post 0x2021 mark rail))

/-- SOC_THERMAL_TRIP (R633): VCORE is disabled, so the core stops. -/
def execSocThermalTrip (s : State) : Host.Outcome State Fault Refusal :=
  .next (if s.pow.powerGood && railReady s 2 then
      lastWord 0x0035 (railDomainsOff 2 <| coreStops (setPow (fun p => { p with rails := upd p.rails 2 fun r =>
        { r with state := .lost, lossCount := satAdd 16 r.lossCount 1 } }) s))
    else s)

/-- DEAD_MAN_ENGAGE (R130): the heartbeat has not toggled for 1 ms. -/
def execDeadManEngage (s : State) : Host.Outcome State Fault Refusal :=
  .next (if s.pow.powerGood && !s.pow.deadMan && s.pow.lastHeartbeat + 1000000 ≤ rowNs s then
      lastWord (Config.lastWordCode 0) (setPow (fun p => { p with deadMan := true, bypassClosed := true }) (loseRole s))
    else s)

/-- CRYSTAL_FAILURE (R54, R130, R136, R137): the sequencer moves to the RC oscillator, the module enters LIMP without
links, CAN or Ethernet, its dead-man engaged and its tries of the crystal before it. -/
def execCrystalFailure (s : State) : Host.Outcome State Fault Refusal :=
  let off := fun (t : State) (d : Nat) =>
    if domainOn t d && (d < 64 || (85 ≤ d && d < 97) || (118 ≤ d && d ≤ 120)) then
      setDomain d (fun x => { x with state := .off }) t
    else t
  .next (if s.pow.ready && !s.seq.backupClock then
      let s1 := linkDown 1 (linkDown 0 (loseRole s))
      let s2 := (List.range 65).foldl (fun t p => setPortState p .off (endSession p (sitesDown p t))) s1
      let s3 := (List.range 126).foldl off { s2 with
        seq := { s2.seq with backupClock := true }
        pow := { s2.pow with state := .limp, lastTry := rowNs s, noClaimFrames := 0, xtalTries := 0
                             deadMan := true, bypassClosed := true } }
      post 0x1041 ((List.range 12).foldl channelUpdate s3)
    else s)

/-! The actuator supply and domains. -/

/-- ACT24_ABSENT (R120): every valve channel is de-energised. A supply that was never present is judged absent once. -/
def execAct24Absent (s : State) : Host.Outcome State Fault Refusal :=
  .next (if s.pow.powerGood && !s.pow.act24Absent then
      (let s1 := banksRefresh (setPow (fun p => { p with act24 := false, act24Absent := true }) s)
       if coreRuns s then post 0x2023 s1 else s1)
    else s)

/-- ACT24_PRESENT (R120). -/
def execAct24Present (s : State) : Host.Outcome State Fault Refusal :=
  .next (if s.pow.powerGood && !s.pow.act24 then banksRefresh (setPow (fun p => { p with act24 := true, act24Absent := false }) s)
    else s)

/-- The port whose domain d is, if any (R5). -/
def domainPort (d : Nat) : Option Nat := if d < 64 then some d else if d = 120 then some 64 else none

/-- DOMAIN_CYCLE_COMPLETE (R124, R125): the domain comes up when its rail and its parent allow it and its calibration
passes. Only port domains are cycled, and their item is the SerDes lock, `lockUs`. A cycle whose item fails is a failed
cycle, and its item is marked (DEDUCED, log entry 177). -/
def execDomainCycleComplete (domain lockUs : Nat) (s : State) : Host.Outcome State Fault Refusal :=
  let parent := match domainParent domain with
    | some p => domainOn s p
    | none => true
  let locked := match domainPort domain with
    | some _ => decide (lockUs ≤ lockLimit)
    | none => true
  .next (if (s.pow.domains.getD domain {}).state ≠ .cycling then s
    else if !(railReady s (domainRail domain) && parent) then portDomains (failCycle domain s)
    else
      let s1 := match domainPort domain with
        | some p => storeLock p lockUs s
        | none => s
      if locked then setDomain domain (fun x => { x with state := .on }) s1 else portDomains (failCycle domain s1))

/-! The key after start-up (R106 to R109). -/

/-- NO_IMAGE_KEY_RETRY (R106): every 10 s; a passing copy resumes start-up at step 7. Each read logs what it finds (DESIGN
CHOICE, log entry 175). -/
def execNoImageKeyRetry (facts : StartFacts) (s : State) : Host.Outcome State Fault Refusal :=
  .next (if s.pow.state = .noImage && s.key.lastRetry + 10000000000 ≤ rowNs s then
      (let s1 := verifyStep facts (keyCheck facts { s with key := { s.key with lastRetry := rowNs s } })
       match s1.key.selected with
       | none => s1
       | some _ =>
         fromImage facts facts.hashMismatches (releaseBackup (setPow (fun p => { p with
           failStep := if railFailed s1 then 2 else 0 }) s1)))
    else s)

/-- OTHER_COPY_CHECK (R106, R107, R110): the check of the copy not selected completes. -/
def execOtherCopyCheck (s : State) : Host.Outcome State Fault Refusal :=
  .next (match s.key.selected with
    | some c =>
      if s.pow.ready && s.key.otherChecking then
        let d := otherCopy c
        let r : CopyCheck := if s.key.lost then ⟨16, 0xFFFF, 0, 0, none⟩ else verifyCopy d s
        let k := setStatus d (statusOf r) { s.key with otherChecking := false, otherState := if r.reason = 0 then 1 else 2 }
        if r.reason = 0 then { s with key := k } else post 0x3008 { s with key := k }
      else s
    | none => s)

/-- ROLLBACK_ADVANCE (R108). -/
def execRollbackAdvance (s : State) : Host.Outcome State Fault Refusal :=
  .next (match s.key.selected, s.key.controlNormalSince with
    | some c, some f =>
      let level := (copyStatus s.key c).level
      if s.seq.frame % 100 = 0 && f + 6000000 ≤ s.seq.frame && s.sec.fuses.rollback < level then
        let s1 := post 0x3006 (setSec (fun x => { x with fuses := { x.fuses with rollback := level } }) s)
        let o := copyStatus s.key (otherCopy c)
        if o.reason = 0 && o.level < level then
          post 0x3007 { s1 with key := { setStatus (otherCopy c) { o with reason := 17 } s1.key with
            otherState := 2, otherChecking := false } }
        else s1
      else s
    | _, _ => s)

/-- KEY_LOSS (R109): the running configuration is kept, an update in progress cannot go on. -/
def execKeyLoss (s : State) : Host.Outcome State Fault Refusal :=
  .next (if s.pow.ready && s.key.source ≠ 0 && !s.key.lost then
      (let s1 := { s with key := { s.key with lost := true } }
       post 0x3009 (if s.mgmt.update.isSome then endUpdate s1 else s1))
    else s)

end Sys2Proof.Machine
end

