-- ==== Sys2Proof/Machine/StatusEngine.lean ====
section
/-! DEFINITION. The status window: engine and graphs (R253, R254, R285 to R287), control loops, probes and the trace
window (R314 to R316), Gwynlink ports (R379). -/

namespace Sys2Proof.Machine

/-- Engine summary (R253). -/
def engineFields (s : State) : Fields :=
  let e := s.eng
  parts [
    [(0, 2, e.clock)], flagsAt 2 [e.fastRefused, e.precision.isSome, e.distrusted],
    [(16, 16, tempField s.thermal.engineJunction)],
    flagsAt 32 ((List.range 16).map fun g => domainOn s (64 + g)),
    flagsAt 48 ((List.range 16).map fun g => domainFailed s (64 + g)),
    [(64, 16, e.pending.length), (80, 16, if e.clock = 0 then 0 else windowCycles s), (96, 32, satN 32 e.sliceCycles),
     (128, 32, satN 32 e.stallCycles)],
    countersAt 160 e.counters, [(480, 32, e.lastDbe)]]

/-- Breach entry (R254). -/
def breachFields (s : State) (g : Nat) : Fields :=
  let x := graphSt s g
  let c := graphCfg s g
  [(0, 2, x.level), (2, 1, b2n x.disabled), (3, 1, b2n x.poisoned), (16, 16, c.checks.length),
   (32, 32, windowChecks x.window), (64, 16, satN 16 (windowBreaches x.window)), (80, 16, c.breachLimit),
   (96, 16, s.eng.pending.countP fun p => p.slot = g), (128, 64, x.totalChecks), (192, 32, x.totalBreaches),
   (224, 32, x.voidChecks), (256, 32, x.lastBreachFrame), (288, 16, x.lastBreachElement),
   (304, 16, satS 16 x.lastBreachExcess), (320, 32, x.demotedFrame), (352, 32, x.oodEvals)]

/-- Graph entry (R285). -/
def graphFields (s : State) (g : Nat) : Fields :=
  let x := graphSt s g
  let c := graphCfg s g
  parts [
    flagsAt 0 [x.loaded, x.shed, portsAvailable s g, x.loaded && s.eng.clock = 2],
    [(8, 2, c.priority), (16, 10, c.period), (32, 32, c.graphId), (64, 16, c.steady.wLen), (80, 16, c.feast.wLen),
     (96, 16, c.nodeCount), (112, 16, c.portCount), (128, 32, c.weightBytes), (160, 32, x.evals), (192, 32, x.lostEvals),
     (224, 32, x.lastPublish), (256, 16, satN 16 x.lastCycles)],
    flagsAt 272 ((List.range 16).map (graphBanks c).contains),
    [(288, 32, x.clamped), (320, 32, c.budgetSteady), (352, 32, c.budgetFeast)]]

/-- Shed summary (R286). -/
def shedFields (s : State) : Fields :=
  let e := s.eng
  [(0, 3, e.shedSteps), (16, 16, satN 16 s.seq.engineConsec), (32, 32, e.cleanFrames), (64, 32, e.restoreNeed),
   (96, 32, e.shedCount), (128, 32, e.restoreCount)]

/-- Port window control (R287). -/
def portWindowFields (s : State) (w : Windows) : Fields :=
  [(0, 3, w.pwSlot), (8, 6, w.pwPort), (16, 16, w.pwBase), (32, 32, (graphSt s w.pwSlot).lastPublish)]

/-- Port window entry (R287). -/
def portElementFields (s : State) (w : Windows) (i : Nat) : Fields :=
  match portElement s w.pwSlot w.pwPort (w.pwBase + i) with
  | some e => [(0, 32, e.lo), (32, 32, e.hi), (64, 32, e.center), (96, 1, 1), (97, 1, b2n e.inf)]
  | none => []

/-- Control loop entry (R315). -/
def loopFields (s : State) (i : Nat) : Fields :=
  let p := ctl s i
  parts [
    [(0, 2, p.state.code), (2, 4, p.cause)],
    flagsAt 6 [decide (0 < p.uSat), decide (p.uSat < 0), p.iClamped, decide (p.x ≠ p.target * 2 ^ 32)],
    ([p.target, p.r, probeValue s 8 i, p.y, p.e, p.uff, p.up, p.ui, p.ud, p.u, p.dstate].mapIdx fun k (v : Int) =>
      (32 + 32 * k, 32, v)),
    countersAt 384 [p.executions, p.satExec, p.freezes, p.lastExec]]

/-- Trace window control (R316). -/
def traceControlFields (w : Windows) : Fields := [(0, 6, w.twSource), (16, 12, w.twPage)]

/-- Probe entry (R316). -/
def probeFields (s : State) (i : Nat) : Fields :=
  let p := probe s i
  [(0, 2, p.state.code), (4, 1, b2n p.lost), (5, 1, b2n p.triggered), (8, 4, p.srcKind), (12, 9, p.srcIndex),
   (24, 10, p.decimM1), (34, 3, p.trigKind), (37, 2, p.trigDir), (39, 5, p.trigProbe), (64, 32, p.trigLevel),
   (96, 16, p.eventCode), (112, 16, p.eventMask), (128, 16, p.preSamples), (144, 16, p.preTaken), (160, 48, p.trigFrame),
   (224, 32, p.samples.length), (256, 32, p.captures), (288, 32, p.ovrSamples), (320, 32, p.lastFrame)]

/-- An element of the last precision run in the layout of R287. Its center is the middle of its interval. -/
def precisionFields (e : Int × Int) : Fields :=
  [(0, 32, e.1), (32, 32, e.2), (64, 32, roundDiv (e.1 + e.2) 2), (96, 1, 1)]

/-- Trace window word (R314). -/
def traceFields (s : State) (w : Windows) (i : Nat) : Fields :=
  let k := 16384 * w.twPage + i
  if w.twSource < 32 then
    let l := (probe s w.twSource).samples
    if k < l.length then [(0, 32, l.getD (l.length - 1 - k) 0)] else []
  else if w.twSource = 32 then
    match s.eng.precisionResult.flatten[k / 4]? with
    | some e => [(0, 32, (pack (precisionFields e) / 2 ^ (32 * (k % 4)) : Nat))]
    | none => []
  else []

/-- Gwynlink port entry (R379). -/
def linkFields (s : State) (p : Nat) : Fields :=
  let x := lport s p
  let recent := x.authFails.countP fun f => decide (s.seq.frame < f + 10000)
  let quar := x.quarAt + 100000 - s.seq.frame
  let sites := (List.range 32).map fun k => 32 * p + k
  parts [
    [(0, 3, x.state.code), (3, 1, b2n x.session), (4, 1, x.keyGen % 2), (5, 1, b2n x.marginLow), (8, 8, x.leaveCause),
     (16, 16, satN 16 x.trainCount)],
    flagsAt 32 (sites.map (sitePresent s)), flagsAt 64 (sites.map (responsive s)),
    [(96, 8, x.ctle)], (x.dfe.mapIdx fun k (v : Int) => (104 + 8 * k, 8, v)),
    [(128, 16, satN 16 x.marginH), (144, 8, satN 8 x.marginW), (160, 16, satN 16 x.rtt), (176, 8, satN 8 recent),
     (184, 8, satN 8 x.authFails.length), (192, 32, x.stateFrame), (224, 32, x.keyGen)],
    countersAt 256 x.counters,
    [(768, 384, x.measDigest), (1152, 384, x.certDigest), (1536, 32, x.agentFw),
     (1568, 16, if x.state = .quarantine then scaleN 16 quar 10 else 0)]]

end Sys2Proof.Machine
end

