-- ==== Sys2Proof/Machine/StatusSystem.lean ====
section
/-! DEFINITION. The status window: the pair (R524), security, tenants and telemetry (R552, R553), the log and maintenance
(R565, R577). -/

namespace Sys2Proof.Machine

/-- Frames since `f` in ms; 0xFFFF for never (R524). -/
def ageMs (s : State) (f : Option Nat) : Int := match f with
  | some x => satN 16 ((s.seq.frame - x) / 10)
  | none => 0xFFFF

/-- Pair summary (R524). -/
def pairFields (s : State) : Fields :=
  let p := s.pair
  let healthy := match p.healthySince with
    | some f => (s.seq.frame - f) / 10000
    | none => 0
  parts [
    [(0, 3, p.role.code)],
    flagsAt 3 [isHome s, isSingle s, portUp s, p.ckptValid, p.pairHold],
    [(8, 2, s.pow.slotStrap)],
    flagsAt 10 [p.wireFault, p.busVeto, p.partnerSeen, p.swap.isSome || p.boundary.isSome, p.cold],
    [(16, 4, p.grade), (20, 4, p.partner.grade), (24, 8, p.claim), (32, 8, p.winClaim), (40, 8, p.partnerClaim),
     (48, 16, p.penalties), (64, 32, p.term), (96, 32, p.ckptSeq), (128, 32, p.ckptFrame), (160, 32, p.delta),
     (192, 16, ageMs s p.ckptAt), (208, 16, ageMs s p.healthFrame), (224, 16, satN 16 healthy)],
    countersAt 256 p.counters]

/-- Security and tenants summary (R552). -/
def securityFields (s : State) (w : Windows) : Fields :=
  let c := s.sec
  parts [
    [(0, 2, (lifeCycle s).code)], flagsAt 2 [c.slot1.isSome, c.drbgOk, c.enrolLow],
    [(8, 8, w.tbSel), (16, 7, c.fuses.rollback), (32, 384, c.fuses.ownerKeyHash), (416, 384, c.fuses.vendorRootHash),
     (800, 256, if lifeCycle s = .unenrolled then c.enrolNonce else 0)],
    countersAt 1056 c.counters]

/-- Tenant entry (R553). -/
def secTenantFields (s : State) (t : Nat) : Fields :=
  let x := tenantSec s t
  let c := tenantCfg s t
  parts [
    [(0, 1, b2n c.present)], flagsAt 8 [c.allowDither, c.allowEmber, c.allowSurge, c.lockstep],
    [(16, 16, (tenantSt s t).gen), (32, 64, x.lastNonce)],
    countersAt 96 [x.lastSeq, x.authFail, x.expired, x.replays, x.permFail, x.lastReqFrame]]

/-- Telemetry window entry (R552): tenant blocks at 0 to 3, row blocks at 8 to 15. -/
def telemetryFields (s : State) (w : Windows) (i : Nat) : Fields :=
  if i < 4 then
    match (tenantSec s w.tbSel).blocks[i]? with
    | some b => (640, 128, (b.tag : Int)) :: tenantFields b
    | none => []
  else if 8 ≤ i then
    match s.sec.rowBlocks[i - 8]? with
    | some b => (1280, 768, (b.signature : Int)) :: rowFields b
    | none => []
  else []

/-- The records that the log window shows, newest first (R565). -/
def logShown (s : State) : List Event := if s.log.state = .degraded then s.log.reserve else s.log.ring

/-- Faults, log and maintenance summary (R565). -/
def logFields (s : State) (w : Windows) : Fields :=
  let l := s.log
  let shown := logShown s
  parts [
    [(0, 2, l.state.code), (2, 1, b2n l.faultMedia), (8, 7, l.lastWords.length)],
    flagsAt 16 (s.maint.windows.map (·.isOpen)),
    [(24, 3, s.maint.activities.countP (·.state = .running))],
    countersAt 32 [((shown.head?).map (·.seq)).getD 0, ((shown.getLast?).map (·.seq)).getD 0, l.boot, l.dropped,
      w.logWinSeq, l.queueMax],
    countersAt 256 l.classCount, countersAt 768 s.maint.counters]

/-- An event record as a window entry (R557). -/
def recordFields (e : Event) : Fields := [(0, 512, (leNat (eventBytes e) : Nat))]

/-- Last-words window entry (R565): slot 0 holds the oldest record of the buffer. -/
def lastWordsFields (s : State) (i : Nat) : Fields := match s.log.lastWords.reverse[i]? with
  | some e => recordFields e
  | none => []

/-- Log window entry (R565). -/
def logWindowFields (s : State) (w : Windows) (i : Nat) : Fields :=
  match (logShown s).find? fun e => e.seq = (w.logWinSeq + i) % 4294967296 with
  | some e => recordFields e
  | none => []

/-- STATE of an activity entry as the window codes it (R577). -/
def actCode : ActState → Nat
  | .free | .starting => 0
  | .running => 1
  | _ => 2

/-- RESULT (R577). -/
def actResult : ActState → Nat
  | .complete => 1 | .pass => 2 | .fail => 3 | .stopped => 4 | .aborted => 5
  | _ => 0

/-- Activity entry (R577). -/
def activityFields (s : State) (i : Nat) : Fields :=
  let a := activity s i
  let last := if a.state = .running then s.seq.frame else a.endFrame
  if actCode a.state = 0 then []
  else
    [(0, 2, actCode a.state), (2, 4, a.code), (6, 3, actResult a.state), (9, 3, if a.window < 8 then a.window else 0),
     (12, 1, b2n (decide (a.window < 8))), (16, 16, a.id), (32, 32, a.target), (64, 16, a.durationS),
     (80, 16, satN 16 ((last - a.startFrame) / 10000)), (96, 32, a.startFrame), (128, 32, a.endFrame), (160, 8, a.cause),
     (176, 128, leNat a.detail)]

end Sys2Proof.Machine
end

