-- ==== Sys2Proof/Machine/StatusWindow.lean ====
section
/-! DEFINITION. READ and WRITE of the status window (R585 to R592). -/

namespace Sys2Proof.Machine

/-- Base address, size in bytes and count of the entries of a kind (R591 and the tables it names). -/
def place : Entry → Nat × Nat × Nat
  | .identity => (0x00000, 256, 1) | .start => (0x00100, 256, 1) | .image => (0x00200, 128, 1)
  | .eth => (0x00300, 32, 2) | .mgmt => (0x00340, 192, 1) | .session => (0x00400, 32, 8)
  | .frame => (0x01000, 256, 1) | .epoch => (0x01400, 32, 16) | .sched => (0x08000, 64, 512)
  | .power => (0x10000, 64, 1) | .rail => (0x10040, 8, 8) | .domain => (0x10100, 8, 128)
  | .thermal => (0x10500, 64, 1)
  | .plan => (0x20000, 256, 1) | .planLoop => (0x20100, 64, 24) | .horizon => (0x21000, 32, 200)
  | .heat => (0x30000, 256, 1) | .heatLoop => (0x30100, 64, 24) | .heatTenant => (0x31000, 64, 256)
  | .cap => (0x35000, 256, 1) | .cls => (0x35100, 64, 8) | .pace => (0x36000, 32, 256)
  | .page => (0x38000, 8, 4096) | .site => (0x40000, 64, 2048)
  | .engine => (0x60000, 256, 1) | .breach => (0x60100, 64, 8) | .graph => (0x60300, 64, 8)
  | .shed => (0x60500, 64, 1) | .portControl => (0x60540, 16, 1) | .portElement => (0x61000, 16, 256)
  | .loop => (0x70000, 64, 512) | .traceControl => (0x78000, 64, 1) | .probe => (0x78100, 64, 32)
  | .trace => (0x100000, 4, 16384) | .link => (0x80000, 256, 64)
  | .pumps => (0x90000, 256, 1) | .pump => (0x90100, 64, 4) | .fan => (0x90200, 32, 24) | .group => (0x90500, 32, 4)
  | .zone => (0x90600, 16, 16) | .spray => (0x90700, 16, 64)
  | .valves => (0xA0000, 256, 1) | .bank => (0xA0100, 64, 6) | .valve => (0xA0400, 64, 48)
  | .leak => (0xB0000, 256, 1) | .leakLoop => (0xB0100, 64, 24) | .rope => (0xB0800, 32, 16)
  | .floatIn => (0xB0A00, 16, 8)
  | .can => (0xC0000, 256, 1) | .canChannel => (0xC0100, 256, 12) | .hp => (0xC1800, 128, 80)
  | .slot => (0xC4000, 16, 192) | .cellMap => (0xC6000, 128, 12) | .mirror => (0xC8000, 128, 256)
  | .pair => (0xD0000, 256, 1) | .security => (0xE0000, 256, 1) | .secTenant => (0xE1000, 64, 256)
  | .telemetry => (0xE8000, 256, 16)
  | .log => (0xF0000, 256, 1) | .activity => (0xF0100, 64, 4) | .lastWords => (0xF1000, 64, 64)
  | .logWindow => (0xF8000, 64, 256)

/-- The fields of entry `i`: `s` is the latched view, `live` what is stored now (R588), `w` the session's own fields. -/
def entryFields (s live : State) (w : Windows) (i : Nat) : Entry → Fields
  | .identity => identityFields s | .start => startFields s | .image => imageFields s | .eth => ethFields s i
  | .mgmt => mgmtFields s | .session => sessionFields s i
  | .frame => frameFields s | .epoch => epochFields s i | .sched => schedFields s i
  | .power => powerFields s | .rail => railFields s i | .domain => domainFields s i | .thermal => thermalFields s
  | .plan => planFields s | .planLoop => planLoopFields s i | .horizon => horizonFields s i
  | .heat => heatFields s w | .heatLoop => heatLoopFields s i | .heatTenant => heatTenantFields s i
  | .cap => capFields s | .cls => classFields s i | .pace => paceFields s i | .page => pageFields s w i
  | .site => siteFields s i
  | .engine => engineFields s | .breach => breachFields s i | .graph => graphFields s i | .shed => shedFields s
  | .portControl => portWindowFields s w | .portElement => portElementFields s w i
  | .loop => loopFields s i | .traceControl => traceControlFields w | .probe => probeFields s i
  | .trace => traceFields live w i | .link => linkFields s i
  | .pumps => pumpsFields s | .pump => pumpFields s i | .fan => fanFields s i | .group => groupFields s i
  | .zone => zoneFields s i | .spray => sprayFields s i
  | .valves => valvesFields s | .bank => bankFields s i | .valve => valveFields s i
  | .leak => leakFields s | .leakLoop => leakLoopFields s i | .rope => ropeFields s i | .floatIn => floatFields s i
  | .can => canFields s w | .canChannel => canChFields s i | .hp => hpFields s (2 + i / 8) (i % 8)
  | .slot => slotFields s (i / 16) (i % 16) | .cellMap => cellMapFields s i | .mirror => mirrorFields live w i
  | .pair => pairFields s | .security => securityFields s w | .secTenant => secTenantFields s i
  | .telemetry => telemetryFields live w i
  | .log => logFields s w | .activity => activityFields s i | .lastWords => lastWordsFields s i
  | .logWindow => logWindowFields live w i

/-- The entry that holds an address: its kind, its number and the offset inside it; none for unassigned bytes. -/
def locateAt (a : Nat) : Option (Entry × Nat × Nat) :=
  (Entry.all.find? fun e => (place e).1 ≤ a && decide (a < (place e).1 + (place e).2.1 * (place e).2.2)).map fun e =>
    (e, (a - (place e).1) / (place e).2.1, (a - (place e).1) % (place e).2.1)

/-- The 32-bit word at an address; unassigned and reserved bits read 0 (R12, R591). -/
def wordAt (s : State) (w : Windows) (a : Nat) : Nat := match locateAt a with
  | none => 0
  | some (e, i, off) => pack (entryFields (latched s) s w i e) / 2 ^ (8 * off) % 2 ^ 32

/-- The data of a READ (R588). -/
def readData (s : State) (w : Windows) (address bytes : Nat) : List Nat :=
  ((List.range (bytes / 4)).map fun k => leBytes 4 (wordAt s w (address + 4 * k))).flatten

/-- FRAME of a READ_RESP: the frame that the latched content reflects (R584, R588). -/
def readFrame (s : State) : Nat := frameStamp (latched s)

/-- What a session without a role may read in UNENROLLED and RETURN (R592). -/
def bareRead (address bytes : Nat) : Bool :=
  decide (address + bytes ≤ 0x1000) || (decide (0xE0000 ≤ address) && decide (address + bytes ≤ 0xE0100))

/-- READ (R585, R588). -/
def execRead (session msgId address bytes : Nat) (s : State) : Host.Outcome State Fault Refusal :=
  let x := Machine.session s session
  .next (if !(served s session) then s
    else
      onMessage session msgId 24 (fun t =>
        if bytes = 0 || 4096 < bytes then errorAnswer session msgId 0x80 t
        else if 0x110000 < address + bytes then errorAnswer session msgId 0x83 t
        else if address % 4 ≠ 0 || bytes % 4 ≠ 0 then errorAnswer session msgId 0x84 t
        else if (x.role = .none || bareCycle s) && !(bareRead address bytes) then errorAnswer session msgId 0x86 t
        else answer session msgId
          (.message session (message 0x81 0 msgId (readFrame s) (readData s x.win address bytes))) t) s)

/-! WRITE (R589). -/

/-- The RW and W1C fields of a kind of entry: lowest bit and width. -/
def writable : Entry → List (Nat × Nat)
  | .heat => [(112, 16)]
  | .portControl => [(0, 3), (8, 6), (16, 16)]
  | .traceControl => [(0, 6), (16, 12)]
  | .probe => [(2, 1), (3, 1), (8, 4), (12, 9), (24, 10), (34, 3), (37, 2), (39, 5), (64, 32), (96, 16), (112, 16), (128, 16)]
  | .can => [(42, 4)]
  | .canChannel => [(9, 1), (104, 8)]
  | .hp => [(37, 1)]
  | .security => [(8, 8)]
  | .log => [(160, 32)]
  | _ => []

/-- The fields that command the module and are single and shared. -/
def sharedEntry : Entry → Bool
  | .probe | .canChannel | .hp => true
  | _ => false

/-- The value written to a field, if the data covers it. -/
def written (off : Nat) (data : List Nat) (lo width : Nat) : Option Nat :=
  if 8 * off ≤ lo && lo + width ≤ 8 * (off + data.length) then some (leNat data / 2 ^ (lo - 8 * off) % 2 ^ width) else none

/-- Bytes of a WRITE that hold no bit of a writable field. -/
def ignoredBytes (e : Entry) (off n : Nat) : Nat :=
  ((List.range n).filter fun k => !((writable e).any fun f =>
    decide (f.1 < 8 * (off + k) + 8) && decide (8 * (off + k) < f.1 + f.2))).length

/-- A WRITE of n bytes touches a writable field without covering it whole (R589). -/
def touchesPart (e : Entry) (off n : Nat) : Bool :=
  (writable e).any fun f =>
    decide (8 * off < f.1 + f.2) && decide (f.1 < 8 * (off + n)) &&
    !(decide (8 * off ≤ f.1) && decide (f.1 + f.2 ≤ 8 * (off + n)))

/-- A session's own fields after a WRITE of its own entry (R174, R287, R316, R490, R552, R565, R589). -/
def writeOwn (e : Entry) (off : Nat) (data : List Nat) (w : Windows) : Windows :=
  let v (lo width old : Nat) : Nat := (written off data lo width).getD old
  match e with
  | .heat =>
    let b := v 112 16 w.ptBase
    if b % 4096 = 0 && b ≤ 28672 then { w with ptBase := b } else w
  | .portControl =>
    let b := v 16 16 w.pwBase
    { w with pwSlot := v 0 3 w.pwSlot, pwPort := v 8 6 w.pwPort, pwBase := if b % 256 = 0 then b else w.pwBase }
  | .traceControl => { w with twSource := v 0 6 w.twSource, twPage := v 16 12 w.twPage }
  | .can => { w with mqSel := v 42 4 w.mqSel }
  | .security => { w with tbSel := v 8 8 w.tbSel }
  | .log => { w with logWinSeq := v 160 32 w.logWinSeq }
  | _ => w

/-- The configuration fields of a probe after a WRITE (R316); they stand while it captures (R313). -/
def writeProbe (off : Nat) (data : List Nat) (p : Probe) : Probe :=
  let v (lo width old : Nat) : Nat := (written off data lo width).getD old
  if p.state = .armed || p.state = .post then p
  else
    { p with
      srcKind := v 8 4 p.srcKind, srcIndex := v 12 9 p.srcIndex, decimM1 := v 24 10 p.decimM1
      trigKind := v 34 3 p.trigKind, trigDir := v 37 2 p.trigDir, trigProbe := v 39 5 p.trigProbe
      trigLevel := match written off data 64 32 with
        | some n => toSigned 32 n
        | none => p.trigLevel
      eventCode := v 96 16 p.eventCode, eventMask := v 112 16 p.eventMask, preSamples := v 128 16 p.preSamples }

/-- The effect of a shared WRITE at its boundary. -/
def writeShared (e : Entry) (i off : Nat) (data : List Nat) (s : State) : State :=
  let one (lo : Nat) : Bool := written off data lo 1 = some 1
  match e with
  | .probe =>
    let s1 := if one 3 then abortProbe i s else s
    let s2 := updProbe i (writeProbe off data) s1
    if one 2 then armProbe i s2 else s2
  | .canChannel =>
    let s1 := if one 9 then updCan i (fun y => { y with mqOverflow := false }) s else s
    match written off data 104 8 with
    | some t => mqTailWrite i t s1
    | none => s1
  | .hp => if one 37 then
      updCan (2 + i / 8) (fun y => { y with hp := upd y.hp (i % 8) fun h => { h with isNew := false } }) s
    else s
  | _ => s

/-- Where a WRITE of n bytes goes: one entry, unassigned bytes only (none), or neither, which is refused. -/
def writeTarget (address n : Nat) : Option (Option (Entry × Nat × Nat)) :=
  match locateAt address with
  | some (e, i, off) => if off + n ≤ (place e).2.1 then some (some (e, i, off)) else none
  | none => if (List.range (n / 4)).all fun k => (locateAt (address + 4 * k)).isNone then some none else none

/-- WRITE_RESP (R589): bytes ignored. -/
def writeResp (s : State) (msgId ignored : Nat) : List Nat := message 0x82 0 msgId (frameStamp s) (leBytes 4 ignored)

/-- WRITE (R585, R589). A per-session field takes effect at once; a shared one waits for the next frame boundary. -/
def execWrite (session msgId address : Nat) (data : List Nat) (s : State) : Host.Outcome State Fault Refusal :=
  let x := Machine.session s session
  let n := data.length
  .next (if !(served s session) then s
    else
      let done := fun (skip : Nat) (t : State) => answer session msgId (.message session (writeResp s msgId skip)) t
      onMessage session msgId (20 + n) (fun t =>
        if n = 0 then errorAnswer session msgId 0x80 t
        else if 0x110000 < address + n then errorAnswer session msgId 0x83 t
        else if address % 4 ≠ 0 || n % 4 ≠ 0 then errorAnswer session msgId 0x84 t
        else if x.role = .none || bareCycle s then errorAnswer session msgId 0x86 t
        else match writeTarget address n with
          | none => errorAnswer session msgId 0x84 t
          | some none => done n t
          | some (some (e, _, off)) =>
            let skip := ignoredBytes e off n
            if touchesPart e off n then errorAnswer session msgId 0x84 t
            else if skip = n then done n t
            else if sharedEntry e then
              if x.role = .facility || x.role = .owner then
                setMgmt (fun m => { m with writes := m.writes ++
                  [{ session, msgId, address, data, ignored := skip, late := m.guardDone }] }) (await session msgId t)
              else errorAnswer session msgId 0x86 t
            else done skip (updSession session (fun y => { y with win := writeOwn e off data y.win }) t)) s)

/-- One shared WRITE takes effect and is answered (R589). -/
def applyWrite (s : State) (x : SharedWrite) : State :=
  let s1 := match locateAt x.address with
    | some (e, i, off) => writeShared e i off x.data s
    | none => s
  resolve x.session x.msgId (.message x.session (writeResp s x.msgId x.ignored)) s1

/-- At a frame boundary the shared WRITEs of the frame that ended take effect in arrival order; those that came after
its Guard phase wait for the next one (R583, R589). -/
def applyWrites (s : State) : State :=
  let due := s.mgmt.writes.filter fun x => !x.late
  let rest := (s.mgmt.writes.filter (·.late)).map fun x => { x with late := false }
  due.foldl applyWrite (setMgmt (fun m => { m with writes := rest }) s)

end Sys2Proof.Machine
end

