-- ==== Sys2Proof/Machine/Frames.lean ====
section
/-! DEFINITION. The frame: its boundary, its four phases, overruns, safe hold, PLLs and plan epoch boundaries (R26, R27,
R40 to R48, R53, R178, R505). The sender of the commands gives each frame its boundary and its phases in order; a phase
runs at most once in a frame. -/

namespace Sys2Proof.Machine

/-! The boundary. -/

/-- What the frame that ends still does at its boundary: the checkpoint's buffers swap (R511), outputs take their values
(R43), and a management reset that was due at its end is raised (R603). -/
def frameEnds (s : State) : State :=
  let s1 := leakOutputs (checkpointSnapshot s)
  match s1.mgmt.resetAt with
  | some f => if f ≤ s1.seq.frame then { s1 with pow := { s1.pow with resetDue := some 1 } } else s1
  | none => s1

/-- Executes the entry in a schedule slot (R66, R69) and marks it executed. A mode or a limit takes effect at the first
plan epoch boundary at or after this frame. -/
def executeSlot (s : State) (i : Nat) : State :=
  let e := s.sched.table.getD i {}
  if !(mayRun s e) then s
  else
    let p := e.payload
    let scope := p % 2
    let loop := bits p 5 1
    let limit := p / 2 ^ 32
    let boundary := ceilDiv s.seq.frame 100 * 100
    let s1 := match e.kind with
      | 0 => scheduleSetPoint p s
      | 1 => if modeCheck s (p % 4) = 0 then requestMode boundary (RowMode.ofCode (p % 4)) s else s
      | 2 => applyCells p s
      | 3 => openWindow p s
      | 4 => executeClose p s
      | 5 => if limitCheck s scope loop limit = 0 then requestLimit boundary scope loop limit s else s
      | _ => s
    markExecuted i s1

/-- The slots staged in the Guard phase before, in order (R69, R73). -/
def executeStaged (s : State) : State :=
  s.sched.staged.foldl executeSlot { s with sched := { s.sched with staged := [] } }

/-- Since when the module has held plant control in NORMAL without a break (R108). -/
def controlNormal (s : State) : State :=
  let since := if s.pow.plantControl && s.seq.state = .normal then some (s.key.controlNormalSince.getD s.seq.frame) else none
  { s with key := { s.key with controlNormalSince := since } }

/-- The boundary of a frame in which the module operates. -/
def frameBegins (s : State) : State :=
  let s1 := executeStaged (outputsInForce s)
  let s2 := commitImageSchedule (commitWaiting (applyTargets (applyWrites (enterCommits (applyRequests s1)))))
  let s3 := canFrame (linkFrame (shedStep (publishPorts s2)))
  let s4 := pairFrame (rollBlocks (maintBoundary (dutySecond (elementDomains s3))))
  let s5 := armUpdate (takeWallDay { s4 with pump := { s4.pump with planAge := satAdd 16 s4.pump.planAge 1 } })
  takeWaiting (controlNormal s5)

/-- Frames have no number outside operation, so a management reset due at the end of the frame after its acceptance (R603)
is raised at the second boundary after it. -/
def resetCountdown (s : State) : State :=
  match s.mgmt.resetAt with
  | some f =>
    if s.seq.frame < f then setMgmt (fun x => { x with resetAt := some s.seq.frame }) s
    else setPow (fun p => { p with resetDue := some 1 }) (setMgmt (fun x => { x with resetAt := none }) s)
  | none => s

/-- The boundary of a frame in LIMP, NO_IMAGE or before READY: management alone (R106, R136); without a Guard phase the
requests of the frame that ends are committed here. Frames without any claim are counted (R135). -/
def idleBegins (s : State) : State :=
  let counts := decide (s.pow.state = .limp ∨ s.pow.state = .noImage)
  let s1 := { s with pow := { s.pow with noClaimFrames := s.pow.noClaimFrames + (if counts then 1 else 0) } }
  takeWaiting (applyWrites (applyRequests (commitRequests (resetCountdown s1))))

/-- The sequencer and the event codes of the frame at the boundary. -/
def advanceFrame (s : State) : State :=
  { s with seq := { seqBoundary s.seq s.pow.ready s.wall.rate with phase := 0 }
           log := { s.log with codesPrev := s.log.codesNow, codesNow := [], taken := 0 } }

/-- FRAME_BOUNDARY (R40). -/
def execFrameBoundary (s : State) : Host.Outcome State Fault Refusal :=
  .next (if !(sequencerRuns s && s.pow.waiting.isNone) then s
    else if operating s then frameBegins (advanceFrame (if s.seq.frameValid then frameEnds s else s))
    else idleBegins (advanceFrame s))

/-! The phases. -/

/-- Phase k may run in the frame in progress. -/
def phaseDue (k : Nat) (s : State) : Bool := operating s && s.seq.frameValid && decide (s.seq.phase ≤ k)

def phaseDone (k : Nat) (s : State) : State := { s with seq := { s.seq with phase := k + 1 } }

/-- The module runs its blocks without plant control and without a plan of its own (R505). -/
def standsBy (s : State) : Bool := s.pow.state = .standby || s.pow.state = .held

/-- Work of the Ingest phase. -/
def ingest (r : Readings) (s : State) : State :=
  let s1 := if clientRuns .beacon s then beacons s else s
  let s2 := clockFrame (if clientRuns .plantInput s1 then junctionSample (samplePlant r s1) else sampleLost s1)
  let s3 := if clientRuns .canSnapshot s2 then canSnapshot s2 else s2
  isolationFlowCheck (maintSamples (thermalFrame (planSamples s3)))

/-- INGEST_PHASE (R41). -/
def execIngestPhase (readings : Readings) (s : State) : Host.Outcome State Fault Refusal :=
  .next (if phaseDue 0 s then phaseDone 0 (ingest readings (missStopped .ingest s)) else s)

/-- Plan variables that slot 0 and the other graphs read; a standby takes those of the last complete checkpoint's plan
(R273, R505). -/
def engineVars (s : State) (stage : Nat) : List Int :=
  if standsBy s then
    match s.pair.ckpt with
    | some c => (c.planInForce.map (·.vars)).getD []
    | none => (s.plan.inForce.map (·.vars)).getD []
  else stageVars s stage

/-- The engine slice of a frame, with the plan's part around it (R179, R277, R280). -/
def engineWork (stalls : List Nat) (s : State) : State :=
  let own := !(standsBy s) && !(handoverHold s)
  let s1 := if own then planBefore s else s
  let s2 :=
    if !(clientPowered .engine s1) then s1
    else if clockRuns .engine s1 then engineSlice (engineVars s1) stalls s1
    else engineLost (engineVars s1) s1
  if own then planAfterEngine s2 else s2

/-- The plan slice: a standby keeps the hottest temperatures only; a holder that hands over commits nothing (R505, R520). -/
def planWork (s : State) : State :=
  if handoverHold s then s
  else if standsBy s then (if clientRuns .planSlice s then hotFrame s else s)
  else if clientRuns .planSlice s then planSlice s
  else planSliceLost s

/-- Work of the Compute phase. The leak decision precedes the allocator, which acts on it; it runs
on the reference clock, and an overrun of the leak logic loses the adaptation stage alone (R445, R171, R637). -/
def compute (stalls : List Nat) (s : State) : State :=
  let s1 := engineWork stalls s
  let s2 := if clientRuns .estimator s1 then estimatorSlice s1 else s1
  let s3 := leakDecision s2
  let s4 := if clientRuns .allocator s3 && !(standsBy s3) && !(handoverHold s3) then allocatorSlice s3 else s3
  let s5 := if !(clientRuns .control s4) then controlOverrun s4
    else if handoverHold s4 then probesStep false s4 else controlSlice s4
  let s6 := planWork s5
  let s7 := if clientRuns .leak s6 then leakAdaptation s6 else s6
  abortFailed s7

/-- COMPUTE_PHASE (R41): `stalls` are the LPDDR5X stall cycles of each slot (R222). -/
def execComputePhase (stalls : List Nat) (s : State) : Host.Outcome State Fault Refusal :=
  .next (if phaseDue 1 s then phaseDone 1 (compute stalls (missStopped .compute s)) else s)

/-- Plant output staging; spray stopped for the day ends a pad flush (R404, R576). -/
def stageOutputs (s : State) : State :=
  let s1 := speedLogic s
  let s2 := if s1.pump.budgetSpent && !s.pump.budgetSpent then abortFlush s1 else s1
  valveAdmission s2

/-- Work of the Emit phase. Water is counted for every frame in which a valve is commanded open (R402), also for one whose
output staging overran. -/
def emit (s : State) : State :=
  let s1 := if standsBy s then s
    else if clientRuns .plantOutput s then stageOutputs s
    else if s.pow.plantControl then waterFrame s else s
  if clientRuns .canStage s1 then canStage s1 else s1

/-- EMIT_PHASE (R41). -/
def execEmitPhase (s : State) : Host.Outcome State Fault Refusal :=
  .next (if phaseDue 2 s then phaseDone 2 (emit (missStopped .emit s)) else s)

/-- The core toggles its heartbeat once per frame (R130). -/
def heartbeat (s : State) : State :=
  { s with pow := { s.pow with heartbeat := !s.pow.heartbeat, lastHeartbeat := rowNs s } }

/-- Mode of the plan epoch that begins with the next frame (R30, R36, R47, R69): entries staged for its boundary arrive
there after every request, and safe hold that is due lowers the row. A standby, and a holder that hands over, change no
mode of their own. -/
def modeAhead (s : State) : RowMode :=
  if standsBy s || handoverHold s then s.plan.mode
  else
    let b := s.seq.frame + 1
    let q := s.sched.staged.foldl (fun (q : Option ModeReq) i =>
      let e := s.sched.table.getD i {}
      let m := RowMode.ofCode (e.payload % 4)
      if e.kind = 1 && mayRun s e && modeCheck s (e.payload % 4) = 0 then
        some ⟨b, m, if m = .feast then q.bind (·.low) else some m⟩
      else q) (requestAt s b)
    modeFrom (if safeHoldDue s.seq then { s with seq := { s.seq with state := .safeHold } } else s) q

/-- In the Guard phase of a plan epoch's last frame the engine changes its clock (R251). -/
def clockGuard (s : State) : State := if (s.seq.frame + 1) % 100 = 0 then clockSwitch (modeAhead s) s else s

/-- Step 4 of R42. -/
def latchStatus (s : State) : State := { s with latch := some (latchOf s) }

/-- The bookkeeping of a frame in the order of R42, with what the core does in the Guard phase besides. -/
def bookkeep (s : State) : State :=
  let s1 := stageSchedule (commitRequests s)
  latchStatus (heartbeat (pairGuard (clockGuard (shedQuiet (scrubFrame (telemetryFrame s1))))))

/-- GUARD_PHASE (R42). Outside operation the core commits requests and latches the status window. -/
def execGuardPhase (s : State) : Host.Outcome State Fault Refusal :=
  .next (if phaseDue 3 s then
      let s1 := evaluateOverruns s
      phaseDone 3 (if s1.seq.overran.contains .bookkeeping then s1 else bookkeep s1)
    else if sequencerRuns s && s.pow.waiting.isNone && !(operating s) && decide (s.seq.phase ≤ 3) then
      phaseDone 3 (latchStatus (heartbeat (commitRequests s)))
    else s)

/-- CLIENT_OVERRUN (R45): the client's latest-completion offset passes before its work is complete. -/
def execClientOverrun (client : Client) (s : State) : Host.Outcome State Fault Refusal :=
  .next (if phaseDue client.phase.index s && clientPowered client s then overrunClient client s else s)

/-! Safe hold (R47, R48). -/

/-- SAFE_HOLD_ENTER (R47): at the boundary after the 16th consecutive overrun of a phase. -/
def execSafeHoldEnter (s : State) : Host.Outcome State Fault Refusal :=
  .next (if operating s && s.seq.frameValid && s.seq.phase = 0 && safeHoldDue s.seq then
      let s1 := { s with seq := seqEnterHold s.seq }
      let s2 := post (if s1.seq.state = .safeHold then 0x1030 else 0x1032) s1
      abortAll 4 (cancelAllPromises (stopPlan s2))
    else s)

/-- SAFE_HOLD_EXIT (R47, R196): at the boundary after the 10,000th consecutive clean frame. -/
def execSafeHoldExit (s : State) : Host.Outcome State Fault Refusal :=
  .next (if operating s && s.seq.phase = 0 && s.seq.state = .safeHold && 10000 ≤ s.seq.clean then
      restartPlan (post 0x1031 { s with
        seq := { s.seq with state := .normal, clean := 0 }
        pump := { s.pump with normalFrame := some s.seq.frame } })
    else s)

/-! PLLs (R53). The engine has a PLL for each of its clocks (R251): `fast` names that of 1.25 GHz. -/

/-- PLL_LOSS_OF_LOCK (R53). -/
def execPllLossOfLock (pll : Pll) (fast : Bool) (s : State) : Host.Outcome State Fault Refusal :=
  .next (if !(sequencerRuns s) then s
    else if pll = .engine && fast then
      (if s.eng.fastLocked then post 0x1040 { s with eng := { s.eng with fastLocked := false } } else s)
    else pllLoss pll s)

/-- PLL_RELOCK (R53). -/
def execPllRelock (pll : Pll) (fast : Bool) (s : State) : Host.Outcome State Fault Refusal :=
  .next (if pll = .engine && fast then { s with eng := { s.eng with fastLocked := true } } else pllRelock pll s)

/-! Plan epochs (R178). -/

/-- The boundary of a plan epoch; a holder that hands over commits nothing (R520), a standby only samples (R505), and
an entry to safe hold at the same boundary leaves nothing to commit (R209). A mode entry of the schedule that executes in
a standby ends at the boundary that would take it: the row's mode is the holder's (DEDUCED, log entry 170). -/
def epochBegins (s : State) : State :=
  let s1 := setPlan (fun p => { p with
    lastBoundary := some s.seq.frame, shadow := if safeHoldDue s.seq then none else p.shadow }) s
  if handoverHold s1 then s1
  else if standsBy s1 then rollSamples (dropRequests s1.seq.frame s1)
  else planBoundary s1

/-- PLAN_EPOCH_BOUNDARY (R178): frame 100 e, at its boundary. -/
def execPlanEpochBoundary (s : State) : Host.Outcome State Fault Refusal :=
  .next (if operating s && s.seq.frameValid && s.seq.phase = 0 && s.seq.frame % 100 = 0 &&
      s.plan.lastBoundary ≠ some s.seq.frame then epochBegins s else s)

end Sys2Proof.Machine
end

