-- ==== Sys2Proof/Machine/Dispatch.lean ====
section
/-! DEFINITION. One arm per command, each a direct call of its meaning. -/

namespace Sys2Proof.Machine

/-- The effect of a command on everything but the queue. -/
def exec (i : Instr) (s : State) : Host.Outcome State Fault Refusal :=
  match i with
  | .frameBoundary => Sys2Proof.Machine.execFrameBoundary s
  | .ingestPhase readings => Sys2Proof.Machine.execIngestPhase readings s
  | .computePhase stalls => Sys2Proof.Machine.execComputePhase stalls s
  | .emitPhase => Sys2Proof.Machine.execEmitPhase s
  | .guardPhase => Sys2Proof.Machine.execGuardPhase s
  | .clientOverrun client => Sys2Proof.Machine.execClientOverrun client s
  | .shedRequest => Sys2Proof.Machine.execShedRequest s
  | .shedRestore => Sys2Proof.Machine.execShedRestore s
  | .safeHoldEnter => Sys2Proof.Machine.execSafeHoldEnter s
  | .safeHoldExit => Sys2Proof.Machine.execSafeHoldExit s
  | .pllLossOfLock pll fast => Sys2Proof.Machine.execPllLossOfLock pll fast s
  | .pllRelock pll fast => Sys2Proof.Machine.execPllRelock pll fast s
  | .crystalFailure => Sys2Proof.Machine.execCrystalFailure s
  | .syncReceived port sender origin correction rxRow logInterval => Sys2Proof.Machine.execSyncReceived port sender origin correction rxRow logInterval s
  | .timeEpochIncrement => Sys2Proof.Machine.execTimeEpochIncrement s
  | .announceReceived a => Sys2Proof.Machine.execAnnounceReceived a s
  | .announceReceiptTimeout => Sys2Proof.Machine.execAnnounceReceiptTimeout s
  | .ptpPortTakeover => Sys2Proof.Machine.execPtpPortTakeover s
  | .wallDegraded => Sys2Proof.Machine.execWallDegraded s
  | .wallKeyConversion => Sys2Proof.Machine.execWallKeyConversion s
  | .historyRecordExpiry => Sys2Proof.Machine.execHistoryRecordExpiry s
  | .scheduleSlotFree => Sys2Proof.Machine.execScheduleSlotFree s
  | .powerGoodAssert facts => Sys2Proof.Machine.execPowerGoodAssert facts s
  | .powerGoodDeassert => Sys2Proof.Machine.execPowerGoodDeassert s
  | .railReady rail readyUs => Sys2Proof.Machine.execRailReady rail readyUs s
  | .railReadyTimeout rail => Sys2Proof.Machine.execRailReadyTimeout rail s
  | .railLost rail => Sys2Proof.Machine.execRailLost rail s
  | .upperFillComplete => Sys2Proof.Machine.execUpperFillComplete s
  | .noImageKeyRetry facts => Sys2Proof.Machine.execNoImageKeyRetry facts s
  | .otherCopyCheck => Sys2Proof.Machine.execOtherCopyCheck s
  | .rollbackAdvance => Sys2Proof.Machine.execRollbackAdvance s
  | .keyLoss => Sys2Proof.Machine.execKeyLoss s
  | .act24Absent => Sys2Proof.Machine.execAct24Absent s
  | .act24Present => Sys2Proof.Machine.execAct24Present s
  | .domainCycleComplete domain lockUs => Sys2Proof.Machine.execDomainCycleComplete domain lockUs s
  | .periodicCalibration group adc sources => Sys2Proof.Machine.execPeriodicCalibration group adc sources s
  | .armingComplete facts => Sys2Proof.Machine.execArmingComplete facts s
  | .takePlantControl => Sys2Proof.Machine.execTakePlantControl s
  | .backupDriveStart => Sys2Proof.Machine.execBackupDriveStart s
  | .backupDriveRelease => Sys2Proof.Machine.execBackupDriveRelease s
  | .backupHeartbeatLoss => Sys2Proof.Machine.execBackupHeartbeatLoss s
  | .crystalTry pass => Sys2Proof.Machine.execCrystalTry pass s
  | .heldRelease => Sys2Proof.Machine.execHeldRelease s
  | .resetNAssert => Sys2Proof.Machine.execResetNAssert s
  | .coreWatchdog => Sys2Proof.Machine.execCoreWatchdog s
  | .warmReset facts => Sys2Proof.Machine.execWarmReset facts s
  | .deadManEngage => Sys2Proof.Machine.execDeadManEngage s
  | .silenceFallback site => Sys2Proof.Machine.execSilenceFallback site s
  | .quarantineTimerExpiry tenant => Sys2Proof.Machine.execQuarantineTimerExpiry tenant s
  | .lowerMax hdr max => Sys2Proof.Machine.execLowerMax hdr max s
  | .releasePages hdr pages => Sys2Proof.Machine.execReleasePages hdr pages s
  | .setSplit hdr order compute memory links => Sys2Proof.Machine.execSetSplit hdr order compute memory links s
  | .bindSite hdr site => Sys2Proof.Machine.execBindSite hdr site s
  | .unbindSite hdr site => Sys2Proof.Machine.execUnbindSite hdr site s
  | .setQuota hdr min max => Sys2Proof.Machine.execSetQuota hdr min max s
  | .releaseTenant hdr => Sys2Proof.Machine.execReleaseTenant hdr s
  | .admitTenant hdr => Sys2Proof.Machine.execAdmitTenant hdr s
  | .planEpochBoundary => Sys2Proof.Machine.execPlanEpochBoundary s
  | .pumpOverspeedLimit index => Sys2Proof.Machine.execPumpOverspeedLimit index s
  | .overspeedRestEnd index => Sys2Proof.Machine.execOverspeedRestEnd index s
  | .singleBitError scratch => Sys2Proof.Machine.execSingleBitError scratch s
  | .weightDoubleBitError place => Sys2Proof.Machine.execWeightDoubleBitError place s
  | .weightReloadComplete bank hashOk => Sys2Proof.Machine.execWeightReloadComplete bank hashOk s
  | .scratchDoubleBitError slot node state => Sys2Proof.Machine.execScratchDoubleBitError slot node state s
  | .precisionRun hdr slot => Sys2Proof.Machine.execPrecisionRun hdr slot s
  | .precisionRunComplete result => Sys2Proof.Machine.execPrecisionRunComplete result s
  | .loopResume index => Sys2Proof.Machine.execLoopResume index s
  | .probeArm index => Sys2Proof.Machine.execProbeArm index s
  | .probeAbort index => Sys2Proof.Machine.execProbeAbort index s
  | .probeDone index => Sys2Proof.Machine.execProbeDone index s
  | .setLoopSp hdr loop value => Sys2Proof.Machine.execSetLoopSp hdr loop value s
  | .noReference site => Sys2Proof.Machine.execNoReference site s
  | .ditherWindowStart site => Sys2Proof.Machine.execDitherWindowStart site s
  | .ditherWindowEnd site => Sys2Proof.Machine.execDitherWindowEnd site s
  | .thermalTrip loop => Sys2Proof.Machine.execThermalTrip loop s
  | .thermalTripRelease loop => Sys2Proof.Machine.execThermalTripRelease loop s
  | .telReceived port head interval missed mask records inTime => Sys2Proof.Machine.execTelReceived port head interval missed mask records inTime s
  | .capViolationRelease link => Sys2Proof.Machine.execCapViolationRelease link s
  | .telDeadline port => Sys2Proof.Machine.execTelDeadline port s
  | .siteUnresponsive site => Sys2Proof.Machine.execSiteUnresponsive site s
  | .siteResponsive site => Sys2Proof.Machine.execSiteResponsive site s
  | .packetError port codeErrors badCrc => Sys2Proof.Machine.execPacketError port codeErrors badCrc s
  | .reliablePacketReceived port head payload tagOk => Sys2Proof.Machine.execReliablePacketReceived port head payload tagOk s
  | .ackReceived port head payload => Sys2Proof.Machine.execAckReceived port head payload s
  | .nakReceived port head payload => Sys2Proof.Machine.execNakReceived port head payload s
  | .replayTimeout port => Sys2Proof.Machine.execReplayTimeout port s
  | .pingSend port => Sys2Proof.Machine.execPingSend port s
  | .pongReceived port head payload rttNs => Sys2Proof.Machine.execPongReceived port head payload rttNs s
  | .transactionResponse port tag tgen body => Sys2Proof.Machine.execTransactionResponse port tag tgen body s
  | .transactionTimeout port tag => Sys2Proof.Machine.execTransactionTimeout port tag s
  | .evtReceived port payload => Sys2Proof.Machine.execEvtReceived port payload s
  | .trainingComplete port ctle dfe => Sys2Proof.Machine.execTrainingComplete port ctle dfe s
  | .trainingAttemptFail port => Sys2Proof.Machine.execTrainingAttemptFail port s
  | .attestationTimeout port => Sys2Proof.Machine.execAttestationTimeout port s
  | .attestationRetry port => Sys2Proof.Machine.execAttestationRetry port s
  | .authFailure port => Sys2Proof.Machine.execAuthFailure port s
  | .rekeyStart port => Sys2Proof.Machine.execRekeyStart port s
  | .keyUpdateAck port => Sys2Proof.Machine.execKeyUpdateAck port s
  | .rekeyTimeout port => Sys2Proof.Machine.execRekeyTimeout port s
  | .linkLost port cause => Sys2Proof.Machine.execLinkLost port cause s
  | .portQuarantineEnd port => Sys2Proof.Machine.execPortQuarantineEnd port s
  | .marginMeasure port height width => Sys2Proof.Machine.execMarginMeasure port height width s
  | .pumpStatusReceived index bytes => Sys2Proof.Machine.execPumpStatusReceived index bytes s
  | .pumpStatusStale index => Sys2Proof.Machine.execPumpStatusStale index s
  | .elementStall element => Sys2Proof.Machine.execElementStall element s
  | .groupFullSpeedEnd group => Sys2Proof.Machine.execGroupFullSpeedEnd group s
  | .elementRetryEnd element => Sys2Proof.Machine.execElementRetryEnd element s
  | .retryCountReset element => Sys2Proof.Machine.execRetryCountReset element s
  | .clearElement hdr fan index => Sys2Proof.Machine.execClearElement hdr fan index s
  | .setSprayInhibit hdr value => Sys2Proof.Machine.execSetSprayInhibit hdr value s
  | .vigilHold => Sys2Proof.Machine.execVigilHold s
  | .sprayCycle => Sys2Proof.Machine.execSprayCycle s
  | .waterDayRollover => Sys2Proof.Machine.execWaterDayRollover s
  | .energisingEdge channel => Sys2Proof.Machine.execEnergisingEdge channel s
  | .peakEnd channel => Sys2Proof.Machine.execPeakEnd channel s
  | .valveRelease channel => Sys2Proof.Machine.execValveRelease channel s
  | .dipDetected channel time depth => Sys2Proof.Machine.execDipDetected channel time depth s
  | .missingDip channel => Sys2Proof.Machine.execMissingDip channel s
  | .coilShort channel => Sys2Proof.Machine.execCoilShort channel s
  | .openCoilEnergised channel => Sys2Proof.Machine.execOpenCoilEnergised channel s
  | .openCoilReleased channel pinMv => Sys2Proof.Machine.execOpenCoilReleased channel pinMv s
  | .switchFailedOn channel currentMa => Sys2Proof.Machine.execSwitchFailedOn channel currentMa s
  | .bankOvercurrent bank hsMa => Sys2Proof.Machine.execBankOvercurrent bank hsMa s
  | .groundFault bank hsMa lsMa => Sys2Proof.Machine.execGroundFault bank hsMa lsMa s
  | .bankTripRecovery bank => Sys2Proof.Machine.execBankTripRecovery bank s
  | .driverHot bank temp => Sys2Proof.Machine.execDriverHot bank temp s
  | .driverCool bank temp => Sys2Proof.Machine.execDriverCool bank temp s
  | .dutyLimit channel uj => Sys2Proof.Machine.execDutyLimit channel uj s
  | .valveRequestRefused channel => Sys2Proof.Machine.execValveRequestRefused channel s
  | .setValve hdr channel position => Sys2Proof.Machine.execSetValve hdr channel position s
  | .clearValve hdr index bank => Sys2Proof.Machine.execClearValve hdr index bank s
  | .leakInputState input state x => Sys2Proof.Machine.execLeakInputState input state x s
  | .ropeLocation rope x => Sys2Proof.Machine.execRopeLocation rope x s
  | .massBalanceHoldoffEnd loop => Sys2Proof.Machine.execMassBalanceHoldoffEnd loop s
  | .pressureDecayEval loop => Sys2Proof.Machine.execPressureDecayEval loop s
  | .classifierConfirm loop => Sys2Proof.Machine.execClassifierConfirm loop s
  | .isolationCheckTimeout loop => Sys2Proof.Machine.execIsolationCheckTimeout loop s
  | .notHoldingRecheck loop => Sys2Proof.Machine.execNotHoldingRecheck loop s
  | .releaseLoop hdr loop => Sys2Proof.Machine.execReleaseLoop hdr loop s
  | .manyLoopsEnd => Sys2Proof.Machine.execManyLoopsEnd s
  | .rowStop hdr => Sys2Proof.Machine.execRowStop hdr s
  | .releaseRow hdr => Sys2Proof.Machine.execReleaseRow hdr s
  | .releaseFloor hdr link => Sys2Proof.Machine.execReleaseFloor hdr link s
  | .ringOpenExternal => Sys2Proof.Machine.execRingOpenExternal s
  | .ringClosedExternal => Sys2Proof.Machine.execRingClosedExternal s
  | .busOff channel => Sys2Proof.Machine.execBusOff channel s
  | .busOffRecovery channel => Sys2Proof.Machine.execBusOffRecovery channel s
  | .busOffStormEnd channel => Sys2Proof.Machine.execBusOffStormEnd channel s
  | .errorPassive channel errors tec rec_ => Sys2Proof.Machine.execErrorPassive channel errors tec rec_ s
  | .errorActive channel tec rec_ => Sys2Proof.Machine.execErrorActive channel tec rec_ s
  | .cellTransmit channel column facts => Sys2Proof.Machine.execCellTransmit channel column facts s
  | .canFrameReceived channel msg offsetNs => Sys2Proof.Machine.execCanFrameReceived channel msg offsetNs s
  | .valveStatusReceived valve dlc position cmdSeen fault => Sys2Proof.Machine.execValveStatusReceived valve dlc position cmdSeen fault s
  | .valveStatusStale valve => Sys2Proof.Machine.execValveStatusStale valve s
  | .canSend hdr channel msg => Sys2Proof.Machine.execCanSend hdr channel msg s
  | .canCancel hdr channel id => Sys2Proof.Machine.execCanCancel hdr channel id s
  | .hostMessageExpire channel slot => Sys2Proof.Machine.execHostMessageExpire channel slot s
  | .sendSlotFree channel slot => Sys2Proof.Machine.execSendSlotFree channel slot s
  | .mqTailWrite channel value => Sys2Proof.Machine.execMqTailWrite channel value s
  | .mqOverflowClear channel => Sys2Proof.Machine.execMqOverflowClear channel s
  | .newClear channel buffer => Sys2Proof.Machine.execNewClear channel buffer s
  | .claimRound facts => Sys2Proof.Machine.execClaimRound facts s
  | .claimRefreshTimeout => Sys2Proof.Machine.execClaimRefreshTimeout s
  | .claimWireStuck wireB => Sys2Proof.Machine.execClaimWireStuck wireB s
  | .strapConflict => Sys2Proof.Machine.execStrapConflict s
  | .healthSend => Sys2Proof.Machine.execHealthSend s
  | .healthReceived payload => Sys2Proof.Machine.execHealthReceived payload s
  | .partnerSilent => Sys2Proof.Machine.execPartnerSilent s
  | .markReceived payload => Sys2Proof.Machine.execMarkReceived payload s
  | .ckptReceived ckpt complete hashOk => Sys2Proof.Machine.execCkptReceived ckpt complete hashOk s
  | .checkpointStale => Sys2Proof.Machine.execCheckpointStale s
  | .takeoverBid facts => Sys2Proof.Machine.execTakeoverBid facts s
  | .restoreComplete => Sys2Proof.Machine.execRestoreComplete s
  | .swapRequestRaise source => Sys2Proof.Machine.execSwapRequestRaise source s
  | .swapReqReceived => Sys2Proof.Machine.execSwapReqReceived s
  | .handoverReceived boundary => Sys2Proof.Machine.execHandoverReceived boundary s
  | .primedReceived => Sys2Proof.Machine.execPrimedReceived s
  | .refusedReceived => Sys2Proof.Machine.execRefusedReceived s
  | .handoverTimeout => Sys2Proof.Machine.execHandoverTimeout s
  | .pairSwap hdr => Sys2Proof.Machine.execPairSwap hdr s
  | .pairHold hdr value => Sys2Proof.Machine.execPairHold hdr value s
  | .partnerAttestRetry => Sys2Proof.Machine.execPartnerAttestRetry s
  | .drbgHealthFailure => Sys2Proof.Machine.execDrbgHealthFailure s
  | .drbgResume => Sys2Proof.Machine.execDrbgResume s
  | .ownerEnrol hdr facts => Sys2Proof.Machine.execOwnerEnrol hdr facts s
  | .enrolReboot => Sys2Proof.Machine.execEnrolReboot s
  | .setDeviceCert hdr part last bytes facts => Sys2Proof.Machine.execSetDeviceCert hdr part last bytes facts s
  | .getReleaseNonce hdr => Sys2Proof.Machine.execGetReleaseNonce hdr s
  | .releaseNonceExpiry => Sys2Proof.Machine.execReleaseNonceExpiry s
  | .ownerRelease hdr rootHash sigOk nonce => Sys2Proof.Machine.execOwnerRelease hdr rootHash sigOk nonce s
  | .getVersion session => Sys2Proof.Machine.execGetVersion session s
  | .getCapabilities session => Sys2Proof.Machine.execGetCapabilities session s
  | .negotiateAlgorithms session offersEcdsaP384 offersSha384 => Sys2Proof.Machine.execNegotiateAlgorithms session offersEcdsaP384 offersSha384 s
  | .getDigests session => Sys2Proof.Machine.execGetDigests session s
  | .getCertificate session slot offset length => Sys2Proof.Machine.execGetCertificate session slot offset length s
  | .challenge session slot nonce => Sys2Proof.Machine.execChallenge session slot nonce s
  | .getMeasurements session index signed nonce => Sys2Proof.Machine.execGetMeasurements session index signed nonce s
  | .tlsSessionOpen client => Sys2Proof.Machine.execTlsSessionOpen client s
  | .sessionIdleClose session => Sys2Proof.Machine.execSessionIdleClose session s
  | .sessionLockoutEnd session => Sys2Proof.Machine.execSessionLockoutEnd session s
  | .telemetryBlockSeal => Sys2Proof.Machine.execTelemetryBlockSeal s
  | .blockNotSealed => Sys2Proof.Machine.execBlockNotSealed s
  | .logWrite fail => Sys2Proof.Machine.execLogWrite fail s
  | .maintStart hdr code duration target receives => Sys2Proof.Machine.execMaintStart hdr code duration target receives s
  | .maintStop hdr id => Sys2Proof.Machine.execMaintStop hdr id s
  | .activityEnd index => Sys2Proof.Machine.execActivityEnd index s
  | .activityEntryFree index => Sys2Proof.Machine.execActivityEntryFree index s
  | .strokeValveClose index => Sys2Proof.Machine.execStrokeValveClose index s
  | .strokeFlowCheck index => Sys2Proof.Machine.execStrokeFlowCheck index s
  | .strokeFloorTimeout index => Sys2Proof.Machine.execStrokeFloorTimeout index s
  | .drainFillEndPressure index => Sys2Proof.Machine.execDrainFillEndPressure index s
  | .selfTestResult index wet x => Sys2Proof.Machine.execSelfTestResult index wet x s
  | .firmwareExchangeReport index verified bytes => Sys2Proof.Machine.execFirmwareExchangeReport index verified bytes s
  | .maintWindowTimeout window => Sys2Proof.Machine.execMaintWindowTimeout window s
  | .ethLinkUp port => Sys2Proof.Machine.execEthLinkUp port s
  | .ethLinkDown port => Sys2Proof.Machine.execEthLinkDown port s
  | .dhcpLease port ipv4 prefixLen => Sys2Proof.Machine.execDhcpLease port ipv4 prefixLen s
  | .linkLocalFallback port ipv4 => Sys2Proof.Machine.execLinkLocalFallback port ipv4 s
  | .dhcpRetry port => Sys2Proof.Machine.execDhcpRetry port s
  | .ethFloodDiscard port frames tagged => Sys2Proof.Machine.execEthFloodDiscard port frames tagged s
  | .read session msgId address bytes => Sys2Proof.Machine.execRead session msgId address bytes s
  | .write session msgId address data => Sys2Proof.Machine.execWrite session msgId address data s
  | .subscribe session msgId topic index on => Sys2Proof.Machine.execSubscribe session msgId topic index on s
  | .ping session msgId => Sys2Proof.Machine.execPing session msgId s
  | .notify session => Sys2Proof.Machine.execNotify session s
  | .setMode hdr mode => Sys2Proof.Machine.execSetMode hdr mode s
  | .setLimit hdr scope loop limit => Sys2Proof.Machine.execSetLimit hdr scope loop limit s
  | .schedCommit hdr body => Sys2Proof.Machine.execSchedCommit hdr body s
  | .maintReleaseHeld hdr => Sys2Proof.Machine.execMaintReleaseHeld hdr s
  | .imageBegin hdr start => Sys2Proof.Machine.execImageBegin hdr start s
  | .imageEraseComplete => Sys2Proof.Machine.execImageEraseComplete s
  | .imageWrite hdr offset bytes => Sys2Proof.Machine.execImageWrite hdr offset bytes s
  | .imageEnd hdr facts => Sys2Proof.Machine.execImageEnd hdr facts s
  | .imageUpdateTimeout => Sys2Proof.Machine.execImageUpdateTimeout s
  | .mgmtReset hdr force => Sys2Proof.Machine.execMgmtReset hdr force s
  | .setFieldbus hdr cfg count => Sys2Proof.Machine.execSetFieldbus hdr cfg count s
  | .modbusReadHolding conn address count => Sys2Proof.Machine.execModbusReadHolding conn address count s
  | .modbusReadInput conn address count => Sys2Proof.Machine.execModbusReadInput conn address count s
  | .modbusWriteSingle conn source address value => Sys2Proof.Machine.execModbusWriteSingle conn source address value s
  | .modbusWriteMultiple conn source address values => Sys2Proof.Machine.execModbusWriteMultiple conn source address values s
  | .modbusConnectionIdle conn => Sys2Proof.Machine.execModbusConnectionIdle conn s
  | .readProperty item => Sys2Proof.Machine.execReadProperty item s
  | .readPropertyMultiple items => Sys2Proof.Machine.execReadPropertyMultiple items s
  | .writeProperty source item value => Sys2Proof.Machine.execWriteProperty source item value s
  | .whoIs range => Sys2Proof.Machine.execWhoIs range s
  | .inputOvervoltage => Sys2Proof.Machine.execInputOvervoltage s
  | .inletOver => Sys2Proof.Machine.execInletOver s
  | .inletOverClear => Sys2Proof.Machine.execInletOverClear s
  | .internalFanFailed fan => Sys2Proof.Machine.execInternalFanFailed fan s
  | .internalFanRetry fan => Sys2Proof.Machine.execInternalFanRetry fan s
  | .internalFanRestored fan => Sys2Proof.Machine.execInternalFanRestored fan s
  | .socThermalTrip => Sys2Proof.Machine.execSocThermalTrip s
  | .delayRespReceived head txRow rxMaster => Sys2Proof.Machine.execDelayRespReceived head txRow rxMaster s
  | .ptpMessageIgnored => Sys2Proof.Machine.execPtpMessageIgnored s
  | .releasingComplete channel currentMa => Sys2Proof.Machine.execReleasingComplete channel currentMa s
  | .rowSensorCauseEnd => Sys2Proof.Machine.execRowSensorCauseEnd s
  | .announcementExpiry => Sys2Proof.Machine.execAnnouncementExpiry s
  | .finalCheckpointLoaded => Sys2Proof.Machine.execFinalCheckpointLoaded s
  | .standbySelfTest test index pass => Sys2Proof.Machine.execStandbySelfTest test index pass s
  | .tlsKeyUpdate session => Sys2Proof.Machine.execTlsKeyUpdate session s
  | .sessionClose session => Sys2Proof.Machine.execSessionClose session s
  | .malformedMessage session msgId badHeader => Sys2Proof.Machine.execMalformedMessage session msgId badHeader s
  | .spdmUnsupportedRequest session => Sys2Proof.Machine.execSpdmUnsupportedRequest session s
  | .enrolNChange low => Sys2Proof.Machine.execEnrolNChange low s
  | .modbusConnectionOpen => Sys2Proof.Machine.execModbusConnectionOpen s

end Sys2Proof.Machine
end

