-- ==== Sys2Proof/Safety.lean ====
section
/-! DEFINITION. The conditions in which statements speak of a safe run: bounds that every state keeps, and the
conditions under which a request is taken and accepted (R538, R583, R598). -/

namespace Sys2Proof.Machine

/-- The log queue and the last-words buffer stay within their sizes (R559, R562). -/
abbrev State.logBounded (s : State) : Prop := s.log.queue.length ≤ 1024 ∧ s.log.lastWords.length ≤ 64

/-- The management of a running core takes a request of session i in this frame: the session is open and every earlier
message of it has its answer (R582), the Guard phase has not begun, and fewer than 256 requests have been taken and none
waits (R583). -/
abbrev arrivesNow (s : State) (i : Nat) : Prop :=
  coreRuns s = true ∧ (session s i).isOpen = true ∧ (session s i).outbox = [] ∧ s.mgmt.guardDone = false ∧
  s.mgmt.taken < 256 ∧ s.mgmt.waiting = []

/-- One control packet of an operation has left port p (R352, R353, R362): its header, and NUM16, TEL_MISSING and the
control number in its payload. -/
def ctlSent (s t : State) (p op num : Nat) (missing : Bool) : Prop :=
  ∃ (b : List Nat) (h : PktHead), t.sent = .link p b :: s.sent ∧ b.take 8 = headBytes h 8 ∧ h.type = 15 ∧ h.op = op ∧
    h.dir = outDir s p ∧ h.auth = (lport s p).session ∧
    (b.drop 8).take 8 = leBytes 2 num ++ [b2n missing, 0] ++ leBytes 4 (lport s p).ctlSend

/-- The header of a received packet is taken by port p, and names a control packet of an operation (R352, R362). -/
abbrev controlTaken (s : State) (p op : Nat) (head : List Nat) : Prop :=
  headVerdict s p (parseHead head) = .taken ∧ (parseHead head).type = 15 ∧ (parseHead head).op = op

/-- NUM16 and the number of a control packet (R353). -/
abbrev ctlNum16 (payload : List Nat) : Nat := leNat (payload.take 2)
abbrev ctlNumber (payload : List Nat) : Nat := leNat ((payload.drop 4).take 4)

/-- Steps 1 to 7 of R538 with the lockout of R540 and the role of R598, condition by condition. -/
abbrev headerPasses (s : State) (h : ReqHdr) (b : ReqBody) : Prop :=
  mayRequest (session s h.session).role h b = true ∧
  (tenantKeyed b = true ∨ facilityKind b = true ∧ servedByStandby b = false → s.pow.plantControl = true) ∧
  (namesTenant b = true → h.tenant < 256 ∧ (tenantCfg s h.tenant).present = true ∧ h.tgen = (tenantSt s h.tenant).gen) ∧
  (h.tenantAuth = true → (session s h.session).lockout = none ∧ h.tagOk = true ∧ wallValid s = true ∧
    (tenantSec s h.tenant).lastNonce < h.nonce) ∧
  (h.tenantAuth = true ∨ facilityKind b = true ∧ h.issued ≠ 0 → issuedInTime s h = true)

/-- A request is taken now, passes the header checks and the checks of its own rule. -/
abbrev accepts (s : State) (q : Request) : Prop :=
  arrivesNow s q.hdr.session ∧ headerPasses s q.hdr q.body ∧ ownCheck s q.hdr q.body = 0

/-- What holds after a request's answer besides its own effect: one answer with CODE, EFFECT_FRAME and data, and one
more request taken; only management, the security block and what is sent have changed. -/
def answered (s t : State) (h : ReqHdr) (code effect : Nat) (data : List Nat) : Prop :=
  t.sent = .message h.session (requestResp s h code effect data) :: s.sent ∧ t.mgmt.taken = s.mgmt.taken + 1 ∧
  t.mgmt.waiting = [] ∧ (session t h.session).outbox = [] ∧
  (session t h.session).messages = cnt (session s h.session).messages

/-- A request accepted for the next boundary: answered OK with the frame that follows, and held among the accepted. -/
def acceptedForBoundary (s : State) (q : Request) (o : Host.Outcome State Fault Refusal) : Prop :=
  ∃ t, o = .next t ∧ answered s t q.hdr 0 (s.seq.frame + 1) [] ∧ t.mgmt.accepted = s.mgmt.accepted ++ [q] ∧
    (q.hdr.tenantAuth = true → q.hdr.tenant < s.sec.tenants.length →
      (tenantSec t q.hdr.tenant).lastNonce = q.hdr.nonce) ∧
    (∀ i, i ≠ q.hdr.session → session t i = session s i) ∧
    t = { s with mgmt := t.mgmt, sec := t.sec, sent := t.sent }

/-- A request refused with a code: answered with it and EFFECT_FRAME 0, and none of its effect. -/
def refusedWith (s : State) (q : Request) (code : Nat) (o : Host.Outcome State Fault Refusal) : Prop :=
  ∃ t, o = .next t ∧ t.sent = .message q.hdr.session (requestResp s q.hdr code 0 []) :: s.sent ∧
    t.mgmt.taken = s.mgmt.taken + 1 ∧
    t.mgmt.accepted = s.mgmt.accepted ∧ t.sched = s.sched ∧ t.plan = s.plan ∧
    t.heat.pages = s.heat.pages ∧ t.heat.sites = s.heat.sites ∧ t.leak.loops = s.leak.loops ∧
    t = { s with mgmt := t.mgmt, sec := t.sec, heat := t.heat, maint := t.maint, leak := t.leak, sent := t.sent,
                 log := t.log }

end Sys2Proof.Machine
end

