-- ==== Sys2Proof/Certificates/Slice0/Obligations.lean ====
section
/-! DEFINITION. The statements for the provers. -/

open Sys2Proof Sys2Proof.Machine

/-- Every command of the queue, taken from its front: a step runs it on the state with the queue's rest, and on an empty
queue the block idles (the model's queue and idling: log entry 2). -/
def Obligations.StepRunsTheFrontCommand : Prop :=
  (∀ (c : Instr) (rest : List Instr) (s : State), s.pending = c :: rest →
    step s = exec c { s with pending := rest }) ∧
  (∀ s : State, s.pending = [] → step s = .next s) ∧
  (∀ (s : State) (nbits w : Nat), s.withFetchWord nbits w = s)

/-- The boundary and the four phases of a frame (R40, R41, R42, R44, R55): while the module operates a boundary ends the
frame before and begins the next, numbered one higher (0 for the first after READY), no client of it has overrun yet, and
row time has advanced by 100 us and the rate adjustment; each phase does its work once, in its place, and moves neither
the number nor row time. The Guard phase latches the status window and toggles the heartbeat. Outside operation the
boundary and the Guard phase run too. That a phase which has passed changes nothing is the model's reading (log entry 4). -/
def Obligations.FrameBoundaryAndPhases : Prop :=
  (∀ s : State, sequencerRuns s = true → s.pow.waiting = none → operating s = true → s.seq.frameValid = true →
    -200000 ≤ s.wall.rate →
    ∃ t, exec .frameBoundary s = .next t ∧ t = frameBegins (advanceFrame (frameEnds s)) ∧
      t.seq.frame = s.seq.frame + 1 ∧ t.seq.frameValid = true ∧ t.seq.phase = 0 ∧ t.seq.overran = [] ∧
      t.seq.overPrev = s.seq.overran ∧
      (t.seq.rowT : Int) = s.seq.rowT + 1000000000 + (if s.seq.backupClock then 0 else s.wall.rate)) ∧
  (∀ s : State, sequencerRuns s = true → s.pow.waiting = none → operating s = true → s.seq.frameValid = false →
    ∃ t, exec .frameBoundary s = .next t ∧ t = frameBegins (advanceFrame s) ∧ t.seq.frame = 0 ∧
      t.seq.frameValid = true ∧ t.seq.phase = 0) ∧
  (∀ s : State, sequencerRuns s = true → s.pow.waiting = none → operating s = false → s.seq.frameValid = true →
    ∃ t, exec .frameBoundary s = .next t ∧ t = idleBegins (advanceFrame s) ∧ t.seq.frame = s.seq.frame + 1 ∧
      t.seq.phase = 0) ∧
  (∀ s : State, s.seq.frameValid = true → (advanceFrame s).seq.frame = s.seq.frame + 1) ∧
  (∀ s : State, s.seq.frameValid = false →
    (advanceFrame s).seq.frame = 0 ∧ (advanceFrame s).seq.frameValid = s.pow.ready) ∧
  (∀ s : State, s.seq.backupClock = false → -200000 ≤ s.wall.rate →
    ((advanceFrame s).seq.rowT : Int) = s.seq.rowT + 1000000000 + s.wall.rate) ∧
  (∀ s : State, s.seq.backupClock = true → (advanceFrame s).seq.rowT = s.seq.rowT + 1000000000) ∧
  (∀ (s : State) (r : Readings), operating s = true → s.seq.frameValid = true → s.seq.phase = 0 →
    ∃ t, exec (.ingestPhase r) s = .next t ∧ t = phaseDone 0 (ingest r (missStopped .ingest s)) ∧ t.seq.phase = 1 ∧
      t.seq.frame = s.seq.frame ∧ t.seq.rowT = s.seq.rowT ∧
      ∀ c, c ∈ t.seq.overran ↔ c ∈ s.seq.overran ∨ c ∈ stoppedClients .ingest s) ∧
  (∀ (s : State) (l : List Nat), operating s = true → s.seq.frameValid = true → s.seq.phase ≤ 1 →
    ∃ t, exec (.computePhase l) s = .next t ∧ t = phaseDone 1 (compute l (missStopped .compute s)) ∧ t.seq.phase = 2 ∧
      t.seq.frame = s.seq.frame ∧ t.seq.rowT = s.seq.rowT ∧
      ∀ c, c ≠ .engine → (c ∈ t.seq.overran ↔ c ∈ s.seq.overran ∨ c ∈ stoppedClients .compute s)) ∧
  (∀ s : State, operating s = true → s.seq.frameValid = true → s.seq.phase ≤ 2 →
    ∃ t, exec .emitPhase s = .next t ∧ t = phaseDone 2 (emit (missStopped .emit s)) ∧ t.seq.phase = 3 ∧
      t.seq.frame = s.seq.frame ∧ t.seq.rowT = s.seq.rowT ∧
      ∀ c, c ∈ t.seq.overran ↔ c ∈ s.seq.overran ∨ c ∈ stoppedClients .emit s) ∧
  (∀ s : State, operating s = true → s.seq.frameValid = true → s.seq.phase ≤ 3 →
    s.seq.overran.contains .bookkeeping = false → stoppedClients .guard s = [] →
    ∃ t, exec .guardPhase s = .next t ∧ t = phaseDone 3 (bookkeep (evaluateOverruns s)) ∧ t.seq.phase = 4 ∧
      t.seq.frame = s.seq.frame ∧ t.seq.rowT = s.seq.rowT ∧ t.latch.isSome = true ∧
      t.pow.heartbeat = !s.pow.heartbeat ∧ t.pow.lastHeartbeat = rowNs s ∧ t.mgmt.accepted = [] ∧
      t.mgmt.committed = s.mgmt.committed ++ s.mgmt.accepted ∧ t.mgmt.guardDone = true) ∧
  (∀ s : State, sequencerRuns s = true → s.pow.waiting = none → operating s = false → s.seq.phase ≤ 3 →
    ∃ t, exec .guardPhase s = .next t ∧ t.seq = { s.seq with phase := 4 } ∧ t.latch.isSome = true ∧
      t.pow = { s.pow with heartbeat := !s.pow.heartbeat, lastHeartbeat := rowNs s } ∧
      t.mgmt = { s.mgmt with committed := s.mgmt.committed ++ s.mgmt.accepted, accepted := [], guardDone := true }) ∧
  (∀ (s : State) (r : Readings) (l : List Nat), 4 ≤ s.seq.phase →
    exec (.ingestPhase r) s = .next s ∧ exec (.computePhase l) s = .next s ∧ exec .emitPhase s = .next s ∧
    exec .guardPhase s = .next s)

/-- R45, R46: a client that misses its latest completion is marked, counted once, and its phase counted once in the frame
however many of its clients overrun; nothing but the sequencer's counts and the event of R74 changes. A second report of
the same client in a frame changes nothing. -/
def Obligations.ClientOverrunCountsOnce : Prop :=
  (∀ (s : State) (c : Client), operating s = true → s.seq.frameValid = true → s.seq.phase ≤ c.phase.index →
    clientPowered c s = true → s.seq.overran.contains c = false →
    ∃ t, exec (.clientOverrun c) s = .next t ∧ t.seq = seqOverrun s.seq c ∧
      t = { s with seq := t.seq, log := t.log } ∧
      (s.seq.overPrev.contains c = true → t.log = s.log)) ∧
  (∀ (s : State) (c : Client), s.seq.overran.contains c = true → exec (.clientOverrun c) s = .next s) ∧
  (∀ (q : Sequencer) (c : Client), (∀ d ∈ q.overran, d.phase ≠ c.phase) → q.consec.length = 4 → q.phaseOver.length = 4 →
    (seqOverrun q c).consec.getD c.phase.index 0 = min (q.consec.getD c.phase.index 0 + 1) 255 ∧
    (seqOverrun q c).phaseOver.getD c.phase.index 0 = cnt (q.phaseOver.getD c.phase.index 0)) ∧
  (∀ (q : Sequencer) (c d : Client), c.phase = d.phase →
    (seqOverrun (seqOverrun q c) d).consec = (seqOverrun q c).consec ∧
    (seqOverrun (seqOverrun q c) d).phaseOver = (seqOverrun q c).phaseOver) ∧
  (∀ (q : Sequencer) (c : Client), (seqOverrun q c).engineConsec = q.engineConsec + (if c = .engine then 1 else 0))

/-- Safe hold and clocks (R47, R53): the 16th consecutive overrun of a phase leads at the next boundary to SAFE_HOLD, or
to HOLD_LOCKED with three entries in the last 600 s already, and every running activity is aborted; 10,000 clean frames
lead back to NORMAL, and a stopped plan waits again; HOLD_LOCKED is left by neither command. The loss of a PLL's lock stops its clock, and event 0x1040 is
logged once per loss; a relock starts the clock, and a value that a crossing into it held is delivered then (R51). The engine has a PLL for each of its two clocks (log entry 5). -/
def Obligations.SafeHoldAndPllLoss : Prop :=
  (∀ s : State, operating s = true → s.seq.frameValid = true → s.seq.phase = 0 → s.seq.state = .normal →
    s.seq.consec.any (fun n => 16 ≤ n) = true →
    ∃ t, exec .safeHoldEnter s = .next t ∧ t.seq = seqEnterHold s.seq ∧ t.plan.state = .stopped ∧
      t.plan.inForce = s.plan.inForce ∧
      t = abortAll 4 (cancelAllPromises (stopPlan
        (post (if (seqEnterHold s.seq).state = .safeHold then 0x1030 else 0x1032)
          { s with seq := seqEnterHold s.seq })))) ∧
  (∀ q : Sequencer, (seqEnterHold q).state = .safeHold ↔
    (q.holdEntries.filter fun f => decide (q.frame - f < 6000000)).length < 3) ∧
  (∀ q : Sequencer, (seqEnterHold q).state ≠ .normal ∧ (seqEnterHold q).clean = 0 ∧
    (seqEnterHold q).holdCount = cnt q.holdCount ∧ (seqEnterHold q).frame = q.frame) ∧
  (∀ s : State, operating s = true → s.seq.phase = 0 → s.seq.state = .safeHold → 10000 ≤ s.seq.clean →
    ∃ t, exec .safeHoldExit s = .next t ∧ t.seq = { s.seq with state := .normal, clean := 0 } ∧
      t.heat = s.heat ∧ t.ctl = s.ctl ∧ t.pump = { s.pump with normalFrame := some s.seq.frame } ∧
      (s.plan.state ≠ .stopped → t.plan = s.plan ∧ t.log = logPost s.log (mkEvent s 0x1031 0xFFFF 0xFFFF [])) ∧
      (s.plan.state = .stopped → t.plan.state = .wait ∧ t.plan.infeasibleRun = 0 ∧ t.plan.inForce = s.plan.inForce ∧
        t.log = logPost (logPost s.log (mkEvent s 0x1031 0xFFFF 0xFFFF [])) (mkEvent s 0x5051 0xFFFF 0xFFFF []))) ∧
  (∀ s : State, s.seq.state = .safeHold → s.seq.clean < 10000 → exec .safeHoldExit s = .next s) ∧
  (∀ s : State, s.seq.state = .holdLocked → exec .safeHoldEnter s = .next s ∧ exec .safeHoldExit s = .next s) ∧
  (∀ (s : State) (p : Pll), sequencerRuns s = true → s.seq.unlocked.contains p = false →
    ∃ t, exec (.pllLossOfLock p false) s = .next t ∧ t.seq.unlocked = p :: s.seq.unlocked ∧
      t.log = logPost s.log (mkEvent s 0x1040 0xFFFF 0xFFFF []) ∧ t = { s with seq := t.seq, log := t.log }) ∧
  (∀ (s : State) (p : Pll), s.seq.unlocked.contains p = true → exec (.pllLossOfLock p false) s = .next s) ∧
  (∀ s : State, sequencerRuns s = true → s.eng.fastLocked = true →
    ∃ t, exec (.pllLossOfLock .engine true) s = .next t ∧ t.eng = { s.eng with fastLocked := false } ∧
      t.log = logPost s.log (mkEvent s 0x1040 0xFFFF 0xFFFF []) ∧ t.seq = s.seq) ∧
  (∀ (s : State) (p : Pll), ∃ t, exec (.pllRelock p false) s = .next t ∧ p ∉ t.seq.unlocked ∧
    (∀ q, q ≠ p → (q ∈ t.seq.unlocked ↔ q ∈ s.seq.unlocked)) ∧
    (p ≠ .analog → t.plant = s.plant) ∧ (p ≠ .can → t.can = s.can) ∧
    (p = .analog → t.plant = { s.plant with aoOut := s.plant.aoHeld.getD s.plant.aoOut, aoHeld := none }) ∧
    (p = .can → t.can = { s.can with force := s.can.held.getD s.can.force, held := none }) ∧
    t = { s with seq := t.seq, plant := t.plant, can := t.can }) ∧
  (∀ s : State, ∃ t, exec (.pllRelock .engine true) s = .next t ∧ t = { s with eng := { s.eng with fastLocked := true } }) ∧
  (∀ (s : State) (c : Client) (p : Pll), c.pll = some p → (c ≠ .engine ∨ s.eng.clock ≠ 2) → p ∈ s.seq.unlocked →
    clientRuns c s = false)

/-- PTP (R59 to R65): a Sync of the master in use is measured and ends holdover; up to 50 ms the servo acts within 200 ppm,
above it the rate is held and the eighth in a row asks for a step; no Sync changes row time or the frame. A Sync outside
the support of R59 is ignored and counted. The answer to the Delay_Req that is outstanding gives the path delay. The
servo's own parts are free values (log entry 6); that a Delay_Req leaves after a Sync while none is outstanding, and that
a Sync of another sender does nothing, are the model's choices (log entries 164, 165). -/
def Obligations.SyncOffsetsSlewOrStep : Prop :=
  (∀ (s : State) (m : Announce) (origin corr rx log : Int), sequencerRuns s = true → -7 ≤ log → log ≤ 0 →
    s.wall.master = some m →
    ∃ t, exec (.syncReceived s.wall.activePort ⟨s.img.topology.ptpDomain, m.source⟩ origin corr rx log) s = .next t ∧
      t.wall.offsetNs = origin + corr + s.wall.pathDelay - (rx + s.wall.offset) ∧ t.wall.holdover = false ∧
      t.wall.syncCount = cnt s.wall.syncCount ∧ t.wall.offset = s.wall.offset ∧ t.wall.epoch = s.wall.epoch ∧
      t.wall.syncOrigin = origin + corr ∧ t.wall.syncRx = rx ∧
      t.seq = s.seq ∧ t.sched = s.sched ∧ t.free = s.free + 1 ∧ t.wall.delayOpen = true ∧
      (s.wall.delayOpen = true → t.sent = s.sent ∧ t.wall.delaySeq = s.wall.delaySeq) ∧
      (s.wall.delayOpen = false →
        t.sent = .ptpDelayReq s.wall.activePort s.img.topology.ptpDomain t.wall.delaySeq :: s.sent ∧
        t.wall.delaySeq = (s.wall.delaySeq + 1) % 65536) ∧
      (s.wall.holdover = false → t.log = s.log) ∧
      (s.wall.holdover = true → t.log = logPost s.log (mkEvent s 0x1003 0xFFFF 0xFFFF []))) ∧
  (∀ (n f : Nat) (off : Int) (w : Wall), w.arb = false → off.natAbs ≤ 50000000 →
    -200000 ≤ (wallSync n f off w).rate ∧ (wallSync n f off w).rate ≤ 200000 ∧ (wallSync n f off w).bigRun = 0) ∧
  (∀ (n f : Nat) (off : Int) (w : Wall), w.arb = false → 50000000 < off.natAbs →
    (wallSync n f off w).rate = w.rate ∧
    (w.bigRun + 1 < 8 → (wallSync n f off w).step = w.step ∧ (wallSync n f off w).bigRun = w.bigRun + 1) ∧
    (8 ≤ w.bigRun + 1 → (wallSync n f off w).step = some off)) ∧
  (∀ (n f : Nat) (off : Int) (w : Wall), w.arb = true → (wallSync n f off w).rate = w.rate) ∧
  (∀ (s : State) (port domain source : Nat) (origin corr rx log : Int), sequencerRuns s = true →
    (domain ≠ s.img.topology.ptpDomain ∨ log < -7 ∨ 0 < log) →
    exec (.syncReceived port ⟨domain, source⟩ origin corr rx log) s =
      .next { s with wall := { s.wall with ignored := cnt s.wall.ignored } }) ∧
  (∀ (s : State) (port source : Nat) (origin corr rx log : Int), sequencerRuns s = true → -7 ≤ log → log ≤ 0 →
    fromMaster s port source = false →
    exec (.syncReceived port ⟨s.img.topology.ptpDomain, source⟩ origin corr rx log) s = .next s) ∧
  (∀ s : State, sequencerRuns s = true →
    exec .ptpMessageIgnored s = .next { s with wall := { s.wall with ignored := cnt s.wall.ignored } }) ∧
  (∀ (s : State) (r : DelayResp) (m : Announce), sequencerRuns s = true → s.wall.master = some m →
    r.domain = s.img.topology.ptpDomain → r.port = s.wall.activePort → r.source = m.source → r.ours = true →
    s.wall.delayOpen = true → r.seq = s.wall.delaySeq →
    exec (.delayRespReceived r.toDelayHead r.txRow r.rxMaster) s = .next { s with wall := { s.wall with
      delayOpen := false
      pathDelay := ((s.wall.syncRx + s.wall.offset - s.wall.syncOrigin) +
        (r.rxMaster - r.correction - (r.txRow + s.wall.offset))) / 2 } }) ∧
  (∀ (s : State) (r : DelayResp), r.domain = s.img.topology.ptpDomain → delayAnswers s r = false →
    exec (.delayRespReceived r.toDelayHead r.txRow r.rxMaster) s = .next s)

/-- Masters (R59, R60, R63 to R65): the best of the qualified senders becomes the master, a change of grandmaster and the
ARB timescale are logged; a sender qualifies by two Announce messages within four announce intervals (the standard's rule,
log entry 164); the receipt timeout takes the next best sender, or without one begins holdover with the frequency part
alone; one further timeout moves the active port; 600 s at the
rate limit with the offset at 50 µs or more mark wall time DEGRADED; an offset below 10 µs clears the mark. -/
def Obligations.AnnounceHoldoverAndMarks : Prop :=
  (∀ (s : State) (a : Announce) (f : ForeignMaster), sequencerRuns s = true → announceEligible s a = true →
    bestMaster (noteForeign a s) = some f → (sameSender f.data a = true ∨ s.wall.master = none) →
    ∃ t, exec (.announceReceived a) s = .next t ∧ t.wall.master = some f.data ∧ t.wall.gmIdentity = f.data.gm ∧
      t.wall.utcOffset = f.data.utcOffset ∧ t.wall.arb = !f.data.ptpTimescale ∧ t.wall.offset = s.wall.offset ∧
      t.wall.epoch = s.wall.epoch ∧ t.seq = s.seq ∧
      (s.wall.gmIdentity = f.data.gm → f.data.ptpTimescale = true → t.log = s.log) ∧
      (s.wall.gmIdentity ≠ f.data.gm → s.wall.gmIdentity ≠ 0 → f.data.ptpTimescale = true →
        t.log = logPost s.log (mkEvent s 0x1005 0xFFFF 0xFFFF [])) ∧
      (s.wall.gmIdentity = f.data.gm → f.data.ptpTimescale = false → s.wall.arb = false →
        t.log = logPost s.log (mkEvent s 0x1006 0xFFFF 0xFFFF []))) ∧
  (∀ (s : State) (a b : Announce) (t0 : Nat), announceEligible s a = true → s.wall.foreign = [⟨b, [t0]⟩] →
    sameSender b a = true → rowNs s ≤ t0 + 4 * a.intervalNs →
    bestMaster (noteForeign a s) = some ⟨a, [rowNs s, t0]⟩) ∧
  (∀ (s : State) (a : Announce), sequencerRuns s = true → announceEligible s a = true → s.wall.foreign = [] →
    s.wall.master = none →
    exec (.announceReceived a) s = .next { s with wall := { s.wall with foreign := [⟨a, [rowNs s]⟩] } }) ∧
  (∀ (s : State) (a : Announce), sequencerRuns s = true → a.domain ≠ s.img.topology.ptpDomain →
    exec (.announceReceived a) s = .next { s with wall := { s.wall with ignored := cnt s.wall.ignored } }) ∧
  (∀ (s : State) (f : ForeignMaster), sequencerRuns s = true → s.wall.holdover = false →
    s.wall.lastAnnounce + 3 * s.wall.announceNs ≤ rowNs s → bestMaster (dropMaster s) = some f →
    ∃ t, exec .announceReceiptTimeout s = .next t ∧ t.wall.master = some f.data ∧ t.wall.gmIdentity = f.data.gm ∧
      t.wall.holdover = false ∧ t.wall.rate = s.wall.rate) ∧
  (∀ s : State, sequencerRuns s = true → s.wall.holdover = false → s.wall.lastAnnounce + 3 * s.wall.announceNs ≤ rowNs s →
    bestMaster (dropMaster s) = none →
    ∃ t, exec .announceReceiptTimeout s = .next t ∧ t.wall.holdover = true ∧ t.wall.master = none ∧
      t.wall.freqPart = s.wall.freqPart ∧ t.wall.phasePart = 0 ∧ t.wall.epoch = s.wall.epoch ∧
      t.wall.rate = clampI (-200000) 200000 s.wall.freqPart ∧
      t.log = logPost s.log (mkEvent s 0x1002 0xFFFF 0xFFFF [])) ∧
  (∀ s : State, s.wall.holdover = true → s.wall.master = none → s.wall.holdoverSince + 3 * s.wall.announceNs ≤ rowNs s →
    exec .ptpPortTakeover s =
      .next { s with wall := { s.wall with activePort := 1 - s.wall.activePort, holdoverSince := rowNs s } }) ∧
  (∀ (s : State) (f : Nat), s.wall.limitSince = some f → f + 6000000 < s.seq.frame → 200000 ≤ s.wall.rate.natAbs →
    s.wall.degraded = false →
    ∃ t, exec .wallDegraded s = .next t ∧ t.wall = { s.wall with degraded := true } ∧
      t.log = logPost s.log (mkEvent s 0x1007 0xFFFF 0xFFFF []) ∧ t = { s with wall := t.wall, log := t.log }) ∧
  (∀ (s : State) (f : Nat), s.wall.limitSince = some f → s.seq.frame ≤ f + 6000000 → exec .wallDegraded s = .next s) ∧
  (∀ s : State, (s.wall.limitSince = none ∨ s.wall.rate.natAbs < 200000) → exec .wallDegraded s = .next s) ∧
  (∀ (n : Nat) (off : Int) (w : Wall), w.rate.natAbs = 200000 → 50000 ≤ off.natAbs →
    (trackLimit n off w).limitSince = some (w.limitSince.getD n)) ∧
  (∀ (n : Nat) (off : Int) (w : Wall), (w.rate.natAbs < 200000 ∨ off.natAbs < 50000) → (trackLimit n off w).limitSince = none) ∧
  (∀ (n f : Nat) (off : Int) (w : Wall), w.arb = false → off.natAbs < 10000 → (wallSync n f off w).degraded = false) ∧
  (∀ (n f : Nat) (off : Int) (w : Wall), 10000 ≤ off.natAbs → (wallSync n f off w).degraded = w.degraded) ∧
  (∀ (n f : Nat) (off : Int) (w : Wall), w.arb = false → off.natAbs ≤ 50000000 →
    (wallSync n f off w).limitSince = if (wallSync n f off w).rate.natAbs < 200000 ∨ off.natAbs < 50000 then none
      else some (w.limitSince.getD f))

/-- Time epochs and the schedule (R57, R70 to R72): an increment of the epoch rewrites WALL_OFFSET by the offset that
waits, is kept in the history, and row time and the frame stay as they are; a step confirmed before the first lock
rewrites WALL_OFFSET alone, with its event; the history forgets records of 25 h and more;
a slot is freed 10 s after its entry left the pending state, and every other entry stays as it is. A plan epoch boundary
(R30, R178) takes the mode and the limits requested for it; in a standby it samples only. -/
def Obligations.EpochsAndScheduleUpkeep : Prop :=
  (∀ (s : State) (d : Int), sequencerRuns s = true → s.seq.phase = 0 → s.wall.step = some d →
    s.wall.stepAt < s.seq.rowT → (s.wall.ptpLocked = true ∨ s.wall.epoch ≠ 0) →
    ∃ t, exec .timeEpochIncrement s = .next t ∧ t.wall.offset = s.wall.offset + d ∧
      t.wall.epoch = (s.wall.epoch + 1) % 4294967296 ∧ t.wall.step = none ∧ t.seq = s.seq ∧
      t = commitImageSchedule ((List.range s.sched.table.length).foldl (fun u i => reconvert i u)
        (reconvertCommits (if s.wall.epoch = 0 ∧ d = 0 then newEpoch d s else post 0x1004 (newEpoch d s))))) ∧
  (∀ (s : State) (d : Int), sequencerRuns s = true → s.seq.phase = 0 → s.wall.step = some d →
    s.wall.stepAt < s.seq.rowT → s.wall.ptpLocked = false → s.wall.epoch = 0 →
    ∃ t, exec .timeEpochIncrement s = .next t ∧ t.wall = { s.wall with offset := s.wall.offset + d, step := none } ∧
      t.log = logPost s.log (mkEvent s 0x1004 0xFFFF 0xFFFF []) ∧ t = { s with wall := t.wall, log := t.log }) ∧
  (∀ s : State, (s.seq.phase ≠ 0 ∨ s.seq.rowT ≤ s.wall.stepAt) → exec .timeEpochIncrement s = .next s) ∧
  (∀ (s : State) (d : Int), (newEpoch d s).wall.offset = s.wall.offset + d ∧
    (newEpoch d s).wall.epoch = (s.wall.epoch + 1) % 4294967296 ∧ (newEpoch d s).wall.step = none ∧
    (newEpoch d s).wall.history.head? = some
      { epoch := (s.wall.epoch + 1) % 4294967296, wallOffset := s.wall.offset + d, startRow := rowNs s,
        startFrame := s.seq.frame } ∧
    (newEpoch d s).wall.history.length ≤ 16 ∧ (newEpoch d s).seq = s.seq ∧ (newEpoch d s).sched = s.sched) ∧
  (∀ s : State, s.wall.step = none → exec .timeEpochIncrement s = .next s) ∧
  (∀ s : State, s.wall.epoch ≠ 0 → s.wall.arb = false → s.sched.lastConv + 1000000000 ≤ rowNs s →
    (∀ e ∈ s.sched.table, e.due ≤ s.seq.frame + 10000) →
    exec .wallKeyConversion s = .next { s with sched := { s.sched with lastConv := rowNs s } }) ∧
  (∀ s : State, s.wall.epoch ≠ 0 → s.wall.arb = false → s.sched.lastConv + 1000000000 ≤ rowNs s →
    ∃ t, exec .wallKeyConversion s = .next t ∧ t.sched.lastConv = rowNs s ∧ t.seq = s.seq ∧ t.wall = s.wall ∧
      ∀ (i : Nat) (e : SchedEntry), s.sched.table[i]? = some e →
        (e.wallKeyed = false ∨ e.state ≠ .pending ∨ e.due ≤ s.seq.frame + 10000) → t.sched.table[i]? = some e) ∧
  (∀ (s : State) (i : Nat) (e : SchedEntry), s.sched.table[i]? = some e → e.valid = true → e.wallKeyed = true →
    e.state = .pending → inHistory s e.actionId e.occurrence = false → s.seq.frame < convertDue s e.target →
    (reconvert i s).sched.table[i]? =
      some { e with due := convertDue s e.target, convEpoch := s.wall.epoch % 65536 }) ∧
  (∀ s : State, ∃ t, exec .historyRecordExpiry s = .next t ∧
    (∀ h, h ∈ t.sched.history ↔ h ∈ s.sched.history ∧ (rowNs s : Int) - h.rowNs < 90000000000000) ∧
    t = { s with sched := { s.sched with history := t.sched.history } }) ∧
  (∀ s : State, ∃ t, exec .scheduleSlotFree s = .next t ∧
    t = { s with sched := { s.sched with table := t.sched.table } } ∧ t.sched.table.length = s.sched.table.length ∧
    (∀ (i : Nat) (e : SchedEntry), s.sched.table[i]? = some e →
      (e.valid = true → e.state ≠ .pending → e.leftAt + 10000000000 ≤ rowNs s → t.sched.table[i]? = some {}) ∧
      (e.state = .pending → t.sched.table[i]? = some e) ∧
      (rowNs s < e.leftAt + 10000000000 → t.sched.table[i]? = some e))) ∧
  (∀ s : State, operating s = true → s.seq.frameValid = true → s.seq.phase = 0 → s.seq.frame % 100 = 0 →
    s.plan.lastBoundary ≠ some s.seq.frame → standsBy s = false → handoverHold s = false → safeHoldDue s.seq = false →
    ∃ t, exec .planEpochBoundary s = .next t ∧
      t = planBoundary { s with plan := { s.plan with lastBoundary := some s.seq.frame } } ∧
      t.plan.mode = modeFrom s (requestAt s s.seq.frame) ∧ t.plan.lastBoundary = some s.seq.frame ∧
      t.plan.requests = s.plan.requests.filter (fun r => s.seq.frame < r.due) ∧
      t.heat.limitRequests = s.heat.limitRequests.filter (fun r => s.seq.frame < r.due)) ∧
  (∀ s : State, operating s = true → s.seq.frameValid = true → s.seq.phase = 0 → s.seq.frame % 100 = 0 →
    s.plan.lastBoundary ≠ some s.seq.frame → standsBy s = true → handoverHold s = false →
    ∃ t, exec .planEpochBoundary s = .next t ∧ t.plan.mode = s.plan.mode ∧ t.plan.inForce = s.plan.inForce ∧
      t.plan.lastBoundary = some s.seq.frame ∧ t.plan.sampleStart = s.seq.frame) ∧
  (∀ s : State, (s.seq.frame % 100 ≠ 0 ∨ s.seq.phase ≠ 0 ∨ s.plan.lastBoundary = some s.seq.frame) →
    exec .planEpochBoundary s = .next s)

/-- What a loss of input power leaves (R113, R139, R140): the fuses, the device certificate, the log ring, the tenants'
generations, the water of the day and the fieldbus settings stay; the last-words buffer stays; everything volatile is as
at reset. Without power good there is nothing to lose. -/
def Obligations.PowerLossKeepsMramAndFuses : Prop :=
  (∀ s : State, s.pow.powerGood = true →
    ∃ t, exec .powerGoodDeassert s = .next t ∧ t.pow = State.reset.pow ∧ t.seq = State.reset.seq ∧
      t.sec.fuses = s.sec.fuses ∧ t.sec.slot1 = s.sec.slot1 ∧ t.log.ring = s.log.ring ∧ t.log.boot = s.log.boot ∧
      t.log.lastWords = s.log.lastWords ∧ t.pump.today = s.pump.today ∧ t.pump.total = s.pump.total ∧
      t.pair.term = s.pair.term ∧ t.mgmt.fieldbus = s.mgmt.fieldbus ∧
      t.heat.tenants.map (·.gen) = s.heat.tenants.map (·.gen) ∧ t.heat.pages = State.reset.heat.pages ∧
      t.sent = s.sent ∧ t.pending = s.pending) ∧
  (∀ s : State, s.pow.powerGood = false → exec .powerGoodDeassert s = .next s) ∧
  (∀ s : State, s.pow.powerGood = true →
    ∃ t, exec .inputOvervoltage s = .next t ∧ t.pow = { State.reset.pow with inputOpen := true } ∧
      t.sec.fuses = s.sec.fuses ∧ t.log.ring = s.log.ring ∧
      t.log.lastWords = (logLastWord s.log { mkEvent s (Config.lastWordCode 2) 0xFFFF 0xFFFF [] with stampLag := true }).lastWords) ∧
  (∀ s : State, s.pow.powerGood = true → railReady s 2 = true →
    ∃ t, exec .socThermalTrip s = .next t ∧ t.pow.state = .dead ∧ t.pow.deadMan = true ∧ t.pow.bypassClosed = true ∧
      t.pow.ready = false ∧ t.log.lastWords.head? =
        some { mkEvent s 0x0035 0xFFFF 0xFFFF [] with stampLag := true })

/-- Start-up and resets (R113, R114, R118, R139, R137): power good, and a reset that is due, begin the ten steps from what
the kept stores hold; step 1 counts a boot and logs 0x2001, a crystal that fails leads to LIMP, and step 2 enables the
core's rails and waits for their reports. RESET_N and 100 ms without a heartbeat stop the core, engage the dead-man and
make a reset due, with its kind. The next try of NO_IMAGE resumes start-up with the copy that it finds, up to READY. -/
def Obligations.StartUpAndResets : Prop :=
  (∀ (s : State) (f : StartFacts), s.pow.powerGood = false → exec (.powerGoodAssert f) s = .next (startUp f (keepMram s))) ∧
  (∀ (s : State) (f : StartFacts), s.pow.powerGood = false → f.crystalOk = true → f.rails.getD 1 (some none) = none →
    f.rails.getD 2 (some none) = none →
    ∃ t, exec (.powerGoodAssert f) s = .next t ∧ t.pow.powerGood = true ∧ t.pow.ready = false ∧ t.pow.deadMan = true ∧
      t.pow.bypassClosed = true ∧ t.pow.waiting = some f ∧ t.pow.lastStep = 1 ∧ t.pow.failStep = 0 ∧
      t.pow.state = .powerUp ∧ t.log.boot = (s.log.boot + 1) % 4294967296 ∧ t.log.queue.map (·.code) = [0x2001] ∧
      (t.pow.rails.getD 0 {}).state = .ready ∧
      (∀ k, k = 1 ∨ k = 2 → (t.pow.rails.getD k {}).enabled = true ∧ (t.pow.rails.getD k {}).state = .off) ∧
      (∀ k, 3 ≤ k → (t.pow.rails.getD k {}).enabled = false) ∧ t.sec.fuses = s.sec.fuses ∧ t.log.ring = s.log.ring) ∧
  (∀ (s : State) (f : StartFacts), s.pow.powerGood = false → f.crystalOk = false → f.rails.getD 1 (some none) = none →
    f.rails.getD 2 (some none) = none →
    ∃ t, exec (.powerGoodAssert f) s = .next t ∧ t.pow.powerGood = true ∧ t.pow.state = .limp ∧ t.pow.failStep = 1 ∧
      t.seq.backupClock = true ∧ t.log.queue.map (·.code) = [0x2001, 0x2010] ∧ t.pow.waiting = some f) ∧
  (∀ (s : State) (f : StartFacts), s.pow.powerGood = true → exec (.powerGoodAssert f) s = .next s) ∧
  (∀ s : State, s.pow.powerGood = true →
    ∃ t, exec .resetNAssert s = .next t ∧ t.pow.resetDue = some 1 ∧ t.pow.state = .dead ∧ t.pow.ready = false ∧
      t.pow.deadMan = true ∧ t.pow.bypassClosed = true ∧ t.pow.backupDrive = false ∧ t.sec.fuses = s.sec.fuses) ∧
  (∀ s : State, coreRuns s = true → s.pow.lastHeartbeat + 100000000 ≤ rowNs s →
    ∃ t, exec .coreWatchdog s = .next t ∧ t.pow.resetDue = some 2 ∧ t.pow.state = .dead ∧ t.pow.ready = false ∧
      t.pow.deadMan = true ∧ t.pow.bypassClosed = true) ∧
  (∀ s : State, (coreRuns s = false ∨ rowNs s < s.pow.lastHeartbeat + 100000000) →
    exec .coreWatchdog s = .next s) ∧
  (∀ (s : State) (f : StartFacts) (k : Nat), s.pow.resetDue = some k → s.pow.powerGood = true →
    exec (.warmReset f) s = .next (startUp f (keepWarm k s))) ∧
  (∀ (s : State) (f : StartFacts) (k : Nat), s.pow.resetDue = some k → s.pow.powerGood = true → f.crystalOk = true →
    f.rails.getD 1 (some none) = none → f.rails.getD 2 (some none) = none →
    ∃ t, exec (.warmReset f) s = .next t ∧ t.pow.resetKind = k ∧ t.pow.resetDue = none ∧ t.pow.waiting = some f ∧
      t.pow.state = .powerUp ∧ t.log.lastWords = s.log.lastWords ∧ t.log.boot = (s.log.boot + 1) % 4294967296 ∧
      t.log.queue.map (·.code) = [0x2001] ∧ t.sec.fuses = s.sec.fuses) ∧
  (∀ (s : State) (k : Nat), (keepWarm k s).pow.resetKind = k ∧ (keepWarm k s).log.lastWords = s.log.lastWords ∧
    (keepWarm k s).pow.xtalTries = s.pow.xtalTries ∧ (keepWarm k s).sec.fuses = s.sec.fuses ∧
    (keepWarm k s).log.ring = s.log.ring ∧ (keepWarm k s).seq = State.reset.seq ∧
    (keepWarm k s).pow.warmHistory.length = s.pow.warmHistory.length + 1 ∧
    (keepWarm k s).eng.distrusted = s.eng.distrusted ∧
    (keepWarm k s).valve.banks.map (fun b => decide (b.state = .failed)) =
      s.valve.banks.map (fun b => decide (b.state = .failed)) ∧
    (keepWarm k s).eng.graphs.map (·.level) = s.eng.graphs.map (·.level)) ∧
  (∀ (s : State) (f : Nat), s.pow.vanaSince = some f → s.pow.state = .held → f + 10000 ≤ s.seq.frame → warmResets s < 6 →
    exec .heldRelease s = .next { s with pow := { s.pow with resetDue := some 1 } }) ∧
  (∀ s : State, 6 ≤ warmResets s → exec .heldRelease s = .next s) ∧
  (∀ (s : State) (f : StartFacts), s.pow.state = .noImage → s.key.lastRetry + 10000000000 ≤ rowNs s →
    f.backplane.present = false → f.front.present = false →
    ∃ t, exec (.noImageKeyRetry f) s = .next t ∧ t.pow.state = .noImage ∧ t.key.selected = none ∧ t.key.source = 0 ∧
      t.key.lastRetry = rowNs s ∧ t.img = s.img ∧ t.log = s.log) ∧
  (∀ (s : State) (f : StartFacts), s.pow.state = .noImage → s.key.lastRetry + 10000000000 ≤ rowNs s →
    ∃ u t, u = verifyStep f (keyCheck f { s with key := { s.key with lastRetry := rowNs s } }) ∧
      exec (.noImageKeyRetry f) s = .next t ∧ (u.key.selected = none → t = u) ∧
      (u.key.selected ≠ none → f.hashMismatches = 0 →
        t.pow.ready = true ∧ (t.pow.state = .arming ∨ t.pow.state = .held) ∧ t.pow.deadMan = false ∧
        t.pow.bypassClosed = false ∧ t.pow.lastStep = 10)) ∧
  (∀ (s : State) (f : StartFacts), rowNs s < s.key.lastRetry + 10000000000 → exec (.noImageKeyRetry f) s = .next s)

/-- The crystal and limp mode (R54, R130, R136): a failure after READY moves the sequencer to the RC oscillator and the
module to LIMP, with its dead-man engaged and no try made; a try in LIMP is counted, and one that passes makes a warm reset
due; the tenth that fails is the last. -/
def Obligations.CrystalFailureAndTries : Prop :=
  (∀ s : State, s.pow.ready = true → s.seq.backupClock = false →
    ∃ t, exec .crystalFailure s = .next t ∧ t.seq = { s.seq with backupClock := true } ∧ t.pow.state = .limp ∧
      t.pow.noClaimFrames = 0 ∧ t.pow.lastTry = rowNs s ∧ t.pow.xtalTries = 0 ∧ t.pow.deadMan = true ∧
      t.pow.bypassClosed = true ∧ (∀ d, d < 64 → domainOn t d = false)) ∧
  (∀ s : State, (s.pow.ready = false ∨ s.seq.backupClock = true) → exec .crystalFailure s = .next s) ∧
  (∀ s : State, s.pow.state = .limp → s.pow.xtalTries < 10 → s.pow.lastTry + 1000000000 ≤ rowNs s →
    ∃ t, exec (.crystalTry true) s = .next t ∧ t.pow.resetDue = some 1 ∧ t.pow.xtalTries = s.pow.xtalTries + 1 ∧
      t.log = logPost s.log (mkEvent s 0x2012 0xFFFF 0xFFFF [])) ∧
  (∀ s : State, s.pow.state = .limp → s.pow.xtalTries < 9 → s.pow.lastTry + 1000000000 ≤ rowNs s →
    ∃ t, exec (.crystalTry false) s = .next t ∧ t.pow.resetDue = s.pow.resetDue ∧ t.pow.xtalTries = s.pow.xtalTries + 1 ∧
      t.pow.lastTry = rowNs s ∧ t.log = logPost s.log (mkEvent s 0x2011 0xFFFF 0xFFFF [])) ∧
  (∀ (s : State) (b : Bool), 10 ≤ s.pow.xtalTries → exec (.crystalTry b) s = .next s)

/-- Rails (R118 to R120, R124): a report of a rail that start-up waits for carries start-up on: the rail is ready, or has
failed with event 0x2020, and while another of its group is out start-up waits on. A rail of the core that is lost stops
the core; any other is counted with event 0x2021, and costs the domains it holds, failed with reason 2. Without the 24 V
supply every bank that was on is off and its channels are without current. A domain that was cycled comes up when its
rail, its parent and its calibration allow it. -/
def Obligations.RailsReadyLostAndSupply : Prop :=
  (∀ (s : State) (f : StartFacts) (k us : Nat), s.pow.waiting = some f → (s.pow.rails.getD k {}).enabled = true →
    (s.pow.rails.getD k {}).state = .off →
    exec (.railReady k us) s = .next (fromRails { f with rails := f.rails.set k (some (some us)) } s) ∧
    exec (.railReadyTimeout k) s = .next (fromRails { f with rails := f.rails.set k (some none) } s)) ∧
  (∀ (s : State) (f : StartFacts) (k j us : Nat), s.pow.waiting = some f → (k = 1 ∧ j = 2 ∨ k = 2 ∧ j = 1) →
    (s.pow.rails.getD k {}).enabled = true → (s.pow.rails.getD k {}).state = .off →
    (s.pow.rails.getD j {}).state = .off → j < s.pow.rails.length → k < f.rails.length →
    f.rails.getD j (some none) = none →
    ∃ t, exec (.railReady k us) s = .next t ∧ (t.pow.rails.getD k {}).state = .ready ∧
      (t.pow.rails.getD k {}).readyUs = us ∧ (t.pow.rails.getD j {}).state = .off ∧
      t.pow.waiting = some { f with rails := f.rails.set k (some (some us)) } ∧ t.log = s.log) ∧
  (∀ (s : State) (f : StartFacts) (k j : Nat), s.pow.waiting = some f → (k = 1 ∧ j = 2 ∨ k = 2 ∧ j = 1) →
    (s.pow.rails.getD k {}).enabled = true → (s.pow.rails.getD k {}).state = .off →
    (s.pow.rails.getD j {}).state = .off → j < s.pow.rails.length → k < f.rails.length →
    f.rails.getD j (some none) = none →
    ∃ t, exec (.railReadyTimeout k) s = .next t ∧ (t.pow.rails.getD k {}).state = .failed ∧ t.pow.failStep = 2 ∧
      t.pow.waiting = some { f with rails := f.rails.set k (some none) } ∧
      t.log = logPost s.log (mkEvent s 0x2020 k 0xFFFF []) ∧
      ∀ d < s.pow.domains.length, (t.pow.domains.getD d {}).state = .failed) ∧
  (∀ (s : State) (k us : Nat), s.pow.waiting = none → exec (.railReadyTimeout k) s = .next s ∧
    (k ≠ 6 → exec (.railReady k us) s = .next s)) ∧
  (∀ (s : State) (us : Nat), s.pow.waiting = none → s.pow.state = .held → s.pow.ready = true → railReady s 6 = false →
    s.pow.vanaSince = none →
    exec (.railReady 6 us) s = .next { s with pow := { s.pow with vanaSince := some s.seq.frame } }) ∧
  (∀ (s : State) (k : Nat), s.pow.powerGood = true → k < 3 → railReady s k = true →
    ∃ t, exec (.railLost k) s = .next t ∧ t.pow.state = .dead ∧ t.pow.deadMan = true ∧ t.pow.ready = false ∧
      (t.pow.rails.getD k {}).state = .lost) ∧
  (∀ (s : State) (k : Nat), s.pow.powerGood = true → 3 ≤ k → railReady s k = true →
    ∃ t u, exec (.railLost k) s = .next t ∧ t = railConsequences k u ∧ (t.pow.rails.getD k {}).state = .lost ∧
      (t.pow.rails.getD k {}).lossCount = satAdd 16 (s.pow.rails.getD k {}).lossCount 1 ∧
      u.log = logPost s.log (mkEvent s 0x2021 k 0xFFFF [])) ∧
  (∀ (s : State) (k d : Nat) (x : Domain), s.pow.domains[d]? = some x → railHolds k d = true →
    ((railDomainsOff k s).pow.domains.getD d {}).state = .failed ∧
    ((railDomainsOff k s).pow.domains.getD d {}).failReason = 2) ∧
  (∀ (s : State) (k d : Nat), railHolds k d = false →
    (railDomainsOff k s).pow.domains.getD d {} = s.pow.domains.getD d {}) ∧
  (∀ s : State, s.pow.powerGood = true → railReady s 7 = true →
    ∃ t, exec (.railLost 7) s = .next t ∧ domainOn t 118 = false ∧ domainOn t 119 = false ∧
      (ethPort t 0).linkUp = false ∧ (ethPort t 1).linkUp = false ∧ t.pow.state = s.pow.state) ∧
  (∀ s : State, s.pow.act24Absent = false → coreRuns s = true →
    ∃ t, exec .act24Absent s = .next t ∧ t.pow = { s.pow with act24 := false, act24Absent := true } ∧
      t.log = logPost s.log (mkEvent s 0x2023 0xFFFF 0xFFFF []) ∧
      ∀ b < 6, (vbank s b).state = .on → (vbank t b).state = .off ∧
        ∀ i < 8, inCurrent (vch t (8 * b + i)).drive = false) ∧
  (∀ s : State, s.pow.powerGood = true → s.pow.act24 = false →
    ∃ t, exec .act24Present s = .next t ∧ t.pow = { s.pow with act24 := true, act24Absent := false } ∧ t.log = s.log ∧
      ∀ b < s.valve.banks.length, b < 6 → (vbank s b).state = .off → s.pow.plantControl = true →
        domainOn s (97 + b) = true → (vbank t b).state = .on) ∧
  (∀ (s : State) (d us : Nat), (s.pow.domains.getD d {}).state = .cycling → railReady s (domainRail d) = true →
    (d < 64 ∨ d = 120) → us ≤ 2000 →
    ∃ t, exec (.domainCycleComplete d us) s = .next t ∧ (t.pow.domains.getD d {}).state = .on ∧ t.log = s.log ∧
      (∀ e, e ≠ d → t.pow.domains.getD e {} = s.pow.domains.getD e {}) ∧ t = { s with pow := t.pow }) ∧
  (∀ (s : State) (d us : Nat), (s.pow.domains.getD d {}).state = .cycling → railReady s (domainRail d) = true →
    (d < 64 ∨ d = 120) → 2000 < us →
    ∃ u, exec (.domainCycleComplete d us) s = .next (portDomains (failCycle d u)) ∧
      u.log = logPost s.log (mkEvent s 0x2030 (if d = 120 then 64 else d) 6 [])) ∧
  (∀ (s : State) (d us : Nat), (s.pow.domains.getD d {}).state ≠ .cycling →
    exec (.domainCycleComplete d us) s = .next s)

/-- The dead-man and the backup stage (R130, R135): a heartbeat that stands still for 1 ms releases every gated output and
closes the bypass; in LIMP and NO_IMAGE, after 30 whole frames without a claim (31 boundaries of the
module's own count), the backup stage drives 3.0 V and 1.0 V for each
step of the strap; a claim or a heartbeat that stands still releases it. -/
def Obligations.DeadManAndBackupStage : Prop :=
  (∀ s : State, s.pow.powerGood = true → s.pow.deadMan = false → s.pow.lastHeartbeat + 1000000 ≤ rowNs s →
    ∃ t, exec .deadManEngage s = .next t ∧ t.pow.deadMan = true ∧ t.pow.bypassClosed = true) ∧
  (∀ s : State, rowNs s < s.pow.lastHeartbeat + 1000000 → exec .deadManEngage s = .next s) ∧
  (∀ s : State, (s.pow.state = .limp ∨ s.pow.state = .noImage) → 31 ≤ s.pow.noClaimFrames → s.pow.backupDrive = false →
    exec .backupDriveStart s =
      .next { s with pow := { s.pow with backupDrive := true, backupMv := 3000 + 1000 * s.pow.speedStrap } }) ∧
  (∀ s : State, s.pow.noClaimFrames < 31 → exec .backupDriveStart s = .next s) ∧
  (∀ s : State, exec .backupDriveRelease s =
    .next { s with pow := { s.pow with backupDrive := false, backupMv := 0, noClaimFrames := 0 } }) ∧
  (∀ s : State, exec .backupHeartbeatLoss s =
    .next { s with pow := { s.pow with backupDrive := false, backupMv := 0 } })

/-- Calibration, memory and the copies of the key after READY (R107 to R109, R126, R127): a group calibrated 600 s after
its last calibration stores its result, one group in a frame; the check of the other copy completes and shows its result;
the rollback counter advances after 600 s of control in NORMAL; a lost key leaves the configuration in force. -/
def Obligations.CalibrationAndKeyAfterReady : Prop :=
  (∀ (s : State) (g : Nat) (r : AfeCal), operating s = true → domainOn s (103 + g) = true → g < 8 →
    s.pow.calAfe.length = 8 → s.pow.calFrame.length = 8 → s.pow.calFrame.getD g 0 + 6000000 ≤ s.seq.frame →
    s.pow.calFrame.all (· ≠ s.seq.frame) = true →
    ∃ t, exec (.periodicCalibration g r.toAdcCal r.toSourceCal) s = .next t ∧ t.pow.calAfe.getD g {} = r ∧
      t.pow.calFrame.getD g 0 = s.seq.frame ∧ (∀ h, h ≠ g → t.pow.calAfe.getD h {} = s.pow.calAfe.getD h {}) ∧
      t = { s with pow := t.pow, log := t.log }) ∧
  (∀ (s : State) (g : Nat) (r : AfeCal), s.pow.calFrame.any (· = s.seq.frame) = true →
    exec (.periodicCalibration g r.toAdcCal r.toSourceCal) s = .next s) ∧
  (∀ s : State, s.pow.ready = true → s.pow.ddrOk = true → domainOn s 121 = true →
    exec .upperFillComplete s = .next { s with pow := { s.pow with upperFill := true } }) ∧
  (∀ (s : State) (c : Copy), s.key.selected = some c → s.pow.ready = true → s.key.otherChecking = true →
    ∃ t, exec .otherCopyCheck s = .next t ∧ t.key.otherChecking = false ∧ t.key.selected = some c ∧ t.img = s.img ∧
      (s.key.lost = false → (verifyCopy (otherCopy c) s).reason = 0 → t.key.otherState = 1 ∧ t.log = s.log) ∧
      (s.key.lost = false → (verifyCopy (otherCopy c) s).reason ≠ 0 → t.key.otherState = 2 ∧
        t.log = logPost s.log (mkEvent s 0x3008 0xFFFF 0xFFFF [])) ∧
      (s.key.lost = true → t.key.otherState = 2 ∧ (copyStatus t.key (otherCopy c)).reason = 16)) ∧
  (∀ (s : State) (c : Copy) (f : Nat), s.key.selected = some c → s.key.controlNormalSince = some f →
    s.seq.frame % 100 = 0 → f + 6000000 ≤ s.seq.frame → s.sec.fuses.rollback < (copyStatus s.key c).level →
    ∃ t, exec .rollbackAdvance s = .next t ∧ t.sec.fuses = { s.sec.fuses with rollback := (copyStatus s.key c).level } ∧
      t.img = s.img ∧
      ((copyStatus s.key (otherCopy c)).reason = 0 → (copyStatus s.key (otherCopy c)).level < (copyStatus s.key c).level →
        (copyStatus t.key (otherCopy c)).reason = 17)) ∧
  (∀ s : State, s.key.controlNormalSince = none → exec .rollbackAdvance s = .next s) ∧
  (∀ s : State, s.pow.ready = true → s.key.source ≠ 0 → s.key.lost = false → s.mgmt.update = none →
    ∃ t, exec .keyLoss s = .next t ∧ t.key = { s.key with lost := true } ∧ t.img = s.img ∧
      t.log = logPost s.log (mkEvent s 0x3009 0xFFFF 0xFFFF []))

/-- The clips of R152: when the floors fit a loop's rack limit, the targets of its sites after the rack clip fit it too;
when they fit the row limit, the targets of the row fit it after the row clip; no target falls below its site's floor.
Premise: no floor in force stands above CHIP_CAP, as the image check has it. -/
def Obligations.ClippedTargetsKeepTheLimits : Prop :=
  (∀ (s : State) (l : Nat), (∀ i ∈ loopSites s l, floorInForce s i ≤ s.img.limits.chipCap) →
    floorSum s l ≤ rackInForce s l → ((rackTargets s l).map (·.2)).sum ≤ rackInForce s l) ∧
  (∀ s : State, (∀ i ∈ presentSites s, floorInForce s i ≤ s.img.limits.chipCap) →
    ((allTargets s).map fun x => floorInForce s x.1).sum ≤ s.heat.rowLimit →
    ((allTargets s).map (·.2)).sum ≤ s.heat.rowLimit) ∧
  (∀ s : State, (∀ i ∈ presentSites s, floorInForce s i ≤ s.img.limits.chipCap) →
    ∀ x ∈ allTargets s, floorInForce s x.1 ≤ x.2 ∧ x.2 ≤ pageCapOf s x.1)

/-- Effective caps (R151, R153, R163) and page generations (R170): the slope rule moves a cap toward its target by at most
SLOPE_UP or SLOPE_DOWN a frame; an isolated loop's sites stand at their floors, a silent site at its assumed cap; a page's
generation goes up by one exactly when its state, site, pending or next site changes. -/
def Obligations.EffectiveCapsAndPageGenerations : Prop :=
  (∀ up down prev t : Nat, min prev t ≤ capSlope up down prev t ∧ capSlope up down prev t ≤ max prev t ∧
    capSlope up down prev t ≤ prev + up ∧ prev ≤ capSlope up down prev t + down ∧
    (prev ≤ t → t ≤ prev + up → capSlope up down prev t = t) ∧ (t ≤ prev → prev ≤ t + down → capSlope up down prev t = t)) ∧
  (∀ (s : State) (i t : Nat), (loopP s (siteLoop s i)).isolated = true → effectiveCap s i t = floorInForce s i) ∧
  (∀ (s : State) (i t : Nat), (loopP s (siteLoop s i)).isolated = false → (siteC s i).response = .unresponsive →
    effectiveCap s i t = if silence s i < 200 then lastCapSent s i else (slotCfg s i).fallbackCap) ∧
  (∀ (s : State) (i t : Nat), (loopP s (siteLoop s i)).isolated = false → (siteC s i).response ≠ .unresponsive →
    s.seq.state ≠ .normal → effectiveCap s i t ≤ (siteP s i).cap) ∧
  (∀ (s : State) (k : Nat) (f : Page → Page), k < s.heat.pages.length → (∀ p, (f p).pgen = p.pgen) →
    ((page (setPage k f s) k).pgen = (page s k).pgen ↔
      ((f (page s k)).state = (page s k).state ∧ (f (page s k)).site = (page s k).site ∧
       (f (page s k)).pending = (page s k).pending ∧ (f (page s k)).nextSite = (page s k).nextSite) ∨
      (page s k).pgen = ((page s k).pgen + 1) % 65536) ∧
    (∀ j, j ≠ k → page (setPage k f s) j = page s j))

/-- Silence and quarantine (R166, R169): after 200 frames of silence only pages HELD by the site begin to drain; a tenant
slot is RELEASED 20,000 frames after it left ACTIVE, and nothing else changes. -/
def Obligations.SilenceFallbackAndQuarantineEnd : Prop :=
  (∀ (s : State) (i : Nat), (siteC s i).response = .unresponsive → (siteP s i).covered = true →
    (siteP s i).coverTrimmed = false → 200 ≤ silence s i →
    ∃ t, exec (.silenceFallback i) s = .next t ∧ (siteP t i).coverTrimmed = true ∧ t = { s with heat := t.heat } ∧
      t.heat.tenants = s.heat.tenants ∧ (∀ j, j ≠ i → siteP t j = siteP s j) ∧
      (∀ k, page t k ≠ page s k → (page s k).state = .held ∧ (page s k).site = i ∧ (page t k).state = .draining)) ∧
  (∀ (s : State) (i : Nat), silence s i < 200 → exec (.silenceFallback i) s = .next s) ∧
  (∀ (s : State) (i : Nat), (siteC s i).response = .responsive → exec (.silenceFallback i) s = .next s) ∧
  (∀ (s : State) (i : Nat), (tenantSt s i).state = .quarantine → (tenantSt s i).quarFrame + 20000 ≤ s.seq.frame →
    i < s.heat.tenants.length →
    ∃ t, exec (.quarantineTimerExpiry i) s = .next t ∧ tenantSt t i = { tenantSt s i with state := .released } ∧
      (∀ j, j ≠ i → tenantSt t j = tenantSt s j) ∧ t = { s with heat := { s.heat with tenants := t.heat.tenants } }) ∧
  (∀ (s : State) (i : Nat), ((tenantSt s i).state ≠ .quarantine ∨ s.seq.frame < (tenantSt s i).quarFrame + 20000) →
    exec (.quarantineTimerExpiry i) s = .next s)

/-- Thermal trip and FLOOR_N (R326, R327): 10 frames at OUTLET_LIMIT assert the line of every link of the loop, and a stroke
test of the loop ends; 10,000 cool frames release it; a violation's assertion is released after 10 s, and one that is held is not. -/
def Obligations.ThermalTripAndFloorCauses : Prop :=
  (∀ (s : State) (l : Nat), 10 ≤ s.caps.hotRun.getD l 0 → l < s.caps.tripped.length → s.caps.tripped.getD l false = false →
    (∃ t, exec (.thermalTrip l) s = .next t ∧ t = abortWhere 15 (strokeOf l) (tripLoop l s) ∧
      t.caps = (tripLoop l s).caps ∧ t.caps.tripped.getD l false = true ∧
      ∀ i < 4, inProgress (activity s i) = true → strokeOf l (activity s i) = true →
        (activity t i).state = .aborted ∧ (activity t i).cause = 15) ∧
    (tripLoop l s).caps.tripped.getD l false = true ∧
    (tripLoop l s).log = logPost s.log (mkEvent s 0x8010 l 0xFFFF []) ∧
    tripLoop l s = { s with caps := (tripLoop l s).caps, log := (tripLoop l s).log } ∧
    (∀ k, k < s.caps.floors.length →
      floorLine (tripLoop l s) k = if k ∈ loopLinks s l then { floorLine s k with thermal := true } else floorLine s k)) ∧
  (∀ (s : State) (l : Nat), s.caps.hotRun.getD l 0 < 10 → exec (.thermalTrip l) s = .next s) ∧
  (∀ (s : State) (l : Nat), s.caps.tripped.getD l false = true → 10000 ≤ s.caps.coolRun.getD l 0 →
    ∃ t, exec (.thermalTripRelease l) s = .next t ∧ t.caps.tripped.getD l false = false ∧
      t.log = logPost s.log (mkEvent s 0x8011 l 0xFFFF []) ∧ t = { s with caps := t.caps, log := t.log } ∧
      (∀ k, k < s.caps.floors.length →
        floorLine t k = if k ∈ loopLinks s l then { floorLine s k with thermal := false } else floorLine s k)) ∧
  (∀ (s : State) (l : Nat), s.caps.coolRun.getD l 0 < 10000 → exec (.thermalTripRelease l) s = .next s) ∧
  (∀ (s : State) (k : Nat), (floorLine s k).violation = true → (floorLine s k).held = false →
    (floorLine s k).assertFrame + 100000 ≤ s.seq.frame →
    ∃ t, exec (.capViolationRelease k) s = .next t ∧ floorLine t k = { floorLine s k with violation := false, releasedAt := some s.seq.frame } ∧
      (∀ j, j ≠ k → floorLine t j = floorLine s j) ∧ t.log = logPost s.log (mkEvent s 0x8003 k 0xFFFF []) ∧
      t = { s with caps := { s.caps with floors := t.caps.floors }, log := t.log }) ∧
  (∀ (s : State) (k : Nat), ((floorLine s k).held = true ∨ s.seq.frame < (floorLine s k).assertFrame + 100000) →
    exec (.capViolationRelease k) s = .next s)

/-- References of the estimator (R333, R334): 600 s without one is logged once; a dither window starts only in its site's
place, for a tenant that allows it, under a released line; it ends with a reference or void, 206 frames after its start at
the earliest. -/
def Obligations.DitherWindowsAndReferences : Prop :=
  (∀ (s : State) (i : Nat), sitePresent s i = true → (siteC s i).refFrame + 6000000 ≤ s.seq.frame →
    (siteC s i).noRef = false → i < s.caps.sites.length →
    ∃ t, exec (.noReference i) s = .next t ∧ siteC t i = { siteC s i with noRef := true } ∧
      (∀ j, j ≠ i → siteC t j = siteC s j) ∧ t.caps.counters = upd s.caps.counters 7 cnt ∧
      t.log = logPost s.log (mkEvent s 0x8030 i 0xFFFF []) ∧ t = { s with caps := t.caps, log := t.log }) ∧
  (∀ (s : State) (i : Nat), (siteC s i).noRef = true → exec (.noReference i) s = .next s) ∧
  (∀ (s : State) (i t : Nat), sitePresent s i = true → s.seq.frame % 100000 = 200 * (i % 500) →
    (siteP s i).tenant = some t → (tenantCfg s t).allowDither = true → (siteC s i).response = .responsive →
    i ∉ (loopRun s (siteLoop s i)).cold → (siteC s i).refFrame + 100000 ≤ s.seq.frame →
    (floorLine s (linkOf i)).driven = false → 100 ≤ (siteC s i).settled → i < s.caps.sites.length →
    ∃ u, exec (.ditherWindowStart i) s = .next u ∧
      siteC u i = { siteC s i with dither := some { start := s.seq.frame, target := (siteP s i).target } } ∧
      (∀ j, j ≠ i → siteC u j = siteC s j) ∧ u.caps.counters = upd s.caps.counters 4 cnt ∧ u = { s with caps := u.caps }) ∧
  (∀ (s : State) (i : Nat), ((floorLine s (linkOf i)).driven = true ∨ (siteP s i).tenant = none ∨
      (siteC s i).settled < 100 ∨ s.seq.frame % 100000 ≠ 200 * (i % 500)) →
    exec (.ditherWindowStart i) s = .next s) ∧
  (∀ (s : State) (i : Nat) (d : Dither), (siteC s i).dither = some d → d.start + 206 ≤ s.seq.frame →
    i < s.caps.sites.length → ∃ u, exec (.ditherWindowEnd i) s = .next u ∧ (siteC u i).dither = none ∧
      (∀ j, j ≠ i → siteC u j = siteC s j) ∧ u = { s with caps := u.caps, log := u.log } ∧
      (ditherResult d = none → u.caps.counters = upd s.caps.counters 5 cnt ∧ (siteC u i).refFrame = (siteC s i).refFrame) ∧
      (ditherResult d ≠ none → (siteC u i).refFrame = s.seq.frame ∧ (siteC u i).noRef = false)) ∧
  (∀ (s : State) (i : Nat) (d : Dither), (siteC s i).dither = some d → s.seq.frame < d.start + 206 →
    exec (.ditherWindowEnd i) s = .next s) ∧
  (∀ (s : State) (i : Nat), (siteC s i).dither = none → exec (.ditherWindowEnd i) s = .next s)

/-- Shedding (R46, R281 to R283): the engine's 3rd, 6th, 9th, 12th and 15th consecutive overrun asks for one step; the
boundary takes it, at most 5 stand; a shed step sheds the owner graphs of its priority and never slots 0 and 1; after
RESTORE_NEED clean frames the last step is restored. The count grows by one at an overrun of the engine and resets when
its slice completes. -/
def Obligations.ShedStepsAndRestore : Prop :=
  (∀ s : State, s.seq.engineConsec ∈ [3, 6, 9, 12, 15] → s.seq.shedIssued = false →
    ∃ t, exec .shedRequest s = .next t ∧
      t.seq = { s.seq with shedIssued := true, shedCount := cnt s.seq.shedCount } ∧
      t.eng = { s.eng with shedDue := s.eng.shedDue + 1 } ∧
      t.log = logPost s.log (mkEvent s 0x1021 0xFFFF 0xFFFF []) ∧
      t = { s with seq := t.seq, eng := t.eng, log := t.log }) ∧
  (∀ s : State, (s.seq.engineConsec ∉ [3, 6, 9, 12, 15] ∨ s.seq.shedIssued = true) → exec .shedRequest s = .next s) ∧
  (∀ s : State, s.eng.shedSteps ≠ 0 → s.eng.restoreNeed ≤ s.eng.cleanFrames →
    ∃ t, exec .shedRestore s = .next t ∧ t.eng.shedSteps = s.eng.shedSteps - 1 ∧ t.eng.cleanFrames = 0 ∧
      t.eng.restoreCount = cnt s.eng.restoreCount ∧ t.eng.lastRestore = some s.seq.frame ∧
      t.log = logPost s.log (mkEvent s 0x6051 s.eng.shedSteps 0xFFFF []) ∧
      t = { s with eng := t.eng, log := t.log }) ∧
  (∀ s : State, (s.eng.shedSteps = 0 ∨ s.eng.cleanFrames < s.eng.restoreNeed) → exec .shedRestore s = .next s) ∧
  (∀ s : State, s.eng.shedDue ≠ 0 → s.eng.shedSteps < 5 →
    (shedStep s).eng.shedSteps = s.eng.shedSteps + 1 ∧ (shedStep s).eng.shedDue = s.eng.shedDue - 1 ∧
    (shedStep s).eng.cleanFrames = 0 ∧
    (shedStep s).log = logPost s.log (mkEvent s 0x6050 (s.eng.shedSteps + 1) 0xFFFF [])) ∧
  (∀ s : State, s.eng.shedSteps ≤ 5 → (shedStep s).eng.shedSteps ≤ 5) ∧
  (∀ (s : State) (g : Nat), g < 8 → s.eng.graphs.length = 8 →
    ((graphSt (markShed s) g).shed = true ↔ 2 ≤ g ∧ (graphCfg s g).priority < min s.eng.shedSteps 4)) ∧
  (∀ (s : State) (g : Nat), g < 8 → s.eng.graphs.length = 8 → (graphSt s g).shed = true →
    (graphSt (markShed s) g).shed = false →
    (graphSt (markShed s) g).state = initGraphState g (graphCfg s g) ∧ (graphSt (markShed s) g).eval = none) ∧
  (∀ q : Sequencer, (seqOverrun q .engine).engineConsec = q.engineConsec + 1 ∧ (seqOverrun q .engine).shedIssued = false) ∧
  (∀ q : Sequencer, q.overran.contains .engine = false → (seqEvaluate q).engineConsec = 0 ∧ (seqEvaluate q).shedIssued = false) ∧
  (∀ q : Sequencer, q.overran.contains .engine = true →
    (seqEvaluate q).engineConsec = q.engineConsec ∧ (seqEvaluate q).shedIssued = q.shedIssued)

/-- Memory errors (R245, R247): a single-bit error is counted; a double-bit error in a row of a weight bank poisons the graph
whose row it is and begins a reload of the bank, or fails the bank group with reason 6 when the bank had one in the last
600 s or no copy can be read; a reload that verifies gives the bank its rows again and clears POISONED of a graph that
waits for no other bank, and one that does not verify fails the bank group, so that its graphs are not loaded. -/
def Obligations.EngineMemoryErrors : Prop :=
  (∀ (s : State) (scratch : Bool), ∃ t, exec (.singleBitError scratch) s = .next t ∧
      t.eng = { s.eng with counters := upd s.eng.counters (if scratch then 1 else 0) fun x => satAdd 32 x 1 } ∧
      t = { s with eng := t.eng, log := t.log } ∧
      (runSeen 0x6001 0xFFFF 10000 s = true → t.log = s.log) ∧
      (runSeen 0x6001 0xFFFF 10000 s = false → t.log.queue = (logPost s.log (mkEvent s 0x6001 0xFFFF 0xFFFF [])).queue)) ∧
  (∀ (s : State) (bank row : Nat), lpddrOk s = true → (∀ x ∈ s.eng.bankDbe, x.1 = bank → x.2 + 6000000 ≤ s.seq.frame) →
    ∃ t, exec (.weightDoubleBitError ⟨bank, row⟩) s = .next t ∧ t = { s with eng := t.eng, log := t.log } ∧
      t.log = logPost s.log (mkEvent s 0x6002 bank 0xFFFF []) ∧
      t.eng.counters = upd s.eng.counters 2 (fun x => satAdd 32 x 1) ∧ (bank, row) ∈ t.eng.badRows ∧
      (bank, s.seq.frame) ∈ t.eng.bankDbe ∧
      (∀ g ∈ rowGraphs s bank row, g < s.eng.graphs.length → (graphSt t g).poisoned = true) ∧
      (∀ g, g ∉ rowGraphs s bank row → graphSt t g = graphSt s g) ∧
      (∀ g ∈ rowGraphs s bank row, (graphSt s g).disabled = false → bank ∈ t.eng.reload) ∧
      ((∀ g ∈ rowGraphs s bank row, (graphSt s g).disabled = true) → t.eng.reload = s.eng.reload)) ∧
  (∀ (s : State) (bank row : Nat), (lpddrOk s = false ∨ ∃ x ∈ s.eng.bankDbe, x.1 = bank ∧ s.seq.frame < x.2 + 6000000) →
    bank < 64 → s.pow.domains.length = 126 → s.pow.bankGroupFail.length = 16 →
    ∃ t, exec (.weightDoubleBitError ⟨bank, row⟩) s = .next t ∧
      (t.pow.domains.getD (64 + bank / 4) {}).state = .failed ∧
      (t.pow.domains.getD (64 + bank / 4) {}).failReason = 6 ∧ t.pow.bankGroupFail.getD (bank / 4) false = true ∧
      bank ∉ t.eng.reload ∧ (∀ d, d ≠ 64 + bank / 4 → t.pow.domains[d]? = s.pow.domains[d]?)) ∧
  (∀ (s : State) (bank : Nat), bank ∈ s.eng.reload → lpddrOk s = true →
    ∃ t, exec (.weightReloadComplete bank true) s = .next t ∧
      bank ∉ t.eng.reload ∧ t.eng.counters = upd s.eng.counters 4 (fun x => satAdd 32 x 1) ∧
      t.eng.rows = reloadRows s bank ∧ (∀ x ∈ t.eng.badRows, x.1 ≠ bank) ∧
      t.log = logPost s.log (mkEvent s 0x6004 bank 0xFFFF []) ∧ t = { s with eng := t.eng, log := t.log } ∧
      (∀ g ∈ bankGraphs s bank, g < s.eng.graphs.length → (graphSt s g).scrubEnd = none →
        (∀ b ∈ (graphCfg s g).blocks, b.bank = bank ∨ b.bank ∉ s.eng.reload) → (graphSt t g).poisoned = false)) ∧
  (∀ (s : State) (bank : Nat) (ok : Bool), bank ∈ s.eng.reload → (ok = false ∨ lpddrOk s = false) → bank < 64 →
    s.pow.domains.length = 126 →
    ∃ t, exec (.weightReloadComplete bank ok) s = .next t ∧ t = failBank bank s ∧
      (t.pow.domains.getD (64 + bank / 4) {}).state = .failed ∧ (t.pow.domains.getD (64 + bank / 4) {}).failReason = 6 ∧
      bank ∉ t.eng.reload ∧ (∀ g, (graphSt s g).loaded = true → bank / 4 ∈ graphBanks (graphCfg s g) → g < 8 →
        (graphSt t g).loaded = false)) ∧
  (∀ (s : State) (bank : Nat) (ok : Bool), bank ∉ s.eng.reload →
    exec (.weightReloadComplete bank ok) s = .next s)

/-- Scratch errors and precision runs (R248, R252): a struck operator state starts again from its whole bound; a
precision run stores its result and logs it; bounds of one value that share no point poison the graph, and the second
such case within 600 s distrusts the engine and disables every loaded graph. -/
def Obligations.ScratchErrorsAndPrecisionRuns : Prop :=
  (∀ (s : State) (g node : Nat) (st : Bool), g < s.eng.graphs.length →
    ∃ t, exec (.scratchDoubleBitError g node st) s = .next t ∧ t = { s with eng := t.eng, log := t.log } ∧
      t.log = logPost s.log (mkEvent s 0x6003 g 0xFFFF []) ∧
      t.eng.counters = upd s.eng.counters 3 (fun x => satAdd 32 x 1) ∧ t.eng.lastDbe = s.seq.frame % 4294967296 ∧
      (∀ e, (graphSt t g).eval = some e → e.struck = true) ∧ (∀ h, h ≠ g → graphSt t h = graphSt s h) ∧
      (st = true → (graphSt t g).state = (graphSt s g).state.set node
        (initNodeState ((graphCfg s g).nodes.getD node {}) (nodeConst g [] (graphCfg s g) node))) ∧
      (st = false → (graphSt t g).state = (graphSt s g).state)) ∧
  (∀ (s : State) (r : List (List (Int × Int))), s.eng.precision = none → exec (.precisionRunComplete r) s = .next s) ∧
  (∀ (s : State) (p : Precision) (r : List (List (Int × Int))), s.eng.precision = some p →
    (∀ x ∈ List.zip p.edges r, ∀ y ∈ List.zip x.1 x.2, y.1.inf = true ∨ (y.1.lo0 ≤ y.2.2 ∧ y.2.1 ≤ y.1.hi0)) →
    ∃ t, exec (.precisionRunComplete r) s = .next t ∧
      t.eng = { s.eng with precision := none, precisionResult := r } ∧
      t.log = logPost s.log (mkEvent s 0x6041 p.slot 0xFFFF []) ∧ t = { s with eng := t.eng, log := t.log }) ∧
  (∀ (s : State) (p : Precision) (r : List (List (Int × Int))), s.eng.precision = some p → p.slot < s.eng.graphs.length →
    (∃ x ∈ List.zip p.edges r, ∃ y ∈ List.zip x.1 x.2, y.1.inf = false ∧ (y.2.2 < y.1.lo0 ∨ y.1.hi0 < y.2.1)) →
    ∃ t, exec (.precisionRunComplete r) s = .next t ∧ t.eng.precisionResult = r ∧ t.eng.lastEmpty = some s.seq.frame ∧
      t.eng.precision = none ∧ (∀ e, (graphSt t p.slot).eval = some e → e.struck = true) ∧
      (graphSt t p.slot).poisoned = true ∧ (graphSt t p.slot).scrubEnd = some (s.seq.frame + 128) ∧
      (s.eng.lastEmpty = none → t.eng.distrusted = s.eng.distrusted) ∧
      (∀ f, s.eng.lastEmpty = some f → s.seq.frame < f + 6000000 → t.eng.distrusted = true ∧
        ∀ g, g < 8 → (graphSt s g).loaded = true → (graphSt t g).disabled = true))

/-- Control loops and probes (R305, R313): a frozen loop whose causes have been absent for 10 frames returns to RUN; a
probe is armed with its buffer cleared, or refused with event 0x7022; an abort and the 65,536th sample end a capture. -/
def Obligations.LoopResumeAndProbes : Prop :=
  (∀ (s : State) (i : Nat), i < s.ctl.loops.length → (ctl s i).state = .frozen → (ctl s i).cause = 0 → 10 ≤ (ctl s i).clean →
    s.pow.plantControl = true →
    ∃ t, exec (.loopResume i) s = .next t ∧
      ctl t i = { ctl s i with state := .run, cause := 0, clean := 0, start := some (ctl s i).u } ∧
      (∀ j, j ≠ i → ctl t j = ctl s j) ∧ t.ctl.probes = s.ctl.probes ∧
      t.log = logPost s.log (mkEvent s 0x7002 i 0xFFFF []) ∧ t = { s with ctl := t.ctl, log := t.log }) ∧
  (∀ (s : State) (i : Nat), ((ctl s i).state ≠ .frozen ∨ (ctl s i).cause ≠ 0 ∨ (ctl s i).clean < 10) →
    exec (.loopResume i) s = .next s) ∧
  (∀ (s : State) (i : Nat), i < s.ctl.probes.length → (probe s i).state = .idle ∨ (probe s i).state = .done →
    ddrReady s = true → probeValid i (probe s i) = true →
    ∃ t, exec (.probeArm i) s = .next t ∧
      probe t i = { probe s i with state := .armed, samples := [], lost := false, triggered := false, preTaken := 0,
                                   trigFrame := 0, count := 0, last := none } ∧
      (∀ j, j ≠ i → probe t j = probe s j) ∧ t = { s with ctl := { s.ctl with probes := t.ctl.probes } }) ∧
  (∀ (s : State) (i : Nat), (probe s i).state = .idle ∨ (probe s i).state = .done →
    (ddrReady s = false ∨ probeValid i (probe s i) = false) →
    exec (.probeArm i) s = .next { s with log := logPost s.log (mkEvent s 0x7022 i 0xFFFF []) }) ∧
  (∀ (s : State) (i : Nat), (probe s i).state = .armed ∨ (probe s i).state = .post →
    exec (.probeArm i) s = .next s ∧ (i < s.ctl.probes.length →
    ∃ t, exec (.probeAbort i) s = .next t ∧ probe t i = { probe s i with state := .done } ∧
      (∀ j, j ≠ i → probe t j = probe s j) ∧ t = { s with ctl := { s.ctl with probes := t.ctl.probes } })) ∧
  (∀ (s : State) (i : Nat), i < s.ctl.probes.length → (probe s i).state = .post → 65536 ≤ (probe s i).samples.length →
    ∃ t, exec (.probeDone i) s = .next t ∧
      probe t i = { probe s i with state := .done, captures := cnt (probe s i).captures } ∧
      t.log = logPost s.log (mkEvent s 0x7021 i 0xFFFF []) ∧ t = { s with ctl := t.ctl, log := t.log }) ∧
  (∀ (s : State) (i : Nat), (probe s i).samples.length < 65536 → exec (.probeDone i) s = .next s)

/-- The control law and the profile (R298, R301, R302): the output lies in the image's range and SAT says on which side it
was cut; the integral lies in its own range; the profile keeps its limits of speed and of acceleration and never runs past
its goal. rnd is the shift with rounding to nearest, ties away from zero (R301). -/
def Obligations.ControlLawAndProfileKeepTheirLimits : Prop :=
  (∀ (c : CtlCfg) (y r : Int) (n : Nat) (p : CtlLoop), c.outMin ≤ c.outMax →
    c.outMin ≤ (controlLaw c y r n p).u ∧ (controlLaw c y r n p).u ≤ c.outMax) ∧
  (∀ (c : CtlCfg) (y r : Int) (n : Nat) (p : CtlLoop), c.outMin ≤ c.outMax →
    ((controlLaw c y r n p).uSat = 0 ↔ (controlLaw c y r n p).u = (controlLaw c y r n p).usum) ∧
    ((controlLaw c y r n p).uSat = 1 → (controlLaw c y r n p).u = c.outMax) ∧
    ((controlLaw c y r n p).uSat = -1 → (controlLaw c y r n p).u = c.outMin)) ∧
  (∀ (c : CtlCfg) (y r : Int) (n : Nat) (p : CtlLoop), c.iMin ≤ c.iMax →
    (p.start = none → c.iMin * 65536 ≤ p.ifine ∧ p.ifine ≤ c.iMax * 65536) →
    c.iMin * 65536 ≤ (controlLaw c y r n p).ifine ∧ (controlLaw c y r n p).ifine ≤ c.iMax * 65536) ∧
  (∀ (c : CtlCfg) (y r : Int) (n : Nat) (p : CtlLoop) (a : Int), p.start = some a →
    (controlLaw c y r n p).start = none ∧ (controlLaw c y r n p).ud = sat32 (rnd 0 c.shD)) ∧
  (∀ (c : CtlCfg) (g : Int) (p : CtlLoop), (profileStep c g p).v.natAbs ≤ c.vLimit * 65536) ∧
  (∀ (c : CtlCfg) (g : Int) (p : CtlLoop), p.x < g * 4294967296 → (profileStep c g p).x ≤ g * 4294967296) ∧
  (∀ (c : CtlCfg) (g : Int) (p : CtlLoop), g * 4294967296 < p.x → g * 4294967296 ≤ (profileStep c g p).x) ∧
  (∀ (c : CtlCfg) (g : Int) (p : CtlLoop), ((profileStep c g p).a - p.a).natAbs ≤ c.jLimit ∨
    ((profileStep c g p).x = g * 4294967296 ∧ (profileStep c g p).v = 0 ∧ (profileStep c g p).a = 0)) ∧
  (∀ x : Int, rnd x 0 = x) ∧
  (∀ (x : Int) (k : Nat), 0 < k → 0 ≤ x → rnd x k = (x + 2 ^ (k - 1)) / 2 ^ k) ∧
  (∀ (x : Int) (k : Nat), 0 < k → x < 0 → rnd x k = -((-x + 2 ^ (k - 1)) / 2 ^ k))

/-- Telemetry (R354, R357, R358, R371, R375): a TEL of its frame that comes in time settles the frame and its records, and
a present slot that its SLOT_MASK leaves out has none; one that comes late, or of another frame, is discarded, one without
the session's protection counts as a failure of authentication; the deadline makes every present slot's record absent; 10
absent records make a site unresponsive and 10 valid ones on an UP port make it responsive. -/
def Obligations.TelemetryAndSiteResponse : Prop :=
  (∀ (s : State) (p : Nat) (head : List Nat) (interval missed mask : Nat) (records : List Nat),
    p < s.link.ports.length → headVerdict s p (parseHead head) = .taken →
    (parseHead head).type = 2 → (parseHead head).op = 0 →
    Client.telemetry ∉ s.seq.overran → clockRuns .telemetry s = true →
    (lport s p).telFrame ≠ some s.seq.frame → interval + 1 = s.seq.frame →
    records.length = 64 * (maskSlots mask).length →
    ∃ t, exec (.telReceived p head interval missed mask records true) s = .next t ∧
      (lport t p).telFrame = some s.seq.frame ∧ (lport t p).lastValid = s.seq.frame ∧
      (∀ k ∈ portSlots s p, k ∉ maskSlots mask →
        32 * p + k < s.caps.sites.length →
        (siteC t (32 * p + k)).absentRun = (siteC s (32 * p + k)).absentRun + 1) ∧
      t.seq = s.seq ∧ t.heat = s.heat ∧ t.plan = s.plan ∧ t.sent = s.sent ∧ t.pending = s.pending) ∧
  (∀ (s : State) (p : Nat) (head : List Nat) (interval missed mask : Nat) (records : List Nat),
    headVerdict s p (parseHead head) = .taken →
    (parseHead head).type = 2 → (parseHead head).op = 0 →
    Client.telemetry ∉ s.seq.overran → clockRuns .telemetry s = true →
    (∃ t, exec (.telReceived p head interval missed mask records false) s = .next t ∧ t.caps = s.caps ∧ t.seq = s.seq ∧ t.sent = s.sent ∧
      (lport t p).telFrame = (lport s p).telFrame ∧ (lport t p).counters = upd (lport s p).counters 12 (fun c => satAdd 32 c 1)) ∧
    (interval + 1 ≠ s.seq.frame →
      ∃ t, exec (.telReceived p head interval missed mask records true) s = .next t ∧ t.caps = s.caps ∧ t.sent = s.sent ∧
        (lport t p).telFrame = (lport s p).telFrame ∧ (lport t p).counters = (lport s p).counters)) ∧
  (∀ (s : State) (p : Nat) (head : List Nat) (interval missed mask : Nat) (records : List Nat) (b : Bool), linkAlive (lport s p) = false →
    exec (.telReceived p head interval missed mask records b) s = .next s) ∧
  (∀ (s : State) (p : Nat) (head : List Nat) (interval missed mask : Nat) (records : List Nat) (b : Bool), linkAlive (lport s p) = true → (lport s p).session = true →
    (parseHead head).auth = false → Client.telemetry ∉ s.seq.overran → clockRuns .telemetry s = true →
    exec (.telReceived p head interval missed mask records b) s = exec (.authFailure p) s) ∧
  (∀ (s : State) (p : Nat), p < 64 → (lport s p).session = true → (lport s p).telFrame ≠ some s.seq.frame →
    ∃ t, exec (.telDeadline p) s = .next t ∧ (lport t p).telFrame = some s.seq.frame ∧
      (∀ i ∈ portSites s p, i < s.caps.sites.length →
        siteC t i = { siteC s i with absentRun := (siteC s i).absentRun + 1, validRun := 0 }) ∧
      (∀ i, i ∉ portSites s p → siteC t i = siteC s i) ∧ t = { s with caps := t.caps, link := t.link }) ∧
  (∀ (s : State) (i : Nat), 10 ≤ (siteC s i).absentRun → (siteC s i).response = .responsive →
    ∃ t, exec (.siteUnresponsive i) s = .next t ∧
      siteC t i = { siteC s i with response := .unresponsive, validRun := 0 } ∧
      (∀ j, j ≠ i → siteC t j = siteC s j) ∧ t.log = logPost s.log (mkEvent s 0x9027 i 0xFFFF []) ∧
      t = { s with caps := { s.caps with sites := t.caps.sites }, log := t.log }) ∧
  (∀ (s : State) (i : Nat), (siteC s i).response ≠ .responsive → exec (.siteUnresponsive i) s = .next s) ∧
  (∀ (s : State) (i : Nat), sitePresent s i = true → (lport s (linkOf i)).state = .up → 10 ≤ (siteC s i).validRun →
    i % 32 ∉ (lport s (linkOf i)).emptied → (siteC s i).response ≠ .responsive →
    ∃ t, exec (.siteResponsive i) s = .next t ∧
      siteC t i = { siteC s i with response := .responsive, absentRun := 0 } ∧
      (∀ j, j ≠ i → siteC t j = siteC s j) ∧ t.log = logPost s.log (mkEvent s 0x9028 i 0xFFFF []) ∧
      t = { s with caps := { s.caps with sites := t.caps.sites }, log := t.log }) ∧
  (∀ (s : State) (i : Nat), ((lport s (linkOf i)).state ≠ .up ∨ (siteC s i).validRun < 10) →
    exec (.siteResponsive i) s = .next s)

/-- Reliable delivery (R353, R359 to R362, R380): the packet expected is taken and acknowledged, one of no known kind is
counted besides; a gap asks once in a frame for the packet missing; an earlier one is acknowledged again; one whose tag
fails in a session counts as a failure of authentication (R372); an ACK frees the packets it covers; a NAK replays
them, and one that has reached its limit of replays loses the link; a control packet out of order is counted alone; a
PING is sent once a second. A bad packet while the frame's TEL is missing asks for it again. -/
def Obligations.ReliableDeliveryAndPings : Prop :=
  (∀ (s : State) (p : Nat) (head payload : List Nat), headVerdict s p (parseHead head) = .taken → p < s.link.ports.length →
    rebuildPn (lport s p).expectPn (parseHead head).seq = (lport s p).expectPn →
    knownReliable p (parseHead head).type (parseHead head).op = true →
    ∃ t, exec (.reliablePacketReceived p head payload true) s = .next t ∧ (lport t p).expectPn = (lport s p).expectPn + 1 ∧
      (lport t p).lastValid = s.seq.frame ∧ (lport t p).nakPn = none ∧
      ctlSent s t p 0 (lport s p).expectPn false ∧ t.log = s.log ∧
      t = { s with link := t.link, sent := t.sent }) ∧
  (∀ (s : State) (p : Nat) (head payload : List Nat), headVerdict s p (parseHead head) = .taken → p < s.link.ports.length →
    rebuildPn (lport s p).expectPn (parseHead head).seq = (lport s p).expectPn →
    knownReliable p (parseHead head).type (parseHead head).op = false →
    ∃ t, exec (.reliablePacketReceived p head payload true) s = .next t ∧ (lport t p).expectPn = (lport s p).expectPn + 1 ∧
      ctlSent s t p 0 (lport s p).expectPn false ∧
      (lport t p).counters = upd (lport s p).counters 6 (fun c => satAdd 32 c 1)) ∧
  (∀ (s : State) (p : Nat) (head payload : List Nat), headVerdict s p (parseHead head) = .taken → p < s.link.ports.length →
    ((lport s p).expectPn : Int) < rebuildPn (lport s p).expectPn (parseHead head).seq →
    ∃ t, exec (.reliablePacketReceived p head payload true) s = .next t ∧ (lport t p).expectPn = (lport s p).expectPn ∧
      ((lport s p).nakPn = some ((lport s p).expectPn, s.seq.frame) → t.sent = s.sent) ∧
      ((lport s p).nakPn ≠ some ((lport s p).expectPn, s.seq.frame) →
        ctlSent s t p 1 (lport s p).expectPn false)) ∧
  (∀ (s : State) (p : Nat) (head payload : List Nat), headVerdict s p (parseHead head) = .taken → p < s.link.ports.length →
    rebuildPn (lport s p).expectPn (parseHead head).seq < (lport s p).expectPn →
    ∃ t, exec (.reliablePacketReceived p head payload true) s = .next t ∧ (lport t p).expectPn = (lport s p).expectPn ∧
      ctlSent s t p 0 ((lport s p).expectPn + 65535) false ∧ t.log = s.log) ∧
  (∀ (s : State) (p : Nat) (head payload : List Nat), headVerdict s p (parseHead head) = .taken →
    (lport s p).session = true → exec (.reliablePacketReceived p head payload false) s = exec (.authFailure p) s) ∧
  (∀ (s : State) (p : Nat) (head payload : List Nat) (n : Nat), (lport s p).ctlLast = some n → ctlNumber payload ≤ n →
    p < s.link.ports.length →
    (controlTaken s p 0 head → ∃ t, exec (.ackReceived p head payload) s = .next t ∧ (lport t p).replay = (lport s p).replay ∧
      (lport t p).counters = upd (lport s p).counters 6 (fun c => satAdd 32 c 1) ∧ t = { s with link := t.link }) ∧
    (controlTaken s p 1 head → ∃ t, exec (.nakReceived p head payload) s = .next t ∧ (lport t p).replay = (lport s p).replay ∧
      (lport t p).counters = upd (lport s p).counters 6 (fun c => satAdd 32 c 1) ∧ t = { s with link := t.link }) ∧
    (∀ rtt, controlTaken s p 3 head → ∃ t, exec (.pongReceived p head payload rtt) s = .next t ∧ (lport t p).rtt = (lport s p).rtt ∧
      (lport t p).counters = upd (lport s p).counters 6 (fun c => satAdd 32 c 1) ∧ t = { s with link := t.link })) ∧
  (∀ (s : State) (p : Nat) (head payload : List Nat) (k : ReplayPkt) (r : List ReplayPkt), controlTaken s p 0 head →
    p < s.link.ports.length → ctlFresh (lport s p) (ctlNumber payload) = true → (lport s p).replay = k :: r →
    (lport s p).waiting = [] → (p < 64 ∨ s.pair.snap = none) →
    ∃ t, exec (.ackReceived p head payload) s = .next t ∧ (lport t p).ctlLast = some (ctlNumber payload) ∧
      (lport t p).replay.map (·.pn) =
        ((k :: r).filter fun x => decide (rebuildPn k.pn (ctlNum16 payload) < (x.pn : Int))).map (·.pn) ∧
      t = { s with link := t.link }) ∧
  (∀ (s : State) (p : Nat) (head payload : List Nat) (k : ReplayPkt) (r : List ReplayPkt), controlTaken s p 1 head →
    p < s.link.ports.length → ctlFresh (lport s p) (ctlNumber payload) = true → (lport s p).replay = k :: r →
    (∀ x ∈ k :: r, rebuildPn k.pn (ctlNum16 payload) ≤ x.pn → x.replays < 4) →
    ∃ t, exec (.nakReceived p head payload) s = .next t ∧ (lport t p).ctlLast = some (ctlNumber payload) ∧
      (lport t p).replay = (k :: r).map (fun x => if rebuildPn k.pn (ctlNum16 payload) ≤ (x.pn : Int) then
        { x with replays := x.replays + 1, sent := s.seq.frame } else x) ∧
      t.sent.length = s.sent.length +
        ((k :: r).filter fun x => decide (rebuildPn k.pn (ctlNum16 payload) ≤ (x.pn : Int))).length ∧
      t = { s with link := t.link, sent := t.sent }) ∧
  (∀ (s : State) (p : Nat) (head payload : List Nat) (k : ReplayPkt) (r : List ReplayPkt), controlTaken s p 1 head →
    p < s.link.ports.length → ctlFresh (lport s p) (ctlNumber payload) = true → (lport s p).replay = k :: r →
    (∃ x ∈ k :: r, rebuildPn k.pn (ctlNum16 payload) ≤ x.pn ∧ 4 ≤ x.replays) →
    ∃ t, exec (.nakReceived p head payload) s = .next t ∧ (lport t p).session = false ∧ (lport t p).replay = [] ∧
      ((lport t p).state = .training ∨ (lport t p).state = .quarantine)) ∧
  (∀ (s : State) (p : Nat) (k : ReplayPkt) (r : List ReplayPkt), p < s.link.ports.length →
    (lport s p).replay = k :: r → k.sent + 4 ≤ s.seq.frame → (∀ x ∈ k :: r, k.pn ≤ x.pn ∧ x.replays < 4) →
    ∃ t, exec (.replayTimeout p) s = .next t ∧ t.sent.length = s.sent.length + (k :: r).length ∧
      (lport t p).replay = (k :: r).map (fun x => { x with replays := x.replays + 1, sent := s.seq.frame }) ∧
      t = { s with link := t.link, sent := t.sent }) ∧
  (∀ (s : State) (p : Nat), (lport s p).replay = [] → exec (.replayTimeout p) s = .next s) ∧
  (∀ (s : State) (p : Nat), p < s.link.ports.length → (lport s p).state = .up → (lport s p).pingFrame = none →
    ∃ t, exec (.pingSend p) s = .next t ∧ (lport t p).pingFrame = some s.seq.frame ∧
      ctlSent s t p 2 ((lport s p).pingNum + 1) false ∧ t = { s with link := t.link, sent := t.sent }) ∧
  (∀ (s : State) (p f : Nat), (lport s p).pingFrame = some f → s.seq.frame < f + 10000 →
    exec (.pingSend p) s = .next s) ∧
  (∀ (s : State) (p : Nat) (head payload : List Nat) (rtt : Nat), p < s.link.ports.length → controlTaken s p 3 head →
    ctlFresh (lport s p) (ctlNumber payload) = true → (lport s p).pingFrame ≠ none → ctlNum16 payload = (lport s p).pingNum →
    ∃ t, exec (.pongReceived p head payload rtt) s = .next t ∧ (lport t p).rtt = min 65535 rtt ∧
      t = { s with link := t.link, log := t.log } ∧ (rtt ≤ 1400 → t.log = s.log)) ∧
  (∀ (s : State) (p n : Nat) (bad : Bool), p < s.link.ports.length → (lport s p).state ≠ .up →
    ∃ t, exec (.packetError p n bad) s = .next t ∧ (lport t p).codeErrors = (lport s p).codeErrors + n ∧
      t = { s with link := t.link, log := t.log }) ∧
  (∀ (s : State) (p n : Nat) (bad : Bool), p < s.link.ports.length → p < 64 → (lport s p).state = .up →
    (lport s p).telFrame ≠ some s.seq.frame → (lport s p).telNak ≠ some s.seq.frame →
    ∃ t, exec (.packetError p n bad) s = .next t ∧ (lport t p).codeErrors = (lport s p).codeErrors + n ∧
      (lport t p).telNak = some s.seq.frame ∧ ctlSent s t p 1 (lport s p).expectPn true)

/-- Transactions and keys (R363, R364, R372): a response to an outstanding tag frees it; a late one is counted and logged;
after 8 frames a request is sent again, and the fourth timeout in a row loses the link; a re-key begins after 24 h: the
module sends under the next key from the boundary after the agent's response, and the first packet under the agent's new
phase ends it; 32 frames without that end the link; 16 failures of authentication in 10 s quarantine the port. -/
def Obligations.TransactionsAndSessionKeys : Prop :=
  (∀ (s : State) (p tag g : Nat) (b : TxnBody), responseKind (lport s p) tag g = 1 →
    ∃ t, exec (.transactionResponse p tag g b) s = .next t ∧ t = postRun 0x9024 (portCount p 8 1 s) p ∧
      (lport t p).txns = (lport s p).txns) ∧
  (∀ (s : State) (p tag g : Nat) (b : TxnBody), responseKind (lport s p) tag g = 2 →
    ∃ t, exec (.transactionResponse p tag g b) s = .next t ∧ t = postRun 0x9023 (portCount p 7 1 s) p ∧
      (lport t p).txns = (lport s p).txns) ∧
  (∀ (s : State) (p op : Nat) (x : Txn) (b : List Nat), p < s.link.ports.length → x ∈ (lport s p).txns →
    (lport s p).state ≠ .config → (lport s p).waiting = [] →
    ∃ t, exec (.transactionResponse p x.tag x.tgen (.cfg op b)) s = .next t ∧ (lport t p).timeouts = 0 ∧
      (lport t p).txns = (lport s p).txns.filter (fun y => y.tag ≠ x.tag) ∧
      (lport t p).gens = upd (lport s p).gens x.tag (fun k => (k + 1) % 16) ∧ t = { s with link := t.link }) ∧
  (∀ (s : State) (p tag : Nat), (∀ x ∈ (lport s p).txns, x.tag = tag → s.seq.frame < x.sent + 8) →
    exec (.transactionTimeout p tag) s = .next s) ∧
  (∀ (s : State) (p tag : Nat) (x : Txn), p < s.link.ports.length →
    (lport s p).txns.find? (fun y => y.tag = tag) = some x → x.sent + 8 ≤ s.seq.frame →
    (3 ≤ (lport s p).timeouts ∨ 3 ≤ x.tries) →
    ∃ t, exec (.transactionTimeout p tag) s = .next t ∧
      t = linkLost p 6 (post 0x9025 (portCount p 9 1
        (updPort p (fun y => { y with timeouts := y.timeouts + 1 }) (freeTag p tag s))) p) ∧
      (linkAlive (lport s p) = true → (lport t p).session = false ∧ (lport t p).txns = [] ∧
        ((lport t p).state = .training ∨ (lport t p).state = .quarantine))) ∧
  (∀ (s : State) (p tag : Nat) (x : Txn), p < s.link.ports.length →
    (lport s p).txns.find? (fun y => y.tag = tag) = some x → x.sent + 8 ≤ s.seq.frame →
    (lport s p).timeouts < 3 → x.tries < 3 →
    ∃ t, exec (.transactionTimeout p tag) s = .next t ∧
      t = sendTxn p x.att x.item (x.tries + 1) (post 0x9025 (portCount p 9 1
        (updPort p (fun y => { y with timeouts := y.timeouts + 1 }) (freeTag p tag s))) p) ∧
      (lport t p).timeouts = (lport s p).timeouts + 1 ∧ (lport t p).state = (lport s p).state ∧
      t.log = logPost s.log (mkEvent s 0x9025 p 0xFFFF []) ∧ t = { s with link := t.link, sent := t.sent, log := t.log }) ∧
  (∀ (s : State) (p : Nat), (lport s p).session = true → (lport s p).sessionFrame + 864000000 ≤ s.seq.frame →
    (lport s p).rekey = none → s.sec.drbgOk = true → p < s.link.ports.length →
    ∃ t, exec (.rekeyStart p) s = .next t ∧ (lport t p).rekey = some s.seq.frame ∧
      t.log = logPost s.log (mkEvent s 0x9041 p 0xFFFF []) ∧ t = { s with link := t.link, sent := t.sent, log := t.log }) ∧
  (∀ (s : State) (p : Nat), (lport s p).session = false → exec (.rekeyStart p) s = .next s) ∧
  (∀ (s : State) (p : Nat) (x : Txn), p < s.link.ports.length → (lport s p).rekey ≠ none →
    (lport s p).txns.find? (fun y => y.att && (y.item = 100 || y.item = 102)) = some x →
    ∃ t, exec (.keyUpdateAck p) s = .next t ∧ (lport t p).keyDue = true ∧ (lport t p).timeouts = 0 ∧
      t = { s with link := t.link }) ∧
  (∀ (s : State) (p : Nat), p < s.link.ports.length → (lport s p).keyDue = true →
    lport (keySwitch s) p = { lport s p with keyGen := (lport s p).keyGen + 1, keyDue := false, sessionFrame := s.seq.frame }) ∧
  (∀ (s : State) (p ph : Nat), p < s.link.ports.length → (lport s p).session = true → ph ≠ (lport s p).rxGen % 2 →
    (lport s p).rxGen < (lport s p).keyGen →
    lport (seePhase p ph s) p =
      { lport s p with rxGen := (lport s p).rxGen + 1, phaseFrame := some s.seq.frame, rekey := none }) ∧
  (∀ (s : State) (p f : Nat), (lport s p).rekey = some f → f + 32 ≤ s.seq.frame →
    ∃ t, exec (.rekeyTimeout p) s = .next t ∧ t = linkLost p 7 s ∧
      (linkAlive (lport s p) = true → (lport t p).session = false ∧ (lport t p).rekey = none)) ∧
  (∀ (s : State) (p f : Nat), (lport s p).rekey = some f → s.seq.frame < f + 32 → exec (.rekeyTimeout p) s = .next s) ∧
  (∀ (s : State) (p : Nat), p < s.link.ports.length → (lport s p).session = true → (lport s p).state = .up →
    15 ≤ ((lport s p).authFails.filter fun f => s.seq.frame < f + 100000).length →
    ∃ t, exec (.authFailure p) s = .next t ∧ (lport t p).state = .quarantine ∧ (lport t p).leaveCause = 10 ∧
      (lport t p).session = false ∧ (lport t p).quarAt = s.seq.frame) ∧
  (∀ (s : State) (p : Nat), p < s.link.ports.length → (lport s p).session = true → (lport s p).authFails = [] →
    ∃ t, exec (.authFailure p) s = .next t ∧ (lport t p).authFails = [s.seq.frame] ∧
      (lport t p).state = (lport s p).state ∧ t = { s with link := t.link, log := t.log })

/-- Port states (R350, R351, R369, R373, R374): training leads to attestation; three failed attempts in a row cycle the
port's domain, unless FLOOR_N of the link is asserted; an attestation that takes 1 s fails; a lost link ends the session
and trains again, or is quarantined at the 8th entry in 60 s; a quarantine ends after 10 s. -/
def Obligations.PortTrainingAttestationAndLoss : Prop :=
  (∀ (s : State) (p c : Nat) (d : List Int), p < s.link.ports.length → (lport s p).state = .training →
    ∃ t, exec (.trainingComplete p c d) s = .next t ∧ (lport t p).state = .attesting ∧ (lport t p).trainFails = 0 ∧
      (lport t p).ctle = c % 16 ∧ (lport t p).dfe = d.take 3 ∧ (lport t p).lastValid = s.seq.frame ∧
      (s.pow.ready = true → s.sec.drbgOk = true →
        (lport t p).attStart = some s.seq.frame ∧ (lport t p).attStep = 0) ∧
      t = { s with link := t.link, sent := t.sent }) ∧
  (∀ (s : State) (p c : Nat) (d : List Int), (lport s p).state ≠ .training →
    exec (.trainingComplete p c d) s = .next s ∧ exec (.trainingAttemptFail p) s = .next s) ∧
  (∀ (s : State) (p : Nat), p < s.link.ports.length → (lport s p).state = .training → (lport s p).trainFails < 2 →
    ∃ t, exec (.trainingAttemptFail p) s = .next t ∧
      lport t p = { lport s p with trainFails := (lport s p).trainFails + 1 } ∧
      t.log = logPost s.log (mkEvent s 0x9003 p 0xFFFF []) ∧ t = { s with link := t.link, log := t.log }) ∧
  (∀ (s : State) (p : Nat), p < s.link.ports.length → p < 64 → (lport s p).state = .training →
    (lport s p).trainFails = 2 → (floorLine s p).asserted = false → domainOn s p = true →
    ∃ t, exec (.trainingAttemptFail p) s = .next t ∧ (lport t p).trainFails = 0 ∧
      (t.pow.domains.getD p {}).state = .cycling ∧ t.caps = s.caps) ∧
  (∀ (s : State) (p f : Nat), p < s.link.ports.length → (lport s p).attStart = some f →
    (lport s p).state = .attesting → f + 10000 ≤ s.seq.frame →
    ∃ t, exec (.attestationTimeout p) s = .next t ∧ t = attestFails p (if p < 64 then 0x9011 else 0xE031) 8 s ∧
      (lport t p).state = .attesting ∧ (lport t p).retryAt = some (s.seq.frame + 100000) ∧
      (lport t p).leaveCause = 8 ∧ (lport t p).session = false ∧ (lport t p).attStart = none) ∧
  (∀ (s : State) (p f : Nat), (lport s p).attStart = some f → s.seq.frame < f + 10000 →
    exec (.attestationTimeout p) s = .next s) ∧
  (∀ (s : State) (p f : Nat), p < s.link.ports.length → (lport s p).retryAt = some f → f ≤ s.seq.frame → p < 64 →
    (lport s p).state = .attesting → s.pow.ready = true → s.sec.drbgOk = true → (lport s p).attStart = none →
    ∃ t, exec (.attestationRetry p) s = .next t ∧ (lport t p).retryAt = none ∧
      (lport t p).attStart = some s.seq.frame ∧ (lport t p).attStep = 0 ∧ (lport t p).state = .attesting) ∧
  (∀ (s : State) (p : Nat), (lport s p).retryAt = none → exec (.attestationRetry p) s = .next s) ∧
  (∀ (s : State) (p : Nat), (lport s p).codeErrors < 16 → exec (.linkLost p 2) s = .next s) ∧
  (∀ (s : State) (p c : Nat), linkAlive (lport s p) = false → linkLost p c s = s) ∧
  (∀ (s : State) (p c : Nat), p < s.link.ports.length → linkAlive (lport s p) = true →
    ((lport s p).entries.filter fun f => s.seq.frame < f + 600000).length < 8 →
    (c = 1 ∨ c = 3 ∨ (c = 2 ∧ 16 ≤ (lport s p).codeErrors) ∨
      (c = 4 ∧ (lport s p).state = .up ∧ (lport s p).lastValid + 10 ≤ s.seq.frame)) →
    ∃ t, exec (.linkLost p c) s = .next t ∧ t = linkLost p c s ∧
      (lport t p).state = .training ∧ (lport t p).session = false ∧ (lport t p).replay = [] ∧
      (lport t p).leaveCause = c ∧
      (∀ i ∈ portSites s p, i < s.caps.sites.length → (siteC t i).response ≠ .responsive)) ∧
  (∀ (s : State) (p c : Nat), p < s.link.ports.length → linkAlive (lport s p) = true →
    8 ≤ ((lport s p).entries.filter fun f => s.seq.frame < f + 600000).length → (c = 1 ∨ c = 3) →
    ∃ t, exec (.linkLost p c) s = .next t ∧ (lport t p).state = .quarantine ∧ (lport t p).leaveCause = 11 ∧
      (lport t p).session = false) ∧
  (∀ (s : State) (p : Nat), p < s.link.ports.length → (lport s p).state = .quarantine →
    (lport s p).quarAt + 100000 ≤ s.seq.frame →
    ∃ t, exec (.portQuarantineEnd p) s = .next t ∧ (lport t p).state = .training ∧ (lport t p).authFails = [] ∧
      t.log = logPost s.log (mkEvent s 0x9043 p 0xFFFF []) ∧ t = { s with link := t.link, log := t.log }) ∧
  (∀ (s : State) (p : Nat), s.seq.frame < (lport s p).quarAt + 100000 → exec (.portQuarantineEnd p) s = .next s) ∧
  (∀ (s : State) (p h w : Nat), p < s.link.ports.length → 40 ≤ h → 16 ≤ w →
    ∃ t, exec (.marginMeasure p h w) s = .next t ∧ (lport t p).marginH = h ∧ (lport t p).marginW = w ∧
      (lport t p).lowSince = none ∧ t = { s with link := t.link }) ∧
  (∀ (s : State) (p f : Nat), p < s.link.ports.length → (lport s p).lowSince = some f → f + 100000 ≤ s.seq.frame →
    ∃ t, exec (.marginMeasure p 0 0) s = .next t ∧ (lport t p).marginLow = true) ∧
  (∀ (s : State) (p : Nat) (b : List Nat), p < 64 → (lport s p).session = true →
    exec (.evtReceived p b) s = .next ((parseEvts b).foldl (evtEntry p) s)) ∧
  (∀ (s : State) (p : Nat) (b : List Nat), (lport s p).session = false → exec (.evtReceived p b) s = .next s) ∧
  (∀ (s : State) (p : Nat) (b : List Nat) (e : EvtEntry), p < s.link.ports.length → p < 64 → (lport s p).session = true →
    parseEvts b = [e] → ((lport s p).evts.filter fun f => s.seq.frame < f + 10000).length < 16 → 0x80 ≤ e.code →
    ∃ t, exec (.evtReceived p b) s = .next t ∧
      t.log = logPost s.log (mkEvent s 0x9050 p e.slot (e.code :: e.slot :: leBytes 4 e.detail)) ∧ t.caps = s.caps)

/-- Stalls and restarts (R396, R397, R398): an element that stalls in RUN goes to RETRY, or to FAILED when its retries are
used up; after 2 s in RETRY it restarts from speed 0 with detection suppressed for 8 s; 600 s without a stall give the
retries back; a group's full-speed command ends once its elements have settled. -/
def Obligations.ElementStallsAndRestarts : Prop :=
  (∀ (s : State) (p : Nat), p < 4 → p < s.pump.pumps.length → (pumpSt s p).state = .run → pumpStalls s p = true →
    anyWindow s = false → (∀ a ∈ s.maint.activities, inProgress a = false) →
    (pumpSt s p).retries < (s.img.pumps.getD p {}).stallRetries →
    ∃ t, exec (.elementStall p) s = .next t ∧
      pumpSt t p = { pumpSt s p with state := .retry, retries := (pumpSt s p).retries + 1, retrySince := s.seq.frame,
                                     stallFrame := s.seq.frame, stalls := cnt (pumpSt s p).stalls, runOut := false,
                                     keepsRunning := false, fullSince := (pumpSt s p).fullSince.map fun _ => s.seq.frame } ∧
      (∀ q, q ≠ p → pumpSt t q = pumpSt s q) ∧ t.log = logPost s.log (mkEvent s 0xA001 p 0xFFFF (leBytes 2 (pumpSt s p).faultCode)) ∧
      t = { s with pump := t.pump, log := t.log }) ∧
  (∀ (s : State) (p : Nat), p < 4 → p < s.pump.pumps.length → (pumpSt s p).state = .run → pumpStalls s p = true →
    anyWindow s = false → (∀ a ∈ s.maint.activities, inProgress a = false) →
    (s.img.pumps.getD p {}).stallRetries ≤ (pumpSt s p).retries →
    ∃ t, exec (.elementStall p) s = .next t ∧ (pumpSt t p).state = .failed ∧ (pumpSt t p).retries = (pumpSt s p).retries ∧
      t.log = logPost s.log (mkEvent s 0xA003 p 0xFFFF (leBytes 2 (pumpSt s p).faultCode)) ∧
      t = { s with pump := t.pump, log := t.log }) ∧
  (∀ (s : State) (f : Nat), f < s.pump.fans.length → (fanSt s f).state = .run → fanStalls s f = true →
    anyWindow s = false → (∀ a ∈ s.maint.activities, inProgress a = false) →
    (fanSt s f).retries < (s.img.fans.getD f {}).stallRetries →
    ∃ t, exec (.elementStall (4 + f)) s = .next t ∧ (fanSt t f).state = .retry ∧ (fanSt t f).duty = 0 ∧
      (fanSt t f).retries = (fanSt s f).retries + 1 ∧ t.log = logPost s.log (mkEvent s 0xA010 f 0xFFFF []) ∧
      t = { s with pump := t.pump, log := t.log }) ∧
  (∀ (s : State) (p : Nat), p < 4 → (pumpSt s p).state ≠ .run → (pumpSt s p).keepsRunning = false →
    (∀ a ∈ s.maint.activities, inProgress a = false) →
    exec (.elementStall p) s = .next s) ∧
  (∀ (s : State) (p : Nat), p < 4 → p < s.pump.pumps.length → (pumpSt s p).state = .retry →
    (pumpSt s p).retrySince + 20000 ≤ s.seq.frame →
    ∃ t, exec (.elementRetryEnd p) s = .next t ∧ (pumpSt t p).state = .run ∧ (pumpSt t p).speed = 0 ∧
      (pumpSt t p).suppress = s.seq.frame + 80000 ∧ (pumpSt t p).retries = (pumpSt s p).retries ∧
      (∀ q, q ≠ p → pumpSt t q = pumpSt s q) ∧ t.log = logPost s.log (mkEvent s 0xA002 p 0xFFFF []) ∧
      t = { s with pump := { s.pump with pumps := t.pump.pumps }, log := t.log }) ∧
  (∀ (s : State) (f : Nat), f < s.pump.fans.length → (fanSt s f).state = .retry →
    (fanSt s f).retrySince + 20000 ≤ s.seq.frame →
    ∃ t, exec (.elementRetryEnd (4 + f)) s = .next t ∧ (fanSt t f).state = .run ∧ (fanSt t f).speed = 0 ∧
      (fanSt t f).suppress = s.seq.frame + 80000 ∧ t.log = logPost s.log (mkEvent s 0xA011 f 0xFFFF []) ∧
      t = { s with pump := { s.pump with fans := t.pump.fans }, log := t.log }) ∧
  (∀ (s : State) (p : Nat), p < 4 → s.seq.frame < (pumpSt s p).retrySince + 20000 →
    exec (.elementRetryEnd p) s = .next s) ∧
  (∀ (s : State) (p : Nat), p < 4 → p < s.pump.pumps.length → (pumpSt s p).state = .run →
    (pumpSt s p).stallFrame + 6000000 ≤ s.seq.frame →
    ∃ t, exec (.retryCountReset p) s = .next t ∧ pumpSt t p = { pumpSt s p with retries := 0 } ∧
      (∀ q, q ≠ p → pumpSt t q = pumpSt s q) ∧ t = { s with pump := { s.pump with pumps := t.pump.pumps } }) ∧
  (∀ (s : State) (p : Nat), p < 4 → s.seq.frame < (pumpSt s p).stallFrame + 6000000 →
    exec (.retryCountReset p) s = .next s) ∧
  (∀ (s : State) (g : Nat), s.pump.fullSpeed.getD g false = true → groupMembersSettled s g = true →
    ∃ t, exec (.groupFullSpeedEnd g) s = .next t ∧ t.pump.fullSpeed = s.pump.fullSpeed.set g false ∧
      t.log = logPost s.log (mkEvent s 0xA023 g 0xFFFF []) ∧ t = { s with pump := t.pump, log := t.log }) ∧
  (∀ (s : State) (g : Nat), (s.pump.fullSpeed.getD g false = false ∨ groupMembersSettled s g = false) →
    exec (.groupFullSpeedEnd g) s = .next s)

/-- Pump paths, overspeed and ramps (R34, R382, R385, R390, R392): a status of 8 bytes gives the pump's speed and time; one
of another length is counted; 100 ms without a status moves the pump to its analog path; an episode of overspeed ends
after 120 s and its rest after 300 s; a speed state moves toward its target by its rate and never past it. -/
def Obligations.PumpPathsOverspeedAndRamps : Prop :=
  (∀ (s : State) (p : Nat) (b : List Nat), pumpPresent s p = true → b.length = 8 → p < s.pump.pumps.length →
    (pumpSt s p).analog = false → bit (leNat b) 17 = false →
    ∃ t, exec (.pumpStatusReceived p b) s = .next t ∧ (pumpSt t p).speedAct = leNat b % 65536 ∧
      (pumpSt t p).lastStatus = some s.seq.frame ∧ (pumpSt t p).statusCount = cnt (pumpSt s p).statusCount ∧
      (pumpSt t p).faultCode = bits (leNat b) 47 32 ∧
      (pumpSt t p).analog = false ∧ (∀ q, q ≠ p → pumpSt t q = pumpSt s q) ∧
      t = { s with pump := { s.pump with pumps := t.pump.pumps } }) ∧
  (∀ (s : State) (p : Nat) (b : List Nat), pumpPresent s p = true → b.length ≠ 8 →
    exec (.pumpStatusReceived p b) s =
      .next { s with pump := { s.pump with counters := upd s.pump.counters 6 cnt } }) ∧
  (∀ (s : State) (p : Nat) (b : List Nat), pumpPresent s p = false → exec (.pumpStatusReceived p b) s = .next s) ∧
  (∀ (s : State) (p f : Nat), pumpPresent s p = true → p < s.pump.pumps.length → (pumpSt s p).analog = false →
    (pumpSt s p).lastStatus = some f → f + 1000 ≤ s.seq.frame →
    ∃ t, exec (.pumpStatusStale p) s = .next t ∧ pumpSt t p = { pumpSt s p with analog := true, cycleRun := 0 } ∧
      (∀ q, q ≠ p → pumpSt t q = pumpSt s q) ∧ t.pump.counters = upd s.pump.counters 5 cnt ∧
      t.log = logPost s.log (mkEvent s 0xA004 p 0xFFFF []) ∧ t = { s with pump := t.pump, log := t.log }) ∧
  (∀ (s : State) (p : Nat), pumpPresent s p = true → p < s.pump.pumps.length → (pumpSt s p).analog = false →
    (pumpSt s p).lastStatus = none → 1000 ≤ s.seq.frame →
    ∃ t, exec (.pumpStatusStale p) s = .next t ∧ (pumpSt t p).analog = true) ∧
  (∀ (s : State) (p : Nat), (pumpSt s p).analog = true → exec (.pumpStatusStale p) s = .next s) ∧
  (∀ (s : State) (p f : Nat), p < s.pump.pumps.length → (pumpSt s p).episode = some f → f + 1200000 ≤ s.seq.frame →
    ∃ t, exec (.pumpOverspeedLimit p) s = .next t ∧ pumpSt t p = { pumpSt s p with limit := 10000 } ∧
      (∀ q, q ≠ p → pumpSt t q = pumpSt s q) ∧ t = { s with pump := { s.pump with pumps := t.pump.pumps } }) ∧
  (∀ (s : State) (p : Nat), (∀ f, (pumpSt s p).episode = some f → s.seq.frame < f + 1200000) →
    exec (.pumpOverspeedLimit p) s = .next s) ∧
  (∀ (s : State) (p f : Nat), p < s.pump.pumps.length → (pumpSt s p).restEnd = some f → f ≤ s.seq.frame →
    ∃ t, exec (.overspeedRestEnd p) s = .next t ∧ pumpSt t p = { pumpSt s p with restEnd := none } ∧
      t = { s with pump := { s.pump with pumps := t.pump.pumps } }) ∧
  (∀ (s : State) (p : Nat), (∀ f, (pumpSt s p).restEnd = some f → s.seq.frame < f) →
    exec (.overspeedRestEnd p) s = .next s) ∧
  (∀ (s : State) (p : Nat), (s.plan.mode ≠ .feast ∨ (pumpSt s p).analog = true ∨
      (∃ f, (pumpSt s p).episode = some f ∧ f + 1200000 ≤ s.seq.frame) ∨
      (∃ f, (pumpSt s p).restEnd = some f ∧ s.seq.frame < f)) → pumpLimit s p = 10000) ∧
  (∀ (g : GroupCfg) (t v : Nat), min v (t * 65536) ≤ speedStep g t v ∧ speedStep g t v ≤ max v (t * 65536) ∧
    speedStep g t v ≤ v + max 1 (max (g.rateUp * 65536 / 10000) (g.rateDown * 65536 / 10000)) ∧
    v ≤ speedStep g t v + max 1 (max (g.rateUp * 65536 / 10000) (g.rateDown * 65536 / 10000)) ∧
    (v ≠ t * 65536 → speedStep g t v ≠ v))

/-- Spray, water and Vigil (R395, R399, R401 to R404): 500 frames without a plan commit bring Vigil, and every spray
command ends; a duty of 0 leaves no opening in a cycle; Vigil, the inhibit and a spent budget make the duty 0; a new water
day begins with an empty account. -/
def Obligations.SprayWaterAndVigil : Prop :=
  (∀ s : State, s.pow.plantControl = true → 500 < s.pump.planAge → s.pump.vigil = false →
    ∃ t, exec .vigilHold s = .next t ∧ t.pump.vigil = true ∧ t.pump.commitRun = 0 ∧ t.pump.acc = 0 ∧
      t.pump.counters = upd s.pump.counters 0 cnt ∧ t.pump.pumps = s.pump.pumps ∧ t.pump.today = s.pump.today ∧
      (∀ x ∈ t.pump.spray, x.open_ = false ∧ x.until_ = 0) ∧ (∀ x ∈ t.valve.ch, x.c2 = false) ∧
      t.log = logPost s.log (mkEvent s 0xA020 0xFFFF 0xFFFF []) ∧
      t = { s with pump := t.pump, valve := t.valve, log := t.log }) ∧
  (∀ s : State, (s.pump.planAge ≤ 500 ∨ s.pump.vigil = true ∨ s.pow.plantControl = false) →
    exec .vigilHold s = .next s) ∧
  (∀ s : State, (s.pump.vigil = true ∨ s.pump.sprayInhibit = true ∨ waterSpent s = true) → sprayDuty s = 0) ∧
  (∀ s : State, s.seq.frame % 100000 = 0 → s.pow.plantControl = true → sprayDuty s = 0 →
    ∃ t, exec .sprayCycle s = .next t ∧ t.pump.acc = 0 ∧ (∀ x ∈ t.pump.spray, x.from_ = 0 ∧ x.until_ = 0) ∧
      t.pump.spray.map (·.account) = s.pump.spray.map (·.account) ∧ t = { s with pump := t.pump }) ∧
  (∀ s : State, s.seq.frame % 100000 = 0 → s.pow.plantControl = true → sprayDuty s ≠ 0 →
    5000 ≤ s.pump.acc + 10 * sprayDuty s →
    ∃ t, exec .sprayCycle s = .next t ∧
      t.pump.acc = s.pump.acc + 10 * sprayDuty s - min (s.pump.acc + 10 * sprayDuty s) 100000 ∧
      t.pump.counters = upd s.pump.counters 7 cnt ∧ t = { s with pump := t.pump } ∧
      (∀ v ∈ sprayServed s, v < s.pump.spray.length →
        (t.pump.spray.getD v {}).until_ = (t.pump.spray.getD v {}).from_ + min (s.pump.acc + 10 * sprayDuty s) 100000 ∧
        s.seq.frame ≤ (t.pump.spray.getD v {}).from_ ∧ (t.pump.spray.getD v {}).until_ ≤ s.seq.frame + 100000)) ∧
  (∀ s : State, s.seq.frame % 100000 ≠ 0 → exec .sprayCycle s = .next s) ∧
  (∀ s : State, wallValid s = false → timeLeft s = 0 →
    ∃ t, exec .waterDayRollover s = .next t ∧ t.pump.today = 0 ∧ t.pump.day = s.pump.day + 1 ∧
      t.pump.budgetSpent = false ∧ t.pump.total = s.pump.total ∧ t.pump.spray = s.pump.spray ∧
      t.log = logPost s.log (mkEvent s 0xA040 0xFFFF 0xFFFF []) ∧ t = { s with pump := t.pump, log := t.log }) ∧
  (∀ s : State, wallValid s = false → timeLeft s ≠ 0 → exec .waterDayRollover s = .next s) ∧
  (∀ s : State, wallValid s = true → s.pump.wallDay = true → (s.pump.day : Int) < waterDay s →
    ∃ t, exec .waterDayRollover s = .next t ∧ t.pump.today = 0 ∧ (t.pump.day : Int) = waterDay s ∧
      t.log = logPost s.log (mkEvent s 0xA040 0xFFFF 0xFFFF []) ∧ t = { s with pump := t.pump, log := t.log }) ∧
  (∀ s : State, wallValid s = true → s.pump.wallDay = true → waterDay s ≤ s.pump.day →
    ∃ t, exec .waterDayRollover s = .next t ∧ t.pump.today = s.pump.today ∧ t.pump.day = s.pump.day ∧ t.log = s.log)

/-- Coil phases and movement (R413, R414, R416, R417): PEAK gives way to HOLD after PEAK_MS; a staged release takes effect
and voids the movement window; below 50 mA the release is complete; a dip in the window shows movement; a window that ends
without one is a miss, and the third in a row fails the channel with reason 1. -/
def Obligations.CoilPhasesAndMovement : Prop :=
  (∀ (s : State) (c : Nat), c < s.valve.ch.length → (vch s c).drive = .peak →
    (vch s c).edge + 10 * (valveCfg s c).peakMs ≤ s.seq.frame →
    ∃ t, exec (.peakEnd c) s = .next t ∧ vch t c = { vch s c with drive := .hold } ∧
      (∀ d, d ≠ c → vch t d = vch s d) ∧ t = { s with valve := { s.valve with ch := t.valve.ch } }) ∧
  (∀ (s : State) (c : Nat), ((vch s c).drive ≠ .peak ∨ s.seq.frame < (vch s c).edge + 10 * (valveCfg s c).peakMs) →
    exec (.peakEnd c) s = .next s) ∧
  (∀ (s : State) (c : Nat), c < s.valve.ch.length → (vch s c).staged = some false → inCurrent (vch s c).drive = true →
    s.seq.phase ≤ 2 →
    ∃ t, exec (.valveRelease c) s = .next t ∧
      vch t c = { vch s c with drive := .releasing, staged := none, since := none, window := false,
                               releasedAt := s.seq.frame } ∧
      (∀ d, d ≠ c → vch t d = vch s d) ∧ t = { s with valve := { s.valve with ch := t.valve.ch } }) ∧
  (∀ (s : State) (c : Nat), ((vch s c).staged ≠ some false ∨ 3 ≤ s.seq.phase) →
    exec (.valveRelease c) s = .next s) ∧
  (∀ (s : State) (c ma : Nat), c < s.valve.ch.length → (vch s c).drive = .releasing → ma < 50 →
    ∃ t, exec (.releasingComplete c ma) s = .next t ∧ (vch t c).ma = ma ∧
      ((vch s c).since = none → (vch t c).drive = .released) ∧ ((vch s c).since ≠ none → (vch t c).drive = .waiting) ∧
      (∀ d, d ≠ c → vch t d = vch s d) ∧ t = { s with valve := { s.valve with ch := t.valve.ch } }) ∧
  (∀ (s : State) (c ma : Nat), ((vch s c).drive ≠ .releasing ∨ 50 ≤ ma) → exec (.releasingComplete c ma) s = .next s) ∧
  (∀ (s : State) (c time depth : Nat), windowOpen s c = true → c < s.valve.ch.length →
    10 * (valveCfg s c).dipStart ≤ time → time ≤ 10 * (valveCfg s c).dipEnd → max 20 ((valveCfg s c).peakMa / 64) ≤ depth →
    ∃ t, exec (.dipDetected c time depth) s = .next t ∧
      vch t c = { vch s c with window := false, moved := true, missRun := 0, dipTime := time, dipDepth := depth } ∧
      (∀ d, d ≠ c → vch t d = vch s d) ∧ t.valve.counters = upd s.valve.counters 1 cnt ∧
      t = { s with valve := t.valve }) ∧
  (∀ (s : State) (c time depth : Nat), windowOpen s c = false → exec (.dipDetected c time depth) s = .next s) ∧
  (∀ (s : State) (c : Nat), c < s.valve.ch.length → (vch s c).window = true → inCurrent (vch s c).drive = true →
    (vch s c).edge + 10 * (valveCfg s c).dipEnd ≤ s.seq.frame → (vch s c).missRun < 2 →
    ∃ t, exec (.missingDip c) s = .next t ∧
      vch t c = { vch s c with window := false, moved := false, missRun := (vch s c).missRun + 1,
                               misses := cnt (vch s c).misses, dipTime := 0xFFFF } ∧
      t.log = logPost s.log (mkEvent s 0xA060 c 0xFFFF []) ∧ t = { s with valve := t.valve, log := t.log }) ∧
  (∀ (s : State) (c : Nat), c < s.valve.ch.length → (vch s c).window = true → inCurrent (vch s c).drive = true →
    (vch s c).edge + 10 * (valveCfg s c).dipEnd ≤ s.seq.frame → (vch s c).missRun = 2 → (vch s c).reason = 0 →
    ∃ t, exec (.missingDip c) s = .next t ∧ (vch t c).reason = 1 ∧ (vch t c).missRun = 3 ∧
      t.log = logPost (logPost s.log (mkEvent s 0xA060 c 0xFFFF [])) (mkEvent s 0xA061 c 1 []) ∧
      t = { s with valve := t.valve, log := t.log }) ∧
  (∀ (s : State) (c : Nat), (vch s c).window = false → exec (.missingDip c) s = .next s) ∧
  (∀ (s : State) (c time depth : Nat), (time < 10 * (valveCfg s c).dipStart ∨ 10 * (valveCfg s c).dipEnd < time ∨
    depth < max 20 ((valveCfg s c).peakMa / 64)) → exec (.dipDetected c time depth) s = .next s)

/-- Coil and switch faults (R418): a coil short, an open coil seen while energised or released, and a low-side switch that
stays on each mark their element with its own reason and event; a switch that failed on costs its bank, and every channel
of the bank is released. -/
def Obligations.CoilAndSwitchFaults : Prop :=
  (∀ (s : State) (c : Nat), c < s.valve.ch.length → inCurrent (vch s c).drive = true →
    ∃ t, exec (.coilShort c) s = .next t ∧ (vch t c).reason = 4 ∧
      inCurrent (vch t c).drive = false ∧ t.log = logPost s.log (mkEvent s 0xA064 c 4 []) ∧
      (∀ d, d ≠ c → vch t d = vch s d) ∧ t.valve.counters = upd (upd s.valve.counters 5 cnt) 14 cnt ∧
      t = { s with valve := t.valve, log := t.log }) ∧
  (∀ (s : State) (c : Nat), inCurrent (vch s c).drive = false →
    exec (.coilShort c) s = .next s ∧ exec (.openCoilEnergised c) s = .next s) ∧
  (∀ (s : State) (c : Nat), c < s.valve.ch.length → inCurrent (vch s c).drive = true → (vch s c).edge + 20 ≤ s.seq.frame →
    (vch s c).reason = 0 →
    ∃ t, exec (.openCoilEnergised c) s = .next t ∧ (vch t c).reason = 2 ∧
      t.log = logPost s.log (mkEvent s 0xA062 c 2 []) ∧ (∀ d, d ≠ c → vch t d = vch s d) ∧
      t.valve.counters = upd (upd s.valve.counters 3 cnt) 14 cnt ∧ t = { s with valve := t.valve, log := t.log }) ∧
  (∀ (s : State) (c mv : Nat), c < s.valve.ch.length → inCurrent (vch s c).drive = false →
    (vbank s (c / 8)).state = .on → (vch s c).releasedAt + 200 ≤ s.seq.frame → mv < 2000 → (vch s c).reason = 0 →
    (valveCfg s c).function ≠ 0 →
    ∃ t, exec (.openCoilReleased c mv) s = .next t ∧ (vch t c).reason = 3 ∧ (vch t c).offMv = mv ∧
      t.log = logPost s.log (mkEvent s 0xA063 c 3 []) ∧ (∀ d, d ≠ c → vch t d = vch s d) ∧
      t = { s with valve := t.valve, log := t.log }) ∧
  (∀ (s : State) (c mv : Nat), 2000 ≤ mv → exec (.openCoilReleased c mv) s = .next s) ∧
  (∀ (s : State) (c ma : Nat), c / 8 < s.valve.banks.length → inCurrent (vch s c).drive = false →
    (vch s c).releasedAt + 200 ≤ s.seq.frame → 100 ≤ ma → (vbank s (c / 8)).state = .on →
    ∃ t, exec (.switchFailedOn c ma) s = .next t ∧ (vbank t (c / 8)).state = .failed ∧
      (vbank t (c / 8)).switchFailed = true ∧ (∀ d ∈ bankChs (c / 8), inCurrent (vch t d).drive = false) ∧
      (∀ d, d ∉ bankChs (c / 8) → vch t d = vch s d) ∧ t.log = logPost s.log (mkEvent s 0xA065 c (c / 8) []) ∧
      t = { s with valve := t.valve, log := t.log }) ∧
  (∀ (s : State) (c ma : Nat), ma < 100 → exec (.switchFailedOn c ma) s = .next s) ∧
  (∀ (s : State) (n cls : Nat), (vch s n).reason = 4 → driven s n cls = false)

/-- Bank trips and temperature (R418, R421): overcurrent and a ground fault trip a bank that is ON, and its third trip in
60 s fails it; a trip ends after 1 s; 160.0 C makes it HOT, 140.0 C warns, and 1 s at or below 140.0 C gives it back. -/
def Obligations.BankTripsAndTemperature : Prop :=
  (∀ (s : State) (b hs : Nat), b < s.valve.banks.length → 8000 ≤ hs → (vbank s b).state = .on →
    ((vbank s b).tripFrames.filter fun f => s.seq.frame < f + 600000).length < 2 →
    ∃ t, exec (.bankOvercurrent b hs) s = .next t ∧ (vbank t b).state = .tripped ∧ (vbank t b).hsMa = hs ∧
      (vbank t b).trippedAt = s.seq.frame ∧ (∀ d ∈ bankChs b, inCurrent (vch t d).drive = false) ∧
      (∀ d, d ∉ bankChs b → vch t d = vch s d) ∧ (∀ c, c ≠ b → vbank t c = vbank s c) ∧
      t.log = logPost s.log (mkEvent s 0xA06C b 0xFFFF []) ∧ t = { s with valve := t.valve, log := t.log }) ∧
  (∀ (s : State) (b hs ls : Nat), b < s.valve.banks.length → ls + 300 ≤ hs → (vbank s b).state = .on →
    2 ≤ ((vbank s b).tripFrames.filter fun f => s.seq.frame < f + 600000).length →
    ∃ t, exec (.groundFault b hs ls) s = .next t ∧ (vbank t b).state = .failed ∧
      (∀ d ∈ bankChs b, inCurrent (vch t d).drive = false) ∧
      t.log = logPost (logPost s.log (mkEvent s 0xA06C b 0xFFFF [])) (mkEvent s 0xA06D b 0xFFFF []) ∧
      t = { s with valve := t.valve, log := t.log }) ∧
  (∀ (s : State) (b hs ls : Nat), hs < 8000 → hs < ls + 300 →
    exec (.bankOvercurrent b hs) s = .next s ∧ exec (.groundFault b hs ls) s = .next s) ∧
  (∀ (s : State) (b : Nat), b < s.valve.banks.length → (vbank s b).state = .tripped →
    (vbank s b).trippedAt + 10000 ≤ s.seq.frame →
    ∃ t, exec (.bankTripRecovery b) s = .next t ∧
      vbank t b = { vbank s b with state := if bankConditions s b then .on else .off } ∧
      (∀ c, c ≠ b → vbank t c = vbank s c) ∧ t = { s with valve := { s.valve with banks := t.valve.banks } }) ∧
  (∀ (s : State) (b : Nat), ((vbank s b).state ≠ .tripped ∨ s.seq.frame < (vbank s b).trippedAt + 10000) →
    exec (.bankTripRecovery b) s = .next s) ∧
  (∀ (s : State) (b : Nat) (temp : Int), b < s.valve.banks.length → 10240 ≤ temp → (vbank s b).state = .on →
    ∃ t, exec (.driverHot b temp) s = .next t ∧ (vbank t b).state = .hot ∧ (vbank t b).temp = some (satTemp temp) ∧
      (vbank t b).thermWarn = false ∧ (∀ d ∈ bankChs b, inCurrent (vch t d).drive = false) ∧
      t = { s with valve := t.valve, log := t.log }) ∧
  (∀ (s : State) (b : Nat) (temp : Int), b < s.valve.banks.length → 8960 ≤ temp → temp < 10240 → (vbank s b).state = .on →
    ∃ t, exec (.driverHot b temp) s = .next t ∧ (vbank t b).state = .on ∧ (vbank t b).thermWarn = true ∧
      t.valve.ch = s.valve.ch ∧ t = { s with valve := t.valve, log := t.log }) ∧
  (∀ (s : State) (b : Nat) (temp : Int), temp < 8960 → exec (.driverHot b temp) s = .next s) ∧
  (∀ (s : State) (b f : Nat) (temp : Int), b < s.valve.banks.length → temp ≤ 8960 → (vbank s b).state = .hot →
    (vbank s b).coolSince = some f → f + 10000 ≤ s.seq.frame →
    ∃ t, exec (.driverCool b temp) s = .next t ∧
      (vbank t b).state = (if bankConditions s b then .on else .off) ∧ (vbank t b).temp = some (satTemp temp) ∧
      t = { s with valve := t.valve }) ∧
  (∀ (s : State) (b : Nat) (temp : Int), b < s.valve.banks.length → temp ≤ 8960 → (vbank s b).state = .hot →
    (vbank s b).coolSince = none →
    ∃ t, exec (.driverCool b temp) s = .next t ∧ (vbank t b).state = .hot ∧ (vbank t b).coolSince = some s.seq.frame ∧
      t = { s with valve := t.valve })

/-- Duty, refusal and admission (R420, R422, R424): the energy drawn is added to the window, whose open bucket
closes with each second, and at the limit the channel's duty is spent; a request of class 1 to 3 that has waited 500 frames is refused and dropped; admission leaves at most one
channel of a bank in PEAK. -/
def Obligations.DutyRefusalAndOnePeakPerBank : Prop :=
  (∀ (s : State) (c uj : Nat), c < s.valve.ch.length →
    ∃ t, exec (.dutyLimit c uj) s = .next t ∧ (vch t c).openBucket = (vch s c).openBucket + uj ∧
      (vch t c).buckets = (vch s c).buckets ∧
      ((valveCfg s c).dutyLimit * 100000 ≤ windowSum (vch s c) + uj → (vch t c).dutyOver = true) ∧
      (windowSum (vch s c) + uj < (valveCfg s c).dutyLimit * 100000 →
        (windowSum (vch s c) + uj) * 10 ≤ (valveCfg s c).dutyLimit * 900000 → (vch t c).dutyOver = false) ∧
      (windowSum (vch s c) + uj < (valveCfg s c).dutyLimit * 100000 →
        (valveCfg s c).dutyLimit * 900000 < (windowSum (vch s c) + uj) * 10 → (vch t c).dutyOver = (vch s c).dutyOver) ∧
      (∀ d, d ≠ c → vch t d = vch s d) ∧ t = { s with valve := t.valve, log := t.log }) ∧
  (∀ (s : State) (c : Nat), c < s.valve.ch.length → s.seq.frame % 10000 = 0 →
    (vch (dutySecond s) c).openBucket = 0 ∧
    (vch (dutySecond s) c).buckets = ((vch s c).openBucket :: (vch s c).buckets).take 60) ∧
  (∀ s : State, s.seq.frame % 10000 ≠ 0 → dutySecond s = s) ∧
  (∀ (s : State) (c cls f : Nat), c < s.valve.ch.length → requestInForce (vch s c) = some (cls, true) → cls ≠ 0 →
    (vch s c).since = some f → f + 500 < s.seq.frame → inCurrent (vch s c).drive = false → (vch s c).staged = none →
    ∃ t, exec (.valveRequestRefused c) s = .next t ∧ (vch t c).since = none ∧ (vch t c).lastResult = 2 ∧
      (vch t c).drive ≠ .waiting ∧ requestInForce (vch t c) ≠ some (cls, true) ∧ (∀ d, d ≠ c → vch t d = vch s d) ∧
      t.log = logPost s.log (mkEvent s 0xA067 c cls []) ∧ t = { s with valve := t.valve, log := t.log }) ∧
  (∀ (s : State) (c : Nat), (vch s c).since = none → exec (.valveRequestRefused c) s = .next s) ∧
  (∀ (s : State) (c f : Nat), (vch s c).since = some f → s.seq.frame < f + 500 →
    exec (.valveRequestRefused c) s = .next s) ∧
  (∀ (s : State) (c : Nat) (v : Bool), requestInForce (vch s c) = some (0, v) → exec (.valveRequestRefused c) s = .next s) ∧
  (∀ (s : State) (b : Nat), ((bankChs b).filter fun c => busyPeak (vch s c)).length ≤ 1 →
    ((bankChs b).filter fun c => busyPeak (vch (bankAdmission s b) c)).length ≤ 1)

/-- Leak inputs (R434, R437): a rope is WET after 5 wet frames and a float after 10, DRY after 10,000 dry ones, FAULT after
100; without the count nothing changes; a WET rope's location adds sides and takes none away. -/
def Obligations.LeakInputsAndLocations : Prop :=
  (∀ (s : State) (i x : Nat), i < 16 → i < s.leak.inputs.length → leakUsed s i = true → (leakIn s i).state = .dry →
    5 ≤ (leakIn s i).wetRun →
    ∃ t, exec (.leakInputState i .wet x) s = .next t ∧ (leakIn t i).state = .wet ∧ (leakIn t i).location = x ∧
      (leakIn t i).contacts = cnt (leakIn s i).contacts ∧ (∀ j, j ≠ i → leakIn t j = leakIn s j) ∧
      t.log = logPost s.log (mkEvent s 0xB001 i 0xFFFF (leBytes 2 x)) ∧ t = { s with leak := t.leak, log := t.log }) ∧
  (∀ (s : State) (i x : Nat), 16 ≤ i → i < s.leak.inputs.length → leakUsed s i = true → (leakIn s i).state = .dry →
    10 ≤ (leakIn s i).wetRun →
    ∃ t, exec (.leakInputState i .wet x) s = .next t ∧ (leakIn t i).state = .wet ∧ (leakIn t i).sideA = true ∧
      t.log = logPost s.log (mkEvent s 0xB010 (i - 16) 0xFFFF []) ∧ t = { s with leak := t.leak, log := t.log }) ∧
  (∀ (s : State) (i x : Nat), (leakIn s i).state ≠ .wet → (leakIn s i).wetRun < 5 →
    exec (.leakInputState i .wet x) s = .next s) ∧
  (∀ (s : State) (i x : Nat), i < 16 → i < s.leak.inputs.length → leakUsed s i = true → (leakIn s i).state = .wet →
    10000 ≤ (leakIn s i).dryRun →
    ∃ t, exec (.leakInputState i .dry x) s = .next t ∧
      leakIn t i = { leakIn s i with state := .dry, sideA := false, sideB := false, nearSplit := false, location := 0xFFFF } ∧
      (∀ j, j ≠ i → leakIn t j = leakIn s j) ∧ t.log = logPost s.log (mkEvent s 0xB002 i 0xFFFF []) ∧
      t = { s with leak := { s.leak with inputs := t.leak.inputs }, log := t.log }) ∧
  (∀ (s : State) (i x : Nat), (leakIn s i).state = .wet → (leakIn s i).dryRun < 10000 →
    exec (.leakInputState i .dry x) s = .next s) ∧
  (∀ (s : State) (i x : Nat), i < 16 → i < s.leak.inputs.length → leakUsed s i = true → (leakIn s i).state ≠ .fault →
    100 ≤ (leakIn s i).faultRun →
    ∃ t, exec (.leakInputState i .fault x) s = .next t ∧
      leakIn t i = { leakIn s i with state := .fault, location := 0xFFFF } ∧
      t.log = logPost s.log (mkEvent s 0xB003 i 0xFFFF []) ∧
      t = { s with leak := { s.leak with inputs := t.leak.inputs }, log := t.log }) ∧
  (∀ (s : State) (i x : Nat), (leakIn s i).faultRun < 100 → exec (.leakInputState i .fault x) s = .next s) ∧
  (∀ (s : State) (i x : Nat) (st : LeakInState), leakUsed s i = false → exec (.leakInputState i st x) s = .next s) ∧
  (∀ (s : State) (i x : Nat), i < 16 → i < s.leak.inputs.length → (leakIn s i).state = .wet →
    (leakIn s i).measured + 10000 ≤ s.seq.frame →
    ∃ t, exec (.ropeLocation i x) s = .next t ∧ (leakIn t i).location = x ∧ (leakIn t i).measured = s.seq.frame ∧
      ((leakIn s i).sideA = true → (leakIn t i).sideA = true) ∧ ((leakIn s i).sideB = true → (leakIn t i).sideB = true) ∧
      (∀ j, j ≠ i → leakIn t j = leakIn s j) ∧ t = { s with leak := { s.leak with inputs := t.leak.inputs } }) ∧
  (∀ (s : State) (i x : Nat), (leakIn s i).state ≠ .wet → exec (.ropeLocation i x) s = .next s)

/-- Confirmers and causes (R441 to R443, R450 to R452): the hold-off of the mass balance ends 10 s after it began; a second
of pressures is fitted unless it is void; 200 high frames in a row confirm the classifier; the causes of an emergency end by
their own times, and the ring is open after 50 frames and closed after 10,000. -/
def Obligations.LeakConfirmersAndCauses : Prop :=
  (∀ (s : State) (l f : Nat), l < s.leak.loops.length → (leakLoop s l).holdUntil = some f → f ≤ s.seq.frame →
    ∃ t, exec (.massBalanceHoldoffEnd l) s = .next t ∧ leakLoop t l = { leakLoop s l with holdUntil := none } ∧
      (∀ k, k ≠ l → leakLoop t k = leakLoop s k) ∧ t = { s with leak := { s.leak with loops := t.leak.loops } }) ∧
  (∀ (s : State) (l : Nat), (∀ f, (leakLoop s l).holdUntil = some f → s.seq.frame < f) →
    exec (.massBalanceHoldoffEnd l) s = .next s) ∧
  (∀ (s : State) (l : Nat), ((restartBalance l s).leak.loops.getD l {}).holdUntil =
    if l < s.leak.loops.length then some (s.seq.frame + 100000) else none) ∧
  (∀ (s : State) (l : Nat), l < s.leak.loops.length → (leakLoop s l).decayActive = true → 10000 ≤ (leakLoop s l).pCount →
    s.seq.state = .normal → (leakLoop s l).pVoid = true →
    ∃ t, exec (.pressureDecayEval l) s = .next t ∧
      leakLoop t l = { leakLoop s l with sec := (leakLoop s l).sec + 1, pSum := 0, pCount := 0, pVoid := false } ∧
      t = { s with leak := { s.leak with loops := t.leak.loops } }) ∧
  (∀ (s : State) (l : Nat), l < s.leak.loops.length → (leakLoop s l).decayActive = true → 10000 ≤ (leakLoop s l).pCount →
    s.seq.state = .normal → (leakLoop s l).pVoid = false → 9 ≤ (leakLoop s l).pVals.length →
    ∃ t d, exec (.pressureDecayEval l) s = .next t ∧
      d = decaySlope ((((leakLoop s l).sec, (leakLoop s l).pSum) :: (leakLoop s l).pVals).take 10) ∧
      (leakLoop t l).decay = d ∧ (leakLoop t l).sec = (leakLoop s l).sec + 1 ∧ (leakLoop t l).pCount = 0 ∧
      (leakLoop t l).decayRun = (if f32Lt (leakLoop s l).decayThr d then (leakLoop s l).decayRun + 1 else 0) ∧
      (leakLoop t l).decayConfirmed = decide (5 ≤ (leakLoop t l).decayRun) ∧ (leakLoop t l).iso = (leakLoop s l).iso ∧
      (∀ k, k ≠ l → leakLoop t k = leakLoop s k) ∧ t = { s with leak := t.leak, log := t.log }) ∧
  (∀ (s : State) (l : Nat), l < s.leak.loops.length → (leakLoop s l).decayActive = true → 10000 ≤ (leakLoop s l).pCount →
    s.seq.state = .normal → (leakLoop s l).pVoid = false → (leakLoop s l).pVals.length < 9 →
    ∃ t, exec (.pressureDecayEval l) s = .next t ∧
      leakLoop t l = { leakLoop s l with pVals := ((leakLoop s l).sec, (leakLoop s l).pSum) :: (leakLoop s l).pVals,
                                         sec := (leakLoop s l).sec + 1, pSum := 0, pCount := 0 } ∧
      t = { s with leak := { s.leak with loops := t.leak.loops } }) ∧
  (∀ (s : State) (l : Nat), ((leakLoop s l).pCount < 10000 ∨ s.seq.state ≠ .normal) →
    exec (.pressureDecayEval l) s = .next s) ∧
  (∀ (s : State) (l : Nat), l < s.leak.loops.length → 200 ≤ (leakLoop s l).clsRun → (leakLoop s l).clsConfirmed = false →
    s.seq.state = .normal → s.pow.plantControl = false →
    ∃ t, exec (.classifierConfirm l) s = .next t ∧ leakLoop t l = { leakLoop s l with clsConfirmed := true } ∧
      (∀ k, k ≠ l → leakLoop t k = leakLoop s k) ∧ t.leak.counters = upd s.leak.counters 4 cnt ∧
      t.log = logPost s.log (mkEvent s 0xB040 l 0xFFFF []) ∧ t = { s with leak := t.leak, log := t.log }) ∧
  (∀ (s : State) (l : Nat), (leakLoop s l).clsRun < 200 → exec (.classifierConfirm l) s = .next s) ∧
  (∀ s : State, s.leak.rowSensor = true → (∀ i, i < 24 → inputDry s 30 i = true) →
    exec .rowSensorCauseEnd s = .next { s with leak := { s.leak with rowSensor := false } }) ∧
  (∀ (s : State) (i : Nat), i < 24 → inputDry s 30 i = false → exec .rowSensorCauseEnd s = .next s) ∧
  (∀ s : State, s.leak.manyLoops = true → s.leak.manyFrame + 600000 ≤ s.seq.frame →
    exec .manyLoopsEnd s = .next { s with leak := { s.leak with manyLoops := false } }) ∧
  (∀ s : State, s.seq.frame < s.leak.manyFrame + 600000 → exec .manyLoopsEnd s = .next s) ∧
  (∀ s : State, 50 ≤ s.leak.ringOpenRun → s.leak.ringExt = false →
    ∃ t, exec .ringOpenExternal s = .next t ∧ t.leak = { s.leak with ringExt := true } ∧
      (∀ k, k < s.caps.floors.length → floorLine t k = { floorLine s k with row := domainOn s k }) ∧
      t.log = logPost s.log (mkEvent s 0xB061 0xFFFF 0xFFFF []) ∧ t.pow = s.pow ∧
      t = { s with leak := t.leak, caps := t.caps, log := t.log }) ∧
  (∀ s : State, s.leak.ringOpenRun < 50 → exec .ringOpenExternal s = .next s) ∧
  (∀ s : State, 10000 ≤ s.leak.ringClosedRun → s.leak.ringExt = true →
    ∃ t, exec .ringClosedExternal s = .next t ∧ t.leak = { s.leak with ringExt := false } ∧
      (∀ k, k < s.caps.floors.length → floorLine t k = { floorLine s k with row := s.leak.emergency && domainOn s k }) ∧
      t.log = logPost s.log (mkEvent s 0xB063 0xFFFF 0xFFFF [])) ∧
  (∀ s : State, s.leak.ringClosedRun < 10000 → exec .ringClosedExternal s = .next s) ∧
  (∀ (s : State) (l : Nat), l < s.leak.loops.length → l < s.heat.loops.length → 200 ≤ (leakLoop s l).clsRun →
    (leakLoop s l).clsConfirmed = false → s.seq.state = .normal → s.pow.plantControl = true →
    (leakLoop s l).iso = .isOpen →
    ∃ t, exec (.classifierConfirm l) s = .next t ∧ (leakLoop t l).clsConfirmed = true ∧
      (leakLoop t l).iso = .closing ∧ (leakLoop t l).decidedFrame = s.seq.frame ∧
      (leakLoop t l).isolations = cnt (leakLoop s l).isolations ∧ (loopP t l).isolated = true ∧
      (∀ c ∈ isoChs s l, c < s.valve.ch.length → (vch t c).c0 = true)) ∧
  (∀ (s : State) (l : Nat), l < s.leak.loops.length → 200 ≤ (leakLoop s l).clsRun →
    (leakLoop s l).clsConfirmed = false → s.seq.state = .normal → s.pow.plantControl = true →
    (leakLoop s l).iso ≠ .isOpen →
    ∃ t, exec (.classifierConfirm l) s = .next t ∧ (leakLoop t l).clsConfirmed = true ∧
      (leakLoop t l).iso = (leakLoop s l).iso ∧ t.valve = s.valve)

/-- Isolation (R446 to R449): a decision energises both isolation valves of the loop, asserts FLOOR_N of its links and holds
its pages; the later edge begins the check; 3 s after it the loop holds only where both valves moved and no flow was
measured; a loop that does not hold is looked at again every 10 s; a release needs every condition of R449. -/
def Obligations.IsolationDecisionAndChecks : Prop :=
  (∀ (s : State) (l : Nat), l < s.heat.loops.length →
    (∀ c ∈ isoChs s l, c < s.valve.ch.length → (vch (holdIsolation l s) c).c0 = true) ∧
    (∀ c, c ∉ isoChs s l → vch (holdIsolation l s) c = vch s c) ∧
    (∀ k ∈ loopLinks s l, k < s.caps.floors.length → (floorLine (holdIsolation l s) k).leak = true) ∧
    (loopP (holdIsolation l s) l).isolated = true ∧ (holdIsolation l s).leak = s.leak ∧ (holdIsolation l s).log = s.log) ∧
  (∀ (s : State) (c : Nat), ((vch s c).staged ≠ some true ∨ 3 ≤ s.seq.phase) →
    exec (.energisingEdge c) s = .next s) ∧
  (∀ (s : State) (c : Nat), c < s.valve.ch.length → (vch s c).staged = some true → s.seq.phase ≤ 2 →
    (∀ l ∈ leakLoops s, c ∉ isoChs s l) →
    ∃ t, exec (.energisingEdge c) s = .next t ∧
      vch t c = { vch s c with drive := .peak, staged := none, since := none, edge := s.seq.frame, window := true,
                               dipTime := 0xFFFF, dipDepth := 0, edges := cnt (vch s c).edges, lastEdge := s.seq.frame } ∧
      (∀ d, d ≠ c → vch t d = vch s d) ∧ t = { s with valve := t.valve }) ∧
  (∀ (s : State) (c l : Nat), c < s.valve.ch.length → l < s.leak.loops.length → (vch s c).staged = some true →
    s.seq.phase ≤ 2 → leakLoops s = [l] → c ∈ isoChs s l → (leakLoop s l).iso = .closing →
    (∀ d ∈ isoChs s l, d ≠ c → inCurrent (vch s d).drive = true) →
    ∃ t, exec (.energisingEdge c) s = .next t ∧ (vch t c).drive = .peak ∧ (leakLoop t l).iso = .checking ∧
      (leakLoop t l).edgeFrame = s.seq.frame ∧
      (leakLoop t l).isoTime = min 65535 (s.seq.frame - (leakLoop s l).trigger + 1)) ∧
  (∀ (s : State) (l half : Nat), l < s.leak.loops.length → (leakLoop s l).iso = .closing → isoEnergised s l = true →
    (leakLoop (markIsolated l half s) l).iso = .checking ∧ (leakLoop (markIsolated l half s) l).edgeFrame = s.seq.frame ∧
    (leakLoop (markIsolated l half s) l).isoTime = min 65535 (s.seq.frame - (leakLoop s l).trigger + half)) ∧
  (∀ (s : State) (l : Nat), l < s.leak.loops.length → (leakLoop s l).iso = .checking →
    ((leakLoop s l).edgeFrame + 30000 < s.seq.frame ∨
      (leakLoop s l).edgeFrame + 30000 = s.seq.frame ∧ 1 ≤ s.seq.phase) → (leakLoop s l).flowSeen = false →
    (∀ c ∈ isoChs s l, (vch s c).moved = true) →
    ∃ t, exec (.isolationCheckTimeout l) s = .next t ∧ leakLoop t l = { leakLoop s l with iso := .held } ∧
      (∀ k, k ≠ l → leakLoop t k = leakLoop s k) ∧ t.log = logPost s.log (mkEvent s 0xB051 l 0xFFFF []) ∧
      t = { s with leak := t.leak, log := t.log }) ∧
  (∀ (s : State) (l : Nat), l < s.leak.loops.length → (leakLoop s l).iso = .checking →
    ((leakLoop s l).edgeFrame + 30000 < s.seq.frame ∨
      (leakLoop s l).edgeFrame + 30000 = s.seq.frame ∧ 1 ≤ s.seq.phase) →
    ((leakLoop s l).flowSeen = true ∨ ∃ c ∈ isoChs s l, (vch s c).moved = false) →
    ∃ t, exec (.isolationCheckTimeout l) s = .next t ∧
      leakLoop t l = { leakLoop s l with iso := .notHolding, checkFrame := s.seq.frame } ∧
      (∀ k, k ≠ l → leakLoop t k = leakLoop s k) ∧ t.leak.notHolding = true ∧ t.leak.emergency = true ∧
      (∀ k, k < s.caps.floors.length → (floorLine t k).row = domainOn s k) ∧ t.valve = s.valve) ∧
  (∀ (s : State) (l : Nat), l < s.leak.loops.length → (leakLoop (enterNotHolding l s) l).iso = .notHolding ∧
    (enterNotHolding l s).leak.notHolding = true ∧ (enterNotHolding l s).leak.emergency = true) ∧
  (∀ (s : State) (l : Nat), ((leakLoop s l).iso ≠ .checking ∨ s.seq.frame < (leakLoop s l).edgeFrame + 30000) →
    exec (.isolationCheckTimeout l) s = .next s) ∧
  (∀ (s : State) (l : Nat) (q : Int), l < s.leak.loops.length → (leakLoop s l).iso = .notHolding →
    (leakLoop s l).checkFrame + 100000 ≤ s.seq.frame → sensorValue s (loopCfg s l).flow = some q → q < 10 →
    undriven s l = false →
    ∃ t, exec (.notHoldingRecheck l) s = .next t ∧ (leakLoop t l).iso = .held ∧
      (leakLoop t l).checkFrame = s.seq.frame ∧ t.log = logPost s.log (mkEvent s 0xB051 l 0xFFFF []) ∧
      t = { s with leak := t.leak, log := t.log }) ∧
  (∀ (s : State) (l : Nat), l < s.leak.loops.length → (leakLoop s l).iso = .notHolding →
    (leakLoop s l).checkFrame + 100000 ≤ s.seq.frame →
    (undriven s l = true ∨ sensorValue s (loopCfg s l).flow = none ∨
      ∃ q, sensorValue s (loopCfg s l).flow = some q ∧ 10 ≤ q) →
    ∃ t, exec (.notHoldingRecheck l) s = .next t ∧ leakLoop t l = { leakLoop s l with checkFrame := s.seq.frame } ∧
      t = { s with leak := { s.leak with loops := t.leak.loops } }) ∧
  (∀ (s : State) (l : Nat), (leakLoop s l).iso ≠ .notHolding → exec (.notHoldingRecheck l) s = .next s) ∧
  (∀ (s : State) (l : Nat), releaseConditions s l = false →
    applyReleaseLoop l s = { s with leak := { s.leak with counters := upd s.leak.counters 9 cnt },
                                    log := logPost s.log (mkEvent s 0xB054 l 0xFFFF []) })

/-- Bus-off and error states (R463, R487, R488): passing 255 takes a channel in NORMAL to BUS_OFF and counts it; recovery
returns the error counters to 0, and the channel waits for the boundary; the 8th bus-off in 60 s is a storm, which ends
60 s after the return; error-passive is entered and left once each, in NORMAL alone. -/
def Obligations.CanBusOffAndErrorStates : Prop :=
  (∀ (s : State) (c : Nat), c < s.can.ch.length → (canCh s c).state = .normal →
    ((canCh s c).busOffFrames.filter fun f => s.seq.frame < f + 600000).length < 7 →
    ∃ t, exec (.busOff c) s = .next t ∧ (canCh t c).state = .busOff ∧ (canCh t c).recovered = false ∧
      (canCh t c).tec = 255 ∧ (canCh t c).storm = (canCh s c).storm ∧ (canCh t c).slots = (canCh s c).slots ∧
      (∀ d, d ≠ c → canCh t d = canCh s d) ∧ t.log = logPost s.log (mkEvent s 0xC001 c 0xFFFF []) ∧
      t = { s with can := t.can, log := t.log }) ∧
  (∀ (s : State) (c : Nat), c < s.can.ch.length → (canCh s c).state = .normal → (canCh s c).storm = false →
    7 ≤ ((canCh s c).busOffFrames.filter fun f => s.seq.frame < f + 600000).length →
    ∃ t, exec (.busOff c) s = .next t ∧ (canCh t c).state = .busOff ∧ (canCh t c).storm = true ∧
      t.can.counters = upd s.can.counters 0 cnt ∧
      t.log = logPost (logPost s.log (mkEvent s 0xC001 c 0xFFFF [])) (mkEvent s 0xC003 c 0xFFFF [])) ∧
  (∀ (s : State) (c : Nat), (canCh s c).state ≠ .normal → exec (.busOff c) s = .next s) ∧
  (∀ (s : State) (c : Nat), c < s.can.ch.length → (canCh s c).state = .busOff →
    ∃ t, exec (.busOffRecovery c) s = .next t ∧
      canCh t c = { canCh s c with recovered := true, tec := 0, rec_ := 0, passive := false } ∧
      (∀ d, d ≠ c → canCh t d = canCh s d) ∧ t = { s with can := { s.can with ch := t.can.ch } }) ∧
  (∀ (s : State) (c : Nat), (canCh s c).state ≠ .busOff → exec (.busOffRecovery c) s = .next s) ∧
  (∀ (s : State) (c f : Nat), c < s.can.ch.length → (canCh s c).storm = true → (canCh s c).returnFrame = some f →
    f + 600000 ≤ s.seq.frame →
    ∃ t, exec (.busOffStormEnd c) s = .next t ∧ canCh t c = { canCh s c with storm := false } ∧
      (∀ d, d ≠ c → canCh t d = canCh s d) ∧ t.log = logPost s.log (mkEvent s 0xC004 c 0xFFFF []) ∧
      t = { s with can := { s.can with ch := t.can.ch }, log := t.log }) ∧
  (∀ (s : State) (c : Nat), ((canCh s c).storm = false ∨ (canCh s c).returnFrame = none) →
    exec (.busOffStormEnd c) s = .next s) ∧
  (∀ (s : State) (c tec rec_ : Nat) (e : List Nat), c < s.can.ch.length → (canCh s c).state = .normal →
    (canCh s c).passive = false →
    ∃ t, exec (.errorPassive c e tec rec_) s = .next t ∧ (canCh t c).passive = true ∧ (canCh t c).tec = min 255 tec ∧
      (canCh t c).rec_ = min 255 rec_ ∧ (canCh t c).state = .normal ∧ (∀ d, d ≠ c → canCh t d = canCh s d) ∧
      t = { s with can := { s.can with ch := t.can.ch }, log := t.log } ∧
      (runSeen 0xC010 c 10000 s = true → t.log = s.log)) ∧
  (∀ (s : State) (c tec rec_ : Nat), c < s.can.ch.length → (canCh s c).state = .normal → (canCh s c).passive = true →
    ∃ t, exec (.errorActive c tec rec_) s = .next t ∧ (canCh t c).passive = false ∧ (canCh t c).tec = min 255 tec ∧
      (canCh t c).rec_ = min 255 rec_ ∧ (∀ d, d ≠ c → canCh t d = canCh s d) ∧
      t = { s with can := { s.can with ch := t.can.ch }, log := t.log }) ∧
  (∀ (s : State) (c tec rec_ : Nat) (e : List Nat), (canCh s c).state ≠ .normal →
    exec (.errorPassive c e tec rec_) s = .next s ∧ exec (.errorActive c tec rec_) s = .next s)

/-- Reception (R481, R482, R485, R486, R491, R492): a frame goes to the first entry that accepts it, and to no other; a
remote frame and one that no entry accepts are discarded and counted; a valve status of 8 bytes is taken, another is
counted; the tail of a mirror queue moves no further than its head, and a clear acts on its own bit. -/
def Obligations.CanReceptionAndMirrorQueues : Prop :=
  (∀ (s : State) (c off : Nat) (m : CanMsg), ((canCh s c).state = .off ∨
      ((canCh s c).state = .busOff ∧ (canCh s c).recovered = false) ∨ canClock s = false) →
    exec (.canFrameReceived c m off) s = .next s) ∧
  (∀ (s : State) (c off : Nat) (m : CanMsg), c < s.can.ch.length → canListens (canCh s c) = true → canClock s = true →
    (m.remote = true ∨ (hardwareTakes s c m = false ∧ acceptingFilter s c m = none)) →
    ∃ t, exec (.canFrameReceived c m off) s = .next t ∧ (canCh t c).unknown = cnt (canCh s c).unknown ∧
      (canCh t c).fifo = (canCh s c).fifo ∧ (canCh t c).queue1 = (canCh s c).queue1 ∧ (canCh t c).hp = (canCh s c).hp ∧
      (canCh t c).counters = upd (canCh s c).counters 1 (fun v => satAdd 32 v 1) ∧
      (∀ d, d ≠ c → canCh t d = canCh s d) ∧ t = { s with can := { s.can with ch := t.can.ch } }) ∧
  (∀ (s : State) (c off k : Nat) (m : CanMsg), c < s.can.ch.length → canListens (canCh s c) = true →
    canClock s = true → m.remote = false →
    hardwareTakes s c m = false → acceptingFilter s c m = some k → ((s.img.filters.getD c []).getD k {}).target = 0 →
    (canCh s c).fifo.length < 64 →
    ∃ t, exec (.canFrameReceived c m off) s = .next t ∧
      (canCh t c).fifo = (canCh s c).fifo ++ [{ canRx s m k off ((s.img.filters.getD c []).getD k {}).mirror with
        seq := (canCh s c).fifoSeq }] ∧
      (canCh t c).queue1 = (canCh s c).queue1 ∧ (canCh t c).hp = (canCh s c).hp ∧ (canCh t c).unknown = (canCh s c).unknown ∧
      (∀ d, d ≠ c → canCh t d = canCh s d) ∧ t = { s with can := { s.can with ch := t.can.ch } }) ∧
  (∀ (s : State) (c off k : Nat) (m : CanMsg), c < s.can.ch.length → canListens (canCh s c) = true →
    canClock s = true → m.remote = false →
    hardwareTakes s c m = false → acceptingFilter s c m = some k → ((s.img.filters.getD c []).getD k {}).target = 0 →
    64 ≤ (canCh s c).fifo.length →
    ∃ t, exec (.canFrameReceived c m off) s = .next t ∧ (canCh t c).fifo = (canCh s c).fifo ∧
      (canCh t c).counters = upd (upd (canCh s c).counters 1 fun v => satAdd 32 v 1) 12 (fun v => satAdd 32 v 1)) ∧
  (∀ (s : State) (c off k : Nat) (m : CanMsg), c < s.can.ch.length → canListens (canCh s c) = true →
    canClock s = true → m.remote = false →
    hardwareTakes s c m = false → acceptingFilter s c m = some k → ((s.img.filters.getD c []).getD k {}).target = 1 →
    (canCh s c).queue1.length < 64 →
    ∃ t, exec (.canFrameReceived c m off) s = .next t ∧
      (canCh t c).queue1 = (canCh s c).queue1 ++ [{ canRx s m k off ((s.img.filters.getD c []).getD k {}).mirror with
        seq := (canCh s c).queue1Seq }] ∧
      (canCh t c).fifo = (canCh s c).fifo ∧ (canCh t c).hp = (canCh s c).hp ∧
      (∀ d, d ≠ c → canCh t d = canCh s d) ∧ t = { s with can := { s.can with ch := t.can.ch } }) ∧
  (∀ (s : State) (c off k : Nat) (m : CanMsg), c < s.can.ch.length → canListens (canCh s c) = true →
    canClock s = true → m.remote = false →
    hardwareTakes s c m = false → acceptingFilter s c m = some k → ((s.img.filters.getD c []).getD k {}).target = 2 →
    ((s.img.filters.getD c []).getD k {}).hpBuffer < (canCh s c).hp.length →
    ∃ t h, exec (.canFrameReceived c m off) s = .next t ∧
      h = (canCh t c).hp.getD ((s.img.filters.getD c []).getD k {}).hpBuffer {} ∧ h.isNew = true ∧ h.changed = true ∧
      h.rx.msg = (canRx s m k off false).msg ∧ h.rx.filter = k ∧
      (canCh t c).fifo = (canCh s c).fifo ∧ (canCh t c).queue1 = (canCh s c).queue1 ∧
      (∀ d, d ≠ c → canCh t d = canCh s d) ∧
      t = { s with can := { s.can with ch := t.can.ch }, mgmt := { s.mgmt with sessions := t.mgmt.sessions } }) ∧
  (∀ (s : State) (v dlc pos cmd : Nat) (fault : Bool) (x : CanValve), s.can.valves[v]? = some x → dlc = 8 →
    ∃ t, exec (.valveStatusReceived v dlc pos cmd fault) s = .next t ∧ t.can.valves = s.can.valves.set v
      { x with position := pos, fault := fault, cmdSeen := cmd, lastStatus := some s.seq.frame, stale := false } ∧
      t = { s with can := { s.can with valves := t.can.valves } }) ∧
  (∀ (s : State) (v dlc pos cmd : Nat) (fault : Bool) (x : CanValve), s.can.valves[v]? = some x → dlc ≠ 8 →
    x.channel < s.can.ch.length →
    ∃ t, exec (.valveStatusReceived v dlc pos cmd fault) s = .next t ∧
      canCh t x.channel = { canCh s x.channel with unknown := cnt (canCh s x.channel).unknown } ∧
      (∀ d, d ≠ x.channel → canCh t d = canCh s d) ∧ t = { s with can := { s.can with ch := t.can.ch } }) ∧
  (∀ (s : State) (v f : Nat) (x : CanValve), s.can.valves[v]? = some x → x.lastStatus = some f →
    (f + 1000 ≤ s.seq.frame → exec (.valveStatusStale v) s =
      .next { s with can := { s.can with valves := s.can.valves.set v { x with stale := true } } }) ∧
    (s.seq.frame < f + 1000 → exec (.valveStatusStale v) s = .next s)) ∧
  (∀ (s : State) (c v : Nat), c < s.can.ch.length → v < 256 → (v + 256 - (canCh s c).mqTail) % 256 ≤ mqCount (canCh s c) →
    ∃ t, exec (.mqTailWrite c v) s = .next t ∧ canCh t c = { canCh s c with mqTail := v } ∧
      (∀ d, d ≠ c → canCh t d = canCh s d) ∧ t = { s with can := { s.can with ch := t.can.ch } }) ∧
  (∀ (s : State) (c v : Nat), c < s.can.ch.length → mqCount (canCh s c) < (v + 256 - (canCh s c).mqTail) % 256 →
    ∃ t, exec (.mqTailWrite c v) s = .next t ∧ (canCh t c).mqTail = (canCh s c).mqTail ∧
      (canCh t c).counters = upd (canCh s c).counters 13 (fun n => satAdd 32 n 1)) ∧
  (∀ (s : State) (c : Nat), c < s.can.ch.length →
    ∃ t, exec (.mqOverflowClear c) s = .next t ∧ canCh t c = { canCh s c with mqOverflow := false } ∧
      (∀ d, d ≠ c → canCh t d = canCh s d) ∧ t = { s with can := { s.can with ch := t.can.ch } }) ∧
  (∀ (s : State) (c b : Nat), c < s.can.ch.length →
    ∃ t, exec (.newClear c b) s = .next t ∧
      canCh t c = { canCh s c with hp := upd (canCh s c).hp b fun h => { h with isNew := false } } ∧
      (∀ d, d ≠ c → canCh t d = canCh s d) ∧ t = { s with can := { s.can with ch := t.can.ch } })

/-- Transmission (R472, R474, R478, R480): a cell in its column goes out with the value in force when the bus took it, and
is counted as missed when it did not; a column that is not of this frame, or an unused cell, sends nothing; a host message
expires 10 s after its acceptance, and its slot is free 10 s after its outcome. -/
def Obligations.CanCellsAndHostMessages : Prop :=
  (∀ (s : State) (c col : Nat) (f : BusFacts), ((almanac s c).columns ≤ col ∨
      s.seq.frame % 10 ≠ ((almanac s c).column.getD col {}).start / 100 ∨ (canCh s c).state = .off ∨
      (canCh s c).state = .restricted ∨ canClock s = false) →
    exec (.cellTransmit c col f) s = .next s) ∧
  (∀ (s : State) (c col : Nat) (f : BusFacts), c < s.can.ch.length → col < (almanac s c).columns →
    s.seq.frame % 10 = ((almanac s c).column.getD col {}).start / 100 → (canCh s c).state = .normal →
    canClock s = true → stagePasses s c = true →
    ((almanac s c).column.getD col {}).kind = 0 → f.sent = true → f.busyAtStart = false → f.lost = 0 → f.tdc = none →
    ((almanac s c).cell.getD (16 * (s.seq.frame / 10 % 64) + col) {}).used = true →
    16 * (s.seq.frame / 10 % 64) + col ∉ (canCh s c).inactive →
    (((almanac s c).cell.getD (16 * (s.seq.frame / 10 % 64) + col) {}).source < 512 ∨
      516 ≤ ((almanac s c).cell.getD (16 * (s.seq.frame / 10 % 64) + col) {}).source) →
    ∃ t, exec (.cellTransmit c col f) s = .next t ∧ (canCh t c).tec = min 255 f.tec ∧
      (canCh t c).rec_ = min 255 f.rec_ ∧ t.log = s.log ∧
      t.sent = .can c ((almanac s c).cell.getD (16 * (s.seq.frame / 10 % 64) + col) {}).source
        { canId := ((almanac s c).cell.getD (16 * (s.seq.frame / 10 % 64) + col) {}).canId
          ide := ((almanac s c).cell.getD (16 * (s.seq.frame / 10 % 64) + col) {}).ide
          fdf := ((almanac s c).cell.getD (16 * (s.seq.frame / 10 % 64) + col) {}).fdf
          brs := ((almanac s c).cell.getD (16 * (s.seq.frame / 10 % 64) + col) {}).brs
          dlc := ((almanac s c).cell.getD (16 * (s.seq.frame / 10 % 64) + col) {}).dlc
          esi := ((almanac s c).cell.getD (16 * (s.seq.frame / 10 % 64) + col) {}).fdf && (canCh s c).passive
          data := ((leBytes (objectBytes ((almanac s c).cell.getD (16 * (s.seq.frame / 10 % 64) + col) {}).source)
          (cellValue s ((almanac s c).cell.getD (16 * (s.seq.frame / 10 % 64) + col) {}).source) ++
          List.replicate 64 0).take (dlcBytes ((almanac s c).cell.getD (16 * (s.seq.frame / 10 % 64) + col) {}).dlc)) }
        :: s.sent) ∧
  (∀ (s : State) (c col : Nat) (f : BusFacts), c < s.can.ch.length → col < (almanac s c).columns →
    s.seq.frame % 10 = ((almanac s c).column.getD col {}).start / 100 → canClock s = true →
    ((canCh s c).state = .busOff ∨ (canCh s c).state = .normal ∧ stagePasses s c = false) →
    ((almanac s c).column.getD col {}).kind ≤ 1 →
    ((almanac s c).cell.getD (16 * (s.seq.frame / 10 % 64) + col) {}).used = true →
    16 * (s.seq.frame / 10 % 64) + col ∉ (canCh s c).inactive →
    ∃ t, exec (.cellTransmit c col f) s = .next t ∧ t.sent = s.sent ∧ (canCh t c).slots = (canCh s c).slots ∧
      t = { s with can := t.can, log := t.log }) ∧
  (∀ (s : State) (c col : Nat) (f : BusFacts), c < s.can.ch.length → col < (almanac s c).columns →
    s.seq.frame % 10 = ((almanac s c).column.getD col {}).start / 100 → (canCh s c).state = .normal →
    canClock s = true → stagePasses s c = true → ((almanac s c).column.getD col {}).kind = 2 →
    intercalaryOpen s c = false →
    ∃ t, exec (.cellTransmit c col f) s = .next t ∧ (canCh t c).slots = (canCh s c).slots ∧
      (canCh t c).tec = min 255 f.tec ∧ t.sent = s.sent ∧ t = { s with can := { s.can with ch := t.can.ch } }) ∧
  (∀ (s : State) (c col i : Nat) (f : BusFacts) (x : SendSlot), c < s.can.ch.length → col < (almanac s c).columns →
    s.seq.frame % 10 = ((almanac s c).column.getD col {}).start / 100 → (canCh s c).state = .normal →
    canClock s = true → stagePasses s c = true → ((almanac s c).column.getD col {}).kind = 2 →
    intercalaryOpen s c = true → waitingSlots s c = [i] → i < (canCh s c).slots.length →
    x = (canCh s c).slots.getD i {} → f.hosts = 1 → f.tdc = none →
    longestFrame (almanac s c) x.msg.ide x.msg.fdf x.msg.brs x.msg.dlc ≤ 80 * ((almanac s c).column.getD col {}).length →
    ∃ t, exec (.cellTransmit c col f) s = .next t ∧
      (canCh t c).slots.getD i {} = { x with state := .sent, doneFrame := s.seq.frame } ∧
      t.sent = .can c 0xFFFF { x.msg with
        esi := x.msg.fdf && (canCh s c).passive
        data := (x.msg.data ++ List.replicate 64 0).take (dlcBytes x.msg.dlc) } :: s.sent) ∧
  (∀ (s : State) (c k : Nat), c < s.can.ch.length → k < (canCh s c).slots.length →
    ((canCh s c).slots.getD k {}).state = .waiting → ((canCh s c).slots.getD k {}).acceptFrame + 100000 ≤ s.seq.frame →
    ∃ t, exec (.hostMessageExpire c k) s = .next t ∧
      (canCh t c).slots.getD k {} = { ((canCh s c).slots.getD k {}) with state := .expired, doneFrame := s.seq.frame } ∧
      (∀ j, j ≠ k → (canCh t c).slots.getD j {} = (canCh s c).slots.getD j {}) ∧
      (∀ d, d ≠ c → canCh t d = canCh s d) ∧ t.log = logPost s.log (mkEvent s 0xC060 c 0xFFFF []) ∧
      t = { s with can := { s.can with ch := t.can.ch }, log := t.log }) ∧
  (∀ (s : State) (c k : Nat), (((canCh s c).slots.getD k {}).state ≠ .waiting ∨
      s.seq.frame < ((canCh s c).slots.getD k {}).acceptFrame + 100000) → exec (.hostMessageExpire c k) s = .next s) ∧
  (∀ (s : State) (c k : Nat), c < s.can.ch.length → k < (canCh s c).slots.length →
    ((canCh s c).slots.getD k {}).state ∈ [.sent, .cancelled, .expired, .dropped] →
    ((canCh s c).slots.getD k {}).doneFrame + 100000 ≤ s.seq.frame →
    ∃ t, exec (.sendSlotFree c k) s = .next t ∧ (canCh t c).slots.getD k {} = {} ∧
      (∀ j, j ≠ k → (canCh t c).slots.getD j {} = (canCh s c).slots.getD j {}) ∧
      t = { s with can := { s.can with ch := t.can.ch } }) ∧
  (∀ (s : State) (c k : Nat), ((canCh s c).slots.getD k {}).state ∈ [.free, .waiting, .sending] →
    exec (.sendSlotFree c k) s = .next s)

/-- Claim rounds, arming and the start of control (R132, R134, R499 to R504): the holder that places the higher claim
keeps control; the lower one becomes standby with its stages released; a claim not refreshed for 2 rounds is not placed;
a stuck wire and a strap conflict are reported once. At a plan epoch boundary the arming unit whose first claim wins
enters CONTROL with an advanced term, another becomes standby; it takes plant control in its first frame of control. -/
def Obligations.ClaimRoundsAndPlantControl : Prop :=
  (∀ (s : State) (f : RoundFacts), s.pair.role = .control → claimAllowed s = true → s.pair.claimAge < 2 →
    16 ≤ s.pair.claim → bit s.pair.claim 2 = false → s.pair.swap = none → s.pair.stuckA = false →
    s.pair.stuckB = false → f.partner.getD 0 ≤ s.pair.claim →
    ∃ t, exec (.claimRound f) s = .next t ∧ t.pair.won = true ∧ t.pair.stages = true ∧ t.pair.role = .control ∧
      t.pair.wonFrame = some s.seq.frame ∧ t.pair.winClaim = s.pair.claim ∧ t.pow.state = s.pow.state) ∧
  (∀ (s : State) (f : RoundFacts) (q : Nat), s.pair.role = .control → claimAllowed s = true → s.pair.claimAge < 2 →
    s.pair.swap = none → s.pair.stuckA = false → s.pair.stuckB = false → f.openA = false → f.openB = false →
    f.partner = some q → 16 ≤ q → s.pair.claim < q →
    ∃ t, exec (.claimRound f) s = .next t ∧ t.pair.won = false ∧ t.pair.stages = false ∧ t.pair.role = .standby ∧
      t.pow.plantControl = false ∧ t.pow.state = .standby ∧ t.pair.winClaim = q ∧
      t.pair.holderClaim = some s.seq.frame) ∧
  (∀ (s : State) (f : RoundFacts), 2 ≤ s.pair.claimAge →
    ∃ t, exec (.claimRound f) s = .next t ∧ t.pair.won = false ∧ (s.pair.stages = false → t.pair.stages = false)) ∧
  (∀ (p : PairSt) (o : Nat) (f : RoundFacts), p.stuckA = false → p.stuckB = false → f.openA = true → f.openB = false →
    o < f.partner.getD 0 → (judgeRound p (some o) f).win = false ∧ (judgeRound p (some o) f).fault = true) ∧
  (∀ (p : PairSt) (o : Nat) (f : RoundFacts), p.stuckA = true → p.stuckB = false → f.openB = false →
    (judgeRound p (some o) f).win = decide (f.partner.getD 0 ≤ o)) ∧
  (∀ s : State, 2 ≤ s.pair.claimAge →
    exec .claimRefreshTimeout s = .next { s with pair := { s.pair with withheld := true } }) ∧
  (∀ s : State, s.pair.claimAge < 2 → exec .claimRefreshTimeout s = .next s) ∧
  (∀ (s : State) (b : Bool), s.pair.wireFault = false → runSeen 0xD030 0xFFFF 10000 s = false →
    ∃ t, exec (.claimWireStuck b) s = .next t ∧ t.pair.wireFault = true ∧
      t.pair.stuckA = (s.pair.stuckA || !b) ∧ t.pair.stuckB = (s.pair.stuckB || b) ∧
      t.pair.counters = upd s.pair.counters 7 cnt ∧
      t.log.queue = (logPost s.log (mkEvent s 0xD030 0xFFFF 0xFFFF [])).queue ∧
      t = { s with pair := t.pair, log := t.log }) ∧
  (∀ s : State, s.pair.partnerSeen = true → s.pair.partner.strap = s.pow.slotStrap → s.pair.conflict = false →
    ∃ t, exec .strapConflict s = .next t ∧ t.pair = { s.pair with conflict := true } ∧
      t.log = logPost s.log (mkEvent s 0xD032 0xFFFF 0xFFFF []) ∧ t = { s with pair := t.pair, log := t.log } ∧
      claimAllowed t = false) ∧
  (∀ s : State, strapInvalid s = false → s.pair.partner.strap ≠ s.pow.slotStrap → exec .strapConflict s = .next s) ∧
  (∀ (s : State) (f : RoundFacts), s.pow.state = .arming → armed s = true → s.seq.frame % 100 = 0 →
    claimAllowed s = true → (∀ h, s.pair.holderClaim = some h → h + 3 < s.seq.frame) → s.pair.stuckA = false →
    s.pair.stuckB = false → f.partner.getD 0 ≤ ownClaim s →
    ∃ t, exec (.armingComplete f) s = .next t ∧ t.pow.state = .control ∧ t.pair.role = .control ∧ t.pair.won = true ∧
      t.pair.stages = true ∧ t.pair.term = (max s.pair.term s.pair.termSeen + 1) % 4294967296 ∧
      t.pair.takeFrame = s.seq.frame ∧ t.pow.plantControl = s.pow.plantControl) ∧
  (∀ (s : State) (f : RoundFacts), s.pow.state = .arming → armed s = true → s.seq.frame % 100 = 0 →
    claimAllowed s = true → (∀ h, s.pair.holderClaim = some h → h + 3 < s.seq.frame) → s.pair.stuckA = false →
    s.pair.stuckB = false → f.openA = false → f.openB = false → ownClaim s < f.partner.getD 0 →
    ∃ t, exec (.armingComplete f) s = .next t ∧ t.pow.state = .standby ∧ t.pair.role = .standby ∧ t.pair.won = false ∧
      t.pow.plantControl = false ∧ t.pair.term = s.pair.term) ∧
  (∀ (s : State) (f : RoundFacts) (h : Nat), s.pow.state = .arming → armed s = true → s.seq.frame % 100 = 0 →
    claimAllowed s = true → s.pair.holderClaim = some h → s.seq.frame ≤ h + 3 →
    ∃ t, exec (.armingComplete f) s = .next t ∧ t.pow.state = .standby ∧ t.pair.role = .standby ∧
      t.pair.stages = false ∧ t.pow.plantControl = false ∧ t.pair.term = s.pair.term ∧
      t.pair.idleSince = s.seq.frame) ∧
  (∀ (s : State) (f : RoundFacts), (s.pow.state ≠ .arming ∨ armed s = false ∨ s.seq.frame % 100 ≠ 0) →
    exec (.armingComplete f) s = .next s) ∧
  (∀ s : State, s.pair.role = .control → s.pair.won = true → s.pair.stages = true → s.pair.inControl = false →
    s.pow.ready = true → s.pow.state = .control → s.seq.phase = 0 → s.pair.takeFrame < s.seq.frame →
    ∃ t, exec .takePlantControl s = .next t ∧ t.pow.plantControl = true ∧ t.pow.controlSince = s.seq.frame ∧
      t.pair.inControl = true ∧ t.pair.restored = false ∧ t.pair.role = .control ∧ t.pump.controlFrame = some s.seq.frame) ∧
  (∀ s : State, (s.pair.role ≠ .control ∨ s.pair.won = false ∨ s.pair.inControl = true ∨ s.seq.phase ≠ 0 ∨
      s.seq.frame ≤ s.pair.takeFrame) →
    exec .takePlantControl s = .next s)

/-- What the partner sends (R504, R507 to R510, R535): HEALTH goes out every 100 ms while the pair port is up; a HEALTH
received gives the partner's grade, term, image and PAIR_HOLD; 300 ms without one clears PARTNER_SEEN; a MARK gives the
frame difference, and a holder that sees a higher term passes it. -/
def Obligations.HealthAndMarksOfThePartner : Prop :=
  (∀ s : State, 64 < s.link.ports.length → (lport s 64).state = .up → s.pair.lastHealthSent + 1000 ≤ s.seq.frame →
    ∃ t, exec .healthSend s = .next t ∧ t.pair = { s.pair with lastHealthSent := s.seq.frame } ∧
      t.sent.length = s.sent.length + 1 ∧ (lport t 64).sendPn = (lport s 64).sendPn + 1 ∧
      (lport t 64).replay.length = (lport s 64).replay.length + 1 ∧
      t = { s with pair := t.pair, link := t.link, sent := t.sent }) ∧
  (∀ s : State, ((lport s 64).state ≠ .up ∨ s.seq.frame < s.pair.lastHealthSent + 1000) →
    exec .healthSend s = .next s) ∧
  (∀ (s : State) (b : List Nat) (m : HealthMsg), m = parseHealth b →
    ∃ t, exec (.healthReceived b) s = .next t ∧ t.pair.partner = m ∧ t.pair.partnerSeen = true ∧
      t.pair.healthFrame = some s.seq.frame ∧ t.pair.termSeen = max s.pair.termSeen m.term ∧
      (m.pairHold ≠ s.pair.partner.pairHold → t.pair.pairHold = m.pairHold) ∧
      (m.pairHold = s.pair.partner.pairHold → t.pair.pairHold = s.pair.pairHold) ∧
      t.pair.role = s.pair.role ∧ t.pair.term = s.pair.term ∧ t = { s with pair := t.pair }) ∧
  (∀ (s : State) (f : Nat), s.pair.healthFrame = some f → f + 3000 ≤ s.seq.frame → isSingle s = false →
    ∃ t, exec .partnerSilent s = .next t ∧ t.pair = { s.pair with partnerSeen := false } ∧
      (runSeen 0xD040 0xFFFF 10000 s = false →
        t.log.queue = (logPost s.log (mkEvent s 0xD040 0xFFFF 0xFFFF [])).queue) ∧
      t = { s with pair := t.pair, log := t.log } ∧ (∀ x, swapAcceptable t x = false)) ∧
  (∀ (s : State) (f : Nat), s.pair.healthFrame = some f → s.seq.frame < f + 3000 →
    exec .partnerSilent s = .next s) ∧
  (∀ (s : State) (b : List Nat) (m : MarkMsg), m = parseMark b →
    ∃ t, exec (.markReceived b) s = .next t ∧ t.pair.delta = (s.seq.frame : Int) + 1 - m.frame ∧
      t.pair.holderMark = (if m.holder then some s.seq.frame else s.pair.holderMark) ∧
      (m.holder = true → t.pair.mark = m) ∧ t.pair.termSeen = max s.pair.termSeen m.term ∧
      (s.pair.role = .control → s.pair.term < m.term → t.pair.term = (m.term + 1) % 4294967296) ∧
      (m.term ≤ s.pair.term → t.pair.term = s.pair.term) ∧
      (s.pair.role ≠ .control → s.pair.role ≠ .handing → t.pair.term = s.pair.term) ∧ t = { s with pair := t.pair }) ∧
  (∀ (s : State) (f : Nat), 64 < s.link.ports.length → (lport s 64).retryAt = some f → f ≤ s.seq.frame →
    (lport s 64).state = .attesting → (lport s 64).attStart = none → s.pow.ready = true →
    (s.sec.drbgOk = true → ∃ t, exec .partnerAttestRetry s = .next t ∧ (lport t 64).attStart = some s.seq.frame ∧
      (lport t 64).attStep = 0 ∧ (lport t 64).retryAt = none ∧ t = { s with link := t.link, sent := t.sent }) ∧
    (s.sec.drbgOk = false → ∃ t, exec .partnerAttestRetry s = .next t ∧
      (lport t 64).retryAt = some (s.seq.frame + 100000) ∧ (lport t 64).attStart = none ∧
      t = { s with link := t.link })) ∧
  (∀ (s : State) (f : Nat), (lport s 64).retryAt = some f → s.seq.frame < f →
    exec .partnerAttestRetry s = .next s) ∧
  (∀ s : State, (lport s 64).retryAt = none → exec .partnerAttestRetry s = .next s)

/-- Checkpoints and takeover (R503, R504, R512 to R515): a standby takes a whole snapshot of its own image and of a term
that is not below its own, and rejects every other; it bids three frames after the last holder claim unless the holder's
MARKs still arrive; restoring a checkpoint loads it, leaves the plan HELD and enters CONTROL with an advanced term. -/
def Obligations.CheckpointsAndTakeover : Prop :=
  (∀ (s : State) (c : Checkpoint), s.pair.role = .standby → s.pair.term ≤ c.term → c.digest = s.key.digest →
    c.fwMajor = 3 → c.fwMinor ≤ 9 →
    ∃ t, exec (.ckptReceived c true true) s = .next t ∧ t.pair.ckpt = some c ∧ t.pair.ckptValid = true ∧
      t.pair.ckptSeq = c.seq ∧ t.pair.ckptAt = some (min s.seq.frame (trFrame s.pair.delta c.frame)) ∧
      t.pair.termSeen = max s.pair.termSeen c.term ∧
      (c.final = true → t.pair.finalCkpt = some c) ∧ (c.final = false → t.pair.finalCkpt = s.pair.finalCkpt) ∧
      t.plan.inForce = c.planInForce ∧ t.pump.total = c.pump.total ∧ t.heat.pages = s.heat.pages ∧
      t.sched.table = s.sched.table ∧ t.ctl = s.ctl ∧ t.caps = s.caps ∧ t.log = s.log ∧ t.pow = s.pow) ∧
  (∀ (s : State) (c : Checkpoint) (a b : Bool), s.pair.role = .standby → c.digest = s.key.digest →
    (a = false ∨ b = false ∨ c.term < s.pair.term ∨ c.fwMajor ≠ 3 ∨ 9 < c.fwMinor) →
    ∃ t, exec (.ckptReceived c a b) s = .next t ∧ t.pair.ckpt = s.pair.ckpt ∧ t.pair.ckptValid = s.pair.ckptValid ∧
      t.pair.counters = upd s.pair.counters 6 cnt ∧ t.log = logPost s.log (mkEvent s 0xD020 0xFFFF 0xFFFF []) ∧
      t = { s with pair := t.pair, log := t.log }) ∧
  (∀ (s : State) (c : Checkpoint) (a b : Bool), s.pair.role = .standby → c.digest ≠ s.key.digest →
    ∃ t, exec (.ckptReceived c a b) s = .next t ∧ t.pair.ckpt = s.pair.ckpt ∧
      t = { s with pair := t.pair, log := t.log }) ∧
  (∀ (s : State) (c : Checkpoint) (a b : Bool), s.pair.role ≠ .standby → s.pair.role ≠ .primed →
    exec (.ckptReceived c a b) s =
      .next { s with pair := { s.pair with termSeen := max s.pair.termSeen c.term } }) ∧
  (∀ s : State, s.pair.role = .standby → ckptOld s = true →
    ∃ t, exec .checkpointStale s = .next t ∧ t.pair = { s.pair with ckptValid := false } ∧
      t = { s with pair := t.pair, log := t.log }) ∧
  (∀ s : State, ckptOld s = false → exec .checkpointStale s = .next s) ∧
  (∀ (s : State) (f : RoundFacts), bidDue s = false → exec (.takeoverBid f) s = .next s) ∧
  (∀ (s : State) (h : Nat), s.pair.holderClaim = some h → s.seq.frame < h + 4 → bidDue s = false) ∧
  (∀ (s : State) (f : RoundFacts), bidDue s = true → bidVetoed s = true →
    ∃ t, exec (.takeoverBid f) s = .next t ∧ t.pair = { s.pair with busVeto := true } ∧
      t = { s with pair := t.pair, log := t.log }) ∧
  (∀ (s : State) (f : RoundFacts), bidDue s = true → bidVetoed s = false → s.pair.role = .standby →
    s.pair.ckpt ≠ none → s.pair.ckptValid = true → s.pair.stuckA = false → s.pair.stuckB = false → f.partner = none →
    ∃ t, exec (.takeoverBid f) s = .next t ∧ t.pair.role = .taking ∧ t.pair.won = true ∧ t.pair.stages = true ∧
      t.pair.takeover = true ∧ t.pow.state = .control ∧ t.pair.takeFrame = s.seq.frame ∧ t.pair.term = s.pair.term ∧
      t.pair.counters = upd s.pair.counters 0 cnt ∧ t.log = logPost s.log (mkEvent s 0xD001 0xFFFF 0xFFFF []) ∧
      t.heat = s.heat ∧ t.plan = s.plan) ∧
  (∀ (s : State) (f : RoundFacts), bidDue s = true → bidVetoed s = false → s.pair.role = .standby →
    s.pair.ckpt = none → s.pair.stuckA = false → s.pair.stuckB = false → f.partner = none →
    ∃ t, exec (.takeoverBid f) s = .next t ∧ t.pair.role = .control ∧ t.pair.cold = true ∧ t.plan.state = .wait ∧
      t.plan.inForce = none ∧ t.plan.started = false ∧ t.pow.state = .control ∧
      t.pair.term = (max s.pair.term s.pair.termSeen + 1) % 4294967296) ∧
  (∀ (s : State) (f : RoundFacts), bidDue s = true → bidVetoed s = false → s.pair.role = .primed →
    s.pair.stuckA = false → s.pair.stuckB = false → f.partner = none →
    ∃ t, exec (.takeoverBid f) s = .next t ∧ t.pair.role = .control ∧ t.pow.state = .control ∧
      t.pair.term = (max s.pair.term s.pair.termSeen + 1) % 4294967296 ∧ t.plan.state = .held ∧
      t.pair.holdChannels = [] ∧ t.pair.boundary = none ∧ t.heat.pages = s.heat.pages ∧
      t.log = logPost s.log (mkEvent s 0xD001 0xFFFF 0xFFFF [])) ∧
  (∀ (s : State) (f : RoundFacts) (q : Nat), bidDue s = true → bidVetoed s = false → s.pair.stuckA = false →
    s.pair.stuckB = false → f.openA = false → f.openB = false → f.partner = some q → ownClaim s < q →
    ∃ t, exec (.takeoverBid f) s = .next t ∧ t.pair.role = s.pair.role ∧ t.pair.won = false ∧
      t.pair.winClaim = q ∧ t.pair.term = s.pair.term ∧ t = { s with pair := t.pair, log := t.log }) ∧
  (∀ (s : State) (c : Checkpoint), s.pair.role = .taking → s.pair.ckpt = some c →
    ∃ t, exec .restoreComplete s = .next t ∧ t.pair.role = .control ∧
      t.pair.term = (max s.pair.term s.pair.termSeen + 1) % 4294967296 ∧ t.pair.restored = true ∧
      t.pair.holdChannels = [] ∧ t.heat.pages = c.pages ∧ t.plan.inForce = c.planInForce ∧ t.plan.state = .held ∧
      t.plan.mode = c.mode ∧ t.heat.rackLimit = s.img.limits.rackCap ∧ t.heat.rowLimit = s.img.limits.rowCap ∧
      t.heat.limitRequests = [] ∧
      (s.leak.emergency = true ∨ c.emergency = true ∨ s.pair.mark.emergency = true → t.leak.emergency = true) ∧
      t.pump.total = c.pump.total ∧ t.pump.budgetSpent = c.pump.budgetSpent) ∧
  (∀ s : State, s.pair.role ≠ .taking → exec .restoreComplete s = .next s)

/-- Handover (R503, R506, R518 to R520): a swap request that meets the holder's conditions names the first plan epoch
boundary at least 20 frames on; any other is refused and holds back automatic requests for 60 s; the standby notes the
boundary in its own frames and is PRIMED by the final checkpoint; 30 frames after the boundary each goes back. -/
def Obligations.HandoverBetweenTheUnits : Prop :=
  (∀ s : State, s.pair.swap = none → s.pair.retryAt ≤ s.seq.frame → isSingle s = false → s.pair.role = .control →
    (∃ f, s.pair.gradeLow = some f ∧ f + 10000 ≤ s.seq.frame) →
    exec (.swapRequestRaise .grade) s = .next { s with pair := { s.pair with swap := some .grade } }) ∧
  (∀ (s : State) (f : Nat), s.pair.swap = none → s.pair.retryAt ≤ s.seq.frame → isSingle s = false →
    s.pair.role = .standby → isHome s = true → s.pair.healthySince = some f → f + 600000 ≤ s.seq.frame →
    s.pair.pairHold = false → s.pair.partnerSeen = true →
    ∃ t, exec (.swapRequestRaise .takeback) s = .next t ∧ t.pair = { s.pair with swap := some .takeback } ∧
      ((lport s 64).state = .up → t.sent.length = s.sent.length + 1) ∧
      t = { s with pair := t.pair, link := t.link, sent := t.sent }) ∧
  (∀ (s : State) (x : SwapSource), (s.pair.swap ≠ none ∨ s.seq.frame < s.pair.retryAt ∨ isSingle s = true) →
    exec (.swapRequestRaise x) s = .next s) ∧
  (∀ s : State, s.pair.pairHold = true → exec (.swapRequestRaise .takeback) s = .next s) ∧
  (∀ s : State, s.pair.role = .control → swapAcceptable s .request = true →
    ∃ t b, exec .swapReqReceived s = .next t ∧ t.pair = { s.pair with role := .handing, boundary := some b, primed := false } ∧
      b % 100 = 0 ∧ s.seq.frame + 20 ≤ b ∧ b < s.seq.frame + 120 ∧
      t.log = logPost s.log (mkEvent s 0xD011 0xFFFF 0xFFFF []) ∧
      t = { s with pair := t.pair, link := t.link, sent := t.sent, log := t.log }) ∧
  (∀ s : State, (s.pair.role = .control ∧ swapAcceptable s .request = false ∨ s.pair.role = .handing) →
    ∃ t, exec .swapReqReceived s = .next t ∧ t.pair.role = s.pair.role ∧ t.pair.boundary = s.pair.boundary ∧
      t.pair.counters = upd s.pair.counters 2 cnt ∧ t.log = logPost s.log (mkEvent s 0xD013 0xFFFF 0xFFFF []) ∧
      t = { s with pair := t.pair, link := t.link, sent := t.sent, log := t.log }) ∧
  (∀ s : State, s.pair.role = .standby → exec .swapReqReceived s = .next s) ∧
  (∀ s : State, s.pair.partner.digest ≠ s.key.digest → swapAcceptable s .request = false) ∧
  (∀ s : State, s.pair.partner.grade < s.pair.grade → swapAcceptable s .takeback = false) ∧
  (∀ s : State, s.pair.swap ≠ none → s.pair.role = .standby →
    ∃ t, exec .refusedReceived s = .next t ∧ t.pair.swap = none ∧
      (s.pair.swap = some .takeback → t.pair.retryAt = s.seq.frame + 600000) ∧
      (s.pair.swap = some .request → t.pair.retryAt = s.pair.retryAt) ∧
      t = { s with pair := { s.pair with swap := none, retryAt := t.pair.retryAt } }) ∧
  (∀ s : State, s.pair.swap = none → exec .refusedReceived s = .next s) ∧
  (∀ (s : State) (b : Nat), s.pair.role = .standby →
    exec (.handoverReceived b) s = .next { s with pair := { s.pair with
      boundary := some ((b : Int) + s.pair.delta).toNat, finalCkpt := none } }) ∧
  (∀ (s : State) (b : Nat), s.pair.role ≠ .standby → exec (.handoverReceived b) s = .next s) ∧
  (∀ (s : State) (c : Checkpoint), s.pair.role = .standby → s.pair.finalCkpt = some c → (lport s 64).state = .up →
    ∃ t, exec .finalCheckpointLoaded s = .next t ∧ t.pair.role = .primed ∧ t.pair.restored = true ∧
      t.heat.pages = c.pages ∧ t.plan.inForce = c.planInForce ∧ t.sent.length = s.sent.length + 1) ∧
  (∀ s : State, (s.pair.finalCkpt = none ∨ (lport s 64).state ≠ .up) → exec .finalCheckpointLoaded s = .next s) ∧
  (∀ s : State, s.pair.role = .handing →
    exec .primedReceived s = .next { s with pair := { s.pair with primed := true } }) ∧
  (∀ s : State, s.pair.role ≠ .handing → exec .primedReceived s = .next s) ∧
  (∀ (s : State) (b : Nat), s.pair.boundary = some b → b + 30 ≤ s.seq.frame → s.pair.role = .handing →
    s.pair.primed = false →
    ∃ t, exec .handoverTimeout s = .next t ∧ t.pair.role = .control ∧ t.pair.boundary = none ∧ t.pair.swap = none ∧
      t.log = logPost s.log (mkEvent s 0xD015 0xFFFF 0xFFFF []) ∧ t = { s with pair := t.pair, log := t.log }) ∧
  (∀ (s : State) (b : Nat), s.pair.boundary = some b → b + 30 ≤ s.seq.frame → s.pair.role = .primed →
    ∃ t, exec .handoverTimeout s = .next t ∧ t.pair.role = .standby ∧ t.pair.ckpt = s.pair.finalCkpt ∧
      t.pair.boundary = none ∧ t = { s with pair := t.pair }) ∧
  (∀ (s : State) (b : Nat), s.pair.boundary = some b → b + 30 ≤ s.seq.frame → s.pair.role = .standby →
    ∃ t, exec .handoverTimeout s = .next t ∧ t.pair.role = .standby ∧ t.pair.boundary = none ∧ t.pair.swap = none ∧
      t = { s with pair := t.pair }) ∧
  (∀ (s : State) (b : Nat), s.pair.boundary = some b → s.seq.frame < b + 30 → exec .handoverTimeout s = .next s) ∧
  (∀ (s : State) (i : Nat), s.pair.role = .standby → (∀ f, lastTest s.pair.senseTest i = some f → f + 600000 ≤ s.seq.frame) →
    ∃ t, exec (.standbySelfTest .sense i true) s = .next t ∧ lastTest t.pair.senseTest i = some s.seq.frame ∧
      t = { s with pair := { s.pair with senseTest := t.pair.senseTest } }) ∧
  (∀ (s : State) (d : Nat), s.pair.role = .standby → (∀ f, lastTest s.pair.driveTest d = some f → f + 100000 ≤ s.seq.frame) →
    domainOn s d = true → d < s.pow.domains.length →
    ∃ t, exec (.standbySelfTest .drive d false) s = .next t ∧ lastTest t.pair.driveTest d = some s.seq.frame ∧
      (t.pow.domains.getD d {}).state = .failed ∧ domainOn t d = false ∧
      (∀ k, k ≠ d → t.pow.domains.getD k {} = s.pow.domains.getD k {}) ∧ t = { s with pair := t.pair, pow := t.pow }) ∧
  (∀ (s : State) (i : Nat), s.pair.role = .standby → (∀ f, lastTest s.pair.senseTest i = some f → f + 600000 ≤ s.seq.frame) →
    i < s.pow.calValve.length →
    ∃ t, exec (.standbySelfTest .sense i false) s = .next t ∧ lastTest t.pair.senseTest i = some s.seq.frame ∧
      t.pow.calValve.getD i false = true ∧ t.log = logPost s.log (mkEvent s 0x2030 i 5 []) ∧
      t = { s with pair := t.pair, pow := { s.pow with calValve := t.pow.calValve }, log := t.log }) ∧
  (∀ (s : State) (d : Nat), s.pair.role = .standby → domainOn s d = true → d < s.pow.domains.length →
    exec (.standbySelfTest .release d true) s = .next s ∧
    ∃ t, exec (.standbySelfTest .release d false) s = .next t ∧ (t.pow.domains.getD d {}).state = .failed ∧
      (∀ k, k ≠ d → t.pow.domains.getD k {} = s.pow.domains.getD k {}) ∧ t = { s with pow := t.pow }) ∧
  (∀ (s : State) (k : SelfTest) (i : Nat) (b : Bool), s.pair.role = .control →
    exec (.standbySelfTest k i b) s = .next s)

/-- Random values, enrolment and release (R529 to R532, R547 to R549): the generator stops and resumes; ENROL_N is timed;
an OWNER_ENROL that meets every check blows the owner's fuses and reboots the module after 1 s; a release nonce lives 60 s;
an OWNER_RELEASE that meets every check zeroises the module and leaves it in return mode; a device certificate goes into
slot 1 whole. EFFECT_FRAME of requests answered on completion is the model's choice (log entry 120). -/
def Obligations.EnrolmentCertificateAndRelease : Prop :=
  (∀ s : State, s.sec.drbgOk = true →
    ∃ t, exec .drbgHealthFailure s = .next t ∧ t.sec = { s.sec with drbgOk := false } ∧
      t.log = logPost s.log (mkEvent s 0xE061 0xFFFF 0xFFFF []) ∧ t = { s with sec := t.sec, log := t.log }) ∧
  (∀ s : State, s.sec.drbgOk = false → exec .drbgHealthFailure s = .next s) ∧
  (∀ s : State, coreRuns s = true → s.sec.drbgOk = false →
    ∃ t n, exec .drbgResume s = .next t ∧ t.sec = { s.sec with drbgOk := true, enrolNonce := n } ∧
      (lifeCycle s = .unenrolled → n < 2 ^ 256) ∧
      (lifeCycle s ≠ .unenrolled → n = s.sec.enrolNonce) ∧
      t.log = logPost s.log (mkEvent s 0xE062 0xFFFF 0xFFFF []) ∧
      t = { s with sec := t.sec, log := t.log, free := t.free }) ∧
  (∀ s : State, s.sec.drbgOk = true → exec .drbgResume s = .next s) ∧
  (∀ (s : State) (b : Bool), b ≠ s.sec.enrolLow →
    exec (.enrolNChange b) s = .next { s with sec := { s.sec with enrolLow := b, enrolSince := rowNs s } }) ∧
  (∀ s : State, exec (.enrolNChange s.sec.enrolLow) s = .next s) ∧
  (∀ (s : State) (h : ReqHdr) (f : EnrolFacts), arrivesNow s h.session → h.tenantAuth = false → h.lengthOk = true →
    lifeCycle s = .unenrolled → s.sec.drbgOk = true → enrolHeld s = true → f.sigOk = true → f.unwrapOk = true →
    superset s.sec.fuses.ownerImageKey f.imageKey = true → superset s.sec.fuses.ownerKeyHash f.rootHash = true →
    f.fuseOk = true →
    ∃ t, exec (.ownerEnrol h f) s = .next t ∧ t.sec.fuses.ownerImageKey = f.imageKey ∧
      t.sec.fuses.ownerKeyHash = f.rootHash ∧ lifeCycle t = .enrolled ∧
      t.sec.enrolReboot = some (rowNs s + 1000000000) ∧ t.log = logPost s.log (mkEvent s 0xE001 0xFFFF 0xFFFF []) ∧
      t.sent = .message h.session (requestResp s h 0 s.seq.frame []) :: s.sent ∧ t.pow = s.pow ∧ t.key = s.key) ∧
  (∀ (s : State) (h : ReqHdr) (f : EnrolFacts), arrivesNow s h.session → h.tenantAuth = false → h.lengthOk = true →
    enrolCheck s f ≠ 0 → f.fuseOk = true →
    ∃ t, exec (.ownerEnrol h f) s = .next t ∧ t.sec.fuses = s.sec.fuses ∧
      t.log = logPost s.log (mkEvent s 0xE002 0xFFFF 0xFFFF [enrolCheck s f]) ∧
      t.sent = .message h.session (requestResp s h (enrolCheck s f) 0 []) :: s.sent) ∧
  (∀ (s : State) (f : EnrolFacts), (lifeCycle s ≠ .unenrolled → enrolCheck s f = 2) ∧
    (lifeCycle s = .unenrolled → s.sec.drbgOk = false → enrolCheck s f = 7) ∧
    (lifeCycle s = .unenrolled → s.sec.drbgOk = true → enrolHeld s = false → enrolCheck s f = 2) ∧
    (lifeCycle s = .unenrolled → s.sec.drbgOk = true → enrolHeld s = true → f.sigOk = false → enrolCheck s f = 10)) ∧
  (∀ (s : State) (t0 : Nat), s.sec.enrolReboot = some t0 → t0 ≤ rowNs s →
    ∃ t, exec .enrolReboot s = .next t ∧ t.pow.resetDue = some 1 ∧ t.sec.enrolReboot = none ∧
      t = { s with pow := { s.pow with resetDue := some 1 }, sec := { s.sec with enrolReboot := none } }) ∧
  (∀ (s : State) (t0 : Nat), s.sec.enrolReboot = some t0 → rowNs s < t0 → exec .enrolReboot s = .next s) ∧
  (∀ (s : State) (h : ReqHdr), arrivesNow s h.session → (session s h.session).role = .owner → h.tenantAuth = false →
    h.lengthOk = true → lifeCycle s ≠ .returned → s.sec.drbgOk = true →
    ∃ t n, exec (.getReleaseNonce h) s = .next t ∧ t.sec.releaseNonce = some (n, rowNs s) ∧ n < 2 ^ 256 ∧
      t.sent = .message h.session (requestResp s h 0 (s.seq.frame + 1) (leBytes 32 n)) :: s.sent ∧
      t.log = logPost s.log (mkEvent s 0xE050 0xFFFF 0xFFFF []) ∧
      t = { s with sec := t.sec, mgmt := t.mgmt, sent := t.sent, log := t.log, free := t.free }) ∧
  (∀ (s : State) (n t0 : Nat), s.sec.releaseNonce = some (n, t0) → t0 + 60000000000 ≤ rowNs s →
    exec .releaseNonceExpiry s = .next { s with sec := { s.sec with releaseNonce := none } }) ∧
  (∀ (s : State) (n t0 : Nat), s.sec.releaseNonce = some (n, t0) → rowNs s < t0 + 60000000000 →
    exec .releaseNonceExpiry s = .next s) ∧
  (∀ (s : State) (h : ReqHdr) (t0 n : Nat), arrivesNow s h.session → (session s h.session).role = .owner →
    h.tenantAuth = false → h.lengthOk = true → lifeCycle s = .enrolled →
    (s.pow.state = .standby ∨ s.pow.state = .noImage ∨ s.pow.state = .held) → enrolHeld s = true →
    s.pair.wonFrame ≠ some s.seq.frame → s.sec.releaseNonce = some (n, t0) → rowNs s < t0 + 60000000000 →
    ∃ t, exec (.ownerRelease h s.sec.fuses.ownerKeyHash true n) s = .next t ∧ lifeCycle t = .returned ∧
      t.sec.returnMode = true ∧ t.sec.zeroised = true ∧ t.pow.state = .held ∧ t.pow.plantControl = false ∧
      t.pow.ready = false ∧ t.heat = State.reset.heat ∧ t.pair = State.reset.pair ∧ t.img = State.reset.img ∧
      t.sec.tenants = State.reset.sec.tenants ∧ t.sec.releaseNonce = none ∧ t.log.ring = [] ∧ t.log.queue.length = 1 ∧
      t.sent = .message h.session (requestResp s h 0 s.seq.frame []) :: s.sent) ∧
  (∀ (s : State) (h : ReqHdr) (n m t0 : Nat), arrivesNow s h.session → (session s h.session).role = .owner →
    h.tenantAuth = false → h.lengthOk = true → lifeCycle s = .enrolled → s.pow.state = .standby → enrolHeld s = true →
    s.pair.wonFrame ≠ some s.seq.frame → s.sec.releaseNonce = some (m, t0) →
    ∃ t r, exec (.ownerRelease h s.sec.fuses.ownerKeyHash true n) s = .next t ∧
      (t0 + 60000000000 ≤ rowNs s → r = 12) ∧ (rowNs s < t0 + 60000000000 → n ≠ m → r = 10) ∧
      (t0 + 60000000000 ≤ rowNs s ∨ n ≠ m → t.sec = s.sec ∧ t.heat = s.heat ∧
        t.log = logPost s.log (mkEvent s 0xE052 0xFFFF 0xFFFF [r]) ∧
        t.sent = .message h.session (requestResp s h r 0 []) :: s.sent)) ∧
  (∀ (s : State) (h : ReqHdr) (bs : List Nat) (f : ChainFacts), arrivesNow s h.session →
    (session s h.session).role = .owner → h.tenantAuth = false → h.lengthOk = true → s.sec.certParts = none →
    f.rootHash = s.sec.fuses.ownerKeyHash → f.verified = true → f.leafKey = true → f.certs ≤ 4 → bs.length ≤ 4096 →
    ∃ t, exec (.setDeviceCert h 0 1 bs f) s = .next t ∧ t.sec = { s.sec with slot1 := some bs } ∧
      t.log = logPost s.log (mkEvent s 0xE003 0xFFFF 0xFFFF []) ∧
      t.sent = .message h.session (requestResp s h 0 s.seq.frame []) :: s.sent) ∧
  (∀ (s : State) (h : ReqHdr) (bs : List Nat) (f : ChainFacts), arrivesNow s h.session →
    (session s h.session).role = .owner → h.tenantAuth = false → h.lengthOk = true → s.sec.certParts = none →
    ∃ t, exec (.setDeviceCert h 0 0 bs f) s = .next t ∧ t.sec = { s.sec with certParts := some (h.session, bs) } ∧
      t.sent = .message h.session (requestResp s h 0 s.seq.frame []) :: s.sent) ∧
  (∀ (s : State) (h : ReqHdr) (head bs : List Nat) (f : ChainFacts), arrivesNow s h.session →
    (session s h.session).role = .owner → h.tenantAuth = false → h.lengthOk = true →
    s.sec.certParts = some (h.session, head) → f.rootHash = s.sec.fuses.ownerKeyHash → f.verified = true →
    f.leafKey = true → f.certs ≤ 4 → (head ++ bs).length ≤ 4096 →
    ∃ t, exec (.setDeviceCert h 1 1 bs f) s = .next t ∧
      t.sec = { s.sec with slot1 := some (head ++ bs), certParts := none })

/-- SPDM and telemetry blocks (R532 to R534, R540 to R544): a request on an open session is answered once and counted; a
signed GET_MEASUREMENTS is counted and logged at most once a minute; a lockout ends after 10 s; the blocks of a second
are sealed in a chain from its 100th frame on, and one not sealed by the 5,000th consumes its number. The answers' codes
are the model's numbers (log entry 125). -/
def Obligations.SpdmAnswersAndTelemetryBlocks : Prop :=
  (∀ (s : State) (i : Nat), coreRuns s = true → (session s i).isOpen = true → (session s i).outbox = [] →
    ∃ t, exec (.getVersion i) s = .next t ∧ t.sent = .spdm i 1 [0x12] :: s.sent ∧
      (session t i).messages = cnt (session s i).messages ∧ t = { s with mgmt := t.mgmt, sent := t.sent }) ∧
  (∀ (s : State) (i : Nat), coreRuns s = true → (session s i).isOpen = true → (session s i).outbox = [] →
    ∃ t, exec (.getCapabilities i) s = .next t ∧ t.sent = .spdm i 2 [1, 1, 2] :: s.sent ∧
      t = { s with mgmt := t.mgmt, sent := t.sent }) ∧
  (∀ (s : State) (i : Nat) (a b : Bool), coreRuns s = true → (session s i).isOpen = true → (session s i).outbox = [] →
    ∃ t, exec (.negotiateAlgorithms i a b) s = .next t ∧
      t.sent = (if a && b then .spdm i 3 [1, 1] else .spdm i 0 [1]) :: s.sent ∧
      t = { s with mgmt := t.mgmt, sent := t.sent }) ∧
  (∀ (s : State) (i : Nat), coreRuns s = true → (session s i).isOpen = true → (session s i).outbox = [] →
    ∃ t d, exec (.getDigests i) s = .next t ∧
      t.sent = .spdm i 4 ((if s.sec.slot1.isSome then 3 else 1) :: d) :: s.sent ∧
      d.length = (if s.sec.slot1.isSome then 96 else 48) ∧ t = { s with mgmt := t.mgmt, sent := t.sent }) ∧
  (∀ (s : State) (i o n : Nat) (c : List Nat), coreRuns s = true → (session s i).isOpen = true → (session s i).outbox = [] →
    s.sec.slot1 = some c → o ≤ c.length →
    ∃ t, exec (.getCertificate i 1 o n) s = .next t ∧ t.sent = .spdm i 5 ((c.drop o).take n) :: s.sent ∧
      t = { s with mgmt := t.mgmt, sent := t.sent }) ∧
  (∀ (s : State) (i o n k nonce : Nat), coreRuns s = true → (session s i).isOpen = true → (session s i).outbox = [] → 2 ≤ k →
    ∃ t, exec (.getCertificate i k o n) s = .next t ∧ exec (.challenge i k nonce) s = .next t ∧
      t.sent = .spdm i 0 [1] :: s.sent) ∧
  (∀ (s : State) (i nonce : Nat), coreRuns s = true → (session s i).isOpen = true → (session s i).outbox = [] →
    ∃ t d, exec (.challenge i 0 nonce) s = .next t ∧ t.sent = .spdm i 6 (0 :: d) :: s.sent ∧ d.length = 144 ∧
      t = { s with mgmt := t.mgmt, sent := t.sent }) ∧
  (∀ (s : State) (i nonce : Nat), coreRuns s = true → (session s i).isOpen = true → (session s i).outbox = [] →
    ∃ t, exec (.getMeasurements i 0 false nonce) s = .next t ∧ t.sent = .spdm i 7 [8] :: s.sent ∧
      t = { s with mgmt := t.mgmt, sent := t.sent }) ∧
  (∀ (s : State) (i nonce : Nat), coreRuns s = true → (session s i).isOpen = true → (session s i).outbox = [] →
    ∃ t, exec (.getMeasurements i 3 false nonce) s = .next t ∧ t.sent = .spdm i 7 (leBytes 48 s.key.digest) :: s.sent) ∧
  (∀ (s : State) (i nonce : Nat), coreRuns s = true → (session s i).isOpen = true → (session s i).outbox = [] → (session s i).attested = none →
    ∃ t, exec (.getMeasurements i 3 true nonce) s = .next t ∧ t.sec.counters = upd s.sec.counters 7 cnt ∧
      (session t i).attested = some (rowNs s) ∧ t.log = logPost s.log (mkEvent s 0xE030 i 0xFFFF []) ∧
      t.sent.length = s.sent.length + 1) ∧
  (∀ (s : State) (i nonce t0 : Nat), coreRuns s = true → (session s i).isOpen = true → (session s i).outbox = [] →
    (session s i).attested = some t0 → rowNs s < t0 + 60000000000 →
    ∃ t, exec (.getMeasurements i 3 true nonce) s = .next t ∧ t.sec.counters = upd s.sec.counters 7 cnt ∧
      t.log = s.log) ∧
  (∀ (s : State) (i : Nat), coreRuns s = true → (session s i).isOpen = true → (session s i).outbox = [] →
    ∃ t, exec (.spdmUnsupportedRequest i) s = .next t ∧ t.sent = .spdm i 0 [7] :: s.sent ∧
      t = { s with mgmt := t.mgmt, sent := t.sent }) ∧
  (∀ (s : State) (i : Nat), (session s i).isOpen = false →
    exec (.getVersion i) s = .next s ∧ exec (.getCapabilities i) s = .next s ∧ exec (.getDigests i) s = .next s ∧
    exec (.getMeasurements i 1 true 0) s = .next s ∧ exec (.spdmUnsupportedRequest i) s = .next s) ∧
  (∀ (s : State) (i : Nat), coreRuns s = true → (session s i).isOpen = true → spdmWaits s i = true →
    (session s i).outbox.length < 64 →
    ∃ t, exec (.getVersion i) s = .next t ∧ (session t i).outbox = (session s i).outbox ++
        [{ msgId := 0, answer := some (.message i (errorMsg s 0 0x85)) }] ∧ t.sent = s.sent ∧ t = { s with mgmt := t.mgmt }) ∧
  (∀ (s : State) (i : Nat), coreRuns s = true → (session s i).isOpen = true → spdmWaits s i = false →
    (session s i).outbox ≠ [] → (session s i).outbox.length < 64 →
    ∃ t, exec (.getVersion i) s = .next t ∧ (session t i).outbox = (session s i).outbox ++
        [{ msgId := 0, answer := some (.spdm i 1 [0x12]) }] ∧ t.sent = s.sent ∧ t = { s with mgmt := t.mgmt }) ∧
  (∀ (s : State) (i f : Nat), (session s i).lockout = some f → f + 100000 ≤ s.seq.frame →
    ∃ t, exec (.sessionLockoutEnd i) s = .next t ∧ session t i = { session s i with lockout := none } ∧
      (∀ j, j ≠ i → session t j = session s j) ∧ t = { s with mgmt := t.mgmt }) ∧
  (∀ (s : State) (i f : Nat), (session s i).lockout = some f → s.seq.frame < f + 100000 →
    exec (.sessionLockoutEnd i) s = .next s) ∧
  (∀ (s : State) (k : Nat) (r : RowBlock), s.sec.due = some (k, [], r) → 10000 * (k + 1) + 100 ≤ s.seq.frame →
    s.seq.frame ≤ 10000 * (k + 1) + 5000 →
    ∃ t b, exec .telemetryBlockSeal s = .next t ∧ t.sec.due = none ∧ t.sec.rowBlocks = (b :: s.sec.rowBlocks).take 8 ∧
      b.seq = s.sec.rowNext ∧ b.prevHash = s.sec.rowPrev ∧ b = { r with seq := b.seq, prevHash := b.prevHash, signature := b.signature } ∧
      t.sec.rowNext = (s.sec.rowNext + 1) % 4294967296 ∧ t.sec.tenants = s.sec.tenants ∧
      t.sent = .block 0xFFFF s.sec.rowNext :: s.sent) ∧
  (∀ (s : State) (b : TenantBlock), b.tenant < s.sec.tenants.length →
    ∃ b2, (tenantSec (sealTenant b s) b.tenant).blocks = (b2 :: (tenantSec s b.tenant).blocks).take 4 ∧
      b2 = { b with seq := b2.seq, prevTag := b2.prevTag, tag := b2.tag } ∧
      b2.seq = (chainOf (tenantSec s b.tenant) b.tgen).1 ∧ b2.prevTag = (chainOf (tenantSec s b.tenant) b.tgen).2 ∧
      (tenantSec (sealTenant b s) b.tenant).prevTag = b2.tag ∧
      (tenantSec (sealTenant b s) b.tenant).nextSeq = (b2.seq + 1) % 4294967296 ∧
      (tenantSec (sealTenant b s) b.tenant).chainGen = some b.tgen ∧
      (∀ k, k ≠ b.tenant → tenantSec (sealTenant b s) k = tenantSec s k)) ∧
  (∀ (s : State) (k : Nat) (ts : List TenantBlock) (r : RowBlock), s.sec.due = some (k, ts, r) →
    (s.seq.frame < 10000 * (k + 1) + 100 → exec .telemetryBlockSeal s = .next s) ∧
    (s.seq.frame < 10000 * (k + 1) + 5000 → exec .blockNotSealed s = .next s)) ∧
  (∀ (s : State) (k : Nat) (r : RowBlock), s.sec.due = some (k, [], r) → 10000 * (k + 1) + 5000 ≤ s.seq.frame →
    ∃ t, exec .blockNotSealed s = .next t ∧ t.sec.due = none ∧ t.sec.rowNext = (s.sec.rowNext + 1) % 4294967296 ∧
      t.sec.rowBlocks = s.sec.rowBlocks ∧ t.sec.rowPrev = s.sec.rowPrev ∧ t.sec.counters = upd s.sec.counters 9 cnt ∧
      t.log = logPost s.log (mkEvent s 0xE040 0xFFFF 0xFFFF []) ∧ t = { s with sec := t.sec, log := t.log }) ∧
  (∀ s : State, s.sec.due = none → exec .telemetryBlockSeal s = .next s ∧ exec .blockNotSealed s = .next s)

/-- The log writer (R559, R561, R562) and announcements (R476): one pass takes at most 16 records from the queue, in posting
order, and gives each the next sequence number; in the open state they stand in the ring of 131,072; while the log is
opening none is taken; a full queue drops a record and counts it; an announcement ends after 1 s. -/
def Obligations.LogWriterMovesRecords : Prop :=
  (∀ s : State, coreRuns s = true → s.log.state = .isOpen → s.log.droppedRun = 0 → s.log.ring.length ≤ 131072 →
    s.log.nextSeq < 4294967296 →
    ∃ t n, exec (.logWrite none) s = .next t ∧ n = min (16 - s.log.taken) s.log.queue.length ∧
      t.log.queue = s.log.queue.drop n ∧ t.log.taken = s.log.taken + n ∧
      t.log.nextSeq = (s.log.nextSeq + n) % 4294967296 ∧
      t.log.ring.length = min 131072 (s.log.ring.length + n) ∧
      t.log.lastWords = s.log.lastWords ∧ t.log.reserve = s.log.reserve ∧ t.seq = s.seq ∧ t.heat = s.heat ∧
      t.pow = s.pow ∧ t.sent = s.sent) ∧
  (∀ (s : State) (e : Event), coreRuns s = true → s.log.state = .isOpen → s.log.queue = [e] →
    s.log.taken < 16 → s.log.droppedRun = 0 → isAnnounced e.code = false → s.log.ring.length < 131072 →
    ∃ t, exec (.logWrite none) s = .next t ∧
      t.log.ring = { e with seq := s.log.nextSeq, inReserve := false } :: s.log.ring ∧
      t = { s with log := t.log }) ∧
  (∀ (s : State) (e : Event), coreRuns s = true → s.log.state = .isOpen → s.log.queue = [e] →
    s.log.taken < 16 → s.log.droppedRun = 0 → isAnnounced e.code = true → e.lastWords = false →
    ∃ t, exec (.logWrite none) s = .next t ∧
      t.log.announce = some ({ e with seq := s.log.nextSeq, announced := true, inReserve := false }, s.seq.frame) ∧
      t.can.announceSeq = (s.can.announceSeq + 1) % 256) ∧
  (∀ (s : State) (f : Option (Nat × Nat)), 16 ≤ s.log.taken → s.log.droppedRun = 0 → exec (.logWrite f) s = .next s) ∧
  (∀ (s : State) (f : Option (Nat × Nat)), s.log.state = .opening → exec (.logWrite f) s = .next s) ∧
  (∀ (s : State) (f : Option (Nat × Nat)), coreRuns s = false → exec (.logWrite f) s = .next s) ∧
  (∀ (l : Log) (e : Event), l.queue.length < 1024 → (logPost l e).queue = l.queue ++ [e] ∧
    (logPost l e).dropped = l.dropped) ∧
  (∀ (l : Log) (e : Event), 1024 ≤ l.queue.length → (logPost l e).queue = l.queue ∧
    (logPost l e).dropped = cnt l.dropped ∧ (logPost l e).droppedRun = l.droppedRun + 1) ∧
  (∀ (l : Log) (e : Event), l.lastWords.length = 64 → (logLastWord l e).lastWords = e :: l.lastWords.take 63) ∧
  (∀ (s : State) (e : Event) (f : Nat), s.log.announce = some (e, f) → f + 10000 ≤ s.seq.frame →
    exec .announcementExpiry s = .next { s with log := { s.log with announce := none } }) ∧
  (∀ (s : State) (e : Event) (f : Nat), s.log.announce = some (e, f) → s.seq.frame < f + 10000 →
    exec .announcementExpiry s = .next s) ∧
  (∀ s : State, s.log.announce = none → exec .announcementExpiry s = .next s)

/-- Every step keeps the bounds of the log's memories (R559, R562), whatever command stands in front. -/
def Obligations.EveryStepKeepsTheLogBounds : Prop :=
  ∀ s t : State, s.logBounded → step s = .next t → t.logBounded

/-- Requests accepted for the next boundary (R27, R537 to R539, R598, R604): one that passes the header checks and those of
its own rule is answered OK with the frame that follows, and held among the accepted requests of the frame. -/
def Obligations.RequestsAcceptedForTheNextBoundary : Prop :=
  ∀ (s : State) (h : ReqHdr),
  (∀ m, accepts s ⟨h, .lowerMax m⟩ → acceptedForBoundary s ⟨h, .lowerMax m⟩ (exec (.lowerMax h m) s)) ∧
  (∀ o c m k, accepts s ⟨h, .setSplit o c m k⟩ →
    acceptedForBoundary s ⟨h, .setSplit o c m k⟩ (exec (.setSplit h o c m k) s)) ∧
  (∀ i, accepts s ⟨h, .bindSite i⟩ → acceptedForBoundary s ⟨h, .bindSite i⟩ (exec (.bindSite h i) s)) ∧
  (∀ i, accepts s ⟨h, .unbindSite i⟩ → acceptedForBoundary s ⟨h, .unbindSite i⟩ (exec (.unbindSite h i) s)) ∧
  (∀ a b, accepts s ⟨h, .setQuota a b⟩ → acceptedForBoundary s ⟨h, .setQuota a b⟩ (exec (.setQuota h a b) s)) ∧
  (accepts s ⟨h, .releaseTenant⟩ → acceptedForBoundary s ⟨h, .releaseTenant⟩ (exec (.releaseTenant h) s)) ∧
  (accepts s ⟨h, .admitTenant⟩ → acceptedForBoundary s ⟨h, .admitTenant⟩ (exec (.admitTenant h) s)) ∧
  (∀ i g, accepts s ⟨h, .setLoopSp i g⟩ → acceptedForBoundary s ⟨h, .setLoopSp i g⟩ (exec (.setLoopSp h i g) s)) ∧
  (∀ f i, accepts s ⟨h, .clearElement f i⟩ →
    acceptedForBoundary s ⟨h, .clearElement f i⟩ (exec (.clearElement h f i) s)) ∧
  (∀ v, accepts s ⟨h, .setSprayInhibit v⟩ →
    acceptedForBoundary s ⟨h, .setSprayInhibit v⟩ (exec (.setSprayInhibit h v) s)) ∧
  (∀ c p, accepts s ⟨h, .setValve c p⟩ → acceptedForBoundary s ⟨h, .setValve c p⟩ (exec (.setValve h c p) s)) ∧
  (∀ i b, accepts s ⟨h, .clearValve i b⟩ → acceptedForBoundary s ⟨h, .clearValve i b⟩ (exec (.clearValve h i b) s)) ∧
  (∀ l, accepts s ⟨h, .releaseLoop l⟩ → acceptedForBoundary s ⟨h, .releaseLoop l⟩ (exec (.releaseLoop h l) s)) ∧
  (accepts s ⟨h, .rowStop⟩ → acceptedForBoundary s ⟨h, .rowStop⟩ (exec (.rowStop h) s)) ∧
  (accepts s ⟨h, .releaseRow⟩ → acceptedForBoundary s ⟨h, .releaseRow⟩ (exec (.releaseRow h) s)) ∧
  (∀ l, accepts s ⟨h, .releaseFloor l⟩ → acceptedForBoundary s ⟨h, .releaseFloor l⟩ (exec (.releaseFloor h l) s)) ∧
  (accepts s ⟨h, .pairSwap⟩ → acceptedForBoundary s ⟨h, .pairSwap⟩ (exec (.pairSwap h) s)) ∧
  (∀ v, accepts s ⟨h, .pairHold v⟩ → acceptedForBoundary s ⟨h, .pairHold v⟩ (exec (.pairHold h v) s)) ∧
  (∀ i, accepts s ⟨h, .maintStop i⟩ → acceptedForBoundary s ⟨h, .maintStop i⟩ (exec (.maintStop h i) s)) ∧
  (accepts s ⟨h, .releaseHeld⟩ → acceptedForBoundary s ⟨h, .releaseHeld⟩ (exec (.maintReleaseHeld h) s)) ∧
  (∀ g, accepts s ⟨h, .precisionRun g⟩ → acceptedForBoundary s ⟨h, .precisionRun g⟩ (exec (.precisionRun h g) s)) ∧
  (∀ c n, accepts s ⟨h, .setFieldbus c n⟩ →
    acceptedForBoundary s ⟨h, .setFieldbus c n⟩ (exec (.setFieldbus h c n) s))

/-- Requests with an answer or a time of their own (R71, R168, R479, R571, R572, R600, R601, R603, R604): a mode and a
limit wait for the plan epoch boundary; a commit, a message and a start are reserved at once; page releases and a
cancellation are answered when they take effect; a reset comes at the end of the frame that follows. -/
def Obligations.RequestsWithTheirOwnTime : Prop :=
  (∀ (s : State) (h : ReqHdr) (m : Nat), accepts s ⟨h, .setMode m⟩ →
    ∃ t, exec (.setMode h m) s = .next t ∧ t.plan.mode = s.plan.mode ∧
      (∃ r ∈ t.plan.requests, r.due = (s.seq.frame / 100 + 1) * 100 ∧ r.mode = RowMode.ofCode m ∧
        (r.mode ≠ .feast → r.low = some r.mode)) ∧
      (∀ r, r.due ≠ (s.seq.frame / 100 + 1) * 100 → (r ∈ t.plan.requests ↔ r ∈ s.plan.requests)) ∧
      answered s t h 0 ((s.seq.frame / 100 + 1) * 100) [] ∧ t.mgmt.accepted = s.mgmt.accepted ∧
      t = { s with plan := t.plan, mgmt := t.mgmt, sec := t.sec, sent := t.sent, log := t.log }) ∧
  (∀ (s : State) (h : ReqHdr) (x : Nat), accepts s ⟨h, .setLimit 0 0 x⟩ →
    ∃ t, exec (.setLimit h 0 0 x) s = .next t ∧ t.heat = { s.heat with
        limitRequests := s.heat.limitRequests ++ [⟨(s.seq.frame / 100 + 1) * 100, none, x⟩] } ∧
      answered s t h 0 ((s.seq.frame / 100 + 1) * 100) [] ∧
      t = { s with heat := t.heat, mgmt := t.mgmt, sec := t.sec, sent := t.sent }) ∧
  (∀ (s : State) (h : ReqHdr) (l x : Nat), accepts s ⟨h, .setLimit 1 l x⟩ →
    ∃ t, exec (.setLimit h 1 l x) s = .next t ∧
      t.heat = { s.heat with
        limitRequests := s.heat.limitRequests ++ [⟨(s.seq.frame / 100 + 1) * 100, some l, x⟩] } ∧
      answered s t h 0 ((s.seq.frame / 100 + 1) * 100) [] ∧
      t = { s with heat := t.heat, mgmt := t.mgmt, sec := t.sec, sent := t.sent }) ∧
  (∀ (s : State) (h : ReqHdr) (c : SchedReq), accepts s ⟨h, .schedCommit c⟩ →
    ∃ t, exec (.schedCommit h c) s = .next t ∧ t.sched = { s.sched with commits := s.sched.commits ++ [commitEntry s c] } ∧
      answered s t h 0 (s.seq.frame + 1) [] ∧
      t = { s with sched := t.sched, mgmt := t.mgmt, sec := t.sec, sent := t.sent }) ∧
  (∀ (s : State) (c : SchedReq), c.wallKeyed = false → (commitEntry s c).due = c.target ∧
    (commitEntry s c).state = .pending ∧ (commitEntry s c).actionId = c.actionId ∧
    (commitEntry s c).lateRun = c.late.getD (lateDefault c.kind)) ∧
  (∀ (s : State) (c : SchedReq), c.actionId = 0 → commitCheck s c = 3) ∧
  (∀ (s : State) (c : SchedReq), c.actionId ≠ 0 → c.occurrence < 65536 → payloadCheck s c.kind c.payload = 0 →
    c.wallKeyed = true → wallValid s = false → commitCheck s c = 11) ∧
  (∀ (s : State) (c : SchedReq), c.actionId ≠ 0 → c.occurrence < 65536 → payloadCheck s c.kind c.payload = 0 →
    c.wallKeyed = false → lateAllowed c.kind (lateOf c) = true → inHistory s c.actionId c.occurrence = true →
    commitCheck s c = 5) ∧
  (∀ (s : State) (h : ReqHdr) (c : Nat) (m : CanMsg), accepts s ⟨h, .canSend c m⟩ → c < s.can.ch.length →
    ∃ t i, exec (.canSend h c m) s = .next t ∧ answered s t h 0 (s.seq.frame + 1) (leBytes 2 (canCh s c).nextSend) ∧
      (canCh t c).nextSend = ((canCh s c).nextSend + 1) % 65536 ∧ i < (canCh s c).slots.length ∧
      ((canCh s c).slots.getD i {}).state = .free ∧
      (canCh t c).slots.getD i {} = { state := .waiting, sendId := (canCh s c).nextSend, msg := m,
                                      acceptFrame := s.seq.frame, effect := s.seq.frame + 1 } ∧
      (∀ k, k ≠ i → (canCh t c).slots.getD k {} = (canCh s c).slots.getD k {})) ∧
  (∀ (s : State) (h : ReqHdr) (c i : Nat), accepts s ⟨h, .canCancel c i⟩ →
    ∃ t, exec (.canCancel h c i) s = .next t ∧ t.mgmt.accepted = s.mgmt.accepted ++ [⟨h, .canCancel c i⟩] ∧
      (session t h.session).outbox = [{ msgId := h.msgId }] ∧ t = { s with mgmt := t.mgmt, sec := t.sec }) ∧
  (∀ (s : State) (h : ReqHdr) (l : List (Nat × Nat)), accepts s ⟨h, .releasePages l []⟩ →
    ∃ t, exec (.releasePages h l) s = .next t ∧
      t.mgmt.accepted = s.mgmt.accepted ++ [⟨h, .releasePages l (l.map (pageCheck s h.tenant))⟩] ∧
      (session t h.session).outbox = [{ msgId := h.msgId }] ∧ t = { s with mgmt := t.mgmt, sec := t.sec }) ∧
  (∀ (s : State) (h : ReqHdr) (c d x : Nat) (r : Bool), accepts s ⟨h, .maintStart c d x r⟩ →
    s.maint.activities.length = 4 →
    ∃ t i, exec (.maintStart h c d x r) s = .next t ∧ answered s t h 0 (s.seq.frame + 1) (leBytes 2 s.maint.nextId) ∧
      i < 4 ∧ (activity s i).state ≠ .running ∧ (activity s i).state ≠ .starting ∧
      (activity t i).state = .starting ∧ (activity t i).code = c ∧
      (activity t i).target = x ∧ (activity t i).id = s.maint.nextId ∧
      (activity t i).durationS = (if d = 0 then s.img.maint.maxDuration.getD c 0 else d) ∧
      (∀ k, k ≠ i → activity t k = activity s k) ∧
      t.maint.nextId = (s.maint.nextId + 1) % 65536 ∧
      t = { s with maint := t.maint, mgmt := t.mgmt, sec := t.sec, sent := t.sent, log := t.log }) ∧
  (∀ (s : State) (h : ReqHdr) (f : Nat), accepts s ⟨h, .mgmtReset f⟩ →
    ∃ t, exec (.mgmtReset h f) s = .next t ∧ t.mgmt.resetAt = some (s.seq.frame + 1) ∧
      answered s t h 0 (s.seq.frame + 1) [] ∧ t = { s with mgmt := t.mgmt, sec := t.sec, sent := t.sent }) ∧
  (∀ s : State, s.pow.plantControl = true → resetCheck s 0 = 2 ∧ resetCheck s 1 = 0)

/-- The checks of a request (R538, R540, R598) in their order: permission, plant control, lockout, the tenant slot, its
generation, the tag, wall time, the age, the nonce, and then those of its own rule. A request after the Guard phase or
beyond 256 of a frame waits; the 65th that waits on a session is answered with QUEUE (R582, R583). -/
def Obligations.RequestsRefusedInOrder : Prop :=
  (∀ (s : State) (h : ReqHdr) (m : Nat), exec (.lowerMax h m) s = .next (arrive ⟨h, .lowerMax m⟩ s)) ∧
  (∀ (s : State) (q : Request), arrivesNow s q.hdr.session →
    mayRequest (session s q.hdr.session).role q.hdr q.body = false → q.body ≠ .releaseHeld →
    refusedWith s q 9 (.next (arrive q s))) ∧
  (∀ (s : State) (q : Request), arrivesNow s q.hdr.session →
    mayRequest (session s q.hdr.session).role q.hdr q.body = true →
    (tenantKeyed q.body = true ∨ facilityKind q.body = true ∧ servedByStandby q.body = false) →
    s.pow.plantControl = false → refusedWith s q 2 (.next (arrive q s))) ∧
  (∀ (s : State) (q : Request), arrivesNow s q.hdr.session → tenantKeyed q.body = true →
    mayRequest (session s q.hdr.session).role q.hdr q.body = true → s.pow.plantControl = true →
    ((session s q.hdr.session).lockout ≠ none → refusedWith s q 10 (.next (arrive q s))) ∧
    ((session s q.hdr.session).lockout = none →
      (256 ≤ q.hdr.tenant ∨ (tenantCfg s q.hdr.tenant).present = false → refusedWith s q 3 (.next (arrive q s))) ∧
      (q.hdr.tenant < 256 → (tenantCfg s q.hdr.tenant).present = true →
        (q.hdr.tgen ≠ (tenantSt s q.hdr.tenant).gen → refusedWith s q 1 (.next (arrive q s))) ∧
        (q.hdr.tgen = (tenantSt s q.hdr.tenant).gen →
          (q.hdr.tagOk = false → refusedWith s q 10 (.next (arrive q s))) ∧
          (q.hdr.tagOk = true →
            (wallValid s = false → refusedWith s q 11 (.next (arrive q s))) ∧
            (wallValid s = true → issuedInTime s q.hdr = false → refusedWith s q 12 (.next (arrive q s))) ∧
            (wallValid s = true → issuedInTime s q.hdr = true → q.hdr.nonce ≤ (tenantSec s q.hdr.tenant).lastNonce →
              refusedWith s q 13 (.next (arrive q s)))))))) ∧
  (∀ (s : State) (q : Request), arrivesNow s q.hdr.session → headerPasses s q.hdr q.body →
    ownCheck s q.hdr q.body ≠ 0 → refusedWith s q (ownCheck s q.hdr q.body) (.next (arrive q s))) ∧
  (∀ (s : State) (q : Request), coreRuns s = true → (session s q.hdr.session).isOpen = true →
    (s.mgmt.guardDone = true ∨ 256 ≤ s.mgmt.taken) → (session s q.hdr.session).outbox.length < 64 →
    ∃ m, arrive q s = { s with mgmt := m } ∧ m.waiting = s.mgmt.waiting ++ [.request q] ∧ m.accepted = s.mgmt.accepted) ∧
  (∀ (s : State) (q : Request), (session s q.hdr.session).isOpen = false → arrive q s = s) ∧
  (∀ (s : State) (h : ReqHdr), (wallNow s - (h.issued : Int) = 1000000000 → issuedInTime s h = true) ∧
    (wallNow s - (h.issued : Int) = 1000000001 → issuedInTime s h = false) ∧
    (wallNow s - (h.issued : Int) = -100000000 → issuedInTime s h = true) ∧
    (wallNow s - (h.issued : Int) = -100000001 → issuedInTime s h = false)) ∧
  (∀ (s : State) (q : Request), coreRuns s = true → (session s q.hdr.session).isOpen = true →
    64 ≤ (session s q.hdr.session).outbox.length →
    ∃ m, arrive q s = { s with
        mgmt := m, sent := .message q.hdr.session (errorMsg s q.hdr.msgId 0x85) :: s.sent } ∧
      m.waiting = s.mgmt.waiting ∧ m.accepted = s.mgmt.accepted)

/-- The effect of accepted requests at the boundary (R27): they are committed in the Guard phase and applied in order of
arrival; one whose own check no longer holds changes nothing (R155, R168, R169, R322, R404, R412, R424, R450, R452,
R518, R605, R250). -/
def Obligations.AcceptedRequestsTakeEffect : Prop :=
  (∀ s : State, (commitRequests s).mgmt = { s.mgmt with
    committed := s.mgmt.committed ++ s.mgmt.accepted, accepted := [], guardDone := true }) ∧
  (∀ (s : State) (q r : Request), s.mgmt.committed = [q, r] →
    applyRequests s = applyRequest r (applyRequest q { s with mgmt := { s.mgmt with committed := [] } })) ∧
  (∀ (s : State) (h : ReqHdr) (m : Nat), h.tenant < s.heat.tenants.length →
    (lowerMaxCheck s h.tenant m = 0 →
      (tenantSt (applyRequest ⟨h, .lowerMax m⟩ s) h.tenant).maxIn = m ∧
      (tenantSt (applyRequest ⟨h, .lowerMax m⟩ s) h.tenant).minIn = (tenantSt s h.tenant).minIn) ∧
    (lowerMaxCheck s h.tenant m ≠ 0 → applyRequest ⟨h, .lowerMax m⟩ s = s)) ∧
  (∀ (s : State) (h : ReqHdr) (a b : Nat), h.tenant < s.heat.tenants.length → quotaCheck s h.tenant a b = 0 →
    (tenantSt (applyRequest ⟨h, .setQuota a b⟩ s) h.tenant).minIn = a ∧
    (tenantSt (applyRequest ⟨h, .setQuota a b⟩ s) h.tenant).maxIn = b ∧
    (tenantSt (applyRequest ⟨h, .setQuota a b⟩ s) h.tenant).record = some (a, b, s.key.digest)) ∧
  (∀ (s : State) (h : ReqHdr) (o c m k : Nat), h.tenant < s.heat.tenants.length → splitCheck s h.tenant o c m k = 0 →
    tenantSt (applyRequest ⟨h, .setSplit o c m k⟩ s) h.tenant =
      { tenantSt s h.tenant with splitOrder := o, minCompute := c, minMemory := m, minLinks := k } ∧
    (∀ x, x ≠ h.tenant → tenantSt (applyRequest ⟨h, .setSplit o c m k⟩ s) x = tenantSt s x)) ∧
  (∀ (s : State) (h : ReqHdr) (i : Nat), i < s.heat.sites.length → bindCheck s i h.tenant = 0 →
    siteP (applyRequest ⟨h, .bindSite i⟩ s) i =
      { siteP s i with tenant := some h.tenant, tgen := (tenantSt s h.tenant).gen } ∧
    (applyRequest ⟨h, .bindSite i⟩ s).log = logPost s.log (mkEvent s 0x4044 i h.tenant []) ∧
    (∀ k, k ≠ i → siteP (applyRequest ⟨h, .bindSite i⟩ s) k = siteP s k)) ∧
  (∀ (s : State) (h : ReqHdr) (i : Nat), i < s.heat.sites.length → (siteP s i).tenant ≠ none →
    applyRequest ⟨h, .bindSite i⟩ s = s) ∧
  (∀ (s : State) (h : ReqHdr) (i : Nat), i < s.heat.sites.length → unbindCheck s i h.tenant = 0 →
    (siteP (applyRequest ⟨h, .unbindSite i⟩ s) i).tenant = none ∧
    (applyRequest ⟨h, .unbindSite i⟩ s).heat.work = s.heat.work ++ [.vacate i]) ∧
  (∀ (s : State) (h : ReqHdr), h.tenant < s.heat.tenants.length → releaseTenantCheck s h.tenant = 0 →
    (tenantSt (applyRequest ⟨h, .releaseTenant⟩ s) h.tenant).state = .quarantine ∧
    (tenantSt (applyRequest ⟨h, .releaseTenant⟩ s) h.tenant).gen = ((tenantSt s h.tenant).gen + 1) % 65536 ∧
    (tenantSt (applyRequest ⟨h, .releaseTenant⟩ s) h.tenant).quarFrame = s.seq.frame ∧
    (h.tenant < s.sec.tenants.length → (tenantSec (applyRequest ⟨h, .releaseTenant⟩ s) h.tenant).lastNonce = 0)) ∧
  (∀ (s : State) (h : ReqHdr), h.tenant < s.heat.tenants.length → h.tenant < 256 →
    ((tenantSt s h.tenant).state = .released →
      (tenantSt (applyRequest ⟨h, .admitTenant⟩ s) h.tenant).state = .active ∧
      (tenantSt (applyRequest ⟨h, .admitTenant⟩ s) h.tenant).maxIn = (tenantCfg s h.tenant).maxPages) ∧
    ((tenantSt s h.tenant).state = .quarantine → admitCheck s h.tenant = 4 ∧
      applyRequest ⟨h, .admitTenant⟩ s = s)) ∧
  (∀ (s : State) (h : ReqHdr) (i : Nat) (g : Int), applyRequest ⟨h, .setLoopSp i g⟩ s =
    { s with ctl := { s.ctl with fromRequest := s.ctl.fromRequest ++ [(i, g)] } }) ∧
  (∀ (s : State) (h : ReqHdr), applyRequest ⟨h, .setSprayInhibit 0⟩ s =
    { s with pump := { s.pump with sprayInhibit := false }
             log := logPost s.log (mkEvent s 0xA042 0xFFFF 0xFFFF []) }) ∧
  (∀ (s : State) (h : ReqHdr), (applyRequest ⟨h, .setSprayInhibit 1⟩ s).pump.sprayInhibit = true) ∧
  (∀ (s : State) (h : ReqHdr) (c : Nat), c < s.valve.ch.length →
    (vch (applyRequest ⟨h, .setValve c 1⟩ s) c).c3 = some (commandFor (valveCfg s c) true) ∧
    (vch (applyRequest ⟨h, .setValve c 0⟩ s) c).c3 = some (commandFor (valveCfg s c) false) ∧
    (vch (applyRequest ⟨h, .setValve c 2⟩ s) c).c3 = none ∧
    (∀ k p, k ≠ c → vch (applyRequest ⟨h, .setValve c p⟩ s) k = vch s k)) ∧
  (∀ (s : State) (h : ReqHdr) (c : Nat), c < s.valve.ch.length →
    vch (applyRequest ⟨h, .clearValve c 0⟩ s) c = { vch s c with reason := 0, missRun := 0 } ∧
    (applyRequest ⟨h, .clearValve c 0⟩ s).log = logPost s.log (mkEvent s 0xA06E c 0xFFFF [])) ∧
  (∀ (s : State) (h : ReqHdr) (l : Nat), releaseConditions s l = false →
    (applyRequest ⟨h, .releaseLoop l⟩ s).leak.loops = s.leak.loops ∧
    (applyRequest ⟨h, .releaseLoop l⟩ s).log = logPost s.log (mkEvent s 0xB054 l 0xFFFF [])) ∧
  (∀ (s : State) (h : ReqHdr) (l : Nat), releaseConditions s l = true → l < s.leak.loops.length →
    (leakLoop (applyRequest ⟨h, .releaseLoop l⟩ s) l).iso = .isOpen ∧
    (loopP (applyRequest ⟨h, .releaseLoop l⟩ s) l).isolated = false) ∧
  (∀ (s : State) (h : ReqHdr), (applyRequest ⟨h, .rowStop⟩ s).leak.emergency = true ∧
    (applyRequest ⟨h, .rowStop⟩ s).leak.stopRequest = true) ∧
  (∀ (s : State) (h : ReqHdr), releaseRowCheck s = 0 →
    (applyRequest ⟨h, .releaseRow⟩ s).leak.emergency = false ∧
    (applyRequest ⟨h, .releaseRow⟩ s).leak.stopRequest = false) ∧
  (∀ (s : State) (h : ReqHdr), (s.leak.rowSensor = true ∨ s.leak.manyLoops = true ∨ s.leak.emergency = false) →
    applyRequest ⟨h, .releaseRow⟩ s = s) ∧
  (∀ (s : State) (h : ReqHdr) (l : Nat), l < s.caps.floors.length → (floorLine s l).held = true →
    (floorLine (applyRequest ⟨h, .releaseFloor l⟩ s) l).held = false ∧
    (applyRequest ⟨h, .releaseFloor l⟩ s).log = logPost s.log (mkEvent s 0x8003 l 0xFFFF [])) ∧
  (∀ (s : State) (h : ReqHdr), s.pair.role = .control → s.pair.partnerSeen = true →
    applyRequest ⟨h, .pairSwap⟩ s = { s with pair := { s.pair with swap := some .request } }) ∧
  (∀ (s : State) (h : ReqHdr), applyRequest ⟨h, .pairHold 1⟩ s =
    { s with pair := { s.pair with pairHold := true }, log := logPost s.log (mkEvent s 0xD016 0xFFFF 0xFFFF []) }) ∧
  (∀ (s : State) (h : ReqHdr), applyRequest ⟨h, .releaseHeld⟩ s = { s with pow := { s.pow with resetDue := some 1 } }) ∧
  (∀ (s : State) (h : ReqHdr) (g : Nat),
    (applyRequest ⟨h, .precisionRun g⟩ s).eng.precision ≠ none ∧
    applyRequest ⟨h, .precisionRun g⟩ s = { s with eng := (applyRequest ⟨h, .precisionRun g⟩ s).eng }) ∧
  (∀ (s : State) (h : ReqHdr) (n : Nat), applyRequest ⟨h, .setFieldbus s.mgmt.fieldbus n⟩ s = s) ∧
  (∀ (s : State) (h : ReqHdr) (c : Fieldbus) (n : Nat), c ≠ s.mgmt.fieldbus → applyRequest ⟨h, .setFieldbus c n⟩ s =
    { s with mgmt := { s.mgmt with fieldbus := c }, log := logPost s.log (mkEvent s 0x0020 0xFFFF 0xFFFF []) }) ∧
  (∀ (s : State) (h : ReqHdr) (l : List (Nat × Nat)) (first rs : List Nat), rs = pageResults s h.tenant l first →
    (session s h.session).outbox = [{ msgId := h.msgId }] →
    (applyRequest ⟨h, .releasePages l first⟩ s).sent =
      .message h.session (requestResp s h 0 s.seq.frame rs) :: s.sent ∧
    (applyRequest ⟨h, .releasePages l first⟩ s).heat.work = s.heat.work ++
      [.release ((List.zip l rs).filterMap fun x => if x.2 = 0 then some x.1.1 else none)]) ∧
  (∀ (s : State) (h : ReqHdr) (c i : Nat), (session s h.session).outbox = [{ msgId := h.msgId }] →
    (canCancelCheck s c i = 0 → (applyRequest ⟨h, .canCancel c i⟩ s).sent =
        .message h.session (requestResp s h 0 s.seq.frame []) :: s.sent ∧
      (∀ x ∈ (canCh (applyRequest ⟨h, .canCancel c i⟩ s) c).slots, x.sendId = i → x.state ≠ .waiting)) ∧
    (canCancelCheck s c i ≠ 0 → (applyRequest ⟨h, .canCancel c i⟩ s).can = s.can ∧
      (applyRequest ⟨h, .canCancel c i⟩ s).sent = .message h.session (requestResp s h 2 0 []) :: s.sent))

/-- The image update (R109, R111, R602): IMAGE_BEGIN erases the copy that is not selected and is answered when the erase
completes; IMAGE_WRITE takes the bytes in order; IMAGE_END verifies the copy; 60 s without a message end the update. -/
def Obligations.ImageUpdateErasesWritesAndVerifies : Prop :=
  (∀ (s : State) (h : ReqHdr) (n : Nat) (c : Copy) (answers : Bool),
    accepts (if answers then keyRestored s else s) ⟨h, .imageBegin n⟩ → s.key.selected = some c →
    ∃ t, exec (.imageBegin h ⟨n, answers⟩) s = .next t ∧ (answers = true → t.key.lost = false) ∧
      (session t h.session).outbox = [{ msgId := h.msgId }] ∧
      t.mgmt.update = some { session := h.session, msgId := h.msgId, length := n, lastNs := rowNs s } ∧
      copyBytes t.key (otherCopy c) = [] ∧ copyBytes t.key c = copyBytes s.key c ∧ t.key.otherState = 0 ∧
      t = { s with mgmt := t.mgmt, key := t.key, sec := t.sec }) ∧
  (∀ (s : State) (u : ImageUpdate), s.mgmt.update = some u → u.erasing = true →
    (session s u.session).outbox = [{ msgId := u.msgId }] →
    ∃ t, exec .imageEraseComplete s = .next t ∧ t.mgmt.update = some { u with erasing := false, lastNs := rowNs s } ∧
      t.sent = .message u.session (requestResp s { session := u.session, msgId := u.msgId } 0 s.seq.frame []) :: s.sent ∧ t.key = s.key) ∧
  (∀ s : State, s.mgmt.update = none → exec .imageEraseComplete s = .next s ∧ exec .imageUpdateTimeout s = .next s) ∧
  (∀ (s : State) (h : ReqHdr) (u : ImageUpdate) (c : Copy) (o : Nat) (bs : List Byte), arrivesNow s h.session →
    (session s h.session).role = .owner → h.tenantAuth = false → h.lengthOk = true → s.mgmt.update = some u →
    u.session = h.session → u.erasing = false → s.key.selected = some c → bs ≠ [] → bs.length ≤ 4000 → o = u.next →
    o + bs.length ≤ u.length →
    ∃ t, exec (.imageWrite h o bs) s = .next t ∧
      t.mgmt.update = some { u with lastNs := rowNs s, next := o + bs.length } ∧
      copyBytes t.key (otherCopy c) = copyBytes s.key (otherCopy c) ++ bs ∧ copyBytes t.key c = copyBytes s.key c ∧
      t.sent = .message h.session (requestResp s h 0 s.seq.frame []) :: s.sent ∧
      t = { s with mgmt := t.mgmt, key := t.key, sent := t.sent }) ∧
  (∀ (s : State) (h : ReqHdr) (u : ImageUpdate) (c : Copy) (o : Nat) (bs : List Byte), arrivesNow s h.session →
    (session s h.session).role = .owner → h.tenantAuth = false → h.lengthOk = true → s.mgmt.update = some u →
    u.session = h.session → u.erasing = false → s.key.selected = some c → o ≠ u.next →
    ∃ t, exec (.imageWrite h o bs) s = .next t ∧ t.key = s.key ∧
      t.sent = .message h.session (requestResp s h 3 0 []) :: s.sent) ∧
  (∀ (s : State) (h : ReqHdr) (u : ImageUpdate) (c : Copy) (f : CopyFacts), arrivesNow s h.session →
    (session s h.session).role = .owner → h.tenantAuth = false → h.lengthOk = true → s.mgmt.update = some u →
    u.session = h.session → u.erasing = false → s.key.selected = some c →
    ∃ t r, exec (.imageEnd h f) s = .next t ∧ t.mgmt.update = none ∧
      r = verifyCopy (otherCopy c) { s with key := setFacts (otherCopy c) f (setCopy (otherCopy c)
        (copyBytes s.key (otherCopy c) ++ List.replicate (u.length - u.next) (255 : Byte)) s.key) } ∧
      (r.reason = 0 → t.key.otherState = 3 ∧ t.sent = .message h.session (requestResp s h 0 s.seq.frame [0]) :: s.sent ∧
        t.log = logPost s.log (mkEvent s 0x300A 0xFFFF 0xFFFF [])) ∧
      (r.reason ≠ 0 → t.key.otherState = 2 ∧ t.sent = .message h.session (requestResp s h 2 0 [r.reason]) :: s.sent)) ∧
  (∀ (s : State) (u : ImageUpdate), s.mgmt.update = some u → u.erasing = false → u.lastNs + 60000000000 ≤ rowNs s →
    exec .imageUpdateTimeout s = .next { s with mgmt := { s.mgmt with update := none }
                                                key := { s.key with otherState := 2 } }) ∧
  (∀ (s : State) (u : ImageUpdate), s.mgmt.update = some u → (u.erasing = true ∨ rowNs s < u.lastNs + 60000000000) →
    exec .imageUpdateTimeout s = .next s) ∧
  (∀ (s : State) (n : Nat), (n < 256 ∨ 67108864 < n → imageBeginCheck s n = 3) ∧
    (256 ≤ n → n ≤ 67108864 → s.mgmt.update ≠ none → imageBeginCheck s n = 7))

/-- Maintenance activities and windows (R567, R568, R573, R574): each running activity ends as its rule says, with its
result, its cause, its event and its entry kept for 10 s; a window left open closes after 24 h. -/
def Obligations.MaintenanceActivitiesEnd : Prop :=
  (∀ (s : State) (i : Nat) (st : ActState) (c : Nat), i < s.maint.activities.length → (activity s i).state = .running →
    ∃ r, activity (endActivity i st c s) i = { activity s i with
        state := st, result := r, cause := c, endFrame := s.seq.frame, stroke := .none } ∧
      (endActivity i st c s).maint.dropping = s.maint.dropping ++ [activity s i] ∧
      (st = .complete → r = 1) ∧ (st = .pass → r = 2) ∧ (st = .fail → r = 3) ∧ (st = .stopped → r = 4) ∧
      (st = .aborted → r = 5 ∧ (endActivity i st c s).log =
        logPost s.log (mkEvent s 0xF013 i 0xFFFF (leBytes 2 (activity s i).id ++ [c]))) ∧
      (st ≠ .aborted → (endActivity i st c s).log =
        logPost s.log (mkEvent s 0xF011 i 0xFFFF (leBytes 2 (activity s i).id))) ∧
      (∀ k, k ≠ i → activity (endActivity i st c s) k = activity s k)) ∧
  (∀ (s : State) (i : Nat), (activity s i).state ≠ .running →
    exec (.activityEnd i) s = .next s ∧ exec (.strokeFlowCheck i) s = .next s ∧ exec (.strokeValveClose i) s = .next s ∧
    exec (.strokeFloorTimeout i) s = .next s ∧ exec (.drainFillEndPressure i) s = .next s ∧
    (∀ w x, exec (.selfTestResult i w x) s = .next s) ∧ (∀ v b, exec (.firmwareExchangeReport i v b) s = .next s)) ∧
  (∀ (s : State) (i : Nat), i < s.maint.activities.length → (activity s i).state = .running →
    (activity s i).durationS * 10000 ≤ s.seq.frame - (activity s i).startFrame → (activity s i).code ≠ 7 →
    ∃ t st, exec (.activityEnd i) s = .next t ∧ t = endActivity i st 0 s ∧ (activity t i).state = st ∧
      (activity t i).endFrame = s.seq.frame ∧ t.maint.dropping = s.maint.dropping ++ [activity s i] ∧
      ((activity s i).code = 0 ∨ (activity s i).code = 1 ∨ (activity s i).code = 6 → st = .complete) ∧
      ((activity s i).code = 4 ∨ (activity s i).code = 5 → st = .fail) ∧
      ((activity s i).code = 2 ∨ (activity s i).code = 3 ∨ (activity s i).code = 8 → st = .aborted)) ∧
  (∀ (s : State) (i : Nat), i < s.maint.activities.length → (activity s i).state = .running → (activity s i).code = 7 →
    flushOver s (activity s i) = true →
    ∃ t, exec (.activityEnd i) s = .next t ∧ t = endActivity i .complete 0 s ∧ (activity t i).state = .complete ∧
      (activity t i).result = 1) ∧
  (∀ (s : State) (i : Nat), (activity s i).state ∈ [.complete, .pass, .fail, .stopped, .aborted] →
    (activity s i).endFrame + 100000 ≤ s.seq.frame → i < s.maint.activities.length →
    ∃ t, exec (.activityEntryFree i) s = .next t ∧ activity t i = {} ∧ (∀ k, k ≠ i → activity t k = activity s k) ∧
      t = { s with maint := { s.maint with activities := t.maint.activities } }) ∧
  (∀ (s : State) (i : Nat), s.seq.frame < (activity s i).endFrame + 100000 → exec (.activityEntryFree i) s = .next s) ∧
  (∀ (s : State) (i : Nat), i < s.maint.activities.length → (activity s i).state = .running → (activity s i).code = 2 →
    (activity s i).stroke = .toFloor → (loopP s ((activity s i).target % 32)).capSum ≤ (loopP s ((activity s i).target % 32)).floorSum →
    (loopCfg s ((activity s i).target % 32)).supplyValve < s.valve.ch.length →
    ∃ t, exec (.strokeValveClose i) s = .next t ∧ (activity t i).stroke = .supplyClosing ∧
      (activity t i).stepFrame = s.seq.frame ∧
      (vch t (loopCfg s ((activity s i).target % 32)).supplyValve).c1 =
        some (commandFor (valveCfg s (loopCfg s ((activity s i).target % 32)).supplyValve) false) ∧
      t = { s with maint := t.maint, valve := t.valve }) ∧
  (∀ (s : State) (i : Nat), (loopP s ((activity s i).target % 32)).floorSum < (loopP s ((activity s i).target % 32)).capSum →
    exec (.strokeValveClose i) s = .next s) ∧
  (∀ (s : State) (i : Nat) (v : Int), i < s.maint.activities.length → (activity s i).state = .running →
    (activity s i).code = 2 → (activity s i).stepFrame < s.seq.frame →
    (activity s i).stroke = .returnOpening → sensorValue s (loopCfg s ((activity s i).target % 32)).flow = some v →
    (activity s i).flowMean ≤ 2 * v →
    ∃ t, exec (.strokeFlowCheck i) s = .next t ∧ t = endActivity i .pass 0 s ∧ (activity t i).state = .pass ∧
      (activity t i).result = 2) ∧
  (∀ (s : State) (i : Nat) (v : Int), i < s.maint.activities.length → (activity s i).state = .running →
    (activity s i).code = 2 → (activity s i).stepFrame < s.seq.frame →
    (activity s i).stroke = .supplyOpening → sensorValue s (loopCfg s ((activity s i).target % 32)).flow = some v →
    (activity s i).flowMean ≤ 2 * v →
    ∃ t, exec (.strokeFlowCheck i) s = .next t ∧
      activity t i = { activity s i with stroke := .returnDue, stepFrame := s.seq.frame } ∧
      t = { s with maint := { s.maint with activities := t.maint.activities } }) ∧
  (∀ (s : State) (i : Nat) (v : Int), i < s.maint.activities.length → (activity s i).state = .running → (activity s i).code = 2 →
    (activity s i).stroke = .supplyOpening → sensorValue s (loopCfg s ((activity s i).target % 32)).flow = some v →
    2 * v < (activity s i).flowMean →
    ((activity s i).stepFrame + 100001 ≤ s.seq.frame →
      ∃ t, exec (.strokeFlowCheck i) s = .next t ∧ t = post 0xF014 (endActivity i .fail 0 s) i
          (loopCfg s ((activity s i).target % 32)).supplyValve
          [(loopCfg s ((activity s i).target % 32)).supplyValve, 2] ∧
        (activity t i).state = .fail ∧ (activity t i).result = 3) ∧
    (s.seq.frame < (activity s i).stepFrame + 100001 → exec (.strokeFlowCheck i) s = .next s)) ∧
  (∀ (s : State) (i : Nat), i < s.maint.activities.length → (activity s i).state = .running →
    (activity s i).code = 2 → (activity s i).stroke = .toFloor →
    (20000 ≤ s.seq.frame - (activity s i).startFrame →
      ∃ t, exec (.strokeFloorTimeout i) s = .next t ∧ t = endActivity i .aborted 0 s ∧
        (activity t i).state = .aborted ∧ (activity t i).result = 5) ∧
    (s.seq.frame - (activity s i).startFrame < 20000 → exec (.strokeFloorTimeout i) s = .next s)) ∧
  (∀ (s : State) (i : Nat), i < s.maint.activities.length → (activity s i).state = .running →
    (activity s i).code = 4 → (activity s i).samples.length = 10000 →
    ((activity s i).samples.sum ≤ 20000 * ((activity s i).target / 2 ^ 11 % 65536 : Nat) →
      ∃ t, exec (.drainFillEndPressure i) s = .next t ∧ t = endActivity i .complete 0 s ∧
        (activity t i).state = .complete ∧ (activity t i).result = 1) ∧
    (20000 * ((activity s i).target / 2 ^ 11 % 65536 : Nat) < (activity s i).samples.sum →
      exec (.drainFillEndPressure i) s = .next s)) ∧
  (∀ (s : State) (i x : Nat), i < s.maint.activities.length → (activity s i).state = .running → (activity s i).code = 3 →
    96 ≤ (activity s i).target % 256 → s.seq.frame - (activity s i).startFrame ≤ 20000 →
    ∃ t, exec (.selfTestResult i true x) s = .next t ∧ (activity t i).state = .pass ∧ (activity t i).result = 2 ∧
      (activity t i).detail = leBytes 2 x ∧ t = { s with maint := t.maint, log := t.log }) ∧
  (∀ (s : State) (i x : Nat), i < s.maint.activities.length → (activity s i).state = .running → (activity s i).code = 3 →
    ∃ t, exec (.selfTestResult i false x) s = .next t ∧ (activity t i).state = .fail ∧ (activity t i).result = 3 ∧
      t.log = logPost (logPost s.log (mkEvent s 0xF011 i 0xFFFF (leBytes 2 (activity s i).id)))
        (mkEvent s 0xF017 i ((activity s i).target % 256) [])) ∧
  (∀ (s : State) (i b : Nat) (v : Bool), i < s.maint.activities.length → (activity s i).state = .running →
    (activity s i).code = 8 →
    ∃ t, exec (.firmwareExchangeReport i v b) s = .next t ∧ (activity t i).state = (if v then .pass else .fail) ∧
      (activity t i).detail = leBytes 4 b ∧ t = { s with maint := t.maint, log := t.log }) ∧
  (∀ (s : State) (w : Nat), w < s.maint.windows.length → (s.maint.windows.getD w {}).isOpen = true →
    (s.maint.windows.getD w {}).openFrame + 864000000 ≤ s.seq.frame →
    ∃ t, exec (.maintWindowTimeout w) s = .next t ∧ (t.maint.windows.getD w {}).isOpen = false ∧
      t.log = logPost s.log (mkEvent s 0xF016 w 0xFFFF []) ∧ t = { s with maint := t.maint, log := t.log }) ∧
  (∀ (s : State) (w : Nat), s.seq.frame < (s.maint.windows.getD w {}).openFrame + 864000000 →
    exec (.maintWindowTimeout w) s = .next s)

/-- Ports and sessions (R536, R579 to R582, R586): a port that comes up asks for a lease, and takes a link-local address
after 10 s without one; a client with a good chain is admitted in the first free entry with the role of its unit; the
ninth is reset; a session closes when its port loses its link, on its client's word, after 60 s of silence or on a bad
header, and frees its entry. The numbers of the close causes are the model's (log entry 126). -/
def Obligations.PortsAndSessions : Prop :=
  (∀ (s : State) (p : Nat), p < 2 → p < s.mgmt.ports.length → coreRuns s = true → domainOn s (118 + p) = true →
    (ethPort s p).linkUp = false →
    ∃ t, exec (.ethLinkUp p) s = .next t ∧
      ethPort t p = { ethPort s p with linkUp := true, upNs := rowNs s, askNs := rowNs s } ∧
      t.sent = .dhcp p (dhcpClient p) :: s.sent ∧ t.log = logPost s.log (mkEvent s 0x0002 p 0xFFFF []) ∧
      t = { s with mgmt := t.mgmt, sent := t.sent, log := t.log }) ∧
  (∀ (s : State) (p : Nat), ((ethPort s p).linkUp = true ∨ domainOn s (118 + p) = false) →
    exec (.ethLinkUp p) s = .next s) ∧
  (∀ (s : State) (p : Nat), p < s.mgmt.ports.length → s.mgmt.sessions.length = 8 → (ethPort s p).linkUp = true →
    ∃ t, exec (.ethLinkDown p) s = .next t ∧ (ethPort t p).linkUp = false ∧ (ethPort t p).addressed = false ∧
      (∀ i, i < 8 → (session s i).port = p → (session s i).isOpen = true → session t i = {}) ∧
      (∀ i, i < 8 → (session s i).port ≠ p → session t i = session s i)) ∧
  (∀ (s : State) (p : Nat), (ethPort s p).linkUp = false → exec (.ethLinkDown p) s = .next s) ∧
  (∀ (s : State) (p a n : Nat), p < s.mgmt.ports.length → coreRuns s = true → (ethPort s p).linkUp = true →
    ∃ t, exec (.dhcpLease p a n) s = .next t ∧ (ethPort t p).ipv4 = a ∧ (ethPort t p).prefixLen = n ∧
      (ethPort t p).linkLocal = false ∧ ((ethPort s p).addressed = true ∨ (ethPort t p).addressed = true) ∧
      ((ethPort s p).addressed = true → (ethPort s p).ipv4 = a → t.log = s.log ∧ t.mgmt.sessions = s.mgmt.sessions)) ∧
  (∀ (s : State) (p a : Nat), p < s.mgmt.ports.length → coreRuns s = true → (ethPort s p).linkUp = true →
    (ethPort s p).addressed = false → (ethPort s p).upNs + 10000000000 ≤ rowNs s → linkLocalAddress a = true →
    ∃ t, exec (.linkLocalFallback p a) s = .next t ∧ (ethPort t p).ipv4 = a ∧ (ethPort t p).prefixLen = 16 ∧
      (ethPort t p).linkLocal = true ∧ (ethPort t p).addressed = true ∧ (ethPort t p).askNs = rowNs s) ∧
  (∀ (s : State) (p a : Nat), (ethPort s p).addressed = true → exec (.linkLocalFallback p a) s = .next s) ∧
  (∀ (s : State) (p : Nat), p < s.mgmt.ports.length → coreRuns s = true → (ethPort s p).linkUp = true →
    (ethPort s p).linkLocal = true → (ethPort s p).askNs + 60000000000 ≤ rowNs s →
    ∃ t, exec (.dhcpRetry p) s = .next t ∧ ethPort t p = { ethPort s p with askNs := rowNs s } ∧
      t.sent = .dhcp p (dhcpClient p) :: s.sent ∧ t = { s with mgmt := t.mgmt, sent := t.sent }) ∧
  (∀ (s : State) (p : Nat), rowNs s < (ethPort s p).askNs + 60000000000 → exec (.dhcpRetry p) s = .next s) ∧
  (∀ (s : State) (p n g : Nat), p < s.mgmt.ports.length →
    ∃ t, exec (.ethFloodDiscard p n g) s = .next t ∧
      (ethPort t p).floodDrops = satAdd 32 (ethPort s p).floodDrops (n - 20000) ∧
      (ethPort t p).taggedDrops = satAdd 32 (ethPort s p).taggedDrops g ∧ t = { s with mgmt := t.mgmt }) ∧
  (∀ (s : State) (f : ClientFacts) (i u : Nat) (r : SessRole), coreRuns s = true → (ethPort s f.port).linkUp = true →
    (ethPort s f.port).addressed = true → s.mgmt.sessions.findIdx? (fun x => !x.isOpen) = some i →
    s.sec.drbgOk = true → f.tlsOk = true → lifeCycle s = .enrolled → f.hasCert = true → f.certs ≤ 4 →
    f.chainBytes ≤ 8192 → f.rootHash = s.sec.fuses.ownerKeyHash → f.signaturesOk = true → wallValid s = true →
    f.inValidity = true → f.units = [u] → unitRole u = some r →
    ∃ t, exec (.tlsSessionOpen f) s = .next t ∧ (session t i).isOpen = true ∧ (session t i).role = r ∧
      (session t i).port = f.port ∧ (session t i).lastNs = rowNs s ∧ (session t i).subs = [] ∧
      (∀ k, k ≠ i → session t k = session s k) ∧ t.log = logPost s.log (mkEvent s 0x0010 i 0xFFFF [r.code]) ∧
      t = { s with mgmt := t.mgmt, log := t.log }) ∧
  (∀ (s : State) (f : ClientFacts), coreRuns s = true → (ethPort s f.port).linkUp = true →
    (ethPort s f.port).addressed = true → (∀ x ∈ s.mgmt.sessions, x.isOpen = true) →
    ∃ t, exec (.tlsSessionOpen f) s = .next t ∧ t.sent = .tcpReset false :: s.sent ∧
      t.mgmt = { s.mgmt with counters := upd s.mgmt.counters 0 cnt } ∧ t = { s with mgmt := t.mgmt, sent := t.sent, log := t.log }) ∧
  (∀ (s : State) (f : ClientFacts) (i : Nat), coreRuns s = true → (ethPort s f.port).linkUp = true →
    (ethPort s f.port).addressed = true → s.mgmt.sessions.findIdx? (fun x => !x.isOpen) = some i →
    s.sec.drbgOk = true → f.tlsOk = true → lifeCycle s = .enrolled → f.rootHash ≠ s.sec.fuses.ownerKeyHash →
    ∃ t, exec (.tlsSessionOpen f) s = .next t ∧ t.mgmt = s.mgmt ∧ t.sec.counters = upd s.sec.counters 0 cnt ∧
      t = { s with sec := t.sec, log := t.log }) ∧
  (∀ (s : State) (i : Nat), (session s i).isOpen = true → s.mgmt.update = none → s.sec.certParts = none →
    (session s i).lastNs + 60000000000 ≤ rowNs s →
    ∃ t, exec (.sessionIdleClose i) s = .next t ∧ session t i = {} ∧ (∀ k, k ≠ i → session t k = session s k) ∧
      t.log = logPost s.log (mkEvent s 0x0011 i 0xFFFF [1]) ∧ t = { s with mgmt := t.mgmt, log := t.log }) ∧
  (∀ (s : State) (i : Nat), rowNs s < (session s i).lastNs + 60000000000 → exec (.sessionIdleClose i) s = .next s) ∧
  (∀ (s : State) (i : Nat), (session s i).isOpen = true →
    ∃ t, exec (.sessionClose i) s = .next t ∧ session t i = {} ∧ (∀ k, k ≠ i → session t k = session s k) ∧
      t.log = logPost s.log (mkEvent s 0x0011 i 0xFFFF [2]) ∧
      (∀ u, s.mgmt.update = some u → u.session = i → t.mgmt.update = none) ∧
      (∀ u, s.mgmt.update = some u → u.session ≠ i → t.mgmt.update = some u)) ∧
  (∀ (s : State) (i : Nat), (session s i).isOpen = false → exec (.sessionClose i) s = .next s) ∧
  (∀ (s : State) (i m : Nat), coreRuns s = true → (session s i).isOpen = true → (session s i).outbox = [] →
    (∃ t, exec (.malformedMessage i m true) s = .next t ∧ session t i = {}) ∧
    (∃ t, exec (.malformedMessage i m false) s = .next t ∧ t.sent = .message i (errorMsg s m 0x80) :: s.sent ∧
      (session t i).isOpen = true ∧ t = { s with mgmt := t.mgmt, sent := t.sent })) ∧
  (∀ (s : State) (i : Nat), coreRuns s = true → (session s i).isOpen = true →
    2 ^ 30 ≤ (session s i).bytesIn ∨ 2 ^ 30 ≤ (session s i).bytesOut →
    ∃ t, exec (.tlsKeyUpdate i) s = .next t ∧ session t i = { session s i with bytesIn := 0, bytesOut := 0, keyNs := rowNs s } ∧
      t.sent = .keyUpdate i :: s.sent ∧ t = { s with mgmt := t.mgmt, sent := t.sent }) ∧
  (∀ (s : State) (i : Nat), (session s i).bytesIn < 2 ^ 30 → (session s i).bytesOut < 2 ^ 30 →
    rowNs s < (session s i).keyNs + 3600000000000 →
    exec (.tlsKeyUpdate i) s = .next s)

/-- The status window protocol (R12, R584, R585, R588 to R592): a READ of whole words is answered with the latched content,
a bad one with its error; a WRITE of a session's own fields acts at once, one of a shared field waits for the boundary
and needs a facility session; PING, SUBSCRIBE and NOTIFY. A WRITE to unassigned bytes changes nothing,
and one that covers a writable field in part is answered with ALIGN. -/
def Obligations.StatusWindowReadsAndWrites : Prop :=
  (∀ (s : State) (i m a n : Nat), coreRuns s = true → (session s i).isOpen = true → (session s i).outbox = [] → (session s i).role ≠ .none →
    lifeCycle s = .enrolled → 4 ≤ n → n ≤ 4096 → a % 4 = 0 → n % 4 = 0 → a + n ≤ 0x110000 →
    ∃ t d, exec (.read i m a n) s = .next t ∧ t.sent = .message i (message 0x81 0 m (readFrame s) d) :: s.sent ∧ d.length = n ∧
      (∀ k, k < n / 4 → (d.drop (4 * k)).take 4 = leBytes 4 (wordAt s (session s i).win (a + 4 * k))) ∧
      (session t i).messages = cnt (session s i).messages ∧ t = { s with mgmt := t.mgmt, sent := t.sent }) ∧
  (∀ (s : State) (w : Windows) (a : Nat), locateAt a = none → wordAt s w a = 0) ∧
  (∀ (s : State) (i m a n : Nat), coreRuns s = true → (session s i).isOpen = true → (session s i).outbox = [] →
    ∃ t e, exec (.read i m a n) s = .next t ∧
      ((n = 0 ∨ 4096 < n → e = 0x80) ∧ (0 < n → n ≤ 4096 → 0x110000 < a + n → e = 0x83) ∧
       (0 < n → n ≤ 4096 → a + n ≤ 0x110000 → a % 4 ≠ 0 ∨ n % 4 ≠ 0 → e = 0x84)) ∧
      (n = 0 ∨ 4096 < n ∨ 0x110000 < a + n ∨ a % 4 ≠ 0 ∨ n % 4 ≠ 0 → t.sent = .message i (errorMsg s m e) :: s.sent)) ∧
  (∀ (s : State) (i m a n : Nat), coreRuns s = true → (session s i).isOpen = true → (session s i).outbox = [] → (session s i).role = .none →
    4 ≤ n → n ≤ 4096 → a % 4 = 0 → n % 4 = 0 → 0x1000 ≤ a → a + n ≤ 0xE0000 →
    ∃ t, exec (.read i m a n) s = .next t ∧ t.sent = .message i (errorMsg s m 0x86) :: s.sent) ∧
  (∀ (s : State) (i m v : Nat), coreRuns s = true → (session s i).isOpen = true → (session s i).outbox = [] → (session s i).role ≠ .none →
    lifeCycle s = .enrolled →
    ∃ t, exec (.write i m 0x78000 (leBytes 4 v)) s = .next t ∧
      (session t i).win = { (session s i).win with twSource := v % 64, twPage := v / 65536 % 4096 } ∧
      t.sent = .message i (writeResp s m 1) :: s.sent ∧
      t = { s with mgmt := t.mgmt, sent := t.sent }) ∧
  (∀ (s : State) (i m : Nat) (d : List Nat), coreRuns s = true → (session s i).isOpen = true → (session s i).outbox = [] →
    (session s i).role = .observer → lifeCycle s = .enrolled → d.length = 20 →
    ∃ t, exec (.write i m 0x78100 d) s = .next t ∧ t.sent = .message i (errorMsg s m 0x86) :: s.sent ∧ t.mgmt.writes = s.mgmt.writes) ∧
  (∀ (s : State) (i m : Nat) (d : List Nat), coreRuns s = true → (session s i).isOpen = true → (session s i).outbox = [] →
    (session s i).role = .facility → lifeCycle s = .enrolled → d.length = 20 →
    ∃ t w, exec (.write i m 0x78100 d) s = .next t ∧ t.mgmt.writes = s.mgmt.writes ++ [w] ∧ w.session = i ∧
      w.msgId = m ∧ w.address = 0x78100 ∧ w.data = d ∧ w.late = s.mgmt.guardDone ∧ t.ctl = s.ctl ∧ t.sent = s.sent) ∧
  (∀ (s : State) (i m a n : Nat) (d : List Nat), (session s i).isOpen = false →
    exec (.read i m a n) s = .next s ∧ exec (.write i m a d) s = .next s ∧ exec (.ping i m) s = .next s ∧
    exec (.notify i) s = .next s ∧ (∀ b, exec (.subscribe i m a n b) s = .next s)) ∧
  (∀ (s : State) (i m : Nat), coreRuns s = true → (session s i).isOpen = true → (session s i).outbox = [] →
    ∃ t, exec (.ping i m) s = .next t ∧ t.sent = .message i (message 0x87 0 m (frameStamp s) []) :: s.sent ∧ (session t i).lastNs = rowNs s ∧
      t = { s with mgmt := t.mgmt, sent := t.sent }) ∧
  (∀ (s : State) (i m k x : Nat), coreRuns s = true → (session s i).isOpen = true → (session s i).outbox = [] → (session s i).role ≠ .none →
    1 ≤ k → k ≤ 4 → (session s i).subs.length < 32 →
    ∃ t, exec (.subscribe i m k x true) s = .next t ∧ t.sent = .message i (message 0x84 0 m (frameStamp s) []) :: s.sent ∧
      (k, if k ≤ 2 then 0 else x) ∈ (session t i).subs ∧ t = { s with mgmt := t.mgmt, sent := t.sent }) ∧
  (∀ (s : State) (i m k x : Nat), coreRuns s = true → (session s i).isOpen = true → (session s i).outbox = [] → (session s i).role ≠ .none →
    (k = 0 ∨ 4 < k) →
    ∃ t, exec (.subscribe i m k x true) s = .next t ∧ t.sent = .message i (errorMsg s m 3) :: s.sent ∧
      (session t i).subs = (session s i).subs) ∧
  (∀ (s : State) (i : Nat) (n : Note) (r : List Note), coreRuns s = true → (session s i).isOpen = true → (session s i).outbox = [] →
    (session s i).notes = n :: r →
    ∃ t, exec (.notify i) s = .next t ∧ t.sent = .message i (message 0x85 0 0 n.frame (leBytes 4 (session s i).dropped ++ n.data)) :: s.sent ∧
      (session t i).notes = r ∧ (session t i).dropped = 0) ∧
  (∀ (s : State) (i : Nat), (session s i).notes = [] → exec (.notify i) s = .next s) ∧
  (∀ (s : State) (i m : Nat) (d : List Nat), coreRuns s = true → (session s i).isOpen = true → (session s i).outbox = [] →
    (session s i).role = .facility → lifeCycle s = .enrolled → d.length = 4 →
    ∃ t, exec (.write i m 0x78100 d) s = .next t ∧ t.sent = .message i (errorMsg s m 0x84) :: s.sent ∧
      t.mgmt.writes = s.mgmt.writes) ∧
  (∀ (s : State) (i m : Nat), coreRuns s = true → (session s i).isOpen = true → (session s i).outbox ≠ [] →
    (session s i).outbox.length < 64 →
    ∃ t, exec (.ping i m) s = .next t ∧ t.sent = s.sent ∧ (session t i).outbox = (session s i).outbox ++
      [{ msgId := m, answer := some (.message i (message 0x87 0 m (frameStamp s) [])) }]) ∧
  (∀ (s : State) (i m : Nat), coreRuns s = true → (session s i).isOpen = true → 64 ≤ (session s i).outbox.length →
    ∃ t, exec (.ping i m) s = .next t ∧ t.sent = .message i (errorMsg s m 0x85) :: s.sent ∧
      (session t i).outbox = (session s i).outbox)

/-- The fieldbus servers (R605 to R610): registers are read in a block that splits no 32-bit point, and written only by an
allowed source; a write is judged as the facility request it stands for, and counted. BACnet numbers and the longest
counts are presumed (log entry 140); a connection is idle after 30 s. -/
def Obligations.FieldbusServersReadAndWrite : Prop :=
  (∀ (s : State) (c a n : Nat), modbusServed s c = true → 1 ≤ n → n ≤ 125 → a + n ≤ 5096 →
    lowHalf (inputPoint (latched s)) a = false → highHalf (inputPoint (latched s)) (a + n - 1) = false →
    ∃ t, exec (.modbusReadInput c a n) s = .next t ∧
      t.sent = .modbus c 4 (((List.range n).map (a + ·)).map (inputRegister (latched s))) :: s.sent ∧
      t.mgmt.modbus = upd s.mgmt.modbus c (fun _ => some (rowNs s)) ∧
      t = { s with mgmt := t.mgmt, sent := t.sent, free := s.free + 1 }) ∧
  (∀ (s : State) (c a n : Nat), modbusServed s c = true → 1 ≤ n → n ≤ 125 →
    (∀ k, a ≤ k → k < a + n → holdingMapped (latched s) k = true) →
    lowHalf (holdingPoint (latched s)) a = false → highHalf (holdingPoint (latched s)) (a + n - 1) = false →
    ∃ t, exec (.modbusReadHolding c a n) s = .next t ∧
      t.sent = .modbus c 3 (((List.range n).map (a + ·)).map (register (holdingPoint (latched s)))) :: s.sent) ∧
  (∀ (s : State) (c a n : Nat), modbusServed s c = true →
    ((n = 0 ∨ 125 < n) → ∃ t, exec (.modbusReadInput c a n) s = .next t ∧ t.sent = .modbus c 132 [3] :: s.sent) ∧
    (1 ≤ n → n ≤ 125 → 5096 < a + n →
      ∃ t, exec (.modbusReadInput c a n) s = .next t ∧ t.sent = .modbus c 132 [2] :: s.sent)) ∧
  (∀ (pt : Nat → Option Point) (a : Nat) (p : Point), pt a = some p → p.wide = true → pt (a + 1) = none →
    register pt a = toBits 32 p.reg / 65536 ∧ register pt (a + 1) = toBits 32 p.reg % 65536) ∧
  (∀ (s : State) (c src a v : Nat), modbusServed s c = true →
    (s.mgmt.fieldbus.modbusWrite = false ∨ allowed s.mgmt.fieldbus src = false) →
    ∃ t, exec (.modbusWriteSingle c src a v) s = .next t ∧ t.sent = .modbus c 134 [1] :: s.sent ∧
      t.mgmt.counters = upd s.mgmt.counters 2 cnt ∧ t.plan = s.plan ∧ t.mgmt.accepted = s.mgmt.accepted ∧
      t = { s with mgmt := t.mgmt, sent := t.sent, log := t.log }) ∧
  (∀ (s : State) (c src : Nat), modbusServed s c = true → s.mgmt.fieldbus.modbusWrite = true →
    allowed s.mgmt.fieldbus src = true → s.pow.plantControl = true → s.mgmt.guardDone = false → s.mgmt.taken < 256 → s.mgmt.waiting = [] →
    (session s 255).outbox = [] →
    ∃ t, exec (.modbusWriteSingle c src 1 1) s = .next t ∧ t.sent = .modbus c 6 [1, 1] :: s.sent ∧
      t.mgmt.counters = upd s.mgmt.counters 1 cnt ∧
      t.mgmt.accepted = s.mgmt.accepted ++ [⟨fieldbusHdr, .setSprayInhibit 1⟩] ∧
      t = { s with mgmt := t.mgmt, sent := t.sent }) ∧
  (∀ (s : State) (c src : Nat), modbusServed s c = true → s.mgmt.fieldbus.modbusWrite = true →
    allowed s.mgmt.fieldbus src = true → s.pow.plantControl = false → s.mgmt.guardDone = false → s.mgmt.taken < 256 → s.mgmt.waiting = [] →
    (session s 255).outbox = [] →
    ∃ t, exec (.modbusWriteSingle c src 1 1) s = .next t ∧ t.sent = .modbus c 134 [4] :: s.sent ∧
      t.mgmt.counters = upd s.mgmt.counters 2 cnt ∧ t.mgmt.accepted = s.mgmt.accepted) ∧
  (∀ (s : State) (c src hi lo : Nat), modbusServed s c = true → s.mgmt.fieldbus.modbusWrite = true →
    allowed s.mgmt.fieldbus src = true → s.pow.plantControl = true → s.mgmt.guardDone = false → s.mgmt.taken < 256 → s.mgmt.waiting = [] →
    (session s 255).outbox = [] →
    hi < 65536 → lo < 65536 → 1600 * (65536 * hi + lo) ≤ s.img.limits.rowCap →
    ∃ t, exec (.modbusWriteMultiple c src 3 [hi, lo]) s = .next t ∧ t.sent = .modbus c 16 [3, 2] :: s.sent ∧
      t.heat.limitRequests = s.heat.limitRequests ++
        [⟨(s.seq.frame / 100 + 1) * 100, none, 1600 * (65536 * hi + lo)⟩] ∧ t.mgmt.counters = upd s.mgmt.counters 1 cnt) ∧
  (∀ (s : State) (c src : Nat), modbusServed s c = true → s.mgmt.fieldbus.modbusWrite = true →
    allowed s.mgmt.fieldbus src = true → (s.mgmt.guardDone = true ∨ 256 ≤ s.mgmt.taken) →
    ∃ t, exec (.modbusWriteSingle c src 1 1) s = .next t ∧ t.sent = s.sent ∧
      t.mgmt.waiting = s.mgmt.waiting ++ [.points (.modbus c 6 [1, 1]) [(1, 1)]] ∧ t = { s with mgmt := t.mgmt }) ∧
  (∀ (s : State) (c src v : Nat), modbusServed s c = true → s.mgmt.fieldbus.modbusWrite = true →
    allowed s.mgmt.fieldbus src = true →
    ∃ t, exec (.modbusWriteMultiple c src 3 [v]) s = .next t ∧ t.sent = .modbus c 144 [2] :: s.sent ∧
      t.heat = s.heat) ∧
  (∀ (s : State) (c : Nat), coreRuns s = true → s.mgmt.fieldbus.modbusEn = true →
    s.mgmt.modbus.findIdx? (·.isNone) = some c →
    ∃ t, exec .modbusConnectionOpen s = .next t ∧ t.mgmt.modbus = upd s.mgmt.modbus c (fun _ => some (rowNs s)) ∧
      t = { s with mgmt := t.mgmt }) ∧
  (∀ s : State, coreRuns s = true → s.mgmt.fieldbus.modbusEn = true → (∀ x ∈ s.mgmt.modbus, x.isSome = true) →
    exec .modbusConnectionOpen s = .next { s with sent := .tcpReset true :: s.sent }) ∧
  (∀ (s : State) (c f : Nat), s.mgmt.modbus.getD c none = some f → f + 30000000000 ≤ rowNs s →
    ∃ t, exec (.modbusConnectionIdle c) s = .next t ∧ t.mgmt.modbus.getD c none = none ∧
      t = { s with mgmt := { s.mgmt with modbus := t.mgmt.modbus } }) ∧
  (∀ (s : State) (c f : Nat), s.mgmt.modbus.getD c none = some f → rowNs s < f + 30000000000 →
    exec (.modbusConnectionIdle c) s = .next s) ∧
  (∀ (s : State) (c a n : Nat), modbusServed s c = false →
    exec (.modbusReadInput c a n) s = .next s ∧ exec (.modbusReadHolding c a n) s = .next s ∧
    exec (.modbusWriteSingle c a n n) s = .next s ∧ exec (.modbusWriteMultiple c a n []) s = .next s) ∧
  (∀ (s : State), bacnetServed s = true →
    exec (.readProperty ⟨13, 0, 85⟩) s =
      .next { s with sent := .bacnet 12 0 [((latched s).pow.state.code : Int) + 1] :: s.sent } ∧
    exec (.readPropertyMultiple [⟨13, 0, 85⟩, ⟨5, 1, 85⟩]) s =
      .next { s with sent := .bacnet 14 0 [0, 1, ((latched s).pow.state.code : Int) + 1, 0, 1,
        (b2n (latched s).pump.sprayInhibit : Int)] :: s.sent }) ∧
  (∀ (s : State) (i p : Nat), bacnetServed s = true → 5096 ≤ i →
    exec (.readProperty ⟨0, i, p⟩) s = .next { s with sent := .bacnet 12 31 [] :: s.sent }) ∧
  (∀ (s : State) (src : Nat), bacnetServed s = true → s.mgmt.fieldbus.bacnetWrite = true →
    allowed s.mgmt.fieldbus src = true → s.pow.plantControl = true → s.mgmt.guardDone = false → s.mgmt.taken < 256 → s.mgmt.waiting = [] →
    (session s 255).outbox = [] →
    ∃ t, exec (.writeProperty src ⟨5, 1, 85⟩ (.nat 1)) s = .next t ∧ t.sent = .bacnet 15 0 [] :: s.sent ∧
      t.mgmt.accepted = s.mgmt.accepted ++ [⟨fieldbusHdr, .setSprayInhibit 1⟩] ∧
      t.mgmt.counters = upd s.mgmt.counters 3 cnt) ∧
  (∀ (s : State) (src : Nat) (x : BacProp) (v : BacValue), bacnetServed s = true →
    (s.mgmt.fieldbus.bacnetWrite = false ∨ allowed s.mgmt.fieldbus src = false) →
    ∃ t, exec (.writeProperty src x v) s = .next t ∧ t.sent = .bacnet 15 40 [] :: s.sent ∧
      t.mgmt.counters = upd s.mgmt.counters 4 cnt ∧ t = { s with mgmt := t.mgmt, sent := t.sent, log := t.log }) ∧
  (∀ s : State, bacnetServed s = true →
    exec (.whoIs none) s = .next { s with sent := .bacnet 0 0 [(s.mgmt.fieldbus.device : Int), 1476] :: s.sent } ∧
    (∀ lo hi, s.mgmt.fieldbus.device < lo → exec (.whoIs (some (lo, hi))) s = .next s) ∧
    (∀ lo hi, hi < s.mgmt.fieldbus.device → exec (.whoIs (some (lo, hi))) s = .next s)) ∧
  (∀ (s : State) (x : BacProp), bacnetServed s = false → exec (.readProperty x) s = .next s ∧
    exec (.readPropertyMultiple [x]) s = .next s ∧ exec (.whoIs none) s = .next s)

/-- The module's own cooling (R631, R632): the inlet limit is passed after 60 s above it and left after 60 s 1.0 K below it;
a fan below half its speed for more than 5 s is failed, tried again every 60 s and restored after 10 s at its speed; with
one fan failed the other runs at 100 %. -/
def Obligations.InletLimitAndInternalFans : Prop :=
  (∀ (s : State) (f : Nat), s.thermal.overSince = some f → f + 600000 ≤ s.seq.frame → s.thermal.inletOver = false →
    ∃ t, exec .inletOver s = .next t ∧ t.thermal = { s.thermal with inletOver := true, overRuns := cnt s.thermal.overRuns } ∧
      t.log = logPost s.log (mkEvent s 0x0030 0xFFFF 0xFFFF []) ∧ t = { s with thermal := t.thermal, log := t.log }) ∧
  (∀ s : State, (s.thermal.overSince = none ∨ s.thermal.inletOver = true) → exec .inletOver s = .next s) ∧
  (∀ (s : State) (f : Nat), s.thermal.underSince = some f → f + 600000 ≤ s.seq.frame → s.thermal.inletOver = true →
    ∃ t, exec .inletOverClear s = .next t ∧ t.thermal = { s.thermal with inletOver := false } ∧
      t.log = logPost s.log (mkEvent s 0x0031 0xFFFF 0xFFFF []) ∧ t = { s with thermal := t.thermal, log := t.log }) ∧
  (∀ s : State, (s.thermal.underSince = none ∨ s.thermal.inletOver = false) → exec .inletOverClear s = .next s) ∧
  (∀ (s : State) (i f : Nat), i < 2 → s.thermal.fans.length = 2 → (inFan s i).lowSince = some f → f + 50000 < s.seq.frame →
    (inFan s i).failed = false → (inFan s (1 - i)).failed = false →
    ∃ t, exec (.internalFanFailed i) s = .next t ∧
      inFan t i = { inFan s i with failed := true, retrying := false, lastRetry := s.seq.frame, goodSince := none } ∧
      inFan t (1 - i) = inFan s (1 - i) ∧ t.log = logPost s.log (mkEvent s 0x0032 i 0xFFFF []) ∧ fanCommand t = 10000 ∧
      t = { s with thermal := t.thermal, log := t.log }) ∧
  (∀ (s : State) (i f : Nat), i < 2 → s.thermal.fans.length = 2 → (inFan s i).lowSince = some f → f + 50000 < s.seq.frame →
    (inFan s i).failed = false → (inFan s (1 - i)).failed = true →
    ∃ t, exec (.internalFanFailed i) s = .next t ∧ bothFansFailed t = true ∧
      t.log = logPost (logPost s.log (mkEvent s 0x0032 i 0xFFFF [])) (mkEvent s 0x0034 0xFFFF 0xFFFF [])) ∧
  (∀ (s : State) (i f : Nat), (inFan s i).lowSince = some f → s.seq.frame ≤ f + 50000 →
    exec (.internalFanFailed i) s = .next s) ∧
  (∀ (s : State) (i : Nat), i < 2 → s.thermal.fans.length = 2 → (inFan s i).failed = true → (inFan s i).retrying = false →
    (inFan s i).lastRetry + 600000 ≤ s.seq.frame →
    ∃ t, exec (.internalFanRetry i) s = .next t ∧
      inFan t i = { inFan s i with retrying := true, lastRetry := s.seq.frame, goodSince := none } ∧
      t.thermal.fanRetries = cnt s.thermal.fanRetries ∧ t = { s with thermal := t.thermal }) ∧
  (∀ (s : State) (i : Nat), ((inFan s i).failed = false ∨ s.seq.frame < (inFan s i).lastRetry + 600000) →
    exec (.internalFanRetry i) s = .next s) ∧
  (∀ (s : State) (i f : Nat), i < 2 → s.thermal.fans.length = 2 → (inFan s i).goodSince = some f →
    (inFan s i).failed = true → f + 100000 ≤ s.seq.frame →
    ∃ t, exec (.internalFanRestored i) s = .next t ∧
      inFan t i = { inFan s i with failed := false, retrying := false, lowSince := none } ∧
      t.log = logPost s.log (mkEvent s 0x0033 i 0xFFFF []) ∧ t = { s with thermal := t.thermal, log := t.log }) ∧
  (∀ (s : State) (i : Nat), (inFan s i).failed = false → exec (.internalFanRestored i) s = .next s) ∧
  (∀ (draw : Nat) (lo hi : Int) (t : Option Int), 3000 ≤ fanDemand draw lo hi t ∧ fanDemand draw lo hi t ≤ 10000) ∧
  (∀ s : State, ((∀ x ∈ s.thermal.fans, x.failed = false) → inletLimit s = 55 * 64) ∧
    ((∃ x ∈ s.thermal.fans, x.failed = true) → inletLimit s = 45 * 64)) ∧
  (∀ (s : State) (f : Nat), s.thermal.overSince = some f → s.seq.frame < f + 600000 → exec .inletOver s = .next s) ∧
  (∀ (s : State) (f : Nat), s.thermal.underSince = some f → s.seq.frame < f + 600000 → exec .inletOverClear s = .next s) ∧
  (∀ (s : State) (r : Readings) (x : Int), r.inlet = some x →
    (inletLimit s < x → (sampleCooling r s).thermal.overSince = some (s.thermal.overSince.getD s.seq.frame)) ∧
    (x ≤ inletLimit s → (sampleCooling r s).thermal.overSince = none) ∧
    (x ≤ inletLimit s - 64 → (sampleCooling r s).thermal.underSince = some (s.thermal.underSince.getD s.seq.frame)) ∧
    (inletLimit s - 64 < x → (sampleCooling r s).thermal.underSince = none))

/-- The machine right after reset (R113, R116, R142, R148, R169, R298, R350, R503, R529, R559, R582, R605): unpowered and not READY, no plant
control and no role, no frame number and no valid wall time; every page RETIRED and every site without a tenant, every
tenant DISABLED, the plan without one in force; every loop OFF, no link session, every valve channel RELEASED, no session; a
log without records; no command waiting. The unpowered start and the values the spec leaves open are the model's choice
(log entries 1 and 3). -/
def Obligations.ResetState : Prop :=
  State.reset.pow.powerGood = false ∧ State.reset.pow.ready = false ∧ State.reset.pow.plantControl = false ∧
  State.reset.seq.frameValid = false ∧ State.reset.seq.state = .normal ∧ wallValid State.reset = false ∧
  State.reset.heat.pages.length = 32768 ∧ (∀ p ∈ State.reset.heat.pages, p.state = .retired ∧ p.pgen = 0) ∧
  State.reset.heat.sites.length = 2048 ∧ (∀ x ∈ State.reset.heat.sites, x.tenant = none) ∧
  State.reset.heat.tenants.length = 256 ∧ (∀ x ∈ State.reset.heat.tenants, x.state = .disabled ∧ x.gen = 0) ∧
  State.reset.plan.inForce = none ∧ State.reset.ctl.loops.length = 512 ∧
  (∀ x ∈ State.reset.ctl.loops, x.state = .off) ∧ State.reset.link.ports.length = 65 ∧
  (∀ x ∈ State.reset.link.ports, x.session = false) ∧ State.reset.pair.role = .none ∧
  State.reset.pair.term = 0 ∧ lifeCycle State.reset = .unenrolled ∧ State.reset.sec.releaseNonce = none ∧
  State.reset.sched.table.length = 512 ∧ (∀ e ∈ State.reset.sched.table, e.valid = false) ∧
  State.reset.valve.ch.length = 48 ∧ (∀ x ∈ State.reset.valve.ch, x.drive = .released) ∧
  State.reset.can.ch.length = 12 ∧ State.reset.leak.loops.length = 24 ∧ State.reset.leak.emergency = false ∧
  (∀ x ∈ State.reset.leak.loops, x.iso = .isOpen) ∧ State.reset.mgmt.sessions.length = 8 ∧
  (∀ x ∈ State.reset.mgmt.sessions, x.isOpen = false) ∧ State.reset.mgmt.fieldbus.modbusEn = false ∧
  State.reset.mgmt.fieldbus.bacnetEn = false ∧ State.reset.log.ring = [] ∧ State.reset.log.queue = [] ∧ State.reset.logBounded ∧
  State.reset.sent = [] ∧ State.reset.pending = []
end

