-- ==== Sys2Proof/Laws/Lists.lean ====
section
/-! SUPPORT. Lists by index: what `upd` does to an element, to the others and to the length. -/

namespace Sys2Proof.Machine

theorem getD_upd {α : Type} (l : List α) (i j : Nat) (f : α → α) (d : α) :
    (upd l i f).getD j d = if i = j ∧ j < l.length then f (l.getD j d) else l.getD j d := by
  simp only [upd, List.getD_eq_getElem?_getD, List.getElem?_modify]
  by_cases h : j < l.length
  · by_cases hij : i = j <;> simp [h, hij]
  · by_cases hij : i = j <;> simp [h, hij]

theorem getD_upd_self {α : Type} (l : List α) (i : Nat) (f : α → α) (d : α) (h : i < l.length) :
    (upd l i f).getD i d = f (l.getD i d) := by rw [getD_upd, if_pos ⟨rfl, h⟩]

theorem getD_upd_ne {α : Type} (l : List α) (i j : Nat) (f : α → α) (d : α) (h : i ≠ j) :
    (upd l i f).getD j d = l.getD j d := by rw [getD_upd, if_neg (fun x => h x.1)]

@[simp] theorem getElem?_upd_self {α : Type} (l : List α) (i : Nat) (f : α → α) : (upd l i f)[i]? = l[i]?.map f := by
  simp [upd]

@[simp] theorem getElem?_upd_ne {α : Type} (l : List α) (i j : Nat) (f : α → α) (h : i ≠ j) : (upd l i f)[j]? = l[j]? := by
  simp [upd, h]

@[simp] theorem getElem_upd_self {α : Type} (l : List α) (i : Nat) (f : α → α) (h : i < (upd l i f).length) :
    (upd l i f)[i] = f (l[i]'(by simpa [upd] using h)) := by simp [upd]

@[simp] theorem length_upd {α : Type} (l : List α) (i : Nat) (f : α → α) : (upd l i f).length = l.length := by
  simp [upd]

/-- Beyond the list's end an update changes nothing. -/
theorem upd_of_length_le {α : Type} (l : List α) (i : Nat) (f : α → α) (h : l.length ≤ i) : upd l i f = l := by
  simp only [upd]
  exact List.modify_eq_self h

/-- A fold that keeps a value at every step keeps it. -/
theorem foldl_keeps {α β γ : Type} (g : β → γ) (f : β → α → β) (h : ∀ b a, g (f b a) = g b) (l : List α) (b : β) :
    g (l.foldl f b) = g b := by
  induction l generalizing b with
  | nil => rfl
  | cons a t ih => rw [List.foldl_cons, ih, h]

end Sys2Proof.Machine
end

