-- ==== Sys2Proof/WellFormed.lean ====
section
/-! DEFINITION. Well-formed commands: an operand that numbers a part of the block numbers one that exists, and bytes are
bytes. A number that the manual itself judges (a request's argument, an address, an offset) is not restricted. -/

namespace Sys2Proof

/-- An Ethernet port (R579): 0 or 1. -/
def ethPortOk (p : Nat) : Bool := decide (p < 2)
/-- A Gwynlink port (R348): 0 to 63. -/
def linkPortOk (p : Nat) : Bool := decide (p < 64)
/-- A Gwynlink port, or the pair port as 64 (R348, R508). -/
def portOk (p : Nat) : Bool := decide (p < 65)
/-- A site (R3): 0 to 2047. -/
def siteOk (i : Nat) : Bool := decide (i < 2048)
/-- A tenant (R3): 0 to 255. -/
def tenantOk (t : Nat) : Bool := decide (t < 256)
/-- A rack loop (R3): 0 to 23. -/
def rackOk (l : Nat) : Bool := decide (l < 24)
/-- A control loop (R289): 0 to 511. -/
def ctlOk (i : Nat) : Bool := decide (i < 512)
/-- A trace probe (R310): 0 to 31. -/
def probeOk (i : Nat) : Bool := decide (i < 32)
/-- A pump (R381): 0 to 3. -/
def pumpOk (i : Nat) : Bool := decide (i < 4)
/-- A pump or a fan (R397): 0 to 3, 4 to 27. -/
def elementOk (i : Nat) : Bool := decide (i < 28)
/-- An actuator group (R388): pumps and three fan groups. -/
def groupOk (g : Nat) : Bool := decide (g < 4)
/-- An internal fan (R632). -/
def internalFanOk (f : Nat) : Bool := decide (f < 2)
/-- A calibration group (R125): 0 to 7. -/
def afeOk (g : Nat) : Bool := decide (g < 8)
/-- A rail (R117). -/
def railOk (r : Nat) : Bool := decide (r < 8)
/-- A switched power domain (R121): 0 to 125. -/
def domainOk (d : Nat) : Bool := decide (d < 126)
/-- An engine bank (R3): 0 to 63. -/
def engineBankOk (b : Nat) : Bool := decide (b < 64)

/-- A bank row of weights or exponents (R219): 0 to 3,839. -/
def weightRowOk (r : Nat) : Bool := decide (r < 3840)
/-- A graph slot (R214): 0 to 7. -/
def slotOk (g : Nat) : Bool := decide (g < 8)
/-- A valve bank (R410): 0 to 5. -/
def valveBankOk (b : Nat) : Bool := decide (b < 6)
/-- A valve channel (R410): 0 to 47. -/
def channelOk (c : Nat) : Bool := decide (c < 48)
/-- A leak input (R434): ropes 0 to 15, floats 16 to 23. -/
def leakInputOk (i : Nat) : Bool := decide (i < 24)
/-- A rope (R434): 0 to 15. -/
def ropeOk (r : Nat) : Bool := decide (r < 16)
/-- A CAN FD channel (R461): 0 to 11. -/
def canOk (c : Nat) : Bool := decide (c < 12)
/-- A send slot (R480): 0 to 15. -/
def sendSlotOk (k : Nat) : Bool := decide (k < 16)
/-- A high-priority buffer (R475): 0 to 7. -/
def hpOk (b : Nat) : Bool := decide (b < 8)
/-- A session (R582): 0 to 7. -/
def sessionOk (i : Nat) : Bool := decide (i < 8)
/-- A Modbus connection (R606): 0 to 3. -/
def connOk (c : Nat) : Bool := decide (c < 4)
/-- A maintenance window (R573): 0 to 7. -/
def windowOk (w : Nat) : Bool := decide (w < 8)
/-- An activity entry (R566): 0 to 3. -/
def activityOk (i : Nat) : Bool := decide (i < 4)

/-- Every element is a byte. -/
def bytesOk (l : List Nat) : Bool := l.all fun b => decide (b < 256)
/-- A packet's payload (R352): 8 to 4,096 bytes. -/
def payloadOk (l : List Nat) : Bool := bytesOk l && decide (8 ≤ l.length) && decide (l.length ≤ 4096)
/-- A packet's header of 8 bytes, whose LENGTH is that of the payload (R352). -/
def headOk (head : List Nat) (length : Nat) : Bool :=
  bytesOk head && decide (head.length = 8) && decide (head.getD 6 0 + 256 * head.getD 7 0 = length)
/-- Header and payload of a packet (R352). -/
def packetOk (head payload : List Nat) : Bool := payloadOk payload && headOk head payload.length
/-- The fields of a TEL header of 16 bytes, and its records (R357). -/
def telOk (head : List Nat) (interval missed mask : Nat) (records : List Nat) : Bool :=
  decide (interval < 2 ^ 48) && decide (missed < 2 ^ 16) && decide (mask < 2 ^ 32) && bytesOk records &&
    decide (records.length ≤ 4080) && headOk head (16 + records.length)

/-- The header of a request from one of the sessions (R537). -/
def hdrOk (h : ReqHdr) : Bool := sessionOk h.session

/-- The command is well formed. -/
def Instr.wf (i : Instr) : Bool := match i with
  | .frameBoundary => true
  | .ingestPhase _ => true
  | .computePhase _ => true
  | .emitPhase => true
  | .guardPhase => true
  | .clientOverrun _ => true
  | .shedRequest => true
  | .shedRestore => true
  | .safeHoldEnter => true
  | .safeHoldExit => true
  | .pllLossOfLock _ _ => true
  | .pllRelock _ _ => true
  | .crystalFailure => true
  | .syncReceived port _ _ _ _ _ => ethPortOk port
  | .timeEpochIncrement => true
  | .announceReceived _ => true
  | .announceReceiptTimeout => true
  | .ptpPortTakeover => true
  | .wallDegraded => true
  | .wallKeyConversion => true
  | .historyRecordExpiry => true
  | .scheduleSlotFree => true
  | .powerGoodAssert _ => true
  | .powerGoodDeassert => true
  | .railReady rail _ => railOk rail
  | .railReadyTimeout rail => railOk rail
  | .railLost rail => railOk rail
  | .upperFillComplete => true
  | .noImageKeyRetry _ => true
  | .otherCopyCheck => true
  | .rollbackAdvance => true
  | .keyLoss => true
  | .act24Absent => true
  | .act24Present => true
  | .domainCycleComplete domain _ => domainOk domain
  | .periodicCalibration group _ _ => afeOk group
  | .armingComplete _ => true
  | .takePlantControl => true
  | .backupDriveStart => true
  | .backupDriveRelease => true
  | .backupHeartbeatLoss => true
  | .crystalTry _ => true
  | .heldRelease => true
  | .resetNAssert => true
  | .coreWatchdog => true
  | .warmReset _ => true
  | .deadManEngage => true
  | .silenceFallback site => siteOk site
  | .quarantineTimerExpiry tenant => tenantOk tenant
  | .lowerMax hdr _ => hdrOk hdr
  | .releasePages hdr _ => hdrOk hdr
  | .setSplit hdr _ _ _ _ => hdrOk hdr
  | .bindSite hdr _ => hdrOk hdr
  | .unbindSite hdr _ => hdrOk hdr
  | .setQuota hdr _ _ => hdrOk hdr
  | .releaseTenant hdr => hdrOk hdr
  | .admitTenant hdr => hdrOk hdr
  | .planEpochBoundary => true
  | .pumpOverspeedLimit index => pumpOk index
  | .overspeedRestEnd index => pumpOk index
  | .singleBitError _ => true
  | .weightDoubleBitError place => engineBankOk place.bank && weightRowOk place.row
  | .weightReloadComplete bank _ => engineBankOk bank
  | .scratchDoubleBitError slot _ _ => slotOk slot
  | .precisionRun hdr _ => hdrOk hdr
  | .precisionRunComplete _ => true
  | .loopResume index => ctlOk index
  | .probeArm index => probeOk index
  | .probeAbort index => probeOk index
  | .probeDone index => probeOk index
  | .setLoopSp hdr _ _ => hdrOk hdr
  | .noReference site => siteOk site
  | .ditherWindowStart site => siteOk site
  | .ditherWindowEnd site => siteOk site
  | .thermalTrip loop => rackOk loop
  | .thermalTripRelease loop => rackOk loop
  | .telReceived port head interval missed mask records _ => linkPortOk port && telOk head interval missed mask records
  | .capViolationRelease link => linkPortOk link
  | .telDeadline port => linkPortOk port
  | .siteUnresponsive site => siteOk site
  | .siteResponsive site => siteOk site
  | .packetError port _ _ => portOk port
  | .reliablePacketReceived port head payload _ => portOk port && packetOk head payload
  | .ackReceived port head payload => portOk port && packetOk head payload
  | .nakReceived port head payload => portOk port && packetOk head payload
  | .replayTimeout port => portOk port
  | .pingSend port => portOk port
  | .pongReceived port head payload _ => portOk port && packetOk head payload
  | .transactionResponse port _ _ _ => portOk port
  | .transactionTimeout port _ => portOk port
  | .evtReceived port payload => linkPortOk port && payloadOk payload
  | .trainingComplete port _ _ => portOk port
  | .trainingAttemptFail port => portOk port
  | .attestationTimeout port => portOk port
  | .attestationRetry port => linkPortOk port
  | .authFailure port => portOk port
  | .rekeyStart port => portOk port
  | .keyUpdateAck port => portOk port
  | .rekeyTimeout port => portOk port
  | .linkLost port _ => portOk port
  | .portQuarantineEnd port => portOk port
  | .marginMeasure port _ _ => portOk port
  | .pumpStatusReceived index bytes => pumpOk index && bytesOk bytes
  | .pumpStatusStale index => pumpOk index
  | .elementStall element => elementOk element
  | .groupFullSpeedEnd group => groupOk group
  | .elementRetryEnd element => elementOk element
  | .retryCountReset element => elementOk element
  | .clearElement hdr _ _ => hdrOk hdr
  | .setSprayInhibit hdr _ => hdrOk hdr
  | .vigilHold => true
  | .sprayCycle => true
  | .waterDayRollover => true
  | .energisingEdge channel => channelOk channel
  | .peakEnd channel => channelOk channel
  | .valveRelease channel => channelOk channel
  | .dipDetected channel _ _ => channelOk channel
  | .missingDip channel => channelOk channel
  | .coilShort channel => channelOk channel
  | .openCoilEnergised channel => channelOk channel
  | .openCoilReleased channel _ => channelOk channel
  | .switchFailedOn channel _ => channelOk channel
  | .bankOvercurrent bank _ => valveBankOk bank
  | .groundFault bank _ _ => valveBankOk bank
  | .bankTripRecovery bank => valveBankOk bank
  | .driverHot bank _ => valveBankOk bank
  | .driverCool bank _ => valveBankOk bank
  | .dutyLimit channel _ => channelOk channel
  | .valveRequestRefused channel => channelOk channel
  | .setValve hdr _ _ => hdrOk hdr
  | .clearValve hdr _ _ => hdrOk hdr
  | .leakInputState input _ _ => leakInputOk input
  | .ropeLocation rope _ => ropeOk rope
  | .massBalanceHoldoffEnd loop => rackOk loop
  | .pressureDecayEval loop => rackOk loop
  | .classifierConfirm loop => rackOk loop
  | .isolationCheckTimeout loop => rackOk loop
  | .notHoldingRecheck loop => rackOk loop
  | .releaseLoop hdr _ => hdrOk hdr
  | .manyLoopsEnd => true
  | .rowStop hdr => hdrOk hdr
  | .releaseRow hdr => hdrOk hdr
  | .releaseFloor hdr _ => hdrOk hdr
  | .ringOpenExternal => true
  | .ringClosedExternal => true
  | .busOff channel => canOk channel
  | .busOffRecovery channel => canOk channel
  | .busOffStormEnd channel => canOk channel
  | .errorPassive channel _ _ _ => canOk channel
  | .errorActive channel _ _ => canOk channel
  | .cellTransmit channel _ _ => canOk channel
  | .canFrameReceived channel _ _ => canOk channel
  | .valveStatusReceived _ _ _ _ _ => true
  | .valveStatusStale _ => true
  | .canSend hdr _ _ => hdrOk hdr
  | .canCancel hdr _ _ => hdrOk hdr
  | .hostMessageExpire channel slot => canOk channel && sendSlotOk slot
  | .sendSlotFree channel slot => canOk channel && sendSlotOk slot
  | .mqTailWrite channel _ => canOk channel
  | .mqOverflowClear channel => canOk channel
  | .newClear channel buffer => canOk channel && hpOk buffer
  | .claimRound _ => true
  | .claimRefreshTimeout => true
  | .claimWireStuck _ => true
  | .strapConflict => true
  | .healthSend => true
  | .healthReceived payload => payloadOk payload
  | .partnerSilent => true
  | .markReceived payload => payloadOk payload
  | .ckptReceived _ _ _ => true
  | .checkpointStale => true
  | .takeoverBid _ => true
  | .restoreComplete => true
  | .swapRequestRaise _ => true
  | .swapReqReceived => true
  | .handoverReceived _ => true
  | .primedReceived => true
  | .refusedReceived => true
  | .handoverTimeout => true
  | .pairSwap hdr => hdrOk hdr
  | .pairHold hdr _ => hdrOk hdr
  | .partnerAttestRetry => true
  | .drbgHealthFailure => true
  | .drbgResume => true
  | .ownerEnrol hdr _ => hdrOk hdr
  | .enrolReboot => true
  | .setDeviceCert hdr _ _ bytes _ => hdrOk hdr && bytesOk bytes
  | .getReleaseNonce hdr => hdrOk hdr
  | .releaseNonceExpiry => true
  | .ownerRelease hdr _ _ _ => hdrOk hdr
  | .getVersion session => sessionOk session
  | .getCapabilities session => sessionOk session
  | .negotiateAlgorithms session _ _ => sessionOk session
  | .getDigests session => sessionOk session
  | .getCertificate session _ _ _ => sessionOk session
  | .challenge session _ _ => sessionOk session
  | .getMeasurements session _ _ _ => sessionOk session
  | .tlsSessionOpen _ => true
  | .sessionIdleClose session => sessionOk session
  | .sessionLockoutEnd session => sessionOk session
  | .telemetryBlockSeal => true
  | .blockNotSealed => true
  | .logWrite _ => true
  | .maintStart hdr _ _ _ _ => hdrOk hdr
  | .maintStop hdr _ => hdrOk hdr
  | .activityEnd index => activityOk index
  | .activityEntryFree index => activityOk index
  | .strokeValveClose index => activityOk index
  | .strokeFlowCheck index => activityOk index
  | .strokeFloorTimeout index => activityOk index
  | .drainFillEndPressure index => activityOk index
  | .selfTestResult index _ _ => activityOk index
  | .firmwareExchangeReport index _ _ => activityOk index
  | .maintWindowTimeout window => windowOk window
  | .ethLinkUp port => ethPortOk port
  | .ethLinkDown port => ethPortOk port
  | .dhcpLease port _ _ => ethPortOk port
  | .linkLocalFallback port _ => ethPortOk port
  | .dhcpRetry port => ethPortOk port
  | .ethFloodDiscard port _ _ => ethPortOk port
  | .read session _ _ _ => sessionOk session
  | .write session _ _ data => sessionOk session && bytesOk data
  | .subscribe session _ _ _ _ => sessionOk session
  | .ping session _ => sessionOk session
  | .notify session => sessionOk session
  | .setMode hdr _ => hdrOk hdr
  | .setLimit hdr _ _ _ => hdrOk hdr
  | .schedCommit hdr _ => hdrOk hdr
  | .maintReleaseHeld hdr => hdrOk hdr
  | .imageBegin hdr _ => hdrOk hdr
  | .imageEraseComplete => true
  | .imageWrite hdr _ _ => hdrOk hdr
  | .imageEnd hdr _ => hdrOk hdr
  | .imageUpdateTimeout => true
  | .mgmtReset hdr _ => hdrOk hdr
  | .setFieldbus hdr _ _ => hdrOk hdr
  | .modbusReadHolding conn _ _ => connOk conn
  | .modbusReadInput conn _ _ => connOk conn
  | .modbusWriteSingle conn _ _ _ => connOk conn
  | .modbusWriteMultiple conn _ _ _ => connOk conn
  | .modbusConnectionIdle conn => connOk conn
  | .readProperty _ => true
  | .readPropertyMultiple _ => true
  | .writeProperty _ _ _ => true
  | .whoIs _ => true
  | .inputOvervoltage => true
  | .inletOver => true
  | .inletOverClear => true
  | .internalFanFailed fan => internalFanOk fan
  | .internalFanRetry fan => internalFanOk fan
  | .internalFanRestored fan => internalFanOk fan
  | .socThermalTrip => true
  | .delayRespReceived head _ _ => ethPortOk head.port
  | .ptpMessageIgnored => true
  | .releasingComplete channel _ => channelOk channel
  | .rowSensorCauseEnd => true
  | .announcementExpiry => true
  | .finalCheckpointLoaded => true
  | .standbySelfTest _ _ _ => true
  | .tlsKeyUpdate session => sessionOk session
  | .sessionClose session => sessionOk session
  | .malformedMessage session _ _ => sessionOk session
  | .spdmUnsupportedRequest session => sessionOk session
  | .enrolNChange _ => true
  | .modbusConnectionOpen => true

end Sys2Proof
end

