-- ==== Sys2Proof/Laws/PerInstr.lean ====
section
/-! SUPPORT. The family Shape: every number by which a command names a part of the block lies below the count of those
parts when the command is well formed. One lemma per constructor. -/

namespace Sys2Proof.Laws.Shape

/-- The parts that a command names: each number beside the count of such parts. -/
def parts (i : Instr) : List (Nat × Nat) := match i with
  | .frameBoundary => []
  | .ingestPhase _ => []
  | .computePhase _ => []
  | .emitPhase => []
  | .guardPhase => []
  | .clientOverrun _ => []
  | .shedRequest => []
  | .shedRestore => []
  | .safeHoldEnter => []
  | .safeHoldExit => []
  | .pllLossOfLock _ _ => []
  | .pllRelock _ _ => []
  | .crystalFailure => []
  | .syncReceived port _ _ _ _ _ => [(port, 2)]
  | .timeEpochIncrement => []
  | .announceReceived _ => []
  | .announceReceiptTimeout => []
  | .ptpPortTakeover => []
  | .wallDegraded => []
  | .wallKeyConversion => []
  | .historyRecordExpiry => []
  | .scheduleSlotFree => []
  | .powerGoodAssert _ => []
  | .powerGoodDeassert => []
  | .railReady rail _ => [(rail, 8)]
  | .railReadyTimeout rail => [(rail, 8)]
  | .railLost rail => [(rail, 8)]
  | .upperFillComplete => []
  | .noImageKeyRetry _ => []
  | .otherCopyCheck => []
  | .rollbackAdvance => []
  | .keyLoss => []
  | .act24Absent => []
  | .act24Present => []
  | .domainCycleComplete domain _ => [(domain, 126)]
  | .periodicCalibration group _ _ => [(group, 8)]
  | .armingComplete _ => []
  | .takePlantControl => []
  | .backupDriveStart => []
  | .backupDriveRelease => []
  | .backupHeartbeatLoss => []
  | .crystalTry _ => []
  | .heldRelease => []
  | .resetNAssert => []
  | .coreWatchdog => []
  | .warmReset _ => []
  | .deadManEngage => []
  | .silenceFallback site => [(site, 2048)]
  | .quarantineTimerExpiry tenant => [(tenant, 256)]
  | .lowerMax hdr _ => [(hdr.session, 8)]
  | .releasePages hdr _ => [(hdr.session, 8)]
  | .setSplit hdr _ _ _ _ => [(hdr.session, 8)]
  | .bindSite hdr _ => [(hdr.session, 8)]
  | .unbindSite hdr _ => [(hdr.session, 8)]
  | .setQuota hdr _ _ => [(hdr.session, 8)]
  | .releaseTenant hdr => [(hdr.session, 8)]
  | .admitTenant hdr => [(hdr.session, 8)]
  | .planEpochBoundary => []
  | .pumpOverspeedLimit index => [(index, 4)]
  | .overspeedRestEnd index => [(index, 4)]
  | .singleBitError _ => []
  | .weightDoubleBitError place => [(place.bank, 64), (place.row, 3840)]
  | .weightReloadComplete bank _ => [(bank, 64)]
  | .scratchDoubleBitError slot _ _ => [(slot, 8)]
  | .precisionRun hdr _ => [(hdr.session, 8)]
  | .precisionRunComplete _ => []
  | .loopResume index => [(index, 512)]
  | .probeArm index => [(index, 32)]
  | .probeAbort index => [(index, 32)]
  | .probeDone index => [(index, 32)]
  | .setLoopSp hdr _ _ => [(hdr.session, 8)]
  | .noReference site => [(site, 2048)]
  | .ditherWindowStart site => [(site, 2048)]
  | .ditherWindowEnd site => [(site, 2048)]
  | .thermalTrip loop => [(loop, 24)]
  | .thermalTripRelease loop => [(loop, 24)]
  | .telReceived port _ _ _ _ _ _ => [(port, 64)]
  | .capViolationRelease link => [(link, 64)]
  | .telDeadline port => [(port, 64)]
  | .siteUnresponsive site => [(site, 2048)]
  | .siteResponsive site => [(site, 2048)]
  | .packetError port _ _ => [(port, 65)]
  | .reliablePacketReceived port _ _ _ => [(port, 65)]
  | .ackReceived port _ _ => [(port, 65)]
  | .nakReceived port _ _ => [(port, 65)]
  | .replayTimeout port => [(port, 65)]
  | .pingSend port => [(port, 65)]
  | .pongReceived port _ _ _ => [(port, 65)]
  | .transactionResponse port _ _ _ => [(port, 65)]
  | .transactionTimeout port _ => [(port, 65)]
  | .evtReceived port _ => [(port, 64)]
  | .trainingComplete port _ _ => [(port, 65)]
  | .trainingAttemptFail port => [(port, 65)]
  | .attestationTimeout port => [(port, 65)]
  | .attestationRetry port => [(port, 64)]
  | .authFailure port => [(port, 65)]
  | .rekeyStart port => [(port, 65)]
  | .keyUpdateAck port => [(port, 65)]
  | .rekeyTimeout port => [(port, 65)]
  | .linkLost port _ => [(port, 65)]
  | .portQuarantineEnd port => [(port, 65)]
  | .marginMeasure port _ _ => [(port, 65)]
  | .pumpStatusReceived index _ => [(index, 4)]
  | .pumpStatusStale index => [(index, 4)]
  | .elementStall element => [(element, 28)]
  | .groupFullSpeedEnd group => [(group, 4)]
  | .elementRetryEnd element => [(element, 28)]
  | .retryCountReset element => [(element, 28)]
  | .clearElement hdr _ _ => [(hdr.session, 8)]
  | .setSprayInhibit hdr _ => [(hdr.session, 8)]
  | .vigilHold => []
  | .sprayCycle => []
  | .waterDayRollover => []
  | .energisingEdge channel => [(channel, 48)]
  | .peakEnd channel => [(channel, 48)]
  | .valveRelease channel => [(channel, 48)]
  | .dipDetected channel _ _ => [(channel, 48)]
  | .missingDip channel => [(channel, 48)]
  | .coilShort channel => [(channel, 48)]
  | .openCoilEnergised channel => [(channel, 48)]
  | .openCoilReleased channel _ => [(channel, 48)]
  | .switchFailedOn channel _ => [(channel, 48)]
  | .bankOvercurrent bank _ => [(bank, 6)]
  | .groundFault bank _ _ => [(bank, 6)]
  | .bankTripRecovery bank => [(bank, 6)]
  | .driverHot bank _ => [(bank, 6)]
  | .driverCool bank _ => [(bank, 6)]
  | .dutyLimit channel _ => [(channel, 48)]
  | .valveRequestRefused channel => [(channel, 48)]
  | .setValve hdr _ _ => [(hdr.session, 8)]
  | .clearValve hdr _ _ => [(hdr.session, 8)]
  | .leakInputState input _ _ => [(input, 24)]
  | .ropeLocation rope _ => [(rope, 16)]
  | .massBalanceHoldoffEnd loop => [(loop, 24)]
  | .pressureDecayEval loop => [(loop, 24)]
  | .classifierConfirm loop => [(loop, 24)]
  | .isolationCheckTimeout loop => [(loop, 24)]
  | .notHoldingRecheck loop => [(loop, 24)]
  | .releaseLoop hdr _ => [(hdr.session, 8)]
  | .manyLoopsEnd => []
  | .rowStop hdr => [(hdr.session, 8)]
  | .releaseRow hdr => [(hdr.session, 8)]
  | .releaseFloor hdr _ => [(hdr.session, 8)]
  | .ringOpenExternal => []
  | .ringClosedExternal => []
  | .busOff channel => [(channel, 12)]
  | .busOffRecovery channel => [(channel, 12)]
  | .busOffStormEnd channel => [(channel, 12)]
  | .errorPassive channel _ _ _ => [(channel, 12)]
  | .errorActive channel _ _ => [(channel, 12)]
  | .cellTransmit channel _ _ => [(channel, 12)]
  | .canFrameReceived channel _ _ => [(channel, 12)]
  | .valveStatusReceived _ _ _ _ _ => []
  | .valveStatusStale _ => []
  | .canSend hdr _ _ => [(hdr.session, 8)]
  | .canCancel hdr _ _ => [(hdr.session, 8)]
  | .hostMessageExpire channel slot => [(channel, 12), (slot, 16)]
  | .sendSlotFree channel slot => [(channel, 12), (slot, 16)]
  | .mqTailWrite channel _ => [(channel, 12)]
  | .mqOverflowClear channel => [(channel, 12)]
  | .newClear channel buffer => [(channel, 12), (buffer, 8)]
  | .claimRound _ => []
  | .claimRefreshTimeout => []
  | .claimWireStuck _ => []
  | .strapConflict => []
  | .healthSend => []
  | .healthReceived _ => []
  | .partnerSilent => []
  | .markReceived _ => []
  | .ckptReceived _ _ _ => []
  | .checkpointStale => []
  | .takeoverBid _ => []
  | .restoreComplete => []
  | .swapRequestRaise _ => []
  | .swapReqReceived => []
  | .handoverReceived _ => []
  | .primedReceived => []
  | .refusedReceived => []
  | .handoverTimeout => []
  | .pairSwap hdr => [(hdr.session, 8)]
  | .pairHold hdr _ => [(hdr.session, 8)]
  | .partnerAttestRetry => []
  | .drbgHealthFailure => []
  | .drbgResume => []
  | .ownerEnrol hdr _ => [(hdr.session, 8)]
  | .enrolReboot => []
  | .setDeviceCert hdr _ _ _ _ => [(hdr.session, 8)]
  | .getReleaseNonce hdr => [(hdr.session, 8)]
  | .releaseNonceExpiry => []
  | .ownerRelease hdr _ _ _ => [(hdr.session, 8)]
  | .getVersion session => [(session, 8)]
  | .getCapabilities session => [(session, 8)]
  | .negotiateAlgorithms session _ _ => [(session, 8)]
  | .getDigests session => [(session, 8)]
  | .getCertificate session _ _ _ => [(session, 8)]
  | .challenge session _ _ => [(session, 8)]
  | .getMeasurements session _ _ _ => [(session, 8)]
  | .tlsSessionOpen _ => []
  | .sessionIdleClose session => [(session, 8)]
  | .sessionLockoutEnd session => [(session, 8)]
  | .telemetryBlockSeal => []
  | .blockNotSealed => []
  | .logWrite _ => []
  | .maintStart hdr _ _ _ _ => [(hdr.session, 8)]
  | .maintStop hdr _ => [(hdr.session, 8)]
  | .activityEnd index => [(index, 4)]
  | .activityEntryFree index => [(index, 4)]
  | .strokeValveClose index => [(index, 4)]
  | .strokeFlowCheck index => [(index, 4)]
  | .strokeFloorTimeout index => [(index, 4)]
  | .drainFillEndPressure index => [(index, 4)]
  | .selfTestResult index _ _ => [(index, 4)]
  | .firmwareExchangeReport index _ _ => [(index, 4)]
  | .maintWindowTimeout window => [(window, 8)]
  | .ethLinkUp port => [(port, 2)]
  | .ethLinkDown port => [(port, 2)]
  | .dhcpLease port _ _ => [(port, 2)]
  | .linkLocalFallback port _ => [(port, 2)]
  | .dhcpRetry port => [(port, 2)]
  | .ethFloodDiscard port _ _ => [(port, 2)]
  | .read session _ _ _ => [(session, 8)]
  | .write session _ _ _ => [(session, 8)]
  | .subscribe session _ _ _ _ => [(session, 8)]
  | .ping session _ => [(session, 8)]
  | .notify session => [(session, 8)]
  | .setMode hdr _ => [(hdr.session, 8)]
  | .setLimit hdr _ _ _ => [(hdr.session, 8)]
  | .schedCommit hdr _ => [(hdr.session, 8)]
  | .maintReleaseHeld hdr => [(hdr.session, 8)]
  | .imageBegin hdr _ => [(hdr.session, 8)]
  | .imageEraseComplete => []
  | .imageWrite hdr _ _ => [(hdr.session, 8)]
  | .imageEnd hdr _ => [(hdr.session, 8)]
  | .imageUpdateTimeout => []
  | .mgmtReset hdr _ => [(hdr.session, 8)]
  | .setFieldbus hdr _ _ => [(hdr.session, 8)]
  | .modbusReadHolding conn _ _ => [(conn, 4)]
  | .modbusReadInput conn _ _ => [(conn, 4)]
  | .modbusWriteSingle conn _ _ _ => [(conn, 4)]
  | .modbusWriteMultiple conn _ _ _ => [(conn, 4)]
  | .modbusConnectionIdle conn => [(conn, 4)]
  | .readProperty _ => []
  | .readPropertyMultiple _ => []
  | .writeProperty _ _ _ => []
  | .whoIs _ => []
  | .inputOvervoltage => []
  | .inletOver => []
  | .inletOverClear => []
  | .internalFanFailed fan => [(fan, 2)]
  | .internalFanRetry fan => [(fan, 2)]
  | .internalFanRestored fan => [(fan, 2)]
  | .socThermalTrip => []
  | .delayRespReceived head _ _ => [(head.port, 2)]
  | .ptpMessageIgnored => []
  | .releasingComplete channel _ => [(channel, 48)]
  | .rowSensorCauseEnd => []
  | .announcementExpiry => []
  | .finalCheckpointLoaded => []
  | .standbySelfTest _ _ _ => []
  | .tlsKeyUpdate session => [(session, 8)]
  | .sessionClose session => [(session, 8)]
  | .malformedMessage session _ _ => [(session, 8)]
  | .spdmUnsupportedRequest session => [(session, 8)]
  | .enrolNChange _ => []
  | .modbusConnectionOpen => []

/-- A well-formed command names parts that exist. -/
def Statement (i : Instr) : Prop := i.wf = true → ∀ x ∈ parts i, x.1 < x.2

theorem noPart : ∀ x ∈ ([] : List (Nat × Nat)), x.1 < x.2 := by simp

theorem onePart {a n : Nat} (h : decide (a < n) = true) : ∀ x ∈ [(a, n)], x.1 < x.2 := by simpa using h

theorem oneAnd {a n : Nat} {b : Bool} (h : (decide (a < n) && b) = true) : ∀ x ∈ [(a, n)], x.1 < x.2 := by
  simp only [Bool.and_eq_true] at h
  exact onePart h.1

theorem twoParts {a n b m : Nat} (h : (decide (a < n) && decide (b < m)) = true) :
    ∀ x ∈ [(a, n), (b, m)], x.1 < x.2 := by
  simpa using h

theorem frameBoundary : Statement (.frameBoundary) :=
  fun _ => noPart

theorem ingestPhase (readings : Readings) : Statement (.ingestPhase readings) :=
  fun _ => noPart

theorem computePhase (stalls : List Nat) : Statement (.computePhase stalls) :=
  fun _ => noPart

theorem emitPhase : Statement (.emitPhase) :=
  fun _ => noPart

theorem guardPhase : Statement (.guardPhase) :=
  fun _ => noPart

theorem clientOverrun (client : Client) : Statement (.clientOverrun client) :=
  fun _ => noPart

theorem shedRequest : Statement (.shedRequest) :=
  fun _ => noPart

theorem shedRestore : Statement (.shedRestore) :=
  fun _ => noPart

theorem safeHoldEnter : Statement (.safeHoldEnter) :=
  fun _ => noPart

theorem safeHoldExit : Statement (.safeHoldExit) :=
  fun _ => noPart

theorem pllLossOfLock (pll : Pll) (fast : Bool) : Statement (.pllLossOfLock pll fast) :=
  fun _ => noPart

theorem pllRelock (pll : Pll) (fast : Bool) : Statement (.pllRelock pll fast) :=
  fun _ => noPart

theorem crystalFailure : Statement (.crystalFailure) :=
  fun _ => noPart

theorem syncReceived (port : Nat) (sender : PtpSender) (origin correction rxRow logInterval : Int) : Statement (.syncReceived port sender origin correction rxRow logInterval) :=
  fun h => onePart h

theorem timeEpochIncrement : Statement (.timeEpochIncrement) :=
  fun _ => noPart

theorem announceReceived (a : Announce) : Statement (.announceReceived a) :=
  fun _ => noPart

theorem announceReceiptTimeout : Statement (.announceReceiptTimeout) :=
  fun _ => noPart

theorem ptpPortTakeover : Statement (.ptpPortTakeover) :=
  fun _ => noPart

theorem wallDegraded : Statement (.wallDegraded) :=
  fun _ => noPart

theorem wallKeyConversion : Statement (.wallKeyConversion) :=
  fun _ => noPart

theorem historyRecordExpiry : Statement (.historyRecordExpiry) :=
  fun _ => noPart

theorem scheduleSlotFree : Statement (.scheduleSlotFree) :=
  fun _ => noPart

theorem powerGoodAssert (facts : StartFacts) : Statement (.powerGoodAssert facts) :=
  fun _ => noPart

theorem powerGoodDeassert : Statement (.powerGoodDeassert) :=
  fun _ => noPart

theorem railReady (rail readyUs : Nat) : Statement (.railReady rail readyUs) :=
  fun h => onePart h

theorem railReadyTimeout (rail : Nat) : Statement (.railReadyTimeout rail) :=
  fun h => onePart h

theorem railLost (rail : Nat) : Statement (.railLost rail) :=
  fun h => onePart h

theorem upperFillComplete : Statement (.upperFillComplete) :=
  fun _ => noPart

theorem noImageKeyRetry (facts : StartFacts) : Statement (.noImageKeyRetry facts) :=
  fun _ => noPart

theorem otherCopyCheck : Statement (.otherCopyCheck) :=
  fun _ => noPart

theorem rollbackAdvance : Statement (.rollbackAdvance) :=
  fun _ => noPart

theorem keyLoss : Statement (.keyLoss) :=
  fun _ => noPart

theorem act24Absent : Statement (.act24Absent) :=
  fun _ => noPart

theorem act24Present : Statement (.act24Present) :=
  fun _ => noPart

theorem domainCycleComplete (domain lockUs : Nat) : Statement (.domainCycleComplete domain lockUs) :=
  fun h => onePart h

theorem periodicCalibration (group : Nat) (adc : AdcCal) (sources : SourceCal) : Statement (.periodicCalibration group adc sources) :=
  fun h => onePart h

theorem armingComplete (facts : RoundFacts) : Statement (.armingComplete facts) :=
  fun _ => noPart

theorem takePlantControl : Statement (.takePlantControl) :=
  fun _ => noPart

theorem backupDriveStart : Statement (.backupDriveStart) :=
  fun _ => noPart

theorem backupDriveRelease : Statement (.backupDriveRelease) :=
  fun _ => noPart

theorem backupHeartbeatLoss : Statement (.backupHeartbeatLoss) :=
  fun _ => noPart

theorem crystalTry (pass : Bool) : Statement (.crystalTry pass) :=
  fun _ => noPart

theorem heldRelease : Statement (.heldRelease) :=
  fun _ => noPart

theorem resetNAssert : Statement (.resetNAssert) :=
  fun _ => noPart

theorem coreWatchdog : Statement (.coreWatchdog) :=
  fun _ => noPart

theorem warmReset (facts : StartFacts) : Statement (.warmReset facts) :=
  fun _ => noPart

theorem deadManEngage : Statement (.deadManEngage) :=
  fun _ => noPart

theorem silenceFallback (site : Nat) : Statement (.silenceFallback site) :=
  fun h => onePart h

theorem quarantineTimerExpiry (tenant : Nat) : Statement (.quarantineTimerExpiry tenant) :=
  fun h => onePart h

theorem lowerMax (hdr : ReqHdr) (max : Nat) : Statement (.lowerMax hdr max) :=
  fun h => onePart h

theorem releasePages (hdr : ReqHdr) (pages : List (Nat × Nat)) : Statement (.releasePages hdr pages) :=
  fun h => onePart h

theorem setSplit (hdr : ReqHdr) (order compute memory links : Nat) : Statement (.setSplit hdr order compute memory links) :=
  fun h => onePart h

theorem bindSite (hdr : ReqHdr) (site : Nat) : Statement (.bindSite hdr site) :=
  fun h => onePart h

theorem unbindSite (hdr : ReqHdr) (site : Nat) : Statement (.unbindSite hdr site) :=
  fun h => onePart h

theorem setQuota (hdr : ReqHdr) (min max : Nat) : Statement (.setQuota hdr min max) :=
  fun h => onePart h

theorem releaseTenant (hdr : ReqHdr) : Statement (.releaseTenant hdr) :=
  fun h => onePart h

theorem admitTenant (hdr : ReqHdr) : Statement (.admitTenant hdr) :=
  fun h => onePart h

theorem planEpochBoundary : Statement (.planEpochBoundary) :=
  fun _ => noPart

theorem pumpOverspeedLimit (index : Nat) : Statement (.pumpOverspeedLimit index) :=
  fun h => onePart h

theorem overspeedRestEnd (index : Nat) : Statement (.overspeedRestEnd index) :=
  fun h => onePart h

theorem singleBitError (scratch : Bool) : Statement (.singleBitError scratch) :=
  fun _ => noPart

theorem weightDoubleBitError (place : RowPlace) : Statement (.weightDoubleBitError place) :=
  fun h => twoParts h

theorem weightReloadComplete (bank : Nat) (hashOk : Bool) : Statement (.weightReloadComplete bank hashOk) :=
  fun h => onePart h

theorem scratchDoubleBitError (slot node : Nat) (state : Bool) : Statement (.scratchDoubleBitError slot node state) :=
  fun h => onePart h

theorem precisionRun (hdr : ReqHdr) (slot : Nat) : Statement (.precisionRun hdr slot) :=
  fun h => onePart h

theorem precisionRunComplete (result : List (List (Int × Int))) : Statement (.precisionRunComplete result) :=
  fun _ => noPart

theorem loopResume (index : Nat) : Statement (.loopResume index) :=
  fun h => onePart h

theorem probeArm (index : Nat) : Statement (.probeArm index) :=
  fun h => onePart h

theorem probeAbort (index : Nat) : Statement (.probeAbort index) :=
  fun h => onePart h

theorem probeDone (index : Nat) : Statement (.probeDone index) :=
  fun h => onePart h

theorem setLoopSp (hdr : ReqHdr) (loop : Nat) (value : Int) : Statement (.setLoopSp hdr loop value) :=
  fun h => onePart h

theorem noReference (site : Nat) : Statement (.noReference site) :=
  fun h => onePart h

theorem ditherWindowStart (site : Nat) : Statement (.ditherWindowStart site) :=
  fun h => onePart h

theorem ditherWindowEnd (site : Nat) : Statement (.ditherWindowEnd site) :=
  fun h => onePart h

theorem thermalTrip (loop : Nat) : Statement (.thermalTrip loop) :=
  fun h => onePart h

theorem thermalTripRelease (loop : Nat) : Statement (.thermalTripRelease loop) :=
  fun h => onePart h

theorem telReceived (port : Nat) (head : List Nat) (interval missed mask : Nat) (records : List Nat) (inTime : Bool) :
    Statement (.telReceived port head interval missed mask records inTime) :=
  fun h => oneAnd h

theorem capViolationRelease (link : Nat) : Statement (.capViolationRelease link) :=
  fun h => onePart h

theorem telDeadline (port : Nat) : Statement (.telDeadline port) :=
  fun h => onePart h

theorem siteUnresponsive (site : Nat) : Statement (.siteUnresponsive site) :=
  fun h => onePart h

theorem siteResponsive (site : Nat) : Statement (.siteResponsive site) :=
  fun h => onePart h

theorem packetError (port codeErrors : Nat) (badCrc : Bool) : Statement (.packetError port codeErrors badCrc) :=
  fun h => onePart h

theorem reliablePacketReceived (port : Nat) (head payload : List Nat) (tagOk : Bool) :
    Statement (.reliablePacketReceived port head payload tagOk) :=
  fun h => oneAnd h

theorem ackReceived (port : Nat) (head payload : List Nat) : Statement (.ackReceived port head payload) :=
  fun h => oneAnd h

theorem nakReceived (port : Nat) (head payload : List Nat) : Statement (.nakReceived port head payload) :=
  fun h => oneAnd h

theorem replayTimeout (port : Nat) : Statement (.replayTimeout port) :=
  fun h => onePart h

theorem pingSend (port : Nat) : Statement (.pingSend port) :=
  fun h => onePart h

theorem pongReceived (port : Nat) (head payload : List Nat) (rttNs : Nat) : Statement (.pongReceived port head payload rttNs) :=
  fun h => oneAnd h

theorem transactionResponse (port tag tgen : Nat) (body : TxnBody) : Statement (.transactionResponse port tag tgen body) :=
  fun h => onePart h

theorem transactionTimeout (port tag : Nat) : Statement (.transactionTimeout port tag) :=
  fun h => onePart h

theorem evtReceived (port : Nat) (payload : List Nat) : Statement (.evtReceived port payload) :=
  fun h => oneAnd h

theorem trainingComplete (port ctle : Nat) (dfe : List Int) : Statement (.trainingComplete port ctle dfe) :=
  fun h => onePart h

theorem trainingAttemptFail (port : Nat) : Statement (.trainingAttemptFail port) :=
  fun h => onePart h

theorem attestationTimeout (port : Nat) : Statement (.attestationTimeout port) :=
  fun h => onePart h

theorem attestationRetry (port : Nat) : Statement (.attestationRetry port) :=
  fun h => onePart h

theorem authFailure (port : Nat) : Statement (.authFailure port) :=
  fun h => onePart h

theorem rekeyStart (port : Nat) : Statement (.rekeyStart port) :=
  fun h => onePart h

theorem keyUpdateAck (port : Nat) : Statement (.keyUpdateAck port) :=
  fun h => onePart h

theorem rekeyTimeout (port : Nat) : Statement (.rekeyTimeout port) :=
  fun h => onePart h

theorem linkLost (port cause : Nat) : Statement (.linkLost port cause) :=
  fun h => onePart h

theorem portQuarantineEnd (port : Nat) : Statement (.portQuarantineEnd port) :=
  fun h => onePart h

theorem marginMeasure (port height width : Nat) : Statement (.marginMeasure port height width) :=
  fun h => onePart h

theorem pumpStatusReceived (index : Nat) (bytes : List Nat) : Statement (.pumpStatusReceived index bytes) :=
  fun h => oneAnd h

theorem pumpStatusStale (index : Nat) : Statement (.pumpStatusStale index) :=
  fun h => onePart h

theorem elementStall (element : Nat) : Statement (.elementStall element) :=
  fun h => onePart h

theorem groupFullSpeedEnd (group : Nat) : Statement (.groupFullSpeedEnd group) :=
  fun h => onePart h

theorem elementRetryEnd (element : Nat) : Statement (.elementRetryEnd element) :=
  fun h => onePart h

theorem retryCountReset (element : Nat) : Statement (.retryCountReset element) :=
  fun h => onePart h

theorem clearElement (hdr : ReqHdr) (fan index : Nat) : Statement (.clearElement hdr fan index) :=
  fun h => onePart h

theorem setSprayInhibit (hdr : ReqHdr) (value : Nat) : Statement (.setSprayInhibit hdr value) :=
  fun h => onePart h

theorem vigilHold : Statement (.vigilHold) :=
  fun _ => noPart

theorem sprayCycle : Statement (.sprayCycle) :=
  fun _ => noPart

theorem waterDayRollover : Statement (.waterDayRollover) :=
  fun _ => noPart

theorem energisingEdge (channel : Nat) : Statement (.energisingEdge channel) :=
  fun h => onePart h

theorem peakEnd (channel : Nat) : Statement (.peakEnd channel) :=
  fun h => onePart h

theorem valveRelease (channel : Nat) : Statement (.valveRelease channel) :=
  fun h => onePart h

theorem dipDetected (channel time depth : Nat) : Statement (.dipDetected channel time depth) :=
  fun h => onePart h

theorem missingDip (channel : Nat) : Statement (.missingDip channel) :=
  fun h => onePart h

theorem coilShort (channel : Nat) : Statement (.coilShort channel) :=
  fun h => onePart h

theorem openCoilEnergised (channel : Nat) : Statement (.openCoilEnergised channel) :=
  fun h => onePart h

theorem openCoilReleased (channel pinMv : Nat) : Statement (.openCoilReleased channel pinMv) :=
  fun h => onePart h

theorem switchFailedOn (channel currentMa : Nat) : Statement (.switchFailedOn channel currentMa) :=
  fun h => onePart h

theorem bankOvercurrent (bank hsMa : Nat) : Statement (.bankOvercurrent bank hsMa) :=
  fun h => onePart h

theorem groundFault (bank hsMa lsMa : Nat) : Statement (.groundFault bank hsMa lsMa) :=
  fun h => onePart h

theorem bankTripRecovery (bank : Nat) : Statement (.bankTripRecovery bank) :=
  fun h => onePart h

theorem driverHot (bank : Nat) (temp : Int) : Statement (.driverHot bank temp) :=
  fun h => onePart h

theorem driverCool (bank : Nat) (temp : Int) : Statement (.driverCool bank temp) :=
  fun h => onePart h

theorem dutyLimit (channel uj : Nat) : Statement (.dutyLimit channel uj) :=
  fun h => onePart h

theorem valveRequestRefused (channel : Nat) : Statement (.valveRequestRefused channel) :=
  fun h => onePart h

theorem setValve (hdr : ReqHdr) (channel position : Nat) : Statement (.setValve hdr channel position) :=
  fun h => onePart h

theorem clearValve (hdr : ReqHdr) (index bank : Nat) : Statement (.clearValve hdr index bank) :=
  fun h => onePart h

theorem leakInputState (input : Nat) (state : LeakInState) (x : Nat) : Statement (.leakInputState input state x) :=
  fun h => onePart h

theorem ropeLocation (rope x : Nat) : Statement (.ropeLocation rope x) :=
  fun h => onePart h

theorem massBalanceHoldoffEnd (loop : Nat) : Statement (.massBalanceHoldoffEnd loop) :=
  fun h => onePart h

theorem pressureDecayEval (loop : Nat) : Statement (.pressureDecayEval loop) :=
  fun h => onePart h

theorem classifierConfirm (loop : Nat) : Statement (.classifierConfirm loop) :=
  fun h => onePart h

theorem isolationCheckTimeout (loop : Nat) : Statement (.isolationCheckTimeout loop) :=
  fun h => onePart h

theorem notHoldingRecheck (loop : Nat) : Statement (.notHoldingRecheck loop) :=
  fun h => onePart h

theorem releaseLoop (hdr : ReqHdr) (loop : Nat) : Statement (.releaseLoop hdr loop) :=
  fun h => onePart h

theorem manyLoopsEnd : Statement (.manyLoopsEnd) :=
  fun _ => noPart

theorem rowStop (hdr : ReqHdr) : Statement (.rowStop hdr) :=
  fun h => onePart h

theorem releaseRow (hdr : ReqHdr) : Statement (.releaseRow hdr) :=
  fun h => onePart h

theorem releaseFloor (hdr : ReqHdr) (link : Nat) : Statement (.releaseFloor hdr link) :=
  fun h => onePart h

theorem ringOpenExternal : Statement (.ringOpenExternal) :=
  fun _ => noPart

theorem ringClosedExternal : Statement (.ringClosedExternal) :=
  fun _ => noPart

theorem busOff (channel : Nat) : Statement (.busOff channel) :=
  fun h => onePart h

theorem busOffRecovery (channel : Nat) : Statement (.busOffRecovery channel) :=
  fun h => onePart h

theorem busOffStormEnd (channel : Nat) : Statement (.busOffStormEnd channel) :=
  fun h => onePart h

theorem errorPassive (channel : Nat) (errors : List Nat) (tec rec_ : Nat) : Statement (.errorPassive channel errors tec rec_) :=
  fun h => onePart h

theorem errorActive (channel tec rec_ : Nat) : Statement (.errorActive channel tec rec_) :=
  fun h => onePart h

theorem cellTransmit (channel column : Nat) (facts : BusFacts) : Statement (.cellTransmit channel column facts) :=
  fun h => onePart h

theorem canFrameReceived (channel : Nat) (msg : CanMsg) (offsetNs : Nat) : Statement (.canFrameReceived channel msg offsetNs) :=
  fun h => onePart h

theorem valveStatusReceived (valve dlc position cmdSeen : Nat) (fault : Bool) : Statement (.valveStatusReceived valve dlc position cmdSeen fault) :=
  fun _ => noPart

theorem valveStatusStale (valve : Nat) : Statement (.valveStatusStale valve) :=
  fun _ => noPart

theorem canSend (hdr : ReqHdr) (channel : Nat) (msg : CanMsg) : Statement (.canSend hdr channel msg) :=
  fun h => onePart h

theorem canCancel (hdr : ReqHdr) (channel id : Nat) : Statement (.canCancel hdr channel id) :=
  fun h => onePart h

theorem hostMessageExpire (channel slot : Nat) : Statement (.hostMessageExpire channel slot) :=
  fun h => twoParts h

theorem sendSlotFree (channel slot : Nat) : Statement (.sendSlotFree channel slot) :=
  fun h => twoParts h

theorem mqTailWrite (channel value : Nat) : Statement (.mqTailWrite channel value) :=
  fun h => onePart h

theorem mqOverflowClear (channel : Nat) : Statement (.mqOverflowClear channel) :=
  fun h => onePart h

theorem newClear (channel buffer : Nat) : Statement (.newClear channel buffer) :=
  fun h => twoParts h

theorem claimRound (facts : RoundFacts) : Statement (.claimRound facts) :=
  fun _ => noPart

theorem claimRefreshTimeout : Statement (.claimRefreshTimeout) :=
  fun _ => noPart

theorem claimWireStuck (wireB : Bool) : Statement (.claimWireStuck wireB) :=
  fun _ => noPart

theorem strapConflict : Statement (.strapConflict) :=
  fun _ => noPart

theorem healthSend : Statement (.healthSend) :=
  fun _ => noPart

theorem healthReceived (payload : List Nat) : Statement (.healthReceived payload) :=
  fun _ => noPart

theorem partnerSilent : Statement (.partnerSilent) :=
  fun _ => noPart

theorem markReceived (payload : List Nat) : Statement (.markReceived payload) :=
  fun _ => noPart

theorem ckptReceived (ckpt : Checkpoint) (complete hashOk : Bool) : Statement (.ckptReceived ckpt complete hashOk) :=
  fun _ => noPart

theorem checkpointStale : Statement (.checkpointStale) :=
  fun _ => noPart

theorem takeoverBid (facts : RoundFacts) : Statement (.takeoverBid facts) :=
  fun _ => noPart

theorem restoreComplete : Statement (.restoreComplete) :=
  fun _ => noPart

theorem swapRequestRaise (source : SwapSource) : Statement (.swapRequestRaise source) :=
  fun _ => noPart

theorem swapReqReceived : Statement (.swapReqReceived) :=
  fun _ => noPart

theorem handoverReceived (boundary : Nat) : Statement (.handoverReceived boundary) :=
  fun _ => noPart

theorem primedReceived : Statement (.primedReceived) :=
  fun _ => noPart

theorem refusedReceived : Statement (.refusedReceived) :=
  fun _ => noPart

theorem handoverTimeout : Statement (.handoverTimeout) :=
  fun _ => noPart

theorem pairSwap (hdr : ReqHdr) : Statement (.pairSwap hdr) :=
  fun h => onePart h

theorem pairHold (hdr : ReqHdr) (value : Nat) : Statement (.pairHold hdr value) :=
  fun h => onePart h

theorem partnerAttestRetry : Statement (.partnerAttestRetry) :=
  fun _ => noPart

theorem drbgHealthFailure : Statement (.drbgHealthFailure) :=
  fun _ => noPart

theorem drbgResume : Statement (.drbgResume) :=
  fun _ => noPart

theorem ownerEnrol (hdr : ReqHdr) (facts : EnrolFacts) : Statement (.ownerEnrol hdr facts) :=
  fun h => onePart h

theorem enrolReboot : Statement (.enrolReboot) :=
  fun _ => noPart

theorem setDeviceCert (hdr : ReqHdr) (part last : Nat) (bytes : List Nat) (facts : ChainFacts) : Statement (.setDeviceCert hdr part last bytes facts) :=
  fun h => oneAnd h

theorem getReleaseNonce (hdr : ReqHdr) : Statement (.getReleaseNonce hdr) :=
  fun h => onePart h

theorem releaseNonceExpiry : Statement (.releaseNonceExpiry) :=
  fun _ => noPart

theorem ownerRelease (hdr : ReqHdr) (rootHash : Nat) (sigOk : Bool) (nonce : Nat) : Statement (.ownerRelease hdr rootHash sigOk nonce) :=
  fun h => onePart h

theorem getVersion (session : Nat) : Statement (.getVersion session) :=
  fun h => onePart h

theorem getCapabilities (session : Nat) : Statement (.getCapabilities session) :=
  fun h => onePart h

theorem negotiateAlgorithms (session : Nat) (offersEcdsaP384 offersSha384 : Bool) : Statement (.negotiateAlgorithms session offersEcdsaP384 offersSha384) :=
  fun h => onePart h

theorem getDigests (session : Nat) : Statement (.getDigests session) :=
  fun h => onePart h

theorem getCertificate (session slot offset length : Nat) : Statement (.getCertificate session slot offset length) :=
  fun h => onePart h

theorem challenge (session slot nonce : Nat) : Statement (.challenge session slot nonce) :=
  fun h => onePart h

theorem getMeasurements (session index : Nat) (signed : Bool) (nonce : Nat) : Statement (.getMeasurements session index signed nonce) :=
  fun h => onePart h

theorem tlsSessionOpen (client : ClientFacts) : Statement (.tlsSessionOpen client) :=
  fun _ => noPart

theorem sessionIdleClose (session : Nat) : Statement (.sessionIdleClose session) :=
  fun h => onePart h

theorem sessionLockoutEnd (session : Nat) : Statement (.sessionLockoutEnd session) :=
  fun h => onePart h

theorem telemetryBlockSeal : Statement (.telemetryBlockSeal) :=
  fun _ => noPart

theorem blockNotSealed : Statement (.blockNotSealed) :=
  fun _ => noPart

theorem logWrite (fail : Option (Nat × Nat)) : Statement (.logWrite fail) :=
  fun _ => noPart

theorem maintStart (hdr : ReqHdr) (code duration target : Nat) (receives : Bool) : Statement (.maintStart hdr code duration target receives) :=
  fun h => onePart h

theorem maintStop (hdr : ReqHdr) (id : Nat) : Statement (.maintStop hdr id) :=
  fun h => onePart h

theorem activityEnd (index : Nat) : Statement (.activityEnd index) :=
  fun h => onePart h

theorem activityEntryFree (index : Nat) : Statement (.activityEntryFree index) :=
  fun h => onePart h

theorem strokeValveClose (index : Nat) : Statement (.strokeValveClose index) :=
  fun h => onePart h

theorem strokeFlowCheck (index : Nat) : Statement (.strokeFlowCheck index) :=
  fun h => onePart h

theorem strokeFloorTimeout (index : Nat) : Statement (.strokeFloorTimeout index) :=
  fun h => onePart h

theorem drainFillEndPressure (index : Nat) : Statement (.drainFillEndPressure index) :=
  fun h => onePart h

theorem selfTestResult (index : Nat) (wet : Bool) (x : Nat) : Statement (.selfTestResult index wet x) :=
  fun h => onePart h

theorem firmwareExchangeReport (index : Nat) (verified : Bool) (bytes : Nat) : Statement (.firmwareExchangeReport index verified bytes) :=
  fun h => onePart h

theorem maintWindowTimeout (window : Nat) : Statement (.maintWindowTimeout window) :=
  fun h => onePart h

theorem ethLinkUp (port : Nat) : Statement (.ethLinkUp port) :=
  fun h => onePart h

theorem ethLinkDown (port : Nat) : Statement (.ethLinkDown port) :=
  fun h => onePart h

theorem dhcpLease (port ipv4 prefixLen : Nat) : Statement (.dhcpLease port ipv4 prefixLen) :=
  fun h => onePart h

theorem linkLocalFallback (port ipv4 : Nat) : Statement (.linkLocalFallback port ipv4) :=
  fun h => onePart h

theorem dhcpRetry (port : Nat) : Statement (.dhcpRetry port) :=
  fun h => onePart h

theorem ethFloodDiscard (port frames tagged : Nat) : Statement (.ethFloodDiscard port frames tagged) :=
  fun h => onePart h

theorem read (session msgId address bytes : Nat) : Statement (.read session msgId address bytes) :=
  fun h => onePart h

theorem write (session msgId address : Nat) (data : List Nat) : Statement (.write session msgId address data) :=
  fun h => oneAnd h

theorem subscribe (session msgId topic index : Nat) (on : Bool) : Statement (.subscribe session msgId topic index on) :=
  fun h => onePart h

theorem ping (session msgId : Nat) : Statement (.ping session msgId) :=
  fun h => onePart h

theorem notify (session : Nat) : Statement (.notify session) :=
  fun h => onePart h

theorem setMode (hdr : ReqHdr) (mode : Nat) : Statement (.setMode hdr mode) :=
  fun h => onePart h

theorem setLimit (hdr : ReqHdr) (scope loop limit : Nat) : Statement (.setLimit hdr scope loop limit) :=
  fun h => onePart h

theorem schedCommit (hdr : ReqHdr) (body : SchedReq) : Statement (.schedCommit hdr body) :=
  fun h => onePart h

theorem maintReleaseHeld (hdr : ReqHdr) : Statement (.maintReleaseHeld hdr) :=
  fun h => onePart h

theorem imageBegin (hdr : ReqHdr) (start : UpdateStart) : Statement (.imageBegin hdr start) :=
  fun h => onePart h

theorem imageEraseComplete : Statement (.imageEraseComplete) :=
  fun _ => noPart

theorem imageWrite (hdr : ReqHdr) (offset : Nat) (bytes : List Byte) : Statement (.imageWrite hdr offset bytes) :=
  fun h => onePart h

theorem imageEnd (hdr : ReqHdr) (facts : CopyFacts) : Statement (.imageEnd hdr facts) :=
  fun h => onePart h

theorem imageUpdateTimeout : Statement (.imageUpdateTimeout) :=
  fun _ => noPart

theorem mgmtReset (hdr : ReqHdr) (force : Nat) : Statement (.mgmtReset hdr force) :=
  fun h => onePart h

theorem setFieldbus (hdr : ReqHdr) (cfg : Fieldbus) (count : Nat) : Statement (.setFieldbus hdr cfg count) :=
  fun h => onePart h

theorem modbusReadHolding (conn address count : Nat) : Statement (.modbusReadHolding conn address count) :=
  fun h => onePart h

theorem modbusReadInput (conn address count : Nat) : Statement (.modbusReadInput conn address count) :=
  fun h => onePart h

theorem modbusWriteSingle (conn source address value : Nat) : Statement (.modbusWriteSingle conn source address value) :=
  fun h => onePart h

theorem modbusWriteMultiple (conn source address : Nat) (values : List Nat) : Statement (.modbusWriteMultiple conn source address values) :=
  fun h => onePart h

theorem modbusConnectionIdle (conn : Nat) : Statement (.modbusConnectionIdle conn) :=
  fun h => onePart h

theorem readProperty (item : BacProp) : Statement (.readProperty item) :=
  fun _ => noPart

theorem readPropertyMultiple (items : List BacProp) : Statement (.readPropertyMultiple items) :=
  fun _ => noPart

theorem writeProperty (source : Nat) (item : BacProp) (value : BacValue) : Statement (.writeProperty source item value) :=
  fun _ => noPart

theorem whoIs (range : Option (Nat × Nat)) : Statement (.whoIs range) :=
  fun _ => noPart

theorem inputOvervoltage : Statement (.inputOvervoltage) :=
  fun _ => noPart

theorem inletOver : Statement (.inletOver) :=
  fun _ => noPart

theorem inletOverClear : Statement (.inletOverClear) :=
  fun _ => noPart

theorem internalFanFailed (fan : Nat) : Statement (.internalFanFailed fan) :=
  fun h => onePart h

theorem internalFanRetry (fan : Nat) : Statement (.internalFanRetry fan) :=
  fun h => onePart h

theorem internalFanRestored (fan : Nat) : Statement (.internalFanRestored fan) :=
  fun h => onePart h

theorem socThermalTrip : Statement (.socThermalTrip) :=
  fun _ => noPart

theorem delayRespReceived (head : DelayHead) (txRow rxMaster : Int) : Statement (.delayRespReceived head txRow rxMaster) :=
  fun h => onePart h

theorem ptpMessageIgnored : Statement (.ptpMessageIgnored) :=
  fun _ => noPart

theorem releasingComplete (channel currentMa : Nat) : Statement (.releasingComplete channel currentMa) :=
  fun h => onePart h

theorem rowSensorCauseEnd : Statement (.rowSensorCauseEnd) :=
  fun _ => noPart

theorem announcementExpiry : Statement (.announcementExpiry) :=
  fun _ => noPart

theorem finalCheckpointLoaded : Statement (.finalCheckpointLoaded) :=
  fun _ => noPart

theorem standbySelfTest (test : SelfTest) (index : Nat) (pass : Bool) : Statement (.standbySelfTest test index pass) :=
  fun _ => noPart

theorem tlsKeyUpdate (session : Nat) : Statement (.tlsKeyUpdate session) :=
  fun h => onePart h

theorem sessionClose (session : Nat) : Statement (.sessionClose session) :=
  fun h => onePart h

theorem malformedMessage (session msgId : Nat) (badHeader : Bool) : Statement (.malformedMessage session msgId badHeader) :=
  fun h => onePart h

theorem spdmUnsupportedRequest (session : Nat) : Statement (.spdmUnsupportedRequest session) :=
  fun h => onePart h

theorem enrolNChange (low : Bool) : Statement (.enrolNChange low) :=
  fun _ => noPart

theorem modbusConnectionOpen : Statement (.modbusConnectionOpen) :=
  fun _ => noPart

end Sys2Proof.Laws.Shape
end

