-- ==== Sys2Proof/Laws/State.lean ====
section
/-! SUPPORT. What each named update of the state leaves as it is: one lemma per update and field. -/

namespace Sys2Proof.Machine

@[simp] theorem post_free (code : Nat) (s : State) (index : Nat) (sub : Nat) (detail : List Nat) : (post code s index sub detail).free = s.free := rfl
@[simp] theorem post_seq (code : Nat) (s : State) (index : Nat) (sub : Nat) (detail : List Nat) : (post code s index sub detail).seq = s.seq := rfl
@[simp] theorem post_wall (code : Nat) (s : State) (index : Nat) (sub : Nat) (detail : List Nat) : (post code s index sub detail).wall = s.wall := rfl
@[simp] theorem post_sched (code : Nat) (s : State) (index : Nat) (sub : Nat) (detail : List Nat) : (post code s index sub detail).sched = s.sched := rfl
@[simp] theorem post_key (code : Nat) (s : State) (index : Nat) (sub : Nat) (detail : List Nat) : (post code s index sub detail).key = s.key := rfl
@[simp] theorem post_img (code : Nat) (s : State) (index : Nat) (sub : Nat) (detail : List Nat) : (post code s index sub detail).img = s.img := rfl
@[simp] theorem post_pow (code : Nat) (s : State) (index : Nat) (sub : Nat) (detail : List Nat) : (post code s index sub detail).pow = s.pow := rfl
@[simp] theorem post_thermal (code : Nat) (s : State) (index : Nat) (sub : Nat) (detail : List Nat) : (post code s index sub detail).thermal = s.thermal := rfl
@[simp] theorem post_maint (code : Nat) (s : State) (index : Nat) (sub : Nat) (detail : List Nat) : (post code s index sub detail).maint = s.maint := rfl
@[simp] theorem post_heat (code : Nat) (s : State) (index : Nat) (sub : Nat) (detail : List Nat) : (post code s index sub detail).heat = s.heat := rfl
@[simp] theorem post_caps (code : Nat) (s : State) (index : Nat) (sub : Nat) (detail : List Nat) : (post code s index sub detail).caps = s.caps := rfl
@[simp] theorem post_plan (code : Nat) (s : State) (index : Nat) (sub : Nat) (detail : List Nat) : (post code s index sub detail).plan = s.plan := rfl
@[simp] theorem post_plant (code : Nat) (s : State) (index : Nat) (sub : Nat) (detail : List Nat) : (post code s index sub detail).plant = s.plant := rfl
@[simp] theorem post_eng (code : Nat) (s : State) (index : Nat) (sub : Nat) (detail : List Nat) : (post code s index sub detail).eng = s.eng := rfl
@[simp] theorem post_ctl (code : Nat) (s : State) (index : Nat) (sub : Nat) (detail : List Nat) : (post code s index sub detail).ctl = s.ctl := rfl
@[simp] theorem post_pump (code : Nat) (s : State) (index : Nat) (sub : Nat) (detail : List Nat) : (post code s index sub detail).pump = s.pump := rfl
@[simp] theorem post_can (code : Nat) (s : State) (index : Nat) (sub : Nat) (detail : List Nat) : (post code s index sub detail).can = s.can := rfl
@[simp] theorem post_link (code : Nat) (s : State) (index : Nat) (sub : Nat) (detail : List Nat) : (post code s index sub detail).link = s.link := rfl
@[simp] theorem post_valve (code : Nat) (s : State) (index : Nat) (sub : Nat) (detail : List Nat) : (post code s index sub detail).valve = s.valve := rfl
@[simp] theorem post_leak (code : Nat) (s : State) (index : Nat) (sub : Nat) (detail : List Nat) : (post code s index sub detail).leak = s.leak := rfl
@[simp] theorem post_pair (code : Nat) (s : State) (index : Nat) (sub : Nat) (detail : List Nat) : (post code s index sub detail).pair = s.pair := rfl
@[simp] theorem post_sec (code : Nat) (s : State) (index : Nat) (sub : Nat) (detail : List Nat) : (post code s index sub detail).sec = s.sec := rfl
@[simp] theorem post_mgmt (code : Nat) (s : State) (index : Nat) (sub : Nat) (detail : List Nat) : (post code s index sub detail).mgmt = s.mgmt := rfl
@[simp] theorem post_latch (code : Nat) (s : State) (index : Nat) (sub : Nat) (detail : List Nat) : (post code s index sub detail).latch = s.latch := rfl
@[simp] theorem post_sent (code : Nat) (s : State) (index : Nat) (sub : Nat) (detail : List Nat) : (post code s index sub detail).sent = s.sent := rfl
@[simp] theorem post_pending (code : Nat) (s : State) (index : Nat) (sub : Nat) (detail : List Nat) : (post code s index sub detail).pending = s.pending := rfl

@[simp] theorem lastWord_free (code : Nat) (s : State) (detail : List Nat) : (lastWord code s detail).free = s.free := rfl
@[simp] theorem lastWord_seq (code : Nat) (s : State) (detail : List Nat) : (lastWord code s detail).seq = s.seq := rfl
@[simp] theorem lastWord_wall (code : Nat) (s : State) (detail : List Nat) : (lastWord code s detail).wall = s.wall := rfl
@[simp] theorem lastWord_sched (code : Nat) (s : State) (detail : List Nat) : (lastWord code s detail).sched = s.sched := rfl
@[simp] theorem lastWord_key (code : Nat) (s : State) (detail : List Nat) : (lastWord code s detail).key = s.key := rfl
@[simp] theorem lastWord_img (code : Nat) (s : State) (detail : List Nat) : (lastWord code s detail).img = s.img := rfl
@[simp] theorem lastWord_pow (code : Nat) (s : State) (detail : List Nat) : (lastWord code s detail).pow = s.pow := rfl
@[simp] theorem lastWord_thermal (code : Nat) (s : State) (detail : List Nat) : (lastWord code s detail).thermal = s.thermal := rfl
@[simp] theorem lastWord_maint (code : Nat) (s : State) (detail : List Nat) : (lastWord code s detail).maint = s.maint := rfl
@[simp] theorem lastWord_heat (code : Nat) (s : State) (detail : List Nat) : (lastWord code s detail).heat = s.heat := rfl
@[simp] theorem lastWord_caps (code : Nat) (s : State) (detail : List Nat) : (lastWord code s detail).caps = s.caps := rfl
@[simp] theorem lastWord_plan (code : Nat) (s : State) (detail : List Nat) : (lastWord code s detail).plan = s.plan := rfl
@[simp] theorem lastWord_plant (code : Nat) (s : State) (detail : List Nat) : (lastWord code s detail).plant = s.plant := rfl
@[simp] theorem lastWord_eng (code : Nat) (s : State) (detail : List Nat) : (lastWord code s detail).eng = s.eng := rfl
@[simp] theorem lastWord_ctl (code : Nat) (s : State) (detail : List Nat) : (lastWord code s detail).ctl = s.ctl := rfl
@[simp] theorem lastWord_pump (code : Nat) (s : State) (detail : List Nat) : (lastWord code s detail).pump = s.pump := rfl
@[simp] theorem lastWord_can (code : Nat) (s : State) (detail : List Nat) : (lastWord code s detail).can = s.can := rfl
@[simp] theorem lastWord_link (code : Nat) (s : State) (detail : List Nat) : (lastWord code s detail).link = s.link := rfl
@[simp] theorem lastWord_valve (code : Nat) (s : State) (detail : List Nat) : (lastWord code s detail).valve = s.valve := rfl
@[simp] theorem lastWord_leak (code : Nat) (s : State) (detail : List Nat) : (lastWord code s detail).leak = s.leak := rfl
@[simp] theorem lastWord_pair (code : Nat) (s : State) (detail : List Nat) : (lastWord code s detail).pair = s.pair := rfl
@[simp] theorem lastWord_sec (code : Nat) (s : State) (detail : List Nat) : (lastWord code s detail).sec = s.sec := rfl
@[simp] theorem lastWord_mgmt (code : Nat) (s : State) (detail : List Nat) : (lastWord code s detail).mgmt = s.mgmt := rfl
@[simp] theorem lastWord_latch (code : Nat) (s : State) (detail : List Nat) : (lastWord code s detail).latch = s.latch := rfl
@[simp] theorem lastWord_sent (code : Nat) (s : State) (detail : List Nat) : (lastWord code s detail).sent = s.sent := rfl
@[simp] theorem lastWord_pending (code : Nat) (s : State) (detail : List Nat) : (lastWord code s detail).pending = s.pending := rfl

@[simp] theorem markRun_free (code index : Nat) (s : State) : (markRun code index s).free = s.free := rfl
@[simp] theorem markRun_seq (code index : Nat) (s : State) : (markRun code index s).seq = s.seq := rfl
@[simp] theorem markRun_wall (code index : Nat) (s : State) : (markRun code index s).wall = s.wall := rfl
@[simp] theorem markRun_sched (code index : Nat) (s : State) : (markRun code index s).sched = s.sched := rfl
@[simp] theorem markRun_key (code index : Nat) (s : State) : (markRun code index s).key = s.key := rfl
@[simp] theorem markRun_img (code index : Nat) (s : State) : (markRun code index s).img = s.img := rfl
@[simp] theorem markRun_pow (code index : Nat) (s : State) : (markRun code index s).pow = s.pow := rfl
@[simp] theorem markRun_thermal (code index : Nat) (s : State) : (markRun code index s).thermal = s.thermal := rfl
@[simp] theorem markRun_maint (code index : Nat) (s : State) : (markRun code index s).maint = s.maint := rfl
@[simp] theorem markRun_heat (code index : Nat) (s : State) : (markRun code index s).heat = s.heat := rfl
@[simp] theorem markRun_caps (code index : Nat) (s : State) : (markRun code index s).caps = s.caps := rfl
@[simp] theorem markRun_plan (code index : Nat) (s : State) : (markRun code index s).plan = s.plan := rfl
@[simp] theorem markRun_plant (code index : Nat) (s : State) : (markRun code index s).plant = s.plant := rfl
@[simp] theorem markRun_eng (code index : Nat) (s : State) : (markRun code index s).eng = s.eng := rfl
@[simp] theorem markRun_ctl (code index : Nat) (s : State) : (markRun code index s).ctl = s.ctl := rfl
@[simp] theorem markRun_pump (code index : Nat) (s : State) : (markRun code index s).pump = s.pump := rfl
@[simp] theorem markRun_can (code index : Nat) (s : State) : (markRun code index s).can = s.can := rfl
@[simp] theorem markRun_link (code index : Nat) (s : State) : (markRun code index s).link = s.link := rfl
@[simp] theorem markRun_valve (code index : Nat) (s : State) : (markRun code index s).valve = s.valve := rfl
@[simp] theorem markRun_leak (code index : Nat) (s : State) : (markRun code index s).leak = s.leak := rfl
@[simp] theorem markRun_pair (code index : Nat) (s : State) : (markRun code index s).pair = s.pair := rfl
@[simp] theorem markRun_sec (code index : Nat) (s : State) : (markRun code index s).sec = s.sec := rfl
@[simp] theorem markRun_mgmt (code index : Nat) (s : State) : (markRun code index s).mgmt = s.mgmt := rfl
@[simp] theorem markRun_latch (code index : Nat) (s : State) : (markRun code index s).latch = s.latch := rfl
@[simp] theorem markRun_sent (code index : Nat) (s : State) : (markRun code index s).sent = s.sent := rfl
@[simp] theorem markRun_pending (code index : Nat) (s : State) : (markRun code index s).pending = s.pending := rfl

@[simp] theorem send_free (t : Tx) (s : State) : (send t s).free = s.free := rfl
@[simp] theorem send_seq (t : Tx) (s : State) : (send t s).seq = s.seq := rfl
@[simp] theorem send_wall (t : Tx) (s : State) : (send t s).wall = s.wall := rfl
@[simp] theorem send_sched (t : Tx) (s : State) : (send t s).sched = s.sched := rfl
@[simp] theorem send_key (t : Tx) (s : State) : (send t s).key = s.key := rfl
@[simp] theorem send_img (t : Tx) (s : State) : (send t s).img = s.img := rfl
@[simp] theorem send_pow (t : Tx) (s : State) : (send t s).pow = s.pow := rfl
@[simp] theorem send_thermal (t : Tx) (s : State) : (send t s).thermal = s.thermal := rfl
@[simp] theorem send_log (t : Tx) (s : State) : (send t s).log = s.log := rfl
@[simp] theorem send_maint (t : Tx) (s : State) : (send t s).maint = s.maint := rfl
@[simp] theorem send_heat (t : Tx) (s : State) : (send t s).heat = s.heat := rfl
@[simp] theorem send_caps (t : Tx) (s : State) : (send t s).caps = s.caps := rfl
@[simp] theorem send_plan (t : Tx) (s : State) : (send t s).plan = s.plan := rfl
@[simp] theorem send_plant (t : Tx) (s : State) : (send t s).plant = s.plant := rfl
@[simp] theorem send_eng (t : Tx) (s : State) : (send t s).eng = s.eng := rfl
@[simp] theorem send_ctl (t : Tx) (s : State) : (send t s).ctl = s.ctl := rfl
@[simp] theorem send_pump (t : Tx) (s : State) : (send t s).pump = s.pump := rfl
@[simp] theorem send_can (t : Tx) (s : State) : (send t s).can = s.can := rfl
@[simp] theorem send_link (t : Tx) (s : State) : (send t s).link = s.link := rfl
@[simp] theorem send_valve (t : Tx) (s : State) : (send t s).valve = s.valve := rfl
@[simp] theorem send_leak (t : Tx) (s : State) : (send t s).leak = s.leak := rfl
@[simp] theorem send_pair (t : Tx) (s : State) : (send t s).pair = s.pair := rfl
@[simp] theorem send_sec (t : Tx) (s : State) : (send t s).sec = s.sec := rfl
@[simp] theorem send_mgmt (t : Tx) (s : State) : (send t s).mgmt = s.mgmt := rfl
@[simp] theorem send_latch (t : Tx) (s : State) : (send t s).latch = s.latch := rfl
@[simp] theorem send_pending (t : Tx) (s : State) : (send t s).pending = s.pending := rfl

@[simp] theorem setDomain_free (d : Nat) (f : Domain → Domain) (s : State) : (setDomain d f s).free = s.free := rfl
@[simp] theorem setDomain_seq (d : Nat) (f : Domain → Domain) (s : State) : (setDomain d f s).seq = s.seq := rfl
@[simp] theorem setDomain_wall (d : Nat) (f : Domain → Domain) (s : State) : (setDomain d f s).wall = s.wall := rfl
@[simp] theorem setDomain_sched (d : Nat) (f : Domain → Domain) (s : State) : (setDomain d f s).sched = s.sched := rfl
@[simp] theorem setDomain_key (d : Nat) (f : Domain → Domain) (s : State) : (setDomain d f s).key = s.key := rfl
@[simp] theorem setDomain_img (d : Nat) (f : Domain → Domain) (s : State) : (setDomain d f s).img = s.img := rfl
@[simp] theorem setDomain_thermal (d : Nat) (f : Domain → Domain) (s : State) : (setDomain d f s).thermal = s.thermal := rfl
@[simp] theorem setDomain_log (d : Nat) (f : Domain → Domain) (s : State) : (setDomain d f s).log = s.log := rfl
@[simp] theorem setDomain_maint (d : Nat) (f : Domain → Domain) (s : State) : (setDomain d f s).maint = s.maint := rfl
@[simp] theorem setDomain_heat (d : Nat) (f : Domain → Domain) (s : State) : (setDomain d f s).heat = s.heat := rfl
@[simp] theorem setDomain_caps (d : Nat) (f : Domain → Domain) (s : State) : (setDomain d f s).caps = s.caps := rfl
@[simp] theorem setDomain_plan (d : Nat) (f : Domain → Domain) (s : State) : (setDomain d f s).plan = s.plan := rfl
@[simp] theorem setDomain_plant (d : Nat) (f : Domain → Domain) (s : State) : (setDomain d f s).plant = s.plant := rfl
@[simp] theorem setDomain_eng (d : Nat) (f : Domain → Domain) (s : State) : (setDomain d f s).eng = s.eng := rfl
@[simp] theorem setDomain_ctl (d : Nat) (f : Domain → Domain) (s : State) : (setDomain d f s).ctl = s.ctl := rfl
@[simp] theorem setDomain_pump (d : Nat) (f : Domain → Domain) (s : State) : (setDomain d f s).pump = s.pump := rfl
@[simp] theorem setDomain_can (d : Nat) (f : Domain → Domain) (s : State) : (setDomain d f s).can = s.can := rfl
@[simp] theorem setDomain_link (d : Nat) (f : Domain → Domain) (s : State) : (setDomain d f s).link = s.link := rfl
@[simp] theorem setDomain_valve (d : Nat) (f : Domain → Domain) (s : State) : (setDomain d f s).valve = s.valve := rfl
@[simp] theorem setDomain_leak (d : Nat) (f : Domain → Domain) (s : State) : (setDomain d f s).leak = s.leak := rfl
@[simp] theorem setDomain_pair (d : Nat) (f : Domain → Domain) (s : State) : (setDomain d f s).pair = s.pair := rfl
@[simp] theorem setDomain_sec (d : Nat) (f : Domain → Domain) (s : State) : (setDomain d f s).sec = s.sec := rfl
@[simp] theorem setDomain_mgmt (d : Nat) (f : Domain → Domain) (s : State) : (setDomain d f s).mgmt = s.mgmt := rfl
@[simp] theorem setDomain_latch (d : Nat) (f : Domain → Domain) (s : State) : (setDomain d f s).latch = s.latch := rfl
@[simp] theorem setDomain_sent (d : Nat) (f : Domain → Domain) (s : State) : (setDomain d f s).sent = s.sent := rfl
@[simp] theorem setDomain_pending (d : Nat) (f : Domain → Domain) (s : State) : (setDomain d f s).pending = s.pending := rfl

@[simp] theorem setPow_free (f : Power → Power) (s : State) : (setPow f s).free = s.free := rfl
@[simp] theorem setPow_seq (f : Power → Power) (s : State) : (setPow f s).seq = s.seq := rfl
@[simp] theorem setPow_wall (f : Power → Power) (s : State) : (setPow f s).wall = s.wall := rfl
@[simp] theorem setPow_sched (f : Power → Power) (s : State) : (setPow f s).sched = s.sched := rfl
@[simp] theorem setPow_key (f : Power → Power) (s : State) : (setPow f s).key = s.key := rfl
@[simp] theorem setPow_img (f : Power → Power) (s : State) : (setPow f s).img = s.img := rfl
@[simp] theorem setPow_thermal (f : Power → Power) (s : State) : (setPow f s).thermal = s.thermal := rfl
@[simp] theorem setPow_log (f : Power → Power) (s : State) : (setPow f s).log = s.log := rfl
@[simp] theorem setPow_maint (f : Power → Power) (s : State) : (setPow f s).maint = s.maint := rfl
@[simp] theorem setPow_heat (f : Power → Power) (s : State) : (setPow f s).heat = s.heat := rfl
@[simp] theorem setPow_caps (f : Power → Power) (s : State) : (setPow f s).caps = s.caps := rfl
@[simp] theorem setPow_plan (f : Power → Power) (s : State) : (setPow f s).plan = s.plan := rfl
@[simp] theorem setPow_plant (f : Power → Power) (s : State) : (setPow f s).plant = s.plant := rfl
@[simp] theorem setPow_eng (f : Power → Power) (s : State) : (setPow f s).eng = s.eng := rfl
@[simp] theorem setPow_ctl (f : Power → Power) (s : State) : (setPow f s).ctl = s.ctl := rfl
@[simp] theorem setPow_pump (f : Power → Power) (s : State) : (setPow f s).pump = s.pump := rfl
@[simp] theorem setPow_can (f : Power → Power) (s : State) : (setPow f s).can = s.can := rfl
@[simp] theorem setPow_link (f : Power → Power) (s : State) : (setPow f s).link = s.link := rfl
@[simp] theorem setPow_valve (f : Power → Power) (s : State) : (setPow f s).valve = s.valve := rfl
@[simp] theorem setPow_leak (f : Power → Power) (s : State) : (setPow f s).leak = s.leak := rfl
@[simp] theorem setPow_pair (f : Power → Power) (s : State) : (setPow f s).pair = s.pair := rfl
@[simp] theorem setPow_sec (f : Power → Power) (s : State) : (setPow f s).sec = s.sec := rfl
@[simp] theorem setPow_mgmt (f : Power → Power) (s : State) : (setPow f s).mgmt = s.mgmt := rfl
@[simp] theorem setPow_latch (f : Power → Power) (s : State) : (setPow f s).latch = s.latch := rfl
@[simp] theorem setPow_sent (f : Power → Power) (s : State) : (setPow f s).sent = s.sent := rfl
@[simp] theorem setPow_pending (f : Power → Power) (s : State) : (setPow f s).pending = s.pending := rfl

@[simp] theorem updSiteP_free (i : Nat) (f : SitePages → SitePages) (s : State) : (updSiteP i f s).free = s.free := rfl
@[simp] theorem updSiteP_seq (i : Nat) (f : SitePages → SitePages) (s : State) : (updSiteP i f s).seq = s.seq := rfl
@[simp] theorem updSiteP_wall (i : Nat) (f : SitePages → SitePages) (s : State) : (updSiteP i f s).wall = s.wall := rfl
@[simp] theorem updSiteP_sched (i : Nat) (f : SitePages → SitePages) (s : State) : (updSiteP i f s).sched = s.sched := rfl
@[simp] theorem updSiteP_key (i : Nat) (f : SitePages → SitePages) (s : State) : (updSiteP i f s).key = s.key := rfl
@[simp] theorem updSiteP_img (i : Nat) (f : SitePages → SitePages) (s : State) : (updSiteP i f s).img = s.img := rfl
@[simp] theorem updSiteP_pow (i : Nat) (f : SitePages → SitePages) (s : State) : (updSiteP i f s).pow = s.pow := rfl
@[simp] theorem updSiteP_thermal (i : Nat) (f : SitePages → SitePages) (s : State) : (updSiteP i f s).thermal = s.thermal := rfl
@[simp] theorem updSiteP_log (i : Nat) (f : SitePages → SitePages) (s : State) : (updSiteP i f s).log = s.log := rfl
@[simp] theorem updSiteP_maint (i : Nat) (f : SitePages → SitePages) (s : State) : (updSiteP i f s).maint = s.maint := rfl
@[simp] theorem updSiteP_caps (i : Nat) (f : SitePages → SitePages) (s : State) : (updSiteP i f s).caps = s.caps := rfl
@[simp] theorem updSiteP_plan (i : Nat) (f : SitePages → SitePages) (s : State) : (updSiteP i f s).plan = s.plan := rfl
@[simp] theorem updSiteP_plant (i : Nat) (f : SitePages → SitePages) (s : State) : (updSiteP i f s).plant = s.plant := rfl
@[simp] theorem updSiteP_eng (i : Nat) (f : SitePages → SitePages) (s : State) : (updSiteP i f s).eng = s.eng := rfl
@[simp] theorem updSiteP_ctl (i : Nat) (f : SitePages → SitePages) (s : State) : (updSiteP i f s).ctl = s.ctl := rfl
@[simp] theorem updSiteP_pump (i : Nat) (f : SitePages → SitePages) (s : State) : (updSiteP i f s).pump = s.pump := rfl
@[simp] theorem updSiteP_can (i : Nat) (f : SitePages → SitePages) (s : State) : (updSiteP i f s).can = s.can := rfl
@[simp] theorem updSiteP_link (i : Nat) (f : SitePages → SitePages) (s : State) : (updSiteP i f s).link = s.link := rfl
@[simp] theorem updSiteP_valve (i : Nat) (f : SitePages → SitePages) (s : State) : (updSiteP i f s).valve = s.valve := rfl
@[simp] theorem updSiteP_leak (i : Nat) (f : SitePages → SitePages) (s : State) : (updSiteP i f s).leak = s.leak := rfl
@[simp] theorem updSiteP_pair (i : Nat) (f : SitePages → SitePages) (s : State) : (updSiteP i f s).pair = s.pair := rfl
@[simp] theorem updSiteP_sec (i : Nat) (f : SitePages → SitePages) (s : State) : (updSiteP i f s).sec = s.sec := rfl
@[simp] theorem updSiteP_mgmt (i : Nat) (f : SitePages → SitePages) (s : State) : (updSiteP i f s).mgmt = s.mgmt := rfl
@[simp] theorem updSiteP_latch (i : Nat) (f : SitePages → SitePages) (s : State) : (updSiteP i f s).latch = s.latch := rfl
@[simp] theorem updSiteP_sent (i : Nat) (f : SitePages → SitePages) (s : State) : (updSiteP i f s).sent = s.sent := rfl
@[simp] theorem updSiteP_pending (i : Nat) (f : SitePages → SitePages) (s : State) : (updSiteP i f s).pending = s.pending := rfl

@[simp] theorem updSiteC_free (i : Nat) (f : SiteCaps → SiteCaps) (s : State) : (updSiteC i f s).free = s.free := rfl
@[simp] theorem updSiteC_seq (i : Nat) (f : SiteCaps → SiteCaps) (s : State) : (updSiteC i f s).seq = s.seq := rfl
@[simp] theorem updSiteC_wall (i : Nat) (f : SiteCaps → SiteCaps) (s : State) : (updSiteC i f s).wall = s.wall := rfl
@[simp] theorem updSiteC_sched (i : Nat) (f : SiteCaps → SiteCaps) (s : State) : (updSiteC i f s).sched = s.sched := rfl
@[simp] theorem updSiteC_key (i : Nat) (f : SiteCaps → SiteCaps) (s : State) : (updSiteC i f s).key = s.key := rfl
@[simp] theorem updSiteC_img (i : Nat) (f : SiteCaps → SiteCaps) (s : State) : (updSiteC i f s).img = s.img := rfl
@[simp] theorem updSiteC_pow (i : Nat) (f : SiteCaps → SiteCaps) (s : State) : (updSiteC i f s).pow = s.pow := rfl
@[simp] theorem updSiteC_thermal (i : Nat) (f : SiteCaps → SiteCaps) (s : State) : (updSiteC i f s).thermal = s.thermal := rfl
@[simp] theorem updSiteC_log (i : Nat) (f : SiteCaps → SiteCaps) (s : State) : (updSiteC i f s).log = s.log := rfl
@[simp] theorem updSiteC_maint (i : Nat) (f : SiteCaps → SiteCaps) (s : State) : (updSiteC i f s).maint = s.maint := rfl
@[simp] theorem updSiteC_heat (i : Nat) (f : SiteCaps → SiteCaps) (s : State) : (updSiteC i f s).heat = s.heat := rfl
@[simp] theorem updSiteC_plan (i : Nat) (f : SiteCaps → SiteCaps) (s : State) : (updSiteC i f s).plan = s.plan := rfl
@[simp] theorem updSiteC_plant (i : Nat) (f : SiteCaps → SiteCaps) (s : State) : (updSiteC i f s).plant = s.plant := rfl
@[simp] theorem updSiteC_eng (i : Nat) (f : SiteCaps → SiteCaps) (s : State) : (updSiteC i f s).eng = s.eng := rfl
@[simp] theorem updSiteC_ctl (i : Nat) (f : SiteCaps → SiteCaps) (s : State) : (updSiteC i f s).ctl = s.ctl := rfl
@[simp] theorem updSiteC_pump (i : Nat) (f : SiteCaps → SiteCaps) (s : State) : (updSiteC i f s).pump = s.pump := rfl
@[simp] theorem updSiteC_can (i : Nat) (f : SiteCaps → SiteCaps) (s : State) : (updSiteC i f s).can = s.can := rfl
@[simp] theorem updSiteC_link (i : Nat) (f : SiteCaps → SiteCaps) (s : State) : (updSiteC i f s).link = s.link := rfl
@[simp] theorem updSiteC_valve (i : Nat) (f : SiteCaps → SiteCaps) (s : State) : (updSiteC i f s).valve = s.valve := rfl
@[simp] theorem updSiteC_leak (i : Nat) (f : SiteCaps → SiteCaps) (s : State) : (updSiteC i f s).leak = s.leak := rfl
@[simp] theorem updSiteC_pair (i : Nat) (f : SiteCaps → SiteCaps) (s : State) : (updSiteC i f s).pair = s.pair := rfl
@[simp] theorem updSiteC_sec (i : Nat) (f : SiteCaps → SiteCaps) (s : State) : (updSiteC i f s).sec = s.sec := rfl
@[simp] theorem updSiteC_mgmt (i : Nat) (f : SiteCaps → SiteCaps) (s : State) : (updSiteC i f s).mgmt = s.mgmt := rfl
@[simp] theorem updSiteC_latch (i : Nat) (f : SiteCaps → SiteCaps) (s : State) : (updSiteC i f s).latch = s.latch := rfl
@[simp] theorem updSiteC_sent (i : Nat) (f : SiteCaps → SiteCaps) (s : State) : (updSiteC i f s).sent = s.sent := rfl
@[simp] theorem updSiteC_pending (i : Nat) (f : SiteCaps → SiteCaps) (s : State) : (updSiteC i f s).pending = s.pending := rfl

@[simp] theorem updLoopP_free (l : Nat) (f : LoopPages → LoopPages) (s : State) : (updLoopP l f s).free = s.free := rfl
@[simp] theorem updLoopP_seq (l : Nat) (f : LoopPages → LoopPages) (s : State) : (updLoopP l f s).seq = s.seq := rfl
@[simp] theorem updLoopP_wall (l : Nat) (f : LoopPages → LoopPages) (s : State) : (updLoopP l f s).wall = s.wall := rfl
@[simp] theorem updLoopP_sched (l : Nat) (f : LoopPages → LoopPages) (s : State) : (updLoopP l f s).sched = s.sched := rfl
@[simp] theorem updLoopP_key (l : Nat) (f : LoopPages → LoopPages) (s : State) : (updLoopP l f s).key = s.key := rfl
@[simp] theorem updLoopP_img (l : Nat) (f : LoopPages → LoopPages) (s : State) : (updLoopP l f s).img = s.img := rfl
@[simp] theorem updLoopP_pow (l : Nat) (f : LoopPages → LoopPages) (s : State) : (updLoopP l f s).pow = s.pow := rfl
@[simp] theorem updLoopP_thermal (l : Nat) (f : LoopPages → LoopPages) (s : State) : (updLoopP l f s).thermal = s.thermal := rfl
@[simp] theorem updLoopP_log (l : Nat) (f : LoopPages → LoopPages) (s : State) : (updLoopP l f s).log = s.log := rfl
@[simp] theorem updLoopP_maint (l : Nat) (f : LoopPages → LoopPages) (s : State) : (updLoopP l f s).maint = s.maint := rfl
@[simp] theorem updLoopP_caps (l : Nat) (f : LoopPages → LoopPages) (s : State) : (updLoopP l f s).caps = s.caps := rfl
@[simp] theorem updLoopP_plan (l : Nat) (f : LoopPages → LoopPages) (s : State) : (updLoopP l f s).plan = s.plan := rfl
@[simp] theorem updLoopP_plant (l : Nat) (f : LoopPages → LoopPages) (s : State) : (updLoopP l f s).plant = s.plant := rfl
@[simp] theorem updLoopP_eng (l : Nat) (f : LoopPages → LoopPages) (s : State) : (updLoopP l f s).eng = s.eng := rfl
@[simp] theorem updLoopP_ctl (l : Nat) (f : LoopPages → LoopPages) (s : State) : (updLoopP l f s).ctl = s.ctl := rfl
@[simp] theorem updLoopP_pump (l : Nat) (f : LoopPages → LoopPages) (s : State) : (updLoopP l f s).pump = s.pump := rfl
@[simp] theorem updLoopP_can (l : Nat) (f : LoopPages → LoopPages) (s : State) : (updLoopP l f s).can = s.can := rfl
@[simp] theorem updLoopP_link (l : Nat) (f : LoopPages → LoopPages) (s : State) : (updLoopP l f s).link = s.link := rfl
@[simp] theorem updLoopP_valve (l : Nat) (f : LoopPages → LoopPages) (s : State) : (updLoopP l f s).valve = s.valve := rfl
@[simp] theorem updLoopP_leak (l : Nat) (f : LoopPages → LoopPages) (s : State) : (updLoopP l f s).leak = s.leak := rfl
@[simp] theorem updLoopP_pair (l : Nat) (f : LoopPages → LoopPages) (s : State) : (updLoopP l f s).pair = s.pair := rfl
@[simp] theorem updLoopP_sec (l : Nat) (f : LoopPages → LoopPages) (s : State) : (updLoopP l f s).sec = s.sec := rfl
@[simp] theorem updLoopP_mgmt (l : Nat) (f : LoopPages → LoopPages) (s : State) : (updLoopP l f s).mgmt = s.mgmt := rfl
@[simp] theorem updLoopP_latch (l : Nat) (f : LoopPages → LoopPages) (s : State) : (updLoopP l f s).latch = s.latch := rfl
@[simp] theorem updLoopP_sent (l : Nat) (f : LoopPages → LoopPages) (s : State) : (updLoopP l f s).sent = s.sent := rfl
@[simp] theorem updLoopP_pending (l : Nat) (f : LoopPages → LoopPages) (s : State) : (updLoopP l f s).pending = s.pending := rfl

@[simp] theorem updTenant_free (t : Nat) (f : TenantSt → TenantSt) (s : State) : (updTenant t f s).free = s.free := rfl
@[simp] theorem updTenant_seq (t : Nat) (f : TenantSt → TenantSt) (s : State) : (updTenant t f s).seq = s.seq := rfl
@[simp] theorem updTenant_wall (t : Nat) (f : TenantSt → TenantSt) (s : State) : (updTenant t f s).wall = s.wall := rfl
@[simp] theorem updTenant_sched (t : Nat) (f : TenantSt → TenantSt) (s : State) : (updTenant t f s).sched = s.sched := rfl
@[simp] theorem updTenant_key (t : Nat) (f : TenantSt → TenantSt) (s : State) : (updTenant t f s).key = s.key := rfl
@[simp] theorem updTenant_img (t : Nat) (f : TenantSt → TenantSt) (s : State) : (updTenant t f s).img = s.img := rfl
@[simp] theorem updTenant_pow (t : Nat) (f : TenantSt → TenantSt) (s : State) : (updTenant t f s).pow = s.pow := rfl
@[simp] theorem updTenant_thermal (t : Nat) (f : TenantSt → TenantSt) (s : State) : (updTenant t f s).thermal = s.thermal := rfl
@[simp] theorem updTenant_log (t : Nat) (f : TenantSt → TenantSt) (s : State) : (updTenant t f s).log = s.log := rfl
@[simp] theorem updTenant_maint (t : Nat) (f : TenantSt → TenantSt) (s : State) : (updTenant t f s).maint = s.maint := rfl
@[simp] theorem updTenant_caps (t : Nat) (f : TenantSt → TenantSt) (s : State) : (updTenant t f s).caps = s.caps := rfl
@[simp] theorem updTenant_plan (t : Nat) (f : TenantSt → TenantSt) (s : State) : (updTenant t f s).plan = s.plan := rfl
@[simp] theorem updTenant_plant (t : Nat) (f : TenantSt → TenantSt) (s : State) : (updTenant t f s).plant = s.plant := rfl
@[simp] theorem updTenant_eng (t : Nat) (f : TenantSt → TenantSt) (s : State) : (updTenant t f s).eng = s.eng := rfl
@[simp] theorem updTenant_ctl (t : Nat) (f : TenantSt → TenantSt) (s : State) : (updTenant t f s).ctl = s.ctl := rfl
@[simp] theorem updTenant_pump (t : Nat) (f : TenantSt → TenantSt) (s : State) : (updTenant t f s).pump = s.pump := rfl
@[simp] theorem updTenant_can (t : Nat) (f : TenantSt → TenantSt) (s : State) : (updTenant t f s).can = s.can := rfl
@[simp] theorem updTenant_link (t : Nat) (f : TenantSt → TenantSt) (s : State) : (updTenant t f s).link = s.link := rfl
@[simp] theorem updTenant_valve (t : Nat) (f : TenantSt → TenantSt) (s : State) : (updTenant t f s).valve = s.valve := rfl
@[simp] theorem updTenant_leak (t : Nat) (f : TenantSt → TenantSt) (s : State) : (updTenant t f s).leak = s.leak := rfl
@[simp] theorem updTenant_pair (t : Nat) (f : TenantSt → TenantSt) (s : State) : (updTenant t f s).pair = s.pair := rfl
@[simp] theorem updTenant_sec (t : Nat) (f : TenantSt → TenantSt) (s : State) : (updTenant t f s).sec = s.sec := rfl
@[simp] theorem updTenant_mgmt (t : Nat) (f : TenantSt → TenantSt) (s : State) : (updTenant t f s).mgmt = s.mgmt := rfl
@[simp] theorem updTenant_latch (t : Nat) (f : TenantSt → TenantSt) (s : State) : (updTenant t f s).latch = s.latch := rfl
@[simp] theorem updTenant_sent (t : Nat) (f : TenantSt → TenantSt) (s : State) : (updTenant t f s).sent = s.sent := rfl
@[simp] theorem updTenant_pending (t : Nat) (f : TenantSt → TenantSt) (s : State) : (updTenant t f s).pending = s.pending := rfl

@[simp] theorem heatCount_free (k n : Nat) (s : State) : (heatCount k n s).free = s.free := rfl
@[simp] theorem heatCount_seq (k n : Nat) (s : State) : (heatCount k n s).seq = s.seq := rfl
@[simp] theorem heatCount_wall (k n : Nat) (s : State) : (heatCount k n s).wall = s.wall := rfl
@[simp] theorem heatCount_sched (k n : Nat) (s : State) : (heatCount k n s).sched = s.sched := rfl
@[simp] theorem heatCount_key (k n : Nat) (s : State) : (heatCount k n s).key = s.key := rfl
@[simp] theorem heatCount_img (k n : Nat) (s : State) : (heatCount k n s).img = s.img := rfl
@[simp] theorem heatCount_pow (k n : Nat) (s : State) : (heatCount k n s).pow = s.pow := rfl
@[simp] theorem heatCount_thermal (k n : Nat) (s : State) : (heatCount k n s).thermal = s.thermal := rfl
@[simp] theorem heatCount_log (k n : Nat) (s : State) : (heatCount k n s).log = s.log := rfl
@[simp] theorem heatCount_maint (k n : Nat) (s : State) : (heatCount k n s).maint = s.maint := rfl
@[simp] theorem heatCount_caps (k n : Nat) (s : State) : (heatCount k n s).caps = s.caps := rfl
@[simp] theorem heatCount_plan (k n : Nat) (s : State) : (heatCount k n s).plan = s.plan := rfl
@[simp] theorem heatCount_plant (k n : Nat) (s : State) : (heatCount k n s).plant = s.plant := rfl
@[simp] theorem heatCount_eng (k n : Nat) (s : State) : (heatCount k n s).eng = s.eng := rfl
@[simp] theorem heatCount_ctl (k n : Nat) (s : State) : (heatCount k n s).ctl = s.ctl := rfl
@[simp] theorem heatCount_pump (k n : Nat) (s : State) : (heatCount k n s).pump = s.pump := rfl
@[simp] theorem heatCount_can (k n : Nat) (s : State) : (heatCount k n s).can = s.can := rfl
@[simp] theorem heatCount_link (k n : Nat) (s : State) : (heatCount k n s).link = s.link := rfl
@[simp] theorem heatCount_valve (k n : Nat) (s : State) : (heatCount k n s).valve = s.valve := rfl
@[simp] theorem heatCount_leak (k n : Nat) (s : State) : (heatCount k n s).leak = s.leak := rfl
@[simp] theorem heatCount_pair (k n : Nat) (s : State) : (heatCount k n s).pair = s.pair := rfl
@[simp] theorem heatCount_sec (k n : Nat) (s : State) : (heatCount k n s).sec = s.sec := rfl
@[simp] theorem heatCount_mgmt (k n : Nat) (s : State) : (heatCount k n s).mgmt = s.mgmt := rfl
@[simp] theorem heatCount_latch (k n : Nat) (s : State) : (heatCount k n s).latch = s.latch := rfl
@[simp] theorem heatCount_sent (k n : Nat) (s : State) : (heatCount k n s).sent = s.sent := rfl
@[simp] theorem heatCount_pending (k n : Nat) (s : State) : (heatCount k n s).pending = s.pending := rfl

@[simp] theorem capCount_free (k : Nat) (s : State) : (capCount k s).free = s.free := rfl
@[simp] theorem capCount_seq (k : Nat) (s : State) : (capCount k s).seq = s.seq := rfl
@[simp] theorem capCount_wall (k : Nat) (s : State) : (capCount k s).wall = s.wall := rfl
@[simp] theorem capCount_sched (k : Nat) (s : State) : (capCount k s).sched = s.sched := rfl
@[simp] theorem capCount_key (k : Nat) (s : State) : (capCount k s).key = s.key := rfl
@[simp] theorem capCount_img (k : Nat) (s : State) : (capCount k s).img = s.img := rfl
@[simp] theorem capCount_pow (k : Nat) (s : State) : (capCount k s).pow = s.pow := rfl
@[simp] theorem capCount_thermal (k : Nat) (s : State) : (capCount k s).thermal = s.thermal := rfl
@[simp] theorem capCount_log (k : Nat) (s : State) : (capCount k s).log = s.log := rfl
@[simp] theorem capCount_maint (k : Nat) (s : State) : (capCount k s).maint = s.maint := rfl
@[simp] theorem capCount_heat (k : Nat) (s : State) : (capCount k s).heat = s.heat := rfl
@[simp] theorem capCount_plan (k : Nat) (s : State) : (capCount k s).plan = s.plan := rfl
@[simp] theorem capCount_plant (k : Nat) (s : State) : (capCount k s).plant = s.plant := rfl
@[simp] theorem capCount_eng (k : Nat) (s : State) : (capCount k s).eng = s.eng := rfl
@[simp] theorem capCount_ctl (k : Nat) (s : State) : (capCount k s).ctl = s.ctl := rfl
@[simp] theorem capCount_pump (k : Nat) (s : State) : (capCount k s).pump = s.pump := rfl
@[simp] theorem capCount_can (k : Nat) (s : State) : (capCount k s).can = s.can := rfl
@[simp] theorem capCount_link (k : Nat) (s : State) : (capCount k s).link = s.link := rfl
@[simp] theorem capCount_valve (k : Nat) (s : State) : (capCount k s).valve = s.valve := rfl
@[simp] theorem capCount_leak (k : Nat) (s : State) : (capCount k s).leak = s.leak := rfl
@[simp] theorem capCount_pair (k : Nat) (s : State) : (capCount k s).pair = s.pair := rfl
@[simp] theorem capCount_sec (k : Nat) (s : State) : (capCount k s).sec = s.sec := rfl
@[simp] theorem capCount_mgmt (k : Nat) (s : State) : (capCount k s).mgmt = s.mgmt := rfl
@[simp] theorem capCount_latch (k : Nat) (s : State) : (capCount k s).latch = s.latch := rfl
@[simp] theorem capCount_sent (k : Nat) (s : State) : (capCount k s).sent = s.sent := rfl
@[simp] theorem capCount_pending (k : Nat) (s : State) : (capCount k s).pending = s.pending := rfl

@[simp] theorem setPage_free (k : Nat) (f : Page → Page) (s : State) : (setPage k f s).free = s.free := rfl
@[simp] theorem setPage_seq (k : Nat) (f : Page → Page) (s : State) : (setPage k f s).seq = s.seq := rfl
@[simp] theorem setPage_wall (k : Nat) (f : Page → Page) (s : State) : (setPage k f s).wall = s.wall := rfl
@[simp] theorem setPage_sched (k : Nat) (f : Page → Page) (s : State) : (setPage k f s).sched = s.sched := rfl
@[simp] theorem setPage_key (k : Nat) (f : Page → Page) (s : State) : (setPage k f s).key = s.key := rfl
@[simp] theorem setPage_img (k : Nat) (f : Page → Page) (s : State) : (setPage k f s).img = s.img := rfl
@[simp] theorem setPage_pow (k : Nat) (f : Page → Page) (s : State) : (setPage k f s).pow = s.pow := rfl
@[simp] theorem setPage_thermal (k : Nat) (f : Page → Page) (s : State) : (setPage k f s).thermal = s.thermal := rfl
@[simp] theorem setPage_log (k : Nat) (f : Page → Page) (s : State) : (setPage k f s).log = s.log := rfl
@[simp] theorem setPage_maint (k : Nat) (f : Page → Page) (s : State) : (setPage k f s).maint = s.maint := rfl
@[simp] theorem setPage_caps (k : Nat) (f : Page → Page) (s : State) : (setPage k f s).caps = s.caps := rfl
@[simp] theorem setPage_plan (k : Nat) (f : Page → Page) (s : State) : (setPage k f s).plan = s.plan := rfl
@[simp] theorem setPage_plant (k : Nat) (f : Page → Page) (s : State) : (setPage k f s).plant = s.plant := rfl
@[simp] theorem setPage_eng (k : Nat) (f : Page → Page) (s : State) : (setPage k f s).eng = s.eng := rfl
@[simp] theorem setPage_ctl (k : Nat) (f : Page → Page) (s : State) : (setPage k f s).ctl = s.ctl := rfl
@[simp] theorem setPage_pump (k : Nat) (f : Page → Page) (s : State) : (setPage k f s).pump = s.pump := rfl
@[simp] theorem setPage_can (k : Nat) (f : Page → Page) (s : State) : (setPage k f s).can = s.can := rfl
@[simp] theorem setPage_link (k : Nat) (f : Page → Page) (s : State) : (setPage k f s).link = s.link := rfl
@[simp] theorem setPage_valve (k : Nat) (f : Page → Page) (s : State) : (setPage k f s).valve = s.valve := rfl
@[simp] theorem setPage_leak (k : Nat) (f : Page → Page) (s : State) : (setPage k f s).leak = s.leak := rfl
@[simp] theorem setPage_pair (k : Nat) (f : Page → Page) (s : State) : (setPage k f s).pair = s.pair := rfl
@[simp] theorem setPage_sec (k : Nat) (f : Page → Page) (s : State) : (setPage k f s).sec = s.sec := rfl
@[simp] theorem setPage_mgmt (k : Nat) (f : Page → Page) (s : State) : (setPage k f s).mgmt = s.mgmt := rfl
@[simp] theorem setPage_latch (k : Nat) (f : Page → Page) (s : State) : (setPage k f s).latch = s.latch := rfl
@[simp] theorem setPage_sent (k : Nat) (f : Page → Page) (s : State) : (setPage k f s).sent = s.sent := rfl
@[simp] theorem setPage_pending (k : Nat) (f : Page → Page) (s : State) : (setPage k f s).pending = s.pending := rfl

@[simp] theorem tick_free (s : State) : (tick s).free = s.free := rfl
@[simp] theorem tick_seq (s : State) : (tick s).seq = s.seq := rfl
@[simp] theorem tick_wall (s : State) : (tick s).wall = s.wall := rfl
@[simp] theorem tick_sched (s : State) : (tick s).sched = s.sched := rfl
@[simp] theorem tick_key (s : State) : (tick s).key = s.key := rfl
@[simp] theorem tick_img (s : State) : (tick s).img = s.img := rfl
@[simp] theorem tick_pow (s : State) : (tick s).pow = s.pow := rfl
@[simp] theorem tick_thermal (s : State) : (tick s).thermal = s.thermal := rfl
@[simp] theorem tick_log (s : State) : (tick s).log = s.log := rfl
@[simp] theorem tick_maint (s : State) : (tick s).maint = s.maint := rfl
@[simp] theorem tick_caps (s : State) : (tick s).caps = s.caps := rfl
@[simp] theorem tick_plan (s : State) : (tick s).plan = s.plan := rfl
@[simp] theorem tick_plant (s : State) : (tick s).plant = s.plant := rfl
@[simp] theorem tick_eng (s : State) : (tick s).eng = s.eng := rfl
@[simp] theorem tick_ctl (s : State) : (tick s).ctl = s.ctl := rfl
@[simp] theorem tick_pump (s : State) : (tick s).pump = s.pump := rfl
@[simp] theorem tick_can (s : State) : (tick s).can = s.can := rfl
@[simp] theorem tick_link (s : State) : (tick s).link = s.link := rfl
@[simp] theorem tick_valve (s : State) : (tick s).valve = s.valve := rfl
@[simp] theorem tick_leak (s : State) : (tick s).leak = s.leak := rfl
@[simp] theorem tick_pair (s : State) : (tick s).pair = s.pair := rfl
@[simp] theorem tick_sec (s : State) : (tick s).sec = s.sec := rfl
@[simp] theorem tick_mgmt (s : State) : (tick s).mgmt = s.mgmt := rfl
@[simp] theorem tick_latch (s : State) : (tick s).latch = s.latch := rfl
@[simp] theorem tick_sent (s : State) : (tick s).sent = s.sent := rfl
@[simp] theorem tick_pending (s : State) : (tick s).pending = s.pending := rfl

@[simp] theorem updFloor_free (l : Nat) (f : FloorLine → FloorLine) (s : State) : (updFloor l f s).free = s.free := rfl
@[simp] theorem updFloor_seq (l : Nat) (f : FloorLine → FloorLine) (s : State) : (updFloor l f s).seq = s.seq := rfl
@[simp] theorem updFloor_wall (l : Nat) (f : FloorLine → FloorLine) (s : State) : (updFloor l f s).wall = s.wall := rfl
@[simp] theorem updFloor_sched (l : Nat) (f : FloorLine → FloorLine) (s : State) : (updFloor l f s).sched = s.sched := rfl
@[simp] theorem updFloor_key (l : Nat) (f : FloorLine → FloorLine) (s : State) : (updFloor l f s).key = s.key := rfl
@[simp] theorem updFloor_img (l : Nat) (f : FloorLine → FloorLine) (s : State) : (updFloor l f s).img = s.img := rfl
@[simp] theorem updFloor_pow (l : Nat) (f : FloorLine → FloorLine) (s : State) : (updFloor l f s).pow = s.pow := rfl
@[simp] theorem updFloor_thermal (l : Nat) (f : FloorLine → FloorLine) (s : State) : (updFloor l f s).thermal = s.thermal := rfl
@[simp] theorem updFloor_log (l : Nat) (f : FloorLine → FloorLine) (s : State) : (updFloor l f s).log = s.log := rfl
@[simp] theorem updFloor_maint (l : Nat) (f : FloorLine → FloorLine) (s : State) : (updFloor l f s).maint = s.maint := rfl
@[simp] theorem updFloor_heat (l : Nat) (f : FloorLine → FloorLine) (s : State) : (updFloor l f s).heat = s.heat := rfl
@[simp] theorem updFloor_plan (l : Nat) (f : FloorLine → FloorLine) (s : State) : (updFloor l f s).plan = s.plan := rfl
@[simp] theorem updFloor_plant (l : Nat) (f : FloorLine → FloorLine) (s : State) : (updFloor l f s).plant = s.plant := rfl
@[simp] theorem updFloor_eng (l : Nat) (f : FloorLine → FloorLine) (s : State) : (updFloor l f s).eng = s.eng := rfl
@[simp] theorem updFloor_ctl (l : Nat) (f : FloorLine → FloorLine) (s : State) : (updFloor l f s).ctl = s.ctl := rfl
@[simp] theorem updFloor_pump (l : Nat) (f : FloorLine → FloorLine) (s : State) : (updFloor l f s).pump = s.pump := rfl
@[simp] theorem updFloor_can (l : Nat) (f : FloorLine → FloorLine) (s : State) : (updFloor l f s).can = s.can := rfl
@[simp] theorem updFloor_link (l : Nat) (f : FloorLine → FloorLine) (s : State) : (updFloor l f s).link = s.link := rfl
@[simp] theorem updFloor_valve (l : Nat) (f : FloorLine → FloorLine) (s : State) : (updFloor l f s).valve = s.valve := rfl
@[simp] theorem updFloor_leak (l : Nat) (f : FloorLine → FloorLine) (s : State) : (updFloor l f s).leak = s.leak := rfl
@[simp] theorem updFloor_pair (l : Nat) (f : FloorLine → FloorLine) (s : State) : (updFloor l f s).pair = s.pair := rfl
@[simp] theorem updFloor_sec (l : Nat) (f : FloorLine → FloorLine) (s : State) : (updFloor l f s).sec = s.sec := rfl
@[simp] theorem updFloor_mgmt (l : Nat) (f : FloorLine → FloorLine) (s : State) : (updFloor l f s).mgmt = s.mgmt := rfl
@[simp] theorem updFloor_latch (l : Nat) (f : FloorLine → FloorLine) (s : State) : (updFloor l f s).latch = s.latch := rfl
@[simp] theorem updFloor_sent (l : Nat) (f : FloorLine → FloorLine) (s : State) : (updFloor l f s).sent = s.sent := rfl
@[simp] theorem updFloor_pending (l : Nat) (f : FloorLine → FloorLine) (s : State) : (updFloor l f s).pending = s.pending := rfl

@[simp] theorem updPace_free (t : Nat) (f : TenantPace → TenantPace) (s : State) : (updPace t f s).free = s.free := rfl
@[simp] theorem updPace_seq (t : Nat) (f : TenantPace → TenantPace) (s : State) : (updPace t f s).seq = s.seq := rfl
@[simp] theorem updPace_wall (t : Nat) (f : TenantPace → TenantPace) (s : State) : (updPace t f s).wall = s.wall := rfl
@[simp] theorem updPace_sched (t : Nat) (f : TenantPace → TenantPace) (s : State) : (updPace t f s).sched = s.sched := rfl
@[simp] theorem updPace_key (t : Nat) (f : TenantPace → TenantPace) (s : State) : (updPace t f s).key = s.key := rfl
@[simp] theorem updPace_img (t : Nat) (f : TenantPace → TenantPace) (s : State) : (updPace t f s).img = s.img := rfl
@[simp] theorem updPace_pow (t : Nat) (f : TenantPace → TenantPace) (s : State) : (updPace t f s).pow = s.pow := rfl
@[simp] theorem updPace_thermal (t : Nat) (f : TenantPace → TenantPace) (s : State) : (updPace t f s).thermal = s.thermal := rfl
@[simp] theorem updPace_log (t : Nat) (f : TenantPace → TenantPace) (s : State) : (updPace t f s).log = s.log := rfl
@[simp] theorem updPace_maint (t : Nat) (f : TenantPace → TenantPace) (s : State) : (updPace t f s).maint = s.maint := rfl
@[simp] theorem updPace_heat (t : Nat) (f : TenantPace → TenantPace) (s : State) : (updPace t f s).heat = s.heat := rfl
@[simp] theorem updPace_plan (t : Nat) (f : TenantPace → TenantPace) (s : State) : (updPace t f s).plan = s.plan := rfl
@[simp] theorem updPace_plant (t : Nat) (f : TenantPace → TenantPace) (s : State) : (updPace t f s).plant = s.plant := rfl
@[simp] theorem updPace_eng (t : Nat) (f : TenantPace → TenantPace) (s : State) : (updPace t f s).eng = s.eng := rfl
@[simp] theorem updPace_ctl (t : Nat) (f : TenantPace → TenantPace) (s : State) : (updPace t f s).ctl = s.ctl := rfl
@[simp] theorem updPace_pump (t : Nat) (f : TenantPace → TenantPace) (s : State) : (updPace t f s).pump = s.pump := rfl
@[simp] theorem updPace_can (t : Nat) (f : TenantPace → TenantPace) (s : State) : (updPace t f s).can = s.can := rfl
@[simp] theorem updPace_link (t : Nat) (f : TenantPace → TenantPace) (s : State) : (updPace t f s).link = s.link := rfl
@[simp] theorem updPace_valve (t : Nat) (f : TenantPace → TenantPace) (s : State) : (updPace t f s).valve = s.valve := rfl
@[simp] theorem updPace_leak (t : Nat) (f : TenantPace → TenantPace) (s : State) : (updPace t f s).leak = s.leak := rfl
@[simp] theorem updPace_pair (t : Nat) (f : TenantPace → TenantPace) (s : State) : (updPace t f s).pair = s.pair := rfl
@[simp] theorem updPace_sec (t : Nat) (f : TenantPace → TenantPace) (s : State) : (updPace t f s).sec = s.sec := rfl
@[simp] theorem updPace_mgmt (t : Nat) (f : TenantPace → TenantPace) (s : State) : (updPace t f s).mgmt = s.mgmt := rfl
@[simp] theorem updPace_latch (t : Nat) (f : TenantPace → TenantPace) (s : State) : (updPace t f s).latch = s.latch := rfl
@[simp] theorem updPace_sent (t : Nat) (f : TenantPace → TenantPace) (s : State) : (updPace t f s).sent = s.sent := rfl
@[simp] theorem updPace_pending (t : Nat) (f : TenantPace → TenantPace) (s : State) : (updPace t f s).pending = s.pending := rfl

@[simp] theorem updGraph_free (g : Nat) (f : GraphSt → GraphSt) (s : State) : (updGraph g f s).free = s.free := rfl
@[simp] theorem updGraph_seq (g : Nat) (f : GraphSt → GraphSt) (s : State) : (updGraph g f s).seq = s.seq := rfl
@[simp] theorem updGraph_wall (g : Nat) (f : GraphSt → GraphSt) (s : State) : (updGraph g f s).wall = s.wall := rfl
@[simp] theorem updGraph_sched (g : Nat) (f : GraphSt → GraphSt) (s : State) : (updGraph g f s).sched = s.sched := rfl
@[simp] theorem updGraph_key (g : Nat) (f : GraphSt → GraphSt) (s : State) : (updGraph g f s).key = s.key := rfl
@[simp] theorem updGraph_img (g : Nat) (f : GraphSt → GraphSt) (s : State) : (updGraph g f s).img = s.img := rfl
@[simp] theorem updGraph_pow (g : Nat) (f : GraphSt → GraphSt) (s : State) : (updGraph g f s).pow = s.pow := rfl
@[simp] theorem updGraph_thermal (g : Nat) (f : GraphSt → GraphSt) (s : State) : (updGraph g f s).thermal = s.thermal := rfl
@[simp] theorem updGraph_log (g : Nat) (f : GraphSt → GraphSt) (s : State) : (updGraph g f s).log = s.log := rfl
@[simp] theorem updGraph_maint (g : Nat) (f : GraphSt → GraphSt) (s : State) : (updGraph g f s).maint = s.maint := rfl
@[simp] theorem updGraph_heat (g : Nat) (f : GraphSt → GraphSt) (s : State) : (updGraph g f s).heat = s.heat := rfl
@[simp] theorem updGraph_caps (g : Nat) (f : GraphSt → GraphSt) (s : State) : (updGraph g f s).caps = s.caps := rfl
@[simp] theorem updGraph_plan (g : Nat) (f : GraphSt → GraphSt) (s : State) : (updGraph g f s).plan = s.plan := rfl
@[simp] theorem updGraph_plant (g : Nat) (f : GraphSt → GraphSt) (s : State) : (updGraph g f s).plant = s.plant := rfl
@[simp] theorem updGraph_ctl (g : Nat) (f : GraphSt → GraphSt) (s : State) : (updGraph g f s).ctl = s.ctl := rfl
@[simp] theorem updGraph_pump (g : Nat) (f : GraphSt → GraphSt) (s : State) : (updGraph g f s).pump = s.pump := rfl
@[simp] theorem updGraph_can (g : Nat) (f : GraphSt → GraphSt) (s : State) : (updGraph g f s).can = s.can := rfl
@[simp] theorem updGraph_link (g : Nat) (f : GraphSt → GraphSt) (s : State) : (updGraph g f s).link = s.link := rfl
@[simp] theorem updGraph_valve (g : Nat) (f : GraphSt → GraphSt) (s : State) : (updGraph g f s).valve = s.valve := rfl
@[simp] theorem updGraph_leak (g : Nat) (f : GraphSt → GraphSt) (s : State) : (updGraph g f s).leak = s.leak := rfl
@[simp] theorem updGraph_pair (g : Nat) (f : GraphSt → GraphSt) (s : State) : (updGraph g f s).pair = s.pair := rfl
@[simp] theorem updGraph_sec (g : Nat) (f : GraphSt → GraphSt) (s : State) : (updGraph g f s).sec = s.sec := rfl
@[simp] theorem updGraph_mgmt (g : Nat) (f : GraphSt → GraphSt) (s : State) : (updGraph g f s).mgmt = s.mgmt := rfl
@[simp] theorem updGraph_latch (g : Nat) (f : GraphSt → GraphSt) (s : State) : (updGraph g f s).latch = s.latch := rfl
@[simp] theorem updGraph_sent (g : Nat) (f : GraphSt → GraphSt) (s : State) : (updGraph g f s).sent = s.sent := rfl
@[simp] theorem updGraph_pending (g : Nat) (f : GraphSt → GraphSt) (s : State) : (updGraph g f s).pending = s.pending := rfl

@[simp] theorem engCount_free (k n : Nat) (s : State) : (engCount k n s).free = s.free := rfl
@[simp] theorem engCount_seq (k n : Nat) (s : State) : (engCount k n s).seq = s.seq := rfl
@[simp] theorem engCount_wall (k n : Nat) (s : State) : (engCount k n s).wall = s.wall := rfl
@[simp] theorem engCount_sched (k n : Nat) (s : State) : (engCount k n s).sched = s.sched := rfl
@[simp] theorem engCount_key (k n : Nat) (s : State) : (engCount k n s).key = s.key := rfl
@[simp] theorem engCount_img (k n : Nat) (s : State) : (engCount k n s).img = s.img := rfl
@[simp] theorem engCount_pow (k n : Nat) (s : State) : (engCount k n s).pow = s.pow := rfl
@[simp] theorem engCount_thermal (k n : Nat) (s : State) : (engCount k n s).thermal = s.thermal := rfl
@[simp] theorem engCount_log (k n : Nat) (s : State) : (engCount k n s).log = s.log := rfl
@[simp] theorem engCount_maint (k n : Nat) (s : State) : (engCount k n s).maint = s.maint := rfl
@[simp] theorem engCount_heat (k n : Nat) (s : State) : (engCount k n s).heat = s.heat := rfl
@[simp] theorem engCount_caps (k n : Nat) (s : State) : (engCount k n s).caps = s.caps := rfl
@[simp] theorem engCount_plan (k n : Nat) (s : State) : (engCount k n s).plan = s.plan := rfl
@[simp] theorem engCount_plant (k n : Nat) (s : State) : (engCount k n s).plant = s.plant := rfl
@[simp] theorem engCount_ctl (k n : Nat) (s : State) : (engCount k n s).ctl = s.ctl := rfl
@[simp] theorem engCount_pump (k n : Nat) (s : State) : (engCount k n s).pump = s.pump := rfl
@[simp] theorem engCount_can (k n : Nat) (s : State) : (engCount k n s).can = s.can := rfl
@[simp] theorem engCount_link (k n : Nat) (s : State) : (engCount k n s).link = s.link := rfl
@[simp] theorem engCount_valve (k n : Nat) (s : State) : (engCount k n s).valve = s.valve := rfl
@[simp] theorem engCount_leak (k n : Nat) (s : State) : (engCount k n s).leak = s.leak := rfl
@[simp] theorem engCount_pair (k n : Nat) (s : State) : (engCount k n s).pair = s.pair := rfl
@[simp] theorem engCount_sec (k n : Nat) (s : State) : (engCount k n s).sec = s.sec := rfl
@[simp] theorem engCount_mgmt (k n : Nat) (s : State) : (engCount k n s).mgmt = s.mgmt := rfl
@[simp] theorem engCount_latch (k n : Nat) (s : State) : (engCount k n s).latch = s.latch := rfl
@[simp] theorem engCount_sent (k n : Nat) (s : State) : (engCount k n s).sent = s.sent := rfl
@[simp] theorem engCount_pending (k n : Nat) (s : State) : (engCount k n s).pending = s.pending := rfl

@[simp] theorem updCtl_free (i : Nat) (f : CtlLoop → CtlLoop) (s : State) : (updCtl i f s).free = s.free := rfl
@[simp] theorem updCtl_seq (i : Nat) (f : CtlLoop → CtlLoop) (s : State) : (updCtl i f s).seq = s.seq := rfl
@[simp] theorem updCtl_wall (i : Nat) (f : CtlLoop → CtlLoop) (s : State) : (updCtl i f s).wall = s.wall := rfl
@[simp] theorem updCtl_sched (i : Nat) (f : CtlLoop → CtlLoop) (s : State) : (updCtl i f s).sched = s.sched := rfl
@[simp] theorem updCtl_key (i : Nat) (f : CtlLoop → CtlLoop) (s : State) : (updCtl i f s).key = s.key := rfl
@[simp] theorem updCtl_img (i : Nat) (f : CtlLoop → CtlLoop) (s : State) : (updCtl i f s).img = s.img := rfl
@[simp] theorem updCtl_pow (i : Nat) (f : CtlLoop → CtlLoop) (s : State) : (updCtl i f s).pow = s.pow := rfl
@[simp] theorem updCtl_thermal (i : Nat) (f : CtlLoop → CtlLoop) (s : State) : (updCtl i f s).thermal = s.thermal := rfl
@[simp] theorem updCtl_log (i : Nat) (f : CtlLoop → CtlLoop) (s : State) : (updCtl i f s).log = s.log := rfl
@[simp] theorem updCtl_maint (i : Nat) (f : CtlLoop → CtlLoop) (s : State) : (updCtl i f s).maint = s.maint := rfl
@[simp] theorem updCtl_heat (i : Nat) (f : CtlLoop → CtlLoop) (s : State) : (updCtl i f s).heat = s.heat := rfl
@[simp] theorem updCtl_caps (i : Nat) (f : CtlLoop → CtlLoop) (s : State) : (updCtl i f s).caps = s.caps := rfl
@[simp] theorem updCtl_plan (i : Nat) (f : CtlLoop → CtlLoop) (s : State) : (updCtl i f s).plan = s.plan := rfl
@[simp] theorem updCtl_plant (i : Nat) (f : CtlLoop → CtlLoop) (s : State) : (updCtl i f s).plant = s.plant := rfl
@[simp] theorem updCtl_eng (i : Nat) (f : CtlLoop → CtlLoop) (s : State) : (updCtl i f s).eng = s.eng := rfl
@[simp] theorem updCtl_pump (i : Nat) (f : CtlLoop → CtlLoop) (s : State) : (updCtl i f s).pump = s.pump := rfl
@[simp] theorem updCtl_can (i : Nat) (f : CtlLoop → CtlLoop) (s : State) : (updCtl i f s).can = s.can := rfl
@[simp] theorem updCtl_link (i : Nat) (f : CtlLoop → CtlLoop) (s : State) : (updCtl i f s).link = s.link := rfl
@[simp] theorem updCtl_valve (i : Nat) (f : CtlLoop → CtlLoop) (s : State) : (updCtl i f s).valve = s.valve := rfl
@[simp] theorem updCtl_leak (i : Nat) (f : CtlLoop → CtlLoop) (s : State) : (updCtl i f s).leak = s.leak := rfl
@[simp] theorem updCtl_pair (i : Nat) (f : CtlLoop → CtlLoop) (s : State) : (updCtl i f s).pair = s.pair := rfl
@[simp] theorem updCtl_sec (i : Nat) (f : CtlLoop → CtlLoop) (s : State) : (updCtl i f s).sec = s.sec := rfl
@[simp] theorem updCtl_mgmt (i : Nat) (f : CtlLoop → CtlLoop) (s : State) : (updCtl i f s).mgmt = s.mgmt := rfl
@[simp] theorem updCtl_latch (i : Nat) (f : CtlLoop → CtlLoop) (s : State) : (updCtl i f s).latch = s.latch := rfl
@[simp] theorem updCtl_sent (i : Nat) (f : CtlLoop → CtlLoop) (s : State) : (updCtl i f s).sent = s.sent := rfl
@[simp] theorem updCtl_pending (i : Nat) (f : CtlLoop → CtlLoop) (s : State) : (updCtl i f s).pending = s.pending := rfl

@[simp] theorem updProbe_free (i : Nat) (f : Probe → Probe) (s : State) : (updProbe i f s).free = s.free := rfl
@[simp] theorem updProbe_seq (i : Nat) (f : Probe → Probe) (s : State) : (updProbe i f s).seq = s.seq := rfl
@[simp] theorem updProbe_wall (i : Nat) (f : Probe → Probe) (s : State) : (updProbe i f s).wall = s.wall := rfl
@[simp] theorem updProbe_sched (i : Nat) (f : Probe → Probe) (s : State) : (updProbe i f s).sched = s.sched := rfl
@[simp] theorem updProbe_key (i : Nat) (f : Probe → Probe) (s : State) : (updProbe i f s).key = s.key := rfl
@[simp] theorem updProbe_img (i : Nat) (f : Probe → Probe) (s : State) : (updProbe i f s).img = s.img := rfl
@[simp] theorem updProbe_pow (i : Nat) (f : Probe → Probe) (s : State) : (updProbe i f s).pow = s.pow := rfl
@[simp] theorem updProbe_thermal (i : Nat) (f : Probe → Probe) (s : State) : (updProbe i f s).thermal = s.thermal := rfl
@[simp] theorem updProbe_log (i : Nat) (f : Probe → Probe) (s : State) : (updProbe i f s).log = s.log := rfl
@[simp] theorem updProbe_maint (i : Nat) (f : Probe → Probe) (s : State) : (updProbe i f s).maint = s.maint := rfl
@[simp] theorem updProbe_heat (i : Nat) (f : Probe → Probe) (s : State) : (updProbe i f s).heat = s.heat := rfl
@[simp] theorem updProbe_caps (i : Nat) (f : Probe → Probe) (s : State) : (updProbe i f s).caps = s.caps := rfl
@[simp] theorem updProbe_plan (i : Nat) (f : Probe → Probe) (s : State) : (updProbe i f s).plan = s.plan := rfl
@[simp] theorem updProbe_plant (i : Nat) (f : Probe → Probe) (s : State) : (updProbe i f s).plant = s.plant := rfl
@[simp] theorem updProbe_eng (i : Nat) (f : Probe → Probe) (s : State) : (updProbe i f s).eng = s.eng := rfl
@[simp] theorem updProbe_pump (i : Nat) (f : Probe → Probe) (s : State) : (updProbe i f s).pump = s.pump := rfl
@[simp] theorem updProbe_can (i : Nat) (f : Probe → Probe) (s : State) : (updProbe i f s).can = s.can := rfl
@[simp] theorem updProbe_link (i : Nat) (f : Probe → Probe) (s : State) : (updProbe i f s).link = s.link := rfl
@[simp] theorem updProbe_valve (i : Nat) (f : Probe → Probe) (s : State) : (updProbe i f s).valve = s.valve := rfl
@[simp] theorem updProbe_leak (i : Nat) (f : Probe → Probe) (s : State) : (updProbe i f s).leak = s.leak := rfl
@[simp] theorem updProbe_pair (i : Nat) (f : Probe → Probe) (s : State) : (updProbe i f s).pair = s.pair := rfl
@[simp] theorem updProbe_sec (i : Nat) (f : Probe → Probe) (s : State) : (updProbe i f s).sec = s.sec := rfl
@[simp] theorem updProbe_mgmt (i : Nat) (f : Probe → Probe) (s : State) : (updProbe i f s).mgmt = s.mgmt := rfl
@[simp] theorem updProbe_latch (i : Nat) (f : Probe → Probe) (s : State) : (updProbe i f s).latch = s.latch := rfl
@[simp] theorem updProbe_sent (i : Nat) (f : Probe → Probe) (s : State) : (updProbe i f s).sent = s.sent := rfl
@[simp] theorem updProbe_pending (i : Nat) (f : Probe → Probe) (s : State) : (updProbe i f s).pending = s.pending := rfl

@[simp] theorem updPort_free (p : Nat) (f : LinkPort → LinkPort) (s : State) : (updPort p f s).free = s.free := rfl
@[simp] theorem updPort_seq (p : Nat) (f : LinkPort → LinkPort) (s : State) : (updPort p f s).seq = s.seq := rfl
@[simp] theorem updPort_wall (p : Nat) (f : LinkPort → LinkPort) (s : State) : (updPort p f s).wall = s.wall := rfl
@[simp] theorem updPort_sched (p : Nat) (f : LinkPort → LinkPort) (s : State) : (updPort p f s).sched = s.sched := rfl
@[simp] theorem updPort_key (p : Nat) (f : LinkPort → LinkPort) (s : State) : (updPort p f s).key = s.key := rfl
@[simp] theorem updPort_img (p : Nat) (f : LinkPort → LinkPort) (s : State) : (updPort p f s).img = s.img := rfl
@[simp] theorem updPort_pow (p : Nat) (f : LinkPort → LinkPort) (s : State) : (updPort p f s).pow = s.pow := rfl
@[simp] theorem updPort_thermal (p : Nat) (f : LinkPort → LinkPort) (s : State) : (updPort p f s).thermal = s.thermal := rfl
@[simp] theorem updPort_log (p : Nat) (f : LinkPort → LinkPort) (s : State) : (updPort p f s).log = s.log := rfl
@[simp] theorem updPort_maint (p : Nat) (f : LinkPort → LinkPort) (s : State) : (updPort p f s).maint = s.maint := rfl
@[simp] theorem updPort_heat (p : Nat) (f : LinkPort → LinkPort) (s : State) : (updPort p f s).heat = s.heat := rfl
@[simp] theorem updPort_caps (p : Nat) (f : LinkPort → LinkPort) (s : State) : (updPort p f s).caps = s.caps := rfl
@[simp] theorem updPort_plan (p : Nat) (f : LinkPort → LinkPort) (s : State) : (updPort p f s).plan = s.plan := rfl
@[simp] theorem updPort_plant (p : Nat) (f : LinkPort → LinkPort) (s : State) : (updPort p f s).plant = s.plant := rfl
@[simp] theorem updPort_eng (p : Nat) (f : LinkPort → LinkPort) (s : State) : (updPort p f s).eng = s.eng := rfl
@[simp] theorem updPort_ctl (p : Nat) (f : LinkPort → LinkPort) (s : State) : (updPort p f s).ctl = s.ctl := rfl
@[simp] theorem updPort_pump (p : Nat) (f : LinkPort → LinkPort) (s : State) : (updPort p f s).pump = s.pump := rfl
@[simp] theorem updPort_can (p : Nat) (f : LinkPort → LinkPort) (s : State) : (updPort p f s).can = s.can := rfl
@[simp] theorem updPort_valve (p : Nat) (f : LinkPort → LinkPort) (s : State) : (updPort p f s).valve = s.valve := rfl
@[simp] theorem updPort_leak (p : Nat) (f : LinkPort → LinkPort) (s : State) : (updPort p f s).leak = s.leak := rfl
@[simp] theorem updPort_pair (p : Nat) (f : LinkPort → LinkPort) (s : State) : (updPort p f s).pair = s.pair := rfl
@[simp] theorem updPort_sec (p : Nat) (f : LinkPort → LinkPort) (s : State) : (updPort p f s).sec = s.sec := rfl
@[simp] theorem updPort_mgmt (p : Nat) (f : LinkPort → LinkPort) (s : State) : (updPort p f s).mgmt = s.mgmt := rfl
@[simp] theorem updPort_latch (p : Nat) (f : LinkPort → LinkPort) (s : State) : (updPort p f s).latch = s.latch := rfl
@[simp] theorem updPort_sent (p : Nat) (f : LinkPort → LinkPort) (s : State) : (updPort p f s).sent = s.sent := rfl
@[simp] theorem updPort_pending (p : Nat) (f : LinkPort → LinkPort) (s : State) : (updPort p f s).pending = s.pending := rfl

@[simp] theorem updPump_free (p : Nat) (f : PumpSt → PumpSt) (s : State) : (updPump p f s).free = s.free := rfl
@[simp] theorem updPump_seq (p : Nat) (f : PumpSt → PumpSt) (s : State) : (updPump p f s).seq = s.seq := rfl
@[simp] theorem updPump_wall (p : Nat) (f : PumpSt → PumpSt) (s : State) : (updPump p f s).wall = s.wall := rfl
@[simp] theorem updPump_sched (p : Nat) (f : PumpSt → PumpSt) (s : State) : (updPump p f s).sched = s.sched := rfl
@[simp] theorem updPump_key (p : Nat) (f : PumpSt → PumpSt) (s : State) : (updPump p f s).key = s.key := rfl
@[simp] theorem updPump_img (p : Nat) (f : PumpSt → PumpSt) (s : State) : (updPump p f s).img = s.img := rfl
@[simp] theorem updPump_pow (p : Nat) (f : PumpSt → PumpSt) (s : State) : (updPump p f s).pow = s.pow := rfl
@[simp] theorem updPump_thermal (p : Nat) (f : PumpSt → PumpSt) (s : State) : (updPump p f s).thermal = s.thermal := rfl
@[simp] theorem updPump_log (p : Nat) (f : PumpSt → PumpSt) (s : State) : (updPump p f s).log = s.log := rfl
@[simp] theorem updPump_maint (p : Nat) (f : PumpSt → PumpSt) (s : State) : (updPump p f s).maint = s.maint := rfl
@[simp] theorem updPump_heat (p : Nat) (f : PumpSt → PumpSt) (s : State) : (updPump p f s).heat = s.heat := rfl
@[simp] theorem updPump_caps (p : Nat) (f : PumpSt → PumpSt) (s : State) : (updPump p f s).caps = s.caps := rfl
@[simp] theorem updPump_plan (p : Nat) (f : PumpSt → PumpSt) (s : State) : (updPump p f s).plan = s.plan := rfl
@[simp] theorem updPump_plant (p : Nat) (f : PumpSt → PumpSt) (s : State) : (updPump p f s).plant = s.plant := rfl
@[simp] theorem updPump_eng (p : Nat) (f : PumpSt → PumpSt) (s : State) : (updPump p f s).eng = s.eng := rfl
@[simp] theorem updPump_ctl (p : Nat) (f : PumpSt → PumpSt) (s : State) : (updPump p f s).ctl = s.ctl := rfl
@[simp] theorem updPump_can (p : Nat) (f : PumpSt → PumpSt) (s : State) : (updPump p f s).can = s.can := rfl
@[simp] theorem updPump_link (p : Nat) (f : PumpSt → PumpSt) (s : State) : (updPump p f s).link = s.link := rfl
@[simp] theorem updPump_valve (p : Nat) (f : PumpSt → PumpSt) (s : State) : (updPump p f s).valve = s.valve := rfl
@[simp] theorem updPump_leak (p : Nat) (f : PumpSt → PumpSt) (s : State) : (updPump p f s).leak = s.leak := rfl
@[simp] theorem updPump_pair (p : Nat) (f : PumpSt → PumpSt) (s : State) : (updPump p f s).pair = s.pair := rfl
@[simp] theorem updPump_sec (p : Nat) (f : PumpSt → PumpSt) (s : State) : (updPump p f s).sec = s.sec := rfl
@[simp] theorem updPump_mgmt (p : Nat) (f : PumpSt → PumpSt) (s : State) : (updPump p f s).mgmt = s.mgmt := rfl
@[simp] theorem updPump_latch (p : Nat) (f : PumpSt → PumpSt) (s : State) : (updPump p f s).latch = s.latch := rfl
@[simp] theorem updPump_sent (p : Nat) (f : PumpSt → PumpSt) (s : State) : (updPump p f s).sent = s.sent := rfl
@[simp] theorem updPump_pending (p : Nat) (f : PumpSt → PumpSt) (s : State) : (updPump p f s).pending = s.pending := rfl

@[simp] theorem updFan_free (i : Nat) (f : FanSt → FanSt) (s : State) : (updFan i f s).free = s.free := rfl
@[simp] theorem updFan_seq (i : Nat) (f : FanSt → FanSt) (s : State) : (updFan i f s).seq = s.seq := rfl
@[simp] theorem updFan_wall (i : Nat) (f : FanSt → FanSt) (s : State) : (updFan i f s).wall = s.wall := rfl
@[simp] theorem updFan_sched (i : Nat) (f : FanSt → FanSt) (s : State) : (updFan i f s).sched = s.sched := rfl
@[simp] theorem updFan_key (i : Nat) (f : FanSt → FanSt) (s : State) : (updFan i f s).key = s.key := rfl
@[simp] theorem updFan_img (i : Nat) (f : FanSt → FanSt) (s : State) : (updFan i f s).img = s.img := rfl
@[simp] theorem updFan_pow (i : Nat) (f : FanSt → FanSt) (s : State) : (updFan i f s).pow = s.pow := rfl
@[simp] theorem updFan_thermal (i : Nat) (f : FanSt → FanSt) (s : State) : (updFan i f s).thermal = s.thermal := rfl
@[simp] theorem updFan_log (i : Nat) (f : FanSt → FanSt) (s : State) : (updFan i f s).log = s.log := rfl
@[simp] theorem updFan_maint (i : Nat) (f : FanSt → FanSt) (s : State) : (updFan i f s).maint = s.maint := rfl
@[simp] theorem updFan_heat (i : Nat) (f : FanSt → FanSt) (s : State) : (updFan i f s).heat = s.heat := rfl
@[simp] theorem updFan_caps (i : Nat) (f : FanSt → FanSt) (s : State) : (updFan i f s).caps = s.caps := rfl
@[simp] theorem updFan_plan (i : Nat) (f : FanSt → FanSt) (s : State) : (updFan i f s).plan = s.plan := rfl
@[simp] theorem updFan_plant (i : Nat) (f : FanSt → FanSt) (s : State) : (updFan i f s).plant = s.plant := rfl
@[simp] theorem updFan_eng (i : Nat) (f : FanSt → FanSt) (s : State) : (updFan i f s).eng = s.eng := rfl
@[simp] theorem updFan_ctl (i : Nat) (f : FanSt → FanSt) (s : State) : (updFan i f s).ctl = s.ctl := rfl
@[simp] theorem updFan_can (i : Nat) (f : FanSt → FanSt) (s : State) : (updFan i f s).can = s.can := rfl
@[simp] theorem updFan_link (i : Nat) (f : FanSt → FanSt) (s : State) : (updFan i f s).link = s.link := rfl
@[simp] theorem updFan_valve (i : Nat) (f : FanSt → FanSt) (s : State) : (updFan i f s).valve = s.valve := rfl
@[simp] theorem updFan_leak (i : Nat) (f : FanSt → FanSt) (s : State) : (updFan i f s).leak = s.leak := rfl
@[simp] theorem updFan_pair (i : Nat) (f : FanSt → FanSt) (s : State) : (updFan i f s).pair = s.pair := rfl
@[simp] theorem updFan_sec (i : Nat) (f : FanSt → FanSt) (s : State) : (updFan i f s).sec = s.sec := rfl
@[simp] theorem updFan_mgmt (i : Nat) (f : FanSt → FanSt) (s : State) : (updFan i f s).mgmt = s.mgmt := rfl
@[simp] theorem updFan_latch (i : Nat) (f : FanSt → FanSt) (s : State) : (updFan i f s).latch = s.latch := rfl
@[simp] theorem updFan_sent (i : Nat) (f : FanSt → FanSt) (s : State) : (updFan i f s).sent = s.sent := rfl
@[simp] theorem updFan_pending (i : Nat) (f : FanSt → FanSt) (s : State) : (updFan i f s).pending = s.pending := rfl

@[simp] theorem pumpCount_free (k : Nat) (s : State) : (pumpCount k s).free = s.free := rfl
@[simp] theorem pumpCount_seq (k : Nat) (s : State) : (pumpCount k s).seq = s.seq := rfl
@[simp] theorem pumpCount_wall (k : Nat) (s : State) : (pumpCount k s).wall = s.wall := rfl
@[simp] theorem pumpCount_sched (k : Nat) (s : State) : (pumpCount k s).sched = s.sched := rfl
@[simp] theorem pumpCount_key (k : Nat) (s : State) : (pumpCount k s).key = s.key := rfl
@[simp] theorem pumpCount_img (k : Nat) (s : State) : (pumpCount k s).img = s.img := rfl
@[simp] theorem pumpCount_pow (k : Nat) (s : State) : (pumpCount k s).pow = s.pow := rfl
@[simp] theorem pumpCount_thermal (k : Nat) (s : State) : (pumpCount k s).thermal = s.thermal := rfl
@[simp] theorem pumpCount_log (k : Nat) (s : State) : (pumpCount k s).log = s.log := rfl
@[simp] theorem pumpCount_maint (k : Nat) (s : State) : (pumpCount k s).maint = s.maint := rfl
@[simp] theorem pumpCount_heat (k : Nat) (s : State) : (pumpCount k s).heat = s.heat := rfl
@[simp] theorem pumpCount_caps (k : Nat) (s : State) : (pumpCount k s).caps = s.caps := rfl
@[simp] theorem pumpCount_plan (k : Nat) (s : State) : (pumpCount k s).plan = s.plan := rfl
@[simp] theorem pumpCount_plant (k : Nat) (s : State) : (pumpCount k s).plant = s.plant := rfl
@[simp] theorem pumpCount_eng (k : Nat) (s : State) : (pumpCount k s).eng = s.eng := rfl
@[simp] theorem pumpCount_ctl (k : Nat) (s : State) : (pumpCount k s).ctl = s.ctl := rfl
@[simp] theorem pumpCount_can (k : Nat) (s : State) : (pumpCount k s).can = s.can := rfl
@[simp] theorem pumpCount_link (k : Nat) (s : State) : (pumpCount k s).link = s.link := rfl
@[simp] theorem pumpCount_valve (k : Nat) (s : State) : (pumpCount k s).valve = s.valve := rfl
@[simp] theorem pumpCount_leak (k : Nat) (s : State) : (pumpCount k s).leak = s.leak := rfl
@[simp] theorem pumpCount_pair (k : Nat) (s : State) : (pumpCount k s).pair = s.pair := rfl
@[simp] theorem pumpCount_sec (k : Nat) (s : State) : (pumpCount k s).sec = s.sec := rfl
@[simp] theorem pumpCount_mgmt (k : Nat) (s : State) : (pumpCount k s).mgmt = s.mgmt := rfl
@[simp] theorem pumpCount_latch (k : Nat) (s : State) : (pumpCount k s).latch = s.latch := rfl
@[simp] theorem pumpCount_sent (k : Nat) (s : State) : (pumpCount k s).sent = s.sent := rfl
@[simp] theorem pumpCount_pending (k : Nat) (s : State) : (pumpCount k s).pending = s.pending := rfl

@[simp] theorem updCh_free (c : Nat) (f : ValveCh → ValveCh) (s : State) : (updCh c f s).free = s.free := rfl
@[simp] theorem updCh_seq (c : Nat) (f : ValveCh → ValveCh) (s : State) : (updCh c f s).seq = s.seq := rfl
@[simp] theorem updCh_wall (c : Nat) (f : ValveCh → ValveCh) (s : State) : (updCh c f s).wall = s.wall := rfl
@[simp] theorem updCh_sched (c : Nat) (f : ValveCh → ValveCh) (s : State) : (updCh c f s).sched = s.sched := rfl
@[simp] theorem updCh_key (c : Nat) (f : ValveCh → ValveCh) (s : State) : (updCh c f s).key = s.key := rfl
@[simp] theorem updCh_img (c : Nat) (f : ValveCh → ValveCh) (s : State) : (updCh c f s).img = s.img := rfl
@[simp] theorem updCh_pow (c : Nat) (f : ValveCh → ValveCh) (s : State) : (updCh c f s).pow = s.pow := rfl
@[simp] theorem updCh_thermal (c : Nat) (f : ValveCh → ValveCh) (s : State) : (updCh c f s).thermal = s.thermal := rfl
@[simp] theorem updCh_log (c : Nat) (f : ValveCh → ValveCh) (s : State) : (updCh c f s).log = s.log := rfl
@[simp] theorem updCh_maint (c : Nat) (f : ValveCh → ValveCh) (s : State) : (updCh c f s).maint = s.maint := rfl
@[simp] theorem updCh_heat (c : Nat) (f : ValveCh → ValveCh) (s : State) : (updCh c f s).heat = s.heat := rfl
@[simp] theorem updCh_caps (c : Nat) (f : ValveCh → ValveCh) (s : State) : (updCh c f s).caps = s.caps := rfl
@[simp] theorem updCh_plan (c : Nat) (f : ValveCh → ValveCh) (s : State) : (updCh c f s).plan = s.plan := rfl
@[simp] theorem updCh_plant (c : Nat) (f : ValveCh → ValveCh) (s : State) : (updCh c f s).plant = s.plant := rfl
@[simp] theorem updCh_eng (c : Nat) (f : ValveCh → ValveCh) (s : State) : (updCh c f s).eng = s.eng := rfl
@[simp] theorem updCh_ctl (c : Nat) (f : ValveCh → ValveCh) (s : State) : (updCh c f s).ctl = s.ctl := rfl
@[simp] theorem updCh_pump (c : Nat) (f : ValveCh → ValveCh) (s : State) : (updCh c f s).pump = s.pump := rfl
@[simp] theorem updCh_can (c : Nat) (f : ValveCh → ValveCh) (s : State) : (updCh c f s).can = s.can := rfl
@[simp] theorem updCh_link (c : Nat) (f : ValveCh → ValveCh) (s : State) : (updCh c f s).link = s.link := rfl
@[simp] theorem updCh_leak (c : Nat) (f : ValveCh → ValveCh) (s : State) : (updCh c f s).leak = s.leak := rfl
@[simp] theorem updCh_pair (c : Nat) (f : ValveCh → ValveCh) (s : State) : (updCh c f s).pair = s.pair := rfl
@[simp] theorem updCh_sec (c : Nat) (f : ValveCh → ValveCh) (s : State) : (updCh c f s).sec = s.sec := rfl
@[simp] theorem updCh_mgmt (c : Nat) (f : ValveCh → ValveCh) (s : State) : (updCh c f s).mgmt = s.mgmt := rfl
@[simp] theorem updCh_latch (c : Nat) (f : ValveCh → ValveCh) (s : State) : (updCh c f s).latch = s.latch := rfl
@[simp] theorem updCh_sent (c : Nat) (f : ValveCh → ValveCh) (s : State) : (updCh c f s).sent = s.sent := rfl
@[simp] theorem updCh_pending (c : Nat) (f : ValveCh → ValveCh) (s : State) : (updCh c f s).pending = s.pending := rfl

@[simp] theorem updBank_free (b : Nat) (f : ValveBank → ValveBank) (s : State) : (updBank b f s).free = s.free := rfl
@[simp] theorem updBank_seq (b : Nat) (f : ValveBank → ValveBank) (s : State) : (updBank b f s).seq = s.seq := rfl
@[simp] theorem updBank_wall (b : Nat) (f : ValveBank → ValveBank) (s : State) : (updBank b f s).wall = s.wall := rfl
@[simp] theorem updBank_sched (b : Nat) (f : ValveBank → ValveBank) (s : State) : (updBank b f s).sched = s.sched := rfl
@[simp] theorem updBank_key (b : Nat) (f : ValveBank → ValveBank) (s : State) : (updBank b f s).key = s.key := rfl
@[simp] theorem updBank_img (b : Nat) (f : ValveBank → ValveBank) (s : State) : (updBank b f s).img = s.img := rfl
@[simp] theorem updBank_pow (b : Nat) (f : ValveBank → ValveBank) (s : State) : (updBank b f s).pow = s.pow := rfl
@[simp] theorem updBank_thermal (b : Nat) (f : ValveBank → ValveBank) (s : State) : (updBank b f s).thermal = s.thermal := rfl
@[simp] theorem updBank_log (b : Nat) (f : ValveBank → ValveBank) (s : State) : (updBank b f s).log = s.log := rfl
@[simp] theorem updBank_maint (b : Nat) (f : ValveBank → ValveBank) (s : State) : (updBank b f s).maint = s.maint := rfl
@[simp] theorem updBank_heat (b : Nat) (f : ValveBank → ValveBank) (s : State) : (updBank b f s).heat = s.heat := rfl
@[simp] theorem updBank_caps (b : Nat) (f : ValveBank → ValveBank) (s : State) : (updBank b f s).caps = s.caps := rfl
@[simp] theorem updBank_plan (b : Nat) (f : ValveBank → ValveBank) (s : State) : (updBank b f s).plan = s.plan := rfl
@[simp] theorem updBank_plant (b : Nat) (f : ValveBank → ValveBank) (s : State) : (updBank b f s).plant = s.plant := rfl
@[simp] theorem updBank_eng (b : Nat) (f : ValveBank → ValveBank) (s : State) : (updBank b f s).eng = s.eng := rfl
@[simp] theorem updBank_ctl (b : Nat) (f : ValveBank → ValveBank) (s : State) : (updBank b f s).ctl = s.ctl := rfl
@[simp] theorem updBank_pump (b : Nat) (f : ValveBank → ValveBank) (s : State) : (updBank b f s).pump = s.pump := rfl
@[simp] theorem updBank_can (b : Nat) (f : ValveBank → ValveBank) (s : State) : (updBank b f s).can = s.can := rfl
@[simp] theorem updBank_link (b : Nat) (f : ValveBank → ValveBank) (s : State) : (updBank b f s).link = s.link := rfl
@[simp] theorem updBank_leak (b : Nat) (f : ValveBank → ValveBank) (s : State) : (updBank b f s).leak = s.leak := rfl
@[simp] theorem updBank_pair (b : Nat) (f : ValveBank → ValveBank) (s : State) : (updBank b f s).pair = s.pair := rfl
@[simp] theorem updBank_sec (b : Nat) (f : ValveBank → ValveBank) (s : State) : (updBank b f s).sec = s.sec := rfl
@[simp] theorem updBank_mgmt (b : Nat) (f : ValveBank → ValveBank) (s : State) : (updBank b f s).mgmt = s.mgmt := rfl
@[simp] theorem updBank_latch (b : Nat) (f : ValveBank → ValveBank) (s : State) : (updBank b f s).latch = s.latch := rfl
@[simp] theorem updBank_sent (b : Nat) (f : ValveBank → ValveBank) (s : State) : (updBank b f s).sent = s.sent := rfl
@[simp] theorem updBank_pending (b : Nat) (f : ValveBank → ValveBank) (s : State) : (updBank b f s).pending = s.pending := rfl

@[simp] theorem valveCount_free (k : Nat) (s : State) : (valveCount k s).free = s.free := rfl
@[simp] theorem valveCount_seq (k : Nat) (s : State) : (valveCount k s).seq = s.seq := rfl
@[simp] theorem valveCount_wall (k : Nat) (s : State) : (valveCount k s).wall = s.wall := rfl
@[simp] theorem valveCount_sched (k : Nat) (s : State) : (valveCount k s).sched = s.sched := rfl
@[simp] theorem valveCount_key (k : Nat) (s : State) : (valveCount k s).key = s.key := rfl
@[simp] theorem valveCount_img (k : Nat) (s : State) : (valveCount k s).img = s.img := rfl
@[simp] theorem valveCount_pow (k : Nat) (s : State) : (valveCount k s).pow = s.pow := rfl
@[simp] theorem valveCount_thermal (k : Nat) (s : State) : (valveCount k s).thermal = s.thermal := rfl
@[simp] theorem valveCount_log (k : Nat) (s : State) : (valveCount k s).log = s.log := rfl
@[simp] theorem valveCount_maint (k : Nat) (s : State) : (valveCount k s).maint = s.maint := rfl
@[simp] theorem valveCount_heat (k : Nat) (s : State) : (valveCount k s).heat = s.heat := rfl
@[simp] theorem valveCount_caps (k : Nat) (s : State) : (valveCount k s).caps = s.caps := rfl
@[simp] theorem valveCount_plan (k : Nat) (s : State) : (valveCount k s).plan = s.plan := rfl
@[simp] theorem valveCount_plant (k : Nat) (s : State) : (valveCount k s).plant = s.plant := rfl
@[simp] theorem valveCount_eng (k : Nat) (s : State) : (valveCount k s).eng = s.eng := rfl
@[simp] theorem valveCount_ctl (k : Nat) (s : State) : (valveCount k s).ctl = s.ctl := rfl
@[simp] theorem valveCount_pump (k : Nat) (s : State) : (valveCount k s).pump = s.pump := rfl
@[simp] theorem valveCount_can (k : Nat) (s : State) : (valveCount k s).can = s.can := rfl
@[simp] theorem valveCount_link (k : Nat) (s : State) : (valveCount k s).link = s.link := rfl
@[simp] theorem valveCount_leak (k : Nat) (s : State) : (valveCount k s).leak = s.leak := rfl
@[simp] theorem valveCount_pair (k : Nat) (s : State) : (valveCount k s).pair = s.pair := rfl
@[simp] theorem valveCount_sec (k : Nat) (s : State) : (valveCount k s).sec = s.sec := rfl
@[simp] theorem valveCount_mgmt (k : Nat) (s : State) : (valveCount k s).mgmt = s.mgmt := rfl
@[simp] theorem valveCount_latch (k : Nat) (s : State) : (valveCount k s).latch = s.latch := rfl
@[simp] theorem valveCount_sent (k : Nat) (s : State) : (valveCount k s).sent = s.sent := rfl
@[simp] theorem valveCount_pending (k : Nat) (s : State) : (valveCount k s).pending = s.pending := rfl

@[simp] theorem updLeakIn_free (i : Nat) (f : LeakInput → LeakInput) (s : State) : (updLeakIn i f s).free = s.free := rfl
@[simp] theorem updLeakIn_seq (i : Nat) (f : LeakInput → LeakInput) (s : State) : (updLeakIn i f s).seq = s.seq := rfl
@[simp] theorem updLeakIn_wall (i : Nat) (f : LeakInput → LeakInput) (s : State) : (updLeakIn i f s).wall = s.wall := rfl
@[simp] theorem updLeakIn_sched (i : Nat) (f : LeakInput → LeakInput) (s : State) : (updLeakIn i f s).sched = s.sched := rfl
@[simp] theorem updLeakIn_key (i : Nat) (f : LeakInput → LeakInput) (s : State) : (updLeakIn i f s).key = s.key := rfl
@[simp] theorem updLeakIn_img (i : Nat) (f : LeakInput → LeakInput) (s : State) : (updLeakIn i f s).img = s.img := rfl
@[simp] theorem updLeakIn_pow (i : Nat) (f : LeakInput → LeakInput) (s : State) : (updLeakIn i f s).pow = s.pow := rfl
@[simp] theorem updLeakIn_thermal (i : Nat) (f : LeakInput → LeakInput) (s : State) : (updLeakIn i f s).thermal = s.thermal := rfl
@[simp] theorem updLeakIn_log (i : Nat) (f : LeakInput → LeakInput) (s : State) : (updLeakIn i f s).log = s.log := rfl
@[simp] theorem updLeakIn_maint (i : Nat) (f : LeakInput → LeakInput) (s : State) : (updLeakIn i f s).maint = s.maint := rfl
@[simp] theorem updLeakIn_heat (i : Nat) (f : LeakInput → LeakInput) (s : State) : (updLeakIn i f s).heat = s.heat := rfl
@[simp] theorem updLeakIn_caps (i : Nat) (f : LeakInput → LeakInput) (s : State) : (updLeakIn i f s).caps = s.caps := rfl
@[simp] theorem updLeakIn_plan (i : Nat) (f : LeakInput → LeakInput) (s : State) : (updLeakIn i f s).plan = s.plan := rfl
@[simp] theorem updLeakIn_plant (i : Nat) (f : LeakInput → LeakInput) (s : State) : (updLeakIn i f s).plant = s.plant := rfl
@[simp] theorem updLeakIn_eng (i : Nat) (f : LeakInput → LeakInput) (s : State) : (updLeakIn i f s).eng = s.eng := rfl
@[simp] theorem updLeakIn_ctl (i : Nat) (f : LeakInput → LeakInput) (s : State) : (updLeakIn i f s).ctl = s.ctl := rfl
@[simp] theorem updLeakIn_pump (i : Nat) (f : LeakInput → LeakInput) (s : State) : (updLeakIn i f s).pump = s.pump := rfl
@[simp] theorem updLeakIn_can (i : Nat) (f : LeakInput → LeakInput) (s : State) : (updLeakIn i f s).can = s.can := rfl
@[simp] theorem updLeakIn_link (i : Nat) (f : LeakInput → LeakInput) (s : State) : (updLeakIn i f s).link = s.link := rfl
@[simp] theorem updLeakIn_valve (i : Nat) (f : LeakInput → LeakInput) (s : State) : (updLeakIn i f s).valve = s.valve := rfl
@[simp] theorem updLeakIn_pair (i : Nat) (f : LeakInput → LeakInput) (s : State) : (updLeakIn i f s).pair = s.pair := rfl
@[simp] theorem updLeakIn_sec (i : Nat) (f : LeakInput → LeakInput) (s : State) : (updLeakIn i f s).sec = s.sec := rfl
@[simp] theorem updLeakIn_mgmt (i : Nat) (f : LeakInput → LeakInput) (s : State) : (updLeakIn i f s).mgmt = s.mgmt := rfl
@[simp] theorem updLeakIn_latch (i : Nat) (f : LeakInput → LeakInput) (s : State) : (updLeakIn i f s).latch = s.latch := rfl
@[simp] theorem updLeakIn_sent (i : Nat) (f : LeakInput → LeakInput) (s : State) : (updLeakIn i f s).sent = s.sent := rfl
@[simp] theorem updLeakIn_pending (i : Nat) (f : LeakInput → LeakInput) (s : State) : (updLeakIn i f s).pending = s.pending := rfl

@[simp] theorem updLeak_free (l : Nat) (f : LoopLeak → LoopLeak) (s : State) : (updLeak l f s).free = s.free := rfl
@[simp] theorem updLeak_seq (l : Nat) (f : LoopLeak → LoopLeak) (s : State) : (updLeak l f s).seq = s.seq := rfl
@[simp] theorem updLeak_wall (l : Nat) (f : LoopLeak → LoopLeak) (s : State) : (updLeak l f s).wall = s.wall := rfl
@[simp] theorem updLeak_sched (l : Nat) (f : LoopLeak → LoopLeak) (s : State) : (updLeak l f s).sched = s.sched := rfl
@[simp] theorem updLeak_key (l : Nat) (f : LoopLeak → LoopLeak) (s : State) : (updLeak l f s).key = s.key := rfl
@[simp] theorem updLeak_img (l : Nat) (f : LoopLeak → LoopLeak) (s : State) : (updLeak l f s).img = s.img := rfl
@[simp] theorem updLeak_pow (l : Nat) (f : LoopLeak → LoopLeak) (s : State) : (updLeak l f s).pow = s.pow := rfl
@[simp] theorem updLeak_thermal (l : Nat) (f : LoopLeak → LoopLeak) (s : State) : (updLeak l f s).thermal = s.thermal := rfl
@[simp] theorem updLeak_log (l : Nat) (f : LoopLeak → LoopLeak) (s : State) : (updLeak l f s).log = s.log := rfl
@[simp] theorem updLeak_maint (l : Nat) (f : LoopLeak → LoopLeak) (s : State) : (updLeak l f s).maint = s.maint := rfl
@[simp] theorem updLeak_heat (l : Nat) (f : LoopLeak → LoopLeak) (s : State) : (updLeak l f s).heat = s.heat := rfl
@[simp] theorem updLeak_caps (l : Nat) (f : LoopLeak → LoopLeak) (s : State) : (updLeak l f s).caps = s.caps := rfl
@[simp] theorem updLeak_plan (l : Nat) (f : LoopLeak → LoopLeak) (s : State) : (updLeak l f s).plan = s.plan := rfl
@[simp] theorem updLeak_plant (l : Nat) (f : LoopLeak → LoopLeak) (s : State) : (updLeak l f s).plant = s.plant := rfl
@[simp] theorem updLeak_eng (l : Nat) (f : LoopLeak → LoopLeak) (s : State) : (updLeak l f s).eng = s.eng := rfl
@[simp] theorem updLeak_ctl (l : Nat) (f : LoopLeak → LoopLeak) (s : State) : (updLeak l f s).ctl = s.ctl := rfl
@[simp] theorem updLeak_pump (l : Nat) (f : LoopLeak → LoopLeak) (s : State) : (updLeak l f s).pump = s.pump := rfl
@[simp] theorem updLeak_can (l : Nat) (f : LoopLeak → LoopLeak) (s : State) : (updLeak l f s).can = s.can := rfl
@[simp] theorem updLeak_link (l : Nat) (f : LoopLeak → LoopLeak) (s : State) : (updLeak l f s).link = s.link := rfl
@[simp] theorem updLeak_valve (l : Nat) (f : LoopLeak → LoopLeak) (s : State) : (updLeak l f s).valve = s.valve := rfl
@[simp] theorem updLeak_pair (l : Nat) (f : LoopLeak → LoopLeak) (s : State) : (updLeak l f s).pair = s.pair := rfl
@[simp] theorem updLeak_sec (l : Nat) (f : LoopLeak → LoopLeak) (s : State) : (updLeak l f s).sec = s.sec := rfl
@[simp] theorem updLeak_mgmt (l : Nat) (f : LoopLeak → LoopLeak) (s : State) : (updLeak l f s).mgmt = s.mgmt := rfl
@[simp] theorem updLeak_latch (l : Nat) (f : LoopLeak → LoopLeak) (s : State) : (updLeak l f s).latch = s.latch := rfl
@[simp] theorem updLeak_sent (l : Nat) (f : LoopLeak → LoopLeak) (s : State) : (updLeak l f s).sent = s.sent := rfl
@[simp] theorem updLeak_pending (l : Nat) (f : LoopLeak → LoopLeak) (s : State) : (updLeak l f s).pending = s.pending := rfl

@[simp] theorem leakCount_free (k : Nat) (s : State) : (leakCount k s).free = s.free := rfl
@[simp] theorem leakCount_seq (k : Nat) (s : State) : (leakCount k s).seq = s.seq := rfl
@[simp] theorem leakCount_wall (k : Nat) (s : State) : (leakCount k s).wall = s.wall := rfl
@[simp] theorem leakCount_sched (k : Nat) (s : State) : (leakCount k s).sched = s.sched := rfl
@[simp] theorem leakCount_key (k : Nat) (s : State) : (leakCount k s).key = s.key := rfl
@[simp] theorem leakCount_img (k : Nat) (s : State) : (leakCount k s).img = s.img := rfl
@[simp] theorem leakCount_pow (k : Nat) (s : State) : (leakCount k s).pow = s.pow := rfl
@[simp] theorem leakCount_thermal (k : Nat) (s : State) : (leakCount k s).thermal = s.thermal := rfl
@[simp] theorem leakCount_log (k : Nat) (s : State) : (leakCount k s).log = s.log := rfl
@[simp] theorem leakCount_maint (k : Nat) (s : State) : (leakCount k s).maint = s.maint := rfl
@[simp] theorem leakCount_heat (k : Nat) (s : State) : (leakCount k s).heat = s.heat := rfl
@[simp] theorem leakCount_caps (k : Nat) (s : State) : (leakCount k s).caps = s.caps := rfl
@[simp] theorem leakCount_plan (k : Nat) (s : State) : (leakCount k s).plan = s.plan := rfl
@[simp] theorem leakCount_plant (k : Nat) (s : State) : (leakCount k s).plant = s.plant := rfl
@[simp] theorem leakCount_eng (k : Nat) (s : State) : (leakCount k s).eng = s.eng := rfl
@[simp] theorem leakCount_ctl (k : Nat) (s : State) : (leakCount k s).ctl = s.ctl := rfl
@[simp] theorem leakCount_pump (k : Nat) (s : State) : (leakCount k s).pump = s.pump := rfl
@[simp] theorem leakCount_can (k : Nat) (s : State) : (leakCount k s).can = s.can := rfl
@[simp] theorem leakCount_link (k : Nat) (s : State) : (leakCount k s).link = s.link := rfl
@[simp] theorem leakCount_valve (k : Nat) (s : State) : (leakCount k s).valve = s.valve := rfl
@[simp] theorem leakCount_pair (k : Nat) (s : State) : (leakCount k s).pair = s.pair := rfl
@[simp] theorem leakCount_sec (k : Nat) (s : State) : (leakCount k s).sec = s.sec := rfl
@[simp] theorem leakCount_mgmt (k : Nat) (s : State) : (leakCount k s).mgmt = s.mgmt := rfl
@[simp] theorem leakCount_latch (k : Nat) (s : State) : (leakCount k s).latch = s.latch := rfl
@[simp] theorem leakCount_sent (k : Nat) (s : State) : (leakCount k s).sent = s.sent := rfl
@[simp] theorem leakCount_pending (k : Nat) (s : State) : (leakCount k s).pending = s.pending := rfl

@[simp] theorem updCan_free (c : Nat) (f : CanCh → CanCh) (s : State) : (updCan c f s).free = s.free := rfl
@[simp] theorem updCan_seq (c : Nat) (f : CanCh → CanCh) (s : State) : (updCan c f s).seq = s.seq := rfl
@[simp] theorem updCan_wall (c : Nat) (f : CanCh → CanCh) (s : State) : (updCan c f s).wall = s.wall := rfl
@[simp] theorem updCan_sched (c : Nat) (f : CanCh → CanCh) (s : State) : (updCan c f s).sched = s.sched := rfl
@[simp] theorem updCan_key (c : Nat) (f : CanCh → CanCh) (s : State) : (updCan c f s).key = s.key := rfl
@[simp] theorem updCan_img (c : Nat) (f : CanCh → CanCh) (s : State) : (updCan c f s).img = s.img := rfl
@[simp] theorem updCan_pow (c : Nat) (f : CanCh → CanCh) (s : State) : (updCan c f s).pow = s.pow := rfl
@[simp] theorem updCan_thermal (c : Nat) (f : CanCh → CanCh) (s : State) : (updCan c f s).thermal = s.thermal := rfl
@[simp] theorem updCan_log (c : Nat) (f : CanCh → CanCh) (s : State) : (updCan c f s).log = s.log := rfl
@[simp] theorem updCan_maint (c : Nat) (f : CanCh → CanCh) (s : State) : (updCan c f s).maint = s.maint := rfl
@[simp] theorem updCan_heat (c : Nat) (f : CanCh → CanCh) (s : State) : (updCan c f s).heat = s.heat := rfl
@[simp] theorem updCan_caps (c : Nat) (f : CanCh → CanCh) (s : State) : (updCan c f s).caps = s.caps := rfl
@[simp] theorem updCan_plan (c : Nat) (f : CanCh → CanCh) (s : State) : (updCan c f s).plan = s.plan := rfl
@[simp] theorem updCan_plant (c : Nat) (f : CanCh → CanCh) (s : State) : (updCan c f s).plant = s.plant := rfl
@[simp] theorem updCan_eng (c : Nat) (f : CanCh → CanCh) (s : State) : (updCan c f s).eng = s.eng := rfl
@[simp] theorem updCan_ctl (c : Nat) (f : CanCh → CanCh) (s : State) : (updCan c f s).ctl = s.ctl := rfl
@[simp] theorem updCan_pump (c : Nat) (f : CanCh → CanCh) (s : State) : (updCan c f s).pump = s.pump := rfl
@[simp] theorem updCan_link (c : Nat) (f : CanCh → CanCh) (s : State) : (updCan c f s).link = s.link := rfl
@[simp] theorem updCan_valve (c : Nat) (f : CanCh → CanCh) (s : State) : (updCan c f s).valve = s.valve := rfl
@[simp] theorem updCan_leak (c : Nat) (f : CanCh → CanCh) (s : State) : (updCan c f s).leak = s.leak := rfl
@[simp] theorem updCan_pair (c : Nat) (f : CanCh → CanCh) (s : State) : (updCan c f s).pair = s.pair := rfl
@[simp] theorem updCan_sec (c : Nat) (f : CanCh → CanCh) (s : State) : (updCan c f s).sec = s.sec := rfl
@[simp] theorem updCan_mgmt (c : Nat) (f : CanCh → CanCh) (s : State) : (updCan c f s).mgmt = s.mgmt := rfl
@[simp] theorem updCan_latch (c : Nat) (f : CanCh → CanCh) (s : State) : (updCan c f s).latch = s.latch := rfl
@[simp] theorem updCan_sent (c : Nat) (f : CanCh → CanCh) (s : State) : (updCan c f s).sent = s.sent := rfl
@[simp] theorem updCan_pending (c : Nat) (f : CanCh → CanCh) (s : State) : (updCan c f s).pending = s.pending := rfl

@[simp] theorem canSum_free (k : Nat) (s : State) : (canSum k s).free = s.free := rfl
@[simp] theorem canSum_seq (k : Nat) (s : State) : (canSum k s).seq = s.seq := rfl
@[simp] theorem canSum_wall (k : Nat) (s : State) : (canSum k s).wall = s.wall := rfl
@[simp] theorem canSum_sched (k : Nat) (s : State) : (canSum k s).sched = s.sched := rfl
@[simp] theorem canSum_key (k : Nat) (s : State) : (canSum k s).key = s.key := rfl
@[simp] theorem canSum_img (k : Nat) (s : State) : (canSum k s).img = s.img := rfl
@[simp] theorem canSum_pow (k : Nat) (s : State) : (canSum k s).pow = s.pow := rfl
@[simp] theorem canSum_thermal (k : Nat) (s : State) : (canSum k s).thermal = s.thermal := rfl
@[simp] theorem canSum_log (k : Nat) (s : State) : (canSum k s).log = s.log := rfl
@[simp] theorem canSum_maint (k : Nat) (s : State) : (canSum k s).maint = s.maint := rfl
@[simp] theorem canSum_heat (k : Nat) (s : State) : (canSum k s).heat = s.heat := rfl
@[simp] theorem canSum_caps (k : Nat) (s : State) : (canSum k s).caps = s.caps := rfl
@[simp] theorem canSum_plan (k : Nat) (s : State) : (canSum k s).plan = s.plan := rfl
@[simp] theorem canSum_plant (k : Nat) (s : State) : (canSum k s).plant = s.plant := rfl
@[simp] theorem canSum_eng (k : Nat) (s : State) : (canSum k s).eng = s.eng := rfl
@[simp] theorem canSum_ctl (k : Nat) (s : State) : (canSum k s).ctl = s.ctl := rfl
@[simp] theorem canSum_pump (k : Nat) (s : State) : (canSum k s).pump = s.pump := rfl
@[simp] theorem canSum_link (k : Nat) (s : State) : (canSum k s).link = s.link := rfl
@[simp] theorem canSum_valve (k : Nat) (s : State) : (canSum k s).valve = s.valve := rfl
@[simp] theorem canSum_leak (k : Nat) (s : State) : (canSum k s).leak = s.leak := rfl
@[simp] theorem canSum_pair (k : Nat) (s : State) : (canSum k s).pair = s.pair := rfl
@[simp] theorem canSum_sec (k : Nat) (s : State) : (canSum k s).sec = s.sec := rfl
@[simp] theorem canSum_mgmt (k : Nat) (s : State) : (canSum k s).mgmt = s.mgmt := rfl
@[simp] theorem canSum_latch (k : Nat) (s : State) : (canSum k s).latch = s.latch := rfl
@[simp] theorem canSum_sent (k : Nat) (s : State) : (canSum k s).sent = s.sent := rfl
@[simp] theorem canSum_pending (k : Nat) (s : State) : (canSum k s).pending = s.pending := rfl

@[simp] theorem setPair_free (f : PairSt → PairSt) (s : State) : (setPair f s).free = s.free := rfl
@[simp] theorem setPair_seq (f : PairSt → PairSt) (s : State) : (setPair f s).seq = s.seq := rfl
@[simp] theorem setPair_wall (f : PairSt → PairSt) (s : State) : (setPair f s).wall = s.wall := rfl
@[simp] theorem setPair_sched (f : PairSt → PairSt) (s : State) : (setPair f s).sched = s.sched := rfl
@[simp] theorem setPair_key (f : PairSt → PairSt) (s : State) : (setPair f s).key = s.key := rfl
@[simp] theorem setPair_img (f : PairSt → PairSt) (s : State) : (setPair f s).img = s.img := rfl
@[simp] theorem setPair_pow (f : PairSt → PairSt) (s : State) : (setPair f s).pow = s.pow := rfl
@[simp] theorem setPair_thermal (f : PairSt → PairSt) (s : State) : (setPair f s).thermal = s.thermal := rfl
@[simp] theorem setPair_log (f : PairSt → PairSt) (s : State) : (setPair f s).log = s.log := rfl
@[simp] theorem setPair_maint (f : PairSt → PairSt) (s : State) : (setPair f s).maint = s.maint := rfl
@[simp] theorem setPair_heat (f : PairSt → PairSt) (s : State) : (setPair f s).heat = s.heat := rfl
@[simp] theorem setPair_caps (f : PairSt → PairSt) (s : State) : (setPair f s).caps = s.caps := rfl
@[simp] theorem setPair_plan (f : PairSt → PairSt) (s : State) : (setPair f s).plan = s.plan := rfl
@[simp] theorem setPair_plant (f : PairSt → PairSt) (s : State) : (setPair f s).plant = s.plant := rfl
@[simp] theorem setPair_eng (f : PairSt → PairSt) (s : State) : (setPair f s).eng = s.eng := rfl
@[simp] theorem setPair_ctl (f : PairSt → PairSt) (s : State) : (setPair f s).ctl = s.ctl := rfl
@[simp] theorem setPair_pump (f : PairSt → PairSt) (s : State) : (setPair f s).pump = s.pump := rfl
@[simp] theorem setPair_can (f : PairSt → PairSt) (s : State) : (setPair f s).can = s.can := rfl
@[simp] theorem setPair_link (f : PairSt → PairSt) (s : State) : (setPair f s).link = s.link := rfl
@[simp] theorem setPair_valve (f : PairSt → PairSt) (s : State) : (setPair f s).valve = s.valve := rfl
@[simp] theorem setPair_leak (f : PairSt → PairSt) (s : State) : (setPair f s).leak = s.leak := rfl
@[simp] theorem setPair_sec (f : PairSt → PairSt) (s : State) : (setPair f s).sec = s.sec := rfl
@[simp] theorem setPair_mgmt (f : PairSt → PairSt) (s : State) : (setPair f s).mgmt = s.mgmt := rfl
@[simp] theorem setPair_latch (f : PairSt → PairSt) (s : State) : (setPair f s).latch = s.latch := rfl
@[simp] theorem setPair_sent (f : PairSt → PairSt) (s : State) : (setPair f s).sent = s.sent := rfl
@[simp] theorem setPair_pending (f : PairSt → PairSt) (s : State) : (setPair f s).pending = s.pending := rfl

@[simp] theorem setPlan_free (f : Plan → Plan) (s : State) : (setPlan f s).free = s.free := rfl
@[simp] theorem setPlan_seq (f : Plan → Plan) (s : State) : (setPlan f s).seq = s.seq := rfl
@[simp] theorem setPlan_wall (f : Plan → Plan) (s : State) : (setPlan f s).wall = s.wall := rfl
@[simp] theorem setPlan_sched (f : Plan → Plan) (s : State) : (setPlan f s).sched = s.sched := rfl
@[simp] theorem setPlan_key (f : Plan → Plan) (s : State) : (setPlan f s).key = s.key := rfl
@[simp] theorem setPlan_img (f : Plan → Plan) (s : State) : (setPlan f s).img = s.img := rfl
@[simp] theorem setPlan_pow (f : Plan → Plan) (s : State) : (setPlan f s).pow = s.pow := rfl
@[simp] theorem setPlan_thermal (f : Plan → Plan) (s : State) : (setPlan f s).thermal = s.thermal := rfl
@[simp] theorem setPlan_log (f : Plan → Plan) (s : State) : (setPlan f s).log = s.log := rfl
@[simp] theorem setPlan_maint (f : Plan → Plan) (s : State) : (setPlan f s).maint = s.maint := rfl
@[simp] theorem setPlan_heat (f : Plan → Plan) (s : State) : (setPlan f s).heat = s.heat := rfl
@[simp] theorem setPlan_caps (f : Plan → Plan) (s : State) : (setPlan f s).caps = s.caps := rfl
@[simp] theorem setPlan_plant (f : Plan → Plan) (s : State) : (setPlan f s).plant = s.plant := rfl
@[simp] theorem setPlan_eng (f : Plan → Plan) (s : State) : (setPlan f s).eng = s.eng := rfl
@[simp] theorem setPlan_ctl (f : Plan → Plan) (s : State) : (setPlan f s).ctl = s.ctl := rfl
@[simp] theorem setPlan_pump (f : Plan → Plan) (s : State) : (setPlan f s).pump = s.pump := rfl
@[simp] theorem setPlan_can (f : Plan → Plan) (s : State) : (setPlan f s).can = s.can := rfl
@[simp] theorem setPlan_link (f : Plan → Plan) (s : State) : (setPlan f s).link = s.link := rfl
@[simp] theorem setPlan_valve (f : Plan → Plan) (s : State) : (setPlan f s).valve = s.valve := rfl
@[simp] theorem setPlan_leak (f : Plan → Plan) (s : State) : (setPlan f s).leak = s.leak := rfl
@[simp] theorem setPlan_pair (f : Plan → Plan) (s : State) : (setPlan f s).pair = s.pair := rfl
@[simp] theorem setPlan_sec (f : Plan → Plan) (s : State) : (setPlan f s).sec = s.sec := rfl
@[simp] theorem setPlan_mgmt (f : Plan → Plan) (s : State) : (setPlan f s).mgmt = s.mgmt := rfl
@[simp] theorem setPlan_latch (f : Plan → Plan) (s : State) : (setPlan f s).latch = s.latch := rfl
@[simp] theorem setPlan_sent (f : Plan → Plan) (s : State) : (setPlan f s).sent = s.sent := rfl
@[simp] theorem setPlan_pending (f : Plan → Plan) (s : State) : (setPlan f s).pending = s.pending := rfl

@[simp] theorem setSec_free (f : Security → Security) (s : State) : (setSec f s).free = s.free := rfl
@[simp] theorem setSec_seq (f : Security → Security) (s : State) : (setSec f s).seq = s.seq := rfl
@[simp] theorem setSec_wall (f : Security → Security) (s : State) : (setSec f s).wall = s.wall := rfl
@[simp] theorem setSec_sched (f : Security → Security) (s : State) : (setSec f s).sched = s.sched := rfl
@[simp] theorem setSec_key (f : Security → Security) (s : State) : (setSec f s).key = s.key := rfl
@[simp] theorem setSec_img (f : Security → Security) (s : State) : (setSec f s).img = s.img := rfl
@[simp] theorem setSec_pow (f : Security → Security) (s : State) : (setSec f s).pow = s.pow := rfl
@[simp] theorem setSec_thermal (f : Security → Security) (s : State) : (setSec f s).thermal = s.thermal := rfl
@[simp] theorem setSec_log (f : Security → Security) (s : State) : (setSec f s).log = s.log := rfl
@[simp] theorem setSec_maint (f : Security → Security) (s : State) : (setSec f s).maint = s.maint := rfl
@[simp] theorem setSec_heat (f : Security → Security) (s : State) : (setSec f s).heat = s.heat := rfl
@[simp] theorem setSec_caps (f : Security → Security) (s : State) : (setSec f s).caps = s.caps := rfl
@[simp] theorem setSec_plan (f : Security → Security) (s : State) : (setSec f s).plan = s.plan := rfl
@[simp] theorem setSec_plant (f : Security → Security) (s : State) : (setSec f s).plant = s.plant := rfl
@[simp] theorem setSec_eng (f : Security → Security) (s : State) : (setSec f s).eng = s.eng := rfl
@[simp] theorem setSec_ctl (f : Security → Security) (s : State) : (setSec f s).ctl = s.ctl := rfl
@[simp] theorem setSec_pump (f : Security → Security) (s : State) : (setSec f s).pump = s.pump := rfl
@[simp] theorem setSec_can (f : Security → Security) (s : State) : (setSec f s).can = s.can := rfl
@[simp] theorem setSec_link (f : Security → Security) (s : State) : (setSec f s).link = s.link := rfl
@[simp] theorem setSec_valve (f : Security → Security) (s : State) : (setSec f s).valve = s.valve := rfl
@[simp] theorem setSec_leak (f : Security → Security) (s : State) : (setSec f s).leak = s.leak := rfl
@[simp] theorem setSec_pair (f : Security → Security) (s : State) : (setSec f s).pair = s.pair := rfl
@[simp] theorem setSec_mgmt (f : Security → Security) (s : State) : (setSec f s).mgmt = s.mgmt := rfl
@[simp] theorem setSec_latch (f : Security → Security) (s : State) : (setSec f s).latch = s.latch := rfl
@[simp] theorem setSec_sent (f : Security → Security) (s : State) : (setSec f s).sent = s.sent := rfl
@[simp] theorem setSec_pending (f : Security → Security) (s : State) : (setSec f s).pending = s.pending := rfl

@[simp] theorem updSession_free (i : Nat) (f : Session → Session) (s : State) : (updSession i f s).free = s.free := rfl
@[simp] theorem updSession_seq (i : Nat) (f : Session → Session) (s : State) : (updSession i f s).seq = s.seq := rfl
@[simp] theorem updSession_wall (i : Nat) (f : Session → Session) (s : State) : (updSession i f s).wall = s.wall := rfl
@[simp] theorem updSession_sched (i : Nat) (f : Session → Session) (s : State) : (updSession i f s).sched = s.sched := rfl
@[simp] theorem updSession_key (i : Nat) (f : Session → Session) (s : State) : (updSession i f s).key = s.key := rfl
@[simp] theorem updSession_img (i : Nat) (f : Session → Session) (s : State) : (updSession i f s).img = s.img := rfl
@[simp] theorem updSession_pow (i : Nat) (f : Session → Session) (s : State) : (updSession i f s).pow = s.pow := rfl
@[simp] theorem updSession_thermal (i : Nat) (f : Session → Session) (s : State) : (updSession i f s).thermal = s.thermal := rfl
@[simp] theorem updSession_log (i : Nat) (f : Session → Session) (s : State) : (updSession i f s).log = s.log := rfl
@[simp] theorem updSession_maint (i : Nat) (f : Session → Session) (s : State) : (updSession i f s).maint = s.maint := rfl
@[simp] theorem updSession_heat (i : Nat) (f : Session → Session) (s : State) : (updSession i f s).heat = s.heat := rfl
@[simp] theorem updSession_caps (i : Nat) (f : Session → Session) (s : State) : (updSession i f s).caps = s.caps := rfl
@[simp] theorem updSession_plan (i : Nat) (f : Session → Session) (s : State) : (updSession i f s).plan = s.plan := rfl
@[simp] theorem updSession_plant (i : Nat) (f : Session → Session) (s : State) : (updSession i f s).plant = s.plant := rfl
@[simp] theorem updSession_eng (i : Nat) (f : Session → Session) (s : State) : (updSession i f s).eng = s.eng := rfl
@[simp] theorem updSession_ctl (i : Nat) (f : Session → Session) (s : State) : (updSession i f s).ctl = s.ctl := rfl
@[simp] theorem updSession_pump (i : Nat) (f : Session → Session) (s : State) : (updSession i f s).pump = s.pump := rfl
@[simp] theorem updSession_can (i : Nat) (f : Session → Session) (s : State) : (updSession i f s).can = s.can := rfl
@[simp] theorem updSession_link (i : Nat) (f : Session → Session) (s : State) : (updSession i f s).link = s.link := rfl
@[simp] theorem updSession_valve (i : Nat) (f : Session → Session) (s : State) : (updSession i f s).valve = s.valve := rfl
@[simp] theorem updSession_leak (i : Nat) (f : Session → Session) (s : State) : (updSession i f s).leak = s.leak := rfl
@[simp] theorem updSession_pair (i : Nat) (f : Session → Session) (s : State) : (updSession i f s).pair = s.pair := rfl
@[simp] theorem updSession_sec (i : Nat) (f : Session → Session) (s : State) : (updSession i f s).sec = s.sec := rfl
@[simp] theorem updSession_latch (i : Nat) (f : Session → Session) (s : State) : (updSession i f s).latch = s.latch := rfl
@[simp] theorem updSession_sent (i : Nat) (f : Session → Session) (s : State) : (updSession i f s).sent = s.sent := rfl
@[simp] theorem updSession_pending (i : Nat) (f : Session → Session) (s : State) : (updSession i f s).pending = s.pending := rfl

@[simp] theorem setMgmt_free (f : Mgmt → Mgmt) (s : State) : (setMgmt f s).free = s.free := rfl
@[simp] theorem setMgmt_seq (f : Mgmt → Mgmt) (s : State) : (setMgmt f s).seq = s.seq := rfl
@[simp] theorem setMgmt_wall (f : Mgmt → Mgmt) (s : State) : (setMgmt f s).wall = s.wall := rfl
@[simp] theorem setMgmt_sched (f : Mgmt → Mgmt) (s : State) : (setMgmt f s).sched = s.sched := rfl
@[simp] theorem setMgmt_key (f : Mgmt → Mgmt) (s : State) : (setMgmt f s).key = s.key := rfl
@[simp] theorem setMgmt_img (f : Mgmt → Mgmt) (s : State) : (setMgmt f s).img = s.img := rfl
@[simp] theorem setMgmt_pow (f : Mgmt → Mgmt) (s : State) : (setMgmt f s).pow = s.pow := rfl
@[simp] theorem setMgmt_thermal (f : Mgmt → Mgmt) (s : State) : (setMgmt f s).thermal = s.thermal := rfl
@[simp] theorem setMgmt_log (f : Mgmt → Mgmt) (s : State) : (setMgmt f s).log = s.log := rfl
@[simp] theorem setMgmt_maint (f : Mgmt → Mgmt) (s : State) : (setMgmt f s).maint = s.maint := rfl
@[simp] theorem setMgmt_heat (f : Mgmt → Mgmt) (s : State) : (setMgmt f s).heat = s.heat := rfl
@[simp] theorem setMgmt_caps (f : Mgmt → Mgmt) (s : State) : (setMgmt f s).caps = s.caps := rfl
@[simp] theorem setMgmt_plan (f : Mgmt → Mgmt) (s : State) : (setMgmt f s).plan = s.plan := rfl
@[simp] theorem setMgmt_plant (f : Mgmt → Mgmt) (s : State) : (setMgmt f s).plant = s.plant := rfl
@[simp] theorem setMgmt_eng (f : Mgmt → Mgmt) (s : State) : (setMgmt f s).eng = s.eng := rfl
@[simp] theorem setMgmt_ctl (f : Mgmt → Mgmt) (s : State) : (setMgmt f s).ctl = s.ctl := rfl
@[simp] theorem setMgmt_pump (f : Mgmt → Mgmt) (s : State) : (setMgmt f s).pump = s.pump := rfl
@[simp] theorem setMgmt_can (f : Mgmt → Mgmt) (s : State) : (setMgmt f s).can = s.can := rfl
@[simp] theorem setMgmt_link (f : Mgmt → Mgmt) (s : State) : (setMgmt f s).link = s.link := rfl
@[simp] theorem setMgmt_valve (f : Mgmt → Mgmt) (s : State) : (setMgmt f s).valve = s.valve := rfl
@[simp] theorem setMgmt_leak (f : Mgmt → Mgmt) (s : State) : (setMgmt f s).leak = s.leak := rfl
@[simp] theorem setMgmt_pair (f : Mgmt → Mgmt) (s : State) : (setMgmt f s).pair = s.pair := rfl
@[simp] theorem setMgmt_sec (f : Mgmt → Mgmt) (s : State) : (setMgmt f s).sec = s.sec := rfl
@[simp] theorem setMgmt_latch (f : Mgmt → Mgmt) (s : State) : (setMgmt f s).latch = s.latch := rfl
@[simp] theorem setMgmt_sent (f : Mgmt → Mgmt) (s : State) : (setMgmt f s).sent = s.sent := rfl
@[simp] theorem setMgmt_pending (f : Mgmt → Mgmt) (s : State) : (setMgmt f s).pending = s.pending := rfl

@[simp] theorem setLog_free (f : Log → Log) (s : State) : (setLog f s).free = s.free := rfl
@[simp] theorem setLog_seq (f : Log → Log) (s : State) : (setLog f s).seq = s.seq := rfl
@[simp] theorem setLog_wall (f : Log → Log) (s : State) : (setLog f s).wall = s.wall := rfl
@[simp] theorem setLog_sched (f : Log → Log) (s : State) : (setLog f s).sched = s.sched := rfl
@[simp] theorem setLog_key (f : Log → Log) (s : State) : (setLog f s).key = s.key := rfl
@[simp] theorem setLog_img (f : Log → Log) (s : State) : (setLog f s).img = s.img := rfl
@[simp] theorem setLog_pow (f : Log → Log) (s : State) : (setLog f s).pow = s.pow := rfl
@[simp] theorem setLog_thermal (f : Log → Log) (s : State) : (setLog f s).thermal = s.thermal := rfl
@[simp] theorem setLog_maint (f : Log → Log) (s : State) : (setLog f s).maint = s.maint := rfl
@[simp] theorem setLog_heat (f : Log → Log) (s : State) : (setLog f s).heat = s.heat := rfl
@[simp] theorem setLog_caps (f : Log → Log) (s : State) : (setLog f s).caps = s.caps := rfl
@[simp] theorem setLog_plan (f : Log → Log) (s : State) : (setLog f s).plan = s.plan := rfl
@[simp] theorem setLog_plant (f : Log → Log) (s : State) : (setLog f s).plant = s.plant := rfl
@[simp] theorem setLog_eng (f : Log → Log) (s : State) : (setLog f s).eng = s.eng := rfl
@[simp] theorem setLog_ctl (f : Log → Log) (s : State) : (setLog f s).ctl = s.ctl := rfl
@[simp] theorem setLog_pump (f : Log → Log) (s : State) : (setLog f s).pump = s.pump := rfl
@[simp] theorem setLog_can (f : Log → Log) (s : State) : (setLog f s).can = s.can := rfl
@[simp] theorem setLog_link (f : Log → Log) (s : State) : (setLog f s).link = s.link := rfl
@[simp] theorem setLog_valve (f : Log → Log) (s : State) : (setLog f s).valve = s.valve := rfl
@[simp] theorem setLog_leak (f : Log → Log) (s : State) : (setLog f s).leak = s.leak := rfl
@[simp] theorem setLog_pair (f : Log → Log) (s : State) : (setLog f s).pair = s.pair := rfl
@[simp] theorem setLog_sec (f : Log → Log) (s : State) : (setLog f s).sec = s.sec := rfl
@[simp] theorem setLog_mgmt (f : Log → Log) (s : State) : (setLog f s).mgmt = s.mgmt := rfl
@[simp] theorem setLog_latch (f : Log → Log) (s : State) : (setLog f s).latch = s.latch := rfl
@[simp] theorem setLog_sent (f : Log → Log) (s : State) : (setLog f s).sent = s.sent := rfl
@[simp] theorem setLog_pending (f : Log → Log) (s : State) : (setLog f s).pending = s.pending := rfl

@[simp] theorem thermalCounter_free (f : Thermal → Thermal) (s : State) : (thermalCounter f s).free = s.free := rfl
@[simp] theorem thermalCounter_seq (f : Thermal → Thermal) (s : State) : (thermalCounter f s).seq = s.seq := rfl
@[simp] theorem thermalCounter_wall (f : Thermal → Thermal) (s : State) : (thermalCounter f s).wall = s.wall := rfl
@[simp] theorem thermalCounter_sched (f : Thermal → Thermal) (s : State) : (thermalCounter f s).sched = s.sched := rfl
@[simp] theorem thermalCounter_key (f : Thermal → Thermal) (s : State) : (thermalCounter f s).key = s.key := rfl
@[simp] theorem thermalCounter_img (f : Thermal → Thermal) (s : State) : (thermalCounter f s).img = s.img := rfl
@[simp] theorem thermalCounter_pow (f : Thermal → Thermal) (s : State) : (thermalCounter f s).pow = s.pow := rfl
@[simp] theorem thermalCounter_log (f : Thermal → Thermal) (s : State) : (thermalCounter f s).log = s.log := rfl
@[simp] theorem thermalCounter_maint (f : Thermal → Thermal) (s : State) : (thermalCounter f s).maint = s.maint := rfl
@[simp] theorem thermalCounter_heat (f : Thermal → Thermal) (s : State) : (thermalCounter f s).heat = s.heat := rfl
@[simp] theorem thermalCounter_caps (f : Thermal → Thermal) (s : State) : (thermalCounter f s).caps = s.caps := rfl
@[simp] theorem thermalCounter_plan (f : Thermal → Thermal) (s : State) : (thermalCounter f s).plan = s.plan := rfl
@[simp] theorem thermalCounter_plant (f : Thermal → Thermal) (s : State) : (thermalCounter f s).plant = s.plant := rfl
@[simp] theorem thermalCounter_eng (f : Thermal → Thermal) (s : State) : (thermalCounter f s).eng = s.eng := rfl
@[simp] theorem thermalCounter_ctl (f : Thermal → Thermal) (s : State) : (thermalCounter f s).ctl = s.ctl := rfl
@[simp] theorem thermalCounter_pump (f : Thermal → Thermal) (s : State) : (thermalCounter f s).pump = s.pump := rfl
@[simp] theorem thermalCounter_can (f : Thermal → Thermal) (s : State) : (thermalCounter f s).can = s.can := rfl
@[simp] theorem thermalCounter_link (f : Thermal → Thermal) (s : State) : (thermalCounter f s).link = s.link := rfl
@[simp] theorem thermalCounter_valve (f : Thermal → Thermal) (s : State) : (thermalCounter f s).valve = s.valve := rfl
@[simp] theorem thermalCounter_leak (f : Thermal → Thermal) (s : State) : (thermalCounter f s).leak = s.leak := rfl
@[simp] theorem thermalCounter_pair (f : Thermal → Thermal) (s : State) : (thermalCounter f s).pair = s.pair := rfl
@[simp] theorem thermalCounter_sec (f : Thermal → Thermal) (s : State) : (thermalCounter f s).sec = s.sec := rfl
@[simp] theorem thermalCounter_mgmt (f : Thermal → Thermal) (s : State) : (thermalCounter f s).mgmt = s.mgmt := rfl
@[simp] theorem thermalCounter_latch (f : Thermal → Thermal) (s : State) : (thermalCounter f s).latch = s.latch := rfl
@[simp] theorem thermalCounter_sent (f : Thermal → Thermal) (s : State) : (thermalCounter f s).sent = s.sent := rfl
@[simp] theorem thermalCounter_pending (f : Thermal → Thermal) (s : State) : (thermalCounter f s).pending = s.pending := rfl

@[simp] theorem updActivity_free (i : Nat) (f : Activity → Activity) (s : State) : (updActivity i f s).free = s.free := rfl
@[simp] theorem updActivity_seq (i : Nat) (f : Activity → Activity) (s : State) : (updActivity i f s).seq = s.seq := rfl
@[simp] theorem updActivity_wall (i : Nat) (f : Activity → Activity) (s : State) : (updActivity i f s).wall = s.wall := rfl
@[simp] theorem updActivity_sched (i : Nat) (f : Activity → Activity) (s : State) : (updActivity i f s).sched = s.sched := rfl
@[simp] theorem updActivity_key (i : Nat) (f : Activity → Activity) (s : State) : (updActivity i f s).key = s.key := rfl
@[simp] theorem updActivity_img (i : Nat) (f : Activity → Activity) (s : State) : (updActivity i f s).img = s.img := rfl
@[simp] theorem updActivity_pow (i : Nat) (f : Activity → Activity) (s : State) : (updActivity i f s).pow = s.pow := rfl
@[simp] theorem updActivity_thermal (i : Nat) (f : Activity → Activity) (s : State) : (updActivity i f s).thermal = s.thermal := rfl
@[simp] theorem updActivity_log (i : Nat) (f : Activity → Activity) (s : State) : (updActivity i f s).log = s.log := rfl
@[simp] theorem updActivity_heat (i : Nat) (f : Activity → Activity) (s : State) : (updActivity i f s).heat = s.heat := rfl
@[simp] theorem updActivity_caps (i : Nat) (f : Activity → Activity) (s : State) : (updActivity i f s).caps = s.caps := rfl
@[simp] theorem updActivity_plan (i : Nat) (f : Activity → Activity) (s : State) : (updActivity i f s).plan = s.plan := rfl
@[simp] theorem updActivity_plant (i : Nat) (f : Activity → Activity) (s : State) : (updActivity i f s).plant = s.plant := rfl
@[simp] theorem updActivity_eng (i : Nat) (f : Activity → Activity) (s : State) : (updActivity i f s).eng = s.eng := rfl
@[simp] theorem updActivity_ctl (i : Nat) (f : Activity → Activity) (s : State) : (updActivity i f s).ctl = s.ctl := rfl
@[simp] theorem updActivity_pump (i : Nat) (f : Activity → Activity) (s : State) : (updActivity i f s).pump = s.pump := rfl
@[simp] theorem updActivity_can (i : Nat) (f : Activity → Activity) (s : State) : (updActivity i f s).can = s.can := rfl
@[simp] theorem updActivity_link (i : Nat) (f : Activity → Activity) (s : State) : (updActivity i f s).link = s.link := rfl
@[simp] theorem updActivity_valve (i : Nat) (f : Activity → Activity) (s : State) : (updActivity i f s).valve = s.valve := rfl
@[simp] theorem updActivity_leak (i : Nat) (f : Activity → Activity) (s : State) : (updActivity i f s).leak = s.leak := rfl
@[simp] theorem updActivity_pair (i : Nat) (f : Activity → Activity) (s : State) : (updActivity i f s).pair = s.pair := rfl
@[simp] theorem updActivity_sec (i : Nat) (f : Activity → Activity) (s : State) : (updActivity i f s).sec = s.sec := rfl
@[simp] theorem updActivity_mgmt (i : Nat) (f : Activity → Activity) (s : State) : (updActivity i f s).mgmt = s.mgmt := rfl
@[simp] theorem updActivity_latch (i : Nat) (f : Activity → Activity) (s : State) : (updActivity i f s).latch = s.latch := rfl
@[simp] theorem updActivity_sent (i : Nat) (f : Activity → Activity) (s : State) : (updActivity i f s).sent = s.sent := rfl
@[simp] theorem updActivity_pending (i : Nat) (f : Activity → Activity) (s : State) : (updActivity i f s).pending = s.pending := rfl

@[simp] theorem maintCount_free (k : Nat) (s : State) : (maintCount k s).free = s.free := rfl
@[simp] theorem maintCount_seq (k : Nat) (s : State) : (maintCount k s).seq = s.seq := rfl
@[simp] theorem maintCount_wall (k : Nat) (s : State) : (maintCount k s).wall = s.wall := rfl
@[simp] theorem maintCount_sched (k : Nat) (s : State) : (maintCount k s).sched = s.sched := rfl
@[simp] theorem maintCount_key (k : Nat) (s : State) : (maintCount k s).key = s.key := rfl
@[simp] theorem maintCount_img (k : Nat) (s : State) : (maintCount k s).img = s.img := rfl
@[simp] theorem maintCount_pow (k : Nat) (s : State) : (maintCount k s).pow = s.pow := rfl
@[simp] theorem maintCount_thermal (k : Nat) (s : State) : (maintCount k s).thermal = s.thermal := rfl
@[simp] theorem maintCount_log (k : Nat) (s : State) : (maintCount k s).log = s.log := rfl
@[simp] theorem maintCount_heat (k : Nat) (s : State) : (maintCount k s).heat = s.heat := rfl
@[simp] theorem maintCount_caps (k : Nat) (s : State) : (maintCount k s).caps = s.caps := rfl
@[simp] theorem maintCount_plan (k : Nat) (s : State) : (maintCount k s).plan = s.plan := rfl
@[simp] theorem maintCount_plant (k : Nat) (s : State) : (maintCount k s).plant = s.plant := rfl
@[simp] theorem maintCount_eng (k : Nat) (s : State) : (maintCount k s).eng = s.eng := rfl
@[simp] theorem maintCount_ctl (k : Nat) (s : State) : (maintCount k s).ctl = s.ctl := rfl
@[simp] theorem maintCount_pump (k : Nat) (s : State) : (maintCount k s).pump = s.pump := rfl
@[simp] theorem maintCount_can (k : Nat) (s : State) : (maintCount k s).can = s.can := rfl
@[simp] theorem maintCount_link (k : Nat) (s : State) : (maintCount k s).link = s.link := rfl
@[simp] theorem maintCount_valve (k : Nat) (s : State) : (maintCount k s).valve = s.valve := rfl
@[simp] theorem maintCount_leak (k : Nat) (s : State) : (maintCount k s).leak = s.leak := rfl
@[simp] theorem maintCount_pair (k : Nat) (s : State) : (maintCount k s).pair = s.pair := rfl
@[simp] theorem maintCount_sec (k : Nat) (s : State) : (maintCount k s).sec = s.sec := rfl
@[simp] theorem maintCount_mgmt (k : Nat) (s : State) : (maintCount k s).mgmt = s.mgmt := rfl
@[simp] theorem maintCount_latch (k : Nat) (s : State) : (maintCount k s).latch = s.latch := rfl
@[simp] theorem maintCount_sent (k : Nat) (s : State) : (maintCount k s).sent = s.sent := rfl
@[simp] theorem maintCount_pending (k : Nat) (s : State) : (maintCount k s).pending = s.pending := rfl

@[simp] theorem phaseDone_free (k : Nat) (s : State) : (phaseDone k s).free = s.free := rfl
@[simp] theorem phaseDone_wall (k : Nat) (s : State) : (phaseDone k s).wall = s.wall := rfl
@[simp] theorem phaseDone_sched (k : Nat) (s : State) : (phaseDone k s).sched = s.sched := rfl
@[simp] theorem phaseDone_key (k : Nat) (s : State) : (phaseDone k s).key = s.key := rfl
@[simp] theorem phaseDone_img (k : Nat) (s : State) : (phaseDone k s).img = s.img := rfl
@[simp] theorem phaseDone_pow (k : Nat) (s : State) : (phaseDone k s).pow = s.pow := rfl
@[simp] theorem phaseDone_thermal (k : Nat) (s : State) : (phaseDone k s).thermal = s.thermal := rfl
@[simp] theorem phaseDone_log (k : Nat) (s : State) : (phaseDone k s).log = s.log := rfl
@[simp] theorem phaseDone_maint (k : Nat) (s : State) : (phaseDone k s).maint = s.maint := rfl
@[simp] theorem phaseDone_heat (k : Nat) (s : State) : (phaseDone k s).heat = s.heat := rfl
@[simp] theorem phaseDone_caps (k : Nat) (s : State) : (phaseDone k s).caps = s.caps := rfl
@[simp] theorem phaseDone_plan (k : Nat) (s : State) : (phaseDone k s).plan = s.plan := rfl
@[simp] theorem phaseDone_plant (k : Nat) (s : State) : (phaseDone k s).plant = s.plant := rfl
@[simp] theorem phaseDone_eng (k : Nat) (s : State) : (phaseDone k s).eng = s.eng := rfl
@[simp] theorem phaseDone_ctl (k : Nat) (s : State) : (phaseDone k s).ctl = s.ctl := rfl
@[simp] theorem phaseDone_pump (k : Nat) (s : State) : (phaseDone k s).pump = s.pump := rfl
@[simp] theorem phaseDone_can (k : Nat) (s : State) : (phaseDone k s).can = s.can := rfl
@[simp] theorem phaseDone_link (k : Nat) (s : State) : (phaseDone k s).link = s.link := rfl
@[simp] theorem phaseDone_valve (k : Nat) (s : State) : (phaseDone k s).valve = s.valve := rfl
@[simp] theorem phaseDone_leak (k : Nat) (s : State) : (phaseDone k s).leak = s.leak := rfl
@[simp] theorem phaseDone_pair (k : Nat) (s : State) : (phaseDone k s).pair = s.pair := rfl
@[simp] theorem phaseDone_sec (k : Nat) (s : State) : (phaseDone k s).sec = s.sec := rfl
@[simp] theorem phaseDone_mgmt (k : Nat) (s : State) : (phaseDone k s).mgmt = s.mgmt := rfl
@[simp] theorem phaseDone_latch (k : Nat) (s : State) : (phaseDone k s).latch = s.latch := rfl
@[simp] theorem phaseDone_sent (k : Nat) (s : State) : (phaseDone k s).sent = s.sent := rfl
@[simp] theorem phaseDone_pending (k : Nat) (s : State) : (phaseDone k s).pending = s.pending := rfl

@[simp] theorem updEth_free (p : Nat) (f : EthPort → EthPort) (s : State) : (updEth p f s).free = s.free := rfl
@[simp] theorem updEth_seq (p : Nat) (f : EthPort → EthPort) (s : State) : (updEth p f s).seq = s.seq := rfl
@[simp] theorem updEth_wall (p : Nat) (f : EthPort → EthPort) (s : State) : (updEth p f s).wall = s.wall := rfl
@[simp] theorem updEth_sched (p : Nat) (f : EthPort → EthPort) (s : State) : (updEth p f s).sched = s.sched := rfl
@[simp] theorem updEth_key (p : Nat) (f : EthPort → EthPort) (s : State) : (updEth p f s).key = s.key := rfl
@[simp] theorem updEth_img (p : Nat) (f : EthPort → EthPort) (s : State) : (updEth p f s).img = s.img := rfl
@[simp] theorem updEth_pow (p : Nat) (f : EthPort → EthPort) (s : State) : (updEth p f s).pow = s.pow := rfl
@[simp] theorem updEth_thermal (p : Nat) (f : EthPort → EthPort) (s : State) : (updEth p f s).thermal = s.thermal := rfl
@[simp] theorem updEth_log (p : Nat) (f : EthPort → EthPort) (s : State) : (updEth p f s).log = s.log := rfl
@[simp] theorem updEth_maint (p : Nat) (f : EthPort → EthPort) (s : State) : (updEth p f s).maint = s.maint := rfl
@[simp] theorem updEth_heat (p : Nat) (f : EthPort → EthPort) (s : State) : (updEth p f s).heat = s.heat := rfl
@[simp] theorem updEth_caps (p : Nat) (f : EthPort → EthPort) (s : State) : (updEth p f s).caps = s.caps := rfl
@[simp] theorem updEth_plan (p : Nat) (f : EthPort → EthPort) (s : State) : (updEth p f s).plan = s.plan := rfl
@[simp] theorem updEth_plant (p : Nat) (f : EthPort → EthPort) (s : State) : (updEth p f s).plant = s.plant := rfl
@[simp] theorem updEth_eng (p : Nat) (f : EthPort → EthPort) (s : State) : (updEth p f s).eng = s.eng := rfl
@[simp] theorem updEth_ctl (p : Nat) (f : EthPort → EthPort) (s : State) : (updEth p f s).ctl = s.ctl := rfl
@[simp] theorem updEth_pump (p : Nat) (f : EthPort → EthPort) (s : State) : (updEth p f s).pump = s.pump := rfl
@[simp] theorem updEth_can (p : Nat) (f : EthPort → EthPort) (s : State) : (updEth p f s).can = s.can := rfl
@[simp] theorem updEth_link (p : Nat) (f : EthPort → EthPort) (s : State) : (updEth p f s).link = s.link := rfl
@[simp] theorem updEth_valve (p : Nat) (f : EthPort → EthPort) (s : State) : (updEth p f s).valve = s.valve := rfl
@[simp] theorem updEth_leak (p : Nat) (f : EthPort → EthPort) (s : State) : (updEth p f s).leak = s.leak := rfl
@[simp] theorem updEth_pair (p : Nat) (f : EthPort → EthPort) (s : State) : (updEth p f s).pair = s.pair := rfl
@[simp] theorem updEth_sec (p : Nat) (f : EthPort → EthPort) (s : State) : (updEth p f s).sec = s.sec := rfl
@[simp] theorem updEth_latch (p : Nat) (f : EthPort → EthPort) (s : State) : (updEth p f s).latch = s.latch := rfl
@[simp] theorem updEth_sent (p : Nat) (f : EthPort → EthPort) (s : State) : (updEth p f s).sent = s.sent := rfl
@[simp] theorem updEth_pending (p : Nat) (f : EthPort → EthPort) (s : State) : (updEth p f s).pending = s.pending := rfl

@[simp] theorem updRun_free (l : Nat) (f : LoopRun → LoopRun) (s : State) : (updRun l f s).free = s.free := rfl
@[simp] theorem updRun_seq (l : Nat) (f : LoopRun → LoopRun) (s : State) : (updRun l f s).seq = s.seq := rfl
@[simp] theorem updRun_wall (l : Nat) (f : LoopRun → LoopRun) (s : State) : (updRun l f s).wall = s.wall := rfl
@[simp] theorem updRun_sched (l : Nat) (f : LoopRun → LoopRun) (s : State) : (updRun l f s).sched = s.sched := rfl
@[simp] theorem updRun_key (l : Nat) (f : LoopRun → LoopRun) (s : State) : (updRun l f s).key = s.key := rfl
@[simp] theorem updRun_img (l : Nat) (f : LoopRun → LoopRun) (s : State) : (updRun l f s).img = s.img := rfl
@[simp] theorem updRun_pow (l : Nat) (f : LoopRun → LoopRun) (s : State) : (updRun l f s).pow = s.pow := rfl
@[simp] theorem updRun_thermal (l : Nat) (f : LoopRun → LoopRun) (s : State) : (updRun l f s).thermal = s.thermal := rfl
@[simp] theorem updRun_log (l : Nat) (f : LoopRun → LoopRun) (s : State) : (updRun l f s).log = s.log := rfl
@[simp] theorem updRun_maint (l : Nat) (f : LoopRun → LoopRun) (s : State) : (updRun l f s).maint = s.maint := rfl
@[simp] theorem updRun_heat (l : Nat) (f : LoopRun → LoopRun) (s : State) : (updRun l f s).heat = s.heat := rfl
@[simp] theorem updRun_caps (l : Nat) (f : LoopRun → LoopRun) (s : State) : (updRun l f s).caps = s.caps := rfl
@[simp] theorem updRun_plant (l : Nat) (f : LoopRun → LoopRun) (s : State) : (updRun l f s).plant = s.plant := rfl
@[simp] theorem updRun_eng (l : Nat) (f : LoopRun → LoopRun) (s : State) : (updRun l f s).eng = s.eng := rfl
@[simp] theorem updRun_ctl (l : Nat) (f : LoopRun → LoopRun) (s : State) : (updRun l f s).ctl = s.ctl := rfl
@[simp] theorem updRun_pump (l : Nat) (f : LoopRun → LoopRun) (s : State) : (updRun l f s).pump = s.pump := rfl
@[simp] theorem updRun_can (l : Nat) (f : LoopRun → LoopRun) (s : State) : (updRun l f s).can = s.can := rfl
@[simp] theorem updRun_link (l : Nat) (f : LoopRun → LoopRun) (s : State) : (updRun l f s).link = s.link := rfl
@[simp] theorem updRun_valve (l : Nat) (f : LoopRun → LoopRun) (s : State) : (updRun l f s).valve = s.valve := rfl
@[simp] theorem updRun_leak (l : Nat) (f : LoopRun → LoopRun) (s : State) : (updRun l f s).leak = s.leak := rfl
@[simp] theorem updRun_pair (l : Nat) (f : LoopRun → LoopRun) (s : State) : (updRun l f s).pair = s.pair := rfl
@[simp] theorem updRun_sec (l : Nat) (f : LoopRun → LoopRun) (s : State) : (updRun l f s).sec = s.sec := rfl
@[simp] theorem updRun_mgmt (l : Nat) (f : LoopRun → LoopRun) (s : State) : (updRun l f s).mgmt = s.mgmt := rfl
@[simp] theorem updRun_latch (l : Nat) (f : LoopRun → LoopRun) (s : State) : (updRun l f s).latch = s.latch := rfl
@[simp] theorem updRun_sent (l : Nat) (f : LoopRun → LoopRun) (s : State) : (updRun l f s).sent = s.sent := rfl
@[simp] theorem updRun_pending (l : Nat) (f : LoopRun → LoopRun) (s : State) : (updRun l f s).pending = s.pending := rfl

@[simp] theorem setHeat_free (f : Heat → Heat) (s : State) : (setHeat f s).free = s.free := rfl
@[simp] theorem setHeat_seq (f : Heat → Heat) (s : State) : (setHeat f s).seq = s.seq := rfl
@[simp] theorem setHeat_wall (f : Heat → Heat) (s : State) : (setHeat f s).wall = s.wall := rfl
@[simp] theorem setHeat_sched (f : Heat → Heat) (s : State) : (setHeat f s).sched = s.sched := rfl
@[simp] theorem setHeat_key (f : Heat → Heat) (s : State) : (setHeat f s).key = s.key := rfl
@[simp] theorem setHeat_img (f : Heat → Heat) (s : State) : (setHeat f s).img = s.img := rfl
@[simp] theorem setHeat_pow (f : Heat → Heat) (s : State) : (setHeat f s).pow = s.pow := rfl
@[simp] theorem setHeat_thermal (f : Heat → Heat) (s : State) : (setHeat f s).thermal = s.thermal := rfl
@[simp] theorem setHeat_log (f : Heat → Heat) (s : State) : (setHeat f s).log = s.log := rfl
@[simp] theorem setHeat_maint (f : Heat → Heat) (s : State) : (setHeat f s).maint = s.maint := rfl
@[simp] theorem setHeat_caps (f : Heat → Heat) (s : State) : (setHeat f s).caps = s.caps := rfl
@[simp] theorem setHeat_plan (f : Heat → Heat) (s : State) : (setHeat f s).plan = s.plan := rfl
@[simp] theorem setHeat_plant (f : Heat → Heat) (s : State) : (setHeat f s).plant = s.plant := rfl
@[simp] theorem setHeat_eng (f : Heat → Heat) (s : State) : (setHeat f s).eng = s.eng := rfl
@[simp] theorem setHeat_ctl (f : Heat → Heat) (s : State) : (setHeat f s).ctl = s.ctl := rfl
@[simp] theorem setHeat_pump (f : Heat → Heat) (s : State) : (setHeat f s).pump = s.pump := rfl
@[simp] theorem setHeat_can (f : Heat → Heat) (s : State) : (setHeat f s).can = s.can := rfl
@[simp] theorem setHeat_link (f : Heat → Heat) (s : State) : (setHeat f s).link = s.link := rfl
@[simp] theorem setHeat_valve (f : Heat → Heat) (s : State) : (setHeat f s).valve = s.valve := rfl
@[simp] theorem setHeat_leak (f : Heat → Heat) (s : State) : (setHeat f s).leak = s.leak := rfl
@[simp] theorem setHeat_pair (f : Heat → Heat) (s : State) : (setHeat f s).pair = s.pair := rfl
@[simp] theorem setHeat_sec (f : Heat → Heat) (s : State) : (setHeat f s).sec = s.sec := rfl
@[simp] theorem setHeat_mgmt (f : Heat → Heat) (s : State) : (setHeat f s).mgmt = s.mgmt := rfl
@[simp] theorem setHeat_latch (f : Heat → Heat) (s : State) : (setHeat f s).latch = s.latch := rfl
@[simp] theorem setHeat_sent (f : Heat → Heat) (s : State) : (setHeat f s).sent = s.sent := rfl
@[simp] theorem setHeat_pending (f : Heat → Heat) (s : State) : (setHeat f s).pending = s.pending := rfl

@[simp] theorem setSnap_free (x : Snapshot) (s : State) : (setSnap x s).free = s.free := rfl
@[simp] theorem setSnap_seq (x : Snapshot) (s : State) : (setSnap x s).seq = s.seq := rfl
@[simp] theorem setSnap_wall (x : Snapshot) (s : State) : (setSnap x s).wall = s.wall := rfl
@[simp] theorem setSnap_sched (x : Snapshot) (s : State) : (setSnap x s).sched = s.sched := rfl
@[simp] theorem setSnap_key (x : Snapshot) (s : State) : (setSnap x s).key = s.key := rfl
@[simp] theorem setSnap_img (x : Snapshot) (s : State) : (setSnap x s).img = s.img := rfl
@[simp] theorem setSnap_pow (x : Snapshot) (s : State) : (setSnap x s).pow = s.pow := rfl
@[simp] theorem setSnap_thermal (x : Snapshot) (s : State) : (setSnap x s).thermal = s.thermal := rfl
@[simp] theorem setSnap_log (x : Snapshot) (s : State) : (setSnap x s).log = s.log := rfl
@[simp] theorem setSnap_maint (x : Snapshot) (s : State) : (setSnap x s).maint = s.maint := rfl
@[simp] theorem setSnap_heat (x : Snapshot) (s : State) : (setSnap x s).heat = s.heat := rfl
@[simp] theorem setSnap_caps (x : Snapshot) (s : State) : (setSnap x s).caps = s.caps := rfl
@[simp] theorem setSnap_plant (x : Snapshot) (s : State) : (setSnap x s).plant = s.plant := rfl
@[simp] theorem setSnap_eng (x : Snapshot) (s : State) : (setSnap x s).eng = s.eng := rfl
@[simp] theorem setSnap_ctl (x : Snapshot) (s : State) : (setSnap x s).ctl = s.ctl := rfl
@[simp] theorem setSnap_pump (x : Snapshot) (s : State) : (setSnap x s).pump = s.pump := rfl
@[simp] theorem setSnap_can (x : Snapshot) (s : State) : (setSnap x s).can = s.can := rfl
@[simp] theorem setSnap_link (x : Snapshot) (s : State) : (setSnap x s).link = s.link := rfl
@[simp] theorem setSnap_valve (x : Snapshot) (s : State) : (setSnap x s).valve = s.valve := rfl
@[simp] theorem setSnap_leak (x : Snapshot) (s : State) : (setSnap x s).leak = s.leak := rfl
@[simp] theorem setSnap_pair (x : Snapshot) (s : State) : (setSnap x s).pair = s.pair := rfl
@[simp] theorem setSnap_sec (x : Snapshot) (s : State) : (setSnap x s).sec = s.sec := rfl
@[simp] theorem setSnap_mgmt (x : Snapshot) (s : State) : (setSnap x s).mgmt = s.mgmt := rfl
@[simp] theorem setSnap_latch (x : Snapshot) (s : State) : (setSnap x s).latch = s.latch := rfl
@[simp] theorem setSnap_sent (x : Snapshot) (s : State) : (setSnap x s).sent = s.sent := rfl
@[simp] theorem setSnap_pending (x : Snapshot) (s : State) : (setSnap x s).pending = s.pending := rfl

@[simp] theorem updInFan_free (i : Nat) (f : InFan → InFan) (s : State) : (updInFan i f s).free = s.free := rfl
@[simp] theorem updInFan_seq (i : Nat) (f : InFan → InFan) (s : State) : (updInFan i f s).seq = s.seq := rfl
@[simp] theorem updInFan_wall (i : Nat) (f : InFan → InFan) (s : State) : (updInFan i f s).wall = s.wall := rfl
@[simp] theorem updInFan_sched (i : Nat) (f : InFan → InFan) (s : State) : (updInFan i f s).sched = s.sched := rfl
@[simp] theorem updInFan_key (i : Nat) (f : InFan → InFan) (s : State) : (updInFan i f s).key = s.key := rfl
@[simp] theorem updInFan_img (i : Nat) (f : InFan → InFan) (s : State) : (updInFan i f s).img = s.img := rfl
@[simp] theorem updInFan_pow (i : Nat) (f : InFan → InFan) (s : State) : (updInFan i f s).pow = s.pow := rfl
@[simp] theorem updInFan_log (i : Nat) (f : InFan → InFan) (s : State) : (updInFan i f s).log = s.log := rfl
@[simp] theorem updInFan_maint (i : Nat) (f : InFan → InFan) (s : State) : (updInFan i f s).maint = s.maint := rfl
@[simp] theorem updInFan_heat (i : Nat) (f : InFan → InFan) (s : State) : (updInFan i f s).heat = s.heat := rfl
@[simp] theorem updInFan_caps (i : Nat) (f : InFan → InFan) (s : State) : (updInFan i f s).caps = s.caps := rfl
@[simp] theorem updInFan_plan (i : Nat) (f : InFan → InFan) (s : State) : (updInFan i f s).plan = s.plan := rfl
@[simp] theorem updInFan_plant (i : Nat) (f : InFan → InFan) (s : State) : (updInFan i f s).plant = s.plant := rfl
@[simp] theorem updInFan_eng (i : Nat) (f : InFan → InFan) (s : State) : (updInFan i f s).eng = s.eng := rfl
@[simp] theorem updInFan_ctl (i : Nat) (f : InFan → InFan) (s : State) : (updInFan i f s).ctl = s.ctl := rfl
@[simp] theorem updInFan_pump (i : Nat) (f : InFan → InFan) (s : State) : (updInFan i f s).pump = s.pump := rfl
@[simp] theorem updInFan_can (i : Nat) (f : InFan → InFan) (s : State) : (updInFan i f s).can = s.can := rfl
@[simp] theorem updInFan_link (i : Nat) (f : InFan → InFan) (s : State) : (updInFan i f s).link = s.link := rfl
@[simp] theorem updInFan_valve (i : Nat) (f : InFan → InFan) (s : State) : (updInFan i f s).valve = s.valve := rfl
@[simp] theorem updInFan_leak (i : Nat) (f : InFan → InFan) (s : State) : (updInFan i f s).leak = s.leak := rfl
@[simp] theorem updInFan_pair (i : Nat) (f : InFan → InFan) (s : State) : (updInFan i f s).pair = s.pair := rfl
@[simp] theorem updInFan_sec (i : Nat) (f : InFan → InFan) (s : State) : (updInFan i f s).sec = s.sec := rfl
@[simp] theorem updInFan_mgmt (i : Nat) (f : InFan → InFan) (s : State) : (updInFan i f s).mgmt = s.mgmt := rfl
@[simp] theorem updInFan_latch (i : Nat) (f : InFan → InFan) (s : State) : (updInFan i f s).latch = s.latch := rfl
@[simp] theorem updInFan_sent (i : Nat) (f : InFan → InFan) (s : State) : (updInFan i f s).sent = s.sent := rfl
@[simp] theorem updInFan_pending (i : Nat) (f : InFan → InFan) (s : State) : (updInFan i f s).pending = s.pending := rfl

@[simp] theorem updSecTenant_free (t : Nat) (f : TenantSec → TenantSec) (s : State) : (updSecTenant t f s).free = s.free := rfl
@[simp] theorem updSecTenant_seq (t : Nat) (f : TenantSec → TenantSec) (s : State) : (updSecTenant t f s).seq = s.seq := rfl
@[simp] theorem updSecTenant_wall (t : Nat) (f : TenantSec → TenantSec) (s : State) : (updSecTenant t f s).wall = s.wall := rfl
@[simp] theorem updSecTenant_sched (t : Nat) (f : TenantSec → TenantSec) (s : State) : (updSecTenant t f s).sched = s.sched := rfl
@[simp] theorem updSecTenant_key (t : Nat) (f : TenantSec → TenantSec) (s : State) : (updSecTenant t f s).key = s.key := rfl
@[simp] theorem updSecTenant_img (t : Nat) (f : TenantSec → TenantSec) (s : State) : (updSecTenant t f s).img = s.img := rfl
@[simp] theorem updSecTenant_pow (t : Nat) (f : TenantSec → TenantSec) (s : State) : (updSecTenant t f s).pow = s.pow := rfl
@[simp] theorem updSecTenant_thermal (t : Nat) (f : TenantSec → TenantSec) (s : State) : (updSecTenant t f s).thermal = s.thermal := rfl
@[simp] theorem updSecTenant_log (t : Nat) (f : TenantSec → TenantSec) (s : State) : (updSecTenant t f s).log = s.log := rfl
@[simp] theorem updSecTenant_maint (t : Nat) (f : TenantSec → TenantSec) (s : State) : (updSecTenant t f s).maint = s.maint := rfl
@[simp] theorem updSecTenant_heat (t : Nat) (f : TenantSec → TenantSec) (s : State) : (updSecTenant t f s).heat = s.heat := rfl
@[simp] theorem updSecTenant_caps (t : Nat) (f : TenantSec → TenantSec) (s : State) : (updSecTenant t f s).caps = s.caps := rfl
@[simp] theorem updSecTenant_plan (t : Nat) (f : TenantSec → TenantSec) (s : State) : (updSecTenant t f s).plan = s.plan := rfl
@[simp] theorem updSecTenant_plant (t : Nat) (f : TenantSec → TenantSec) (s : State) : (updSecTenant t f s).plant = s.plant := rfl
@[simp] theorem updSecTenant_eng (t : Nat) (f : TenantSec → TenantSec) (s : State) : (updSecTenant t f s).eng = s.eng := rfl
@[simp] theorem updSecTenant_ctl (t : Nat) (f : TenantSec → TenantSec) (s : State) : (updSecTenant t f s).ctl = s.ctl := rfl
@[simp] theorem updSecTenant_pump (t : Nat) (f : TenantSec → TenantSec) (s : State) : (updSecTenant t f s).pump = s.pump := rfl
@[simp] theorem updSecTenant_can (t : Nat) (f : TenantSec → TenantSec) (s : State) : (updSecTenant t f s).can = s.can := rfl
@[simp] theorem updSecTenant_link (t : Nat) (f : TenantSec → TenantSec) (s : State) : (updSecTenant t f s).link = s.link := rfl
@[simp] theorem updSecTenant_valve (t : Nat) (f : TenantSec → TenantSec) (s : State) : (updSecTenant t f s).valve = s.valve := rfl
@[simp] theorem updSecTenant_leak (t : Nat) (f : TenantSec → TenantSec) (s : State) : (updSecTenant t f s).leak = s.leak := rfl
@[simp] theorem updSecTenant_pair (t : Nat) (f : TenantSec → TenantSec) (s : State) : (updSecTenant t f s).pair = s.pair := rfl
@[simp] theorem updSecTenant_mgmt (t : Nat) (f : TenantSec → TenantSec) (s : State) : (updSecTenant t f s).mgmt = s.mgmt := rfl
@[simp] theorem updSecTenant_latch (t : Nat) (f : TenantSec → TenantSec) (s : State) : (updSecTenant t f s).latch = s.latch := rfl
@[simp] theorem updSecTenant_sent (t : Nat) (f : TenantSec → TenantSec) (s : State) : (updSecTenant t f s).sent = s.sent := rfl
@[simp] theorem updSecTenant_pending (t : Nat) (f : TenantSec → TenantSec) (s : State) : (updSecTenant t f s).pending = s.pending := rfl

/-! What each of them writes. -/

@[simp] theorem setHeat_heat (f : Heat → Heat) (s : State) : (setHeat f s).heat = f s.heat := rfl
@[simp] theorem setPlan_plan (f : Plan → Plan) (s : State) : (setPlan f s).plan = f s.plan := rfl
@[simp] theorem setPow_pow (f : Power → Power) (s : State) : (setPow f s).pow = f s.pow := rfl
@[simp] theorem setMgmt_mgmt (f : Mgmt → Mgmt) (s : State) : (setMgmt f s).mgmt = f s.mgmt := rfl
@[simp] theorem setSec_sec (f : Security → Security) (s : State) : (setSec f s).sec = f s.sec := rfl
@[simp] theorem setPair_pair (f : PairSt → PairSt) (s : State) : (setPair f s).pair = f s.pair := rfl
@[simp] theorem setLog_log (f : Log → Log) (s : State) : (setLog f s).log = f s.log := rfl
@[simp] theorem setSnap_plan_snap (x : Snapshot) (s : State) : (setSnap x s).plan.snap = some x := rfl
@[simp] theorem send_sent (t : Tx) (s : State) : (send t s).sent = t :: s.sent := rfl

end Sys2Proof.Machine
end

