-- ==== Sys2Proof/Machine/Indicators.lean ====
section
/-! DEFINITION. The four indicators of the front panel (R624): outputs that follow the state. -/

namespace Sys2Proof.Machine

/-- How an indicator stands (R624). -/
inductive Lamp where
  | off | lit | flashing
  deriving DecidableEq, Repr

/-- An indicator by its two conditions: where both hold it flashes (DEDUCED, log entry 92). -/
def lampOf (lit flashing : Bool) : Lamp := if flashing then .flashing else if lit then .lit else .off

/-- READY: lit while READY is 1, flashing in LIMP and NO_IMAGE. -/
def readyLamp (s : State) : Lamp := lampOf s.pow.ready (s.pow.state = .limp || s.pow.state = .noImage)

/-- CONTROL: lit under plant control, flashing in STANDBY with a valid checkpoint. -/
def controlLamp (s : State) : Lamp := lampOf s.pow.plantControl (s.pow.state = .standby && s.pair.ckptValid)

/-- FAULT: lit while FAULT_N is asserted, flashing in the life cycle RETURN. -/
def faultLamp (s : State) : Lamp := lampOf (faultN s) (lifeCycle s = .returned)

/-- LEAK: lit while a loop's isolation is not OPEN, flashing in a row-level emergency. -/
def leakLamp (s : State) : Lamp := lampOf (s.leak.loops.any fun x => x.iso ≠ .isOpen) s.leak.emergency

end Sys2Proof.Machine
end

