-- ==== Sys2Proof/Tests/Slice0.lean ====
section
/-! SUPPORT. The model's own tests: an ill-formed term for each check of WellFormed, worked examples of the manual, and
for every statement with hypotheses one concrete state and operands that meet them, clause by clause. -/

namespace Sys2Proof.Machine

set_option maxRecDepth 10000
set_option linter.unusedVariables false

/-! Ill-formed commands, one for each check, each refused, beside a well-formed one. -/

theorem test_wf_ethPort : Instr.wf (.ethLinkUp 2) = false ∧ Instr.wf (.ethLinkUp 1) = true := by decide
theorem test_wf_linkPort : Instr.wf (.telDeadline 64) = false ∧ Instr.wf (.telDeadline 63) = true := by decide
theorem test_wf_port : Instr.wf (.pingSend 65) = false ∧ Instr.wf (.pingSend 64) = true := by decide
theorem test_wf_site : Instr.wf (.silenceFallback 2048) = false ∧ Instr.wf (.silenceFallback 2047) = true := by decide
theorem test_wf_tenant : Instr.wf (.quarantineTimerExpiry 256) = false ∧ Instr.wf (.quarantineTimerExpiry 255) = true := by decide
theorem test_wf_rack : Instr.wf (.thermalTrip 24) = false ∧ Instr.wf (.thermalTrip 23) = true := by decide
theorem test_wf_ctl : Instr.wf (.loopResume 512) = false ∧ Instr.wf (.loopResume 511) = true := by decide
theorem test_wf_probe : Instr.wf (.probeArm 32) = false ∧ Instr.wf (.probeArm 31) = true := by decide
theorem test_wf_pump : Instr.wf (.pumpStatusStale 4) = false ∧ Instr.wf (.pumpStatusStale 3) = true := by decide
theorem test_wf_element : Instr.wf (.elementStall 28) = false ∧ Instr.wf (.elementStall 27) = true := by decide
theorem test_wf_group : Instr.wf (.groupFullSpeedEnd 4) = false ∧ Instr.wf (.groupFullSpeedEnd 3) = true := by decide
theorem test_wf_internalFan : Instr.wf (.internalFanRetry 2) = false ∧ Instr.wf (.internalFanRetry 1) = true := by decide
theorem test_wf_afe : Instr.wf (.periodicCalibration 8 {} {}) = false ∧ Instr.wf (.periodicCalibration 7 {} {}) = true := by decide
theorem test_wf_rail : Instr.wf (.railLost 8) = false ∧ Instr.wf (.railLost 7) = true := by decide
theorem test_wf_domain : Instr.wf (.domainCycleComplete 126 100) = false ∧ Instr.wf (.domainCycleComplete 125 100) = true := by decide
theorem test_wf_engineBank : Instr.wf (.weightDoubleBitError ⟨64, 0⟩) = false ∧ Instr.wf (.weightDoubleBitError ⟨63, 0⟩) = true := by decide
theorem test_wf_weightRow : Instr.wf (.weightDoubleBitError ⟨0, 3840⟩) = false ∧ Instr.wf (.weightDoubleBitError ⟨0, 3839⟩) = true := by decide
theorem test_wf_slot : Instr.wf (.scratchDoubleBitError 8 0 true) = false ∧ Instr.wf (.scratchDoubleBitError 7 0 true) = true := by decide
theorem test_wf_valveBank : Instr.wf (.bankTripRecovery 6) = false ∧ Instr.wf (.bankTripRecovery 5) = true := by decide
theorem test_wf_channel : Instr.wf (.peakEnd 48) = false ∧ Instr.wf (.peakEnd 47) = true := by decide
theorem test_wf_leakInput : Instr.wf (.leakInputState 24 .dry 0) = false ∧ Instr.wf (.leakInputState 23 .dry 0) = true := by decide
theorem test_wf_rope : Instr.wf (.ropeLocation 16 0) = false ∧ Instr.wf (.ropeLocation 15 0) = true := by decide
theorem test_wf_can : Instr.wf (.busOff 12) = false ∧ Instr.wf (.busOff 11) = true := by decide
theorem test_wf_sendSlot : Instr.wf (.sendSlotFree 0 16) = false ∧ Instr.wf (.sendSlotFree 0 15) = true := by decide
theorem test_wf_hp : Instr.wf (.newClear 0 8) = false ∧ Instr.wf (.newClear 0 7) = true := by decide
theorem test_wf_session : Instr.wf (.notify 8) = false ∧ Instr.wf (.notify 7) = true := by decide
theorem test_wf_conn : Instr.wf (.modbusConnectionIdle 4) = false ∧ Instr.wf (.modbusConnectionIdle 3) = true := by decide
theorem test_wf_window : Instr.wf (.maintWindowTimeout 8) = false ∧ Instr.wf (.maintWindowTimeout 7) = true := by decide
theorem test_wf_activity : Instr.wf (.activityEnd 4) = false ∧ Instr.wf (.activityEnd 3) = true := by decide
theorem test_wf_bytes : Instr.wf (.write 0 0 0 [256]) = false ∧ Instr.wf (.write 0 0 0 [255]) = true := by decide
theorem test_wf_hdr : Instr.wf (.rowStop { session := 8 }) = false ∧ Instr.wf (.rowStop { session := 7 }) = true := by decide
theorem test_wf_packet : Instr.wf (.ackReceived 0 [31, 0, 0, 0, 0, 0, 7, 0] (List.replicate 8 0)) = false ∧
    Instr.wf (.ackReceived 0 [31, 0, 0, 0, 0, 0, 8, 0] (List.replicate 8 0)) = true := by decide
theorem test_wf_tel : Instr.wf (.telReceived 0 [50, 0, 0, 0, 0, 0, 16, 0] 0 65536 0 [] true) = false ∧
    Instr.wf (.telReceived 0 [50, 0, 0, 0, 0, 0, 16, 0] 0 65535 0 [] true) = true := by decide
theorem test_wf_payload : Instr.wf (.evtReceived 0 (List.replicate 7 0)) = false ∧
    Instr.wf (.evtReceived 0 (List.replicate 8 0)) = true := by decide

/-! Worked examples of the manual: inputs and results are its own. -/

/-- A late set-point: the due frame of a target 3.25 ms before the boundary of frame 36,000,000 (R70). -/
theorem test_late_set_point :
    convertDue { State.reset with seq.frame := 36000000, seq.rowT := 36000000000000000, wall.offset := 1000 }
      (3600000001000 - 3250000) = 35999968 := by decide

/-- A backward step of the PTP master: entry B's due frame under the new mapping (R70). -/
theorem test_backward_step :
    convertDue { State.reset with seq.frame := 72004776, seq.rowT := 72004776000000000
                                  wall.offset := 1956992799200000000 } 1957000000600000000 = 72014000 := by decide

/-- One execution of the pump pressure loop (R300 to R302). -/
theorem test_pressure_loop :
    (let p := controlLaw { kff := 218453, kp := 163840, ki := 20972, shFf := 16, shP := 16, shI := 24, iMin := -2000
                           iMax := 2000, outMin := 2000, outMax := 10000 } 1460 1500 20000040 { ifine := 13762560 }
     (p.e, p.uff, p.up, p.ifine, p.ui, p.u)) = (40, 5000, 100, 13765837, 210, 5310) := by decide

/-- The water allowance of the epoch in Feast (R188), and its planned water (R191). -/
theorem test_water_allowance : waterAllowance { waterLeft := 10587650, timeLeft := 54000 } = 3921 ∧
    plannedWater (List.replicate 100 6000 ++ List.replicate 100 4000) 1200 / 600000 = 2000 := by decide

/-- A zone's demand between two points of its curve (R386), the target out of the skip band (R390) and the first step
(R391). -/
theorem test_zone_and_skip_band :
    zoneCurve { temp := [1920, 2240, 2560, 2880, 3200, 3520, 3840, 4160]
                demand := [2000, 3000, 4000, 5000, 6500, 8000, 9500, 10000] } 2976 = 5450 ∧
    adjustTarget { skip := [(5400, 6000)], rateUp := 500, rateDown := 1000 } 4800 5450 = 6000 ∧
    speedStep { skip := [(5400, 6000)], rateUp := 500, rateDown := 1000 } 6000 314572800 = 314576076 ∧
    speedStep { skip := [(5400, 6000)], rateUp := 500, rateDown := 1000 } 6000 353894628 = 353901181 := by decide

/-- The channel part of the CAN example (R469). -/
theorem test_channel_part :
    (let a := parseAlmanac [0x00, 0xF8, 0x3C, 0x1E, 0x40, 0xCD, 0x64, 0x14]
     (a.nbrp, a.ntseg1, a.ntseg2, a.nsjw) = (1, 63, 16, 16) ∧ (a.dbrp, a.dtseg1, a.dtseg2, a.dsjw) = (1, 11, 4, 4) ∧
     (a.tdcEn, a.tdcOffset, a.columns) = (true, 12, 6)) := by decide

/-- The longest frames of the CAN example: 56.8 us and 169.8 us (R470), in units of 12.5 ns. -/
theorem test_frame_times :
    (let a : AlmanacCfg := { ntseg1 := 63, ntseg2 := 16, dtseg1 := 11, dtseg2 := 4 }
     longestFrame a false true true 8 = 56800 * 80 / 1000 ∧ longestFrame a false true true 15 = 169800 * 80 / 1000) := by
  decide

/-- The first layer of the bounded inference: its products (R227) and requantization (R229). -/
theorem test_bounded_layer :
    (let ps := matVec 32 { weights := [[{ eAcc := -9, terms := [(0, 24, -5), (1, -16, -5)] }],
                                       [{ eAcc := -9, terms := [(0, 8, -5), (1, 32, -5)] }]]
                           bias := [(4, -3), (2, -3)], eAcc := [-9] } 0 2
                 [{ c := 85, r := 4, e := -4 }, { c := -24, r := 2, e := -4 }]
     ps.map (fun p => (p.c, p.r, p.e)) = [(2680, 128, -9), (40, 96, -9)] ∧
     (requantB8 (-20) ps).map (fun b => (b.c, b.r, b.e)) = [(84, 5, -4), (1, 4, -4)]) := by decide

/-- The port of the bounded inference at levels 0 and 1 (R235). -/
theorem test_bounded_port :
    (let p := portElem 6 65536 48 0 { c := 1934, r := 58, e := -6 }
     (p.center, p.lo0, p.hi0, p.lo, p.hi) = (1934, 1876, 1992, 1828, 2040)) ∧
    (let p := portElem 6 65536 48 1 { c := 1934, r := 58, e := -6 }
     (p.lo, p.hi) = (1722, 2146)) := by decide

/-- Tolerances of the return RTD and of the pressure transmitter (R239, R625). -/
theorem test_tolerances : tolerance { kind := 1 } 1952 = 10 ∧ tolerance { kind := 2, scaleHigh := 4000 } 1460 = 6 := by
  decide

/-- The claims of the takeover and of the crossed swap (R496, R502). -/
theorem test_request_claim : requestClaim { State.reset with pow.slotStrap := 1 } = 0x0D := by decide

/-- ISSUED at the edges of its window from 1 s before the frame to 100 ms after it (R538, step 6). -/
theorem test_issued_window :
    issuedInTime { State.reset with wall.offset := 2000000000 } { session := 0, issued := 1000000000 } = true ∧
    issuedInTime { State.reset with wall.offset := 2000000000 } { session := 0, issued := 999999999 } = false ∧
    issuedInTime { State.reset with wall.offset := 2000000000 } { session := 0, issued := 2100000000 } = true ∧
    issuedInTime { State.reset with wall.offset := 2000000000 } { session := 0, issued := 2100000001 } = false := by
  decide


/-! Small states that the witnesses share. -/

/-- READY, in control, in a numbered frame. -/
def tOn : State := { State.reset with
  pow.powerGood := true, pow.ready := true, pow.state := .control, pow.plantControl := true, pow.slotStrap := 1
  seq.frameValid := true, sec.drbgOk := true, mgmt.sessions := List.replicate 8 { isOpen := true, role := .owner } }
/-- In plant control with a configuration that admits every facility request. -/
def tFac : State := { tOn with
  wall.epoch := 1
  mgmt.sessions := List.replicate 8 { isOpen := true, role := .owner }
  img := { tOn.img with
    modes := { allowed := 7 }
    limits := { rowCap := 65535, rackCap := List.replicate 24 65535 }
    topology := { loops := List.replicate 24 { configured := true } }
    valves := List.replicate 48 { function := 4 }
    loops := List.replicate 512 { present := true, enabled := true, spSource := 2, input := 0 }
    almanacs := List.replicate 12 { present := true, columns := 1, column := [{ kind := 2, length := 100 }] } }
  pow.act24 := true, pow.deadMan := false
  can.ch := List.replicate 12 { state := .normal } }
/-- A tenant with a bound site and pages. -/
def tTen : State := { tFac with
  img := { tFac.img with
    tenants := [{ present := true, enabled := true, maxPages := 9 }]
    links := [{ present := true, slots := [⟨true, 0, 0, 0⟩, ⟨true, 0, 0, 0⟩] }] }
  heat := { tFac.heat with tenants := [{ state := .active, maxIn := 9 }], pages := [{ state := .held }], sites := [{ tenant := some 0 }, {}] } }
/-- The holder of a round with claim 24. -/
def tHolds : State := { tOn with pow.deadMan := false, pair.role := .control, pair.claim := 24, pair.claimAge := 1 }
/-- Armed at a plan epoch boundary. -/
def tArms : State := { tOn with
  pow.deadMan := false, pow.state := .arming, pow.armPumps := false, pow.armPlan := false, pow.armLinks := false
  pow.armSensors := false }
/-- A standby whose holder has been silent for 4 frames. -/
def tBids : State := { tOn with
  seq.frame := 100, pow.deadMan := false, pow.state := .standby, pair.role := .standby, pair.idleSince := 96 }
/-- An enrolled unit that may be released. -/
def tReleases : State := { tOn with
  pow.state := .standby, sec.fuses.enrolled := [true, true, true], sec.enrolLow := true, seq.rowT := 10000000000000
  sec.releaseNonce := some (9, 0) }
/-- An enrolled unit with one free session. -/
def tClient : State := { tOn with
  wall.epoch := 1, sec.fuses.enrolled := [true, true, true], sec.fuses.ownerKeyHash := 3
  mgmt.ports := [{ linkUp := true, addressed := true }], mgmt.sessions := [{}] }
/-- An Announce of the best master. -/
def tAnn : Announce :=
  { port := 0, source := 1, domain := 0, gm := 1, priority1 := 1, clockClass := 6, accuracy := 0
    variance := 0, priority2 := 1, stepsRemoved := 0, ptpTimescale := true, utcOffset := 37, intervalNs := 1000000000 }
/-- A Delay_Resp to the unit's own Delay_Req. -/
def tResp : DelayResp :=
  { port := 0, domain := 0, source := 1, seq := 0, ours := true, txRow := 0, rxMaster := 0, correction := 0 }
/-- The facts of an enrolment record. -/
def tEnrol : EnrolFacts := { rootHash := 1, imageKey := 2 }

/-! Witnesses, one theorem for each statement that has hypotheses. -/

theorem witness_StepRunsTheFrontCommand :
    (∃ (c : Instr) (rest : List Instr) (s : State), s.pending = c :: rest) ∧
    (∃ (s : State), s.pending = []) :=
  ⟨⟨(.rowStop { session := 1 } : Instr), ([] : List Instr),
      { tOn with pending := ((.rowStop { session := 1 } : Instr)) :: (([] : List Instr)) }, by decide⟩,
   ⟨{ tOn with pending := [] }, by decide⟩⟩

theorem witness_FrameBoundaryAndPhases :
    (∃ (s : State), sequencerRuns s = true ∧ s.pow.waiting = none ∧ operating s = true ∧ s.seq.frameValid = true ∧
      -200000 ≤ s.wall.rate) ∧
    (∃ (s : State), sequencerRuns s = true ∧ s.pow.waiting = none ∧ operating s = true ∧ s.seq.frameValid = false) ∧
    (∃ (s : State), sequencerRuns s = true ∧ s.pow.waiting = none ∧ operating s = false ∧ s.seq.frameValid = true) ∧
    (∃ (s : State), s.seq.frameValid = true) ∧
    (∃ (s : State), s.seq.frameValid = false) ∧
    (∃ (s : State), s.seq.backupClock = false ∧ -200000 ≤ s.wall.rate) ∧
    (∃ (s : State), s.seq.backupClock = true) ∧
    (∃ (s : State) (r : Readings), operating s = true ∧ s.seq.frameValid = true ∧ s.seq.phase = 0) ∧
    (∃ (s : State) (l : List Nat), operating s = true ∧ s.seq.frameValid = true ∧ s.seq.phase ≤ 1) ∧
    (∃ (s : State), operating s = true ∧ s.seq.frameValid = true ∧ s.seq.phase ≤ 2) ∧
    (∃ (s : State), operating s = true ∧ s.seq.frameValid = true ∧ s.seq.phase ≤ 3 ∧ s.seq.overran.contains
      .bookkeeping = false ∧ stoppedClients .guard s = []) ∧
    (∃ (s : State), sequencerRuns s = true ∧ s.pow.waiting = none ∧ operating s = false ∧ s.seq.phase ≤ 3) ∧
    (∃ (s : State) (r : Readings) (l : List Nat), 4 ≤ s.seq.phase) :=
  ⟨⟨tOn, by decide⟩,
   ⟨{ tOn with seq.frameValid := false }, by decide⟩,
   ⟨{ tOn with pow.state := .noImage }, by decide⟩,
   ⟨{ tOn with seq.frameValid := true }, by decide⟩,
   ⟨{ tOn with seq.frameValid := false }, by decide⟩,
   ⟨{ { tOn with seq.backupClock := false } with wall.rate := -200000 }, by decide⟩,
   ⟨{ tOn with seq.backupClock := true }, by decide⟩,
   ⟨{ { { tOn with pow.ready := true } with seq.frameValid := true } with seq.phase := 0 }, ({} : Readings), by decide⟩,
   ⟨{ { { tOn with pow.ready := true } with seq.frameValid := true } with seq.phase := 1 }, ([] : List Nat), by decide⟩,
   ⟨{ { { tOn with pow.ready := true } with seq.frameValid := true } with seq.phase := 2 }, by decide⟩,
   ⟨{ tOn with seq.phase := 3 }, by decide⟩,
   ⟨{ tOn with pow.state := .noImage, seq.phase := 3 }, by decide⟩,
   ⟨{ tOn with seq.phase := 4 }, ({} : Readings), ([] : List Nat), by decide⟩⟩

theorem witness_ClientOverrunCountsOnce :
    (∃ (s : State) (c : Client), operating s = true ∧ s.seq.frameValid = true ∧ s.seq.phase ≤ c.phase.index ∧
      clientPowered c s = true ∧ s.seq.overran.contains c = false) ∧
    (∃ (s : State) (c : Client), s.seq.overran.contains c = true) ∧
    (∃ (q : Sequencer) (c : Client), (∀ d ∈ q.overran, d.phase ≠ c.phase) ∧ q.consec.length = 4 ∧ q.phaseOver.length =
      4) ∧
    (∃ (q : Sequencer) (c : Client) (d : Client), c.phase = d.phase) :=
  ⟨⟨{ tOn with pow.domains := List.replicate 126 { state := .on } }, .engine, by decide⟩,
   ⟨{ tOn with seq.overran := [((.engine : Client))] }, (.engine : Client), by decide⟩,
   ⟨{ { (({} : Sequencer)) with consec := List.replicate (4) 0 } with phaseOver := List.replicate (4) 0 }, (.engine :
      Client), by decide⟩,
   ⟨{}, .engine, .control, by decide⟩⟩

theorem witness_SafeHoldAndPllLoss :
    (∃ (s : State), operating s = true ∧ s.seq.frameValid = true ∧ s.seq.phase = 0 ∧ s.seq.state = .normal ∧
      s.seq.consec.any (fun n => 16 ≤ n) = true) ∧
    (∃ (s : State), operating s = true ∧ s.seq.phase = 0 ∧ s.seq.state = .safeHold ∧ 10000 ≤ s.seq.clean) ∧
    (∃ (s : State), s.seq.state = .safeHold ∧ s.seq.clean < 10000) ∧
    (∃ (s : State), s.seq.state = .holdLocked) ∧
    (∃ (s : State) (p : Pll), sequencerRuns s = true ∧ s.seq.unlocked.contains p = false) ∧
    (∃ (s : State) (p : Pll), s.seq.unlocked.contains p = true) ∧
    (∃ (s : State), sequencerRuns s = true ∧ s.eng.fastLocked = true) ∧
    (∃ (s : State) (c : Client) (p : Pll), c.pll = some p ∧ (c ≠ .engine ∨ s.eng.clock ≠ 2) ∧ p ∈ s.seq.unlocked) :=
  ⟨⟨{ tOn with seq.consec := [0, 16, 0, 0] }, by decide⟩,
   ⟨{ { { { tOn with pow.ready := true } with seq.phase := 0 } with seq.state := .safeHold } with seq.clean := 10000 },
      by decide⟩,
   ⟨{ { tOn with seq.state := .safeHold } with seq.clean := 10000 - 1 }, by decide⟩,
   ⟨{ tOn with seq.state := .holdLocked }, by decide⟩,
   ⟨{ { tOn with pow.powerGood := true } with seq.unlocked := [] }, (.core : Pll), by decide⟩,
   ⟨{ tOn with seq.unlocked := [((.core : Pll))] }, (.core : Pll), by decide⟩,
   ⟨{ { tOn with pow.powerGood := true } with eng.fastLocked := true }, by decide⟩,
   ⟨{ tOn with seq.unlocked := [.core] }, .telemetry, .core, by decide⟩⟩

theorem witness_SyncOffsetsSlewOrStep :
    (∃ (s : State) (m : Announce) (origin : Int) (corr : Int) (rx : Int) (log : Int), sequencerRuns s = true ∧ -7 ≤
      log ∧ log ≤ 0 ∧ s.wall.master = some m) ∧
    (∃ (n : Nat) (f : Nat) (off : Int) (w : Wall), w.arb = false ∧ off.natAbs ≤ 50000000) ∧
    (∃ (n : Nat) (f : Nat) (off : Int) (w : Wall), w.arb = false ∧ 50000000 < off.natAbs) ∧
    (∃ (n : Nat) (f : Nat) (off : Int) (w : Wall), w.arb = false ∧ 50000000 < off.natAbs ∧ w.bigRun + 1 < 8) ∧
    (∃ (n : Nat) (f : Nat) (off : Int) (w : Wall), w.arb = false ∧ 50000000 < off.natAbs ∧ 8 ≤ w.bigRun + 1) ∧
    (∃ (n : Nat) (f : Nat) (off : Int) (w : Wall), w.arb = true) ∧
    (∃ (s : State) (port : Nat) (domain : Nat) (source : Nat) (origin : Int) (corr : Int) (rx : Int) (log : Int),
      sequencerRuns s = true ∧ (domain ≠ s.img.topology.ptpDomain ∨ log < -7 ∨ 0 < log)) ∧
    (∃ (s : State) (port : Nat) (source : Nat) (origin : Int) (corr : Int) (rx : Int) (log : Int), sequencerRuns s =
      true ∧ -7 ≤ log ∧ log ≤ 0 ∧ fromMaster s port source = false) ∧
    (∃ (s : State), sequencerRuns s = true) ∧
    (∃ (s : State) (r : DelayResp) (m : Announce), sequencerRuns s = true ∧ s.wall.master = some m ∧ r.domain =
      s.img.topology.ptpDomain ∧ r.port = s.wall.activePort ∧ r.source = m.source ∧ r.ours = true ∧ s.wall.delayOpen =
      true ∧ r.seq = s.wall.delaySeq) ∧
    (∃ (s : State) (r : DelayResp), r.domain = s.img.topology.ptpDomain ∧ delayAnswers s r = false) :=
  ⟨⟨{ tOn with wall.master := some tAnn }, tAnn, 0, 0, 0, -7, by decide⟩,
   ⟨1, 1, -50000000, {}, by decide⟩,
   ⟨1, 1, -50000001, {}, by decide⟩,
   ⟨1, 1, -50000001, { bigRun := 6 }, by decide⟩,
   ⟨1, 1, 50000001, { bigRun := 7 }, by decide⟩,
   ⟨1, 1, 0, { (({} : Wall)) with arb := true }, by decide⟩,
   ⟨tOn, 0, 0, 1, 0, 0, 0, 1, by decide⟩,
   ⟨{ tOn with wall.master := some tAnn }, 0, 2, 0, 0, 0, 0, by decide⟩,
   ⟨{ tOn with pow.powerGood := true }, by decide⟩,
   ⟨{ tOn with wall.master := some tAnn, wall.delayOpen := true, wall.delaySeq := 5 }, { tResp with seq := 5 }, tAnn,
      by decide⟩,
   ⟨{ tOn with wall.master := some tAnn, wall.delayOpen := true, wall.delaySeq := 5 }, { tResp with seq := 4 }, by
      decide⟩⟩

theorem witness_AnnounceHoldoverAndMarks :
    (∃ (s : State) (a : Announce) (f : ForeignMaster), sequencerRuns s = true ∧ announceEligible s a = true ∧
      bestMaster (noteForeign a s) = some f ∧ (sameSender f.data a = true ∨ s.wall.master = none)) ∧
    (∃ (s : State) (a : Announce) (b : Announce) (t0 : Nat), announceEligible s a = true ∧ s.wall.foreign = [⟨b,
      [t0]⟩] ∧ sameSender b a = true ∧ rowNs s ≤ t0 + 4 * a.intervalNs) ∧
    (∃ (s : State) (a : Announce), sequencerRuns s = true ∧ announceEligible s a = true ∧ s.wall.foreign = [] ∧
      s.wall.master = none) ∧
    (∃ (s : State) (a : Announce), sequencerRuns s = true ∧ a.domain ≠ s.img.topology.ptpDomain) ∧
    (∃ (s : State) (f : ForeignMaster), sequencerRuns s = true ∧ s.wall.holdover = false ∧ s.wall.lastAnnounce + 3 *
      s.wall.announceNs ≤ rowNs s ∧ bestMaster (dropMaster s) = some f) ∧
    (∃ (s : State), sequencerRuns s = true ∧ s.wall.holdover = false ∧ s.wall.lastAnnounce + 3 * s.wall.announceNs ≤
      rowNs s ∧ bestMaster (dropMaster s) = none) ∧
    (∃ (s : State), s.wall.holdover = true ∧ s.wall.master = none ∧ s.wall.holdoverSince + 3 * s.wall.announceNs ≤
      rowNs s) ∧
    (∃ (s : State) (f : Nat), s.wall.limitSince = some f ∧ f + 6000000 < s.seq.frame ∧ 200000 ≤ s.wall.rate.natAbs ∧
      s.wall.degraded = false) ∧
    (∃ (s : State) (f : Nat), s.wall.limitSince = some f ∧ s.seq.frame ≤ f + 6000000) ∧
    (∃ (s : State), (s.wall.limitSince = none ∨ s.wall.rate.natAbs < 200000)) ∧
    (∃ (n : Nat) (off : Int) (w : Wall), w.rate.natAbs = 200000 ∧ 50000 ≤ off.natAbs) ∧
    (∃ (n : Nat) (off : Int) (w : Wall), (w.rate.natAbs < 200000 ∨ off.natAbs < 50000)) ∧
    (∃ (n : Nat) (f : Nat) (off : Int) (w : Wall), w.arb = false ∧ off.natAbs < 10000) ∧
    (∃ (n : Nat) (f : Nat) (off : Int) (w : Wall), 10000 ≤ off.natAbs) ∧
    (∃ (n : Nat) (f : Nat) (off : Int) (w : Wall), w.arb = false ∧ off.natAbs ≤ 50000000) :=
  ⟨⟨{ tOn with seq.rowT := 5000000000 * 10000, wall.foreign := [⟨tAnn, [1000000000]⟩] }, tAnn, ⟨tAnn, [5000000000,
      1000000000]⟩, by decide⟩,
   ⟨{ tOn with seq.rowT := 5000000000 * 10000, wall.foreign := [⟨tAnn, [1000000000]⟩] }, tAnn, tAnn, 1000000000, by
      decide⟩,
   ⟨tOn, tAnn, by decide⟩,
   ⟨tOn, { tAnn with domain := 1 }, by decide⟩,
   ⟨{ tOn with seq.rowT := 3000000000 * 10000, wall.master := some { tAnn with source := 2 }, wall.foreign := [⟨tAnn, [2000000000, 1000000000]⟩] },
      ⟨tAnn, [2000000000, 1000000000]⟩, by decide⟩,
   ⟨{ tOn with seq.rowT := 3000000000 * 10000, wall.master := some tAnn, wall.foreign := [⟨tAnn, [0]⟩] }, by decide⟩,
   ⟨{ { { tOn with wall.holdover := true } with wall.master := none } with seq.rowT := (tOn.wall.holdoverSince + 3 * tOn.wall.announceNs) * 10000 },
      by decide⟩,
   ⟨{ tOn with wall.limitSince := some 1, seq.frame := 6000002, wall.rate := -200000 }, 1, by decide⟩,
   ⟨{ { tOn with wall.limitSince := some (1) } with seq.frame := (1) + 6000000 }, 1, by decide⟩,
   ⟨{ tOn with wall.limitSince := some 1, wall.rate := 199999 }, by decide⟩,
   ⟨7, -50000, { rate := -200000 }, by decide⟩,
   ⟨7, 49999, { rate := 200000 }, by decide⟩,
   ⟨1, 1, -9999, {}, by decide⟩,
   ⟨1, 1, 10000, {}, by decide⟩,
   ⟨1, 1, 50000000, {}, by decide⟩⟩

theorem witness_EpochsAndScheduleUpkeep :
    (∃ (s : State) (d : Int), sequencerRuns s = true ∧ s.seq.phase = 0 ∧ s.wall.step = some d ∧ s.wall.stepAt <
      s.seq.rowT ∧ (s.wall.ptpLocked = true ∨ s.wall.epoch ≠ 0)) ∧
    (∃ (s : State) (d : Int), sequencerRuns s = true ∧ s.seq.phase = 0 ∧ s.wall.step = some d ∧ s.wall.stepAt <
      s.seq.rowT ∧ s.wall.ptpLocked = false ∧ s.wall.epoch = 0) ∧
    (∃ (s : State), (s.seq.phase ≠ 0 ∨ s.seq.rowT ≤ s.wall.stepAt)) ∧
    (∃ (s : State), s.wall.step = none) ∧
    (∃ (s : State), s.wall.epoch ≠ 0 ∧ s.wall.arb = false ∧ s.sched.lastConv + 1000000000 ≤ rowNs s ∧ (∀ e ∈
      s.sched.table, e.due ≤ s.seq.frame + 10000)) ∧
    (∃ (s : State), s.wall.epoch ≠ 0 ∧ s.wall.arb = false ∧ s.sched.lastConv + 1000000000 ≤ rowNs s) ∧
    (∃ (s : State) (i : Nat) (e : SchedEntry), s.sched.table[i]? = some e ∧ e.valid = true ∧ e.wallKeyed = true ∧
      e.state = .pending ∧ inHistory s e.actionId e.occurrence = false ∧ s.seq.frame < convertDue s e.target) ∧
    (∃ (s : State), operating s = true ∧ s.seq.frameValid = true ∧ s.seq.phase = 0 ∧ s.seq.frame % 100 = 0 ∧
      s.plan.lastBoundary ≠ some s.seq.frame ∧ standsBy s = false ∧ handoverHold s = false ∧ safeHoldDue s.seq = false) ∧
    (∃ (s : State), operating s = true ∧ s.seq.frameValid = true ∧ s.seq.phase = 0 ∧ s.seq.frame % 100 = 0 ∧
      s.plan.lastBoundary ≠ some s.seq.frame ∧ standsBy s = true ∧ handoverHold s = false) ∧
    (∃ (s : State), (s.seq.frame % 100 ≠ 0 ∨ s.seq.phase ≠ 0 ∨ s.plan.lastBoundary = some s.seq.frame)) :=
  ⟨⟨{ tOn with wall.step := some 5, wall.ptpLocked := true, seq.rowT := 1 }, 5, by decide⟩,
   ⟨{ tOn with wall.step := some 5, seq.rowT := 1 }, 5, by decide⟩,
   ⟨{ tOn with wall.step := some 5, wall.stepAt := 7, seq.rowT := 7 }, by decide⟩,
   ⟨{ tOn with wall.step := none }, by decide⟩,
   ⟨{ { { tOn with wall.epoch := 1 } with wall.arb := false } with seq.rowT := (tOn.sched.lastConv + 1000000000) * 10000 },
      by decide⟩,
   ⟨{ tOn with wall.epoch := 1, seq.rowT := 1000000000 * 10000 }, by decide⟩,
   ⟨{ tOn with seq.frame := 4, wall.epoch := 1, sched.table := [{ valid := true, wallKeyed := true, target := 600000 }] },
      0, { valid := true, wallKeyed := true, target := 600000 }, by decide⟩,
   ⟨{ tOn with seq.frame := 100 }, by decide⟩,
   ⟨{ tOn with seq.frame := 100, pow.state := .standby }, by decide⟩,
   ⟨{ tOn with seq.frame := 99 }, by decide⟩⟩

theorem witness_PowerLossKeepsMramAndFuses :
    (∃ (s : State), s.pow.powerGood = true) ∧
    (∃ (s : State), s.pow.powerGood = false) ∧
    (∃ (s : State), s.pow.powerGood = true ∧ railReady s 2 = true) :=
  ⟨⟨{ tOn with pow.powerGood := true }, by decide⟩,
   ⟨{ tOn with pow.powerGood := false }, by decide⟩,
   ⟨(fun (w : State) =>
      { w with pow.rails := upd (w.pow.rails ++ List.replicate (2 + 1 - (w.pow.rails).length) {}) (2) (fun y0 => { y0 with state := .ready }) })
      ({ tOn with pow.powerGood := true }), by decide⟩⟩

theorem witness_StartUpAndResets :
    (∃ (s : State) (f : StartFacts), s.pow.powerGood = false) ∧
    (∃ (s : State) (f : StartFacts), s.pow.powerGood = false ∧ f.crystalOk = true ∧ f.rails.getD 1 (some none) = none
      ∧ f.rails.getD 2 (some none) = none) ∧
    (∃ (s : State) (f : StartFacts), s.pow.powerGood = false ∧ f.crystalOk = false ∧ f.rails.getD 1 (some none) = none
      ∧ f.rails.getD 2 (some none) = none) ∧
    (∃ (s : State) (f : StartFacts), s.pow.powerGood = true) ∧
    (∃ (s : State), s.pow.powerGood = true) ∧
    (∃ (s : State), coreRuns s = true ∧ s.pow.lastHeartbeat + 100000000 ≤ rowNs s) ∧
    (∃ (s : State), (coreRuns s = false ∨ rowNs s < s.pow.lastHeartbeat + 100000000)) ∧
    (∃ (s : State) (f : StartFacts) (k : Nat), s.pow.resetDue = some k ∧ s.pow.powerGood = true) ∧
    (∃ (s : State) (f : StartFacts) (k : Nat), s.pow.resetDue = some k ∧ s.pow.powerGood = true ∧ f.crystalOk = true ∧
      f.rails.getD 1 (some none) = none ∧ f.rails.getD 2 (some none) = none) ∧
    (∃ (s : State) (f : Nat), s.pow.vanaSince = some f ∧ s.pow.state = .held ∧ f + 10000 ≤ s.seq.frame ∧ warmResets s
      < 6) ∧
    (∃ (s : State), 6 ≤ warmResets s) ∧
    (∃ (s : State) (f : StartFacts), s.pow.state = .noImage ∧ s.key.lastRetry + 10000000000 ≤ rowNs s ∧
      f.backplane.present = false ∧ f.front.present = false) ∧
    (∃ (s : State) (f : StartFacts), s.pow.state = .noImage ∧ s.key.lastRetry + 10000000000 ≤ rowNs s) ∧
    (∃ (s : State) (f : StartFacts), rowNs s < s.key.lastRetry + 10000000000) :=
  ⟨⟨{ tOn with pow.powerGood := false }, ({} : StartFacts), by decide⟩,
   ⟨{ tOn with pow.powerGood := false }, { rails := [none, none, none] }, by decide⟩,
   ⟨{ tOn with pow.powerGood := false }, { crystalOk := false, rails := [none, none, none] }, by decide⟩,
   ⟨{ tOn with pow.powerGood := true }, ({} : StartFacts), by decide⟩,
   ⟨tOn, by decide⟩,
   ⟨{ tOn with seq.rowT := 100000000 * 10000 }, by decide⟩,
   ⟨{ tOn with seq.rowT := 100000000 * 10000 - 1 }, by decide⟩,
   ⟨{ { tOn with pow.resetDue := some (1) } with pow.powerGood := true }, ({} : StartFacts), 1, by decide⟩,
   ⟨{ tOn with pow.resetDue := some 2 }, { rails := [none, none, none] }, 2, by decide⟩,
   ⟨{ { { tOn with pow.vanaSince := some (1) } with pow.state := .held } with seq.frame := (1) + 10000 }, 1, by decide⟩,
   ⟨{ tOn with pow.warmHistory := List.replicate 6 0 }, by decide⟩,
   ⟨{ tOn with pow.state := .noImage, seq.rowT := 10000000000 * 10000 },
      { backplane := { present := false }, front := { present := false } }, by decide⟩,
   ⟨{ { tOn with pow.state := .noImage } with seq.rowT := (tOn.key.lastRetry + 10000000000) * 10000 }, ({} :
      StartFacts), by decide⟩,
   ⟨tOn, {}, by decide⟩⟩

theorem witness_CrystalFailureAndTries :
    (∃ (s : State), s.pow.ready = true ∧ s.seq.backupClock = false) ∧
    (∃ (s : State), (s.pow.ready = false ∨ s.seq.backupClock = true)) ∧
    (∃ (s : State), s.pow.state = .limp ∧ s.pow.xtalTries < 10 ∧ s.pow.lastTry + 1000000000 ≤ rowNs s) ∧
    (∃ (s : State), s.pow.state = .limp ∧ s.pow.xtalTries < 9 ∧ s.pow.lastTry + 1000000000 ≤ rowNs s) ∧
    (∃ (s : State) (b : Bool), 10 ≤ s.pow.xtalTries) :=
  ⟨⟨{ { tOn with pow.ready := true } with seq.backupClock := false }, by decide⟩,
   ⟨{ tOn with seq.backupClock := true }, by decide⟩,
   ⟨{ { { tOn with pow.state := .limp } with pow.xtalTries := 10 - 1 } with seq.rowT := (tOn.pow.lastTry + 1000000000) * 10000 },
      by decide⟩,
   ⟨{ { { tOn with pow.state := .limp } with pow.xtalTries := 9 - 1 } with seq.rowT := (tOn.pow.lastTry + 1000000000) * 10000 },
      by decide⟩,
   ⟨{ tOn with pow.xtalTries := 10 }, true, by decide⟩⟩

theorem witness_RailsReadyLostAndSupply :
    (∃ (s : State) (f : StartFacts) (k : Nat) (us : Nat), s.pow.waiting = some f ∧ (s.pow.rails.getD k {}).enabled =
      true ∧ (s.pow.rails.getD k {}).state = .off) ∧
    (∃ (s : State) (f : StartFacts) (k : Nat) (j : Nat) (us : Nat), s.pow.waiting = some f ∧ (k = 1 ∧ j = 2 ∨ k = 2 ∧
      j = 1) ∧ (s.pow.rails.getD k {}).enabled = true ∧ (s.pow.rails.getD k {}).state = .off ∧ (s.pow.rails.getD j
      {}).state = .off ∧ j < s.pow.rails.length ∧ k < f.rails.length ∧ f.rails.getD j (some none) = none) ∧
    (∃ (s : State) (f : StartFacts) (k : Nat) (j : Nat), s.pow.waiting = some f ∧ (k = 1 ∧ j = 2 ∨ k = 2 ∧ j = 1) ∧
      (s.pow.rails.getD k {}).enabled = true ∧ (s.pow.rails.getD k {}).state = .off ∧ (s.pow.rails.getD j {}).state =
      .off ∧ j < s.pow.rails.length ∧ k < f.rails.length ∧ f.rails.getD j (some none) = none) ∧
    (∃ (s : State) (k : Nat) (us : Nat), s.pow.waiting = none) ∧
    (∃ (s : State) (k : Nat) (us : Nat), s.pow.waiting = none ∧ k ≠ 6) ∧
    (∃ (s : State) (us : Nat), s.pow.waiting = none ∧ s.pow.state = .held ∧ s.pow.ready = true ∧ railReady s 6 = false
      ∧ s.pow.vanaSince = none) ∧
    (∃ (s : State) (k : Nat), s.pow.powerGood = true ∧ k < 3 ∧ railReady s k = true) ∧
    (∃ (s : State) (k : Nat), s.pow.powerGood = true ∧ 3 ≤ k ∧ railReady s k = true) ∧
    (∃ (s : State) (k : Nat) (d : Nat) (x : Domain), s.pow.domains[d]? = some x ∧ railHolds k d = true) ∧
    (∃ (s : State) (k : Nat) (d : Nat), railHolds k d = false) ∧
    (∃ (s : State), s.pow.powerGood = true ∧ railReady s 7 = true) ∧
    (∃ (s : State), s.pow.act24Absent = false ∧ coreRuns s = true) ∧
    (∃ (s : State), s.pow.powerGood = true ∧ s.pow.act24 = false) ∧
    (∃ (s : State) (d : Nat) (us : Nat), (s.pow.domains.getD d {}).state = .cycling ∧ railReady s (domainRail d) =
      true ∧ (d < 64 ∨ d = 120) ∧ us ≤ 2000) ∧
    (∃ (s : State) (d : Nat) (us : Nat), (s.pow.domains.getD d {}).state = .cycling ∧ railReady s (domainRail d) =
      true ∧ (d < 64 ∨ d = 120) ∧ 2000 < us) ∧
    (∃ (s : State) (d : Nat) (us : Nat), (s.pow.domains.getD d {}).state ≠ .cycling) :=
  ⟨⟨(fun (w : State) =>
      { w with pow.rails := upd (w.pow.rails ++ List.replicate ((1) + 1 - (w.pow.rails).length) {}) ((1)) (fun y0 => { y0 with state := .off }) })
      ((fun (w : State) =>
      { w with pow.rails := upd (w.pow.rails ++ List.replicate ((1) + 1 - (w.pow.rails).length) {}) ((1)) (fun y0 => { y0 with enabled := true }) })
      ({ tOn with pow.waiting := some (({} : StartFacts)) })), ({} : StartFacts), 1, 1, by decide⟩,
   ⟨{ tOn with pow.waiting := some { rails := [none, none, none] }, pow.rails := [{}, { enabled := true }, {}] },
      { rails := [none, none, none] }, 1, 2, 100, by decide⟩,
   ⟨{ tOn with pow.waiting := some { rails := [none, none, none] }, pow.rails := [{}, {}, { enabled := true }] },
      { rails := [none, none, none] }, 2, 1, by decide⟩,
   ⟨tOn, 7, 100, by decide⟩,
   ⟨tOn, 7, 100, by decide⟩,
   ⟨{ tOn with pow.state := .held }, 4, by decide⟩,
   ⟨(fun (w : State) =>
      { w with pow.rails := upd (w.pow.rails ++ List.replicate ((3 - 1) + 1 - (w.pow.rails).length) {}) ((3 - 1)) (fun y0 => { y0 with state := .ready }) })
      ({ tOn with pow.powerGood := true }), 3 - 1, by decide⟩,
   ⟨(fun (w : State) =>
      { w with pow.rails := upd (w.pow.rails ++ List.replicate ((3) + 1 - (w.pow.rails).length) {}) ((3)) (fun y0 => { y0 with state := .ready }) })
      ({ tOn with pow.powerGood := true }), 3, by decide⟩,
   ⟨tOn, 4, 0, {}, by decide⟩,
   ⟨tOn, 4, 64, by decide⟩,
   ⟨{ tOn with pow.rails := List.replicate 8 { state := .ready } }, by decide⟩,
   ⟨tOn, by decide⟩,
   ⟨{ { tOn with pow.powerGood := true } with pow.act24 := false }, by decide⟩,
   ⟨{ tOn with pow.rails := List.replicate 8 { state := .ready }, pow.domains := List.replicate 126 { state := .cycling } },
      120, 2000, by decide⟩,
   ⟨{ tOn with pow.rails := List.replicate 8 { state := .ready }, pow.domains := List.replicate 126 { state := .cycling } },
      63, 2001, by decide⟩,
   ⟨tOn, 0, 2000, by decide⟩⟩

theorem witness_DeadManAndBackupStage :
    (∃ (s : State), s.pow.powerGood = true ∧ s.pow.deadMan = false ∧ s.pow.lastHeartbeat + 1000000 ≤ rowNs s) ∧
    (∃ (s : State), rowNs s < s.pow.lastHeartbeat + 1000000) ∧
    (∃ (s : State), (s.pow.state = .limp ∨ s.pow.state = .noImage) ∧ 31 ≤ s.pow.noClaimFrames ∧ s.pow.backupDrive =
      false) ∧
    (∃ (s : State), s.pow.noClaimFrames < 31) :=
  ⟨⟨{ { { tOn with pow.powerGood := true } with pow.deadMan := false } with seq.rowT := (tOn.pow.lastHeartbeat + 1000000) * 10000 },
      by decide⟩,
   ⟨{ tOn with seq.rowT := (tOn.pow.lastHeartbeat + 1000000 - 1) * 10000 }, by decide⟩,
   ⟨{ tOn with pow.state := .limp, pow.noClaimFrames := 31 }, by decide⟩,
   ⟨{ tOn with pow.state := .limp, pow.noClaimFrames := 30 }, by decide⟩⟩

theorem witness_CalibrationAndKeyAfterReady :
    (∃ (s : State) (g : Nat) (r : AfeCal), operating s = true ∧ domainOn s (103 + g) = true ∧ g < 8 ∧
      s.pow.calAfe.length = 8 ∧ s.pow.calFrame.length = 8 ∧ s.pow.calFrame.getD g 0 + 6000000 ≤ s.seq.frame ∧
      s.pow.calFrame.all (· ≠ s.seq.frame) = true) ∧
    (∃ (s : State) (g : Nat) (r : AfeCal), s.pow.calFrame.any (· = s.seq.frame) = true) ∧
    (∃ (s : State), s.pow.ready = true ∧ s.pow.ddrOk = true ∧ domainOn s 121 = true) ∧
    (∃ (s : State) (c : Copy), s.key.selected = some c ∧ s.pow.ready = true ∧ s.key.otherChecking = true) ∧
    (∃ (s : State) (c : Copy) (f : Nat), s.key.selected = some c ∧ s.key.controlNormalSince = some f ∧ s.seq.frame %
      100 = 0 ∧ f + 6000000 ≤ s.seq.frame ∧ s.sec.fuses.rollback < (copyStatus s.key c).level) ∧
    (∃ (s : State), s.key.controlNormalSince = none) ∧
    (∃ (s : State), s.pow.ready = true ∧ s.key.source ≠ 0 ∧ s.key.lost = false ∧ s.mgmt.update = none) :=
  ⟨⟨{ tOn with pow.domains := List.replicate 126 { state := .on }, seq.frame := 6000000 }, 7, {}, by decide⟩,
   ⟨tOn, 0, {}, by decide⟩,
   ⟨(fun (w : State) =>
      { w with pow.domains := upd (w.pow.domains ++ List.replicate (121 + 1 - (w.pow.domains).length) {}) (121) (fun y0 => { y0 with state := .on }) })
      ({ { tOn with pow.ready := true } with pow.ddrOk := true }), by decide⟩,
   ⟨{ { { tOn with key.selected := some ((.a : Copy)) } with pow.ready := true } with key.otherChecking := true }, (.a
      : Copy), by decide⟩,
   ⟨{ tOn with seq.frame := 6000000, key.selected := some .a, key.controlNormalSince := some 0, key.statusA := { level := 1 } },
      .a, 0, by decide⟩,
   ⟨{ tOn with key.controlNormalSince := none }, by decide⟩,
   ⟨{ { { { tOn with pow.ready := true } with key.source := 1 } with key.lost := false } with mgmt.update := none },
      by decide⟩⟩

theorem witness_ClippedTargetsKeepTheLimits :
    (∃ (s : State) (l : Nat), (∀ i ∈ loopSites s l, floorInForce s i ≤ s.img.limits.chipCap) ∧ floorSum s l ≤
      rackInForce s l) ∧
    (∃ (s : State), (∀ i ∈ presentSites s, floorInForce s i ≤ s.img.limits.chipCap) ∧ ((allTargets s).map fun x =>
      floorInForce s x.1).sum ≤ s.heat.rowLimit) ∧
    (∃ (s : State), (∀ i ∈ presentSites s, floorInForce s i ≤ s.img.limits.chipCap)) :=
  ⟨⟨{ tOn with heat.sites := [{}] }, 0, by decide⟩,
   ⟨{ tOn with heat.sites := [{}] }, by decide⟩,
   ⟨{ tOn with heat.sites := [{}] }, by decide⟩⟩

theorem witness_EffectiveCapsAndPageGenerations :
    (∃ (up : Nat) (down : Nat) (prev : Nat) (t : Nat), prev ≤ t ∧ t ≤ prev + up) ∧
    (∃ (up : Nat) (down : Nat) (prev : Nat) (t : Nat), t ≤ prev ∧ prev ≤ t + down) ∧
    (∃ (s : State) (i : Nat) (t : Nat), (loopP s (siteLoop s i)).isolated = true) ∧
    (∃ (s : State) (i : Nat) (t : Nat), (loopP s (siteLoop s i)).isolated = false ∧ (siteC s i).response =
      .unresponsive) ∧
    (∃ (s : State) (i : Nat) (t : Nat), (loopP s (siteLoop s i)).isolated = false ∧ (siteC s i).response ≠
      .unresponsive ∧ s.seq.state ≠ .normal) ∧
    (∃ (s : State) (k : Nat) (f : Page → Page), k < s.heat.pages.length ∧ (∀ p, (f p).pgen = p.pgen)) :=
  ⟨⟨5, 3, 10, 15, by decide⟩,
   ⟨5, 3, 10, 7, by decide⟩,
   ⟨updLoopP ((siteLoop tOn (1))) (fun y0 => { y0 with isolated := true }) (tOn), 1, 1, by decide⟩,
   ⟨updSiteC ((1)) (fun y0 => { y0 with response := .unresponsive }) (updLoopP ((siteLoop tOn (1))) (fun y0 =>
      { y0 with isolated := false }) (tOn)), 1, 1, by decide⟩,
   ⟨{ tOn with seq.state := .safeHold }, 0, 5, by decide⟩,
   ⟨{ tOn with heat.pages := [{}] }, 0, fun p => { p with surge := true }, by decide, fun _ => rfl⟩⟩

theorem witness_SilenceFallbackAndQuarantineEnd :
    (∃ (s : State) (i : Nat), (siteC s i).response = .unresponsive ∧ (siteP s i).covered = true ∧ (siteP s
      i).coverTrimmed = false ∧ 200 ≤ silence s i) ∧
    (∃ (s : State) (i : Nat), silence s i < 200) ∧
    (∃ (s : State) (i : Nat), (siteC s i).response = .responsive) ∧
    (∃ (s : State) (i : Nat), (tenantSt s i).state = .quarantine ∧ (tenantSt s i).quarFrame + 20000 ≤ s.seq.frame ∧ i
      < s.heat.tenants.length) ∧
    (∃ (s : State) (i : Nat), ((tenantSt s i).state ≠ .quarantine ∨ s.seq.frame < (tenantSt s i).quarFrame + 20000)) :=
  ⟨⟨updSiteP ((1)) (fun y0 => { y0 with coverTrimmed := false }) (updSiteP ((1)) (fun y0 =>
      { y0 with covered := true }) (updSiteC ((1)) (fun y0 => { y0 with response := .unresponsive }) (tOn))), 1, by
      decide⟩,
   ⟨{ tOn with seq.frame := 300, caps.sites := [{ capHistory := [(120, 5)], tel := {}, firstRecord := some 120 }] },
      0, by decide⟩,
   ⟨updSiteC ((1)) (fun y0 => { y0 with response := .responsive }) (tOn), 1, by decide⟩,
   ⟨{ (updTenant ((1)) (fun y0 => { y0 with state := .quarantine }) (tOn)) with seq.frame := (tenantSt tOn (1)).quarFrame + 20000 },
      1, by decide⟩,
   ⟨tOn, 1, by decide⟩⟩

theorem witness_ThermalTripAndFloorCauses :
    (∃ (s : State) (l : Nat), 10 ≤ s.caps.hotRun.getD l 0 ∧ l < s.caps.tripped.length ∧ s.caps.tripped.getD l false =
      false) ∧
    (∃ (s : State) (l : Nat), s.caps.hotRun.getD l 0 < 10) ∧
    (∃ (s : State) (l : Nat), s.caps.tripped.getD l false = true ∧ 10000 ≤ s.caps.coolRun.getD l 0) ∧
    (∃ (s : State) (l : Nat), s.caps.coolRun.getD l 0 < 10000) ∧
    (∃ (s : State) (k : Nat), (floorLine s k).violation = true ∧ (floorLine s k).held = false ∧ (floorLine s
      k).assertFrame + 100000 ≤ s.seq.frame) ∧
    (∃ (s : State) (k : Nat), ((floorLine s k).held = true ∨ s.seq.frame < (floorLine s k).assertFrame + 100000)) :=
  ⟨⟨(fun (w : State) =>
      { w with caps.tripped := upd (w.caps.tripped ++ List.replicate ((1) + 1 - (w.caps.tripped).length) false) ((1)) (fun y0 => false) })
      ((fun (w : State) =>
      { w with caps.hotRun := upd (w.caps.hotRun ++ List.replicate ((1) + 1 - (w.caps.hotRun).length) 0) ((1)) (fun y0 => 10) })
      (tOn)), 1, by decide⟩,
   ⟨(fun (w : State) =>
      { w with caps.hotRun := upd (w.caps.hotRun ++ List.replicate ((1) + 1 - (w.caps.hotRun).length) 0) ((1)) (fun y0 => 10 - 1) })
      (tOn), 1, by decide⟩,
   ⟨(fun (w : State) =>
      { w with caps.coolRun := upd (w.caps.coolRun ++ List.replicate ((1) + 1 - (w.caps.coolRun).length) 0) ((1)) (fun y0 => 10000) })
      ((fun (w : State) =>
      { w with caps.tripped := upd (w.caps.tripped ++ List.replicate ((1) + 1 - (w.caps.tripped).length) false) ((1)) (fun y0 => true) })
      (tOn)), 1, by decide⟩,
   ⟨(fun (w : State) =>
      { w with caps.coolRun := upd (w.caps.coolRun ++ List.replicate ((1) + 1 - (w.caps.coolRun).length) 0) ((1)) (fun y0 => 10000 - 1) })
      (tOn), 1, by decide⟩,
   ⟨{ (updFloor ((1)) (fun y0 => { y0 with held := false }) (updFloor ((1)) (fun y0 => { y0 with violation := true }) (tOn))) with seq.frame := (floorLine tOn (1)).assertFrame + 100000 },
      1, by decide⟩,
   ⟨updFloor ((1)) (fun y0 => { y0 with held := true }) (tOn), 1, by decide⟩⟩

theorem witness_DitherWindowsAndReferences :
    (∃ (s : State) (i : Nat), sitePresent s i = true ∧ (siteC s i).refFrame + 6000000 ≤ s.seq.frame ∧ (siteC s
      i).noRef = false ∧ i < s.caps.sites.length) ∧
    (∃ (s : State) (i : Nat), (siteC s i).noRef = true) ∧
    (∃ (s : State) (i : Nat) (t : Nat), sitePresent s i = true ∧ s.seq.frame % 100000 = 200 * (i % 500) ∧ (siteP s
      i).tenant = some t ∧ (tenantCfg s t).allowDither = true ∧ (siteC s i).response = .responsive ∧ i ∉ (loopRun s
      (siteLoop s i)).cold ∧ (siteC s i).refFrame + 100000 ≤ s.seq.frame ∧ (floorLine s (linkOf i)).driven = false ∧
      100 ≤ (siteC s i).settled ∧ i < s.caps.sites.length) ∧
    (∃ (s : State) (i : Nat), ((floorLine s (linkOf i)).driven = true ∨ (siteP s i).tenant = none ∨ (siteC s
      i).settled < 100 ∨ s.seq.frame % 100000 ≠ 200 * (i % 500))) ∧
    (∃ (s : State) (i : Nat) (d : Dither), (siteC s i).dither = some d ∧ d.start + 206 ≤ s.seq.frame ∧ i <
      s.caps.sites.length) ∧
    (∃ (s : State) (i : Nat) (d : Dither), (siteC s i).dither = some d ∧ s.seq.frame < d.start + 206) ∧
    (∃ (s : State) (i : Nat), (siteC s i).dither = none) :=
  ⟨⟨{ tOn with seq.frame := 6000000, img.links := [{ present := true, slots := [⟨true, 0, 0, 0⟩] }] }, 0, by decide⟩,
   ⟨updSiteC ((1)) (fun y0 => { y0 with noRef := true }) (tOn), 1, by decide⟩,
   ⟨{ tOn with seq.frame := 100000, img.links := [{ present := true, slots := [⟨true, 0, 0, 0⟩] }], img.tenants := [{ allowDither := true }], heat.sites := [{ tenant := some 0 }], caps.sites := [{ response := .responsive, settled := 100 }] },
      0, 0, by decide⟩,
   ⟨updFloor ((linkOf (1))) (fun y0 => { y0 with driven := true }) (tOn), 1, by decide⟩,
   ⟨{ (updSiteC ((1)) (fun y0 => { y0 with dither := some (({} : Dither)) }) (tOn)) with seq.frame := (({} : Dither)).start + 206 },
      1, ({} : Dither), by decide⟩,
   ⟨{ (updSiteC ((1)) (fun y0 => { y0 with dither := some (({} : Dither)) }) (tOn)) with seq.frame := (({} : Dither)).start + 206 - 1 },
      1, ({} : Dither), by decide⟩,
   ⟨updSiteC ((1)) (fun y0 => { y0 with dither := none }) (tOn), 1, by decide⟩⟩

theorem witness_ShedStepsAndRestore :
    (∃ (s : State), s.seq.engineConsec ∈ [3, 6, 9, 12, 15] ∧ s.seq.shedIssued = false) ∧
    (∃ (s : State), (s.seq.engineConsec ∉ [3, 6, 9, 12, 15] ∨ s.seq.shedIssued = true)) ∧
    (∃ (s : State), s.eng.shedSteps ≠ 0 ∧ s.eng.restoreNeed ≤ s.eng.cleanFrames) ∧
    (∃ (s : State), (s.eng.shedSteps = 0 ∨ s.eng.cleanFrames < s.eng.restoreNeed)) ∧
    (∃ (s : State), s.eng.shedDue ≠ 0 ∧ s.eng.shedSteps < 5) ∧
    (∃ (s : State), s.eng.shedSteps ≤ 5) ∧
    (∃ (s : State) (g : Nat), g < 8 ∧ s.eng.graphs.length = 8) ∧
    (∃ (s : State) (g : Nat), g < 8 ∧ s.eng.graphs.length = 8 ∧ (graphSt s g).shed = true ∧ (graphSt (markShed s)
      g).shed = false) ∧
    (∃ (q : Sequencer), q.overran.contains .engine = false) ∧
    (∃ (q : Sequencer), q.overran.contains .engine = true) :=
  ⟨⟨{ tOn with seq.engineConsec := 15 }, by decide⟩,
   ⟨tOn, by decide⟩,
   ⟨{ { tOn with eng.shedSteps := 1 } with eng.cleanFrames := tOn.eng.restoreNeed }, by decide⟩,
   ⟨{ tOn with eng.shedSteps := 0 }, by decide⟩,
   ⟨{ { tOn with eng.shedDue := 1 } with eng.shedSteps := 5 - 1 }, by decide⟩,
   ⟨{ tOn with eng.shedSteps := 5 }, by decide⟩,
   ⟨{ tOn with eng.graphs := List.replicate (8) {} }, 8 - 1, by decide⟩,
   ⟨updGraph ((8 - 1)) (fun y0 => { y0 with shed := true }) ({ tOn with eng.graphs := List.replicate (8) {} }), 8 - 1,
      by decide⟩,
   ⟨{}, by decide⟩,
   ⟨{ overran := [.engine] }, by decide⟩⟩

theorem witness_EngineMemoryErrors :
    (∃ (s : State) (bank : Nat) (row : Nat), lpddrOk s = true ∧ (∀ x ∈ s.eng.bankDbe, x.1 = bank → x.2 + 6000000 ≤
      s.seq.frame)) ∧
    (∃ (s : State) (bank : Nat) (row : Nat), (lpddrOk s = false ∨ ∃ x ∈ s.eng.bankDbe, x.1 = bank ∧ s.seq.frame < x.2
      + 6000000) ∧ bank < 64 ∧ s.pow.domains.length = 126 ∧ s.pow.bankGroupFail.length = 16) ∧
    (∃ (s : State) (bank : Nat), bank ∈ s.eng.reload ∧ lpddrOk s = true) ∧
    (∃ (s : State) (bank : Nat) (ok : Bool), bank ∈ s.eng.reload ∧ (ok = false ∨ lpddrOk s = false) ∧ bank < 64 ∧
      s.pow.domains.length = 126) ∧
    (∃ (s : State) (bank : Nat) (ok : Bool), bank ∉ s.eng.reload) :=
  ⟨⟨{ tOn with pow.ddrOk := true, seq.frame := 6000000, eng.bankDbe := [(5, 0), (6, 1)] }, 5, 3, by decide⟩,
   ⟨{ tOn with pow.ddrOk := true, seq.frame := 5999999, eng.bankDbe := [(63, 0)] }, 63, 3, by decide⟩,
   ⟨{ tOn with pow.ddrOk := true, eng.reload := [5] }, 5, by decide⟩,
   ⟨{ tOn with eng.reload := [63] }, 63, true, by decide⟩,
   ⟨tOn, 1, true, by decide⟩⟩

theorem witness_ScratchErrorsAndPrecisionRuns :
    (∃ (s : State) (g : Nat) (node : Nat) (st : Bool), g < s.eng.graphs.length) ∧
    (∃ (s : State) (r : List (List (Int × Int))), s.eng.precision = none) ∧
    (∃ (s : State) (p : Precision) (r : List (List (Int × Int))), s.eng.precision = some p ∧ (∀ x ∈ List.zip p.edges
      r, ∀ y ∈ List.zip x.1 x.2, y.1.inf = true ∨ (y.1.lo0 ≤ y.2.2 ∧ y.2.1 ≤ y.1.hi0))) ∧
    (∃ (s : State) (p : Precision) (r : List (List (Int × Int))), s.eng.precision = some p ∧ p.slot <
      s.eng.graphs.length ∧ (∃ x ∈ List.zip p.edges r, ∃ y ∈ List.zip x.1 x.2, y.1.inf = false ∧ (y.2.2 < y.1.lo0 ∨
      y.1.hi0 < y.2.1))) :=
  ⟨⟨tOn, 1, 1, true, by decide⟩,
   ⟨{ tOn with eng.precision := none }, default, by decide⟩,
   ⟨{ tOn with eng.precision := some ⟨0, 0, [], [[{ lo0 := 1, hi0 := 5 }]]⟩ }, ⟨0, 0, [], [[{ lo0 := 1, hi0 := 5 }]]⟩,
      [[(5, 6)]], by decide⟩,
   ⟨{ tOn with eng.precision := some ⟨7, 0, [], [[{ lo0 := 1, hi0 := 5 }]]⟩ }, ⟨7, 0, [], [[{ lo0 := 1, hi0 := 5 }]]⟩,
      [[(6, 7)]], by decide⟩⟩

theorem witness_LoopResumeAndProbes :
    (∃ (s : State) (i : Nat), i < s.ctl.loops.length ∧ (ctl s i).state = .frozen ∧ (ctl s i).cause = 0 ∧ 10 ≤ (ctl s
      i).clean ∧ s.pow.plantControl = true) ∧
    (∃ (s : State) (i : Nat), ((ctl s i).state ≠ .frozen ∨ (ctl s i).cause ≠ 0 ∨ (ctl s i).clean < 10)) ∧
    (∃ (s : State) (i : Nat), i < s.ctl.probes.length ∧ ((probe s i).state = .idle ∨ (probe s i).state = .done) ∧
      ddrReady s = true ∧ probeValid i (probe s i) = true) ∧
    (∃ (s : State) (i : Nat), ((probe s i).state = .idle ∨ (probe s i).state = .done) ∧ (ddrReady s = false ∨
      probeValid i (probe s i) = false)) ∧
    (∃ (s : State) (i : Nat), ((probe s i).state = .armed ∨ (probe s i).state = .post)) ∧
    (∃ (s : State) (i : Nat), ((probe s i).state = .armed ∨ (probe s i).state = .post) ∧ i < s.ctl.probes.length) ∧
    (∃ (s : State) (i : Nat), i < s.ctl.probes.length ∧ (probe s i).state = .post ∧ 65536 ≤ (probe s i).samples.length) ∧
    (∃ (s : State) (i : Nat), (probe s i).samples.length < 65536) :=
  ⟨⟨{ (updCtl ((1)) (fun y0 => { y0 with clean := 10 }) (updCtl ((1)) (fun y0 => { y0 with cause := 0 }) (updCtl ((1)) (fun y0 => { y0 with state := .frozen }) (tOn)))) with pow.plantControl := true },
      1, by decide⟩,
   ⟨tOn, 1, by decide⟩,
   ⟨{ tOn with pow.ddrOk := true, ctl.probes := [{}] }, 0, by decide⟩,
   ⟨{ tOn with ctl.probes := [{}] }, 0, by decide⟩,
   ⟨{ tOn with ctl.probes := [{ state := .post }] }, 0, by decide⟩,
   ⟨{ tOn with ctl.probes := [{ state := .armed }] }, 0, by decide⟩,
   ⟨{ tOn with ctl.probes := [{ state := .post, samples := List.replicate 65536 0 }] }, 0, by decide, rfl,
      Nat.le_of_eq List.length_replicate.symm⟩,
   ⟨{ tOn with ctl.probes := [{ state := .post, samples := List.replicate 65535 0 }] }, 0, Nat.lt_of_le_of_lt
      (Nat.le_of_eq List.length_replicate) (by omega)⟩⟩

theorem witness_ControlLawAndProfileKeepTheirLimits :
    (∃ (c : CtlCfg) (y : Int) (r : Int) (n : Nat) (p : CtlLoop), c.outMin ≤ c.outMax) ∧
    (∃ (c : CtlCfg) (y : Int) (r : Int) (n : Nat) (p : CtlLoop), c.outMin ≤ c.outMax ∧ (controlLaw c y r n p).uSat = 1) ∧
    (∃ (c : CtlCfg) (y : Int) (r : Int) (n : Nat) (p : CtlLoop), c.outMin ≤ c.outMax ∧ (controlLaw c y r n p).uSat =
      -1) ∧
    (∃ (c : CtlCfg) (y : Int) (r : Int) (n : Nat) (p : CtlLoop), c.iMin ≤ c.iMax ∧ (p.start = none → c.iMin * 65536 ≤
      p.ifine ∧ p.ifine ≤ c.iMax * 65536)) ∧
    (∃ (c : CtlCfg) (y : Int) (r : Int) (n : Nat) (p : CtlLoop) (a : Int), p.start = some a) ∧
    (∃ (c : CtlCfg) (g : Int) (p : CtlLoop), p.x < g * 4294967296) ∧
    (∃ (c : CtlCfg) (g : Int) (p : CtlLoop), g * 4294967296 < p.x) ∧
    (∃ (x : Int) (k : Nat), 0 < k ∧ 0 ≤ x) ∧
    (∃ (x : Int) (k : Nat), 0 < k ∧ x < 0) :=
  ⟨⟨{ (({} : CtlCfg)) with outMax := (({} : CtlCfg)).outMin }, 0, 0, 1, ({} : CtlLoop), by decide⟩,
   ⟨{ outMin := 0, outMax := 10000, kff := 65536, kp := 65536, iMin := -10, iMax := 10 }, 0, 32767, 0, {}, by decide⟩,
   ⟨{ outMin := 0, outMax := 10000, kff := 65536, kp := 65536, iMin := -10, iMax := 10 }, 32767, -32767, 0, {}, by
      decide⟩,
   ⟨{ iMin := -1, iMax := 1 }, 0, 0, 1, { ifine := 65536 }, by decide⟩,
   ⟨({} : CtlCfg), 0, 0, 1, { (({} : CtlLoop)) with start := some (0) }, 0, by decide⟩,
   ⟨({} : CtlCfg), 0, { (({} : CtlLoop)) with x := (0) * 4294967296 - 1 }, by decide⟩,
   ⟨({} : CtlCfg), 0, { (({} : CtlLoop)) with x := (0) * 4294967296 + 1 }, by decide⟩,
   ⟨0, 0 + 1, by decide⟩,
   ⟨0 - 1, 0 + 1, by decide⟩⟩

theorem witness_TelemetryAndSiteResponse :
    (∃ (s : State) (p : Nat) (head : List Nat) (interval : Nat) (missed : Nat) (mask : Nat) (records : List Nat), p <
      s.link.ports.length ∧ headVerdict s p (parseHead head) = .taken ∧ (parseHead head).type = 2 ∧ (parseHead
      head).op = 0 ∧ Client.telemetry ∉ s.seq.overran ∧ clockRuns .telemetry s = true ∧ (lport s p).telFrame ≠ some
      s.seq.frame ∧ interval + 1 = s.seq.frame ∧ records.length = 64 * (maskSlots mask).length) ∧
    (∃ (s : State) (p : Nat) (head : List Nat) (interval : Nat) (missed : Nat) (mask : Nat) (records : List Nat),
      headVerdict s p (parseHead head) = .taken ∧ (parseHead head).type = 2 ∧ (parseHead head).op = 0 ∧
      Client.telemetry ∉ s.seq.overran ∧ clockRuns .telemetry s = true) ∧
    (∃ (s : State) (p : Nat) (head : List Nat) (interval : Nat) (missed : Nat) (mask : Nat) (records : List Nat),
      headVerdict s p (parseHead head) = .taken ∧ (parseHead head).type = 2 ∧ (parseHead head).op = 0 ∧
      Client.telemetry ∉ s.seq.overran ∧ clockRuns .telemetry s = true ∧ interval + 1 ≠ s.seq.frame) ∧
    (∃ (s : State) (p : Nat) (head : List Nat) (interval : Nat) (missed : Nat) (mask : Nat) (records : List Nat) (b :
      Bool), linkAlive (lport s p) = false) ∧
    (∃ (s : State) (p : Nat) (head : List Nat) (interval : Nat) (missed : Nat) (mask : Nat) (records : List Nat) (b :
      Bool), linkAlive (lport s p) = true ∧ (lport s p).session = true ∧ (parseHead head).auth = false ∧
      Client.telemetry ∉ s.seq.overran ∧ clockRuns .telemetry s = true) ∧
    (∃ (s : State) (p : Nat), p < 64 ∧ (lport s p).session = true ∧ (lport s p).telFrame ≠ some s.seq.frame) ∧
    (∃ (s : State) (i : Nat), 10 ≤ (siteC s i).absentRun ∧ (siteC s i).response = .responsive) ∧
    (∃ (s : State) (i : Nat), (siteC s i).response ≠ .responsive) ∧
    (∃ (s : State) (i : Nat), sitePresent s i = true ∧ (lport s (linkOf i)).state = .up ∧ 10 ≤ (siteC s i).validRun ∧
      i % 32 ∉ (lport s (linkOf i)).emptied ∧ (siteC s i).response ≠ .responsive) ∧
    (∃ (s : State) (i : Nat), ((lport s (linkOf i)).state ≠ .up ∨ (siteC s i).validRun < 10)) :=
  ⟨⟨{ { tOn with link.ports := List.replicate 65 { state := .up, session := true } } with seq.frame := 1 }, 63, [50],
      0, 0, 1, List.replicate 64 0, by decide⟩,
   ⟨{ tOn with link.ports := List.replicate 65 { state := .up, session := true } }, 0, [50], 0, 0, 0, [], by decide⟩,
   ⟨{ { tOn with link.ports := List.replicate 65 { state := .up, session := true } } with seq.frame := 2 }, 0, [50],
      0, 0, 0, [], by decide⟩,
   ⟨tOn, 0, [50], 0, 0, 0, [], true, by decide⟩,
   ⟨{ tOn with link.ports := List.replicate 65 { state := .up, session := true } }, 0, [18], 0, 0, 0, [], true, by
      decide⟩,
   ⟨updPort ((64 - 1)) (fun y0 => { y0 with session := true }) (tOn), 64 - 1, by decide⟩,
   ⟨updSiteC ((1)) (fun y0 => { y0 with response := .responsive }) (updSiteC ((1)) (fun y0 =>
      { y0 with absentRun := 10 }) (tOn)), 1, by decide⟩,
   ⟨tOn, 1, by decide⟩,
   ⟨updSiteC ((1)) (fun y0 => { y0 with validRun := 10 }) (updPort ((linkOf (1))) (fun y0 => { y0 with state := .up })
      ((fun (w : State) =>
      { w with img.links := upd (w.img.links ++ List.replicate (((1) / 32) + 1 - (w.img.links).length) {}) (((1) / 32)) (fun y0 => { y0 with slots := upd (y0.slots ++ List.replicate (((1) % 32) + 1 - (y0.slots).length) {}) (((1) % 32)) (fun y1 => { y1 with present := true }) }) })
      ((fun (w : State) =>
      { w with img.links := upd (w.img.links ++ List.replicate (((1) / 32) + 1 - (w.img.links).length) {}) (((1) / 32)) (fun y0 => { y0 with present := true }) })
      (tOn)))), 1, by decide⟩,
   ⟨tOn, 1, by decide⟩⟩

theorem witness_ReliableDeliveryAndPings :
    (∃ (s : State) (p : Nat) (head : List Nat) (payload : List Nat), headVerdict s p (parseHead head) = .taken ∧ p <
      s.link.ports.length ∧ rebuildPn (lport s p).expectPn (parseHead head).seq = (lport s p).expectPn ∧ knownReliable
      p (parseHead head).type (parseHead head).op = true) ∧
    (∃ (s : State) (p : Nat) (head : List Nat) (payload : List Nat), headVerdict s p (parseHead head) = .taken ∧ p <
      s.link.ports.length ∧ rebuildPn (lport s p).expectPn (parseHead head).seq = (lport s p).expectPn ∧ knownReliable
      p (parseHead head).type (parseHead head).op = false) ∧
    (∃ (s : State) (p : Nat) (head : List Nat) (payload : List Nat), headVerdict s p (parseHead head) = .taken ∧ p <
      s.link.ports.length ∧ ((lport s p).expectPn : Int) < rebuildPn (lport s p).expectPn (parseHead head).seq) ∧
    (∃ (s : State) (p : Nat) (head : List Nat) (payload : List Nat), headVerdict s p (parseHead head) = .taken ∧ p <
      s.link.ports.length ∧ rebuildPn (lport s p).expectPn (parseHead head).seq < (lport s p).expectPn) ∧
    (∃ (s : State) (p : Nat) (head : List Nat) (payload : List Nat), headVerdict s p (parseHead head) = .taken ∧
      (lport s p).session = true) ∧
    (∃ (s : State) (p : Nat) (head : List Nat) (payload : List Nat) (n : Nat), (lport s p).ctlLast = some n ∧
      ctlNumber payload ≤ n ∧ p < s.link.ports.length ∧ controlTaken s p 0 head) ∧
    (∃ (s : State) (p : Nat) (head : List Nat) (payload : List Nat) (n : Nat), (lport s p).ctlLast = some n ∧
      ctlNumber payload ≤ n ∧ p < s.link.ports.length ∧ controlTaken s p 1 head) ∧
    (∃ (s : State) (p : Nat) (head : List Nat) (payload : List Nat) (n : Nat), (lport s p).ctlLast = some n ∧
      ctlNumber payload ≤ n ∧ p < s.link.ports.length) ∧
    (∃ (s : State) (p : Nat) (head : List Nat) (payload : List Nat) (k : ReplayPkt) (r : List ReplayPkt), controlTaken
      s p 0 head ∧ p < s.link.ports.length ∧ ctlFresh (lport s p) (ctlNumber payload) = true ∧ (lport s p).replay = k
      :: r ∧ (lport s p).waiting = [] ∧ (p < 64 ∨ s.pair.snap = none)) ∧
    (∃ (s : State) (p : Nat) (head : List Nat) (payload : List Nat) (k : ReplayPkt) (r : List ReplayPkt), controlTaken
      s p 1 head ∧ p < s.link.ports.length ∧ ctlFresh (lport s p) (ctlNumber payload) = true ∧ (lport s p).replay = k
      :: r ∧ (∀ x ∈ k :: r, rebuildPn k.pn (ctlNum16 payload) ≤ x.pn → x.replays < 4)) ∧
    (∃ (s : State) (p : Nat) (head : List Nat) (payload : List Nat) (k : ReplayPkt) (r : List ReplayPkt), controlTaken
      s p 1 head ∧ p < s.link.ports.length ∧ ctlFresh (lport s p) (ctlNumber payload) = true ∧ (lport s p).replay = k
      :: r ∧ (∃ x ∈ k :: r, rebuildPn k.pn (ctlNum16 payload) ≤ x.pn ∧ 4 ≤ x.replays)) ∧
    (∃ (s : State) (p : Nat) (k : ReplayPkt) (r : List ReplayPkt), p < s.link.ports.length ∧ (lport s p).replay = k ::
      r ∧ k.sent + 4 ≤ s.seq.frame ∧ (∀ x ∈ k :: r, k.pn ≤ x.pn ∧ x.replays < 4)) ∧
    (∃ (s : State) (p : Nat), (lport s p).replay = []) ∧
    (∃ (s : State) (p : Nat), p < s.link.ports.length ∧ (lport s p).state = .up ∧ (lport s p).pingFrame = none) ∧
    (∃ (s : State) (p : Nat) (f : Nat), (lport s p).pingFrame = some f ∧ s.seq.frame < f + 10000) ∧
    (∃ (s : State) (p : Nat) (head : List Nat) (payload : List Nat) (rtt : Nat), p < s.link.ports.length ∧
      controlTaken s p 3 head ∧ ctlFresh (lport s p) (ctlNumber payload) = true ∧ (lport s p).pingFrame ≠ none ∧
      ctlNum16 payload = (lport s p).pingNum) ∧
    (∃ (s : State) (p : Nat) (n : Nat) (bad : Bool), p < s.link.ports.length ∧ (lport s p).state ≠ .up) ∧
    (∃ (s : State) (p : Nat) (n : Nat) (bad : Bool), p < s.link.ports.length ∧ p < 64 ∧ (lport s p).state = .up ∧
      (lport s p).telFrame ≠ some s.seq.frame ∧ (lport s p).telNak ≠ some s.seq.frame) :=
  ⟨⟨{ tOn with link.ports := List.replicate 65 { state := .up, session := true } }, 63, [51, 0, 128, 0, 0, 0, 0, 0],
      [], by decide⟩,
   ⟨{ tOn with link.ports := List.replicate 65 { state := .up, session := true } }, 63, [51, 0, 0, 0, 0, 0, 0, 0], [],
      by decide⟩,
   ⟨{ tOn with link.ports := List.replicate 65 { state := .up, session := true } }, 0, [51, 0, 128, 1, 0, 0, 0, 0],
      [], by decide⟩,
   ⟨{ tOn with link.ports := List.replicate 65 { state := .up, session := true, expectPn := 5 } }, 0, [51, 0, 128, 4,
      0, 0, 0, 0], [], by decide⟩,
   ⟨{ tOn with link.ports := List.replicate 65 { state := .up, session := true } }, 0, [51, 0, 128, 0, 0, 0, 0, 0],
      [], by decide⟩,
   ⟨{ tOn with link.ports := List.replicate 65 { state := .up, ctlLast := some 7 } }, 0, [31, 0, 0, 0, 0, 0, 8, 0],
      [1, 0, 0, 0, 7, 0, 0, 0], 7, by decide⟩,
   ⟨{ tOn with link.ports := List.replicate 65 { state := .up, ctlLast := some 7 } }, 0, [31, 0, 16, 0, 0, 0, 8, 0],
      [1, 0, 0, 0, 7, 0, 0, 0], 7, by decide⟩,
   ⟨{ tOn with link.ports := List.replicate 65 { state := .up, ctlLast := some 7 } }, 0, [31, 0, 48, 0, 0, 0, 8, 0],
      [1, 0, 0, 0, 7, 0, 0, 0], 7, by decide⟩,
   ⟨{ tOn with link.ports := List.replicate 65 { state := .up, replay := [{ pn := 3, type := 3, op := 0, sent := 0 }], ctlLast := some 6 } },
      64, [31, 0, 0, 0, 0, 0, 8, 0], [3, 0, 0, 0, 7, 0, 0, 0], { pn := 3, type := 3, op := 0, sent := 0 }, [], by
      decide⟩,
   ⟨{ tOn with link.ports := List.replicate 65 { state := .up, replay := [{ pn := 3, type := 3, op := 0, sent := 0, replays := 3 }], ctlLast := some 6 } },
      0, [31, 0, 16, 0, 0, 0, 8, 0], [3, 0, 0, 0, 7, 0, 0, 0],
      { pn := 3, type := 3, op := 0, sent := 0, replays := 3 }, [], by decide⟩,
   ⟨{ tOn with link.ports := List.replicate 65 { state := .up, replay := [{ pn := 3, type := 3, op := 0, sent := 0, replays := 4 }], ctlLast := some 6 } },
      0, [31, 0, 16, 0, 0, 0, 8, 0], [3, 0, 0, 0, 7, 0, 0, 0],
      { pn := 3, type := 3, op := 0, sent := 0, replays := 4 }, [], by decide⟩,
   ⟨{ (updPort ((1)) (fun y0 => { y0 with replay := (({ pn := 1, type := 4, op := 1, tag := 1, sent := 1 } : ReplayPkt)) :: (([] : List ReplayPkt)) }) (tOn)) with seq.frame := (({ pn := 1, type := 4, op := 1, tag := 1, sent := 1 } : ReplayPkt)).sent + 4 },
      1, ({ pn := 1, type := 4, op := 1, tag := 1, sent := 1 } : ReplayPkt), ([] : List ReplayPkt), by decide⟩,
   ⟨updPort ((1)) (fun y0 => { y0 with replay := [] }) (tOn), 1, by decide⟩,
   ⟨updPort ((1)) (fun y0 => { y0 with pingFrame := none }) (updPort ((1)) (fun y0 => { y0 with state := .up })
      (tOn)), 1, by decide⟩,
   ⟨{ (updPort ((1)) (fun y0 => { y0 with pingFrame := some (1) }) (tOn)) with seq.frame := (1) + 10000 - 1 }, 1, 1,
      by decide⟩,
   ⟨{ tOn with link.ports := List.replicate 65 { state := .up, pingFrame := some 0, pingNum := 9 } }, 0, [31, 0, 48,
      0, 0, 0, 8, 0], [9, 0, 0, 0, 0, 0, 0, 0], 5, by decide⟩,
   ⟨tOn, 1, 1, true, by decide⟩,
   ⟨{ tOn with link.ports := List.replicate 65 { state := .up } }, 63, 3, true, by decide⟩⟩

theorem witness_TransactionsAndSessionKeys :
    (∃ (s : State) (p : Nat) (tag : Nat) (g : Nat) (b : TxnBody), responseKind (lport s p) tag g = 1) ∧
    (∃ (s : State) (p : Nat) (tag : Nat) (g : Nat) (b : TxnBody), responseKind (lport s p) tag g = 2) ∧
    (∃ (s : State) (p : Nat) (op : Nat) (x : Txn) (b : List Nat), p < s.link.ports.length ∧ x ∈ (lport s p).txns ∧
      (lport s p).state ≠ .config ∧ (lport s p).waiting = []) ∧
    (∃ (s : State) (p : Nat) (tag : Nat), (∀ x ∈ (lport s p).txns, x.tag = tag → s.seq.frame < x.sent + 8)) ∧
    (∃ (s : State) (p : Nat) (tag : Nat) (x : Txn), p < s.link.ports.length ∧ (lport s p).txns.find? (fun y => y.tag =
      tag) = some x ∧ x.sent + 8 ≤ s.seq.frame ∧ (3 ≤ (lport s p).timeouts ∨ 3 ≤ x.tries)) ∧
    (∃ (s : State) (p : Nat) (tag : Nat) (x : Txn), p < s.link.ports.length ∧ (lport s p).txns.find? (fun y => y.tag =
      tag) = some x ∧ x.sent + 8 ≤ s.seq.frame ∧ (lport s p).timeouts < 3 ∧ x.tries < 3) ∧
    (∃ (s : State) (p : Nat), (lport s p).session = true ∧ (lport s p).sessionFrame + 864000000 ≤ s.seq.frame ∧ (lport
      s p).rekey = none ∧ s.sec.drbgOk = true ∧ p < s.link.ports.length) ∧
    (∃ (s : State) (p : Nat), (lport s p).session = false) ∧
    (∃ (s : State) (p : Nat) (x : Txn), p < s.link.ports.length ∧ (lport s p).rekey ≠ none ∧ (lport s p).txns.find?
      (fun y => y.att && (y.item = 100 || y.item = 102)) = some x) ∧
    (∃ (s : State) (p : Nat), p < s.link.ports.length ∧ (lport s p).keyDue = true) ∧
    (∃ (s : State) (p : Nat) (ph : Nat), p < s.link.ports.length ∧ (lport s p).session = true ∧ ph ≠ (lport s p).rxGen
      % 2 ∧ (lport s p).rxGen < (lport s p).keyGen) ∧
    (∃ (s : State) (p : Nat) (f : Nat), (lport s p).rekey = some f ∧ f + 32 ≤ s.seq.frame) ∧
    (∃ (s : State) (p : Nat) (f : Nat), (lport s p).rekey = some f ∧ s.seq.frame < f + 32) ∧
    (∃ (s : State) (p : Nat), p < s.link.ports.length ∧ (lport s p).session = true ∧ (lport s p).state = .up ∧ 15 ≤
      ((lport s p).authFails.filter fun f => s.seq.frame < f + 100000).length) ∧
    (∃ (s : State) (p : Nat), p < s.link.ports.length ∧ (lport s p).session = true ∧ (lport s p).authFails = []) :=
  ⟨⟨{ tOn with link.ports := [{ state := .up, session := true, gens := [7] }] }, 0, 0, 0, .cfg 15 [], by decide⟩,
   ⟨tOn, 1, 1, 1, (.cfg 15 [] : TxnBody), by decide⟩,
   ⟨{ tOn with link.ports := List.replicate 65 { state := .up, txns := [{ tag := 5, tgen := 0, att := false, item := 0, sent := 0 }] } },
      0, 8, { tag := 5, tgen := 0, att := false, item := 0, sent := 0 }, [], by decide⟩,
   ⟨tOn, 1, 1, by decide⟩,
   ⟨{ tOn with seq.frame := 8, link.ports := [{ state := .up, timeouts := 3, txns := [⟨1, 0, true, 1, 0, 0⟩] }] }, 0,
      1, ⟨1, 0, true, 1, 0, 0⟩, by decide⟩,
   ⟨{ tOn with seq.frame := 8, link.ports := [{ state := .up, timeouts := 2, txns := [⟨1, 0, true, 1, 0, 2⟩] }] }, 0,
      1, ⟨1, 0, true, 1, 0, 2⟩, by decide⟩,
   ⟨{ { tOn with link.ports := List.replicate 65 { state := .up, session := true } } with seq.frame := 864000000 }, 0,
      by decide⟩,
   ⟨updPort ((1)) (fun y0 => { y0 with session := false }) (tOn), 1, by decide⟩,
   ⟨{ tOn with link.ports := List.replicate 65 { state := .up, rekey := some 0, txns := [{ tag := 5, tgen := 0, att := true, item := 100, sent := 0 }] } },
      0, { tag := 5, tgen := 0, att := true, item := 100, sent := 0 }, by decide⟩,
   ⟨{ tOn with link.ports := List.replicate 65 { state := .up, keyDue := true } }, 64, by decide⟩,
   ⟨{ tOn with link.ports := List.replicate 65 { state := .up, session := true, keyGen := 1 } }, 0, 1, by decide⟩,
   ⟨{ (updPort ((1)) (fun y0 => { y0 with rekey := some (1) }) (tOn)) with seq.frame := (1) + 32 }, 1, 1, by decide⟩,
   ⟨{ (updPort ((1)) (fun y0 => { y0 with rekey := some (1) }) (tOn)) with seq.frame := (1) + 32 - 1 }, 1, 1, by
      decide⟩,
   ⟨{ tOn with link.ports := List.replicate 65 { state := .up, session := true, authFails := List.replicate 15 0 } },
      0, by decide⟩,
   ⟨{ tOn with link.ports := List.replicate 65 { state := .up, session := true } }, 0, by decide⟩⟩

theorem witness_PortTrainingAttestationAndLoss :
    (∃ (s : State) (p : Nat) (c : Nat) (d : List Int), p < s.link.ports.length ∧ (lport s p).state = .training) ∧
    (∃ (s : State) (p : Nat) (c : Nat) (d : List Int), (lport s p).state ≠ .training) ∧
    (∃ (s : State) (p : Nat), p < s.link.ports.length ∧ (lport s p).state = .training ∧ (lport s p).trainFails < 2) ∧
    (∃ (s : State) (p : Nat), p < s.link.ports.length ∧ p < 64 ∧ (lport s p).state = .training ∧ (lport s
      p).trainFails = 2 ∧ (floorLine s p).asserted = false ∧ domainOn s p = true) ∧
    (∃ (s : State) (p : Nat) (f : Nat), p < s.link.ports.length ∧ (lport s p).attStart = some f ∧ (lport s p).state =
      .attesting ∧ f + 10000 ≤ s.seq.frame) ∧
    (∃ (s : State) (p : Nat) (f : Nat), (lport s p).attStart = some f ∧ s.seq.frame < f + 10000) ∧
    (∃ (s : State) (p : Nat) (f : Nat), p < s.link.ports.length ∧ (lport s p).retryAt = some f ∧ f ≤ s.seq.frame ∧ p <
      64 ∧ (lport s p).state = .attesting ∧ s.pow.ready = true ∧ s.sec.drbgOk = true ∧ (lport s p).attStart = none) ∧
    (∃ (s : State) (p : Nat), (lport s p).retryAt = none) ∧
    (∃ (s : State) (p : Nat), (lport s p).codeErrors < 16) ∧
    (∃ (s : State) (p : Nat) (c : Nat), linkAlive (lport s p) = false) ∧
    (∃ (s : State) (p : Nat) (c : Nat), p < s.link.ports.length ∧ linkAlive (lport s p) = true ∧ ((lport s
      p).entries.filter fun f => s.seq.frame < f + 600000).length < 8 ∧ (c = 1 ∨ c = 3 ∨ (c = 2 ∧ 16 ≤ (lport s
      p).codeErrors) ∨ (c = 4 ∧ (lport s p).state = .up ∧ (lport s p).lastValid + 10 ≤ s.seq.frame))) ∧
    (∃ (s : State) (p : Nat) (c : Nat), p < s.link.ports.length ∧ linkAlive (lport s p) = true ∧ 8 ≤ ((lport s
      p).entries.filter fun f => s.seq.frame < f + 600000).length ∧ (c = 1 ∨ c = 3)) ∧
    (∃ (s : State) (p : Nat), p < s.link.ports.length ∧ (lport s p).state = .quarantine ∧ (lport s p).quarAt + 100000
      ≤ s.seq.frame) ∧
    (∃ (s : State) (p : Nat), s.seq.frame < (lport s p).quarAt + 100000) ∧
    (∃ (s : State) (p : Nat) (h : Nat) (w : Nat), p < s.link.ports.length ∧ 40 ≤ h ∧ 16 ≤ w) ∧
    (∃ (s : State) (p : Nat) (f : Nat), p < s.link.ports.length ∧ (lport s p).lowSince = some f ∧ f + 100000 ≤
      s.seq.frame) ∧
    (∃ (s : State) (p : Nat) (b : List Nat), p < 64 ∧ (lport s p).session = true) ∧
    (∃ (s : State) (p : Nat) (b : List Nat), (lport s p).session = false) ∧
    (∃ (s : State) (p : Nat) (b : List Nat) (e : EvtEntry), p < s.link.ports.length ∧ p < 64 ∧ (lport s p).session =
      true ∧ parseEvts b = [e] ∧ ((lport s p).evts.filter fun f => s.seq.frame < f + 10000).length < 16 ∧ 0x80 ≤
      e.code) :=
  ⟨⟨{ tOn with link.ports := List.replicate 65 { state := .training } }, 64, 1, [], by decide⟩,
   ⟨tOn, 1, 1, ([] : List Int), by decide⟩,
   ⟨updPort ((1)) (fun y0 => { y0 with trainFails := 2 - 1 }) (updPort ((1)) (fun y0 =>
      { y0 with state := .training }) (tOn)), 1, by decide⟩,
   ⟨{ tOn with pow.domains := List.replicate 126 { state := .on }, link.ports := List.replicate 65 { state := .training, trainFails := 2 } },
      63, by decide⟩,
   ⟨{ tOn with seq.frame := 10000, link.ports := List.replicate 65 { state := .attesting, attStart := some 0 } }, 0,
      0, by decide⟩,
   ⟨{ (updPort ((1)) (fun y0 => { y0 with attStart := some (1) }) (tOn)) with seq.frame := (1) + 10000 - 1 }, 1, 1, by
      decide⟩,
   ⟨{ tOn with link.ports := List.replicate 65 { state := .attesting, retryAt := some 0 } }, 63, 0, by decide⟩,
   ⟨updPort ((1)) (fun y0 => { y0 with retryAt := none }) (tOn), 1, by decide⟩,
   ⟨updPort ((1)) (fun y0 => { y0 with codeErrors := 16 - 1 }) (tOn), 1, by decide⟩,
   ⟨updPort ((1)) (fun y0 => { y0 with state := .off }) (tOn), 1, 1, by decide⟩,
   ⟨{ tOn with seq.frame := 10, link.ports := List.replicate 65 { state := .up, entries := List.replicate 7 0 } }, 0,
      4, by decide⟩,
   ⟨{ tOn with seq.frame := 599999, link.ports := List.replicate 65 { state := .up, entries := List.replicate 8 0 } },
      0, 3, by decide⟩,
   ⟨{ (updPort ((1)) (fun y0 => { y0 with state := .quarantine }) (tOn)) with seq.frame := (lport tOn (1)).quarAt + 100000 },
      1, by decide⟩,
   ⟨{ tOn with seq.frame := (lport tOn (1)).quarAt + 100000 - 1 }, 1, by decide⟩,
   ⟨tOn, 1, 40, 16, by decide⟩,
   ⟨{ (updPort ((1)) (fun y0 => { y0 with lowSince := some (1) }) (tOn)) with seq.frame := (1) + 100000 }, 1, 1, by
      decide⟩,
   ⟨{ tOn with link.ports := List.replicate 65 { state := .up, session := true } }, 63, [], by decide⟩,
   ⟨{ tOn with link.ports := List.replicate 65 { state := .up } }, 0, [], by decide⟩,
   ⟨{ tOn with link.ports := List.replicate 65 { state := .up, session := true, evts := List.replicate 15 0 } }, 63,
      [0x80, 0, 0, 0, 0, 0, 0, 0], ⟨0x80, 0, false, 0⟩, by decide⟩⟩

theorem witness_ElementStallsAndRestarts :
    (∃ (s : State) (p : Nat), p < 4 ∧ p < s.pump.pumps.length ∧ (pumpSt s p).state = .run ∧ pumpStalls s p = true ∧
      anyWindow s = false ∧ (∀ a ∈ s.maint.activities, inProgress a = false) ∧ (pumpSt s p).retries <
      (s.img.pumps.getD p {}).stallRetries) ∧
    (∃ (s : State) (p : Nat), p < 4 ∧ p < s.pump.pumps.length ∧ (pumpSt s p).state = .run ∧ pumpStalls s p = true ∧
      anyWindow s = false ∧ (∀ a ∈ s.maint.activities, inProgress a = false) ∧ (s.img.pumps.getD p {}).stallRetries ≤
      (pumpSt s p).retries) ∧
    (∃ (s : State) (f : Nat), f < s.pump.fans.length ∧ (fanSt s f).state = .run ∧ fanStalls s f = true ∧ anyWindow s =
      false ∧ (∀ a ∈ s.maint.activities, inProgress a = false) ∧ (fanSt s f).retries < (s.img.fans.getD f
      {}).stallRetries) ∧
    (∃ (s : State) (p : Nat), p < 4 ∧ (pumpSt s p).state ≠ .run ∧ (pumpSt s p).keepsRunning = false ∧ (∀ a ∈
      s.maint.activities, inProgress a = false)) ∧
    (∃ (s : State) (p : Nat), p < 4 ∧ p < s.pump.pumps.length ∧ (pumpSt s p).state = .retry ∧ (pumpSt s p).retrySince
      + 20000 ≤ s.seq.frame) ∧
    (∃ (s : State) (f : Nat), f < s.pump.fans.length ∧ (fanSt s f).state = .retry ∧ (fanSt s f).retrySince + 20000 ≤
      s.seq.frame) ∧
    (∃ (s : State) (p : Nat), p < 4 ∧ s.seq.frame < (pumpSt s p).retrySince + 20000) ∧
    (∃ (s : State) (p : Nat), p < 4 ∧ p < s.pump.pumps.length ∧ (pumpSt s p).state = .run ∧ (pumpSt s p).stallFrame +
      6000000 ≤ s.seq.frame) ∧
    (∃ (s : State) (p : Nat), p < 4 ∧ s.seq.frame < (pumpSt s p).stallFrame + 6000000) ∧
    (∃ (s : State) (g : Nat), s.pump.fullSpeed.getD g false = true ∧ groupMembersSettled s g = true) ∧
    (∃ (s : State) (g : Nat), (s.pump.fullSpeed.getD g false = false ∨ groupMembersSettled s g = false)) :=
  ⟨⟨{ tOn with seq.frame := 10000, img.pumps := List.replicate 4 { present := true, stallRetries := 2 }, pow.domains := List.replicate 126 { state := .on }, pump.pumps := List.replicate 4 { state := .run, faultSince := some 0, retries := 1 } },
      3, by decide⟩,
   ⟨{ tOn with seq.frame := 10000, img.pumps := List.replicate 4 { present := true, stallRetries := 2 }, pow.domains := List.replicate 126 { state := .on }, pump.pumps := List.replicate 4 { state := .run, faultSince := some 0, retries := 2 } },
      3, by decide⟩,
   ⟨{ tOn with seq.frame := 30000, img.fans := List.replicate 24 { present := true, stallRetries := 2 }, pump.fans := List.replicate 24 { state := .run, lowSince := some 0, retries := 1 } },
      23, by decide⟩,
   ⟨tOn, 3, by decide⟩,
   ⟨{ (updPump ((4 - 1)) (fun y0 => { y0 with state := .retry }) (tOn)) with seq.frame := (pumpSt tOn (4 - 1)).retrySince + 20000 },
      4 - 1, by decide⟩,
   ⟨{ (updFan ((1)) (fun y0 => { y0 with state := .retry }) (tOn)) with seq.frame := (fanSt tOn (1)).retrySince + 20000 },
      1, by decide⟩,
   ⟨{ tOn with seq.frame := (pumpSt tOn (4 - 1)).retrySince + 20000 - 1 }, 4 - 1, by decide⟩,
   ⟨{ (updPump ((4 - 1)) (fun y0 => { y0 with state := .run }) (tOn)) with seq.frame := (pumpSt tOn (4 - 1)).stallFrame + 6000000 },
      4 - 1, by decide⟩,
   ⟨{ tOn with seq.frame := (pumpSt tOn (4 - 1)).stallFrame + 6000000 - 1 }, 4 - 1, by decide⟩,
   ⟨(fun (w : State) =>
      { w with pump.fullSpeed := upd (w.pump.fullSpeed ++ List.replicate ((1) + 1 - (w.pump.fullSpeed).length) false) ((1)) (fun y0 => true) })
      (tOn), 1, by decide⟩,
   ⟨(fun (w : State) =>
      { w with pump.fullSpeed := upd (w.pump.fullSpeed ++ List.replicate ((1) + 1 - (w.pump.fullSpeed).length) false) ((1)) (fun y0 => false) })
      (tOn), 1, by decide⟩⟩

theorem witness_PumpPathsOverspeedAndRamps :
    (∃ (s : State) (p : Nat) (b : List Nat), pumpPresent s p = true ∧ b.length = 8 ∧ p < s.pump.pumps.length ∧ (pumpSt
      s p).analog = false ∧ bit (leNat b) 17 = false) ∧
    (∃ (s : State) (p : Nat) (b : List Nat), pumpPresent s p = true ∧ b.length ≠ 8) ∧
    (∃ (s : State) (p : Nat) (b : List Nat), pumpPresent s p = false) ∧
    (∃ (s : State) (p : Nat) (f : Nat), pumpPresent s p = true ∧ p < s.pump.pumps.length ∧ (pumpSt s p).analog = false
      ∧ (pumpSt s p).lastStatus = some f ∧ f + 1000 ≤ s.seq.frame) ∧
    (∃ (s : State) (p : Nat), pumpPresent s p = true ∧ p < s.pump.pumps.length ∧ (pumpSt s p).analog = false ∧ (pumpSt
      s p).lastStatus = none ∧ 1000 ≤ s.seq.frame) ∧
    (∃ (s : State) (p : Nat), (pumpSt s p).analog = true) ∧
    (∃ (s : State) (p : Nat) (f : Nat), p < s.pump.pumps.length ∧ (pumpSt s p).episode = some f ∧ f + 1200000 ≤
      s.seq.frame) ∧
    (∃ (s : State) (p : Nat), (∀ f, (pumpSt s p).episode = some f → s.seq.frame < f + 1200000)) ∧
    (∃ (s : State) (p : Nat) (f : Nat), p < s.pump.pumps.length ∧ (pumpSt s p).restEnd = some f ∧ f ≤ s.seq.frame) ∧
    (∃ (s : State) (p : Nat), (∀ f, (pumpSt s p).restEnd = some f → s.seq.frame < f)) ∧
    (∃ (s : State) (p : Nat), (s.plan.mode ≠ .feast ∨ (pumpSt s p).analog = true ∨ (∃ f, (pumpSt s p).episode = some f
      ∧ f + 1200000 ≤ s.seq.frame) ∨ (∃ f, (pumpSt s p).restEnd = some f ∧ s.seq.frame < f))) ∧
    (∃ (g : GroupCfg) (t : Nat) (v : Nat), v ≠ t * 65536) :=
  ⟨⟨{ tOn with img.pumps := List.replicate 4 { present := true } }, 3, [0, 0, 1, 0, 0, 0, 0, 0], by decide⟩,
   ⟨(fun (w : State) =>
      { w with img.pumps := upd (w.img.pumps ++ List.replicate ((1) + 1 - (w.img.pumps).length) {}) ((1)) (fun y0 => { y0 with present := true }) })
      (tOn), 1, ([] : List Nat), by decide⟩,
   ⟨(fun (w : State) =>
      { w with img.pumps := upd (w.img.pumps ++ List.replicate ((1) + 1 - (w.img.pumps).length) {}) ((1)) (fun y0 => { y0 with present := false }) })
      (tOn), 1, ([] : List Nat), by decide⟩,
   ⟨{ (updPump ((1)) (fun y0 => { y0 with lastStatus := some (1) }) (updPump ((1)) (fun y0 => { y0 with analog := false }) ((fun (w : State) => { w with img.pumps := upd (w.img.pumps ++ List.replicate ((1) + 1 - (w.img.pumps).length) {}) ((1)) (fun y0 => { y0 with present := true }) }) (tOn)))) with seq.frame := (1) + 1000 },
      1, 1, by decide⟩,
   ⟨{ tOn with seq.frame := 1000, img.pumps := List.replicate 4 { present := true } }, 3, by decide⟩,
   ⟨updPump ((1)) (fun y0 => { y0 with analog := true }) (tOn), 1, by decide⟩,
   ⟨{ (updPump ((1)) (fun y0 => { y0 with episode := some (1) }) (tOn)) with seq.frame := (1) + 1200000 }, 1, 1, by
      decide⟩,
   ⟨tOn, 1, by decide⟩,
   ⟨{ (updPump ((1)) (fun y0 => { y0 with restEnd := some (1) }) (tOn)) with seq.frame := (1) }, 1, 1, by decide⟩,
   ⟨tOn, 1, by decide⟩,
   ⟨tOn, 1, by decide⟩,
   ⟨{}, 1, 65535, by decide⟩⟩

theorem witness_SprayWaterAndVigil :
    (∃ (s : State), s.pow.plantControl = true ∧ 500 < s.pump.planAge ∧ s.pump.vigil = false) ∧
    (∃ (s : State), (s.pump.planAge ≤ 500 ∨ s.pump.vigil = true ∨ s.pow.plantControl = false)) ∧
    (∃ (s : State), (s.pump.vigil = true ∨ s.pump.sprayInhibit = true ∨ waterSpent s = true)) ∧
    (∃ (s : State), s.seq.frame % 100000 = 0 ∧ s.pow.plantControl = true ∧ sprayDuty s = 0) ∧
    (∃ (s : State), s.seq.frame % 100000 = 0 ∧ s.pow.plantControl = true ∧ sprayDuty s ≠ 0 ∧ 5000 ≤ s.pump.acc + 10 *
      sprayDuty s) ∧
    (∃ (s : State), s.seq.frame % 100000 ≠ 0) ∧
    (∃ (s : State), wallValid s = false ∧ timeLeft s = 0) ∧
    (∃ (s : State), wallValid s = false ∧ timeLeft s ≠ 0) ∧
    (∃ (s : State), wallValid s = true ∧ s.pump.wallDay = true ∧ (s.pump.day : Int) < waterDay s) ∧
    (∃ (s : State), wallValid s = true ∧ s.pump.wallDay = true ∧ waterDay s ≤ s.pump.day) :=
  ⟨⟨{ { { tOn with pow.plantControl := true } with pump.planAge := 500 + 1 } with pump.vigil := false }, by decide⟩,
   ⟨{ tOn with pump.planAge := 500 }, by decide⟩,
   ⟨{ tOn with pump.vigil := true }, by decide⟩,
   ⟨{ tOn with pow.plantControl := true }, by decide⟩,
   ⟨{ tOn with img.limits.waterDaily := 1, plan.state := .surrogate, plan.inForce := some { spray := [500] } }, by
      decide⟩,
   ⟨{ tOn with seq.frame := 1 }, by decide⟩,
   ⟨{ tOn with pump.tRem := 0 }, by decide⟩,
   ⟨{ tOn with wall.epoch := 0 }, by decide⟩,
   ⟨{ tOn with seq.rowT := 864000000000000000, wall.epoch := 1, pump.wallDay := true }, by decide⟩,
   ⟨{ tOn with wall.epoch := 1, pump.wallDay := true }, by decide⟩⟩

theorem witness_CoilPhasesAndMovement :
    (∃ (s : State) (c : Nat), c < s.valve.ch.length ∧ (vch s c).drive = .peak ∧ (vch s c).edge + 10 * (valveCfg s
      c).peakMs ≤ s.seq.frame) ∧
    (∃ (s : State) (c : Nat), ((vch s c).drive ≠ .peak ∨ s.seq.frame < (vch s c).edge + 10 * (valveCfg s c).peakMs)) ∧
    (∃ (s : State) (c : Nat), c < s.valve.ch.length ∧ (vch s c).staged = some false ∧ inCurrent (vch s c).drive = true
      ∧ s.seq.phase ≤ 2) ∧
    (∃ (s : State) (c : Nat), ((vch s c).staged ≠ some false ∨ 3 ≤ s.seq.phase)) ∧
    (∃ (s : State) (c : Nat) (ma : Nat), c < s.valve.ch.length ∧ (vch s c).drive = .releasing ∧ ma < 50) ∧
    (∃ (s : State) (c : Nat) (ma : Nat), ((vch s c).drive ≠ .releasing ∨ 50 ≤ ma)) ∧
    (∃ (s : State) (c : Nat) (time : Nat) (depth : Nat), windowOpen s c = true ∧ c < s.valve.ch.length ∧ 10 *
      (valveCfg s c).dipStart ≤ time ∧ time ≤ 10 * (valveCfg s c).dipEnd ∧ max 20 ((valveCfg s c).peakMa / 64) ≤ depth) ∧
    (∃ (s : State) (c : Nat) (time : Nat) (depth : Nat), windowOpen s c = false) ∧
    (∃ (s : State) (c : Nat), c < s.valve.ch.length ∧ (vch s c).window = true ∧ inCurrent (vch s c).drive = true ∧
      (vch s c).edge + 10 * (valveCfg s c).dipEnd ≤ s.seq.frame ∧ (vch s c).missRun < 2) ∧
    (∃ (s : State) (c : Nat), c < s.valve.ch.length ∧ (vch s c).window = true ∧ inCurrent (vch s c).drive = true ∧
      (vch s c).edge + 10 * (valveCfg s c).dipEnd ≤ s.seq.frame ∧ (vch s c).missRun = 2 ∧ (vch s c).reason = 0) ∧
    (∃ (s : State) (c : Nat), (vch s c).window = false) ∧
    (∃ (s : State) (c : Nat) (time : Nat) (depth : Nat), (time < 10 * (valveCfg s c).dipStart ∨ 10 * (valveCfg s
      c).dipEnd < time ∨ depth < max 20 ((valveCfg s c).peakMa / 64))) :=
  ⟨⟨{ (updCh ((1)) (fun y0 => { y0 with drive := .peak }) (tOn)) with seq.frame := (vch tOn (1)).edge + 10 * (valveCfg tOn (1)).peakMs },
      1, by decide⟩,
   ⟨tOn, 1, by decide⟩,
   ⟨{ tOn with seq.phase := 2, valve.ch := List.replicate 48 { staged := some false, drive := .hold } }, 47, by decide⟩,
   ⟨{ tOn with seq.phase := 3, valve.ch := List.replicate 48 { staged := some false, drive := .hold } }, 47, by decide⟩,
   ⟨updCh ((1)) (fun y0 => { y0 with drive := .releasing }) (tOn), 1, 50 - 1, by decide⟩,
   ⟨tOn, 1, 1, by decide⟩,
   ⟨{ tOn with seq.frame := 50, img.valves := List.replicate 48 { dipStart := 5, dipEnd := 10, peakMa := 1280 }, valve.ch := List.replicate 48 { window := true, drive := .peak } },
      47, 50, 20, by decide⟩,
   ⟨tOn, 1, 1, 1, by decide⟩,
   ⟨updCh ((1)) (fun y0 => { y0 with missRun := 2 - 1 })
      ({ (updCh ((1)) (fun y0 => { y0 with drive := .hold }) (updCh ((1)) (fun y0 => { y0 with window := true }) (tOn))) with seq.frame := (vch tOn (1)).edge + 10 * (valveCfg tOn (1)).dipEnd }),
      1, by decide⟩,
   ⟨updCh ((1)) (fun y0 => { y0 with reason := 0 }) (updCh ((1)) (fun y0 => { y0 with missRun := 2 })
      ({ (updCh ((1)) (fun y0 => { y0 with drive := .hold }) (updCh ((1)) (fun y0 => { y0 with window := true }) (tOn))) with seq.frame := (vch tOn (1)).edge + 10 * (valveCfg tOn (1)).dipEnd })),
      1, by decide⟩,
   ⟨updCh ((1)) (fun y0 => { y0 with window := false }) (tOn), 1, by decide⟩,
   ⟨{ tOn with img.valves := List.replicate 48 { dipStart := 5, dipEnd := 10, peakMa := 1280 } }, 47, 50, 19, by
      decide⟩⟩

theorem witness_CoilAndSwitchFaults :
    (∃ (s : State) (c : Nat), c < s.valve.ch.length ∧ inCurrent (vch s c).drive = true) ∧
    (∃ (s : State) (c : Nat), inCurrent (vch s c).drive = false) ∧
    (∃ (s : State) (c : Nat), c < s.valve.ch.length ∧ inCurrent (vch s c).drive = true ∧ (vch s c).edge + 20 ≤
      s.seq.frame ∧ (vch s c).reason = 0) ∧
    (∃ (s : State) (c : Nat) (mv : Nat), c < s.valve.ch.length ∧ inCurrent (vch s c).drive = false ∧ (vbank s (c /
      8)).state = .on ∧ (vch s c).releasedAt + 200 ≤ s.seq.frame ∧ mv < 2000 ∧ (vch s c).reason = 0 ∧ (valveCfg s
      c).function ≠ 0) ∧
    (∃ (s : State) (c : Nat) (mv : Nat), 2000 ≤ mv) ∧
    (∃ (s : State) (c : Nat) (ma : Nat), c / 8 < s.valve.banks.length ∧ inCurrent (vch s c).drive = false ∧ (vch s
      c).releasedAt + 200 ≤ s.seq.frame ∧ 100 ≤ ma ∧ (vbank s (c / 8)).state = .on) ∧
    (∃ (s : State) (c : Nat) (ma : Nat), ma < 100) ∧
    (∃ (s : State) (n : Nat) (cls : Nat), (vch s n).reason = 4) :=
  ⟨⟨updCh ((1)) (fun y0 => { y0 with drive := .hold }) (tOn), 1, by decide⟩,
   ⟨updCh ((1)) (fun y0 => { y0 with drive := .released }) (tOn), 1, by decide⟩,
   ⟨updCh ((1)) (fun y0 => { y0 with reason := 0 })
      ({ (updCh ((1)) (fun y0 => { y0 with drive := .hold }) (tOn)) with seq.frame := (vch tOn (1)).edge + 20 }), 1,
      by decide⟩,
   ⟨(fun (w : State) =>
      { w with img.valves := upd (w.img.valves ++ List.replicate ((1) + 1 - (w.img.valves).length) {}) ((1)) (fun y0 => { y0 with function := 1 }) })
      (updCh ((1)) (fun y0 => { y0 with reason := 0 })
      ({ (updBank (((1) / 8)) (fun y0 => { y0 with state := .on }) (updCh ((1)) (fun y0 => { y0 with drive := .released }) (tOn))) with seq.frame := (vch tOn (1)).releasedAt + 200 })),
      1, 2000 - 1, by decide⟩,
   ⟨tOn, 1, 2000, by decide⟩,
   ⟨updBank (((1) / 8)) (fun y0 => { y0 with state := .on })
      ({ (updCh ((1)) (fun y0 => { y0 with drive := .released }) (tOn)) with seq.frame := (vch tOn (1)).releasedAt + 200 }),
      1, 100, by decide⟩,
   ⟨tOn, 1, 100 - 1, by decide⟩,
   ⟨updCh ((1)) (fun y0 => { y0 with reason := 4 }) (tOn), 1, 1, by decide⟩⟩

theorem witness_BankTripsAndTemperature :
    (∃ (s : State) (b : Nat) (hs : Nat), b < s.valve.banks.length ∧ 8000 ≤ hs ∧ (vbank s b).state = .on ∧ ((vbank s
      b).tripFrames.filter fun f => s.seq.frame < f + 600000).length < 2) ∧
    (∃ (s : State) (b : Nat) (hs : Nat) (ls : Nat), b < s.valve.banks.length ∧ ls + 300 ≤ hs ∧ (vbank s b).state = .on
      ∧ 2 ≤ ((vbank s b).tripFrames.filter fun f => s.seq.frame < f + 600000).length) ∧
    (∃ (s : State) (b : Nat) (hs : Nat) (ls : Nat), hs < 8000 ∧ hs < ls + 300) ∧
    (∃ (s : State) (b : Nat), b < s.valve.banks.length ∧ (vbank s b).state = .tripped ∧ (vbank s b).trippedAt + 10000
      ≤ s.seq.frame) ∧
    (∃ (s : State) (b : Nat), ((vbank s b).state ≠ .tripped ∨ s.seq.frame < (vbank s b).trippedAt + 10000)) ∧
    (∃ (s : State) (b : Nat) (temp : Int), b < s.valve.banks.length ∧ 10240 ≤ temp ∧ (vbank s b).state = .on) ∧
    (∃ (s : State) (b : Nat) (temp : Int), b < s.valve.banks.length ∧ 8960 ≤ temp ∧ temp < 10240 ∧ (vbank s b).state =
      .on) ∧
    (∃ (s : State) (b : Nat) (temp : Int), temp < 8960) ∧
    (∃ (s : State) (b : Nat) (f : Nat) (temp : Int), b < s.valve.banks.length ∧ temp ≤ 8960 ∧ (vbank s b).state = .hot
      ∧ (vbank s b).coolSince = some f ∧ f + 10000 ≤ s.seq.frame) ∧
    (∃ (s : State) (b : Nat) (temp : Int), b < s.valve.banks.length ∧ temp ≤ 8960 ∧ (vbank s b).state = .hot ∧ (vbank
      s b).coolSince = none) :=
  ⟨⟨updBank ((1)) (fun y0 => { y0 with state := .on }) (tOn), 1, 8000, by decide⟩,
   ⟨{ tOn with seq.frame := 599999, valve.banks := [{ state := .on, tripFrames := [0, 1] }] }, 0, 300, 0, by decide⟩,
   ⟨tOn, 1, (1) + 300 - 1, 1, by decide⟩,
   ⟨{ (updBank ((1)) (fun y0 => { y0 with state := .tripped }) (tOn)) with seq.frame := (vbank tOn (1)).trippedAt + 10000 },
      1, by decide⟩,
   ⟨tOn, 1, by decide⟩,
   ⟨updBank ((1)) (fun y0 => { y0 with state := .on }) (tOn), 1, 10240, by decide⟩,
   ⟨updBank ((1)) (fun y0 => { y0 with state := .on }) (tOn), 1, 10240 - 1, by decide⟩,
   ⟨tOn, 1, 8960 - 1, by decide⟩,
   ⟨{ (updBank ((1)) (fun y0 => { y0 with coolSince := some (1) }) (updBank ((1)) (fun y0 => { y0 with state := .hot }) (tOn))) with seq.frame := (1) + 10000 },
      1, 1, 8960, by decide⟩,
   ⟨updBank ((1)) (fun y0 => { y0 with coolSince := none }) (updBank ((1)) (fun y0 => { y0 with state := .hot })
      (tOn)), 1, 8960, by decide⟩⟩

theorem witness_DutyRefusalAndOnePeakPerBank :
    (∃ (s : State) (c : Nat) (uj : Nat), c < s.valve.ch.length) ∧
    (∃ (s : State) (c : Nat), c < s.valve.ch.length ∧ s.seq.frame % 10000 = 0) ∧
    (∃ (s : State), s.seq.frame % 10000 ≠ 0) ∧
    (∃ (s : State) (c : Nat) (cls : Nat) (f : Nat), c < s.valve.ch.length ∧ requestInForce (vch s c) = some (cls,
      true) ∧ cls ≠ 0 ∧ (vch s c).since = some f ∧ f + 500 < s.seq.frame ∧ inCurrent (vch s c).drive = false ∧ (vch s
      c).staged = none) ∧
    (∃ (s : State) (c : Nat), (vch s c).since = none) ∧
    (∃ (s : State) (c : Nat) (f : Nat), (vch s c).since = some f ∧ s.seq.frame < f + 500) ∧
    (∃ (s : State) (c : Nat) (v : Bool), requestInForce (vch s c) = some (0, v)) ∧
    (∃ (s : State) (b : Nat), ((bankChs b).filter fun c => busyPeak (vch s c)).length ≤ 1) :=
  ⟨⟨tOn, 47, 5, by decide⟩,
   ⟨{ tOn with seq.frame := 10000 }, 47, by decide⟩,
   ⟨{ tOn with seq.frame := 9999 }, by decide⟩,
   ⟨{ tOn with seq.frame := 501, valve.ch := [{ c1 := some true, since := some 0 }] }, 0, 1, 0, by decide⟩,
   ⟨updCh ((1)) (fun y0 => { y0 with since := none }) (tOn), 1, by decide⟩,
   ⟨{ tOn with seq.frame := 499, valve.ch := [{ c1 := some true, since := some 0 }] }, 0, 0, by decide⟩,
   ⟨{ tOn with valve.ch := [{ c0 := true }] }, 0, true, by decide⟩,
   ⟨tOn, 1, by decide⟩⟩

theorem witness_LeakInputsAndLocations :
    (∃ (s : State) (i : Nat) (x : Nat), i < 16 ∧ i < s.leak.inputs.length ∧ leakUsed s i = true ∧ (leakIn s i).state =
      .dry ∧ 5 ≤ (leakIn s i).wetRun) ∧
    (∃ (s : State) (i : Nat) (x : Nat), 16 ≤ i ∧ i < s.leak.inputs.length ∧ leakUsed s i = true ∧ (leakIn s i).state =
      .dry ∧ 10 ≤ (leakIn s i).wetRun) ∧
    (∃ (s : State) (i : Nat) (x : Nat), (leakIn s i).state ≠ .wet ∧ (leakIn s i).wetRun < 5) ∧
    (∃ (s : State) (i : Nat) (x : Nat), i < 16 ∧ i < s.leak.inputs.length ∧ leakUsed s i = true ∧ (leakIn s i).state =
      .wet ∧ 10000 ≤ (leakIn s i).dryRun) ∧
    (∃ (s : State) (i : Nat) (x : Nat), (leakIn s i).state = .wet ∧ (leakIn s i).dryRun < 10000) ∧
    (∃ (s : State) (i : Nat) (x : Nat), i < 16 ∧ i < s.leak.inputs.length ∧ leakUsed s i = true ∧ (leakIn s i).state ≠
      .fault ∧ 100 ≤ (leakIn s i).faultRun) ∧
    (∃ (s : State) (i : Nat) (x : Nat), (leakIn s i).faultRun < 100) ∧
    (∃ (s : State) (i : Nat) (x : Nat) (st : LeakInState), leakUsed s i = false) ∧
    (∃ (s : State) (i : Nat) (x : Nat), i < 16 ∧ i < s.leak.inputs.length ∧ (leakIn s i).state = .wet ∧ (leakIn s
      i).measured + 10000 ≤ s.seq.frame) ∧
    (∃ (s : State) (i : Nat) (x : Nat), (leakIn s i).state ≠ .wet) :=
  ⟨⟨{ tOn with img.sensors := List.replicate 104 { kind := 3 }, leak.inputs := List.replicate 24 { wetRun := 5 } },
      15, 1, by decide⟩,
   ⟨{ tOn with img.sensors := List.replicate 104 { kind := 4 }, leak.inputs := List.replicate 24 { wetRun := 10 } },
      16, 1, by decide⟩,
   ⟨updLeakIn ((1)) (fun y0 => { y0 with wetRun := 5 - 1 }) (tOn), 1, 1, by decide⟩,
   ⟨{ tOn with img.sensors := List.replicate 104 { kind := 3 }, leak.inputs := List.replicate 24 { state := .wet, dryRun := 10000 } },
      15, 1, by decide⟩,
   ⟨updLeakIn ((1)) (fun y0 => { y0 with dryRun := 10000 - 1 }) (updLeakIn ((1)) (fun y0 => { y0 with state := .wet })
      (tOn)), 1, 1, by decide⟩,
   ⟨{ tOn with img.sensors := List.replicate 104 { kind := 3 }, leak.inputs := List.replicate 24 { faultRun := 100 } },
      15, 1, by decide⟩,
   ⟨updLeakIn ((1)) (fun y0 => { y0 with faultRun := 100 - 1 }) (tOn), 1, 1, by decide⟩,
   ⟨tOn, 1, 1, (.dry : LeakInState), by decide⟩,
   ⟨{ (updLeakIn ((16 - 1)) (fun y0 => { y0 with state := .wet }) (tOn)) with seq.frame := (leakIn tOn (16 - 1)).measured + 10000 },
      16 - 1, 1, by decide⟩,
   ⟨tOn, 1, 1, by decide⟩⟩

theorem witness_LeakConfirmersAndCauses :
    (∃ (s : State) (l : Nat) (f : Nat), l < s.leak.loops.length ∧ (leakLoop s l).holdUntil = some f ∧ f ≤ s.seq.frame) ∧
    (∃ (s : State) (l : Nat), (∀ f, (leakLoop s l).holdUntil = some f → s.seq.frame < f)) ∧
    (∃ (s : State) (l : Nat), l < s.leak.loops.length ∧ (leakLoop s l).decayActive = true ∧ 10000 ≤ (leakLoop s
      l).pCount ∧ s.seq.state = .normal ∧ (leakLoop s l).pVoid = true) ∧
    (∃ (s : State) (l : Nat), l < s.leak.loops.length ∧ (leakLoop s l).decayActive = true ∧ 10000 ≤ (leakLoop s
      l).pCount ∧ s.seq.state = .normal ∧ (leakLoop s l).pVoid = false ∧ 9 ≤ (leakLoop s l).pVals.length) ∧
    (∃ (s : State) (l : Nat), l < s.leak.loops.length ∧ (leakLoop s l).decayActive = true ∧ 10000 ≤ (leakLoop s
      l).pCount ∧ s.seq.state = .normal ∧ (leakLoop s l).pVoid = false ∧ (leakLoop s l).pVals.length < 9) ∧
    (∃ (s : State) (l : Nat), ((leakLoop s l).pCount < 10000 ∨ s.seq.state ≠ .normal)) ∧
    (∃ (s : State) (l : Nat), l < s.leak.loops.length ∧ 200 ≤ (leakLoop s l).clsRun ∧ (leakLoop s l).clsConfirmed =
      false ∧ s.seq.state = .normal ∧ s.pow.plantControl = false) ∧
    (∃ (s : State) (l : Nat), (leakLoop s l).clsRun < 200) ∧
    (∃ (s : State), s.leak.rowSensor = true ∧ (∀ i, i < 24 → inputDry s 30 i = true)) ∧
    (∃ (s : State) (i : Nat), i < 24 ∧ inputDry s 30 i = false) ∧
    (∃ (s : State), s.leak.manyLoops = true ∧ s.leak.manyFrame + 600000 ≤ s.seq.frame) ∧
    (∃ (s : State), s.seq.frame < s.leak.manyFrame + 600000) ∧
    (∃ (s : State), 50 ≤ s.leak.ringOpenRun ∧ s.leak.ringExt = false) ∧
    (∃ (s : State), s.leak.ringOpenRun < 50) ∧
    (∃ (s : State), 10000 ≤ s.leak.ringClosedRun ∧ s.leak.ringExt = true) ∧
    (∃ (s : State), s.leak.ringClosedRun < 10000) ∧
    (∃ (s : State) (l : Nat), l < s.leak.loops.length ∧ l < s.heat.loops.length ∧ 200 ≤ (leakLoop s l).clsRun ∧
      (leakLoop s l).clsConfirmed = false ∧ s.seq.state = .normal ∧ s.pow.plantControl = true ∧ (leakLoop s l).iso =
      .isOpen) ∧
    (∃ (s : State) (l : Nat), l < s.leak.loops.length ∧ 200 ≤ (leakLoop s l).clsRun ∧ (leakLoop s l).clsConfirmed =
      false ∧ s.seq.state = .normal ∧ s.pow.plantControl = true ∧ (leakLoop s l).iso ≠ .isOpen) :=
  ⟨⟨{ (updLeak ((1)) (fun y0 => { y0 with holdUntil := some (1) }) (tOn)) with seq.frame := (1) }, 1, 1, by decide⟩,
   ⟨tOn, 1, by decide⟩,
   ⟨updLeak ((1)) (fun y0 => { y0 with pVoid := true })
      ({ (updLeak ((1)) (fun y0 => { y0 with pCount := 10000 }) (updLeak ((1)) (fun y0 => { y0 with decayActive := true }) (tOn))) with seq.state := .normal }),
      1, by decide⟩,
   ⟨updLeak ((1)) (fun y0 => { y0 with pVals := List.replicate (9) default }) (updLeak ((1)) (fun y0 =>
      { y0 with pVoid := false })
      ({ (updLeak ((1)) (fun y0 => { y0 with pCount := 10000 }) (updLeak ((1)) (fun y0 => { y0 with decayActive := true }) (tOn))) with seq.state := .normal })),
      1, by decide⟩,
   ⟨{ tOn with leak.loops := List.replicate 24 { decayActive := true, pCount := 10000, pVals := List.replicate 8 (0, 0) } },
      23, by decide⟩,
   ⟨updLeak ((1)) (fun y0 => { y0 with pCount := 10000 - 1 }) (tOn), 1, by decide⟩,
   ⟨{ tOn with pow.plantControl := false, leak.loops := List.replicate 24 { clsRun := 200 } }, 23, by decide⟩,
   ⟨updLeak ((1)) (fun y0 => { y0 with clsRun := 200 - 1 }) (tOn), 1, by decide⟩,
   ⟨{ tOn with leak.rowSensor := true }, by decide⟩,
   ⟨{ tOn with img.sensors := List.replicate 104 { kind := 4, leakA := 30 } }, 23, by decide⟩,
   ⟨{ { tOn with leak.manyLoops := true } with seq.frame := tOn.leak.manyFrame + 600000 }, by decide⟩,
   ⟨{ tOn with seq.frame := tOn.leak.manyFrame + 600000 - 1 }, by decide⟩,
   ⟨{ { tOn with leak.ringOpenRun := 50 } with leak.ringExt := false }, by decide⟩,
   ⟨{ tOn with leak.ringOpenRun := 50 - 1 }, by decide⟩,
   ⟨{ { tOn with leak.ringClosedRun := 10000 } with leak.ringExt := true }, by decide⟩,
   ⟨{ tOn with leak.ringClosedRun := 10000 - 1 }, by decide⟩,
   ⟨{ tOn with leak.loops := List.replicate 24 { clsRun := 200 } }, 23, by decide⟩,
   ⟨{ tOn with leak.loops := List.replicate 24 { clsRun := 200, iso := .held } }, 23, by decide⟩⟩

theorem witness_IsolationDecisionAndChecks :
    (∃ (s : State) (l : Nat), l < s.heat.loops.length) ∧
    (∃ (s : State) (c : Nat), ((vch s c).staged ≠ some true ∨ 3 ≤ s.seq.phase)) ∧
    (∃ (s : State) (c : Nat), c < s.valve.ch.length ∧ (vch s c).staged = some true ∧ s.seq.phase ≤ 2 ∧ (∀ l ∈
      leakLoops s, c ∉ isoChs s l)) ∧
    (∃ (s : State) (c : Nat) (l : Nat), c < s.valve.ch.length ∧ l < s.leak.loops.length ∧ (vch s c).staged = some true
      ∧ s.seq.phase ≤ 2 ∧ leakLoops s = [l] ∧ c ∈ isoChs s l ∧ (leakLoop s l).iso = .closing ∧ (∀ d ∈ isoChs s l, d ≠
      c → inCurrent (vch s d).drive = true)) ∧
    (∃ (s : State) (l : Nat) (half : Nat), l < s.leak.loops.length ∧ (leakLoop s l).iso = .closing ∧ isoEnergised s l
      = true) ∧
    (∃ (s : State) (l : Nat), l < s.leak.loops.length ∧ (leakLoop s l).iso = .checking ∧ ((leakLoop s l).edgeFrame +
      30000 < s.seq.frame ∨ (leakLoop s l).edgeFrame + 30000 = s.seq.frame ∧ 1 ≤ s.seq.phase) ∧ (leakLoop s
      l).flowSeen = false ∧ (∀ c ∈ isoChs s l, (vch s c).moved = true)) ∧
    (∃ (s : State) (l : Nat), l < s.leak.loops.length ∧ (leakLoop s l).iso = .checking ∧ ((leakLoop s l).edgeFrame +
      30000 < s.seq.frame ∨ (leakLoop s l).edgeFrame + 30000 = s.seq.frame ∧ 1 ≤ s.seq.phase) ∧ ((leakLoop s
      l).flowSeen = true ∨ ∃ c ∈ isoChs s l, (vch s c).moved = false)) ∧
    (∃ (s : State) (l : Nat), l < s.leak.loops.length) ∧
    (∃ (s : State) (l : Nat), ((leakLoop s l).iso ≠ .checking ∨ s.seq.frame < (leakLoop s l).edgeFrame + 30000)) ∧
    (∃ (s : State) (l : Nat) (q : Int), l < s.leak.loops.length ∧ (leakLoop s l).iso = .notHolding ∧ (leakLoop s
      l).checkFrame + 100000 ≤ s.seq.frame ∧ sensorValue s (loopCfg s l).flow = some q ∧ q < 10 ∧ undriven s l = false) ∧
    (∃ (s : State) (l : Nat), l < s.leak.loops.length ∧ (leakLoop s l).iso = .notHolding ∧ (leakLoop s l).checkFrame +
      100000 ≤ s.seq.frame ∧ (undriven s l = true ∨ sensorValue s (loopCfg s l).flow = none ∨ ∃ q, sensorValue s
      (loopCfg s l).flow = some q ∧ 10 ≤ q)) ∧
    (∃ (s : State) (l : Nat), (leakLoop s l).iso ≠ .notHolding) ∧
    (∃ (s : State) (l : Nat), releaseConditions s l = false) :=
  ⟨⟨tOn, 1, by decide⟩,
   ⟨{ tOn with seq.phase := 3, valve.ch := List.replicate 48 { staged := some true } }, 47, by decide⟩,
   ⟨{ tOn with seq.phase := 2, valve.ch := List.replicate 48 { staged := some true } }, 47, by decide⟩,
   ⟨{ tOn with seq.phase := 2, img.topology := { loops := [{ configured := true, supplyValve := 0, returnValve := 1 }] }, leak.loops := [{ iso := .closing }], valve.ch := [{ drive := .hold }, { staged := some true }] },
      1, 0, by decide⟩,
   ⟨{ tOn with leak.loops := [{ iso := .closing }], valve.ch := [{ drive := .peak }] }, 0, 0, by decide⟩,
   ⟨{ tOn with seq.frame := 30000, seq.phase := 1, leak.loops := [{ iso := .checking }], valve.ch := [{ drive := .hold, moved := true }] },
      0, by decide⟩,
   ⟨{ tOn with seq.frame := 30001, leak.loops := [{ iso := .checking }], valve.ch := [{ drive := .hold }] }, 0, by
      decide⟩,
   ⟨tOn, 1, by decide⟩,
   ⟨tOn, 1, by decide⟩,
   ⟨{ tOn with seq.frame := 100000, pow.plantControl := true, pow.act24 := true, pow.domains := List.replicate 126 { state := .on }, leak.loops := [{ iso := .notHolding }], plant.sensors := [{ valid := true, value := 9 }], valve.ch := [{ drive := .hold, c0 := true, moved := true }], valve.banks := [{ state := .on }] },
      0, 9, by decide⟩,
   ⟨{ (updLeak ((1)) (fun y0 => { y0 with iso := .notHolding }) (tOn)) with seq.frame := (leakLoop tOn (1)).checkFrame + 100000 },
      1, by decide⟩,
   ⟨tOn, 1, by decide⟩,
   ⟨tOn, 1, by decide⟩⟩

theorem witness_CanBusOffAndErrorStates :
    (∃ (s : State) (c : Nat), c < s.can.ch.length ∧ (canCh s c).state = .normal ∧ ((canCh s c).busOffFrames.filter fun
      f => s.seq.frame < f + 600000).length < 7) ∧
    (∃ (s : State) (c : Nat), c < s.can.ch.length ∧ (canCh s c).state = .normal ∧ (canCh s c).storm = false ∧ 7 ≤
      ((canCh s c).busOffFrames.filter fun f => s.seq.frame < f + 600000).length) ∧
    (∃ (s : State) (c : Nat), (canCh s c).state ≠ .normal) ∧
    (∃ (s : State) (c : Nat), c < s.can.ch.length ∧ (canCh s c).state = .busOff) ∧
    (∃ (s : State) (c : Nat), (canCh s c).state ≠ .busOff) ∧
    (∃ (s : State) (c : Nat) (f : Nat), c < s.can.ch.length ∧ (canCh s c).storm = true ∧ (canCh s c).returnFrame =
      some f ∧ f + 600000 ≤ s.seq.frame) ∧
    (∃ (s : State) (c : Nat), ((canCh s c).storm = false ∨ (canCh s c).returnFrame = none)) ∧
    (∃ (s : State) (c : Nat) (tec : Nat) (rec_ : Nat) (e : List Nat), c < s.can.ch.length ∧ (canCh s c).state =
      .normal ∧ (canCh s c).passive = false) ∧
    (∃ (s : State) (c : Nat) (tec : Nat) (rec_ : Nat), c < s.can.ch.length ∧ (canCh s c).state = .normal ∧ (canCh s
      c).passive = true) ∧
    (∃ (s : State) (c : Nat) (tec : Nat) (rec_ : Nat) (e : List Nat), (canCh s c).state ≠ .normal) :=
  ⟨⟨updCan ((1)) (fun y0 => { y0 with state := .normal }) (tOn), 1, by decide⟩,
   ⟨{ tOn with seq.frame := 599999, can.ch := [{ state := .normal, busOffFrames := List.replicate 7 0 }] }, 0, by
      decide⟩,
   ⟨tOn, 1, by decide⟩,
   ⟨updCan ((1)) (fun y0 => { y0 with state := .busOff }) (tOn), 1, by decide⟩,
   ⟨tOn, 1, by decide⟩,
   ⟨{ (updCan ((1)) (fun y0 => { y0 with returnFrame := some (1) }) (updCan ((1)) (fun y0 => { y0 with storm := true }) (tOn))) with seq.frame := (1) + 600000 },
      1, 1, by decide⟩,
   ⟨updCan ((1)) (fun y0 => { y0 with storm := false }) (tOn), 1, by decide⟩,
   ⟨updCan ((1)) (fun y0 => { y0 with passive := false }) (updCan ((1)) (fun y0 => { y0 with state := .normal })
      (tOn)), 1, 1, 1, ([] : List Nat), by decide⟩,
   ⟨updCan ((1)) (fun y0 => { y0 with passive := true }) (updCan ((1)) (fun y0 => { y0 with state := .normal })
      (tOn)), 1, 1, 1, by decide⟩,
   ⟨tOn, 1, 1, 1, ([] : List Nat), by decide⟩⟩

theorem witness_CanReceptionAndMirrorQueues :
    (∃ (s : State) (c : Nat) (off : Nat) (m : CanMsg), ((canCh s c).state = .off ∨ ((canCh s c).state = .busOff ∧
      (canCh s c).recovered = false) ∨ canClock s = false)) ∧
    (∃ (s : State) (c : Nat) (off : Nat) (m : CanMsg), c < s.can.ch.length ∧ canListens (canCh s c) = true ∧ canClock
      s = true ∧ (m.remote = true ∨ (hardwareTakes s c m = false ∧ acceptingFilter s c m = none))) ∧
    (∃ (s : State) (c : Nat) (off : Nat) (k : Nat) (m : CanMsg), c < s.can.ch.length ∧ canListens (canCh s c) = true ∧
      canClock s = true ∧ m.remote = false ∧ hardwareTakes s c m = false ∧ acceptingFilter s c m = some k ∧
      ((s.img.filters.getD c []).getD k {}).target = 0 ∧ (canCh s c).fifo.length < 64) ∧
    (∃ (s : State) (c : Nat) (off : Nat) (k : Nat) (m : CanMsg), c < s.can.ch.length ∧ canListens (canCh s c) = true ∧
      canClock s = true ∧ m.remote = false ∧ hardwareTakes s c m = false ∧ acceptingFilter s c m = some k ∧
      ((s.img.filters.getD c []).getD k {}).target = 0 ∧ 64 ≤ (canCh s c).fifo.length) ∧
    (∃ (s : State) (c : Nat) (off : Nat) (k : Nat) (m : CanMsg), c < s.can.ch.length ∧ canListens (canCh s c) = true ∧
      canClock s = true ∧ m.remote = false ∧ hardwareTakes s c m = false ∧ acceptingFilter s c m = some k ∧
      ((s.img.filters.getD c []).getD k {}).target = 1 ∧ (canCh s c).queue1.length < 64) ∧
    (∃ (s : State) (c : Nat) (off : Nat) (k : Nat) (m : CanMsg), c < s.can.ch.length ∧ canListens (canCh s c) = true ∧
      canClock s = true ∧ m.remote = false ∧ hardwareTakes s c m = false ∧ acceptingFilter s c m = some k ∧
      ((s.img.filters.getD c []).getD k {}).target = 2 ∧ ((s.img.filters.getD c []).getD k {}).hpBuffer < (canCh s
      c).hp.length) ∧
    (∃ (s : State) (v : Nat) (dlc : Nat) (pos : Nat) (cmd : Nat) (fault : Bool) (x : CanValve), s.can.valves[v]? =
      some x ∧ dlc = 8) ∧
    (∃ (s : State) (v : Nat) (dlc : Nat) (pos : Nat) (cmd : Nat) (fault : Bool) (x : CanValve), s.can.valves[v]? =
      some x ∧ dlc ≠ 8 ∧ x.channel < s.can.ch.length) ∧
    (∃ (s : State) (v : Nat) (f : Nat) (x : CanValve), s.can.valves[v]? = some x ∧ x.lastStatus = some f ∧ f + 1000 ≤
      s.seq.frame) ∧
    (∃ (s : State) (v : Nat) (f : Nat) (x : CanValve), s.can.valves[v]? = some x ∧ x.lastStatus = some f ∧ s.seq.frame
      < f + 1000) ∧
    (∃ (s : State) (c : Nat) (v : Nat), c < s.can.ch.length ∧ v < 256 ∧ (v + 256 - (canCh s c).mqTail) % 256 ≤ mqCount
      (canCh s c)) ∧
    (∃ (s : State) (c : Nat) (v : Nat), c < s.can.ch.length ∧ mqCount (canCh s c) < (v + 256 - (canCh s c).mqTail) %
      256) ∧
    (∃ (s : State) (c : Nat), c < s.can.ch.length) ∧
    (∃ (s : State) (c : Nat) (b : Nat), c < s.can.ch.length) :=
  ⟨⟨{ tOn with seq.unlocked := [.can], can.ch := [{ state := .normal }] }, 0, 0, {}, by decide⟩,
   ⟨{ tOn with can.ch := [{ state := .normal }] }, 0, 0, { remote := true }, by decide⟩,
   ⟨{ tOn with can.ch := [{ state := .normal, fifo := List.replicate 63 {} }], img.filters := [[{ enabled := true, idMatch := 5, mask := 0x7FF, target := 0 }]] },
      0, 0, 0, { canId := 5 }, by decide⟩,
   ⟨{ tOn with can.ch := [{ state := .normal, fifo := List.replicate 64 {} }], img.filters := [[{ enabled := true, idMatch := 5, mask := 0x7FF, target := 0 }]] },
      0, 0, 0, { canId := 5 }, by decide⟩,
   ⟨{ tOn with can.ch := [{ state := .normal, queue1 := List.replicate 63 {} }], img.filters := [[{ enabled := true, idMatch := 5, mask := 0x7FF, target := 1 }]] },
      0, 0, 0, { canId := 5 }, by decide⟩,
   ⟨{ tOn with can.ch := [{ state := .busOff, recovered := true }], img.filters := [[{ enabled := true, idMatch := 5, mask := 0x7FF, target := 2, hpBuffer := 7 }]] },
      0, 0, 0, { canId := 5 }, by decide⟩,
   ⟨(fun (w : State) =>
      { w with can.valves := upd (w.can.valves ++ List.replicate ((1) + 1 - (w.can.valves).length) {}) ((1)) (fun y0 => (({} : CanValve))) })
      (tOn), 1, 8, 1, 1, true, ({} : CanValve), by decide⟩,
   ⟨{ tOn with can.valves := [{ channel := 11 }] }, 0, 7, 1, 1, false, { channel := 11 }, by decide⟩,
   ⟨{ tOn with seq.frame := 1001, can.valves := [{ lastStatus := some 1 }] }, 0, 1, { lastStatus := some 1 }, by
      decide⟩,
   ⟨{ tOn with seq.frame := 1000, can.valves := [{ lastStatus := some 1 }] }, 0, 1, { lastStatus := some 1 }, by
      decide⟩,
   ⟨{ tOn with can.ch := [{ mqHead := 255, mqTail := 250 }] }, 0, 255, by decide⟩,
   ⟨tOn, 1, 1, by decide⟩,
   ⟨tOn, 1, by decide⟩,
   ⟨tOn, 1, 1, by decide⟩⟩

theorem witness_CanCellsAndHostMessages :
    (∃ (s : State) (c : Nat) (col : Nat) (f : BusFacts), ((almanac s c).columns ≤ col ∨ s.seq.frame % 10 ≠ ((almanac s
      c).column.getD col {}).start / 100 ∨ (canCh s c).state = .off ∨ (canCh s c).state = .restricted ∨ canClock s =
      false)) ∧
    (∃ (s : State) (c : Nat) (col : Nat) (f : BusFacts), c < s.can.ch.length ∧ col < (almanac s c).columns ∧
      s.seq.frame % 10 = ((almanac s c).column.getD col {}).start / 100 ∧ (canCh s c).state = .normal ∧ canClock s =
      true ∧ stagePasses s c = true ∧ ((almanac s c).column.getD col {}).kind = 0 ∧ f.sent = true ∧ f.busyAtStart =
      false ∧ f.lost = 0 ∧ f.tdc = none ∧ ((almanac s c).cell.getD (16 * (s.seq.frame / 10 % 64) + col) {}).used =
      true ∧ 16 * (s.seq.frame / 10 % 64) + col ∉ (canCh s c).inactive ∧ (((almanac s c).cell.getD (16 * (s.seq.frame
      / 10 % 64) + col) {}).source < 512 ∨ 516 ≤ ((almanac s c).cell.getD (16 * (s.seq.frame / 10 % 64) + col)
      {}).source)) ∧
    (∃ (s : State) (c : Nat) (col : Nat) (f : BusFacts), c < s.can.ch.length ∧ col < (almanac s c).columns ∧
      s.seq.frame % 10 = ((almanac s c).column.getD col {}).start / 100 ∧ canClock s = true ∧ ((canCh s c).state =
      .busOff ∨ (canCh s c).state = .normal ∧ stagePasses s c = false) ∧ ((almanac s c).column.getD col {}).kind ≤ 1 ∧
      ((almanac s c).cell.getD (16 * (s.seq.frame / 10 % 64) + col) {}).used = true ∧ 16 * (s.seq.frame / 10 % 64) +
      col ∉ (canCh s c).inactive) ∧
    (∃ (s : State) (c : Nat) (col : Nat) (f : BusFacts), c < s.can.ch.length ∧ col < (almanac s c).columns ∧
      s.seq.frame % 10 = ((almanac s c).column.getD col {}).start / 100 ∧ (canCh s c).state = .normal ∧ canClock s =
      true ∧ stagePasses s c = true ∧ ((almanac s c).column.getD col {}).kind = 2 ∧ intercalaryOpen s c = false) ∧
    (∃ (s : State) (c : Nat) (col : Nat) (i : Nat) (f : BusFacts) (x : SendSlot), c < s.can.ch.length ∧ col < (almanac
      s c).columns ∧ s.seq.frame % 10 = ((almanac s c).column.getD col {}).start / 100 ∧ (canCh s c).state = .normal ∧
      canClock s = true ∧ stagePasses s c = true ∧ ((almanac s c).column.getD col {}).kind = 2 ∧ intercalaryOpen s c =
      true ∧ waitingSlots s c = [i] ∧ i < (canCh s c).slots.length ∧ x = (canCh s c).slots.getD i {} ∧ f.hosts = 1 ∧
      f.tdc = none ∧ longestFrame (almanac s c) x.msg.ide x.msg.fdf x.msg.brs x.msg.dlc ≤ 80 * ((almanac s
      c).column.getD col {}).length) ∧
    (∃ (s : State) (c : Nat) (k : Nat), c < s.can.ch.length ∧ k < (canCh s c).slots.length ∧ ((canCh s c).slots.getD k
      {}).state = .waiting ∧ ((canCh s c).slots.getD k {}).acceptFrame + 100000 ≤ s.seq.frame) ∧
    (∃ (s : State) (c : Nat) (k : Nat), (((canCh s c).slots.getD k {}).state ≠ .waiting ∨ s.seq.frame < ((canCh s
      c).slots.getD k {}).acceptFrame + 100000)) ∧
    (∃ (s : State) (c : Nat) (k : Nat), c < s.can.ch.length ∧ k < (canCh s c).slots.length ∧ ((canCh s c).slots.getD k
      {}).state ∈ [.sent, .cancelled, .expired, .dropped] ∧ ((canCh s c).slots.getD k {}).doneFrame + 100000 ≤
      s.seq.frame) ∧
    (∃ (s : State) (c : Nat) (k : Nat), ((canCh s c).slots.getD k {}).state ∈ [.free, .waiting, .sending]) :=
  ⟨⟨{ tOn with seq.unlocked := [.can] }, 0, 0, {}, by decide⟩,
   ⟨{ tOn with seq.frame := 1, pair.stages := true, can.ch := [{ state := .normal }], img.almanacs := [{ present := true, columns := 1, column := [{ start := 100, length := 100, kind := 0 }], cell := [{ used := true, canId := 1, source := 516 }] }] },
      0, 0, {}, by decide⟩,
   ⟨{ tOn with seq.frame := 1, can.ch := [{ state := .normal }], img.almanacs := [{ present := true, columns := 1, column := [{ start := 100, length := 100, kind := 1 }], cell := [{ used := true, canId := 1, source := 516 }] }] },
      0, 0, {}, by decide⟩,
   ⟨{ tOn with seq.frame := 1, pair.stages := true, can.ch := [{ state := .normal }], img.almanacs := [{ present := true, columns := 1, column := [{ start := 100, length := 100, kind := 2 }], cell := [{ used := true, canId := 1, source := 516 }] }] },
      0, 0, {}, by decide⟩,
   ⟨{ tOn with seq.frame := 1, pair.stages := true, can.ch := [{ state := .normal, slots := [{ state := .waiting }] }], maint.windows := [{ isOpen := true, canMask := 1 }], img.almanacs := [{ present := true, columns := 1, column := [{ start := 100, length := 100, kind := 2 }], cell := [{ used := true, canId := 1, source := 516 }] }] },
      0, 0, 0, { hosts := 1 }, { state := .waiting }, by decide⟩,
   ⟨{ (updCan ((1)) (fun y0 => { y0 with slots := upd (y0.slots ++ List.replicate ((1) + 1 - (y0.slots).length) {}) ((1)) (fun y1 => { y1 with state := .waiting }) }) (tOn)) with seq.frame := ((canCh tOn (1)).slots.getD (1) {}).acceptFrame + 100000 },
      1, 1, by decide⟩,
   ⟨tOn, 1, 1, by decide⟩,
   ⟨{ tOn with seq.frame := 100000, can.ch := [{ slots := [{ state := .dropped }] }] }, 0, 0, by decide⟩,
   ⟨tOn, 1, 1, by decide⟩⟩

theorem witness_ClaimRoundsAndPlantControl :
    (∃ (s : State) (f : RoundFacts), s.pair.role = .control ∧ claimAllowed s = true ∧ s.pair.claimAge < 2 ∧ 16 ≤
      s.pair.claim ∧ bit s.pair.claim 2 = false ∧ s.pair.swap = none ∧ s.pair.stuckA = false ∧ s.pair.stuckB = false ∧
      f.partner.getD 0 ≤ s.pair.claim) ∧
    (∃ (s : State) (f : RoundFacts) (q : Nat), s.pair.role = .control ∧ claimAllowed s = true ∧ s.pair.claimAge < 2 ∧
      s.pair.swap = none ∧ s.pair.stuckA = false ∧ s.pair.stuckB = false ∧ f.openA = false ∧ f.openB = false ∧
      f.partner = some q ∧ 16 ≤ q ∧ s.pair.claim < q) ∧
    (∃ (s : State) (f : RoundFacts), 2 ≤ s.pair.claimAge) ∧
    (∃ (p : PairSt) (o : Nat) (f : RoundFacts), p.stuckA = false ∧ p.stuckB = false ∧ f.openA = true ∧ f.openB = false
      ∧ o < f.partner.getD 0) ∧
    (∃ (p : PairSt) (o : Nat) (f : RoundFacts), p.stuckA = true ∧ p.stuckB = false ∧ f.openB = false) ∧
    (∃ (s : State), 2 ≤ s.pair.claimAge) ∧
    (∃ (s : State), s.pair.claimAge < 2) ∧
    (∃ (s : State) (b : Bool), s.pair.wireFault = false ∧ runSeen 0xD030 0xFFFF 10000 s = false) ∧
    (∃ (s : State), s.pair.partnerSeen = true ∧ s.pair.partner.strap = s.pow.slotStrap ∧ s.pair.conflict = false) ∧
    (∃ (s : State), strapInvalid s = false ∧ s.pair.partner.strap ≠ s.pow.slotStrap) ∧
    (∃ (s : State) (f : RoundFacts), s.pow.state = .arming ∧ armed s = true ∧ s.seq.frame % 100 = 0 ∧ claimAllowed s =
      true ∧ (∀ h, s.pair.holderClaim = some h → h + 3 < s.seq.frame) ∧ s.pair.stuckA = false ∧ s.pair.stuckB = false
      ∧ f.partner.getD 0 ≤ ownClaim s) ∧
    (∃ (s : State) (f : RoundFacts), s.pow.state = .arming ∧ armed s = true ∧ s.seq.frame % 100 = 0 ∧ claimAllowed s =
      true ∧ (∀ h, s.pair.holderClaim = some h → h + 3 < s.seq.frame) ∧ s.pair.stuckA = false ∧ s.pair.stuckB = false
      ∧ f.openA = false ∧ f.openB = false ∧ ownClaim s < f.partner.getD 0) ∧
    (∃ (s : State) (f : RoundFacts) (h : Nat), s.pow.state = .arming ∧ armed s = true ∧ s.seq.frame % 100 = 0 ∧
      claimAllowed s = true ∧ s.pair.holderClaim = some h ∧ s.seq.frame ≤ h + 3) ∧
    (∃ (s : State) (f : RoundFacts), (s.pow.state ≠ .arming ∨ armed s = false ∨ s.seq.frame % 100 ≠ 0)) ∧
    (∃ (s : State), s.pair.role = .control ∧ s.pair.won = true ∧ s.pair.stages = true ∧ s.pair.inControl = false ∧
      s.pow.ready = true ∧ s.pow.state = .control ∧ s.seq.phase = 0 ∧ s.pair.takeFrame < s.seq.frame) ∧
    (∃ (s : State), (s.pair.role ≠ .control ∨ s.pair.won = false ∨ s.pair.inControl = true ∨ s.seq.phase ≠ 0 ∨
      s.seq.frame ≤ s.pair.takeFrame)) :=
  ⟨⟨tHolds, { partner := some 24 }, by decide⟩,
   ⟨tHolds, { partner := some 25 }, 25, by decide⟩,
   ⟨{ tOn with pair.claimAge := 2 }, ({} : RoundFacts), by decide⟩,
   ⟨{}, 3, { openA := true, partner := some 4 }, by decide⟩,
   ⟨{ { (({} : PairSt)) with stuckA := true } with stuckB := false }, 1, { (({} : RoundFacts)) with openB := false },
      by decide⟩,
   ⟨{ tOn with pair.claimAge := 2 }, by decide⟩,
   ⟨{ tOn with pair.claimAge := 2 - 1 }, by decide⟩,
   ⟨{ tOn with pair.wireFault := false }, true, by decide⟩,
   ⟨{ { { tOn with pair.partnerSeen := true } with pair.partner.strap := tOn.pow.slotStrap } with pair.conflict := false },
      by decide⟩,
   ⟨tOn, by decide⟩,
   ⟨tArms, {}, by decide⟩,
   ⟨tArms, { partner := some 4095 }, by decide⟩,
   ⟨{ tArms with seq.frame := 100, pair.holderClaim := some 97 }, {}, 97, by decide⟩,
   ⟨tOn, ({} : RoundFacts), by decide⟩,
   ⟨{ tOn with pair.role := .control, pair.won := true, pair.stages := true, seq.frame := 1 }, by decide⟩,
   ⟨{ tOn with pair.role := .control, pair.won := true, pair.takeFrame := 7, seq.frame := 7 }, by decide⟩⟩

theorem witness_HealthAndMarksOfThePartner :
    (∃ (s : State), 64 < s.link.ports.length ∧ (lport s 64).state = .up ∧ s.pair.lastHealthSent + 1000 ≤ s.seq.frame) ∧
    (∃ (s : State), ((lport s 64).state ≠ .up ∨ s.seq.frame < s.pair.lastHealthSent + 1000)) ∧
    (∃ (s : State) (b : List Nat) (m : HealthMsg), m = parseHealth b) ∧
    (∃ (s : State) (f : Nat), s.pair.healthFrame = some f ∧ f + 3000 ≤ s.seq.frame ∧ isSingle s = false) ∧
    (∃ (s : State) (f : Nat), s.pair.healthFrame = some f ∧ s.seq.frame < f + 3000) ∧
    (∃ (s : State) (b : List Nat) (m : MarkMsg), m = parseMark b) ∧
    (∃ (s : State) (f : Nat), 64 < s.link.ports.length ∧ (lport s 64).retryAt = some f ∧ f ≤ s.seq.frame ∧ (lport s
      64).state = .attesting ∧ (lport s 64).attStart = none ∧ s.pow.ready = true ∧ s.sec.drbgOk = true) ∧
    (∃ (s : State) (f : Nat), 64 < s.link.ports.length ∧ (lport s 64).retryAt = some f ∧ f ≤ s.seq.frame ∧ (lport s
      64).state = .attesting ∧ (lport s 64).attStart = none ∧ s.pow.ready = true ∧ s.sec.drbgOk = false) ∧
    (∃ (s : State) (f : Nat), (lport s 64).retryAt = some f ∧ s.seq.frame < f) ∧
    (∃ (s : State), (lport s 64).retryAt = none) :=
  ⟨⟨{ (updPort (64) (fun y0 => { y0 with state := .up }) (tOn)) with seq.frame := tOn.pair.lastHealthSent + 1000 }, by
      decide⟩,
   ⟨tOn, by decide⟩,
   ⟨tOn, [], parseHealth [], by decide⟩,
   ⟨{ { tOn with pair.healthFrame := some (1) } with seq.frame := (1) + 3000 }, 1, by decide⟩,
   ⟨{ { tOn with pair.healthFrame := some (1) } with seq.frame := (1) + 3000 - 1 }, 1, by decide⟩,
   ⟨tOn, [], parseMark [], by decide⟩,
   ⟨{ tOn with link.ports := List.replicate 65 { state := .attesting, retryAt := some 0 } }, 0, by decide⟩,
   ⟨{ tOn with sec.drbgOk := false, link.ports := List.replicate 65 { state := .attesting, retryAt := some 0 } }, 0,
      by decide⟩,
   ⟨{ (updPort (64) (fun y0 => { y0 with retryAt := some (1) }) (tOn)) with seq.frame := (1) - 1 }, 1, by decide⟩,
   ⟨updPort (64) (fun y0 => { y0 with retryAt := none }) (tOn), by decide⟩⟩

theorem witness_CheckpointsAndTakeover :
    (∃ (s : State) (c : Checkpoint), s.pair.role = .standby ∧ s.pair.term ≤ c.term ∧ c.digest = s.key.digest ∧
      c.fwMajor = 3 ∧ c.fwMinor ≤ 9) ∧
    (∃ (s : State) (c : Checkpoint) (a : Bool) (b : Bool), s.pair.role = .standby ∧ c.digest = s.key.digest ∧ (a =
      false ∨ b = false ∨ c.term < s.pair.term ∨ c.fwMajor ≠ 3 ∨ 9 < c.fwMinor)) ∧
    (∃ (s : State) (c : Checkpoint) (a : Bool) (b : Bool), s.pair.role = .standby ∧ c.digest ≠ s.key.digest) ∧
    (∃ (s : State) (c : Checkpoint) (a : Bool) (b : Bool), s.pair.role ≠ .standby ∧ s.pair.role ≠ .primed) ∧
    (∃ (s : State), s.pair.role = .standby ∧ ckptOld s = true) ∧
    (∃ (s : State), ckptOld s = false) ∧
    (∃ (s : State) (f : RoundFacts), bidDue s = false) ∧
    (∃ (s : State) (h : Nat), s.pair.holderClaim = some h ∧ s.seq.frame < h + 4) ∧
    (∃ (s : State) (f : RoundFacts), bidDue s = true ∧ bidVetoed s = true) ∧
    (∃ (s : State) (f : RoundFacts), bidDue s = true ∧ bidVetoed s = false ∧ s.pair.role = .standby ∧ s.pair.ckpt ≠
      none ∧ s.pair.ckptValid = true ∧ s.pair.stuckA = false ∧ s.pair.stuckB = false ∧ f.partner = none) ∧
    (∃ (s : State) (f : RoundFacts), bidDue s = true ∧ bidVetoed s = false ∧ s.pair.role = .standby ∧ s.pair.ckpt =
      none ∧ s.pair.stuckA = false ∧ s.pair.stuckB = false ∧ f.partner = none) ∧
    (∃ (s : State) (f : RoundFacts), bidDue s = true ∧ bidVetoed s = false ∧ s.pair.role = .primed ∧ s.pair.stuckA =
      false ∧ s.pair.stuckB = false ∧ f.partner = none) ∧
    (∃ (s : State) (f : RoundFacts) (q : Nat), bidDue s = true ∧ bidVetoed s = false ∧ s.pair.stuckA = false ∧
      s.pair.stuckB = false ∧ f.openA = false ∧ f.openB = false ∧ f.partner = some q ∧ ownClaim s < q) ∧
    (∃ (s : State) (c : Checkpoint), s.pair.role = .taking ∧ s.pair.ckpt = some c) ∧
    (∃ (s : State), s.pair.role ≠ .taking) :=
  ⟨⟨{ tOn with pair.role := .standby },
      { { { { (({} : Checkpoint)) with term := tOn.pair.term } with digest := tOn.key.digest } with fwMajor := 3 } with fwMinor := 9 },
      by decide⟩,
   ⟨{ tOn with pair.role := .standby }, { (({} : Checkpoint)) with digest := tOn.key.digest }, false, true, by decide⟩,
   ⟨{ tOn with pair.role := .standby }, { digest := 7 }, true, true, by decide⟩,
   ⟨{ tOn with pair.role := .control }, {}, true, true, by decide⟩,
   ⟨{ tOn with pair.role := .standby }, by decide⟩,
   ⟨{ tOn with seq.frame := 999, pair.ckptAt := some 0 }, by decide⟩,
   ⟨tOn, ({} : RoundFacts), by decide⟩,
   ⟨{ { tOn with pair.holderClaim := some (1) } with seq.frame := (1) + 4 - 1 }, 1, by decide⟩,
   ⟨{ tBids with pair.holderMark := some 97 }, {}, by decide⟩,
   ⟨{ tBids with pair.ckpt := some {}, pair.ckptValid := true }, {}, by decide⟩,
   ⟨tBids, {}, by decide⟩,
   ⟨{ tOn with pow.deadMan := false, seq.frame := 4, pair.role := .primed }, {}, by decide⟩,
   ⟨{ tOn with pow.deadMan := false, seq.frame := 4, pair.role := .standby }, { partner := some 255 }, 255, by decide⟩,
   ⟨{ { tOn with pair.role := .taking } with pair.ckpt := some (({} : Checkpoint)) }, ({} : Checkpoint), by decide⟩,
   ⟨tOn, by decide⟩⟩

theorem witness_HandoverBetweenTheUnits :
    (∃ (s : State), s.pair.swap = none ∧ s.pair.retryAt ≤ s.seq.frame ∧ isSingle s = false ∧ s.pair.role = .control ∧
      (∃ f, s.pair.gradeLow = some f ∧ f + 10000 ≤ s.seq.frame)) ∧
    (∃ (s : State) (f : Nat), s.pair.swap = none ∧ s.pair.retryAt ≤ s.seq.frame ∧ isSingle s = false ∧ s.pair.role =
      .standby ∧ isHome s = true ∧ s.pair.healthySince = some f ∧ f + 600000 ≤ s.seq.frame ∧ s.pair.pairHold = false ∧
      s.pair.partnerSeen = true) ∧
    (∃ (s : State) (x : SwapSource), (s.pair.swap ≠ none ∨ s.seq.frame < s.pair.retryAt ∨ isSingle s = true)) ∧
    (∃ (s : State), s.pair.pairHold = true) ∧
    (∃ (s : State), s.pair.role = .control ∧ swapAcceptable s .request = true) ∧
    (∃ (s : State), (s.pair.role = .control ∧ swapAcceptable s .request = false ∨ s.pair.role = .handing)) ∧
    (∃ (s : State), s.pair.role = .standby) ∧
    (∃ (s : State), s.pair.partner.digest ≠ s.key.digest) ∧
    (∃ (s : State), s.pair.partner.grade < s.pair.grade) ∧
    (∃ (s : State), s.pair.swap ≠ none ∧ s.pair.role = .standby) ∧
    (∃ (s : State), s.pair.swap = none) ∧
    (∃ (s : State) (b : Nat), s.pair.role = .standby) ∧
    (∃ (s : State) (b : Nat), s.pair.role ≠ .standby) ∧
    (∃ (s : State) (c : Checkpoint), s.pair.role = .standby ∧ s.pair.finalCkpt = some c ∧ (lport s 64).state = .up) ∧
    (∃ (s : State), (s.pair.finalCkpt = none ∨ (lport s 64).state ≠ .up)) ∧
    (∃ (s : State), s.pair.role = .handing) ∧
    (∃ (s : State), s.pair.role ≠ .handing) ∧
    (∃ (s : State) (b : Nat), s.pair.boundary = some b ∧ b + 30 ≤ s.seq.frame ∧ s.pair.role = .handing ∧ s.pair.primed
      = false) ∧
    (∃ (s : State) (b : Nat), s.pair.boundary = some b ∧ b + 30 ≤ s.seq.frame ∧ s.pair.role = .primed) ∧
    (∃ (s : State) (b : Nat), s.pair.boundary = some b ∧ b + 30 ≤ s.seq.frame ∧ s.pair.role = .standby) ∧
    (∃ (s : State) (b : Nat), s.pair.boundary = some b ∧ s.seq.frame < b + 30) ∧
    (∃ (s : State) (i : Nat), s.pair.role = .standby ∧ (∀ f, lastTest s.pair.senseTest i = some f → f + 600000 ≤
      s.seq.frame)) ∧
    (∃ (s : State) (d : Nat), s.pair.role = .standby ∧ (∀ f, lastTest s.pair.driveTest d = some f → f + 100000 ≤
      s.seq.frame) ∧ domainOn s d = true ∧ d < s.pow.domains.length) ∧
    (∃ (s : State) (i : Nat), s.pair.role = .standby ∧ (∀ f, lastTest s.pair.senseTest i = some f → f + 600000 ≤
      s.seq.frame) ∧ i < s.pow.calValve.length) ∧
    (∃ (s : State) (d : Nat), s.pair.role = .standby ∧ domainOn s d = true ∧ d < s.pow.domains.length) ∧
    (∃ (s : State) (k : SelfTest) (i : Nat) (b : Bool), s.pair.role = .control) :=
  ⟨⟨{ tOn with seq.frame := 10000, pair.role := .control, pair.gradeLow := some 0 }, by decide⟩,
   ⟨{ { { { { { { tOn with pair.swap := none } with seq.frame := tOn.pair.retryAt } with pair.role := .standby } with pair.healthySince := some (1) } with seq.frame := (1) + 600000 } with pair.pairHold := false } with pair.partnerSeen := true },
      1, by decide⟩,
   ⟨{ tOn with pair.retryAt := 1 }, .grade, by decide⟩,
   ⟨{ tOn with pair.pairHold := true }, by decide⟩,
   ⟨{ tOn with pair.role := .control, pair.partnerSeen := true }, by decide⟩,
   ⟨{ tOn with pair.role := .control }, by decide⟩,
   ⟨{ tOn with pair.role := .standby }, by decide⟩,
   ⟨{ tOn with pair.partner := { digest := 7 } }, by decide⟩,
   ⟨{ tOn with pair.grade := tOn.pair.partner.grade + 1 }, by decide⟩,
   ⟨{ tOn with pair.role := .standby, pair.swap := some .grade }, by decide⟩,
   ⟨{ tOn with pair.swap := none }, by decide⟩,
   ⟨{ tOn with pair.role := .standby }, 1, by decide⟩,
   ⟨tOn, 1, by decide⟩,
   ⟨{ tOn with pair.role := .standby, pair.finalCkpt := some {}, link.ports := List.replicate 65 { state := .up } },
      {}, by decide⟩,
   ⟨tOn, by decide⟩,
   ⟨{ tOn with pair.role := .handing }, by decide⟩,
   ⟨tOn, by decide⟩,
   ⟨{ { { { tOn with pair.boundary := some (1) } with seq.frame := (1) + 30 } with pair.role := .handing } with pair.primed := false },
      1, by decide⟩,
   ⟨{ { { tOn with pair.boundary := some (1) } with seq.frame := (1) + 30 } with pair.role := .primed }, 1, by decide⟩,
   ⟨{ tOn with seq.frame := 30, pair.boundary := some 0, pair.role := .standby }, 0, by decide⟩,
   ⟨{ { tOn with pair.boundary := some (1) } with seq.frame := (1) + 30 - 1 }, 1, by decide⟩,
   ⟨{ tOn with pair.role := .standby }, 1, by decide⟩,
   ⟨(fun (w : State) =>
      { w with pow.domains := upd (w.pow.domains ++ List.replicate ((1) + 1 - (w.pow.domains).length) {}) ((1)) (fun y0 => { y0 with state := .on }) })
      ({ tOn with pair.role := .standby }), 1, by decide⟩,
   ⟨{ tOn with seq.frame := 600000, pair.role := .standby, pair.senseTest := [(47, 0)] }, 47, by decide⟩,
   ⟨{ tOn with pair.role := .standby, pow.domains := List.replicate 126 { state := .on } }, 117, by decide⟩,
   ⟨{ tOn with pair.role := .control }, .drive, 97, true, by decide⟩⟩

theorem witness_EnrolmentCertificateAndRelease :
    (∃ (s : State), s.sec.drbgOk = true) ∧
    (∃ (s : State), s.sec.drbgOk = false) ∧
    (∃ (s : State), coreRuns s = true ∧ s.sec.drbgOk = false) ∧
    (∃ (s : State) (b : Bool), b ≠ s.sec.enrolLow) ∧
    (∃ (s : State) (h : ReqHdr) (f : EnrolFacts), arrivesNow s h.session ∧ h.tenantAuth = false ∧ h.lengthOk = true ∧
      lifeCycle s = .unenrolled ∧ s.sec.drbgOk = true ∧ enrolHeld s = true ∧ f.sigOk = true ∧ f.unwrapOk = true ∧
      superset s.sec.fuses.ownerImageKey f.imageKey = true ∧ superset s.sec.fuses.ownerKeyHash f.rootHash = true ∧
      f.fuseOk = true) ∧
    (∃ (s : State) (h : ReqHdr) (f : EnrolFacts), arrivesNow s h.session ∧ h.tenantAuth = false ∧ h.lengthOk = true ∧
      enrolCheck s f ≠ 0 ∧ f.fuseOk = true) ∧
    (∃ (s : State) (f : EnrolFacts), lifeCycle s ≠ .unenrolled) ∧
    (∃ (s : State) (f : EnrolFacts), lifeCycle s = .unenrolled ∧ s.sec.drbgOk = false) ∧
    (∃ (s : State) (f : EnrolFacts), lifeCycle s = .unenrolled ∧ s.sec.drbgOk = true ∧ enrolHeld s = false) ∧
    (∃ (s : State) (f : EnrolFacts), lifeCycle s = .unenrolled ∧ s.sec.drbgOk = true ∧ enrolHeld s = true ∧ f.sigOk =
      false) ∧
    (∃ (s : State) (t0 : Nat), s.sec.enrolReboot = some t0 ∧ t0 ≤ rowNs s) ∧
    (∃ (s : State) (t0 : Nat), s.sec.enrolReboot = some t0 ∧ rowNs s < t0) ∧
    (∃ (s : State) (h : ReqHdr), arrivesNow s h.session ∧ (session s h.session).role = .owner ∧ h.tenantAuth = false ∧
      h.lengthOk = true ∧ lifeCycle s ≠ .returned ∧ s.sec.drbgOk = true) ∧
    (∃ (s : State) (n : Nat) (t0 : Nat), s.sec.releaseNonce = some (n, t0) ∧ t0 + 60000000000 ≤ rowNs s) ∧
    (∃ (s : State) (n : Nat) (t0 : Nat), s.sec.releaseNonce = some (n, t0) ∧ rowNs s < t0 + 60000000000) ∧
    (∃ (s : State) (h : ReqHdr) (t0 : Nat) (n : Nat), arrivesNow s h.session ∧ (session s h.session).role = .owner ∧
      h.tenantAuth = false ∧ h.lengthOk = true ∧ lifeCycle s = .enrolled ∧ (s.pow.state = .standby ∨ s.pow.state =
      .noImage ∨ s.pow.state = .held) ∧ enrolHeld s = true ∧ s.pair.wonFrame ≠ some s.seq.frame ∧ s.sec.releaseNonce =
      some (n, t0) ∧ rowNs s < t0 + 60000000000) ∧
    (∃ (s : State) (h : ReqHdr) (n : Nat) (m : Nat) (t0 : Nat), arrivesNow s h.session ∧ (session s h.session).role =
      .owner ∧ h.tenantAuth = false ∧ h.lengthOk = true ∧ lifeCycle s = .enrolled ∧ s.pow.state = .standby ∧ enrolHeld
      s = true ∧ s.pair.wonFrame ≠ some s.seq.frame ∧ s.sec.releaseNonce = some (m, t0)) ∧
    (∃ (s : State) (h : ReqHdr) (bs : List Nat) (f : ChainFacts), arrivesNow s h.session ∧ (session s h.session).role
      = .owner ∧ h.tenantAuth = false ∧ h.lengthOk = true ∧ s.sec.certParts = none ∧ f.rootHash =
      s.sec.fuses.ownerKeyHash ∧ f.verified = true ∧ f.leafKey = true ∧ f.certs ≤ 4 ∧ bs.length ≤ 4096) ∧
    (∃ (s : State) (h : ReqHdr) (bs : List Nat) (f : ChainFacts), arrivesNow s h.session ∧ (session s h.session).role
      = .owner ∧ h.tenantAuth = false ∧ h.lengthOk = true ∧ s.sec.certParts = none) ∧
    (∃ (s : State) (h : ReqHdr) (head : List Nat) (bs : List Nat) (f : ChainFacts), arrivesNow s h.session ∧ (session
      s h.session).role = .owner ∧ h.tenantAuth = false ∧ h.lengthOk = true ∧ s.sec.certParts = some (h.session, head)
      ∧ f.rootHash = s.sec.fuses.ownerKeyHash ∧ f.verified = true ∧ f.leafKey = true ∧ f.certs ≤ 4 ∧ (head ++
      bs).length ≤ 4096) :=
  ⟨⟨{ tOn with sec.drbgOk := true }, by decide⟩,
   ⟨{ tOn with sec.drbgOk := false }, by decide⟩,
   ⟨{ { tOn with pow.powerGood := true } with sec.drbgOk := false }, by decide⟩,
   ⟨tOn, true, by decide⟩,
   ⟨{ tOn with sec.enrolLow := true, seq.rowT := 10000000000000 }, { session := 1 }, { rootHash := 3, imageKey := 5 },
      by decide⟩,
   ⟨tOn, { { (({ session := 1, lengthOk := true } : ReqHdr)) with tenantAuth := false } with lengthOk := true },
      { (({ rootHash := 0, imageKey := 0 } : EnrolFacts)) with fuseOk := true }, by decide⟩,
   ⟨{ tOn with sec.fuses.enrolled := [true, true, true] }, tEnrol, by decide⟩,
   ⟨{ tOn with sec.drbgOk := false }, tEnrol, by decide⟩,
   ⟨tOn, tEnrol, by decide⟩,
   ⟨{ tOn with sec.enrolLow := true, seq.rowT := 10000000000000 }, { tEnrol with sigOk := false }, by decide⟩,
   ⟨{ { tOn with sec.enrolReboot := some (1) } with seq.rowT := ((1)) * 10000 }, 1, by decide⟩,
   ⟨{ { tOn with sec.enrolReboot := some (1) } with seq.rowT := ((1) - 1) * 10000 }, 1, by decide⟩,
   ⟨{ (updSession ((({ session := 1, lengthOk := true } : ReqHdr)).session) (fun y0 => { y0 with role := .owner }) (tOn)) with sec.drbgOk := true },
      { { (({ session := 1, lengthOk := true } : ReqHdr)) with tenantAuth := false } with lengthOk := true }, by
      decide⟩,
   ⟨{ { tOn with sec.releaseNonce := some ((1), (1)) } with seq.rowT := ((1) + 60000000000) * 10000 }, 1, 1, by decide⟩,
   ⟨{ { tOn with sec.releaseNonce := some ((1), (1)) } with seq.rowT := ((1) + 60000000000 - 1) * 10000 }, 1, 1, by
      decide⟩,
   ⟨{ tReleases with seq.rowT := 599999999990000 }, { session := 1 }, 0, 9, by decide⟩,
   ⟨tReleases, { session := 1 }, 8, 9, 0, by decide⟩,
   ⟨tOn, { session := 1 }, List.replicate 4 0, { rootHash := 0, certs := 4 }, by decide⟩,
   ⟨{ (updSession ((({ session := 1, lengthOk := true } : ReqHdr)).session) (fun y0 => { y0 with role := .owner }) (tOn)) with sec.certParts := none },
      { { (({ session := 1, lengthOk := true } : ReqHdr)) with tenantAuth := false } with lengthOk := true }, ([] :
      List Nat), ({ rootHash := 0 } : ChainFacts), by decide⟩,
   ⟨{ (updSession ((({ session := 1, lengthOk := true } : ReqHdr)).session) (fun y0 => { y0 with role := .owner }) (tOn)) with sec.certParts := some (({ { (({ session := 1, lengthOk := true } : ReqHdr)) with tenantAuth := false } with lengthOk := true }).session, (([] : List Nat))) },
      { { (({ session := 1, lengthOk := true } : ReqHdr)) with tenantAuth := false } with lengthOk := true }, ([] :
      List Nat), ([] : List Nat),
      { { { { (({ rootHash := 0 } : ChainFacts)) with rootHash := tOn.sec.fuses.ownerKeyHash } with verified := true } with leafKey := true } with certs := 4 },
      by decide⟩⟩

theorem witness_SpdmAnswersAndTelemetryBlocks :
    (∃ (s : State) (i : Nat), coreRuns s = true ∧ (session s i).isOpen = true ∧ (session s i).outbox = []) ∧
    (∃ (s : State) (i : Nat) (a : Bool) (b : Bool), coreRuns s = true ∧ (session s i).isOpen = true ∧ (session s
      i).outbox = []) ∧
    (∃ (s : State) (i : Nat) (o : Nat) (n : Nat) (c : List Nat), coreRuns s = true ∧ (session s i).isOpen = true ∧
      (session s i).outbox = [] ∧ s.sec.slot1 = some c ∧ o ≤ c.length) ∧
    (∃ (s : State) (i : Nat) (o : Nat) (n : Nat) (k : Nat) (nonce : Nat), coreRuns s = true ∧ (session s i).isOpen =
      true ∧ (session s i).outbox = [] ∧ 2 ≤ k) ∧
    (∃ (s : State) (i : Nat) (nonce : Nat), coreRuns s = true ∧ (session s i).isOpen = true ∧ (session s i).outbox =
      []) ∧
    (∃ (s : State) (i : Nat) (nonce : Nat), coreRuns s = true ∧ (session s i).isOpen = true ∧ (session s i).outbox =
      [] ∧ (session s i).attested = none) ∧
    (∃ (s : State) (i : Nat) (nonce : Nat) (t0 : Nat), coreRuns s = true ∧ (session s i).isOpen = true ∧ (session s
      i).outbox = [] ∧ (session s i).attested = some t0 ∧ rowNs s < t0 + 60000000000) ∧
    (∃ (s : State) (i : Nat), (session s i).isOpen = false) ∧
    (∃ (s : State) (i : Nat), coreRuns s = true ∧ (session s i).isOpen = true ∧ spdmWaits s i = true ∧ (session s
      i).outbox.length < 64) ∧
    (∃ (s : State) (i : Nat), coreRuns s = true ∧ (session s i).isOpen = true ∧ spdmWaits s i = false ∧ (session s
      i).outbox ≠ [] ∧ (session s i).outbox.length < 64) ∧
    (∃ (s : State) (i : Nat) (f : Nat), (session s i).lockout = some f ∧ f + 100000 ≤ s.seq.frame) ∧
    (∃ (s : State) (i : Nat) (f : Nat), (session s i).lockout = some f ∧ s.seq.frame < f + 100000) ∧
    (∃ (s : State) (k : Nat) (r : RowBlock), s.sec.due = some (k, [], r) ∧ 10000 * (k + 1) + 100 ≤ s.seq.frame ∧
      s.seq.frame ≤ 10000 * (k + 1) + 5000) ∧
    (∃ (s : State) (b : TenantBlock), b.tenant < s.sec.tenants.length) ∧
    (∃ (s : State) (k : Nat) (ts : List TenantBlock) (r : RowBlock), s.sec.due = some (k, ts, r) ∧ s.seq.frame < 10000
      * (k + 1) + 100) ∧
    (∃ (s : State) (k : Nat) (ts : List TenantBlock) (r : RowBlock), s.sec.due = some (k, ts, r) ∧ s.seq.frame < 10000
      * (k + 1) + 5000) ∧
    (∃ (s : State) (k : Nat) (r : RowBlock), s.sec.due = some (k, [], r) ∧ 10000 * (k + 1) + 5000 ≤ s.seq.frame) ∧
    (∃ (s : State), s.sec.due = none) :=
  ⟨⟨tOn, 7, by decide⟩,
   ⟨tOn, 7, true, false, by decide⟩,
   ⟨{ tOn with sec.slot1 := some [1, 2] }, 1, 2, 1, [1, 2], by decide⟩,
   ⟨tOn, 1, 0, 1, 2, 5, by decide⟩,
   ⟨tOn, 1, 5, by decide⟩,
   ⟨tOn, 1, 5, by decide⟩,
   ⟨{ tOn with seq.rowT := 599999999990000, mgmt.sessions := List.replicate 8 { isOpen := true, role := .owner, attested := some 0 } },
      1, 5, 0, by decide⟩,
   ⟨updSession ((1)) (fun y0 => { y0 with isOpen := false }) (tOn), 1, by decide⟩,
   ⟨{ tOn with mgmt.sessions := List.replicate 8 { isOpen := true, role := .owner, outbox := List.replicate 63 { msgId := 0, answer := some (.spdm 1 1 []) } } },
      1, by decide⟩,
   ⟨{ tOn with mgmt.sessions := List.replicate 8 { isOpen := true, role := .owner, outbox := List.replicate 63 { msgId := 0 } } },
      1, by decide⟩,
   ⟨{ (updSession ((1)) (fun y0 => { y0 with lockout := some (1) }) (tOn)) with seq.frame := (1) + 100000 }, 1, 1, by
      decide⟩,
   ⟨{ (updSession ((1)) (fun y0 => { y0 with lockout := some (1) }) (tOn)) with seq.frame := (1) + 100000 - 1 }, 1, 1,
      by decide⟩,
   ⟨{ { { tOn with sec.due := some ((1), [], (({} : RowBlock))) } with seq.frame := 10000 * ((1) + 1) + 100 } with seq.frame := 10000 * ((1) + 1) + 5000 },
      1, ({} : RowBlock), by decide⟩,
   ⟨tOn, ({} : TenantBlock), by decide⟩,
   ⟨{ tOn with sec.due := some (0, [], {}), seq.frame := 10099 }, 0, [], {}, by decide⟩,
   ⟨{ tOn with sec.due := some (0, [], {}), seq.frame := 14999 }, 0, [], {}, by decide⟩,
   ⟨{ { tOn with sec.due := some ((1), [], (({} : RowBlock))) } with seq.frame := 10000 * ((1) + 1) + 5000 }, 1, ({} :
      RowBlock), by decide⟩,
   ⟨{ tOn with sec.due := none }, by decide⟩⟩

theorem witness_LogWriterMovesRecords :
    (∃ (s : State), coreRuns s = true ∧ s.log.state = .isOpen ∧ s.log.droppedRun = 0 ∧ s.log.ring.length ≤ 131072 ∧
      s.log.nextSeq < 4294967296) ∧
    (∃ (s : State) (e : Event), coreRuns s = true ∧ s.log.state = .isOpen ∧ s.log.queue = [e] ∧ s.log.taken < 16 ∧
      s.log.droppedRun = 0 ∧ isAnnounced e.code = false ∧ s.log.ring.length < 131072) ∧
    (∃ (s : State) (e : Event), coreRuns s = true ∧ s.log.state = .isOpen ∧ s.log.queue = [e] ∧ s.log.taken < 16 ∧
      s.log.droppedRun = 0 ∧ isAnnounced e.code = true ∧ e.lastWords = false) ∧
    (∃ (s : State) (f : Option (Nat × Nat)), 16 ≤ s.log.taken ∧ s.log.droppedRun = 0) ∧
    (∃ (s : State) (f : Option (Nat × Nat)), s.log.state = .opening) ∧
    (∃ (s : State) (f : Option (Nat × Nat)), coreRuns s = false) ∧
    (∃ (l : Log) (e : Event), l.queue.length < 1024) ∧
    (∃ (l : Log) (e : Event), 1024 ≤ l.queue.length) ∧
    (∃ (l : Log) (e : Event), l.lastWords.length = 64) ∧
    (∃ (s : State) (e : Event) (f : Nat), s.log.announce = some (e, f) ∧ f + 10000 ≤ s.seq.frame) ∧
    (∃ (s : State) (e : Event) (f : Nat), s.log.announce = some (e, f) ∧ s.seq.frame < f + 10000) ∧
    (∃ (s : State), s.log.announce = none) :=
  ⟨⟨{ tOn with log := { state := .isOpen, nextSeq := 4294967295 } }, by decide⟩,
   ⟨{ tOn with log.state := .isOpen, log.queue := [{ code := 0x1006 }], log.taken := 15 }, { code := 0x1006 }, by
      decide⟩,
   ⟨{ tOn with log.state := .isOpen, log.queue := [{ code := 0x1030 }], log.taken := 15 }, { code := 0x1030 }, by
      decide⟩,
   ⟨{ tOn with log.taken := 16 }, none, by decide⟩,
   ⟨{ tOn with log.state := .opening }, (none : Option (Nat × Nat)), by decide⟩,
   ⟨{ tOn with pow.powerGood := false }, (none : Option (Nat × Nat)), by decide⟩,
   ⟨{ queue := List.replicate 1023 { code := 1 } }, { code := 1 }, Nat.lt_of_le_of_lt (Nat.le_of_eq
      List.length_replicate) (by omega)⟩,
   ⟨{ queue := List.replicate 1024 { code := 1 } }, { code := 1 }, Nat.le_of_eq List.length_replicate.symm⟩,
   ⟨{ lastWords := List.replicate 64 { code := 1 } }, { code := 1 }, by decide⟩,
   ⟨{ { tOn with log.announce := some ((({ code := 1 } : Event)), (1)) } with seq.frame := (1) + 10000 },
      ({ code := 1 } : Event), 1, by decide⟩,
   ⟨{ { tOn with log.announce := some ((({ code := 1 } : Event)), (1)) } with seq.frame := (1) + 10000 - 1 },
      ({ code := 1 } : Event), 1, by decide⟩,
   ⟨{ tOn with log.announce := none }, by decide⟩⟩

theorem witness_EveryStepKeepsTheLogBounds :
    ∃ (s : State) (t : State), s.logBounded ∧ step s = .next t :=
  ⟨State.reset, State.reset, by decide, rfl⟩

theorem witness_RequestsAcceptedForTheNextBoundary :
    (∃ (s : State) (h : ReqHdr) (m : Nat), accepts s ⟨h, .lowerMax m⟩) ∧
    (∃ (s : State) (h : ReqHdr) (o : Nat) (c : Nat) (m : Nat) (k : Nat), accepts s ⟨h, .setSplit o c m k⟩) ∧
    (∃ (s : State) (h : ReqHdr) (i : Nat), accepts s ⟨h, .bindSite i⟩) ∧
    (∃ (s : State) (h : ReqHdr) (i : Nat), accepts s ⟨h, .unbindSite i⟩) ∧
    (∃ (s : State) (h : ReqHdr) (a : Nat) (b : Nat), accepts s ⟨h, .setQuota a b⟩) ∧
    (∃ (s : State) (h : ReqHdr), accepts s ⟨h, .releaseTenant⟩) ∧
    (∃ (s : State) (h : ReqHdr), accepts s ⟨h, .admitTenant⟩) ∧
    (∃ (s : State) (h : ReqHdr) (i : Nat) (g : Int), accepts s ⟨h, .setLoopSp i g⟩) ∧
    (∃ (s : State) (h : ReqHdr) (f : Nat) (i : Nat), accepts s ⟨h, .clearElement f i⟩) ∧
    (∃ (s : State) (h : ReqHdr) (v : Nat), accepts s ⟨h, .setSprayInhibit v⟩) ∧
    (∃ (s : State) (h : ReqHdr) (c : Nat) (p : Nat), accepts s ⟨h, .setValve c p⟩) ∧
    (∃ (s : State) (h : ReqHdr) (i : Nat) (b : Nat), accepts s ⟨h, .clearValve i b⟩) ∧
    (∃ (s : State) (h : ReqHdr) (l : Nat), accepts s ⟨h, .releaseLoop l⟩) ∧
    (∃ (s : State) (h : ReqHdr), accepts s ⟨h, .rowStop⟩) ∧
    (∃ (s : State) (h : ReqHdr), accepts s ⟨h, .releaseRow⟩) ∧
    (∃ (s : State) (h : ReqHdr) (l : Nat), accepts s ⟨h, .releaseFloor l⟩) ∧
    (∃ (s : State) (h : ReqHdr), accepts s ⟨h, .pairSwap⟩) ∧
    (∃ (s : State) (h : ReqHdr) (v : Nat), accepts s ⟨h, .pairHold v⟩) ∧
    (∃ (s : State) (h : ReqHdr) (i : Nat), accepts s ⟨h, .maintStop i⟩) ∧
    (∃ (s : State) (h : ReqHdr), accepts s ⟨h, .releaseHeld⟩) ∧
    (∃ (s : State) (h : ReqHdr) (g : Nat), accepts s ⟨h, .precisionRun g⟩) ∧
    (∃ (s : State) (h : ReqHdr) (c : Fieldbus) (n : Nat), accepts s ⟨h, .setFieldbus c n⟩) :=
  ⟨⟨tTen, { session := 1, tenantAuth := true, nonce := 1 }, 9, by decide⟩,
   ⟨tTen, { session := 1, tenantAuth := true, nonce := 1 }, 3, 32, 48, 16, by decide⟩,
   ⟨tTen, { session := 1 }, 1, by decide⟩,
   ⟨tTen, { session := 1 }, 0, by decide⟩,
   ⟨tTen, { session := 1 }, 0, 9, by decide⟩,
   ⟨tTen, { session := 1 }, by decide⟩,
   ⟨{ tTen with heat.tenants := [{ state := .released }] }, { session := 1 }, by decide⟩,
   ⟨{ tFac with img.sensors := [{ kind := 1 }] }, { session := 1 }, 511, 12800, by decide⟩,
   ⟨{ tFac with pump.fans := List.replicate 24 { state := .failed } }, { session := 1 }, 1, 23, by decide⟩,
   ⟨tFac, { session := 1 }, 1, by decide⟩,
   ⟨tFac, { session := 1 }, 47, 2, by decide⟩,
   ⟨{ tFac with valve.ch := List.replicate 48 { reason := 2 } }, { session := 1 }, 47, 0, by decide⟩,
   ⟨{ tFac with seq.frame := 600000, leak.loops := List.replicate 24 { iso := .held } }, { session := 1 }, 23, by
      decide⟩,
   ⟨tFac, { session := 1 }, by decide⟩,
   ⟨{ tFac with leak.emergency := true }, { session := 1 }, by decide⟩,
   ⟨{ tFac with caps.floors := List.replicate 64 { held := true } }, { session := 1 }, 63, by decide⟩,
   ⟨{ tFac with pair.role := .control, pair.partnerSeen := true }, { session := 1 }, by decide⟩,
   ⟨tFac, { session := 1 }, 1, by decide⟩,
   ⟨{ tFac with maint.activities := [{ state := .running, id := 9 }] }, { session := 1 }, 9, by decide⟩,
   ⟨{ tFac with pow.state := .held }, { session := 1 }, by decide⟩,
   ⟨{ tFac with pow.ddrOk := true, pow.upperFill := true, pow.domains := List.replicate 126 { state := .on }, eng.graphs := List.replicate 8 { loaded := true, published := true } },
      { session := 1 }, 7, by decide⟩,
   ⟨tFac, { session := 1 }, { device := 4194302, allow := List.replicate 8 (0, 32) }, 8, by decide⟩⟩

theorem witness_RequestsWithTheirOwnTime :
    (∃ (s : State) (h : ReqHdr) (m : Nat), accepts s ⟨h, .setMode m⟩) ∧
    (∃ (s : State) (h : ReqHdr) (x : Nat), accepts s ⟨h, .setLimit 0 0 x⟩) ∧
    (∃ (s : State) (h : ReqHdr) (l : Nat) (x : Nat), accepts s ⟨h, .setLimit 1 l x⟩) ∧
    (∃ (s : State) (h : ReqHdr) (c : SchedReq), accepts s ⟨h, .schedCommit c⟩) ∧
    (∃ (s : State) (c : SchedReq), c.wallKeyed = false) ∧
    (∃ (s : State) (c : SchedReq), c.actionId = 0) ∧
    (∃ (s : State) (c : SchedReq), c.actionId ≠ 0 ∧ c.occurrence < 65536 ∧ payloadCheck s c.kind c.payload = 0 ∧
      c.wallKeyed = true ∧ wallValid s = false) ∧
    (∃ (s : State) (c : SchedReq), c.actionId ≠ 0 ∧ c.occurrence < 65536 ∧ payloadCheck s c.kind c.payload = 0 ∧
      c.wallKeyed = false ∧ lateAllowed c.kind (lateOf c) = true ∧ inHistory s c.actionId c.occurrence = true) ∧
    (∃ (s : State) (h : ReqHdr) (c : Nat) (m : CanMsg), accepts s ⟨h, .canSend c m⟩ ∧ c < s.can.ch.length) ∧
    (∃ (s : State) (h : ReqHdr) (c : Nat) (i : Nat), accepts s ⟨h, .canCancel c i⟩) ∧
    (∃ (s : State) (h : ReqHdr) (l : List (Nat × Nat)), accepts s ⟨h, .releasePages l []⟩) ∧
    (∃ (s : State) (h : ReqHdr) (c : Nat) (d : Nat) (x : Nat) (r : Bool), accepts s ⟨h, .maintStart c d x r⟩ ∧
      s.maint.activities.length = 4) ∧
    (∃ (s : State) (h : ReqHdr) (f : Nat), accepts s ⟨h, .mgmtReset f⟩) ∧
    (∃ (s : State), s.pow.plantControl = true) :=
  ⟨⟨tFac, { session := 1 }, 2, by decide⟩,
   ⟨tFac, { session := 1 }, 65535, by decide⟩,
   ⟨tFac, { session := 1 }, 23, 65535, by decide⟩,
   ⟨tFac, { session := 1 }, { actionId := 1, kind := 1, payload := 2 }, by decide⟩,
   ⟨tOn, { (({ actionId := 1 } : SchedReq)) with wallKeyed := false }, by decide⟩,
   ⟨tOn, { (({ actionId := 1 } : SchedReq)) with actionId := 0 }, by decide⟩,
   ⟨{ tFac with wall.epoch := 0 }, { actionId := 1, kind := 1, payload := 2, wallKeyed := true }, by decide⟩,
   ⟨{ tFac with sched.history := [⟨1, 65535, 0, 0⟩] },
      { actionId := 1, occurrence := 65535, kind := 1, payload := 2 }, by decide⟩,
   ⟨tFac, { session := 1 }, 11, { canId := 3 }, by decide⟩,
   ⟨{ tFac with can.ch := List.replicate 12 { state := .normal, slots := [{ state := .waiting, sendId := 5 }] } },
      { session := 1 }, 11, 5, by decide⟩,
   ⟨tTen, { session := 1, tenantAuth := true, nonce := 1 }, [(0, 0)], by decide⟩,
   ⟨{ tFac with img.topology := { loops := [], primary := .dryCooler }, img.limits.waterDaily := 1 },
      { session := 1 }, 8, 0, 0, true, by decide⟩,
   ⟨tOn, ({ session := 1, lengthOk := true } : ReqHdr), 1, by decide⟩,
   ⟨{ tOn with pow.plantControl := true }, by decide⟩⟩

theorem witness_RequestsRefusedInOrder :
    (∃ (s : State) (q : Request), arrivesNow s q.hdr.session ∧ mayRequest (session s q.hdr.session).role q.hdr q.body
      = false ∧ q.body ≠ .releaseHeld) ∧
    (∃ (s : State) (q : Request), arrivesNow s q.hdr.session ∧ mayRequest (session s q.hdr.session).role q.hdr q.body
      = true ∧ (tenantKeyed q.body = true ∨ facilityKind q.body = true ∧ servedByStandby q.body = false) ∧
      s.pow.plantControl = false) ∧
    (∃ (s : State) (q : Request), arrivesNow s q.hdr.session ∧ tenantKeyed q.body = true ∧ mayRequest (session s
      q.hdr.session).role q.hdr q.body = true ∧ s.pow.plantControl = true ∧ (session s q.hdr.session).lockout ≠ none) ∧
    (∃ (s : State) (q : Request), arrivesNow s q.hdr.session ∧ tenantKeyed q.body = true ∧ mayRequest (session s
      q.hdr.session).role q.hdr q.body = true ∧ s.pow.plantControl = true ∧ (session s q.hdr.session).lockout = none ∧
      (256 ≤ q.hdr.tenant ∨ (tenantCfg s q.hdr.tenant).present = false)) ∧
    (∃ (s : State) (q : Request), arrivesNow s q.hdr.session ∧ tenantKeyed q.body = true ∧ mayRequest (session s
      q.hdr.session).role q.hdr q.body = true ∧ s.pow.plantControl = true ∧ (session s q.hdr.session).lockout = none ∧
      q.hdr.tenant < 256 ∧ (tenantCfg s q.hdr.tenant).present = true ∧ q.hdr.tgen ≠ (tenantSt s q.hdr.tenant).gen) ∧
    (∃ (s : State) (q : Request), arrivesNow s q.hdr.session ∧ tenantKeyed q.body = true ∧ mayRequest (session s
      q.hdr.session).role q.hdr q.body = true ∧ s.pow.plantControl = true ∧ (session s q.hdr.session).lockout = none ∧
      q.hdr.tenant < 256 ∧ (tenantCfg s q.hdr.tenant).present = true ∧ q.hdr.tgen = (tenantSt s q.hdr.tenant).gen ∧
      q.hdr.tagOk = false) ∧
    (∃ (s : State) (q : Request), arrivesNow s q.hdr.session ∧ tenantKeyed q.body = true ∧ mayRequest (session s
      q.hdr.session).role q.hdr q.body = true ∧ s.pow.plantControl = true ∧ (session s q.hdr.session).lockout = none ∧
      q.hdr.tenant < 256 ∧ (tenantCfg s q.hdr.tenant).present = true ∧ q.hdr.tgen = (tenantSt s q.hdr.tenant).gen ∧
      q.hdr.tagOk = true ∧ wallValid s = false) ∧
    (∃ (s : State) (q : Request), arrivesNow s q.hdr.session ∧ tenantKeyed q.body = true ∧ mayRequest (session s
      q.hdr.session).role q.hdr q.body = true ∧ s.pow.plantControl = true ∧ (session s q.hdr.session).lockout = none ∧
      q.hdr.tenant < 256 ∧ (tenantCfg s q.hdr.tenant).present = true ∧ q.hdr.tgen = (tenantSt s q.hdr.tenant).gen ∧
      q.hdr.tagOk = true ∧ wallValid s = true ∧ issuedInTime s q.hdr = false) ∧
    (∃ (s : State) (q : Request), arrivesNow s q.hdr.session ∧ tenantKeyed q.body = true ∧ mayRequest (session s
      q.hdr.session).role q.hdr q.body = true ∧ s.pow.plantControl = true ∧ (session s q.hdr.session).lockout = none ∧
      q.hdr.tenant < 256 ∧ (tenantCfg s q.hdr.tenant).present = true ∧ q.hdr.tgen = (tenantSt s q.hdr.tenant).gen ∧
      q.hdr.tagOk = true ∧ wallValid s = true ∧ issuedInTime s q.hdr = true ∧ q.hdr.nonce ≤ (tenantSec s
      q.hdr.tenant).lastNonce) ∧
    (∃ (s : State) (q : Request), arrivesNow s q.hdr.session ∧ headerPasses s q.hdr q.body ∧ ownCheck s q.hdr q.body ≠
      0) ∧
    (∃ (s : State) (q : Request), coreRuns s = true ∧ (session s q.hdr.session).isOpen = true ∧ (s.mgmt.guardDone =
      true ∨ 256 ≤ s.mgmt.taken) ∧ (session s q.hdr.session).outbox.length < 64) ∧
    (∃ (s : State) (q : Request), (session s q.hdr.session).isOpen = false) ∧
    (∃ (s : State) (h : ReqHdr), wallNow s - (h.issued : Int) = 1000000000) ∧
    (∃ (s : State) (h : ReqHdr), wallNow s - (h.issued : Int) = 1000000001) ∧
    (∃ (s : State) (h : ReqHdr), wallNow s - (h.issued : Int) = -100000000) ∧
    (∃ (s : State) (h : ReqHdr), wallNow s - (h.issued : Int) = -100000001) ∧
    (∃ (s : State) (q : Request), coreRuns s = true ∧ (session s q.hdr.session).isOpen = true ∧ 64 ≤ (session s
      q.hdr.session).outbox.length) :=
  ⟨⟨{ tOn with mgmt.sessions := List.replicate 8 { isOpen := true, role := .observer } }, ⟨{ session := 1 },
      .rowStop⟩, by decide⟩,
   ⟨{ tOn with pow.plantControl := false }, (⟨{ session := 1 }, .rowStop⟩ : Request), by decide⟩,
   ⟨{ tOn with mgmt.sessions := List.replicate 8 { isOpen := true, role := .owner, lockout := some 0 } },
      ⟨{ session := 1, tenantAuth := true }, .lowerMax 1⟩, by decide⟩,
   ⟨tOn, ⟨{ session := 1, tenantAuth := true, tenant := 256 }, .lowerMax 1⟩, by decide⟩,
   ⟨tTen, ⟨{ session := 1, tenantAuth := true, tgen := 1 }, .lowerMax 1⟩, by decide⟩,
   ⟨tTen, ⟨{ session := 1, tenantAuth := true, tagOk := false }, .lowerMax 1⟩, by decide⟩,
   ⟨{ tTen with wall.epoch := 0 }, ⟨{ session := 1, tenantAuth := true }, .lowerMax 1⟩, by decide⟩,
   ⟨{ tTen with wall.offset := 2000000000 }, ⟨{ session := 1, tenantAuth := true, issued := 999999999 }, .lowerMax 1⟩,
      by decide⟩,
   ⟨tTen, ⟨{ session := 1, tenantAuth := true, nonce := 0 }, .lowerMax 1⟩, by decide⟩,
   ⟨tFac, ⟨{ session := 1 }, .setMode 3⟩, by decide⟩,
   ⟨{ tOn with mgmt.guardDone := true, mgmt.sessions := List.replicate 8 { isOpen := true, role := .owner, outbox := List.replicate 63 { msgId := 0 } } },
      ⟨{ session := 1 }, .rowStop⟩, by decide⟩,
   ⟨updSession (((⟨{ session := 1 }, .rowStop⟩ : Request)).hdr.session) (fun y0 => { y0 with isOpen := false }) (tOn),
      (⟨{ session := 1 }, .rowStop⟩ : Request), by decide⟩,
   ⟨{ tOn with wall.offset := 2000000000 }, { session := 0, issued := 1000000000 }, by decide⟩,
   ⟨{ tOn with wall.offset := 2000000000 }, { session := 0, issued := 999999999 }, by decide⟩,
   ⟨{ tOn with wall.offset := 2000000000 }, { session := 0, issued := 2100000000 }, by decide⟩,
   ⟨{ tOn with wall.offset := 2000000000 }, { session := 0, issued := 2100000001 }, by decide⟩,
   ⟨{ tOn with mgmt.sessions := List.replicate 8 { isOpen := true, role := .owner, outbox := List.replicate 64 { msgId := 0 } } },
      ⟨{ session := 1 }, .rowStop⟩, by decide⟩⟩

theorem witness_AcceptedRequestsTakeEffect :
    (∃ (s : State) (q : Request) (r : Request), s.mgmt.committed = [q, r]) ∧
    (∃ (s : State) (h : ReqHdr) (m : Nat), h.tenant < s.heat.tenants.length ∧ lowerMaxCheck s h.tenant m = 0) ∧
    (∃ (s : State) (h : ReqHdr) (m : Nat), h.tenant < s.heat.tenants.length ∧ lowerMaxCheck s h.tenant m ≠ 0) ∧
    (∃ (s : State) (h : ReqHdr) (a : Nat) (b : Nat), h.tenant < s.heat.tenants.length ∧ quotaCheck s h.tenant a b = 0) ∧
    (∃ (s : State) (h : ReqHdr) (o : Nat) (c : Nat) (m : Nat) (k : Nat), h.tenant < s.heat.tenants.length ∧ splitCheck
      s h.tenant o c m k = 0) ∧
    (∃ (s : State) (h : ReqHdr) (i : Nat), i < s.heat.sites.length ∧ bindCheck s i h.tenant = 0) ∧
    (∃ (s : State) (h : ReqHdr) (i : Nat), i < s.heat.sites.length ∧ (siteP s i).tenant ≠ none) ∧
    (∃ (s : State) (h : ReqHdr) (i : Nat), i < s.heat.sites.length ∧ unbindCheck s i h.tenant = 0) ∧
    (∃ (s : State) (h : ReqHdr), h.tenant < s.heat.tenants.length ∧ releaseTenantCheck s h.tenant = 0) ∧
    (∃ (s : State) (h : ReqHdr), h.tenant < s.heat.tenants.length ∧ releaseTenantCheck s h.tenant = 0 ∧ h.tenant <
      s.sec.tenants.length) ∧
    (∃ (s : State) (h : ReqHdr), h.tenant < s.heat.tenants.length ∧ h.tenant < 256 ∧ (tenantSt s h.tenant).state =
      .released) ∧
    (∃ (s : State) (h : ReqHdr), h.tenant < s.heat.tenants.length ∧ h.tenant < 256 ∧ (tenantSt s h.tenant).state =
      .quarantine) ∧
    (∃ (s : State) (h : ReqHdr) (c : Nat), c < s.valve.ch.length) ∧
    (∃ (s : State) (h : ReqHdr) (l : Nat), releaseConditions s l = false) ∧
    (∃ (s : State) (h : ReqHdr) (l : Nat), releaseConditions s l = true ∧ l < s.leak.loops.length) ∧
    (∃ (s : State) (h : ReqHdr), releaseRowCheck s = 0) ∧
    (∃ (s : State) (h : ReqHdr), (s.leak.rowSensor = true ∨ s.leak.manyLoops = true ∨ s.leak.emergency = false)) ∧
    (∃ (s : State) (h : ReqHdr) (l : Nat), l < s.caps.floors.length ∧ (floorLine s l).held = true) ∧
    (∃ (s : State) (h : ReqHdr), s.pair.role = .control ∧ s.pair.partnerSeen = true) ∧
    (∃ (s : State) (h : ReqHdr) (c : Fieldbus) (n : Nat), c ≠ s.mgmt.fieldbus) ∧
    (∃ (s : State) (h : ReqHdr) (l : List (Nat × Nat)) (first : List Nat) (rs : List Nat), rs = pageResults s h.tenant
      l first ∧ (session s h.session).outbox = [{ msgId := h.msgId }]) ∧
    (∃ (s : State) (h : ReqHdr) (c : Nat) (i : Nat), (session s h.session).outbox = [{ msgId := h.msgId }] ∧
      canCancelCheck s c i = 0) ∧
    (∃ (s : State) (h : ReqHdr) (c : Nat) (i : Nat), (session s h.session).outbox = [{ msgId := h.msgId }] ∧
      canCancelCheck s c i ≠ 0) :=
  ⟨⟨{ tOn with mgmt.committed := [((⟨{ session := 1 }, .rowStop⟩ : Request)), ((⟨{ session := 1 }, .rowStop⟩ : Request))] },
      (⟨{ session := 1 }, .rowStop⟩ : Request), (⟨{ session := 1 }, .rowStop⟩ : Request), by decide⟩,
   ⟨tTen, { session := 1 }, 9, by decide⟩,
   ⟨tTen, { session := 1 }, 10, by decide⟩,
   ⟨tTen, { session := 1 }, 0, 9, by decide⟩,
   ⟨tTen, { session := 1 }, 0, 32, 48, 16, by decide⟩,
   ⟨tTen, { session := 1 }, 1, by decide⟩,
   ⟨updSiteP ((1)) (fun y0 => { y0 with tenant := some 0 }) (tOn), ({ session := 1, lengthOk := true } : ReqHdr), 1,
      by decide⟩,
   ⟨tTen, { session := 1 }, 0, by decide⟩,
   ⟨tTen, { session := 1 }, by decide⟩,
   ⟨tTen, { session := 1 }, by decide⟩,
   ⟨{ tOn with heat.tenants := List.replicate 256 { state := .released } }, { session := 1, tenant := 255 }, by decide⟩,
   ⟨{ tOn with heat.tenants := List.replicate 256 { state := .quarantine } }, { session := 1, tenant := 255 }, by
      decide⟩,
   ⟨tOn, ({ session := 1, lengthOk := true } : ReqHdr), 1, by decide⟩,
   ⟨tOn, ({ session := 1, lengthOk := true } : ReqHdr), 1, by decide⟩,
   ⟨{ tOn with seq.frame := 600000, leak.loops := [{ iso := .held }] }, { session := 1 }, 0, by decide⟩,
   ⟨{ tOn with leak.emergency := true }, { session := 1 }, by decide⟩,
   ⟨{ tOn with leak.rowSensor := true }, ({ session := 1, lengthOk := true } : ReqHdr), by decide⟩,
   ⟨updFloor ((1)) (fun y0 => { y0 with held := true }) (tOn), ({ session := 1, lengthOk := true } : ReqHdr), 1, by
      decide⟩,
   ⟨{ { tOn with pair.role := .control } with pair.partnerSeen := true }, ({ session := 1, lengthOk := true } :
      ReqHdr), by decide⟩,
   ⟨tOn, { session := 1 }, { modbusEn := true }, 0, by decide⟩,
   ⟨{ tOn with mgmt.sessions := List.replicate 8 { isOpen := true, role := .owner, outbox := [{ msgId := 3 }] } },
      { session := 1, msgId := 3 }, [], [], [], by decide⟩,
   ⟨{ tOn with can.ch := [{ slots := [{ state := .waiting, sendId := 9 }] }], mgmt.sessions := List.replicate 8 { isOpen := true, role := .owner, outbox := [{ msgId := 3 }] } },
      { session := 1, msgId := 3 }, 0, 9, by decide⟩,
   ⟨{ tOn with mgmt.sessions := List.replicate 8 { isOpen := true, role := .owner, outbox := [{ msgId := 3 }] } },
      { session := 1, msgId := 3 }, 12, 9, by decide⟩⟩

theorem witness_ImageUpdateErasesWritesAndVerifies :
    (∃ (s : State) (h : ReqHdr) (n : Nat) (c : Copy) (answers : Bool), accepts (if answers then keyRestored s else s)
      ⟨h, .imageBegin n⟩ ∧ s.key.selected = some c) ∧
    (∃ (s : State) (u : ImageUpdate), s.mgmt.update = some u ∧ u.erasing = true ∧ (session s u.session).outbox =
      [{ msgId := u.msgId }]) ∧
    (∃ (s : State), s.mgmt.update = none) ∧
    (∃ (s : State) (h : ReqHdr) (u : ImageUpdate) (c : Copy) (o : Nat) (bs : List Byte), arrivesNow s h.session ∧
      (session s h.session).role = .owner ∧ h.tenantAuth = false ∧ h.lengthOk = true ∧ s.mgmt.update = some u ∧
      u.session = h.session ∧ u.erasing = false ∧ s.key.selected = some c ∧ bs ≠ [] ∧ bs.length ≤ 4000 ∧ o = u.next ∧
      o + bs.length ≤ u.length) ∧
    (∃ (s : State) (h : ReqHdr) (u : ImageUpdate) (c : Copy) (o : Nat) (bs : List Byte), arrivesNow s h.session ∧
      (session s h.session).role = .owner ∧ h.tenantAuth = false ∧ h.lengthOk = true ∧ s.mgmt.update = some u ∧
      u.session = h.session ∧ u.erasing = false ∧ s.key.selected = some c ∧ o ≠ u.next) ∧
    (∃ (s : State) (h : ReqHdr) (u : ImageUpdate) (c : Copy) (f : CopyFacts), arrivesNow s h.session ∧ (session s
      h.session).role = .owner ∧ h.tenantAuth = false ∧ h.lengthOk = true ∧ s.mgmt.update = some u ∧ u.session =
      h.session ∧ u.erasing = false ∧ s.key.selected = some c) ∧
    (∃ (s : State) (u : ImageUpdate), s.mgmt.update = some u ∧ u.erasing = false ∧ u.lastNs + 60000000000 ≤ rowNs s) ∧
    (∃ (s : State) (u : ImageUpdate), s.mgmt.update = some u ∧ (u.erasing = true ∨ rowNs s < u.lastNs + 60000000000)) ∧
    (∃ (s : State) (n : Nat), (n < 256 ∨ 67108864 < n)) ∧
    (∃ (s : State) (n : Nat), 256 ≤ n ∧ n ≤ 67108864 ∧ s.mgmt.update ≠ none) :=
  ⟨⟨{ tFac with key.selected := some .a, key.lost := true }, { session := 1 }, 67108864, .a, true, by decide⟩,
   ⟨{ tOn with mgmt.update := some { session := 1, msgId := 3, length := 256 }, mgmt.sessions := List.replicate 8 { isOpen := true, role := .owner, outbox := [{ msgId := 3 }] } },
      { session := 1, msgId := 3, length := 256 }, by decide⟩,
   ⟨{ tOn with mgmt.update := none }, by decide⟩,
   ⟨{ tOn with key.selected := some .a, mgmt.update := some { session := 1, msgId := 0, length := 256, erasing := false } },
      { session := 1 }, { session := 1, msgId := 0, length := 256, erasing := false }, .a, 0, [7], by decide⟩,
   ⟨{ tOn with key.selected := some .a, mgmt.update := some { session := 1, msgId := 0, length := 256, erasing := false } },
      { session := 1 }, { session := 1, msgId := 0, length := 256, erasing := false }, .a, 1, [7], by decide⟩,
   ⟨{ tOn with key.selected := some .a, mgmt.update := some { session := 1, msgId := 0, length := 256, erasing := false } },
      { session := 1 }, { session := 1, msgId := 0, length := 256, erasing := false }, .a, {}, by decide⟩,
   ⟨{ tOn with seq.rowT := 600000000000000, mgmt.update := some { session := 1, msgId := 0, length := 256, erasing := false } },
      { session := 1, msgId := 0, length := 256, erasing := false }, by decide⟩,
   ⟨{ tOn with mgmt.update := some (({ session := 1, msgId := 0, length := 256 } : ImageUpdate)) },
      { (({ session := 1, msgId := 0, length := 256 } : ImageUpdate)) with erasing := true }, by decide⟩,
   ⟨tOn, 255, by decide⟩,
   ⟨{ tOn with mgmt.update := some { session := 1, msgId := 3, length := 256 } }, 256, by decide⟩⟩

theorem witness_MaintenanceActivitiesEnd :
    (∃ (s : State) (i : Nat) (st : ActState) (c : Nat), i < s.maint.activities.length ∧ (activity s i).state =
      .running) ∧
    (∃ (s : State) (i : Nat), (activity s i).state ≠ .running) ∧
    (∃ (s : State) (i : Nat), i < s.maint.activities.length ∧ (activity s i).state = .running ∧ (activity s
      i).durationS * 10000 ≤ s.seq.frame - (activity s i).startFrame ∧ (activity s i).code ≠ 7) ∧
    (∃ (s : State) (i : Nat), i < s.maint.activities.length ∧ (activity s i).state = .running ∧ (activity s i).code =
      7 ∧ flushOver s (activity s i) = true) ∧
    (∃ (s : State) (i : Nat), (activity s i).state ∈ [.complete, .pass, .fail, .stopped, .aborted] ∧ (activity s
      i).endFrame + 100000 ≤ s.seq.frame ∧ i < s.maint.activities.length) ∧
    (∃ (s : State) (i : Nat), s.seq.frame < (activity s i).endFrame + 100000) ∧
    (∃ (s : State) (i : Nat), i < s.maint.activities.length ∧ (activity s i).state = .running ∧ (activity s i).code =
      2 ∧ (activity s i).stroke = .toFloor ∧ (loopP s ((activity s i).target % 32)).capSum ≤ (loopP s ((activity s
      i).target % 32)).floorSum ∧ (loopCfg s ((activity s i).target % 32)).supplyValve < s.valve.ch.length) ∧
    (∃ (s : State) (i : Nat), (loopP s ((activity s i).target % 32)).floorSum < (loopP s ((activity s i).target %
      32)).capSum) ∧
    (∃ (s : State) (i : Nat) (v : Int), i < s.maint.activities.length ∧ (activity s i).state = .running ∧ (activity s
      i).code = 2 ∧ (activity s i).stepFrame < s.seq.frame ∧ (activity s i).stroke = .returnOpening ∧ sensorValue s
      (loopCfg s ((activity s i).target % 32)).flow = some v ∧ (activity s i).flowMean ≤ 2 * v) ∧
    (∃ (s : State) (i : Nat) (v : Int), i < s.maint.activities.length ∧ (activity s i).state = .running ∧ (activity s
      i).code = 2 ∧ (activity s i).stepFrame < s.seq.frame ∧ (activity s i).stroke = .supplyOpening ∧ sensorValue s
      (loopCfg s ((activity s i).target % 32)).flow = some v ∧ (activity s i).flowMean ≤ 2 * v) ∧
    (∃ (s : State) (i : Nat) (v : Int), i < s.maint.activities.length ∧ (activity s i).state = .running ∧ (activity s
      i).code = 2 ∧ (activity s i).stroke = .supplyOpening ∧ sensorValue s (loopCfg s ((activity s i).target %
      32)).flow = some v ∧ 2 * v < (activity s i).flowMean ∧ (activity s i).stepFrame + 100001 ≤ s.seq.frame) ∧
    (∃ (s : State) (i : Nat) (v : Int), i < s.maint.activities.length ∧ (activity s i).state = .running ∧ (activity s
      i).code = 2 ∧ (activity s i).stroke = .supplyOpening ∧ sensorValue s (loopCfg s ((activity s i).target %
      32)).flow = some v ∧ 2 * v < (activity s i).flowMean ∧ s.seq.frame < (activity s i).stepFrame + 100001) ∧
    (∃ (s : State) (i : Nat), i < s.maint.activities.length ∧ (activity s i).state = .running ∧ (activity s i).code =
      2 ∧ (activity s i).stroke = .toFloor ∧ 20000 ≤ s.seq.frame - (activity s i).startFrame) ∧
    (∃ (s : State) (i : Nat), i < s.maint.activities.length ∧ (activity s i).state = .running ∧ (activity s i).code =
      2 ∧ (activity s i).stroke = .toFloor ∧ s.seq.frame - (activity s i).startFrame < 20000) ∧
    (∃ (s : State) (i : Nat), i < s.maint.activities.length ∧ (activity s i).state = .running ∧ (activity s i).code =
      4 ∧ (activity s i).samples.length = 10000 ∧ (activity s i).samples.sum ≤ 20000 * ((activity s i).target / 2 ^ 11
      % 65536 : Nat)) ∧
    (∃ (s : State) (i : Nat), i < s.maint.activities.length ∧ (activity s i).state = .running ∧ (activity s i).code =
      4 ∧ (activity s i).samples.length = 10000 ∧ 20000 * ((activity s i).target / 2 ^ 11 % 65536 : Nat) < (activity s
      i).samples.sum) ∧
    (∃ (s : State) (i : Nat) (x : Nat), i < s.maint.activities.length ∧ (activity s i).state = .running ∧ (activity s
      i).code = 3 ∧ 96 ≤ (activity s i).target % 256 ∧ s.seq.frame - (activity s i).startFrame ≤ 20000) ∧
    (∃ (s : State) (i : Nat) (x : Nat), i < s.maint.activities.length ∧ (activity s i).state = .running ∧ (activity s
      i).code = 3) ∧
    (∃ (s : State) (i : Nat) (b : Nat) (v : Bool), i < s.maint.activities.length ∧ (activity s i).state = .running ∧
      (activity s i).code = 8) ∧
    (∃ (s : State) (w : Nat), w < s.maint.windows.length ∧ (s.maint.windows.getD w {}).isOpen = true ∧
      (s.maint.windows.getD w {}).openFrame + 864000000 ≤ s.seq.frame) ∧
    (∃ (s : State) (w : Nat), s.seq.frame < (s.maint.windows.getD w {}).openFrame + 864000000) :=
  ⟨⟨updActivity ((1)) (fun y0 => { y0 with state := .running }) (tOn), 1, (.pass : ActState), 1, by decide⟩,
   ⟨tOn, 1, by decide⟩,
   ⟨{ tOn with seq.frame := 10000, maint.activities := List.replicate 4 { state := .running, code := 1, durationS := 1 } },
      3, by decide⟩,
   ⟨{ tOn with maint.activities := List.replicate 4 { state := .running, code := 7 } }, 3, by decide⟩,
   ⟨{ tOn with seq.frame := 100000, maint.activities := List.replicate 4 { state := .pass } }, 3, by decide⟩,
   ⟨{ tOn with seq.frame := (activity tOn (1)).endFrame + 100000 - 1 }, 1, by decide⟩,
   ⟨updLoopP (((activity tOn (1)).target % 32)) (fun y0 =>
      { y0 with floorSum := (loopP tOn ((activity tOn (1)).target % 32)).capSum }) (updActivity ((1)) (fun y0 =>
      { y0 with stroke := .toFloor }) (updActivity ((1)) (fun y0 => { y0 with code := 2 }) (updActivity ((1)) (fun y0
      => { y0 with state := .running }) (tOn)))), 1, by decide⟩,
   ⟨updLoopP (((activity tOn (1)).target % 32)) (fun y0 =>
      { y0 with capSum := (loopP tOn ((activity tOn (1)).target % 32)).floorSum + 1 }) (tOn), 1, by decide⟩,
   ⟨{ tOn with seq.frame := 1, plant.sensors := [{ valid := true, value := 9 }], maint.activities := List.replicate 4 { state := .running, code := 2, stroke := .returnOpening, flowMean := 18 } },
      3, 9, by decide⟩,
   ⟨{ tOn with seq.frame := 1, plant.sensors := [{ valid := true, value := 9 }], maint.activities := List.replicate 4 { state := .running, code := 2, stroke := .supplyOpening, flowMean := 18 } },
      3, 9, by decide⟩,
   ⟨{ tOn with seq.frame := 100001, plant.sensors := [{ valid := true, value := 9 }], maint.activities := List.replicate 4 { state := .running, code := 2, stroke := .supplyOpening, flowMean := 19 } },
      3, 9, by decide⟩,
   ⟨{ tOn with seq.frame := 100000, plant.sensors := [{ valid := true, value := 9 }], maint.activities := List.replicate 4 { state := .running, code := 2, stroke := .supplyOpening, flowMean := 19 } },
      3, 9, by decide⟩,
   ⟨{ tOn with seq.frame := 20000, maint.activities := List.replicate 4 { state := .running, code := 2, stroke := .toFloor } },
      3, by decide⟩,
   ⟨{ tOn with seq.frame := 19999, maint.activities := List.replicate 4 { state := .running, code := 2, stroke := .toFloor } },
      3, by decide⟩,
   ⟨{ tOn with maint.activities := List.replicate 4 { state := .running, code := 4, target := 7 * 2 ^ 11, samples := List.replicate 10000 14 } },
      3, by decide, rfl, rfl,
      by show (List.replicate 10000 (14 : Int)).length = 10000; simp only [List.length_replicate],
      by show (List.replicate 10000 (14 : Int)).sum ≤ 20000 * ((7 : Nat) : Int); rw [List.sum_replicate_int]; decide⟩,
   ⟨{ tOn with maint.activities := List.replicate 4 { state := .running, code := 4, target := 7 * 2 ^ 11, samples := List.replicate 10000 15 } },
      3, by decide, rfl, rfl,
      by show (List.replicate 10000 (15 : Int)).length = 10000; simp only [List.length_replicate],
      by show 20000 * ((7 : Nat) : Int) < (List.replicate 10000 (15 : Int)).sum; rw [List.sum_replicate_int]; decide⟩,
   ⟨{ tOn with seq.frame := 20000, maint.activities := [{ state := .running, code := 3, target := 103 }] }, 0, 0, by
      decide⟩,
   ⟨updActivity ((1)) (fun y0 => { y0 with code := 3 }) (updActivity ((1)) (fun y0 => { y0 with state := .running })
      (tOn)), 1, 1, by decide⟩,
   ⟨updActivity ((1)) (fun y0 => { y0 with code := 8 }) (updActivity ((1)) (fun y0 => { y0 with state := .running })
      (tOn)), 1, 1, true, by decide⟩,
   ⟨{ tOn with seq.frame := 864000000, maint.windows := List.replicate 8 { isOpen := true } }, 7, by decide⟩,
   ⟨{ tOn with seq.frame := (tOn.maint.windows.getD (1) {}).openFrame + 864000000 - 1 }, 1, by decide⟩⟩

theorem witness_PortsAndSessions :
    (∃ (s : State) (p : Nat), p < 2 ∧ p < s.mgmt.ports.length ∧ coreRuns s = true ∧ domainOn s (118 + p) = true ∧
      (ethPort s p).linkUp = false) ∧
    (∃ (s : State) (p : Nat), ((ethPort s p).linkUp = true ∨ domainOn s (118 + p) = false)) ∧
    (∃ (s : State) (p : Nat), p < s.mgmt.ports.length ∧ s.mgmt.sessions.length = 8 ∧ (ethPort s p).linkUp = true) ∧
    (∃ (s : State) (p : Nat), (ethPort s p).linkUp = false) ∧
    (∃ (s : State) (p : Nat) (a : Nat) (n : Nat), p < s.mgmt.ports.length ∧ coreRuns s = true ∧ (ethPort s p).linkUp =
      true) ∧
    (∃ (s : State) (p : Nat) (a : Nat), p < s.mgmt.ports.length ∧ coreRuns s = true ∧ (ethPort s p).linkUp = true ∧
      (ethPort s p).addressed = false ∧ (ethPort s p).upNs + 10000000000 ≤ rowNs s ∧ linkLocalAddress a = true) ∧
    (∃ (s : State) (p : Nat) (a : Nat), (ethPort s p).addressed = true) ∧
    (∃ (s : State) (p : Nat), p < s.mgmt.ports.length ∧ coreRuns s = true ∧ (ethPort s p).linkUp = true ∧ (ethPort s
      p).linkLocal = true ∧ (ethPort s p).askNs + 60000000000 ≤ rowNs s) ∧
    (∃ (s : State) (p : Nat), rowNs s < (ethPort s p).askNs + 60000000000) ∧
    (∃ (s : State) (p : Nat) (n : Nat) (g : Nat), p < s.mgmt.ports.length) ∧
    (∃ (s : State) (f : ClientFacts) (i : Nat) (u : Nat) (r : SessRole), coreRuns s = true ∧ (ethPort s f.port).linkUp
      = true ∧ (ethPort s f.port).addressed = true ∧ s.mgmt.sessions.findIdx? (fun x => !x.isOpen) = some i ∧
      s.sec.drbgOk = true ∧ f.tlsOk = true ∧ lifeCycle s = .enrolled ∧ f.hasCert = true ∧ f.certs ≤ 4 ∧ f.chainBytes ≤
      8192 ∧ f.rootHash = s.sec.fuses.ownerKeyHash ∧ f.signaturesOk = true ∧ wallValid s = true ∧ f.inValidity = true
      ∧ f.units = [u] ∧ unitRole u = some r) ∧
    (∃ (s : State) (f : ClientFacts), coreRuns s = true ∧ (ethPort s f.port).linkUp = true ∧ (ethPort s
      f.port).addressed = true ∧ (∀ x ∈ s.mgmt.sessions, x.isOpen = true)) ∧
    (∃ (s : State) (f : ClientFacts) (i : Nat), coreRuns s = true ∧ (ethPort s f.port).linkUp = true ∧ (ethPort s
      f.port).addressed = true ∧ s.mgmt.sessions.findIdx? (fun x => !x.isOpen) = some i ∧ s.sec.drbgOk = true ∧
      f.tlsOk = true ∧ lifeCycle s = .enrolled ∧ f.rootHash ≠ s.sec.fuses.ownerKeyHash) ∧
    (∃ (s : State) (i : Nat), (session s i).isOpen = true ∧ s.mgmt.update = none ∧ s.sec.certParts = none ∧ (session s
      i).lastNs + 60000000000 ≤ rowNs s) ∧
    (∃ (s : State) (i : Nat), rowNs s < (session s i).lastNs + 60000000000) ∧
    (∃ (s : State) (i : Nat), (session s i).isOpen = true) ∧
    (∃ (s : State) (i : Nat), (session s i).isOpen = false) ∧
    (∃ (s : State) (i : Nat) (m : Nat), coreRuns s = true ∧ (session s i).isOpen = true ∧ (session s i).outbox = []) ∧
    (∃ (s : State) (i : Nat), coreRuns s = true ∧ (session s i).isOpen = true ∧ (2 ^ 30 ≤ (session s i).bytesIn ∨ 2 ^
      30 ≤ (session s i).bytesOut)) ∧
    (∃ (s : State) (i : Nat), (session s i).bytesIn < 2 ^ 30 ∧ (session s i).bytesOut < 2 ^ 30 ∧ rowNs s < (session s
      i).keyNs + 3600000000000) :=
  ⟨⟨updEth ((2 - 1)) (fun y0 => { y0 with linkUp := false }) ((fun (w : State) =>
      { w with pow.domains := upd (w.pow.domains ++ List.replicate ((118 + (2 - 1)) + 1 - (w.pow.domains).length) {}) ((118 + (2 - 1))) (fun y0 => { y0 with state := .on }) })
      ({ tOn with pow.powerGood := true })), 2 - 1, by decide⟩,
   ⟨updEth ((1)) (fun y0 => { y0 with linkUp := true }) (tOn), 1, by decide⟩,
   ⟨updEth ((1)) (fun y0 => { y0 with linkUp := true }) ({ tOn with mgmt.sessions := List.replicate (8) {} }), 1, by
      decide⟩,
   ⟨updEth ((1)) (fun y0 => { y0 with linkUp := false }) (tOn), 1, by decide⟩,
   ⟨updEth ((1)) (fun y0 => { y0 with linkUp := true }) ({ tOn with pow.powerGood := true }), 1, 1, 1, by decide⟩,
   ⟨{ tOn with seq.rowT := 100000000000000, mgmt.ports := [{ linkUp := true }, { linkUp := true }] }, 1, 0xA9FEFEFF,
      by decide⟩,
   ⟨updEth ((1)) (fun y0 => { y0 with addressed := true }) (tOn), 1, 1, by decide⟩,
   ⟨{ (updEth ((1)) (fun y0 => { y0 with linkLocal := true }) (updEth ((1)) (fun y0 => { y0 with linkUp := true }) ({ tOn with pow.powerGood := true }))) with seq.rowT := ((ethPort tOn (1)).askNs + 60000000000) * 10000 },
      1, by decide⟩,
   ⟨{ tOn with seq.rowT := ((ethPort tOn (1)).askNs + 60000000000 - 1) * 10000 }, 1, by decide⟩,
   ⟨tOn, 1, 1, 1, by decide⟩,
   ⟨{ tClient with mgmt.sessions := List.replicate 7 { isOpen := true } ++ [{}] },
      { port := 0, certs := 4, chainBytes := 8192, rootHash := 3, units := [2] }, 7, 2, .owner, by decide⟩,
   ⟨updEth ((({ port := 0 } : ClientFacts)).port) (fun y0 => { y0 with addressed := true }) (updEth ((({ port := 0 } :
      ClientFacts)).port) (fun y0 => { y0 with linkUp := true }) ({ tOn with pow.powerGood := true })), ({ port := 0 }
      : ClientFacts), by decide⟩,
   ⟨tClient, { port := 0 }, 0, by decide⟩,
   ⟨{ { { (updSession ((1)) (fun y0 => { y0 with isOpen := true }) (tOn)) with mgmt.update := none } with sec.certParts := none } with seq.rowT := ((session tOn (1)).lastNs + 60000000000) * 10000 },
      1, by decide⟩,
   ⟨{ tOn with seq.rowT := ((session tOn (1)).lastNs + 60000000000 - 1) * 10000 }, 1, by decide⟩,
   ⟨updSession ((1)) (fun y0 => { y0 with isOpen := true }) (tOn), 1, by decide⟩,
   ⟨updSession ((1)) (fun y0 => { y0 with isOpen := false }) (tOn), 1, by decide⟩,
   ⟨tOn, 7, 3, by decide⟩,
   ⟨{ tOn with mgmt.sessions := List.replicate 8 { isOpen := true, role := .owner, bytesIn := 2 ^ 30 } }, 1, by decide⟩,
   ⟨{ tOn with mgmt.sessions := List.replicate 8 { isOpen := true, role := .owner, bytesOut := 2 ^ 30 - 1 } }, 1, by
      decide⟩⟩

theorem witness_StatusWindowReadsAndWrites :
    (∃ (s : State) (i : Nat) (m : Nat) (a : Nat) (n : Nat), coreRuns s = true ∧ (session s i).isOpen = true ∧ (session
      s i).outbox = [] ∧ (session s i).role ≠ .none ∧ lifeCycle s = .enrolled ∧ 4 ≤ n ∧ n ≤ 4096 ∧ a % 4 = 0 ∧ n % 4 =
      0 ∧ a + n ≤ 0x110000) ∧
    (∃ (s : State) (w : Windows) (a : Nat), locateAt a = none) ∧
    (∃ (s : State) (i : Nat) (m : Nat) (a : Nat) (n : Nat), coreRuns s = true ∧ (session s i).isOpen = true ∧ (session
      s i).outbox = []) ∧
    (∃ (s : State) (i : Nat) (m : Nat) (a : Nat) (n : Nat), coreRuns s = true ∧ (session s i).isOpen = true ∧ (session
      s i).outbox = [] ∧ (session s i).role = .none ∧ 4 ≤ n ∧ n ≤ 4096 ∧ a % 4 = 0 ∧ n % 4 = 0 ∧ 0x1000 ≤ a ∧ a + n ≤
      0xE0000) ∧
    (∃ (s : State) (i : Nat) (m : Nat) (v : Nat), coreRuns s = true ∧ (session s i).isOpen = true ∧ (session s
      i).outbox = [] ∧ (session s i).role ≠ .none ∧ lifeCycle s = .enrolled) ∧
    (∃ (s : State) (i : Nat) (m : Nat) (d : List Nat), coreRuns s = true ∧ (session s i).isOpen = true ∧ (session s
      i).outbox = [] ∧ (session s i).role = .observer ∧ lifeCycle s = .enrolled ∧ d.length = 20) ∧
    (∃ (s : State) (i : Nat) (m : Nat) (d : List Nat), coreRuns s = true ∧ (session s i).isOpen = true ∧ (session s
      i).outbox = [] ∧ (session s i).role = .facility ∧ lifeCycle s = .enrolled ∧ d.length = 20) ∧
    (∃ (s : State) (i : Nat) (m : Nat) (a : Nat) (n : Nat) (d : List Nat), (session s i).isOpen = false) ∧
    (∃ (s : State) (i : Nat) (m : Nat), coreRuns s = true ∧ (session s i).isOpen = true ∧ (session s i).outbox = []) ∧
    (∃ (s : State) (i : Nat) (m : Nat) (k : Nat) (x : Nat), coreRuns s = true ∧ (session s i).isOpen = true ∧ (session
      s i).outbox = [] ∧ (session s i).role ≠ .none ∧ 1 ≤ k ∧ k ≤ 4 ∧ (session s i).subs.length < 32) ∧
    (∃ (s : State) (i : Nat) (m : Nat) (k : Nat) (x : Nat), coreRuns s = true ∧ (session s i).isOpen = true ∧ (session
      s i).outbox = [] ∧ (session s i).role ≠ .none ∧ (k = 0 ∨ 4 < k)) ∧
    (∃ (s : State) (i : Nat) (n : Note) (r : List Note), coreRuns s = true ∧ (session s i).isOpen = true ∧ (session s
      i).outbox = [] ∧ (session s i).notes = n :: r) ∧
    (∃ (s : State) (i : Nat), (session s i).notes = []) ∧
    (∃ (s : State) (i : Nat) (m : Nat) (d : List Nat), coreRuns s = true ∧ (session s i).isOpen = true ∧ (session s
      i).outbox = [] ∧ (session s i).role = .facility ∧ lifeCycle s = .enrolled ∧ d.length = 4) ∧
    (∃ (s : State) (i : Nat) (m : Nat), coreRuns s = true ∧ (session s i).isOpen = true ∧ (session s i).outbox ≠ [] ∧
      (session s i).outbox.length < 64) ∧
    (∃ (s : State) (i : Nat) (m : Nat), coreRuns s = true ∧ (session s i).isOpen = true ∧ 64 ≤ (session s
      i).outbox.length) :=
  ⟨⟨{ tOn with sec.fuses.enrolled := [true, true, true] }, 1, 3, 0x10F000, 4096, by decide⟩,
   ⟨tOn, {}, 0xFFC, by decide⟩,
   ⟨tOn, 1, 3, 0, 0, by decide⟩,
   ⟨{ tOn with mgmt.sessions := List.replicate 8 { isOpen := true, role := .none } }, 1, 3, 0x1000, 4, by decide⟩,
   ⟨{ tOn with sec.fuses.enrolled := [true, true, true] }, 1, 3, 0, by decide⟩,
   ⟨{ tOn with sec.fuses.enrolled := [true, true, true], mgmt.sessions := List.replicate 8 { isOpen := true, role := .observer } },
      1, 3, List.replicate 20 0, by decide⟩,
   ⟨{ tOn with sec.fuses.enrolled := [true, true, true], mgmt.sessions := List.replicate 8 { isOpen := true, role := .facility } },
      1, 3, List.replicate 20 0, by decide⟩,
   ⟨updSession ((1)) (fun y0 => { y0 with isOpen := false }) (tOn), 1, 1, 1, 1, ([] : List Nat), by decide⟩,
   ⟨tOn, 1, 3, by decide⟩,
   ⟨{ tOn with mgmt.sessions := List.replicate 8 { isOpen := true, role := .owner, subs := List.replicate 31 (1, 0) } },
      1, 3, 4, 0, by decide⟩,
   ⟨tOn, 1, 3, 5, 0, by decide⟩,
   ⟨{ tOn with mgmt.sessions := List.replicate 8 { isOpen := true, role := .owner, notes := [{ topic := 1, index := 0, frame := 0, data := [] }] } },
      1, { topic := 1, index := 0, frame := 0, data := [] }, [], by decide⟩,
   ⟨updSession ((1)) (fun y0 => { y0 with notes := [] }) (tOn), 1, by decide⟩,
   ⟨{ tOn with sec.fuses.enrolled := [true, true, true], mgmt.sessions := List.replicate 8 { isOpen := true, role := .facility } },
      1, 3, [1, 0, 0, 0], by decide⟩,
   ⟨{ tOn with mgmt.sessions := List.replicate 8 { isOpen := true, role := .owner, outbox := List.replicate 63 { msgId := 0 } } },
      1, 3, by decide⟩,
   ⟨{ tOn with mgmt.sessions := List.replicate 8 { isOpen := true, role := .owner, outbox := List.replicate 64 { msgId := 0 } } },
      1, 3, by decide⟩⟩

theorem witness_FieldbusServersReadAndWrite :
    (∃ (s : State) (c : Nat) (a : Nat) (n : Nat), modbusServed s c = true ∧ 1 ≤ n ∧ n ≤ 125 ∧ a + n ≤ 5096 ∧ lowHalf
      (inputPoint (latched s)) a = false ∧ highHalf (inputPoint (latched s)) (a + n - 1) = false) ∧
    (∃ (s : State) (c : Nat) (a : Nat) (n : Nat), modbusServed s c = true ∧ 1 ≤ n ∧ n ≤ 125 ∧ (∀ k, a ≤ k → k < a + n
      → holdingMapped (latched s) k = true) ∧ lowHalf (holdingPoint (latched s)) a = false ∧ highHalf (holdingPoint
      (latched s)) (a + n - 1) = false) ∧
    (∃ (s : State) (c : Nat) (a : Nat) (n : Nat), modbusServed s c = true ∧ (n = 0 ∨ 125 < n)) ∧
    (∃ (s : State) (c : Nat) (a : Nat) (n : Nat), modbusServed s c = true ∧ 1 ≤ n ∧ n ≤ 125 ∧ 5096 < a + n) ∧
    (∃ (pt : Nat → Option Point) (a : Nat) (p : Point), pt a = some p ∧ p.wide = true ∧ pt (a + 1) = none) ∧
    (∃ (s : State) (c : Nat) (src : Nat) (a : Nat) (v : Nat), modbusServed s c = true ∧ (s.mgmt.fieldbus.modbusWrite =
      false ∨ allowed s.mgmt.fieldbus src = false)) ∧
    (∃ (s : State) (c : Nat) (src : Nat), modbusServed s c = true ∧ s.mgmt.fieldbus.modbusWrite = true ∧ allowed
      s.mgmt.fieldbus src = true ∧ s.pow.plantControl = true ∧ s.mgmt.guardDone = false ∧ s.mgmt.taken < 256 ∧
      s.mgmt.waiting = [] ∧ (session s 255).outbox = []) ∧
    (∃ (s : State) (c : Nat) (src : Nat), modbusServed s c = true ∧ s.mgmt.fieldbus.modbusWrite = true ∧ allowed
      s.mgmt.fieldbus src = true ∧ s.pow.plantControl = false ∧ s.mgmt.guardDone = false ∧ s.mgmt.taken < 256 ∧
      s.mgmt.waiting = [] ∧ (session s 255).outbox = []) ∧
    (∃ (s : State) (c : Nat) (src : Nat) (hi : Nat) (lo : Nat), modbusServed s c = true ∧ s.mgmt.fieldbus.modbusWrite
      = true ∧ allowed s.mgmt.fieldbus src = true ∧ s.pow.plantControl = true ∧ s.mgmt.guardDone = false ∧
      s.mgmt.taken < 256 ∧ s.mgmt.waiting = [] ∧ (session s 255).outbox = [] ∧ hi < 65536 ∧ lo < 65536 ∧ 1600 * (65536
      * hi + lo) ≤ s.img.limits.rowCap) ∧
    (∃ (s : State) (c : Nat) (src : Nat), modbusServed s c = true ∧ s.mgmt.fieldbus.modbusWrite = true ∧ allowed
      s.mgmt.fieldbus src = true ∧ (s.mgmt.guardDone = true ∨ 256 ≤ s.mgmt.taken)) ∧
    (∃ (s : State) (c : Nat) (src : Nat) (v : Nat), modbusServed s c = true ∧ s.mgmt.fieldbus.modbusWrite = true ∧
      allowed s.mgmt.fieldbus src = true) ∧
    (∃ (s : State) (c : Nat), coreRuns s = true ∧ s.mgmt.fieldbus.modbusEn = true ∧ s.mgmt.modbus.findIdx? (·.isNone)
      = some c) ∧
    (∃ (s : State), coreRuns s = true ∧ s.mgmt.fieldbus.modbusEn = true ∧ (∀ x ∈ s.mgmt.modbus, x.isSome = true)) ∧
    (∃ (s : State) (c : Nat) (f : Nat), s.mgmt.modbus.getD c none = some f ∧ f + 30000000000 ≤ rowNs s) ∧
    (∃ (s : State) (c : Nat) (f : Nat), s.mgmt.modbus.getD c none = some f ∧ rowNs s < f + 30000000000) ∧
    (∃ (s : State) (c : Nat) (a : Nat) (n : Nat), modbusServed s c = false) ∧
    (∃ (s : State), bacnetServed s = true) ∧
    (∃ (s : State) (i : Nat) (p : Nat), bacnetServed s = true ∧ 5096 ≤ i) ∧
    (∃ (s : State) (src : Nat), bacnetServed s = true ∧ s.mgmt.fieldbus.bacnetWrite = true ∧ allowed s.mgmt.fieldbus
      src = true ∧ s.pow.plantControl = true ∧ s.mgmt.guardDone = false ∧ s.mgmt.taken < 256 ∧ s.mgmt.waiting = [] ∧
      (session s 255).outbox = []) ∧
    (∃ (s : State) (src : Nat) (x : BacProp) (v : BacValue), bacnetServed s = true ∧ (s.mgmt.fieldbus.bacnetWrite =
      false ∨ allowed s.mgmt.fieldbus src = false)) ∧
    (∃ (s : State) (x : BacProp), bacnetServed s = false) :=
  ⟨⟨(fun (w : State) =>
      { w with mgmt.modbus := upd (w.mgmt.modbus ++ List.replicate ((1) + 1 - (w.mgmt.modbus).length) none) ((1)) (fun y0 => some 0) })
      ({ tOn with mgmt.fieldbus.modbusEn := true }), 1, 1, 125, by decide⟩,
   ⟨{ tOn with mgmt.fieldbus.modbusEn := true, mgmt.modbus := [some 0] }, 0, 0, 2, by decide, by decide, by decide,
      (fun k _ h => (show ∀ k, k < 2 → holdingMapped (latched
      { tOn with mgmt.fieldbus.modbusEn := true, mgmt.modbus := [some 0] }) k = true by decide) k (by omega)), by
      decide⟩,
   ⟨{ tOn with mgmt.fieldbus := { modbusEn := true, modbusWrite := true, bacnetEn := true, bacnetWrite := true, allow := [(0, 0)] }, mgmt.modbus := [some 0] },
      0, 0, 126, by decide⟩,
   ⟨{ tOn with mgmt.fieldbus := { modbusEn := true, modbusWrite := true, bacnetEn := true, bacnetWrite := true, allow := [(0, 0)] }, mgmt.modbus := [some 0] },
      0, 4972, 125, by decide⟩,
   ⟨fun a => if a = 0 then some { addr := 0, wide := true, reg := -1, num := 0 } else none, 0,
      { addr := 0, wide := true, reg := -1, num := 0 }, by decide⟩,
   ⟨{ ((fun (w : State) => { w with mgmt.modbus := upd (w.mgmt.modbus ++ List.replicate ((1) + 1 - (w.mgmt.modbus).length) none) ((1)) (fun y0 => some 0) }) ({ tOn with mgmt.fieldbus.modbusEn := true })) with mgmt.fieldbus.modbusWrite := false },
      1, 1, 1, 1, by decide⟩,
   ⟨{ tOn with mgmt.fieldbus := { modbusEn := true, modbusWrite := true, bacnetEn := true, bacnetWrite := true, allow := [(0, 0)] }, mgmt.modbus := [some 0] },
      0, 1, by decide⟩,
   ⟨{ tOn with pow.plantControl := false, mgmt.fieldbus := { modbusEn := true, modbusWrite := true, bacnetEn := true, bacnetWrite := true, allow := [(0, 0)] }, mgmt.modbus := [some 0] },
      0, 1, by decide⟩,
   ⟨{ tOn with img.limits := { rowCap := 1600 }, mgmt.fieldbus := { modbusEn := true, modbusWrite := true, bacnetEn := true, bacnetWrite := true, allow := [(0, 0)] }, mgmt.modbus := [some 0] },
      0, 1, 0, 1, by decide⟩,
   ⟨{ tOn with mgmt.taken := 256, mgmt.fieldbus := { modbusEn := true, modbusWrite := true, bacnetEn := true, bacnetWrite := true, allow := [(0, 0)] }, mgmt.modbus := [some 0] },
      0, 1, by decide⟩,
   ⟨{ { ((fun (w : State) => { w with mgmt.modbus := upd (w.mgmt.modbus ++ List.replicate ((1) + 1 - (w.mgmt.modbus).length) none) ((1)) (fun y0 => some 0) }) ({ tOn with mgmt.fieldbus.modbusEn := true })) with mgmt.fieldbus.modbusWrite := true } with mgmt.fieldbus.allow := [(0, 0)] },
      1, 1, 1, by decide⟩,
   ⟨{ tOn with mgmt.fieldbus.modbusEn := true, mgmt.modbus := [some 0, some 0, some 0, none] }, 3, by decide⟩,
   ⟨{ tOn with mgmt.fieldbus.modbusEn := true, mgmt.modbus := List.replicate 4 (some 0) }, by decide⟩,
   ⟨{ ((fun (w : State) => { w with mgmt.modbus := upd (w.mgmt.modbus ++ List.replicate ((1) + 1 - (w.mgmt.modbus).length) none) ((1)) (fun y0 => some (1)) }) (tOn)) with seq.rowT := ((1) + 30000000000) * 10000 },
      1, 1, by decide⟩,
   ⟨{ ((fun (w : State) => { w with mgmt.modbus := upd (w.mgmt.modbus ++ List.replicate ((1) + 1 - (w.mgmt.modbus).length) none) ((1)) (fun y0 => some (1)) }) (tOn)) with seq.rowT := ((1) + 30000000000 - 1) * 10000 },
      1, 1, by decide⟩,
   ⟨(fun (w : State) =>
      { w with mgmt.modbus := upd (w.mgmt.modbus ++ List.replicate ((1) + 1 - (w.mgmt.modbus).length) none) ((1)) (fun y0 => some 0) })
      ({ tOn with mgmt.fieldbus.modbusEn := false }), 1, 1, 1, by decide⟩,
   ⟨{ tOn with mgmt.fieldbus.bacnetEn := true }, by decide⟩,
   ⟨{ tOn with mgmt.fieldbus.bacnetEn := true }, 5096, 1, by decide⟩,
   ⟨{ tOn with mgmt.fieldbus := { modbusEn := true, modbusWrite := true, bacnetEn := true, bacnetWrite := true, allow := [(0, 0)] }, mgmt.modbus := [some 0] },
      1, by decide⟩,
   ⟨{ { tOn with mgmt.fieldbus.bacnetEn := true } with mgmt.fieldbus.bacnetWrite := false }, 1, (⟨13, 0, 85⟩ :
      BacProp), (.null : BacValue), by decide⟩,
   ⟨{ tOn with mgmt.fieldbus.bacnetEn := false }, (⟨13, 0, 85⟩ : BacProp), by decide⟩⟩

theorem witness_InletLimitAndInternalFans :
    (∃ (s : State) (f : Nat), s.thermal.overSince = some f ∧ f + 600000 ≤ s.seq.frame ∧ s.thermal.inletOver = false) ∧
    (∃ (s : State), (s.thermal.overSince = none ∨ s.thermal.inletOver = true)) ∧
    (∃ (s : State) (f : Nat), s.thermal.underSince = some f ∧ f + 600000 ≤ s.seq.frame ∧ s.thermal.inletOver = true) ∧
    (∃ (s : State), (s.thermal.underSince = none ∨ s.thermal.inletOver = false)) ∧
    (∃ (s : State) (i : Nat) (f : Nat), i < 2 ∧ s.thermal.fans.length = 2 ∧ (inFan s i).lowSince = some f ∧ f + 50000
      < s.seq.frame ∧ (inFan s i).failed = false ∧ (inFan s (1 - i)).failed = false) ∧
    (∃ (s : State) (i : Nat) (f : Nat), i < 2 ∧ s.thermal.fans.length = 2 ∧ (inFan s i).lowSince = some f ∧ f + 50000
      < s.seq.frame ∧ (inFan s i).failed = false ∧ (inFan s (1 - i)).failed = true) ∧
    (∃ (s : State) (i : Nat) (f : Nat), (inFan s i).lowSince = some f ∧ s.seq.frame ≤ f + 50000) ∧
    (∃ (s : State) (i : Nat), i < 2 ∧ s.thermal.fans.length = 2 ∧ (inFan s i).failed = true ∧ (inFan s i).retrying =
      false ∧ (inFan s i).lastRetry + 600000 ≤ s.seq.frame) ∧
    (∃ (s : State) (i : Nat), ((inFan s i).failed = false ∨ s.seq.frame < (inFan s i).lastRetry + 600000)) ∧
    (∃ (s : State) (i : Nat) (f : Nat), i < 2 ∧ s.thermal.fans.length = 2 ∧ (inFan s i).goodSince = some f ∧ (inFan s
      i).failed = true ∧ f + 100000 ≤ s.seq.frame) ∧
    (∃ (s : State) (i : Nat), (inFan s i).failed = false) ∧
    (∃ (s : State), (∀ x ∈ s.thermal.fans, x.failed = false)) ∧
    (∃ (s : State), (∃ x ∈ s.thermal.fans, x.failed = true)) ∧
    (∃ (s : State) (f : Nat), s.thermal.overSince = some f ∧ s.seq.frame < f + 600000) ∧
    (∃ (s : State) (f : Nat), s.thermal.underSince = some f ∧ s.seq.frame < f + 600000) ∧
    (∃ (s : State) (r : Readings) (x : Int), r.inlet = some x ∧ inletLimit s < x) ∧
    (∃ (s : State) (r : Readings) (x : Int), r.inlet = some x ∧ x ≤ inletLimit s) ∧
    (∃ (s : State) (r : Readings) (x : Int), r.inlet = some x ∧ x ≤ inletLimit s - 64) ∧
    (∃ (s : State) (r : Readings) (x : Int), r.inlet = some x ∧ inletLimit s - 64 < x) :=
  ⟨⟨{ { { tOn with thermal.overSince := some (1) } with seq.frame := (1) + 600000 } with thermal.inletOver := false },
      1, by decide⟩,
   ⟨{ tOn with thermal.overSince := none }, by decide⟩,
   ⟨{ { { tOn with thermal.underSince := some (1) } with seq.frame := (1) + 600000 } with thermal.inletOver := true },
      1, by decide⟩,
   ⟨{ tOn with thermal.underSince := none }, by decide⟩,
   ⟨updInFan ((1 - (2 - 1))) (fun y0 => { y0 with failed := false }) (updInFan ((2 - 1)) (fun y0 =>
      { y0 with failed := false })
      ({ (updInFan ((2 - 1)) (fun y0 => { y0 with lowSince := some (1) }) ({ tOn with thermal.fans := List.replicate (2) {} })) with seq.frame := (1) + 50000 + 1 })),
      2 - 1, 1, by decide⟩,
   ⟨updInFan ((1 - (2 - 1))) (fun y0 => { y0 with failed := true }) (updInFan ((2 - 1)) (fun y0 =>
      { y0 with failed := false })
      ({ (updInFan ((2 - 1)) (fun y0 => { y0 with lowSince := some (1) }) ({ tOn with thermal.fans := List.replicate (2) {} })) with seq.frame := (1) + 50000 + 1 })),
      2 - 1, 1, by decide⟩,
   ⟨{ (updInFan ((1)) (fun y0 => { y0 with lowSince := some (1) }) (tOn)) with seq.frame := (1) + 50000 }, 1, 1, by
      decide⟩,
   ⟨{ (updInFan ((2 - 1)) (fun y0 => { y0 with retrying := false }) (updInFan ((2 - 1)) (fun y0 => { y0 with failed := true }) ({ tOn with thermal.fans := List.replicate (2) {} }))) with seq.frame := (inFan tOn (2 - 1)).lastRetry + 600000 },
      2 - 1, by decide⟩,
   ⟨updInFan ((1)) (fun y0 => { y0 with failed := false }) (tOn), 1, by decide⟩,
   ⟨{ (updInFan ((2 - 1)) (fun y0 => { y0 with failed := true }) (updInFan ((2 - 1)) (fun y0 => { y0 with goodSince := some (1) }) ({ tOn with thermal.fans := List.replicate (2) {} }))) with seq.frame := (1) + 100000 },
      2 - 1, 1, by decide⟩,
   ⟨updInFan ((1)) (fun y0 => { y0 with failed := false }) (tOn), 1, by decide⟩,
   ⟨tOn, by decide⟩,
   ⟨{ tOn with thermal.fans := [{}, { failed := true }] }, by decide⟩,
   ⟨{ { tOn with thermal.overSince := some (1) } with seq.frame := (1) + 600000 - 1 }, 1, by decide⟩,
   ⟨{ { tOn with thermal.underSince := some (1) } with seq.frame := (1) + 600000 - 1 }, 1, by decide⟩,
   ⟨tOn, { inlet := some 3521 }, 3521, by decide⟩,
   ⟨tOn, { inlet := some 3520 }, 3520, by decide⟩,
   ⟨tOn, { inlet := some 3456 }, 3456, by decide⟩,
   ⟨tOn, { inlet := some 3457 }, 3457, by decide⟩⟩

end Sys2Proof.Machine
end

section
/-! SUPPORT. Shedding of the engine's owner graphs (R46, R281 to R283): what the shed marks make of the graphs, what a
shed request, a shed step and a restoration change, and the engine's count of overruns; settles O19. -/

namespace Sys2Proof.Machine

/-! The shed marks as one update of the list of graphs. -/

/-- The state with another list of graphs. -/
def withGraphs (s : State) (l : List GraphSt) : State := { s with eng := { s.eng with graphs := l } }

@[simp] theorem withGraphs_self (s : State) : withGraphs s s.eng.graphs = s := rfl

/-- What `markShed` makes of graph `g` in condition `y` (R282, R283). -/
def shedMark (s : State) (g : Nat) (y : GraphSt) : GraphSt :=
  if shedNow s g = y.shed then y
  else { y with
    shed := shedNow s g, eval := none, done := [], abandoned := false
    state := if shedNow s g then y.state else initGraphState g (graphCfg s g) }

@[simp] theorem shedMark_shed (s : State) (g : Nat) (y : GraphSt) : (shedMark s g y).shed = shedNow s g := by
  unfold shedMark
  split
  case isTrue h => exact h.symm
  case isFalse => rfl

theorem shedMark_of_restored {s : State} {g : Nat} {y : GraphSt} (hy : y.shed = true) (hs : shedNow s g = false) :
    (shedMark s g y).state = initGraphState g (graphCfg s g) ∧ (shedMark s g y).eval = none := by
  simp [shedMark, hy, hs]

/-- Only what an update makes of the element matters. -/
theorem upd_congr {α : Type} {l : List α} {i : Nat} {f f' : α → α} (d : α) (h : f (l.getD i d) = f' (l.getD i d)) :
    upd l i f = upd l i f' := by
  refine List.ext_getElem? fun j => ?_
  rcases Decidable.em (i = j) with rfl | hij
  · cases hi : l[i]? with
    | none => simp [hi]
    | some y => simpa [List.getD_eq_getElem?_getD, hi] using h
  · simp [hij]

theorem upd_id {α : Type} (l : List α) (i : Nat) : upd l i id = l := List.modify_id i l

/-- One turn of `markShed`: it reads only the configuration, the steps in force and its own graph. -/
def markShedTurn (t : State) (g : Nat) : State :=
  if shedNow t g = (graphSt t g).shed then t
  else updGraph g (fun y => { y with
    shed := shedNow t g, eval := none, done := [], abandoned := false
    state := if shedNow t g then y.state else initGraphState g (graphCfg t g) }) t

theorem markShed_eq_foldl (s : State) : markShed s = (List.range 8).foldl markShedTurn s := rfl

theorem markShedTurn_withGraphs (s : State) (l : List GraphSt) (g : Nat) :
    markShedTurn (withGraphs s l) g = withGraphs s (upd l g (shedMark s g)) := by
  have hnow : shedNow (withGraphs s l) g = shedNow s g := rfl
  unfold markShedTurn
  rw [hnow]
  split
  case isTrue h =>
    have hself : shedMark s g (l.getD g {}) = id (l.getD g {}) := if_pos h
    rw [upd_congr {} hself, upd_id]
  case isFalse h => exact congrArg (withGraphs s) (upd_congr {} (if_neg h).symm)

theorem foldl_markShedTurn (s : State) (n : Nat) :
    (List.range n).foldl markShedTurn s =
      withGraphs s (s.eng.graphs.mapIdx fun g y => if g < n then shedMark s g y else y) := by
  induction n with
  | zero =>
    have hid : s.eng.graphs.mapIdx (fun _ y => y) = s.eng.graphs := List.ext_getElem? fun j => by simp
    simp [hid]
  | succ n ih =>
    rw [List.range_succ, List.foldl_append, ih, List.foldl_cons, List.foldl_nil, markShedTurn_withGraphs]
    congr 1
    refine List.ext_getElem? fun j => ?_
    rcases Decidable.em (n = j) with rfl | hnj
    · simp
    · have hlt : j < n + 1 ↔ j < n := by omega
      simp only [getElem?_upd_ne _ _ _ _ hnj, List.getElem?_mapIdx, hlt]

/-- The shed marks change nothing but the eight graphs, each by itself. -/
theorem markShed_eq (s : State) :
    markShed s = withGraphs s (s.eng.graphs.mapIdx fun g y => if g < 8 then shedMark s g y else y) := by
  rw [markShed_eq_foldl, foldl_markShedTurn]

theorem graphSt_markShed {s : State} {g : Nat} (hg : g < 8) (hlen : s.eng.graphs.length = 8) :
    graphSt (markShed s) g = shedMark s g (graphSt s g) := by
  rw [markShed_eq]
  simp [graphSt, withGraphs, List.getD_eq_getElem?_getD, hlen, hg]

/-! Requests, steps and restorations. -/

theorem execShedRequest_of_due {s : State} (hc : s.seq.engineConsec ∈ [3, 6, 9, 12, 15])
    (hi : s.seq.shedIssued = false) :
    execShedRequest s = .next (post 0x1021 { s with
      seq := { s.seq with shedIssued := true, shedCount := cnt s.seq.shedCount }
      eng := { s.eng with shedDue := s.eng.shedDue + 1 } }) := by
  have hdue : shedDue s.seq = true := by
    rw [shedDue, hi, List.contains_iff_mem.mpr hc]
    rfl
  rw [execShedRequest, if_pos hdue]

theorem execShedRequest_of_not_due {s : State}
    (h : s.seq.engineConsec ∉ [3, 6, 9, 12, 15] ∨ s.seq.shedIssued = true) : execShedRequest s = .next s := by
  have hdue : ¬ shedDue s.seq = true := by
    rw [shedDue, Bool.and_eq_true, List.contains_iff_mem, Bool.not_eq_true']
    rintro ⟨hc, hi⟩
    rcases h with h | h
    · exact h hc
    · rw [hi] at h
      exact Bool.false_ne_true h
  rw [execShedRequest, if_neg hdue]

/-- What a restoration writes before the marks follow (R283). -/
def restoredStep (s : State) : State := { s with eng := { s.eng with
  shedSteps := s.eng.shedSteps - 1, cleanFrames := 0, restoreCount := cnt s.eng.restoreCount
  lastRestore := some s.seq.frame } }

theorem execShedRestore_of_due {s : State} (hs : s.eng.shedSteps ≠ 0)
    (hc : s.eng.restoreNeed ≤ s.eng.cleanFrames) :
    execShedRestore s = .next (post 0x6051 (markShed (restoredStep s)) s.eng.shedSteps) := by
  simp [execShedRestore, restoredStep, hs, hc]

theorem execShedRestore_of_not_due {s : State}
    (h : s.eng.shedSteps = 0 ∨ s.eng.cleanFrames < s.eng.restoreNeed) : execShedRestore s = .next s := by
  rcases h with h | h
  · simp [execShedRestore, h]
  · simp [execShedRestore, Nat.not_le.mpr h]

/-- What a shed step writes before the marks follow, with the RESTORE_NEED that it leaves (R281, R283). -/
def shedStepTaken (need : Nat) (s : State) : State := { s with eng := { s.eng with
  shedDue := s.eng.shedDue - 1, shedSteps := s.eng.shedSteps + 1, shedCount := cnt s.eng.shedCount
  lastShed := some s.seq.frame, cleanFrames := 0, restoreNeed := need } }

theorem shedStep_of_due {s : State} (hd : s.eng.shedDue ≠ 0) (h5 : s.eng.shedSteps < 5) :
    ∃ need, shedStep s = post 0x6050 (markShed (shedStepTaken need s)) (s.eng.shedSteps + 1) := by
  rw [shedStep, if_neg hd, if_neg (Nat.not_le.mpr h5)]
  exact ⟨_, rfl⟩

theorem shedStep_effect {s : State} (hd : s.eng.shedDue ≠ 0) (h5 : s.eng.shedSteps < 5) :
    (shedStep s).eng.shedSteps = s.eng.shedSteps + 1 ∧ (shedStep s).eng.shedDue = s.eng.shedDue - 1 ∧
    (shedStep s).eng.cleanFrames = 0 ∧
    (shedStep s).log = logPost s.log (mkEvent s 0x6050 (s.eng.shedSteps + 1) 0xFFFF []) := by
  obtain ⟨need, h⟩ := shedStep_of_due hd h5
  rw [h, markShed_eq]
  exact ⟨rfl, rfl, rfl, rfl⟩

theorem shedStep_of_none_due {s : State} (h : s.eng.shedDue = 0) : shedStep s = s := if_pos h

theorem shedStep_of_all_taken {s : State} (hd : s.eng.shedDue ≠ 0) (h5 : 5 ≤ s.eng.shedSteps) :
    shedStep s = { s with eng := { s.eng with shedDue := 0 } } := by
  rw [shedStep, if_neg hd, if_pos h5]

theorem shedStep_shedSteps_le {s : State} (h : s.eng.shedSteps ≤ 5) : (shedStep s).eng.shedSteps ≤ 5 := by
  by_cases hd : s.eng.shedDue = 0
  · rwa [shedStep_of_none_due hd]
  by_cases h5 : 5 ≤ s.eng.shedSteps
  · rwa [shedStep_of_all_taken hd h5]
  · obtain ⟨hsteps, -⟩ := shedStep_effect hd (Nat.not_le.mp h5)
    omega

/-- The shed owner graphs are those whose priority the steps in force reach; slots 0 and 1 are never among them. -/
theorem shedNow_iff (s : State) (g : Nat) :
    shedNow s g = true ↔ 2 ≤ g ∧ (graphCfg s g).priority < min s.eng.shedSteps 4 := by
  rw [shedNow, Bool.and_eq_true, decide_eq_true_iff, decide_eq_true_iff]

theorem markShed_restores {s : State} {g : Nat} (hg : g < 8) (hlen : s.eng.graphs.length = 8)
    (hwas : (graphSt s g).shed = true) (hnow : (graphSt (markShed s) g).shed = false) :
    (graphSt (markShed s) g).state = initGraphState g (graphCfg s g) ∧ (graphSt (markShed s) g).eval = none := by
  rw [graphSt_markShed hg hlen] at hnow ⊢
  exact shedMark_of_restored hwas (by rwa [shedMark_shed] at hnow)

/-! The engine's consecutive count (R46). -/

theorem seqOverrun_engine (q : Sequencer) :
    (seqOverrun q .engine).engineConsec = q.engineConsec + 1 ∧ (seqOverrun q .engine).shedIssued = false :=
  ⟨rfl, rfl⟩

theorem seqEvaluate_of_slice_completed {q : Sequencer} (h : q.overran.contains .engine = false) :
    (seqEvaluate q).engineConsec = 0 ∧ (seqEvaluate q).shedIssued = false := by
  simp only [seqEvaluate, h]
  exact ⟨rfl, rfl⟩

theorem seqEvaluate_of_engine_overrun {q : Sequencer} (h : q.overran.contains .engine = true) :
    (seqEvaluate q).engineConsec = q.engineConsec ∧ (seqEvaluate q).shedIssued = q.shedIssued :=
  ⟨if_pos h, if_pos h⟩

/-- Settles O19: the marks act on each graph by itself, and requests, steps and restorations change only what R46 and
R281 to R283 give them. -/
theorem shedStepsAndRestore : Obligations.ShedStepsAndRestore := by
  refine ⟨fun s hc hi => ?request, fun s h => execShedRequest_of_not_due h, fun s hs hc => ?restore,
    fun s h => execShedRestore_of_not_due h, fun s hd h5 => shedStep_effect hd h5, fun s h => shedStep_shedSteps_le h,
    fun s g hg hlen => ?marks, fun s g hg hlen hwas hnow => markShed_restores hg hlen hwas hnow, seqOverrun_engine,
    fun q h => seqEvaluate_of_slice_completed h, fun q h => seqEvaluate_of_engine_overrun h⟩
  case request => exact ⟨_, execShedRequest_of_due hc hi, rfl, rfl, rfl, rfl⟩
  case restore =>
    refine ⟨_, execShedRestore_of_due hs hc, ?_⟩
    rw [markShed_eq]
    exact ⟨rfl, rfl, rfl, rfl, rfl, rfl⟩
  case marks => rw [graphSt_markShed hg hlen, shedMark_shed, shedNow_iff]

end Sys2Proof.Machine
end

section
/-! SUPPORT. Masters and wall time (R59, R60, R63 to R65): which sender qualifies, what taking a master and entering
holdover write, and when wall time is marked DEGRADED; settles O6. -/

namespace Sys2Proof.Machine

/-! Taking a master, and the log it leaves (R60, R63). -/

theorem takeAnnounce_wall (a : Announce) (s : State) :
    (takeAnnounce a s).wall = { s.wall with
      master := some a
      lastAnnounce := ((s.wall.foreign.find? fun f => sameSender f.data a).bind (·.times.head?)).getD (rowNs s)
      announceNs := a.intervalNs, gmIdentity := a.gm
      utcOffset := a.utcOffset, arb := !a.ptpTimescale
      delayOpen := s.wall.delayOpen && ((s.wall.master.map (sameSender a)).getD false) } := by
  simp only [takeAnnounce, apply_ite State.wall, post_wall, ite_self]

@[simp] theorem takeAnnounce_seq (a : Announce) (s : State) : (takeAnnounce a s).seq = s.seq := by
  simp only [takeAnnounce, apply_ite State.seq, post_seq, ite_self]

theorem takeAnnounce_log_of_same_grandmaster {a : Announce} {s : State} (hgm : s.wall.gmIdentity = a.gm)
    (hptp : a.ptpTimescale = true) : (takeAnnounce a s).log = s.log := by
  simp [takeAnnounce, hgm, hptp]

theorem takeAnnounce_log_of_new_grandmaster {a : Announce} {s : State} (hgm : s.wall.gmIdentity ≠ a.gm)
    (hset : s.wall.gmIdentity ≠ 0) (hptp : a.ptpTimescale = true) :
    (takeAnnounce a s).log = logPost s.log (mkEvent s 0x1005 0xFFFF 0xFFFF []) := by
  simp only [takeAnnounce, hptp, if_pos (And.intro hgm hset)]
  rfl

theorem takeAnnounce_log_of_new_arb {a : Announce} {s : State} (hgm : s.wall.gmIdentity = a.gm)
    (hptp : a.ptpTimescale = false) (harb : s.wall.arb = false) :
    (takeAnnounce a s).log = logPost s.log (mkEvent s 0x1006 0xFFFF 0xFFFF []) := by
  simp only [takeAnnounce, hptp, harb, hgm, ne_eq, not_true_eq_false, false_and, if_false]
  rfl

/-! The record of senders and the master among them (R59). -/

theorem announceEligible_iff {s : State} {a : Announce} : announceEligible s a = true ↔
    a.domain = s.img.topology.ptpDomain ∧ a.port = s.wall.activePort ∧ a.stepsRemoved < 255 := by
  simp [announceEligible, and_assoc]

/-- Without a sender on record the first Announce is kept alone. -/
theorem noteForeign_of_none {s : State} (a : Announce) (hnone : s.wall.foreign = []) :
    noteForeign a s = { s with wall := { s.wall with foreign := [⟨a, [rowNs s]⟩] } } := by
  simp [noteForeign, hnone]

/-- A second Announce inside four announce intervals joins the first. -/
theorem noteForeign_foreign_of_one {s : State} {a b : Announce} {t0 : Nat} (hone : s.wall.foreign = [⟨b, [t0]⟩])
    (hsame : sameSender b a = true) (htime : rowNs s ≤ t0 + 4 * a.intervalNs) :
    (noteForeign a s).wall.foreign = [⟨a, [rowNs s, t0]⟩] := by
  simp [noteForeign, hone, hsame, htime]

/-- With one sender on record, it is the master exactly when it qualifies. -/
theorem bestMaster_of_one {s : State} {f : ForeignMaster} (hone : s.wall.foreign = [f]) :
    bestMaster s = if qualified s f = true then some f else none := by
  cases hq : qualified s f <;> simp [bestMaster, hone, hq]

theorem bestMaster_of_second_announce {s : State} {a b : Announce} {t0 : Nat} (helig : announceEligible s a = true)
    (hone : s.wall.foreign = [⟨b, [t0]⟩]) (hsame : sameSender b a = true)
    (htime : rowNs s ≤ t0 + 4 * a.intervalNs) :
    bestMaster (noteForeign a s) = some ⟨a, [rowNs s, t0]⟩ := by
  obtain ⟨-, hport, -⟩ := announceEligible_iff.mp helig
  have hqual : qualified (noteForeign a s) ⟨a, [rowNs s, t0]⟩ = true := by
    have hrow : rowNs (noteForeign a s) = rowNs s := rfl
    have hactive : (noteForeign a s).wall.activePort = s.wall.activePort := rfl
    simp [qualified, hrow, hactive, hport, htime]
  rw [bestMaster_of_one (noteForeign_foreign_of_one hone hsame htime), if_pos hqual]

theorem not_qualified_of_single_announce {s : State} {f : ForeignMaster} (hmaster : s.wall.master = none)
    (hlen : f.times.length ≤ 1) : ¬ qualified s f = true := by
  have hcount : ¬ 2 ≤ f.times.countP fun t => rowNs s ≤ t + 4 * f.data.intervalNs := fun h =>
    absurd (Nat.le_trans h List.countP_le_length) (by omega)
  simp [qualified, hmaster, hcount]

theorem bestMaster_of_first_announce {s : State} (a : Announce) (hnone : s.wall.foreign = [])
    (hmaster : s.wall.master = none) : bestMaster (noteForeign a s) = none := by
  have hone : (noteForeign a s).wall.foreign = [⟨a, [rowNs s]⟩] := by rw [noteForeign_of_none a hnone]
  have hnomaster : (noteForeign a s).wall.master = none := hmaster
  have hqual : ¬ qualified (noteForeign a s) ⟨a, [rowNs s]⟩ = true :=
    not_qualified_of_single_announce hnomaster (Nat.le_refl 1)
  rw [bestMaster_of_one hone, if_neg hqual]

/-! ANNOUNCE_RECEIVED (R63). -/

theorem execAnnounceReceived_of_other_domain {s : State} {a : Announce} (hruns : sequencerRuns s = true)
    (hdom : a.domain ≠ s.img.topology.ptpDomain) : execAnnounceReceived a s = .next (ptpIgnore s) := by
  simp [execAnnounceReceived, hruns, hdom]

theorem execAnnounceReceived_of_no_master {s : State} {a : Announce} (hruns : sequencerRuns s = true)
    (helig : announceEligible s a = true) (hbest : bestMaster (noteForeign a s) = none) :
    execAnnounceReceived a s = .next (noteForeign a s) := by
  obtain ⟨hdom, -, -⟩ := announceEligible_iff.mp helig
  simp [execAnnounceReceived, hruns, hdom, helig, hbest]

theorem execAnnounceReceived_of_best {s : State} {a : Announce} {f : ForeignMaster} (hruns : sequencerRuns s = true)
    (helig : announceEligible s a = true) (hbest : bestMaster (noteForeign a s) = some f)
    (htakes : sameSender f.data a = true ∨ s.wall.master = none) :
    execAnnounceReceived a s = .next (takeAnnounce f.data (noteForeign a s)) := by
  obtain ⟨hdom, -, -⟩ := announceEligible_iff.mp helig
  have hcond : (sameSender f.data a || !((s.wall.master.map (sameSender f.data)).getD false)) = true := by
    rcases htakes with h | h <;> simp [h]
  simp [execAnnounceReceived, hruns, hdom, helig, hbest, hcond]

/-! ANNOUNCE_RECEIPT_TIMEOUT and holdover (R64). -/

/-- Dropping the master changes only the master and the record of senders. -/
theorem dropMaster_eq (s : State) :
    ∃ l, dropMaster s = { s with wall := { s.wall with master := none, foreign := l } } := by
  cases hm : s.wall.master with
  | none =>
    refine ⟨s.wall.foreign, ?_⟩
    simp only [dropMaster, hm]
    rw [← hm]
  | some m =>
    simp only [dropMaster, hm]
    exact ⟨_, rfl⟩

section
variable {s : State} (hruns : sequencerRuns s = true) (hhold : s.wall.holdover = false)
  (htime : s.wall.lastAnnounce + 3 * s.wall.announceNs ≤ rowNs s)
include hruns hhold htime

theorem execAnnounceReceiptTimeout_of_next_best {f : ForeignMaster} (hbest : bestMaster (dropMaster s) = some f) :
    execAnnounceReceiptTimeout s = .next (takeAnnounce f.data (dropMaster s)) := by
  simp [execAnnounceReceiptTimeout, hruns, hhold, htime, hbest]

theorem execAnnounceReceiptTimeout_of_no_other (hbest : bestMaster (dropMaster s) = none) :
    execAnnounceReceiptTimeout s = .next (enterHoldover (dropMaster s)) := by
  simp [execAnnounceReceiptTimeout, hruns, hhold, htime, hbest]

end

/-! The DEGRADED mark (R65). -/

theorem execWallDegraded_of_limit_passed {s : State} {f : Nat} (hsince : s.wall.limitSince = some f)
    (htime : f + 6000000 < s.seq.frame) (hrate : 200000 ≤ s.wall.rate.natAbs) (hmark : s.wall.degraded = false) :
    execWallDegraded s = .next (post 0x1007 { s with wall := { s.wall with degraded := true } }) := by
  have hlong : 6000000 < since s f := by
    unfold since
    omega
  simp only [execWallDegraded, hsince]
  rw [if_pos ⟨hlong, hrate, by simp [hmark]⟩]

theorem execWallDegraded_of_not_long {s : State} {f : Nat} (hsince : s.wall.limitSince = some f)
    (htime : s.seq.frame ≤ f + 6000000) : execWallDegraded s = .next s := by
  have hshort : ¬ 6000000 < since s f := by
    unfold since
    omega
  simp only [execWallDegraded, hsince, hshort, false_and, if_false]

theorem execWallDegraded_of_not_at_limit {s : State}
    (h : s.wall.limitSince = none ∨ s.wall.rate.natAbs < 200000) : execWallDegraded s = .next s := by
  unfold execWallDegraded
  cases hsince : s.wall.limitSince with
  | none => rfl
  | some f =>
    have hrate : ¬ rateLimit.natAbs ≤ s.wall.rate.natAbs := by
      rcases h with h | h
      · rw [hsince] at h
        cases h
      · exact Nat.not_le.mpr h
    simp only [hrate, false_and, and_false, if_false]

/-- The count of R65 runs exactly while the rate stands at its limit with the offset at 50 µs or more. -/
theorem trackLimit_limitSince (n : Nat) (off : Int) (w : Wall) :
    (trackLimit n off w).limitSince =
      if w.rate.natAbs < 200000 ∨ off.natAbs < 50000 then none else some (w.limitSince.getD n) := by
  have hlim : rateLimit.natAbs = 200000 := rfl
  unfold trackLimit
  rw [hlim]
  by_cases hr : w.rate.natAbs < 200000
  · simp [hr]
  by_cases ho : off.natAbs < 50000
  · simp [ho]
  cases w.limitSince <;> simp [hr, ho]

/-- A slewed Sync (R61, R62, R65): its rate and the count of R65 are those of `trackLimit` after the servo, and the mark
is cleared by an offset below 10 µs alone. -/
theorem wallSync_of_slewed {n f : Nat} {off : Int} {w : Wall} (harb : w.arb = false) (hoff : off.natAbs ≤ 50000000) :
    ∃ v : Wall, v.limitSince = w.limitSince ∧ v.degraded = w.degraded ∧
      (wallSync n f off w).rate = v.rate ∧ (wallSync n f off w).limitSince = (trackLimit f off v).limitSince ∧
      (wallSync n f off w).degraded = (if off.natAbs < 10000 then false else v.degraded) := by
  have hlim : stepLimit.natAbs = 50000000 := rfl
  refine ⟨servo n (lockCount off { w with syncCount := cnt w.syncCount, offsetNs := off, bigRun := 0 }), rfl, rfl, ?_⟩
  simp only [wallSync, harb, hlim, if_pos hoff, apply_ite Wall.rate, apply_ite Wall.limitSince, apply_ite Wall.degraded,
    ite_self]
  exact ⟨rfl, rfl, rfl⟩

/-- An offset of 10 µs or more leaves the mark as it stands, slewed, measured only or above 50 ms. -/
theorem wallSync_degraded_of_large_offset (n f : Nat) {off : Int} (w : Wall) (hoff : 10000 ≤ off.natAbs) :
    (wallSync n f off w).degraded = w.degraded := by
  cases harb : w.arb with
  | true => simp [wallSync, harb]
  | false =>
    by_cases hslew : off.natAbs ≤ 50000000
    · obtain ⟨v, -, hv, -, -, hmark⟩ := wallSync_of_slewed (n := n) (f := f) harb hslew
      rw [hmark, if_neg (Nat.not_lt.mpr hoff), hv]
    · have hstep : ¬ off.natAbs ≤ stepLimit.natAbs := hslew
      simp only [wallSync, harb, hstep, if_false, apply_ite Wall.degraded, ite_self]

theorem wallSync_limitSince {n f : Nat} {off : Int} {w : Wall} (harb : w.arb = false)
    (hoff : off.natAbs ≤ 50000000) :
    (wallSync n f off w).limitSince =
      if (wallSync n f off w).rate.natAbs < 200000 ∨ off.natAbs < 50000 then none
      else some (w.limitSince.getD f) := by
  obtain ⟨v, hsince, -, hrate, hlimit, -⟩ := wallSync_of_slewed (n := n) (f := f) harb hoff
  rw [hlimit, trackLimit_limitSince, hrate, hsince]

/-- Settles O6: the choice among the qualified senders, what taking a master and entering holdover write, and the count
and mark of R65. -/
theorem announceHoldoverAndMarks : Obligations.AnnounceHoldoverAndMarks := by
  refine ⟨fun s a f hruns helig hbest htakes => ?best,
    fun s a b t0 helig hone hsame htime => bestMaster_of_second_announce helig hone hsame htime,
    fun s a hruns helig hnone hmaster => ?first,
    fun s a hruns hdom => execAnnounceReceived_of_other_domain hruns hdom,
    fun s f hruns hhold htime hbest => ?nextBest, fun s hruns hhold htime hbest => ?holdover,
    fun s hhold hmaster htime => ?takeover, fun s f hsince htime hrate hmark => ?degraded,
    fun s f hsince htime => execWallDegraded_of_not_long hsince htime,
    fun s h => execWallDegraded_of_not_at_limit h, fun n off w hrate hoff => ?limitHeld, fun n off w h => ?limitLeft,
    fun n f off w harb hoff => ?cleared, fun n f off w hoff => wallSync_degraded_of_large_offset n f w hoff,
    fun n f off w harb hoff => wallSync_limitSince harb hoff⟩
  case best =>
    refine ⟨_, execAnnounceReceived_of_best hruns helig hbest htakes, ?_⟩
    rw [takeAnnounce_wall, takeAnnounce_seq]
    exact ⟨rfl, rfl, rfl, rfl, rfl, rfl, rfl, fun hgm hptp => takeAnnounce_log_of_same_grandmaster hgm hptp,
      fun hgm hset hptp => takeAnnounce_log_of_new_grandmaster hgm hset hptp,
      fun hgm hptp harb => takeAnnounce_log_of_new_arb hgm hptp harb⟩
  case first =>
    rw [← noteForeign_of_none a hnone]
    exact execAnnounceReceived_of_no_master hruns helig (bestMaster_of_first_announce a hnone hmaster)
  case nextBest =>
    refine ⟨_, execAnnounceReceiptTimeout_of_next_best hruns hhold htime hbest, ?_⟩
    obtain ⟨l, hdrop⟩ := dropMaster_eq s
    rw [takeAnnounce_wall, hdrop]
    exact ⟨rfl, rfl, hhold, rfl⟩
  case holdover =>
    refine ⟨_, execAnnounceReceiptTimeout_of_no_other hruns hhold htime hbest, ?_⟩
    obtain ⟨l, hdrop⟩ := dropMaster_eq s
    rw [hdrop]
    exact ⟨rfl, rfl, rfl, rfl, rfl, rfl, rfl⟩
  case takeover =>
    change execPtpPortTakeover s = _
    simp [execPtpPortTakeover, hhold, hmaster, htime]
  case degraded => exact ⟨_, execWallDegraded_of_limit_passed hsince htime hrate hmark, rfl, rfl, rfl⟩
  case limitHeld =>
    have hcounts : ¬ (w.rate.natAbs < 200000 ∨ off.natAbs < 50000) := by omega
    rw [trackLimit_limitSince, if_neg hcounts]
  case limitLeft => rw [trackLimit_limitSince, if_pos h]
  case cleared =>
    obtain ⟨v, -, -, -, -, hmark⟩ := wallSync_of_slewed (n := n) (f := f) harb (off := off) (by omega)
    rw [hmark, if_pos hoff]

end Sys2Proof.Machine
end

section
/-! SUPPORT. The module's own cooling (R631, R632): when the inlet limit counts as passed and as left, what the failure,
the retry and the return of an internal fan write, and the fans' command; settles O58. -/

namespace Sys2Proof.Machine

/-! The inlet limit (R631). -/

theorem inletLimit_of_none_failed {s : State} (h : ∀ x ∈ s.thermal.fans, x.failed = false) :
    inletLimit s = 3520 := by
  have hany : s.thermal.fans.any (·.failed) = false := by simpa using h
  rw [inletLimit, hany]
  rfl

theorem inletLimit_of_failed {s : State} (h : ∃ x ∈ s.thermal.fans, x.failed = true) : inletLimit s = 2880 :=
  if_pos (List.any_eq_true.mpr h)

theorem inletLimit_eq_or (s : State) : inletLimit s = 2880 ∨ inletLimit s = 3520 := by
  unfold inletLimit
  split
  · exact .inl rfl
  · exact .inr rfl

/-- Holding a temperature to the range of its encoding does not move it across a limit inside that range. -/
theorem lt_satTemp_iff {l x : Int} (hlo : -32767 ≤ l) (hhi : l < 32767) : l < satTemp x ↔ l < x := by
  unfold satTemp clampI
  omega

section
variable {r : Readings} {x : Int} (hinlet : r.inlet = some x) (s : State)
include hinlet

theorem sampleCooling_overSince : (sampleCooling r s).thermal.overSince =
    if inletLimit s < x then some (s.thermal.overSince.getD s.seq.frame) else none := by
  have hsat : inletLimit s < satTemp x ↔ inletLimit s < x := by
    rcases inletLimit_eq_or s with h | h <;> exact lt_satTemp_iff (by omega) (by omega)
  simp [sampleCooling, sinceWhen, hinlet, hsat]

theorem sampleCooling_underSince : (sampleCooling r s).thermal.underSince =
    if inletLimit s - 64 < x then none else some (s.thermal.underSince.getD s.seq.frame) := by
  have hsat : inletLimit s - 64 < satTemp x ↔ inletLimit s - 64 < x := by
    rcases inletLimit_eq_or s with h | h <;> exact lt_satTemp_iff (by omega) (by omega)
  have hbelow : satTemp x + 64 ≤ inletLimit s ↔ ¬ inletLimit s - 64 < x := by
    rw [← hsat]
    omega
  simp only [sampleCooling, sinceWhen, hinlet, Option.map_some, hbelow, decide_eq_true_eq, ite_not]

end

/-! INLET_OVER and INLET_OVER_CLEAR (R631). -/

theorem execInletOver_of_due {s : State} {f : Nat} (hsince : s.thermal.overSince = some f)
    (htime : f + 600000 ≤ s.seq.frame) (hflag : s.thermal.inletOver = false) :
    execInletOver s = .next (post 0x0030
      (thermalCounter (fun t => { t with inletOver := true, overRuns := cnt t.overRuns }) s)) := by
  simp [execInletOver, hsince, htime, hflag]

theorem execInletOver_of_not_due {s : State}
    (h : ∀ f, s.thermal.overSince = some f → s.thermal.inletOver = true ∨ s.seq.frame < f + 600000) :
    execInletOver s = .next s := by
  unfold execInletOver
  cases hsince : s.thermal.overSince with
  | none => rfl
  | some f =>
    rcases h f hsince with hflag | htime
    · simp [hflag]
    · simp [Nat.not_le.mpr htime]

theorem execInletOverClear_of_due {s : State} {f : Nat} (hsince : s.thermal.underSince = some f)
    (htime : f + 600000 ≤ s.seq.frame) (hflag : s.thermal.inletOver = true) :
    execInletOverClear s = .next (post 0x0031 (thermalCounter (fun t => { t with inletOver := false }) s)) := by
  simp [execInletOverClear, hsince, htime, hflag]

theorem execInletOverClear_of_not_due {s : State}
    (h : ∀ f, s.thermal.underSince = some f → s.thermal.inletOver = false ∨ s.seq.frame < f + 600000) :
    execInletOverClear s = .next s := by
  unfold execInletOverClear
  cases hsince : s.thermal.underSince with
  | none => rfl
  | some f =>
    rcases h f hsince with hflag | htime
    · simp [hflag]
    · simp [Nat.not_le.mpr htime]

/-! The two internal fans (R632). -/

theorem inFan_updInFan_self {s : State} {i : Nat} (g : InFan → InFan) (hi : i < s.thermal.fans.length) :
    inFan (updInFan i g s) i = g (inFan s i) := getD_upd_self _ _ _ _ hi

theorem inFan_updInFan_ne {s : State} {i j : Nat} (g : InFan → InFan) (hij : i ≠ j) :
    inFan (updInFan i g s) j = inFan s j := getD_upd_ne _ _ _ _ _ hij

theorem list_eq_pair {α : Type} (d : α) : ∀ l : List α, l.length = 2 → l = [l.getD 0 d, l.getD 1 d]
  | [_, _], _ => rfl

theorem fans_eq_pair {s : State} (hlen : s.thermal.fans.length = 2) : s.thermal.fans = [inFan s 0, inFan s 1] :=
  list_eq_pair ({} : InFan) _ hlen

section
variable {s : State} {i : Nat} (hi : i < 2) (hlen : s.thermal.fans.length = 2)
include hi hlen

theorem bothFansFailed_eq : bothFansFailed s = ((inFan s i).failed && (inFan s (1 - i)).failed) := by
  rw [bothFansFailed, fans_eq_pair hlen]
  obtain rfl | rfl : i = 0 ∨ i = 1 := by omega
  · simp
  · simp [Bool.and_comm]

/-- With one fan failed the other runs at 100 %. -/
theorem fanCommand_of_one_failed (hfailed : (inFan s i).failed = true) (hother : (inFan s (1 - i)).failed = false) :
    fanCommand s = 10000 := by
  have hone : s.thermal.fans.countP (·.failed) = 1 := by
    rw [fans_eq_pair hlen]
    obtain rfl | rfl : i = 0 ∨ i = 1 := by omega
    · simp [hfailed, hother]
    · simp [hfailed, hother]
  rw [fanCommand, if_pos hone]

end

theorem fanDemand_bounds (draw : Nat) (lo hi : Int) (t : Option Int) :
    3000 ≤ fanDemand draw lo hi t ∧ fanDemand draw lo hi t ≤ 10000 := by
  cases t with
  | none =>
    simp only [fanDemand]
    omega
  | some x =>
    simp only [fanDemand, clampI]
    omega

/-! INTERNAL_FAN_FAILED (R632). -/

theorem logPost_boot (l : Log) (e : Event) : (logPost l e).boot = l.boot := by
  unfold logPost
  split <;> rfl

/-- What the failure of fan `i` makes of its record. -/
def failedFan (s : State) (x : InFan) : InFan :=
  { x with failed := true, retrying := false, lastRetry := s.seq.frame, goodSince := none }

/-- The state with fan `i` failed, counted and logged, before both fans are judged. -/
def failFan (i : Nat) (s : State) : State :=
  post 0x0032 (thermalCounter (fun t => { t with fanFailures := cnt t.fanFailures }) (updInFan i (failedFan s) s)) i

theorem execInternalFanFailed_of_due {s : State} {i f : Nat} (hi : i < 2) (hsince : (inFan s i).lowSince = some f)
    (htime : f + 50000 < s.seq.frame) (hruns : (inFan s i).failed = false) :
    execInternalFanFailed i s =
      .next (if bothFansFailed (failFan i s) then post 0x0034 (failFan i s) else failFan i s) := by
  have hdue : (decide (i < 2) && !(inFan s i).failed && decide (f + 50000 < s.seq.frame)) = true := by
    simp [hi, htime, hruns]
  simp only [execInternalFanFailed, hsince, hdue, if_true]
  rfl

theorem execInternalFanFailed_of_not_long {s : State} {i f : Nat} (hsince : (inFan s i).lowSince = some f)
    (htime : s.seq.frame ≤ f + 50000) : execInternalFanFailed i s = .next s := by
  simp [execInternalFanFailed, hsince, Nat.not_lt.mpr htime]

section
variable {s : State} {i : Nat}

theorem inFan_failFan_self (hi : i < 2) (hlen : s.thermal.fans.length = 2) :
    inFan (failFan i s) i = failedFan s (inFan s i) := inFan_updInFan_self _ (by omega)

theorem inFan_failFan_other (hi : i < 2) : inFan (failFan i s) (1 - i) = inFan s (1 - i) :=
  inFan_updInFan_ne _ (by omega)

theorem length_fans_failFan : (failFan i s).thermal.fans.length = s.thermal.fans.length := length_upd _ _ _

/-- A record posted after the failure bears the stamps of a record posted before it. -/
theorem mkEvent_failFan (code index sub : Nat) (detail : List Nat) :
    mkEvent (failFan i s) code index sub detail = mkEvent s code index sub detail := by
  have hboot : (failFan i s).log.boot = s.log.boot := logPost_boot _ _
  rw [mkEvent, hboot]
  rfl

theorem bothFansFailed_failFan (hi : i < 2) (hlen : s.thermal.fans.length = 2) :
    bothFansFailed (failFan i s) = (inFan s (1 - i)).failed := by
  rw [bothFansFailed_eq hi (length_fans_failFan.trans hlen), inFan_failFan_self hi hlen, inFan_failFan_other hi]
  exact Bool.true_and _

theorem fanCommand_failFan (hi : i < 2) (hlen : s.thermal.fans.length = 2) (hother : (inFan s (1 - i)).failed = false) :
    fanCommand (failFan i s) = 10000 := by
  refine fanCommand_of_one_failed hi (length_fans_failFan.trans hlen) ?_ ?_
  · rw [inFan_failFan_self hi hlen]
    rfl
  · rw [inFan_failFan_other hi, hother]

end

/-! INTERNAL_FAN_RETRY and INTERNAL_FAN_RESTORED (R632). -/

theorem execInternalFanRetry_of_due {s : State} {i : Nat} (hi : i < 2) (hfailed : (inFan s i).failed = true)
    (hidle : (inFan s i).retrying = false) (htime : (inFan s i).lastRetry + 600000 ≤ s.seq.frame) :
    execInternalFanRetry i s = .next (thermalCounter (fun t => { t with fanRetries := cnt t.fanRetries })
      (updInFan i (fun y => { y with retrying := true, lastRetry := s.seq.frame, goodSince := none }) s)) := by
  simp [execInternalFanRetry, hi, hfailed, hidle, htime]

theorem execInternalFanRetry_of_not_due {s : State} {i : Nat}
    (h : (inFan s i).failed = false ∨ s.seq.frame < (inFan s i).lastRetry + 600000) :
    execInternalFanRetry i s = .next s := by
  rcases h with hruns | htime
  · simp [execInternalFanRetry, hruns]
  · simp [execInternalFanRetry, Nat.not_le.mpr htime]

theorem execInternalFanRestored_of_due {s : State} {i f : Nat} (hi : i < 2) (hsince : (inFan s i).goodSince = some f)
    (hfailed : (inFan s i).failed = true) (htime : f + 100000 ≤ s.seq.frame) :
    execInternalFanRestored i s = .next (post 0x0033
      (updInFan i (fun x => { x with failed := false, retrying := false, lowSince := none }) s) i) := by
  simp [execInternalFanRestored, hi, hsince, hfailed, htime]

theorem execInternalFanRestored_of_running {s : State} {i : Nat} (hruns : (inFan s i).failed = false) :
    execInternalFanRestored i s = .next s := by
  unfold execInternalFanRestored
  cases (inFan s i).goodSince with
  | none => rfl
  | some f => simp [hruns]

/-- Settles O58: each command of R631 and R632 acts exactly when its time has run, and the counts of R631 run with the
inlet's readings. -/
theorem inletLimitAndInternalFans : Obligations.InletLimitAndInternalFans := by
  refine ⟨fun s f hsince htime hflag => ?passed, fun s h => ?notPassed, fun s f hsince htime hflag => ?left,
    fun s h => ?notLeft, fun s i f hi hlen hsince htime hruns hother => ?oneFailed,
    fun s i f hi hlen hsince htime hruns hother => ?bothFailed,
    fun s i f hsince htime => execInternalFanFailed_of_not_long hsince htime,
    fun s i hi hlen hfailed hidle htime => ?retry, fun s i h => execInternalFanRetry_of_not_due h,
    fun s i f hi hlen hsince hfailed htime => ?restored, fun s i hruns => execInternalFanRestored_of_running hruns,
    fanDemand_bounds, fun s => ⟨inletLimit_of_none_failed, inletLimit_of_failed⟩,
    fun s f hsince htime => ?tooEarlyOver, fun s f hsince htime => ?tooEarlyUnder, fun s r x hinlet => ?counts⟩
  case passed => exact ⟨_, execInletOver_of_due hsince htime hflag, rfl, rfl, rfl⟩
  case notPassed =>
    refine execInletOver_of_not_due fun f hsince => .inl (h.resolve_left ?_)
    simp [hsince]
  case left => exact ⟨_, execInletOverClear_of_due hsince htime hflag, rfl, rfl, rfl⟩
  case notLeft =>
    refine execInletOverClear_of_not_due fun f hsince => .inl (h.resolve_left ?_)
    simp [hsince]
  case oneFailed =>
    refine ⟨failFan i s, ?_, inFan_failFan_self hi hlen, inFan_failFan_other hi, rfl,
      fanCommand_failFan hi hlen hother, rfl⟩
    refine (execInternalFanFailed_of_due hi hsince htime hruns).trans ?_
    simp [bothFansFailed_failFan hi hlen, hother]
  case bothFailed =>
    have hboth : bothFansFailed (failFan i s) = true := (bothFansFailed_failFan hi hlen).trans hother
    refine ⟨post 0x0034 (failFan i s), ?_, hboth, congrArg (logPost _) (mkEvent_failFan 0x0034 0xFFFF 0xFFFF [])⟩
    exact (execInternalFanFailed_of_due hi hsince htime hruns).trans (by rw [if_pos hboth])
  case retry =>
    exact ⟨_, execInternalFanRetry_of_due hi hfailed hidle htime, inFan_updInFan_self _ (by omega), rfl, rfl⟩
  case restored =>
    exact ⟨_, execInternalFanRestored_of_due hi hsince hfailed htime, inFan_updInFan_self _ (by omega), rfl, rfl⟩
  case tooEarlyOver =>
    refine execInletOver_of_not_due fun f' hsince' => .inr ?_
    rwa [Option.some.inj (hsince'.symm.trans hsince)]
  case tooEarlyUnder =>
    refine execInletOverClear_of_not_due fun f' hsince' => .inr ?_
    rwa [Option.some.inj (hsince'.symm.trans hsince)]
  case counts =>
    rw [sampleCooling_overSince hinlet, sampleCooling_underSince hinlet]
    exact ⟨fun h => if_pos h, fun h => if_neg (Int.not_lt.mpr h), fun h => if_neg (Int.not_lt.mpr h),
      fun h => if_pos h⟩

end Sys2Proof.Machine
end

section
/-! SUPPORT. The bounds of the log's memories (R559, R562) under every command: the two operations that write the queue
and the buffer keep them, one lemma per operation of the model carries them on in the order of the model's files, and
each command's meaning follows; settles O48. -/

namespace Sys2Proof.Machine

/-- The bounds of `State.logBounded`, said of the log alone. -/
abbrev LogFits (l : Log) : Prop := l.queue.length ≤ 1024 ∧ l.lastWords.length ≤ 64

/-- `State.logBounded` as a definition, so that two cases of it are compared by their states. -/
def Bounded (s : State) : Prop := s.logBounded

/-- An outcome whose next state, where it has one, keeps the bounds. -/
def NextBounded : Host.Outcome State Fault Refusal → Prop
  | .next t => Bounded t
  | _ => True

theorem logPost_fits {l e} (h : LogFits l) : LogFits (logPost l e) := by
  unfold logPost
  split
  · refine ⟨?_, h.2⟩
    simp only [List.length_append, List.length_singleton]
    omega
  · exact h

theorem logLastWord_fits {l e} (h : LogFits l) : LogFits (logLastWord l e) := ⟨h.1, List.length_take_le 64 _⟩

theorem reset_bounded : Bounded State.reset := ⟨Nat.zero_le _, Nat.zero_le _⟩

/-- A state given by its parts keeps the bounds when its log fits. -/
theorem bounded_mk_log {free seq wall sched key img pow thermal log maint heat caps plan plant eng ctl pump can link
    valve leak pair sec mgmt latch sent pending} (h : LogFits log) :
    Bounded (State.mk free seq wall sched key img pow thermal log maint heat caps plan plant eng ctl pump can link
      valve leak pair sec mgmt latch sent pending) := h

/-- A state made of another by an update of other parts keeps the bounds with it. -/
theorem bounded_mk {t : State} {free seq wall sched key img pow thermal maint heat caps plan plant eng ctl pump can link
    valve leak pair sec mgmt latch sent pending} (h : Bounded t) :
    Bounded (State.mk free seq wall sched key img pow thermal t.log maint heat caps plan plant eng ctl pump can link
      valve leak pair sec mgmt latch sent pending) := h

theorem bounded_ite {c : Prop} [Decidable c] {a b : State} (ha : Bounded a) (hb : Bounded b) :
    Bounded (if c then a else b) := by
  split
  · exact ha
  · exact hb

theorem bounded_ite_snd {α : Type} {c : Prop} [Decidable c] {a b : α × State} (ha : Bounded a.2) (hb : Bounded b.2) :
    Bounded (if c then a else b).2 := by
  split
  · exact ha
  · exact hb

theorem nextBounded_ite {c : Prop} [Decidable c] {a b : Host.Outcome State Fault Refusal} (ha : NextBounded a)
    (hb : NextBounded b) : NextBounded (if c then a else b) := by
  split
  · exact ha
  · exact hb

section
variable {s : State}

theorem foldl_bounded {α : Type} {f : State → α → State} (hf : ∀ t a, Bounded t → Bounded (f t a))
    {l : List α} (h : Bounded s) : Bounded (l.foldl f s) :=
  List.foldlRecOn l f h fun t ht a _ => hf t a ht

/-- A fold that carries the state beside a result keeps the bounds when its step does. -/
theorem foldl_snd_bounded {α β : Type} {f : β × State → α → β × State} {b : β}
    (hf : ∀ p a, Bounded p.2 → Bounded (f p a).2) {l : List α} (h : Bounded s) : Bounded (l.foldl f (b, s)).2 :=
  List.foldlRecOn (motive := fun p => Bounded p.2) l f h fun p hp a _ => hf p a hp

theorem setLog_bounded {f} (h : LogFits (f s.log)) : Bounded (setLog f s) := h

theorem post_bounded {code index sub detail} (h : Bounded s) : Bounded (post code s index sub detail) := logPost_fits h

theorem lastWord_bounded {code detail} (h : Bounded s) : Bounded (lastWord code s detail) := logLastWord_fits h

theorem markRun_bounded {code index} (h : Bounded s) : Bounded (markRun code index s) := h

/-! The operations of Machine/Ops.lean. -/

theorem postRun_bounded {code index sub detail} (h : Bounded s) : Bounded (postRun code s index sub detail) :=
  bounded_ite (markRun_bounded h) (post_bounded (markRun_bounded h))

theorem postEvery_bounded {gap code index sub detail} (h : Bounded s) :
    Bounded (postEvery gap code s index sub detail) :=
  bounded_ite h (post_bounded (markRun_bounded h))

theorem send_bounded {t} (h : Bounded s) : Bounded (send t s) := h

theorem updSession_bounded {i f} (h : Bounded s) : Bounded (updSession i f s) := h

theorem notify_bounded {topic index data} (h : Bounded s) : Bounded (notify topic index data s) := h

/-! The operations of Machine/PowerOps.lean. -/

theorem setDomain_bounded {d f} (h : Bounded s) : Bounded (setDomain d f s) := h

theorem powerDomain_bounded {d} (h : Bounded s) : Bounded (powerDomain d s) :=
  bounded_ite h
    (bounded_ite (setDomain_bounded h)
      (by
          split
          · exact bounded_ite (setDomain_bounded h) (setDomain_bounded h)
          · exact setDomain_bounded h))

theorem powerDomains_bounded {bank} (h : Bounded s) : Bounded (powerDomains bank s) :=
  foldl_bounded (fun _ _ ht => powerDomain_bounded ht) (bounded_mk h)

theorem railDomainsOff_bounded {k} (h : Bounded s) : Bounded (railDomainsOff k s) := h

theorem calEvents_bounded {g old new} (h : Bounded s) : Bounded (calEvents g old new s) :=
  foldl_bounded (fun _ _ ht => bounded_ite (post_bounded ht) ht) h

theorem storeCal_bounded {g c} (h : Bounded s) : Bounded (storeCal g c s) := h

theorem storeLock_bounded {p us} (h : Bounded s) : Bounded (storeLock p us s) :=
  bounded_ite (post_bounded (bounded_mk h)) (bounded_mk h)

theorem storeSense_bounded {c dev} (h : Bounded s) : Bounded (storeSense c dev s) :=
  bounded_ite (post_bounded (bounded_mk h)) (bounded_mk h)

theorem calibrate_bounded {powered f} (h : Bounded s) : Bounded (calibrate powered f s) := by
  unfold calibrate
  extract_lets group s1 s2
  have h1 : Bounded s1 := foldl_bounded
    (fun _ _ ht => bounded_ite (bounded_mk (storeCal_bounded (calEvents_bounded ht))) ht) h
  have h2 : Bounded s2 := foldl_bounded (fun _ _ ht => bounded_ite (storeSense_bounded ht) ht) h1
  exact foldl_bounded (fun _ _ ht => bounded_ite (storeLock_bounded ht) ht) h2

theorem calibrationDomains_bounded (h : Bounded s) : Bounded (calibrationDomains s) := by
  unfold calibrationDomains
  extract_lets fail s1
  have hfail {d t} (ht : Bounded t) : Bounded (fail d t) := bounded_ite (setDomain_bounded ht) ht
  have h1 : Bounded s1 := foldl_bounded (fun _ _ ht => bounded_ite (hfail ht) ht) h
  exact bounded_ite (hfail h1) h1

theorem cycleDomain_bounded {d} (h : Bounded s) : Bounded (cycleDomain d s) :=
  bounded_ite (post_bounded (setDomain_bounded h)) h

theorem failCycle_bounded {d} (h : Bounded s) : Bounded (failCycle d s) :=
  bounded_ite (post_bounded (setDomain_bounded h)) (post_bounded (setDomain_bounded h))

theorem driftEvents_bounded {g start old new} (h : Bounded s) : Bounded (driftEvents g start old new s) :=
  foldl_bounded (fun _ _ ht => bounded_ite (post_bounded ht) ht) h

theorem execPeriodicCalibration_bounded {group adc sources} (h : Bounded s) :
    NextBounded (execPeriodicCalibration group adc sources s) :=
  nextBounded_ite (driftEvents_bounded (bounded_mk (storeCal_bounded (calEvents_bounded h)))) h

theorem execUpperFillComplete_bounded (h : Bounded s) : NextBounded (execUpperFillComplete s) :=
  nextBounded_ite (bounded_mk h) h

theorem execBackupDriveStart_bounded (h : Bounded s) : NextBounded (execBackupDriveStart s) :=
  nextBounded_ite (bounded_mk h) h

theorem releaseBackup_bounded (h : Bounded s) : Bounded (releaseBackup s) := h

theorem execBackupDriveRelease_bounded (h : Bounded s) : NextBounded (execBackupDriveRelease s) :=
  bounded_mk (releaseBackup_bounded h)

theorem execBackupHeartbeatLoss_bounded (h : Bounded s) : NextBounded (execBackupHeartbeatLoss s) :=
  releaseBackup_bounded h

theorem execCrystalTry_bounded {pass} (h : Bounded s) : NextBounded (execCrystalTry pass s) :=
  nextBounded_ite
    (nextBounded_ite (post_bounded (bounded_mk (bounded_mk h)))
      (bounded_ite (post_bounded (post_bounded (bounded_mk h))) (post_bounded (bounded_mk h))))
    h

theorem execHeldRelease_bounded (h : Bounded s) : NextBounded (execHeldRelease s) := by
  unfold execHeldRelease
  split
  · exact nextBounded_ite (bounded_mk h) h
  · exact h

/-! The operations of Machine/Sites.lean. -/

theorem updSiteP_bounded {i f} (h : Bounded s) : Bounded (updSiteP i f s) := h

theorem updSiteC_bounded {i f} (h : Bounded s) : Bounded (updSiteC i f s) := h

theorem updLoopP_bounded {l f} (h : Bounded s) : Bounded (updLoopP l f s) := h

theorem updTenant_bounded {t f} (h : Bounded s) : Bounded (updTenant t f s) := h

theorem heatCount_bounded {k n} (h : Bounded s) : Bounded (heatCount k n s) := h

theorem capCount_bounded {k} (h : Bounded s) : Bounded (capCount k s) := h

/-! The operations of Machine/Control.lean. -/

theorem updCtl_bounded {i f} (h : Bounded s) : Bounded (updCtl i f s) := h

theorem freezeLoop_bounded {i cause held} (h : Bounded s) : Bounded (freezeLoop i cause held s) :=
  post_bounded (updCtl_bounded h)

theorem runLoop_bounded {i a} (h : Bounded s) : Bounded (runLoop i a s) := updCtl_bounded h

theorem loopState_bounded {i cause} (h : Bounded s) : Bounded (loopState i cause s) := by
  unfold loopState
  extract_lets
  split
  · exact h
  · exact bounded_ite h (bounded_ite (runLoop_bounded h) (freezeLoop_bounded h))
  · exact bounded_ite h (freezeLoop_bounded h)
  · exact bounded_ite (updCtl_bounded h) (updCtl_bounded h)

theorem loopStates_bounded (h : Bounded s) : Bounded (loopStates s) := by
  unfold loopStates
  extract_lets s1 s2
  have h1 : Bounded s1 := foldl_bounded (fun _ _ ht => foldl_bounded (fun _ _ ht => loopState_bounded ht) ht) h
  have h2 : Bounded s2 := bounded_mk h1
  exact bounded_ite (post_bounded h2) h2

theorem loopProfile_bounded {i} (h : Bounded s) : Bounded (loopProfile i s) := updCtl_bounded h

theorem loopExecute_bounded {i} (h : Bounded s) : Bounded (loopExecute i s) := by
  unfold loopExecute
  exact bounded_ite
      (by
        split
        · exact h
        · exact bounded_ite
              (bounded_mk
                (bounded_ite
                  (postRun_bounded (bounded_ite (postRun_bounded (updCtl_bounded h)) (updCtl_bounded h)))
                  (bounded_ite (postRun_bounded (updCtl_bounded h)) (updCtl_bounded h))))
              (bounded_ite (postRun_bounded (bounded_ite (postRun_bounded (updCtl_bounded h)) (updCtl_bounded h)))
                (bounded_ite (postRun_bounded (updCtl_bounded h)) (updCtl_bounded h))))
      h

theorem probesStep_bounded {late} (h : Bounded s) : Bounded (probesStep late s) :=
  foldl_bounded
    (fun _ _ ht => bounded_ite (post_bounded (bounded_ite (post_bounded ht) ht)) (bounded_ite (post_bounded ht) ht))
    (bounded_mk h)

theorem controlSlice_bounded (h : Bounded s) : Bounded (controlSlice s) := by
  unfold controlSlice
  extract_lets s1 s2 s3
  have h1 : Bounded s1 := loopStates_bounded h
  have h2 : Bounded s2 := foldl_bounded (fun _ _ ht => loopProfile_bounded ht) h1
  have h3 : Bounded s3 := foldl_bounded (fun _ _ ht => loopExecute_bounded ht) h2
  exact probesStep_bounded h3

theorem controlOverrun_bounded (h : Bounded s) : Bounded (controlOverrun s) := probesStep_bounded h

theorem applyTargets_bounded (h : Bounded s) : Bounded (applyTargets s) :=
  bounded_mk
    (foldl_bounded (fun _ _ ht => post_bounded (updCtl_bounded ht))
      (foldl_bounded (fun _ _ ht => updCtl_bounded ht) h))

theorem initLoops_bounded (h : Bounded s) : Bounded (initLoops s) :=
  foldl_bounded (fun _ _ ht => bounded_ite (updCtl_bounded ht) (updCtl_bounded ht)) h

theorem loopsLeaveControl_bounded (h : Bounded s) : Bounded (loopsLeaveControl s) := h

theorem scheduleSetPoint_bounded {payload} (h : Bounded s) : Bounded (scheduleSetPoint payload s) :=
  bounded_ite (bounded_mk h) (post_bounded h)

theorem updProbe_bounded {i f} (h : Bounded s) : Bounded (updProbe i f s) := h

theorem armProbe_bounded {i} (h : Bounded s) : Bounded (armProbe i s) :=
  bounded_ite h (bounded_ite (updProbe_bounded h) (post_bounded h))

theorem abortProbe_bounded {i} (h : Bounded s) : Bounded (abortProbe i s) := bounded_ite (updProbe_bounded h) h

theorem probesLost_bounded (h : Bounded s) : Bounded (probesLost s) :=
  foldl_bounded (fun _ _ ht => bounded_ite (post_bounded (updProbe_bounded ht)) ht) h

theorem execProbeArm_bounded {index} (h : Bounded s) : NextBounded (execProbeArm index s) := armProbe_bounded h

theorem execProbeAbort_bounded {index} (h : Bounded s) : NextBounded (execProbeAbort index s) := abortProbe_bounded h

theorem execProbeDone_bounded {index} (h : Bounded s) : NextBounded (execProbeDone index s) :=
  bounded_ite (post_bounded (updProbe_bounded h)) h

theorem execLoopResume_bounded {index} (h : Bounded s) : NextBounded (execLoopResume index s) :=
  bounded_ite (post_bounded (runLoop_bounded h)) h

/-! The operations of Machine/Valves.lean. -/

theorem updCh_bounded {c f} (h : Bounded s) : Bounded (updCh c f s) := h

theorem updBank_bounded {b f} (h : Bounded s) : Bounded (updBank b f s) := h

theorem valveCount_bounded {k} (h : Bounded s) : Bounded (valveCount k s) := h

theorem dropChannel_bounded {c} (h : Bounded s) : Bounded (dropChannel s c) := updCh_bounded h

theorem dropBank_bounded {b} (h : Bounded s) : Bounded (dropBank b s) :=
  foldl_bounded (fun _ _ ht => dropChannel_bounded ht) h

theorem bankRefresh_bounded {b} (h : Bounded s) : Bounded (bankRefresh s b) := by
  unfold bankRefresh
  extract_lets
  split
  · exact bounded_ite (updBank_bounded h) h
  · exact bounded_ite h (dropBank_bounded (updBank_bounded h))
  · exact h
  · exact h
  · exact h

theorem banksRefresh_bounded (h : Bounded s) : Bounded (banksRefresh s) :=
  foldl_bounded (fun _ _ ht => bankRefresh_bounded ht) h

theorem failChannel_bounded {c reason code} (h : Bounded s) : Bounded (failChannel c reason code s) := by
  unfold failChannel
  extract_lets s1 s2
  have h1 : Bounded s1 := updCh_bounded h
  have h2 : Bounded s2 := post_bounded (valveCount_bounded h1)
  exact bounded_ite (dropChannel_bounded h2)
      (by
        split
        · exact bounded_ite h2 (bounded_ite (dropChannel_bounded h2) (updCh_bounded (dropChannel_bounded h2)))
        · exact bounded_ite (dropChannel_bounded h2) h2)

theorem stageRelease_bounded {c} (h : Bounded s) : Bounded (stageRelease s c) := by
  unfold stageRelease
  exact bounded_ite
      (by
        split
        · exact bounded_ite (updCh_bounded h) (bounded_ite (updCh_bounded (updCh_bounded h)) (updCh_bounded h))
        · exact updCh_bounded h)
      (by
        split
        · exact bounded_ite (updCh_bounded h) (bounded_ite (valveCount_bounded (updCh_bounded h)) h)
        · exact updCh_bounded h)

theorem admitChannel_bounded {c} (h : Bounded s) : Bounded (admitChannel c s) := updCh_bounded h

theorem preemptOne_bounded {b t} (h : Bounded s) (heq : preemptOne b s = some t) : Bounded t := by
  unfold preemptOne at heq
  extract_lets l at heq
  split at heq
  · cases heq
  · cases heq
    exact post_bounded (valveCount_bounded (updCh_bounded h))

theorem preemptUntil_bounded {c} : ∀ {k} {s : State}, Bounded s → Bounded (preemptUntil c k s)
  | 0, _, h => h
  | _ + 1, _, h => by
    unfold preemptUntil
    split
    · exact h
    · split
      next heq => exact preemptUntil_bounded (preemptOne_bounded h heq)
      next => exact h

theorem admitBank_bounded {b} : ∀ {l blocked} {s : State}, Bounded s → Bounded (admitBank b l blocked s)
  | [], _, _, h => h
  | (_, _) :: _, _, _, h => by
    unfold admitBank
    extract_lets wait s1
    have hwait : Bounded wait := admitBank_bounded h
    have h1 : Bounded s1 := bounded_ite (preemptUntil_bounded h) h
    exact bounded_ite hwait (bounded_ite hwait (bounded_ite hwait
      (bounded_ite (admitBank_bounded (admitChannel_bounded h1)) (admitBank_bounded h1))))

theorem bankAdmission_bounded {b} (h : Bounded s) : Bounded (bankAdmission s b) := by
  unfold bankAdmission
  extract_lets s1 _ s2 s3
  have h1 : Bounded s1 := foldl_bounded (fun _ _ ht => stageRelease_bounded ht) h
  have h2 : Bounded s2 := admitBank_bounded h1
  have h3 : Bounded s3 := foldl_bounded (fun _ _ ht => bounded_ite ht (valveCount_bounded ht)) h2
  exact bounded_ite h3 (postRun_bounded h3)

theorem valveAdmission_bounded (h : Bounded s) : Bounded (valveAdmission s) :=
  foldl_bounded (fun _ _ ht => bankAdmission_bounded ht) h

theorem execValveRelease_bounded {channel} (h : Bounded s) : NextBounded (execValveRelease channel s) :=
  bounded_ite (dropChannel_bounded h) h

theorem execPeakEnd_bounded {channel} (h : Bounded s) : NextBounded (execPeakEnd channel s) :=
  bounded_ite (updCh_bounded h) h

theorem execReleasingComplete_bounded {channel currentMa} (h : Bounded s) :
    NextBounded (execReleasingComplete channel currentMa s) :=
  bounded_ite (updCh_bounded h) h

theorem execDipDetected_bounded {channel time depth} (h : Bounded s) :
    NextBounded (execDipDetected channel time depth s) :=
  bounded_ite (valveCount_bounded (updCh_bounded h)) h

theorem execMissingDip_bounded {channel} (h : Bounded s) : NextBounded (execMissingDip channel s) := by
  unfold execMissingDip
  exact bounded_ite
      (bounded_ite (failChannel_bounded (post_bounded (valveCount_bounded (updCh_bounded h))))
        (post_bounded (valveCount_bounded (updCh_bounded h))))
      h

theorem execCoilShort_bounded {channel} (h : Bounded s) : NextBounded (execCoilShort channel s) :=
  bounded_ite (failChannel_bounded (valveCount_bounded h)) h

theorem execOpenCoilEnergised_bounded {channel} (h : Bounded s) : NextBounded (execOpenCoilEnergised channel s) :=
  bounded_ite (failChannel_bounded (valveCount_bounded h)) h

theorem execOpenCoilReleased_bounded {channel pinMv} (h : Bounded s) :
    NextBounded (execOpenCoilReleased channel pinMv s) :=
  bounded_ite (failChannel_bounded (valveCount_bounded (updCh_bounded h))) h

theorem execSwitchFailedOn_bounded {channel currentMa} (h : Bounded s) :
    NextBounded (execSwitchFailedOn channel currentMa s) :=
  bounded_ite (post_bounded (dropBank_bounded (updBank_bounded (valveCount_bounded h)))) h

theorem bankTrip_bounded {b} (h : Bounded s) : Bounded (bankTrip b s) := by
  unfold bankTrip
  exact bounded_ite h
      (bounded_ite (post_bounded (post_bounded (dropBank_bounded (updBank_bounded (valveCount_bounded h)))))
        (post_bounded (dropBank_bounded (updBank_bounded (valveCount_bounded h)))))

theorem execBankOvercurrent_bounded {bank hsMa} (h : Bounded s) : NextBounded (execBankOvercurrent bank hsMa s) :=
  bounded_ite (bankTrip_bounded (updBank_bounded h)) h

theorem execGroundFault_bounded {bank hsMa lsMa} (h : Bounded s) :
    NextBounded (execGroundFault bank hsMa lsMa s) :=
  bounded_ite (bankTrip_bounded (updBank_bounded h)) h

theorem execBankTripRecovery_bounded {bank} (h : Bounded s) : NextBounded (execBankTripRecovery bank s) :=
  bounded_ite (updBank_bounded h) h

theorem driverTemp_bounded {b temp} (h : Bounded s) : Bounded (driverTemp b temp s) := by
  unfold driverTemp
  extract_lets _ s1 s2
  have h1 : Bounded s1 := updBank_bounded h
  have h2 : Bounded s2 := bounded_ite (postRun_bounded (bounded_ite h1 (valveCount_bounded h1))) h1
  exact bounded_ite (post_bounded (dropBank_bounded (updBank_bounded (valveCount_bounded h2)))) h2

theorem execDriverHot_bounded {bank temp} (h : Bounded s) : NextBounded (execDriverHot bank temp s) :=
  bounded_ite (driverTemp_bounded h) h

theorem execDriverCool_bounded {bank temp} (h : Bounded s) : NextBounded (execDriverCool bank temp s) := by
  unfold execDriverCool
  extract_lets
  split
  · exact bounded_ite (updBank_bounded (driverTemp_bounded h)) (driverTemp_bounded h)
  · exact driverTemp_bounded h

theorem dutyJudge_bounded {c} (h : Bounded s) : Bounded (dutyJudge c s) :=
  bounded_ite (updCh_bounded (postRun_bounded h)) (bounded_ite (updCh_bounded h) h)

theorem dutyAccount_bounded {c uj} (h : Bounded s) : Bounded (dutyAccount c uj s) :=
  dutyJudge_bounded (updCh_bounded h)

theorem dutySecond_bounded (h : Bounded s) : Bounded (dutySecond s) :=
  bounded_ite (foldl_bounded (fun _ _ ht => dutyJudge_bounded ht) (bounded_mk h)) h

theorem execDutyLimit_bounded {channel uj} (h : Bounded s) : NextBounded (execDutyLimit channel uj s) :=
  dutyAccount_bounded h

theorem execValveRequestRefused_bounded {channel} (h : Bounded s) :
    NextBounded (execValveRequestRefused channel s) := by
  unfold execValveRequestRefused
  extract_lets
  split
  · exact bounded_ite (post_bounded (valveCount_bounded (updCh_bounded h))) h
  · exact h

theorem sampleValves_bounded {r} (h : Bounded s) : Bounded (sampleValves r s) :=
  foldl_bounded (fun _ _ ht => by
      split
      · exact driverTemp_bounded ht
      · exact ht) (bounded_mk h)

theorem energise_bounded {channel} (h : Bounded s) : Bounded (energise channel s) :=
  valveCount_bounded (updBank_bounded (updCh_bounded h))

theorem applySetValve_bounded {c code} (h : Bounded s) : Bounded (applySetValve c code s) := updCh_bounded h

theorem applyClearValve_bounded {isBank n} (h : Bounded s) : Bounded (applyClearValve isBank n s) :=
  bounded_ite (post_bounded (valveCount_bounded (updBank_bounded h)))
    (post_bounded (valveCount_bounded (updCh_bounded h)))

/-! The operations of Machine/Pumps.lean. -/

theorem updPump_bounded {p f} (h : Bounded s) : Bounded (updPump p f s) := h

theorem updFan_bounded {i f} (h : Bounded s) : Bounded (updFan i f s) := h

theorem pumpCount_bounded {k} (h : Bounded s) : Bounded (pumpCount k s) := h

theorem zoneStep_bounded {z} (h : Bounded s) : Bounded (zoneStep s z) :=
  bounded_ite h (bounded_ite (postRun_bounded (bounded_mk h)) (bounded_mk h))

theorem outputsInForce_bounded (h : Bounded s) : Bounded (outputsInForce s) := h

theorem releaseOutputs_bounded (h : Bounded s) : Bounded (releaseOutputs s) := h

theorem pumpSpeed_bounded {z p} (h : Bounded s) : Bounded (pumpSpeed z s p) := bounded_mk (updPump_bounded h)

theorem fanSpeed_bounded {f} (h : Bounded s) : Bounded (fanSpeed s f) := updFan_bounded h

theorem groupStep_bounded {g} (h : Bounded s) : Bounded (groupStep s g) := h

theorem loopOutputs_bounded (h : Bounded s) : Bounded (loopOutputs s) :=
  foldl_bounded (fun _ _ ht => by
      extract_lets
      split
      · exact ht
      · exact bounded_ite (bounded_mk ht) ht) h

theorem newDay_bounded {day} (h : Bounded s) : Bounded (newDay day s) := post_bounded (bounded_mk h)

theorem keepTimeLeft_bounded (h : Bounded s) : Bounded (keepTimeLeft s) := bounded_ite (bounded_mk h) h

theorem takeWallDay_bounded (h : Bounded s) : Bounded (takeWallDay s) :=
  bounded_ite (keepTimeLeft_bounded (bounded_mk h)) h

theorem execWaterDayRollover_bounded (h : Bounded s) : NextBounded (execWaterDayRollover s) :=
  bounded_ite (bounded_ite (keepTimeLeft_bounded (newDay_bounded h)) (keepTimeLeft_bounded h))
    (bounded_ite (takeWallDay_bounded h) (bounded_ite (newDay_bounded h) h))

theorem waterFrame_bounded (h : Bounded s) : Bounded (waterFrame s) :=
  bounded_ite (post_bounded (bounded_mk (bounded_mk h))) (bounded_mk h)

theorem sprayService_bounded (h : Bounded s) : Bounded (sprayService s) := h

theorem closeSpray_bounded (h : Bounded s) : Bounded (closeSpray s) := h

theorem sprayCycle_bounded (h : Bounded s) : Bounded (sprayCycle s) :=
  bounded_ite (bounded_mk h) (pumpCount_bounded (bounded_mk h))

theorem execSprayCycle_bounded (h : Bounded s) : NextBounded (execSprayCycle s) :=
  bounded_ite (sprayCycle_bounded h) h

theorem sprayStep_bounded (h : Bounded s) : Bounded (sprayStep s) :=
  bounded_ite (bounded_ite h (closeSpray_bounded h)) (bounded_mk (bounded_mk h))

theorem flushStep_bounded (h : Bounded s) : Bounded (flushStep s) := by
  unfold flushStep
  split
  · exact h
  · exact bounded_mk h

theorem execVigilHold_bounded (h : Bounded s) : NextBounded (execVigilHold s) :=
  bounded_ite (post_bounded (pumpCount_bounded (closeSpray_bounded (bounded_mk h)))) h

theorem endVigil_bounded (h : Bounded s) : Bounded (endVigil s) := h

theorem vigilCommit_bounded {committed} (h : Bounded s) : Bounded (vigilCommit committed s) :=
  bounded_ite (bounded_ite (post_bounded (bounded_mk (bounded_mk h))) (bounded_mk h)) (bounded_mk h)

theorem groupFull_bounded {g} (h : Bounded s) : Bounded (groupFull g s) := bounded_ite (post_bounded (bounded_mk h)) h

theorem stallPump_bounded {p} (h : Bounded s) : Bounded (stallPump p s) := by
  unfold stallPump
  exact bounded_ite h
      (groupFull_bounded
        (post_bounded
          (pumpCount_bounded
            (bounded_ite (pumpCount_bounded (updPump_bounded h)) (pumpCount_bounded (updPump_bounded h))))))

theorem stallFan_bounded {f} (h : Bounded s) : Bounded (stallFan f s) := by
  unfold stallFan
  exact bounded_ite h
      (groupFull_bounded
        (post_bounded
          (pumpCount_bounded
            (bounded_ite (pumpCount_bounded (updFan_bounded h)) (pumpCount_bounded (updFan_bounded h))))))

theorem restartPump_bounded {p} (h : Bounded s) : Bounded (restartPump p s) := updPump_bounded h

theorem restartFan_bounded {f} (h : Bounded s) : Bounded (restartFan f s) := updFan_bounded h

theorem elementStall_bounded {element statusFault} (h : Bounded s) :
    Bounded (elementStall element statusFault s) :=
  bounded_ite (bounded_ite (stallPump_bounded h) h) (bounded_ite (stallFan_bounded h) h)

theorem execElementRetryEnd_bounded {element} (h : Bounded s) : NextBounded (execElementRetryEnd element s) :=
  bounded_ite (bounded_ite (post_bounded (restartPump_bounded h)) h)
    (bounded_ite (post_bounded (restartFan_bounded h)) h)

theorem execRetryCountReset_bounded {element} (h : Bounded s) : NextBounded (execRetryCountReset element s) :=
  bounded_ite (bounded_ite (updPump_bounded h) h) (bounded_ite (updFan_bounded h) h)

theorem execGroupFullSpeedEnd_bounded {group} (h : Bounded s) : NextBounded (execGroupFullSpeedEnd group s) :=
  bounded_ite (post_bounded (bounded_mk h)) h

theorem pumpDomain_bounded {p} (h : Bounded s) : Bounded (pumpDomain s p) := by
  unfold pumpDomain
  extract_lets
  split
  · exact h
  · exact bounded_ite h (bounded_ite (bounded_ite (updPump_bounded h) (updPump_bounded (restartPump_bounded h))) h)
  · exact bounded_ite h (updPump_bounded h)

theorem fanDomain_bounded {f} (h : Bounded s) : Bounded (fanDomain s f) := by
  unfold fanDomain
  extract_lets
  split
  · exact h
  · exact bounded_ite (updFan_bounded (restartFan_bounded h)) h
  · exact bounded_ite h (updFan_bounded h)

theorem elementDomains_bounded (h : Bounded s) : Bounded (elementDomains s) :=
  foldl_bounded (fun _ _ ht => fanDomain_bounded ht) (foldl_bounded (fun _ _ ht => pumpDomain_bounded ht) h)

theorem initElements_bounded (h : Bounded s) : Bounded (initElements s) := h

theorem execPumpStatusStale_bounded {index} (h : Bounded s) : NextBounded (execPumpStatusStale index s) :=
  bounded_ite (post_bounded (pumpCount_bounded (updPump_bounded h))) h

theorem pumpStatus_bounded {p bytes} (h : Bounded s) : Bounded (pumpStatus p bytes s) :=
  bounded_ite (pumpCount_bounded h)
    (bounded_ite
      (elementStall_bounded (bounded_ite (post_bounded (updPump_bounded (updPump_bounded h))) (updPump_bounded h)))
      (bounded_ite (post_bounded (updPump_bounded (updPump_bounded h))) (updPump_bounded h)))

theorem execPumpStatusReceived_bounded {index bytes} (h : Bounded s) :
    NextBounded (execPumpStatusReceived index bytes s) :=
  bounded_ite (pumpStatus_bounded h) h

theorem execPumpOverspeedLimit_bounded {index} (h : Bounded s) : NextBounded (execPumpOverspeedLimit index s) := by
  unfold execPumpOverspeedLimit
  split
  · exact bounded_ite (updPump_bounded h) h
  · exact h

theorem execOverspeedRestEnd_bounded {index} (h : Bounded s) : NextBounded (execOverspeedRestEnd index s) := by
  unfold execOverspeedRestEnd
  split
  · exact bounded_ite (updPump_bounded h) h
  · exact h

theorem applyClearElement_bounded {isFan n} (h : Bounded s) : Bounded (applyClearElement isFan n s) :=
  bounded_ite (post_bounded (updFan_bounded (restartFan_bounded h)))
    (post_bounded (updPump_bounded (restartPump_bounded h)))

theorem applySprayInhibit_bounded {v} (h : Bounded s) : Bounded (applySprayInhibit v s) :=
  post_bounded (bounded_ite (closeSpray_bounded (bounded_mk h)) (bounded_mk h))

theorem speedLogic_bounded (h : Bounded s) : Bounded (speedLogic s) := by
  unfold speedLogic
  extract_lets s0 s1
  have h1 : Bounded s0 := foldl_bounded (fun _ _ ht => zoneStep_bounded ht) (sprayService_bounded h)
  have h2 : Bounded s1 := foldl_bounded (fun _ _ ht => groupStep_bounded ht) h1
  exact bounded_ite h2
      (loopOutputs_bounded
        (waterFrame_bounded
          (flushStep_bounded
            (sprayStep_bounded
              (foldl_bounded (fun _ _ ht => fanSpeed_bounded ht)
                (foldl_bounded (fun _ _ ht => pumpSpeed_bounded ht) h2))))))

/-! The operations of Machine/Activities.lean. -/

theorem updActivity_bounded {i f} (h : Bounded s) : Bounded (updActivity i f s) := h

theorem endActivity_bounded {i st cause} (h : Bounded s) : Bounded (endActivity i st cause s) :=
  bounded_ite h
    (bounded_ite (post_bounded (bounded_mk (updActivity_bounded h)))
      (post_bounded (bounded_mk (updActivity_bounded h))))

theorem abortWhere_bounded {cause p} (h : Bounded s) : Bounded (abortWhere cause p s) :=
  foldl_bounded (fun _ _ ht => bounded_ite (endActivity_bounded ht) ht) h

theorem abortAll_bounded {cause} (h : Bounded s) : Bounded (abortAll cause s) := abortWhere_bounded h

theorem abortFailed_bounded (h : Bounded s) : Bounded (abortFailed s) := abortWhere_bounded h

theorem abortPumpStall_bounded (h : Bounded s) : Bounded (abortPumpStall s) := by
  unfold abortPumpStall
  exact abortWhere_bounded h

theorem abortFlush_bounded (h : Bounded s) : Bounded (abortFlush s) := abortWhere_bounded h

theorem execElementStall_bounded {element} (h : Bounded s) : NextBounded (execElementStall element s) :=
  abortPumpStall_bounded (elementStall_bounded h)

/-! The operations of Machine/Pages.lean. -/

theorem setPage_bounded {k f} (h : Bounded s) : Bounded (setPage k f s) := h

theorem tick_bounded (h : Bounded s) : Bounded (tick s) := h

theorem grantPage_bounded {k site surge cover} (h : Bounded s) : Bounded (grantPage k site surge cover s) :=
  tick_bounded (setPage_bounded h)

theorem drainPage_bounded {k next} (h : Bounded s) : Bounded (drainPage k next s) := tick_bounded (setPage_bounded h)

theorem clearPage_bounded {st k} (h : Bounded s) : Bounded (clearPage st k s) := setPage_bounded h

theorem cancelPromise_bounded {k} (h : Bounded s) : Bounded (cancelPromise k s) := setPage_bounded h

theorem shrinkPool_bounded {l} (h : Bounded s) : Bounded (shrinkPool l s) := by
  unfold shrinkPool
  extract_lets _ _ s1 s2
  have h1 : Bounded s1 := foldl_bounded (fun _ _ ht => clearPage_bounded ht) h
  have h2 : Bounded s2 := heatCount_bounded h1
  exact bounded_ite (post_bounded h2) h2

theorem fillPool_bounded {l} (h : Bounded s) : Bounded (fillPool l s) :=
  foldl_bounded (fun _ _ ht => clearPage_bounded ht) h

theorem takePool_bounded {l} (h : Bounded s) : Bounded (takePool l s) := by
  unfold takePool
  exact bounded_ite (updLoopP_bounded h)
      (bounded_ite (shrinkPool_bounded (updLoopP_bounded h))
        (bounded_ite (updLoopP_bounded h) (post_bounded (updLoopP_bounded h))))

theorem surgeRemoval_bounded {l} (h : Bounded s) : Bounded (surgeRemoval l s) := by
  unfold surgeRemoval
  extract_lets _ _ _ s1
  have h1 : Bounded s1 := foldl_bounded (fun _ _ ht => drainPage_bounded ht) h
  exact bounded_ite h1 (post_bounded (heatCount_bounded h1))

theorem clampSurge_bounded {l} (h : Bounded s) : Bounded (clampSurge l s) := updLoopP_bounded h

theorem drainAll_bounded {ks} (h : Bounded s) : Bounded (drainAll ks s) :=
  foldl_bounded (fun _ _ ht => drainPage_bounded ht) h

theorem doWork_bounded {w} (h : Bounded s) : Bounded (doWork w s) := by
  unfold doWork
  split
  · exact drainAll_bounded h
  · exact drainAll_bounded (foldl_bounded (fun _ _ ht => cancelPromise_bounded ht) h)

theorem allocBoundary_bounded (h : Bounded s) : Bounded (allocBoundary s) := by
  unfold allocBoundary
  extract_lets _ s1 _ s2 s3
  have h1 : Bounded s1 :=
    bounded_ite (foldl_bounded (fun _ _ ht => clampSurge_bounded (takePool_bounded ht)) (bounded_mk h)) h
  have h2 : Bounded s2 := foldl_bounded (fun _ _ ht => doWork_bounded ht) (bounded_mk h1)
  have h3 : Bounded s3 := foldl_bounded (fun _ _ ht => fillPool_bounded ht) h2
  exact foldl_bounded (fun _ _ ht => surgeRemoval_bounded ht) h3

theorem revokeLoop_bounded {l} (h : Bounded s) : Bounded (revokeLoop l s) := by
  unfold revokeLoop
  extract_lets _ s1 s2 _ s3
  have h1 : Bounded s1 := foldl_bounded (fun _ _ ht => clearPage_bounded ht) h
  have h2 : Bounded s2 := updLoopP_bounded h1
  have h3 : Bounded s3 := heatCount_bounded (bounded_mk h2)
  exact bounded_ite h3 (post_bounded h3)

theorem beginCover_bounded {i} (h : Bounded s) : Bounded (beginCover i s) := heatCount_bounded (updSiteP_bounded h)

theorem idleDrain_bounded {i} : ∀ {l} {s : State}, Bounded s → Bounded (idleDrain i l s)
  | [], _, h => h
  | _ :: _, _, h => by
    unfold idleDrain
    exact idleDrain_bounded (bounded_ite h (heatCount_bounded (drainPage_bounded h)))

theorem trimCover_bounded {i} (h : Bounded s) : Bounded (trimCover i s) := updSiteP_bounded (idleDrain_bounded h)

theorem convertPage_bounded {k} (h : Bounded s) : Bounded (convertPage k s) := setPage_bounded h

theorem endCover_bounded {i} (h : Bounded s) : Bounded (endCover i s) :=
  updSiteP_bounded
    (foldl_bounded (fun _ _ ht => cancelPromise_bounded ht)
      (drainAll_bounded (foldl_bounded (fun _ _ ht => convertPage_bounded ht) h)))

theorem silenceChange_bounded {i} (h : Bounded s) : Bounded (silenceChange i s) := by
  unfold silenceChange
  extract_lets
  split
  · exact bounded_ite (beginCover_bounded h) h
  · exact bounded_ite (endCover_bounded h) h
  · exact h

theorem allocSilence_bounded (h : Bounded s) : Bounded (allocSilence s) :=
  foldl_bounded (fun _ _ ht => silenceChange_bounded ht)
    (foldl_bounded (fun _ _ ht => bounded_ite (revokeLoop_bounded ht) (updLoopP_bounded ht)) h)

theorem execSilenceFallback_bounded {site} (h : Bounded s) : NextBounded (execSilenceFallback site s) :=
  nextBounded_ite (trimCover_bounded h) h

theorem idleStep_bounded {i} (h : Bounded s) : Bounded (idleStep i s) :=
  bounded_ite h
    (bounded_ite (updSiteP_bounded h) (bounded_ite (updSiteP_bounded h) (updSiteP_bounded (idleDrain_bounded h))))

theorem quotaShrink_bounded {t} (h : Bounded s) : Bounded (quotaShrink t s) :=
  bounded_ite h (heatCount_bounded (drainAll_bounded (foldl_bounded (fun _ _ ht => cancelPromise_bounded ht) h)))

theorem allocReturns_bounded (h : Bounded s) : Bounded (allocReturns s) :=
  foldl_bounded (fun _ _ ht => bounded_ite (quotaShrink_bounded ht) ht)
    (foldl_bounded (fun _ _ ht => idleStep_bounded ht) h)

theorem denyFault_bounded {d f} (h : Bounded s) : Bounded (denyFault d f s) := by
  unfold denyFault
  extract_lets x n s1 s2 l
  have h1 : Bounded s1 := updSiteP_bounded h
  have h2 : Bounded s2 := by
    dsimp only [s2]
    split
    · exact updTenant_bounded (heatCount_bounded h1)
    · exact heatCount_bounded h1
  split
  · exact postRun_bounded h2
  · exact postRun_bounded h2
  · exact postRun_bounded h2
  · exact h2

theorem endFault_bounded {f} (h : Bounded s) : Bounded (endFault f s) :=
  updSiteP_bounded (by
      split
      · exact updTenant_bounded h
      · exact h)

theorem coverFromPool_bounded {k i l} (h : Bounded s) : Bounded (coverFromPool k i l s) :=
  updLoopP_bounded (grantPage_bounded (clearPage_bounded h))

theorem resolveFault_bounded {f} (h : Bounded s) : Bounded (resolveFault f s) := by
  unfold resolveFault
  refine bounded_ite (denyFault_bounded h) ?_
  split
  · exact denyFault_bounded h
  · split
    · exact endFault_bounded (heatCount_bounded (bounded_ite (coverFromPool_bounded h) (grantPage_bounded h)))
    · extract_lets surgeOk
      split
      · exact endFault_bounded (heatCount_bounded (grantPage_bounded h))
      · split
        · refine endFault_bounded (post_bounded (heatCount_bounded ?_))
          split
          · exact updTenant_bounded (drainPage_bounded h)
          · exact drainPage_bounded h
        · exact denyFault_bounded h

theorem overcommitStep_bounded {l} (h : Bounded s) : Bounded (overcommitStep l s) :=
  bounded_ite (postRun_bounded (updLoopP_bounded h)) (updLoopP_bounded h)

theorem allocFaults_bounded (h : Bounded s) : Bounded (allocFaults s) := by
  unfold allocFaults
  extract_lets s1 s2 s3
  have h1 : Bounded s1 := foldl_bounded (fun _ _ ht => resolveFault_bounded ht) h
  have h2 : Bounded s2 := foldl_bounded (fun _ _ ht => overcommitStep_bounded ht) h1
  have h3 : Bounded s3 := bounded_ite (heatCount_bounded h2) h2
  exact bounded_mk h3

theorem storeCap_bounded {t} (h : Bounded s) : Bounded (storeCap t s) := updSiteP_bounded h

theorem clipFlag_bounded {rowLow l} (h : Bounded s) : Bounded (clipFlag rowLow l s) :=
  bounded_ite (postRun_bounded (updLoopP_bounded h)) (updLoopP_bounded h)

theorem allocCaps_bounded (h : Bounded s) : Bounded (allocCaps s) := by
  unfold allocCaps
  extract_lets _ s1 _ s2
  have h1 : Bounded s1 := foldl_bounded (fun _ _ ht => storeCap_bounded ht) h
  have h2 : Bounded s2 := foldl_bounded (fun _ _ ht => clipFlag_bounded ht) h1
  exact bounded_ite (heatCount_bounded h2) h2

theorem recapReceivers_bounded {prevCap} (h : Bounded s) : Bounded (recapReceivers prevCap s) :=
  foldl_bounded (fun _ _ ht => bounded_ite ht (storeCap_bounded (updSiteP_bounded ht))) h

theorem completeDrain_bounded {k} (h : Bounded s) : Bounded (completeDrain k s) :=
  bounded_ite (bounded_ite (updLoopP_bounded (grantPage_bounded h)) (grantPage_bounded h))
    (bounded_ite (clearPage_bounded h) (clearPage_bounded h))

theorem drainSite_bounded {i} : ∀ {l} {s : State}, Bounded s → Bounded (drainSite i l s)
  | [], _, h => h
  | _ :: _, _, h => bounded_ite (drainSite_bounded (completeDrain_bounded h)) h

theorem allocDrains_bounded {prevCap} (h : Bounded s) : Bounded (allocDrains prevCap s) :=
  recapReceivers_bounded (foldl_bounded (fun _ _ ht => bounded_ite ht (drainSite_bounded ht)) h)

theorem raiseFault_bounded {prevCap i} (h : Bounded s) : Bounded (raiseFault prevCap i s) := by
  unfold raiseFault
  refine bounded_ite (bounded_ite h (updSiteP_bounded h))
    (bounded_ite (updSiteP_bounded h) (bounded_ite (updSiteP_bounded h) ?_))
  split
  · exact updTenant_bounded (heatCount_bounded (updSiteP_bounded h))
  · exact heatCount_bounded (updSiteP_bounded h)

theorem loopSums_bounded {l} (h : Bounded s) : Bounded (loopSums l s) := updLoopP_bounded h

theorem allocFinish_bounded (h : Bounded s) : Bounded (allocFinish s) :=
  foldl_bounded (fun _ _ ht => loopSums_bounded ht)
    (foldl_bounded (fun _ _ ht => raiseFault_bounded ht) (allocDrains_bounded (allocCaps_bounded h)))

theorem cancelAllPromises_bounded (h : Bounded s) : Bounded (cancelAllPromises s) :=
  foldl_bounded (fun _ _ ht => cancelPromise_bounded ht) h

theorem initialGrantSite_bounded {i} (h : Bounded s) : Bounded (initialGrantSite i s) := by
  unfold initialGrantSite
  split
  · exact h
  · exact bounded_ite h (foldl_bounded (fun _ _ ht => grantPage_bounded ht) h)

theorem initialGrant_bounded (h : Bounded s) : Bounded (initialGrant s) :=
  foldl_bounded (fun _ _ ht => initialGrantSite_bounded ht) h

theorem initialCaps_bounded (h : Bounded s) : Bounded (initialCaps s) :=
  foldl_bounded (fun _ _ ht => updSiteP_bounded ht) h

/-! The operations of Machine/Estimator.lean. -/

theorem initStatic_bounded {i} (h : Bounded s) : Bounded (initStatic s i) := updSiteC_bounded h

theorem initEstimator_bounded (h : Bounded s) : Bounded (initEstimator s) :=
  foldl_bounded (fun _ _ ht => initStatic_bounded ht) (bounded_mk h)

theorem estimateSite_bounded {i} (h : Bounded s) : Bounded (estimateSite i s) :=
  bounded_ite (updSiteC_bounded h) (updSiteC_bounded h)

theorem energySite_bounded {i} (h : Bounded s) : Bounded (energySite i s) := by
  unfold energySite
  extract_lets
  split <;> exact bounded_mk (updSiteC_bounded h)

theorem updateClass_bounded {m c} (h : Bounded s) : Bounded (updateClass m c s) := by
  unfold updateClass
  exact bounded_ite h
      (bounded_ite (postEvery_bounded (capCount_bounded h))
        (by
          split
          exact bounded_ite (postRun_bounded (capCount_bounded (bounded_mk h))) (capCount_bounded (bounded_mk h))))

theorem takeReference_bounded {i y tau} (h : Bounded s) : Bounded (takeReference i y tau s) := by
  unfold takeReference
  extract_lets
  split
  exact bounded_ite (post_bounded (updSiteC_bounded h)) (updSiteC_bounded h)

theorem voidDither_bounded {i} (h : Bounded s) : Bounded (voidDither i s) :=
  postEvery_bounded (capCount_bounded (updSiteC_bounded h))

theorem restReference_bounded {m i} (h : Bounded s) : Bounded (restReference m i s) :=
  bounded_ite
    (bounded_ite (voidDither_bounded (capCount_bounded (takeReference_bounded h)))
      (capCount_bounded (takeReference_bounded h)))
    h

theorem ditherSample_bounded {m i} (h : Bounded s) : Bounded (ditherSample m i s) := by
  unfold ditherSample
  extract_lets
  split
  · exact h
  · exact bounded_ite h (updSiteC_bounded h)

theorem windowWork_bounded (h : Bounded s) : Bounded (windowWork s) := by
  unfold windowWork
  exact bounded_ite h
      (foldl_bounded (fun _ _ ht => restReference_bounded ht)
        (foldl_bounded (fun _ _ ht => ditherSample_bounded ht)
          (foldl_bounded (fun _ _ ht => updateClass_bounded ht) h)))

theorem ditherCheck_bounded {i} (h : Bounded s) : Bounded (ditherCheck i s) := by
  unfold ditherCheck
  split
  · exact h
  · exact bounded_ite (voidDither_bounded h) h

theorem ageSite_bounded {i} (h : Bounded s) : Bounded (ageSite i s) := bounded_ite (updSiteC_bounded h) h

theorem estimatorSlice_bounded (h : Bounded s) : Bounded (estimatorSlice s) := by
  unfold estimatorSlice
  extract_lets _ s1
  have h1 : Bounded s1 :=
    foldl_bounded (fun _ _ ht => estimateSite_bounded ht) (foldl_bounded (fun _ _ ht => ageSite_bounded ht) h)
  exact windowWork_bounded (foldl_bounded (fun _ _ ht => energySite_bounded ht) h1)

theorem updFloor_bounded {l f} (h : Bounded s) : Bounded (updFloor l f s) := h

theorem assertViolation_bounded {l} (h : Bounded s) : Bounded (assertViolation l s) := by
  unfold assertViolation
  extract_lets _ _ s1 _ _ s2 s3
  have h1 : Bounded s1 := updFloor_bounded h
  have h2 : Bounded s2 := bounded_mk h1
  have h3 : Bounded s3 := post_bounded (capCount_bounded h2)
  exact bounded_ite (post_bounded h3) h3

theorem judgeWindow_bounded {i} (h : Bounded s) : Bounded (judgeWindow i s) := by
  unfold judgeWindow
  extract_lets
  split
  · exact h
  · exact bounded_ite h
        (bounded_ite
          (bounded_ite (assertViolation_bounded (postRun_bounded (capCount_bounded (updSiteC_bounded h))))
            (postRun_bounded (capCount_bounded (updSiteC_bounded h))))
          (updSiteC_bounded h))

theorem takeMean_bounded {i tel} (h : Bounded s) : Bounded (takeMean i tel s) :=
  bounded_ite h (bounded_ite (bounded_ite (judgeWindow_bounded (updSiteC_bounded h)) h) h)

theorem updPace_bounded {t f} (h : Bounded s) : Bounded (updPace t f s) := h

theorem paceTenant_bounded {t} (h : Bounded s) : Bounded (paceTenant t s) :=
  updPace_bounded (bounded_mk (bounded_ite (post_bounded (updPace_bounded h)) h))

theorem allocPacing_bounded (h : Bounded s) : Bounded (allocPacing s) :=
  bounded_mk (foldl_bounded (fun _ _ ht => bounded_ite (paceTenant_bounded ht) ht) (bounded_mk h))

theorem lockstepFreq_bounded {t} (h : Bounded s) : Bounded (lockstepFreq t s) :=
  bounded_ite h
    (bounded_ite (updPace_bounded h) (bounded_ite (updPace_bounded h) (postEvery_bounded (updPace_bounded h))))

theorem lockstepAll_bounded (h : Bounded s) : Bounded (lockstepAll s) :=
  bounded_mk (foldl_bounded (fun _ _ ht => bounded_ite (lockstepFreq_bounded ht) ht) h)

theorem fillRecord_bounded {i} (h : Bounded s) : Bounded (fillRecord i s) := updSiteC_bounded h

theorem fillRecords_bounded (h : Bounded s) : Bounded (fillRecords s) :=
  bounded_ite (foldl_bounded (fun _ _ ht => fillRecord_bounded ht) h) h

theorem debitLoop_bounded {l} (h : Bounded s) : Bounded (debitLoop l s) :=
  bounded_ite h (bounded_ite (surgeRemoval_bounded (updLoopP_bounded (post_bounded (bounded_mk h)))) (bounded_mk h))

theorem surgeDebit_bounded (h : Bounded s) : Bounded (surgeDebit s) :=
  foldl_bounded (fun _ _ ht => debitLoop_bounded ht) h

theorem allocatorSlice_bounded (h : Bounded s) : Bounded (allocatorSlice s) := by
  unfold allocatorSlice
  extract_lets s1 s2
  have h1 : Bounded s1 :=
    allocPacing_bounded (allocReturns_bounded (allocSilence_bounded (surgeDebit_bounded (allocBoundary_bounded h))))
  have h2 : Bounded s2 := allocFinish_bounded (allocFaults_bounded h1)
  exact foldl_bounded (fun _ _ ht => ditherCheck_bounded ht) (fillRecords_bounded h2)

theorem execCapViolationRelease_bounded {link} (h : Bounded s) : NextBounded (execCapViolationRelease link s) :=
  nextBounded_ite (post_bounded (updFloor_bounded h)) h

theorem releaseFloor_bounded {link} (h : Bounded s) : Bounded (releaseFloor link s) :=
  bounded_ite (post_bounded (updFloor_bounded h)) h

theorem setThermal_bounded {l v} (h : Bounded s) : Bounded (setThermal l v s) :=
  foldl_bounded (fun _ _ ht => updFloor_bounded ht) h

theorem thermalCount_bounded {l} (h : Bounded s) : Bounded (thermalCount l s) := h

theorem tripLoop_bounded {l} (h : Bounded s) : Bounded (tripLoop l s) :=
  post_bounded (capCount_bounded (setThermal_bounded (bounded_mk h)))

theorem execThermalTripRelease_bounded {loop} (h : Bounded s) : NextBounded (execThermalTripRelease loop s) :=
  nextBounded_ite (post_bounded (setThermal_bounded (bounded_mk h))) h

theorem execNoReference_bounded {site} (h : Bounded s) : NextBounded (execNoReference site s) :=
  nextBounded_ite (post_bounded (capCount_bounded (updSiteC_bounded h))) h

theorem execDitherWindowEnd_bounded {site} (h : Bounded s) : NextBounded (execDitherWindowEnd site s) := by
  unfold execDitherWindowEnd
  split
  · exact h
  · exact nextBounded_ite h (by
      split
      · exact updSiteC_bounded (takeReference_bounded h)
      · exact voidDither_bounded h)

/-! The operations of Machine/Sequencer.lean. -/

theorem overrunClient_bounded {c} (h : Bounded s) : Bounded (overrunClient c s) :=
  bounded_ite h (bounded_ite (bounded_mk h) (post_bounded (bounded_mk h)))

theorem missStopped_bounded {p} (h : Bounded s) : Bounded (missStopped p s) :=
  foldl_bounded (fun _ _ ht => overrunClient_bounded ht) h

theorem evaluateOverruns_bounded (h : Bounded s) : Bounded (evaluateOverruns s) := bounded_mk (missStopped_bounded h)

theorem pllLoss_bounded {p} (h : Bounded s) : Bounded (pllLoss p s) := bounded_ite h (post_bounded (bounded_mk h))

theorem pllRelock_bounded {p} (h : Bounded s) : Bounded (pllRelock p s) :=
  bounded_ite (bounded_mk (bounded_mk h)) (bounded_ite (bounded_mk (bounded_mk h)) (bounded_mk h))

/-! The operations of Machine/Engine.lean. -/

theorem updGraph_bounded {g f} (h : Bounded s) : Bounded (updGraph g f s) := h

theorem engCount_bounded {k n} (h : Bounded s) : Bounded (engCount k n s) := h

theorem openEval_bounded {g e ins} (h : Bounded s) : Bounded (openEval g e ins s) :=
  bounded_ite (postEvery_bounded (engCount_bounded (updGraph_bounded h))) (updGraph_bounded h)

theorem beginEval_bounded {g stage vars} (h : Bounded s) : Bounded (beginEval g stage vars s) :=
  openEval_bounded (updGraph_bounded h)

theorem startEval_bounded {vars g} (h : Bounded s) : Bounded (startEval vars g s) :=
  bounded_ite h
    (by
      extract_lets
      split
      · exact bounded_ite (updGraph_bounded h) h
      · exact bounded_ite (beginEval_bounded (bounded_ite (updGraph_bounded h) h))
            (by
              split
              · exact bounded_ite (bounded_ite (updGraph_bounded h) h)
                    (openEval_bounded (bounded_ite (updGraph_bounded h) h))
              · exact bounded_ite (updGraph_bounded h) h))

theorem runSlice_bounded {g sl} (h : Bounded s) : Bounded (runSlice g sl s) := by
  unfold runSlice
  split
  · exact h
  · exact bounded_ite (postEvery_bounded (engCount_bounded (updGraph_bounded (bounded_mk h))))
        (updGraph_bounded (bounded_mk h))

theorem finishEval_bounded {g sl} (h : Bounded s) : Bounded (finishEval g sl s) := by
  unfold finishEval
  split
  · exact h
  · exact updGraph_bounded h

theorem abandonGraph_bounded {g} (h : Bounded s) : Bounded (abandonGraph g s) :=
  bounded_ite h (postEvery_bounded (updGraph_bounded h))

theorem runWindows_bounded {stall} : ∀ {l k} {s : State}, Bounded s → Bounded (runWindows stall l k s)
  | [], _, _, h => bounded_ite h h
  | (_, _) :: _, _, _, h => by
    unfold runWindows
    extract_lets len fin s1 s2
    have h1 : Bounded s1 := runSlice_bounded (updGraph_bounded h)
    have h2 : Bounded s2 := foldl_bounded (fun _ _ ht => abandonGraph_bounded ht) h
    exact bounded_ite (runWindows_bounded (bounded_ite (finishEval_bounded h1) h1))
      (overrunClient_bounded h2)

theorem resolveCheck_bounded {p} (h : Bounded s) : Bounded (resolveCheck p s) :=
  bounded_ite h
    (bounded_ite (updGraph_bounded h) (bounded_ite (postEvery_bounded (updGraph_bounded h)) (updGraph_bounded h)))

theorem dropLevel_bounded {g d} (h : Bounded s) : Bounded (dropLevel g d s) := h

theorem dropPending_bounded {g} (h : Bounded s) : Bounded (dropPending g s) := h

theorem disableGraph_bounded {g} (h : Bounded s) : Bounded (disableGraph g s) :=
  bounded_mk (dropPending_bounded (updGraph_bounded h))

theorem demotionStep_bounded {g} (h : Bounded s) : Bounded (demotionStep s g) :=
  bounded_ite h
    (bounded_ite (post_bounded (dropLevel_bounded (updGraph_bounded h)))
      (post_bounded (updGraph_bounded (disableGraph_bounded h))))

theorem checkerFrame_bounded (h : Bounded s) : Bounded (checkerFrame s) :=
  foldl_bounded (fun _ _ ht => demotionStep_bounded ht)
    (foldl_bounded (fun _ _ ht => resolveCheck_bounded ht) (bounded_mk h))

theorem checkerLost_bounded (h : Bounded s) : Bounded (checkerLost s) := h

theorem openChecks_bounded {g e} (h : Bounded s) : Bounded (openChecks g e s) :=
  bounded_ite h
    (foldl_bounded (fun _ _ ht => bounded_ite (bounded_mk ht) (postEvery_bounded (engCount_bounded ht))) h)

theorem publishOne_bounded {g d} (h : Bounded s) : Bounded (publishOne g d s) :=
  openChecks_bounded (updGraph_bounded h)

theorem publishPorts_bounded (h : Bounded s) : Bounded (publishPorts s) :=
  foldl_bounded
    (fun _ _ ht =>
      bounded_ite (updGraph_bounded ht) (foldl_bounded (fun _ _ ht => publishOne_bounded ht) (updGraph_bounded ht)))
    h

theorem engineSlice_bounded {vars stalls} (h : Bounded s) : Bounded (engineSlice vars stalls s) :=
  bounded_ite h
    (bounded_ite
      (checkerLost_bounded
        (bounded_mk (runWindows_bounded (bounded_mk (foldl_bounded (fun _ _ ht => startEval_bounded ht) h)))))
      (checkerFrame_bounded
        (bounded_mk (runWindows_bounded (bounded_mk (foldl_bounded (fun _ _ ht => startEval_bounded ht) h))))))

theorem engineLost_bounded {vars} (h : Bounded s) : Bounded (engineLost vars s) :=
  checkerLost_bounded
    (bounded_mk
      (foldl_bounded (fun _ _ ht => abandonGraph_bounded ht) (foldl_bounded (fun _ _ ht => startEval_bounded ht) h)))

theorem markShed_bounded (h : Bounded s) : Bounded (markShed s) :=
  foldl_bounded (fun _ _ ht => bounded_ite ht (updGraph_bounded ht)) h

theorem execShedRequest_bounded (h : Bounded s) : NextBounded (execShedRequest s) :=
  bounded_ite (post_bounded (bounded_mk h)) h

theorem shedStep_bounded (h : Bounded s) : Bounded (shedStep s) :=
  bounded_ite h (bounded_ite (bounded_mk h) (post_bounded (markShed_bounded (bounded_mk h))))

theorem shedQuiet_bounded (h : Bounded s) : Bounded (shedQuiet s) := by
  unfold shedQuiet
  split
  · exact bounded_ite (bounded_mk h) h
  · exact h

theorem execShedRestore_bounded (h : Bounded s) : NextBounded (execShedRestore s) :=
  bounded_ite (post_bounded (markShed_bounded (bounded_mk h))) h

theorem unloadGraph_bounded {g} (h : Bounded s) : Bounded (unloadGraph g s) :=
  bounded_mk (dropPending_bounded (updGraph_bounded h))

theorem failBank_bounded {bank} (h : Bounded s) : Bounded (failBank bank s) :=
  post_bounded (foldl_bounded (fun _ _ ht => unloadGraph_bounded ht) (bounded_mk (setDomain_bounded h)))

theorem execSingleBitError_bounded {scratch} (h : Bounded s) : NextBounded (execSingleBitError scratch s) :=
  postEvery_bounded (engCount_bounded h)

theorem noteDbe_bounded {k} (h : Bounded s) : Bounded (noteDbe k s) := bounded_mk (engCount_bounded h)

theorem strikeGraph_bounded {g} (h : Bounded s) : Bounded (strikeGraph g s) := updGraph_bounded h

theorem execWeightDoubleBitError_bounded {place} (h : Bounded s) :
    NextBounded (execWeightDoubleBitError place s) := by
  unfold execWeightDoubleBitError
  extract_lets _ _ _ _ s1 _ s2 s3
  have h1 : Bounded s1 := foldl_bounded (fun _ _ ht => updGraph_bounded ht) (noteDbe_bounded h)
  have h2 : Bounded s2 := bounded_mk h1
  have h3 : Bounded s3 := post_bounded h2
  exact bounded_ite (failBank_bounded h3) (bounded_ite (bounded_mk h3) h3)

theorem execWeightReloadComplete_bounded {bank hashOk} (h : Bounded s) :
    NextBounded (execWeightReloadComplete bank hashOk s) :=
  bounded_ite h
    (bounded_ite (failBank_bounded h)
      (post_bounded (foldl_bounded (fun _ _ ht => updGraph_bounded ht) (engCount_bounded (bounded_mk h)))))

theorem execScratchDoubleBitError_bounded {slot node state} (h : Bounded s) :
    NextBounded (execScratchDoubleBitError slot node state s) :=
  post_bounded
    (bounded_ite (updGraph_bounded (strikeGraph_bounded (noteDbe_bounded h)))
      (strikeGraph_bounded (noteDbe_bounded h)))

theorem scrubFrame_bounded (h : Bounded s) : Bounded (scrubFrame s) :=
  bounded_ite h (foldl_bounded (fun _ _ ht => updGraph_bounded ht) (bounded_ite (engCount_bounded h) h))

theorem applyPrecision_bounded {slot} (h : Bounded s) : Bounded (applyPrecision slot s) := h

theorem precisionEmpty_bounded {slot} (h : Bounded s) : Bounded (precisionEmpty slot s) := by
  unfold precisionEmpty
  extract_lets _ s1 _ s2
  have h1 : Bounded s1 := strikeGraph_bounded (updGraph_bounded h)
  have h2 : Bounded s2 := post_bounded (bounded_mk h1)
  exact bounded_ite (foldl_bounded (fun _ _ ht => disableGraph_bounded ht) (bounded_mk h2)) h2

theorem execPrecisionRunComplete_bounded {result} (h : Bounded s) :
    NextBounded (execPrecisionRunComplete result s) := by
  unfold execPrecisionRunComplete
  split
  · exact h
  · exact bounded_ite (precisionEmpty_bounded (post_bounded (bounded_mk h))) (post_bounded (bounded_mk h))

theorem junctionSample_bounded (h : Bounded s) : Bounded (junctionSample s) := by
  unfold junctionSample
  split
  · exact h
  · exact bounded_mk h

theorem clockFrame_bounded (h : Bounded s) : Bounded (clockFrame s) := h

theorem clockSwitch_bounded {m} (h : Bounded s) : Bounded (clockSwitch m s) :=
  bounded_ite h
    (bounded_ite (bounded_ite (post_bounded (bounded_mk h)) (bounded_mk h))
      (post_bounded (engCount_bounded (bounded_mk (bounded_ite (post_bounded (bounded_mk h)) (bounded_mk h))))))

theorem loadGraphs_bounded {keep} (h : Bounded s) : Bounded (loadGraphs keep s) := h

/-! The operations of Machine/Leak.lean. -/

theorem updLeakIn_bounded {i f} (h : Bounded s) : Bounded (updLeakIn i f s) := h

theorem updLeak_bounded {l f} (h : Bounded s) : Bounded (updLeak l f s) := h

theorem leakCount_bounded {k} (h : Bounded s) : Bounded (leakCount k s) := h

theorem sampleLeak_bounded {r} (h : Bounded s) : Bounded (sampleLeak r s) :=
  bounded_mk (foldl_bounded (fun _ _ ht => bounded_ite (updLeakIn_bounded ht) ht) h)

theorem locate_bounded {i x} (h : Bounded s) : Bounded (locate i x s) := by
  unfold locate
  split
  exact updLeakIn_bounded h

theorem declareWet_bounded {i x} (h : Bounded s) : Bounded (declareWet i x s) :=
  bounded_ite (post_bounded (leakCount_bounded (locate_bounded (updLeakIn_bounded h))))
    (post_bounded (leakCount_bounded (updLeakIn_bounded h)))

theorem execLeakInputState_bounded {input state x} (h : Bounded s) :
    NextBounded (execLeakInputState input state x s) := by
  unfold execLeakInputState
  exact bounded_ite h
      (by
        split
        · exact bounded_ite (declareWet_bounded (bounded_ite (post_bounded h) h)) h
        · exact bounded_ite (post_bounded (updLeakIn_bounded h)) h
        · exact bounded_ite (post_bounded (updLeakIn_bounded h)) h)

theorem execRopeLocation_bounded {rope x} (h : Bounded s) : NextBounded (execRopeLocation rope x s) :=
  bounded_ite (locate_bounded h) h

theorem restartBalance_bounded {l} (h : Bounded s) : Bounded (restartBalance l s) := updLeak_bounded h

theorem startLeak_bounded (h : Bounded s) : Bounded (startLeak s) :=
  foldl_bounded (fun _ _ ht => updLeak_bounded (restartBalance_bounded ht)) h

theorem confirmMeans_bounded {l counter code} (h : Bounded s) : Bounded (confirmMeans l counter code s) :=
  post_bounded (leakCount_bounded h)

theorem balanceEval_bounded {l m} (h : Bounded s) : Bounded (balanceEval l m s) :=
  bounded_ite (confirmMeans_bounded (updLeak_bounded h)) (updLeak_bounded h)

theorem residualFrame_bounded {l} (h : Bounded s) : Bounded (residualFrame s l) := by
  unfold residualFrame
  split
  · exact updLeak_bounded h
  · exact updLeak_bounded (postRun_bounded h)

theorem balanceFrame_bounded {l} (h : Bounded s) : Bounded (balanceFrame s l) := by
  unfold balanceFrame
  extract_lets s1 _ _ s2
  have h1 : Bounded s1 := residualFrame_bounded h
  have h2 : Bounded s2 := bounded_ite (updLeak_bounded h1) h1
  exact bounded_ite (updLeak_bounded h2)
      (bounded_ite (updLeak_bounded h2) (bounded_ite (balanceEval_bounded (updLeak_bounded h2)) (updLeak_bounded h2)))

theorem balanceAdapt_bounded {l} (h : Bounded s) : Bounded (balanceAdapt s l) := by
  unfold balanceAdapt
  extract_lets
  split
  · exact h
  · exact bounded_ite (postRun_bounded (updLeak_bounded h)) (updLeak_bounded h)

theorem execMassBalanceHoldoffEnd_bounded {loop} (h : Bounded s) :
    NextBounded (execMassBalanceHoldoffEnd loop s) := by
  unfold execMassBalanceHoldoffEnd
  split
  · exact bounded_ite (updLeak_bounded h) h
  · exact h

theorem decayFrame_bounded {l} (h : Bounded s) : Bounded (decayFrame s l) := by
  unfold decayFrame
  exact bounded_ite (updLeak_bounded h)
      (bounded_ite (updLeak_bounded h)
        (bounded_ite (updLeak_bounded (updLeak_bounded h))
          (bounded_ite (bounded_ite (updLeak_bounded h) (updLeak_bounded (updLeak_bounded h)))
            (by
              split <;>
                exact updLeak_bounded (bounded_ite (updLeak_bounded h) (updLeak_bounded (updLeak_bounded h)))))))

theorem decayJudge_bounded {l d} (h : Bounded s) : Bounded (decayJudge l d s) := by
  unfold decayJudge
  extract_lets _ _ _ _ _ _ _ s1
  have h1 : Bounded s1 := updLeak_bounded h
  exact bounded_ite (bounded_ite (confirmMeans_bounded h1) (post_bounded (leakCount_bounded (updLeak_bounded h1)))) h1

theorem execPressureDecayEval_bounded {loop} (h : Bounded s) : NextBounded (execPressureDecayEval loop s) :=
  bounded_ite h (bounded_ite (updLeak_bounded h) (decayJudge_bounded (updLeak_bounded h)))

theorem classifierFrame_bounded {l} (h : Bounded s) : Bounded (classifierFrame s l) := by
  unfold classifierFrame
  split
  · exact updLeak_bounded h
  · exact bounded_ite (updLeak_bounded h) (updLeak_bounded (updLeak_bounded h))

theorem beginEmergency_bounded {cause} (h : Bounded s) : Bounded (beginEmergency cause s) :=
  bounded_ite h (abortWhere_bounded (post_bounded (leakCount_bounded (bounded_mk h))))

theorem setC0_bounded {v l} (h : Bounded s) : Bounded (setC0 v l s) :=
  foldl_bounded (fun _ _ ht => updCh_bounded ht) h

theorem setLeakFloor_bounded {v l} (h : Bounded s) : Bounded (setLeakFloor v l s) :=
  foldl_bounded (fun _ _ ht => updFloor_bounded ht) h

theorem holdIsolation_bounded {l} (h : Bounded s) : Bounded (holdIsolation l s) :=
  bounded_mk (updLoopP_bounded (setLeakFloor_bounded (setC0_bounded h)))

theorem isolateLoop_bounded {l cause} (h : Bounded s) : Bounded (isolateLoop l cause s) := by
  unfold isolateLoop
  extract_lets _ _ s1 s2 _ _ s3
  have h1 : Bounded s1 := updLeak_bounded (holdIsolation_bounded h)
  have h2 : Bounded s2 := abortWhere_bounded (post_bounded (leakCount_bounded h1))
  have h3 : Bounded s3 := bounded_mk h2
  exact bounded_ite (beginEmergency_bounded (bounded_mk h3)) h3

theorem decideLoop_bounded {l} (h : Bounded s) : Bounded (decideLoop s l) :=
  bounded_ite h (bounded_ite (isolateLoop_bounded h) (updLeak_bounded h))

theorem enterNotHolding_bounded {l} (h : Bounded s) : Bounded (enterNotHolding l s) :=
  beginEmergency_bounded (post_bounded (leakCount_bounded (bounded_mk (updLeak_bounded h))))

theorem enterHeld_bounded {l} (h : Bounded s) : Bounded (enterHeld l s) :=
  post_bounded (bounded_mk (updLeak_bounded h))

theorem markIsolated_bounded {l half} (h : Bounded s) : Bounded (markIsolated l half s) :=
  bounded_ite (updLeak_bounded h) h

theorem judgeDriven_bounded {l} (h : Bounded s) : Bounded (judgeDriven s l) :=
  bounded_ite (enterNotHolding_bounded h) h

theorem rowFloors_bounded (h : Bounded s) : Bounded (rowFloors s) := h

theorem execClassifierConfirm_bounded {loop} (h : Bounded s) : NextBounded (execClassifierConfirm loop s) := by
  unfold execClassifierConfirm
  exact bounded_ite
      (bounded_ite (rowFloors_bounded (decideLoop_bounded (confirmMeans_bounded (updLeak_bounded h))))
        (confirmMeans_bounded (updLeak_bounded h)))
      h

theorem wetFrames_bounded (h : Bounded s) : Bounded (wetFrames s) := h

theorem leakDecision_bounded (h : Bounded s) : Bounded (leakDecision s) := by
  unfold leakDecision
  extract_lets s0 s1
  have h1 : Bounded s0 := wetFrames_bounded h
  have h2 : Bounded s1 :=
    foldl_bounded (fun _ _ ht => classifierFrame_bounded (decayFrame_bounded (balanceFrame_bounded ht))) h1
  exact bounded_ite h2
      (rowFloors_bounded
        (bounded_ite
          (beginEmergency_bounded
            (bounded_mk
              (foldl_bounded (fun _ _ ht => markIsolated_bounded (judgeDriven_bounded ht))
                (foldl_bounded (fun _ _ ht => decideLoop_bounded ht) h2))))
          (foldl_bounded (fun _ _ ht => markIsolated_bounded (judgeDriven_bounded ht))
            (foldl_bounded (fun _ _ ht => decideLoop_bounded ht) h2))))

theorem leakAdaptation_bounded (h : Bounded s) : Bounded (leakAdaptation s) :=
  bounded_ite (foldl_bounded (fun _ _ ht => balanceAdapt_bounded ht) h) h

theorem isolationFlowCheck_bounded (h : Bounded s) : Bounded (isolationFlowCheck s) :=
  foldl_bounded
    (fun _ _ ht => bounded_ite (by
        split
        · exact bounded_ite (enterHeld_bounded ht) (updLeak_bounded ht)
        · exact ht) ht)
    h

theorem execIsolationCheckTimeout_bounded {loop} (h : Bounded s) :
    NextBounded (execIsolationCheckTimeout loop s) :=
  bounded_ite (bounded_ite (enterHeld_bounded h) (rowFloors_bounded (enterNotHolding_bounded h))) h

theorem execNotHoldingRecheck_bounded {loop} (h : Bounded s) : NextBounded (execNotHoldingRecheck loop s) :=
  bounded_ite
    (by
      extract_lets
      split
      · exact bounded_ite (enterHeld_bounded (updLeak_bounded h)) (updLeak_bounded h)
      · exact updLeak_bounded h)
    h

theorem execEnergisingEdge_bounded {channel} (h : Bounded s) : NextBounded (execEnergisingEdge channel s) :=
  bounded_ite (foldl_bounded (fun _ _ ht => bounded_ite (markIsolated_bounded ht) ht) (energise_bounded h)) h

theorem releaseRefused_bounded {l} (h : Bounded s) : Bounded (releaseRefused l s) :=
  post_bounded (leakCount_bounded h)

theorem dropSides_bounded {l} (h : Bounded s) : Bounded (dropSides l s) :=
  foldl_bounded (fun _ _ ht => updLeakIn_bounded ht) h

theorem applyReleaseLoop_bounded {l} (h : Bounded s) : Bounded (applyReleaseLoop l s) :=
  bounded_ite (releaseRefused_bounded h)
    (abortWhere_bounded
      (post_bounded
        (leakCount_bounded
          (restartBalance_bounded
            (bounded_mk
              (updLeak_bounded (dropSides_bounded (updLoopP_bounded (setLeakFloor_bounded (setC0_bounded h))))))))))

theorem execRowSensorCauseEnd_bounded (h : Bounded s) : NextBounded (execRowSensorCauseEnd s) :=
  bounded_ite (bounded_mk h) h

theorem execManyLoopsEnd_bounded (h : Bounded s) : NextBounded (execManyLoopsEnd s) := bounded_ite (bounded_mk h) h

theorem applyRowStop_bounded (h : Bounded s) : Bounded (applyRowStop s) :=
  rowFloors_bounded (beginEmergency_bounded (bounded_mk h))

theorem applyReleaseRow_bounded (h : Bounded s) : Bounded (applyReleaseRow s) :=
  bounded_ite h (post_bounded (rowFloors_bounded (bounded_mk h)))

theorem execRingOpenExternal_bounded (h : Bounded s) : NextBounded (execRingOpenExternal s) :=
  bounded_ite (post_bounded (rowFloors_bounded (bounded_mk h))) h

theorem execRingClosedExternal_bounded (h : Bounded s) : NextBounded (execRingClosedExternal s) :=
  bounded_ite (post_bounded (rowFloors_bounded (bounded_mk h))) h

theorem leakOutputs_bounded (h : Bounded s) : Bounded (leakOutputs s) := h

theorem leakTakeControl_bounded (h : Bounded s) : Bounded (leakTakeControl s) :=
  rowFloors_bounded (foldl_bounded (fun _ _ ht => bounded_ite ht (updLeak_bounded (holdIsolation_bounded ht))) h)

/-! The operations of Machine/Can.lean. -/

theorem updCan_bounded {c f} (h : Bounded s) : Bounded (updCan c f s) := h

theorem canCount_bounded {c k n} (h : Bounded s) : Bounded (canCount c k n s) := updCan_bounded h

theorem canSum_bounded {k} (h : Bounded s) : Bounded (canSum k s) := h

theorem dropWaiting_bounded {c} (h : Bounded s) : Bounded (dropWaiting c s) := canCount_bounded (updCan_bounded h)

theorem channelUpdate_bounded {c} (h : Bounded s) : Bounded (channelUpdate s c) := by
  unfold channelUpdate
  exact bounded_ite (bounded_ite h (dropWaiting_bounded (updCan_bounded h)))
      (by
        split
        · exact updCan_bounded h
        · exact bounded_ite h (updCan_bounded h)
        · exact bounded_ite (dropWaiting_bounded (updCan_bounded h)) h
        · exact bounded_ite h
              (bounded_ite (post_bounded (canCount_bounded (updCan_bounded h)))
                (dropWaiting_bounded (post_bounded (canCount_bounded (updCan_bounded h))))))

theorem canFrame_bounded (h : Bounded s) : Bounded (canFrame s) :=
  bounded_mk (foldl_bounded (fun _ _ ht => channelUpdate_bounded ht) h)

theorem initCan_bounded (h : Bounded s) : Bounded (initCan s) := h

theorem execBusOff_bounded {channel} (h : Bounded s) : NextBounded (execBusOff channel s) := by
  unfold execBusOff
  exact bounded_ite
      (bounded_ite (post_bounded (canSum_bounded (post_bounded (canCount_bounded (updCan_bounded h)))))
        (post_bounded (canCount_bounded (updCan_bounded h))))
      h

theorem execBusOffRecovery_bounded {channel} (h : Bounded s) : NextBounded (execBusOffRecovery channel s) :=
  bounded_ite (updCan_bounded h) h

theorem execBusOffStormEnd_bounded {channel} (h : Bounded s) : NextBounded (execBusOffStormEnd channel s) := by
  unfold execBusOffStormEnd
  extract_lets
  split
  · exact bounded_ite (post_bounded (updCan_bounded h)) h
  · exact h

theorem noteErrors_bounded {c errors tec rec_} (h : Bounded s) : Bounded (noteErrors c errors tec rec_ s) :=
  updCan_bounded (foldl_bounded (fun _ _ ht => canCount_bounded ht) h)

theorem execErrorPassive_bounded {channel errors tec rec_} (h : Bounded s) :
    NextBounded (execErrorPassive channel errors tec rec_ s) :=
  bounded_ite (postEvery_bounded (updCan_bounded (noteErrors_bounded h))) h

theorem execErrorActive_bounded {channel tec rec_} (h : Bounded s) :
    NextBounded (execErrorActive channel tec rec_ s) :=
  bounded_ite (postEvery_bounded (updCan_bounded (noteErrors_bounded h))) h

theorem mirrorPut_bounded {c r} (h : Bounded s) : Bounded (mirrorPut c r s) :=
  bounded_ite (postRun_bounded (canCount_bounded (updCan_bounded h))) (updCan_bounded h)

theorem fifoPut_bounded {c r} (h : Bounded s) : Bounded (fifoPut c r s) :=
  bounded_ite (postRun_bounded (canCount_bounded h)) (updCan_bounded h)

theorem queue1Put_bounded {c r} (h : Bounded s) : Bounded (queue1Put c r s) :=
  bounded_ite (postRun_bounded (canCount_bounded h)) (updCan_bounded h)

theorem hpPut_bounded {c b r} (h : Bounded s) : Bounded (hpPut c b r s) :=
  notify_bounded (updCan_bounded (bounded_ite (canCount_bounded h) h))

theorem valveStatus_bounded {i dlc position cmdSeen fault} (h : Bounded s) :
    Bounded (valveStatus i dlc position cmdSeen fault s) := by
  unfold valveStatus
  split
  · exact h
  · exact bounded_ite (updCan_bounded h) (bounded_mk h)

theorem execValveStatusReceived_bounded {valve dlc position cmdSeen fault} (h : Bounded s) :
    NextBounded (execValveStatusReceived valve dlc position cmdSeen fault s) :=
  valveStatus_bounded h

theorem execValveStatusStale_bounded {valve} (h : Bounded s) : NextBounded (execValveStatusStale valve s) := by
  unfold execValveStatusStale
  split
  · exact h
  · exact bounded_ite (bounded_mk h) h

theorem takeHardware_bounded {c m} (h : Bounded s) : Bounded (takeHardware c m s) :=
  bounded_ite (by
      split
      · exact pumpStatus_bounded h
      · exact updCan_bounded h)
    (by
        split
        · exact valveStatus_bounded h
        · exact updCan_bounded h)

theorem canReceive_bounded {c offsetNs m} (h : Bounded s) : Bounded (canReceive c offsetNs m s) := by
  unfold canReceive
  extract_lets s1 drop
  have h1 : Bounded s1 := canCount_bounded h
  have h2 : Bounded drop := updCan_bounded h1
  exact bounded_ite h2
      (bounded_ite (bounded_ite (mirrorPut_bounded (takeHardware_bounded h1)) (takeHardware_bounded h1))
        (by
          split
          · exact h2
          · exact bounded_ite (hpPut_bounded h1) (bounded_ite (queue1Put_bounded h1) (fifoPut_bounded h1))))

theorem execCanFrameReceived_bounded {channel msg offsetNs} (h : Bounded s) :
    NextBounded (execCanFrameReceived channel msg offsetNs s) :=
  bounded_ite (canReceive_bounded h) h

theorem updateSensors_bounded {c m} (h : Bounded s) : Bounded (updateSensors c m s) :=
  foldl_bounded (fun _ _ ht => bounded_ite (by
      split
      · exact bounded_mk ht
      · exact postRun_bounded ht) ht) h

theorem takeMessage_bounded {c sensors r} (h : Bounded s) : Bounded (takeMessage c sensors s r) :=
  bounded_ite (mirrorPut_bounded (bounded_ite (updateSensors_bounded h) h)) (bounded_ite (updateSensors_bounded h) h)

theorem snapshotChannel_bounded {c} (h : Bounded s) : Bounded (snapshotChannel s c) :=
  foldl_bounded (fun _ _ ht => takeMessage_bounded ht)
    (foldl_bounded (fun _ _ ht => takeMessage_bounded ht) (updCan_bounded h))

theorem canSnapshot_bounded (h : Bounded s) : Bounded (canSnapshot s) :=
  bounded_mk (foldl_bounded (fun _ _ ht => snapshotChannel_bounded ht) h)

theorem mqTailWrite_bounded {c value} (h : Bounded s) : Bounded (mqTailWrite c value s) :=
  bounded_ite (updCan_bounded h) (canCount_bounded h)

theorem execMqTailWrite_bounded {channel value} (h : Bounded s) : NextBounded (execMqTailWrite channel value s) :=
  mqTailWrite_bounded h

theorem execMqOverflowClear_bounded {channel} (h : Bounded s) : NextBounded (execMqOverflowClear channel s) :=
  updCan_bounded h

theorem execNewClear_bounded {channel buffer} (h : Bounded s) : NextBounded (execNewClear channel buffer s) :=
  updCan_bounded h

theorem canSend_bounded {c m effect} (h : Bounded s) : Bounded (canSend c m effect s) := by
  unfold canSend
  split
  · exact h
  · exact canSum_bounded (updCan_bounded h)

theorem canCancel_bounded {c id} (h : Bounded s) : Bounded (canCancel c id s) :=
  canSum_bounded (canCount_bounded (updCan_bounded h))

theorem execHostMessageExpire_bounded {channel slot} (h : Bounded s) :
    NextBounded (execHostMessageExpire channel slot s) :=
  bounded_ite (post_bounded (canCount_bounded (updCan_bounded h))) h

theorem execSendSlotFree_bounded {channel slot} (h : Bounded s) : NextBounded (execSendSlotFree channel slot s) :=
  bounded_ite (updCan_bounded h) h

theorem applyCells_bounded {payload} (h : Bounded s) : Bounded (applyCells payload s) :=
  post_bounded (canSum_bounded (updCan_bounded h))

theorem canStage_bounded (h : Bounded s) : Bounded (canStage s) := h

/-! The operations of Machine/Packets.lean. -/

theorem updPort_bounded {p f} (h : Bounded s) : Bounded (updPort p f s) := h

theorem sendPacket_bounded {p cls num h4 payload} (h : Bounded s) : Bounded (sendPacket p cls num h4 payload s) :=
  send_bounded h

/-! The operations of Machine/LinkLayer.lean. -/

theorem portCount_bounded {p k n} (h : Bounded s) : Bounded (portCount p k n s) := updPort_bounded h

theorem noteValid_bounded {p} (h : Bounded s) : Bounded (noteValid p s) := updPort_bounded h

theorem sendCtl_bounded {p op num telMissing} (h : Bounded s) : Bounded (sendCtl p op num telMissing s) :=
  sendPacket_bounded (updPort_bounded h)

theorem transmitReliable_bounded {p k} (h : Bounded s) : Bounded (transmitReliable p k s) := sendPacket_bounded h

theorem sendReliable_bounded {p type op tag tgen payload} (h : Bounded s) :
    Bounded (sendReliable p type op tag tgen payload s) :=
  transmitReliable_bounded (updPort_bounded h)

theorem freeAcked_bounded {p pn} (h : Bounded s) : Bounded (freeAcked p pn s) := updPort_bounded h

theorem replayFrom_bounded {p pn t} (h : Bounded s) (heq : replayFrom p pn s = some t) : Bounded t := by
  unfold replayFrom at heq
  extract_lets due f s1 s2 at heq
  split at heq
  · cases heq
  · cases heq
    exact portCount_bounded (foldl_bounded (fun _ _ ht => transmitReliable_bounded ht) (updPort_bounded h))

theorem badCtl_bounded {p} (h : Bounded s) : Bounded (badCtl p s) := portCount_bounded h

theorem takeCtl_bounded {p ctlNum} (h : Bounded s) : Bounded (takeCtl p ctlNum s) :=
  noteValid_bounded (updPort_bounded h)

theorem freeTag_bounded {p tag} (h : Bounded s) : Bounded (freeTag p tag s) := updPort_bounded h

theorem sendTxn_bounded {p att item tries} (h : Bounded s) : Bounded (sendTxn p att item tries s) := by
  unfold sendTxn
  extract_lets
  split
  · exact h
  · exact bounded_ite (updPort_bounded h) (sendReliable_bounded (updPort_bounded h))

theorem sendWaiting_bounded {p} : ∀ {k} {s : State}, Bounded s → Bounded (sendWaiting p k s)
  | 0, _, h => h
  | _ + 1, _, h => by
    unfold sendWaiting
    extract_lets x
    split
    · exact h
    · exact bounded_ite (sendWaiting_bounded (sendTxn_bounded (updPort_bounded h))) h

theorem endSession_bounded {p} (h : Bounded s) : Bounded (endSession p s) :=
  updPort_bounded (foldl_bounded (fun _ _ ht => freeTag_bounded ht) h)

theorem seePhase_bounded {p phase} (h : Bounded s) : Bounded (seePhase p phase s) := updPort_bounded h

theorem unknownPacket_bounded {p} (h : Bounded s) : Bounded (unknownPacket p s) :=
  postRun_bounded (portCount_bounded h)

theorem setPortState_bounded {p st} (h : Bounded s) : Bounded (setPortState p st s) := updPort_bounded h

theorem setPair_bounded {f} (h : Bounded s) : Bounded (setPair f s) := h

theorem streamCheckpoint_bounded : ∀ {k} {s : State}, Bounded s → Bounded (streamCheckpoint k s)
  | 0, _, h => h
  | _ + 1, _, h => by
    unfold streamCheckpoint
    split
    · exact h
    · exact bounded_ite (streamCheckpoint_bounded (setPair_bounded (sendReliable_bounded h))) h

/-! The operations of Machine/Gwynlink.lean. -/

theorem siteDown_bounded {i} (h : Bounded s) : Bounded (siteDown i s) :=
  bounded_ite (post_bounded (updSiteC_bounded h)) h

theorem sitesDown_bounded {p} (h : Bounded s) : Bounded (sitesDown p s) :=
  foldl_bounded (fun _ _ ht => updSiteC_bounded (siteDown_bounded ht)) h

theorem enterTraining_bounded {p} (h : Bounded s) : Bounded (enterTraining p s) :=
  setPortState_bounded (updPort_bounded h)

theorem primedUnacked_bounded {p} (h : Bounded s) : Bounded (primedUnacked p s) := bounded_ite (bounded_mk h) h

theorem portEnds_bounded {p} (h : Bounded s) : Bounded (portEnds p s) :=
  endSession_bounded (primedUnacked_bounded (sitesDown_bounded h))

theorem enterQuarantine_bounded {p cause} (h : Bounded s) : Bounded (enterQuarantine p cause s) :=
  post_bounded (setPortState_bounded (updPort_bounded (portEnds_bounded h)))

theorem linkLost_bounded {p cause} (h : Bounded s) : Bounded (linkLost p cause s) :=
  bounded_ite h
    (bounded_ite (enterQuarantine_bounded h)
      (post_bounded (enterTraining_bounded (updPort_bounded (portEnds_bounded h)))))

theorem portDomain_bounded {p} (h : Bounded s) : Bounded (portDomain p s) :=
  bounded_ite (setPortState_bounded (updPort_bounded (portEnds_bounded h))) h

theorem portDomains_bounded (h : Bounded s) : Bounded (portDomains s) :=
  foldl_bounded (fun _ _ ht => portDomain_bounded ht) h

theorem startAttest_bounded {p} (h : Bounded s) : Bounded (startAttest p s) :=
  bounded_ite h (bounded_ite (updPort_bounded h) (sendTxn_bounded (updPort_bounded h)))

theorem attestFails_bounded {p event cause} (h : Bounded s) : Bounded (attestFails p event cause s) :=
  post_bounded (setPortState_bounded (updPort_bounded (portEnds_bounded (bounded_ite (sendTxn_bounded h) h))))

theorem enterUp_bounded {p} (h : Bounded s) : Bounded (enterUp p s) := by
  unfold enterUp
  extract_lets s0 s1
  have h1 : Bounded s0 := foldl_bounded (fun _ _ ht => updSiteC_bounded ht) h
  have h2 : Bounded s1 := foldl_bounded (fun _ _ ht => updSiteC_bounded ht) h1
  exact post_bounded (setPortState_bounded (updPort_bounded h2))

theorem cfgResponse_bounded {p op data} (h : Bounded s) : Bounded (cfgResponse p op data s) :=
  bounded_ite (attestFails_bounded h)
    (bounded_ite (sendTxn_bounded (updPort_bounded h)) (enterUp_bounded (updPort_bounded h)))

theorem openSession_bounded {p} (h : Bounded s) : Bounded (openSession p s) := updPort_bounded (bounded_mk h)

theorem attResponse_bounded {p v} (h : Bounded s) : Bounded (attResponse p v s) := by
  unfold attResponse
  extract_lets
  split
  · exact attestFails_bounded h
  · exact sendTxn_bounded (updPort_bounded h)
  · exact sendTxn_bounded h
  · exact bounded_ite (attestFails_bounded (bounded_ite (post_bounded (updPort_bounded h)) (updPort_bounded h)))
        (bounded_ite (sendTxn_bounded (bounded_ite (post_bounded (updPort_bounded h)) (updPort_bounded h)))
          (bounded_ite
            (sendTxn_bounded
              (setPortState_bounded
                (openSession_bounded
                  (bounded_ite (post_bounded (bounded_ite (post_bounded (updPort_bounded h)) (updPort_bounded h)))
                    (bounded_ite (post_bounded (updPort_bounded h)) (updPort_bounded h))))))
            (setPortState_bounded
              (updPort_bounded
                (openSession_bounded
                  (bounded_ite (post_bounded (bounded_ite (post_bounded (updPort_bounded h)) (updPort_bounded h)))
                    (bounded_ite (post_bounded (updPort_bounded h)) (updPort_bounded h))))))))

theorem startRekey_bounded {p} (h : Bounded s) : Bounded (startRekey p s) :=
  bounded_ite (post_bounded (sendTxn_bounded (portCount_bounded (updPort_bounded h)))) h

theorem execRekeyStart_bounded {port} (h : Bounded s) : NextBounded (execRekeyStart port s) :=
  bounded_ite (startRekey_bounded h) h

theorem execKeyUpdateAck_bounded {port} (h : Bounded s) : NextBounded (execKeyUpdateAck port s) :=
  bounded_ite (by
      split
      · exact noteValid_bounded (updPort_bounded (freeTag_bounded h))
      · exact h) h

theorem execRekeyTimeout_bounded {port} (h : Bounded s) : NextBounded (execRekeyTimeout port s) := by
  unfold execRekeyTimeout
  split
  · exact bounded_ite (linkLost_bounded h) h
  · exact h

theorem keySwitch_bounded (h : Bounded s) : Bounded (keySwitch s) := h

theorem authFailure_bounded {port} (h : Bounded s) : Bounded (authFailure port s) := by
  unfold authFailure
  extract_lets _ s1 s2
  have h1 : Bounded s1 := updPort_bounded (portCount_bounded h)
  have h2 : Bounded s2 := postRun_bounded h1
  exact bounded_ite h (bounded_ite (enterQuarantine_bounded h2) (bounded_ite (startRekey_bounded h2) h2))

theorem execAuthFailure_bounded {port} (h : Bounded s) : NextBounded (execAuthFailure port s) := authFailure_bounded h

theorem execTrainingComplete_bounded {port ctle dfe} (h : Bounded s) :
    NextBounded (execTrainingComplete port ctle dfe s) :=
  bounded_ite (startAttest_bounded (setPortState_bounded (updPort_bounded h))) h

theorem execTrainingAttemptFail_bounded {port} (h : Bounded s) : NextBounded (execTrainingAttemptFail port s) :=
  bounded_ite
    (bounded_ite (cycleDomain_bounded (updPort_bounded (post_bounded (updPort_bounded h))))
      (post_bounded (updPort_bounded h)))
    h

theorem execAttestationTimeout_bounded {port} (h : Bounded s) : NextBounded (execAttestationTimeout port s) := by
  unfold execAttestationTimeout
  split
  · exact bounded_ite (attestFails_bounded h) h
  · exact h

theorem execAttestationRetry_bounded {port} (h : Bounded s) : NextBounded (execAttestationRetry port s) := by
  unfold execAttestationRetry
  split
  · exact bounded_ite (startAttest_bounded (updPort_bounded h)) h
  · exact h

theorem execLinkLost_bounded {port cause} (h : Bounded s) : NextBounded (execLinkLost port cause s) :=
  bounded_ite (linkLost_bounded h) h

theorem execPortQuarantineEnd_bounded {port} (h : Bounded s) : NextBounded (execPortQuarantineEnd port s) :=
  bounded_ite (post_bounded (enterTraining_bounded (updPort_bounded h))) h

theorem execMarginMeasure_bounded {port height width} (h : Bounded s) :
    NextBounded (execMarginMeasure port height width s) := by
  unfold execMarginMeasure
  extract_lets _ _ _ _ _ _ _ s1 s2
  have h1 : Bounded s1 := updPort_bounded h
  have h2 : Bounded s2 := bounded_ite (postRun_bounded h1) h1
  exact bounded_ite (post_bounded h2) h2

theorem execPacketError_bounded {port codeErrors badCrc} (h : Bounded s) :
    NextBounded (execPacketError port codeErrors badCrc s) := by
  unfold execPacketError
  extract_lets s1 s2
  have h1 : Bounded s1 := portCount_bounded (portCount_bounded h)
  have h2 : Bounded s2 := postRun_bounded (updPort_bounded h1)
  exact bounded_ite (sendCtl_bounded (updPort_bounded h2)) h2

theorem takeReliable_bounded {port known seqNum} (h : Bounded s) : Bounded (takeReliable port known seqNum s) := by
  unfold takeReliable
  exact bounded_ite
      (bounded_ite (sendCtl_bounded (updPort_bounded h))
        (unknownPacket_bounded (sendCtl_bounded (updPort_bounded h))))
      (bounded_ite
        (bounded_ite (postRun_bounded (portCount_bounded h))
          (sendCtl_bounded (updPort_bounded (postRun_bounded (portCount_bounded h)))))
        (sendCtl_bounded (portCount_bounded h)))

theorem execReliablePacketReceived_bounded {port head payload tagOk} (h : Bounded s) :
    NextBounded (execReliablePacketReceived port head payload tagOk s) := by
  unfold execReliablePacketReceived
  extract_lets _ s0
  have h1 : Bounded s0 := noteValid_bounded (seePhase_bounded h)
  split
  · exact h
  · exact authFailure_bounded h
  · exact takeReliable_bounded h1
  · exact bounded_ite (authFailure_bounded h) (takeReliable_bounded h1)

theorem takeControlPacket_bounded {port op head b} {take : Nat → State → State}
    (htake : ∀ n t, Bounded t → Bounded (take n t)) (h : Bounded s) :
    Bounded (takeControlPacket port op head b take s) := by
  unfold takeControlPacket
  extract_lets hd s0 n
  have h0 : Bounded s0 := noteValid_bounded (seePhase_bounded h)
  split
  · exact h
  · exact authFailure_bounded h
  · exact unknownPacket_bounded (noteValid_bounded h)
  · exact bounded_ite (unknownPacket_bounded h0)
      (bounded_ite (htake _ _ (takeCtl_bounded h0)) (badCtl_bounded h0))

theorem execAckReceived_bounded {port head payload} (h : Bounded s) :
    NextBounded (execAckReceived port head payload s) :=
  takeControlPacket_bounded
    (fun _ _ ht =>
      by
        split
        · exact ht
        · exact bounded_ite (sendWaiting_bounded (freeAcked_bounded ht))
              (streamCheckpoint_bounded (sendWaiting_bounded (freeAcked_bounded ht))))
    h

theorem execNakReceived_bounded {port head payload} (h : Bounded s) :
    NextBounded (execNakReceived port head payload s) := by
  refine takeControlPacket_bounded (fun num t ht => ?_) h
  extract_lets s1
  have h1 : Bounded s1 := portCount_bounded ht
  split
  · exact h1
  · split
    next heq => exact replayFrom_bounded h1 heq
    next => exact linkLost_bounded h1

theorem execReplayTimeout_bounded {port} (h : Bounded s) : NextBounded (execReplayTimeout port s) := by
  unfold execReplayTimeout
  split
  · exact h
  · refine bounded_ite ?_ h
    split
    next heq => exact replayFrom_bounded h heq
    next => exact linkLost_bounded h

theorem execPingSend_bounded {port} (h : Bounded s) : NextBounded (execPingSend port s) :=
  bounded_ite (sendCtl_bounded (updPort_bounded h)) h

theorem execPongReceived_bounded {port head payload rttNs} (h : Bounded s) :
    NextBounded (execPongReceived port head payload rttNs s) :=
  takeControlPacket_bounded
    (fun _ _ ht => bounded_ite (bounded_ite (postRun_bounded (updPort_bounded ht)) (updPort_bounded ht)) ht)
    h

theorem execTransactionResponse_bounded {port tag tgen body} (h : Bounded s) :
    NextBounded (execTransactionResponse port tag tgen body s) := by
  unfold execTransactionResponse
  extract_lets x s1
  split
  · have h1 : Bounded s1 := sendWaiting_bounded (updPort_bounded (freeTag_bounded h))
    split
    · exact bounded_ite (cfgResponse_bounded h1) h1
    · refine bounded_ite ?_ (bounded_ite (attResponse_bounded h1) h1)
      split
      · exact bounded_ite (updPort_bounded h1) h1
      · exact h1
      · exact bounded_ite (sendTxn_bounded h1) h1
  · exact postRun_bounded (portCount_bounded h)
  · exact postRun_bounded (portCount_bounded h)

theorem execTransactionTimeout_bounded {port tag} (h : Bounded s) :
    NextBounded (execTransactionTimeout port tag s) := by
  unfold execTransactionTimeout
  extract_lets
  split
  · exact h
  · exact bounded_ite h
        (bounded_ite (linkLost_bounded (post_bounded (portCount_bounded (updPort_bounded (freeTag_bounded h)))))
          (sendTxn_bounded (post_bounded (portCount_bounded (updPort_bounded (freeTag_bounded h))))))

theorem evtEntry_bounded {p e} (h : Bounded s) : Bounded (evtEntry p s e) := by
  unfold evtEntry
  extract_lets _ _ _ s1
  have h1 : Bounded s1 := portCount_bounded h
  exact bounded_ite (postRun_bounded h1)
      (bounded_ite (updSiteC_bounded (siteDown_bounded (post_bounded (updPort_bounded h1))))
        (bounded_ite (updPort_bounded (updSiteC_bounded (siteDown_bounded (post_bounded (updPort_bounded h1)))))
          (bounded_ite (portCount_bounded (post_bounded (updPort_bounded h1))) (post_bounded (updPort_bounded h1)))))

theorem execEvtReceived_bounded {port payload} (h : Bounded s) : NextBounded (execEvtReceived port payload s) :=
  bounded_ite (foldl_bounded (fun _ _ ht => evtEntry_bounded ht) h) h

theorem sentRecord_bounded {i} (h : Bounded s) : Bounded (sentRecord i s) := by
  unfold sentRecord
  split
  · exact h
  · exact updSiteC_bounded h

theorem beaconPort_bounded {p} (h : Bounded s) : Bounded (beaconPort s p) :=
  bounded_ite h
    (bounded_ite (sendPacket_bounded (foldl_bounded (fun _ _ ht => sentRecord_bounded ht) h)) (sendPacket_bounded h))

theorem beacons_bounded (h : Bounded s) : Bounded (beacons s) := foldl_bounded (fun _ _ ht => beaconPort_bounded ht) h

theorem absentRecord_bounded {p i} (h : Bounded s) : Bounded (absentRecord p i s) :=
  capCount_bounded (portCount_bounded (updSiteC_bounded h))

theorem validRecord_bounded {i t} (h : Bounded s) : Bounded (validRecord i t s) :=
  takeMean_bounded (bounded_ite (capCount_bounded (updSiteC_bounded h)) (updSiteC_bounded h))

theorem telRecord_bounded {p i t} (h : Bounded s) : Bounded (telRecord p i t s) := by
  unfold telRecord
  split
  · exact absentRecord_bounded h
  · exact bounded_ite (absentRecord_bounded h) (bounded_ite h (validRecord_bounded h))

theorem acceptTel_bounded {port missed mask records} (h : Bounded s) :
    Bounded (acceptTel port missed mask records s) :=
  foldl_bounded (fun _ _ ht => telRecord_bounded ht) (portCount_bounded (updPort_bounded h))

theorem execTelReceived_bounded {port head interval missed mask records inTime} (h : Bounded s) :
    NextBounded (execTelReceived port head interval missed mask records inTime s) := by
  unfold execTelReceived
  extract_lets _ _ s0
  have h1 : Bounded s0 := noteValid_bounded (seePhase_bounded h)
  exact bounded_ite h
      (by
        split
        · exact h
        · exact authFailure_bounded h
        · exact unknownPacket_bounded h1
        · exact bounded_ite (unknownPacket_bounded h1)
              (bounded_ite (postRun_bounded (portCount_bounded h1))
                (bounded_ite (postRun_bounded h1) (bounded_ite (portCount_bounded h1) (acceptTel_bounded h1)))))

theorem execTelDeadline_bounded {port} (h : Bounded s) : NextBounded (execTelDeadline port s) :=
  bounded_ite h (foldl_bounded (fun _ _ ht => absentRecord_bounded ht) (updPort_bounded h))

theorem execSiteUnresponsive_bounded {site} (h : Bounded s) : NextBounded (execSiteUnresponsive site s) :=
  bounded_ite (siteDown_bounded h) h

theorem execSiteResponsive_bounded {site} (h : Bounded s) : NextBounded (execSiteResponsive site s) :=
  bounded_ite (post_bounded (updSiteC_bounded h)) h

theorem dueCycle_bounded {p} (h : Bounded s) : Bounded (dueCycle p s) :=
  bounded_ite (cycleDomain_bounded (updPort_bounded h)) h

theorem dueCycles_bounded (h : Bounded s) : Bounded (dueCycles s) :=
  foldl_bounded (fun _ _ ht => dueCycle_bounded ht) h

theorem linkFrame_bounded (h : Bounded s) : Bounded (linkFrame s) :=
  portDomains_bounded (dueCycles_bounded (keySwitch_bounded (bounded_mk h)))

/-! The operations of Machine/PlanVars.lean. -/

theorem setPlan_bounded {f} (h : Bounded s) : Bounded (setPlan f s) := h

theorem planCount_bounded {k} (h : Bounded s) : Bounded (planCount k s) := setPlan_bounded h

theorem updRun_bounded {l f} (h : Bounded s) : Bounded (updRun l f s) := setPlan_bounded h

theorem setHeat_bounded {f} (h : Bounded s) : Bounded (setHeat f s) := h

theorem ownerClamp_bounded {g hi e} (h : Bounded s) : Bounded (ownerClamp g hi e s).2 :=
  bounded_ite_snd h (postEvery_bounded (updGraph_bounded h))

theorem ownerEdge_bounded {g role i hi} (h : Bounded s) : Bounded (ownerEdge g role i hi s).2 := by
  refine foldl_snd_bounded (fun p e hp => ?_) h
  exact ownerClamp_bounded hp

theorem ownerLeast_bounded {role i hi} (h : Bounded s) : Bounded (ownerLeast role i hi s).2 := by
  refine foldl_snd_bounded (fun p g hp => ?_) h
  exact ownerEdge_bounded hp

theorem ownerPorts_bounded (h : Bounded s) : Bounded (ownerPorts s).2.2.2 := by
  unfold ownerPorts
  extract_lets a b
  have ha : Bounded a.2 := by
    refine foldl_snd_bounded (fun p l hp => ?_) h
    dsimp only
    exact ownerLeast_bounded hp
  have hb : Bounded b.2 := by
    refine foldl_snd_bounded (fun p g hp => ?_) ha
    dsimp only
    exact ownerLeast_bounded hp
  dsimp only
  exact hb

/-! The operations of Machine/Plan.lean. -/

theorem planSnapshot_bounded (h : Bounded s) : Bounded (planSnapshot s) := by
  unfold planSnapshot
  exact setPlan_bounded (ownerPorts_bounded h)

theorem hotLoop_bounded {l} (h : Bounded s) : Bounded (hotLoop s l) := updRun_bounded h

theorem hotFrame_bounded (h : Bounded s) : Bounded (hotFrame s) := foldl_bounded (fun _ _ ht => hotLoop_bounded ht) h

theorem keepCold_bounded {x} (h : Bounded s) : Bounded (keepCold s x) :=
  foldl_bounded (fun _ _ ht => updRun_bounded ht) h

theorem emberSupplyRun_bounded {x} (h : Bounded s) : Bounded (emberSupplyRun s x) :=
  foldl_bounded (fun _ _ ht => bounded_ite (post_bounded (updRun_bounded ht)) (updRun_bounded ht)) h

theorem setSnap_bounded {x} (h : Bounded s) : Bounded (setSnap x s) := setPlan_bounded h

theorem planBefore_bounded (h : Bounded s) : Bounded (planBefore s) := by
  unfold planBefore
  split
  · exact h
  · exact bounded_ite (setPlan_bounded (setSnap_bounded (keepCold_bounded h)))
        (bounded_ite (setSnap_bounded (emberSupplyRun_bounded h))
          (bounded_ite (setSnap_bounded h) (bounded_ite (setSnap_bounded h) h)))

theorem planAfterEngine_bounded (h : Bounded s) : Bounded (planAfterEngine s) := by
  unfold planAfterEngine
  extract_lets
  split
  · exact bounded_ite (setSnap_bounded h) h
  · exact h

theorem derivation1_bounded {x} (h : Bounded s) : Bounded (derivation1 s x) := by
  unfold derivation1
  split
  · exact h
  · exact setPlan_bounded (setSnap_bounded h)

theorem derivation2_bounded {x} (h : Bounded s) : Bounded (derivation2 s x) := by
  unfold derivation2
  split <;> exact setSnap_bounded h

theorem enterFallback_bounded (h : Bounded s) : Bounded (enterFallback s) :=
  post_bounded (planCount_bounded (setPlan_bounded h))

theorem commitFallback_bounded {x} (h : Bounded s) : Bounded (commitFallback x s) :=
  bounded_ite (foldl_bounded (fun _ _ ht => postRun_bounded ht) (setPlan_bounded (bounded_mk h))) h

theorem commitSurrogate_bounded {v} (h : Bounded s) : Bounded (commitSurrogate v s) := setPlan_bounded h

theorem feasibleEpoch_bounded {x v} (h : Bounded s) : Bounded (feasibleEpoch x v s) := by
  unfold feasibleEpoch
  split
  · exact commitSurrogate_bounded h
  · exact commitSurrogate_bounded h
  · exact post_bounded (commitSurrogate_bounded h)
  · exact bounded_ite (bounded_mk (post_bounded (commitSurrogate_bounded h)))
      (commitFallback_bounded (setPlan_bounded h))
  · exact h

theorem infeasibleEpoch_bounded {x} (h : Bounded s) : Bounded (infeasibleEpoch x s) := by
  unfold infeasibleEpoch
  extract_lets
  split
  · exact bounded_ite (setPlan_bounded h) (commitFallback_bounded (enterFallback_bounded (post_bounded h)))
  · exact setPlan_bounded (postRun_bounded (planCount_bounded (setPlan_bounded h)))
  · exact bounded_ite (markRun_bounded (setPlan_bounded h))
        (commitFallback_bounded (enterFallback_bounded (post_bounded h)))
  · exact commitFallback_bounded (setPlan_bounded h)
  · exact h

theorem noteResult_bounded {r x v} (h : Bounded s) : Bounded (noteResult r x v s) := by
  unfold noteResult
  extract_lets s1 s2 s3 s4 s5
  have h1 : Bounded s1 := setPlan_bounded h
  have h2 : Bounded s2 := planCount_bounded h1
  have h3 : Bounded s3 := bounded_ite (postRun_bounded (planCount_bounded h2)) h2
  have h4 : Bounded s4 := bounded_ite h3 (bounded_ite (postRun_bounded (planCount_bounded h3)) (planCount_bounded h3))
  have h5 : Bounded s5 := bounded_ite (postRun_bounded (planCount_bounded h4)) h4
  exact bounded_ite (postRun_bounded h5) h5

theorem planCommit_bounded (h : Bounded s) : Bounded (planCommit s) := by
  unfold planCommit
  split
  · exact h
  · exact bounded_ite h
        (bounded_ite (commitFallback_bounded (bounded_ite (setPlan_bounded h) (enterFallback_bounded h)))
          (bounded_ite (feasibleEpoch_bounded (noteResult_bounded h))
            (infeasibleEpoch_bounded (noteResult_bounded h))))

theorem planSlice_bounded (h : Bounded s) : Bounded (planSlice s) := by
  unfold planSlice
  extract_lets s0
  have h1 : Bounded s0 := hotFrame_bounded h
  split
  · exact h1
  · exact bounded_ite (derivation1_bounded h1)
        (bounded_ite (derivation2_bounded h1) (bounded_ite (planCommit_bounded h1) h1))

theorem planSliceLost_bounded (h : Bounded s) : Bounded (planSliceLost s) :=
  bounded_ite (by
      split
      · exact setSnap_bounded h
      · exact h)
    (bounded_ite (by
        split
        · exact planCommit_bounded (setSnap_bounded h)
        · exact h) h)

theorem sampleLoop_bounded {l} (h : Bounded s) : Bounded (sampleLoop s l) := updRun_bounded h

theorem planSamples_bounded (h : Bounded s) : Bounded (planSamples s) :=
  foldl_bounded (fun _ _ ht => sampleLoop_bounded ht) h

theorem rollSamples_bounded (h : Bounded s) : Bounded (rollSamples s) := setPlan_bounded h

theorem requestMode_bounded {due m} (h : Bounded s) : Bounded (requestMode due m s) :=
  setPlan_bounded (bounded_ite (post_bounded h) h)

theorem takeRequests_bounded {b} (h : Bounded s) : Bounded (takeRequests b s) := setPlan_bounded h

theorem dropRequests_bounded {b} (h : Bounded s) : Bounded (dropRequests b s) :=
  setHeat_bounded (takeRequests_bounded h)

theorem modeBoundary_bounded (h : Bounded s) : Bounded (modeBoundary s) := by
  unfold modeBoundary
  extract_lets _ _ _ _ s1 s2 s3
  have h1 : Bounded s1 := setPlan_bounded (takeRequests_bounded h)
  have h2 : Bounded s2 := bounded_ite (post_bounded h1) h1
  have h3 : Bounded s3 := bounded_ite (post_bounded h2) h2
  exact bounded_ite h3 (post_bounded h3)

theorem limitBoundary_bounded (h : Bounded s) : Bounded (limitBoundary s) := setHeat_bounded h

theorem creditLoop_bounded {v l} (h : Bounded s) : Bounded (creditLoop v l s) := by
  unfold creditLoop
  extract_lets p out clear x arm s1 a b s2
  have hclear {t} (ht : Bounded t) : Bounded (clear t) := updLoopP_bounded (updRun_bounded ht)
  have h1 : Bounded s1 := updRun_bounded h
  have h2 : Bounded s2 := updLoopP_bounded (updRun_bounded h1)
  split
  · exact bounded_ite (hclear h) (updLoopP_bounded h)
  · exact hclear h
  · exact bounded_ite (hclear (updRun_bounded h))
      (bounded_ite (bounded_ite (post_bounded h2) h2) (hclear h1))

theorem emberLoop_bounded {v l} (h : Bounded s) : Bounded (emberLoop v l s) :=
  bounded_ite h
    (post_bounded (planCount_bounded (updRun_bounded (foldl_bounded (fun _ _ ht => updSiteP_bounded ht) h))))

theorem planTargets_bounded {v} (h : Bounded s) : Bounded (planTargets v s) :=
  foldl_bounded
    (fun _ _ ht =>
      bounded_ite ht
        (bounded_ite (updCtl_bounded ht) (bounded_ite ht (bounded_ite (updCtl_bounded ht) (updCtl_bounded ht)))))
    h

theorem growthStops_bounded (h : Bounded s) : Bounded (growthStops s) := setHeat_bounded h

theorem discardResult_bounded (h : Bounded s) : Bounded (discardResult s) :=
  bounded_ite h
    (by
      extract_lets
      split
      · exact commitFallback_bounded (enterFallback_bounded (setPlan_bounded h))
      · exact enterFallback_bounded (setPlan_bounded h))

theorem commitBoundary_bounded (h : Bounded s) : Bounded (commitBoundary s) := by
  unfold commitBoundary
  split
  · exact growthStops_bounded (vigilCommit_bounded h)
  · exact vigilCommit_bounded
        (planTargets_bounded
          (foldl_bounded (fun _ _ ht => emberLoop_bounded (creditLoop_bounded ht)) (bounded_mk (setPlan_bounded h))))

theorem leaveFeast_bounded (h : Bounded s) : Bounded (leaveFeast s) := bounded_mk (setPlan_bounded h)

theorem sprayLock_bounded (h : Bounded s) : Bounded (sprayLock s) :=
  bounded_ite (post_bounded (setPlan_bounded h))
    (bounded_ite (post_bounded (setPlan_bounded (setPlan_bounded h))) (setPlan_bounded h))

theorem stopPlan_bounded (h : Bounded s) : Bounded (stopPlan s) := bounded_ite h (post_bounded (setPlan_bounded h))

theorem restartPlan_bounded (h : Bounded s) : Bounded (restartPlan s) :=
  bounded_ite (post_bounded (setPlan_bounded h)) h

theorem planBoundary_bounded (h : Bounded s) : Bounded (planBoundary s) := by
  unfold planBoundary
  extract_lets _ s1 s2 s3 s4 s5
  have h1 : Bounded s1 := limitBoundary_bounded (modeBoundary_bounded h)
  have h2 : Bounded s2 := commitBoundary_bounded (discardResult_bounded h1)
  have h3 : Bounded s3 := bounded_ite (leaveFeast_bounded h2) h2
  have h4 : Bounded s4 := lockstepAll_bounded (sprayLock_bounded h3)
  have h5 : Bounded s5 := rollSamples_bounded h4
  exact bounded_ite h5 (planSnapshot_bounded h5)

theorem initPlan_bounded (h : Bounded s) : Bounded (initPlan s) := h

/-! The operations of Machine/Health.lean. -/

theorem tdcMeasure_bounded {c d} (h : Bounded s) : Bounded (tdcMeasure c d s) :=
  bounded_ite (postRun_bounded (updCan_bounded h)) (updCan_bounded h)

theorem frameSent_bounded {c source m tdc} (h : Bounded s) : Bounded (frameSent c source m tdc s) := by
  unfold frameSent
  extract_lets _ s1
  have h1 : Bounded s1 := send_bounded (canCount_bounded h)
  split
  · exact bounded_ite (tdcMeasure_bounded h1) h1
  · exact h1

theorem cellColumn_bounded {c col k f} (h : Bounded s) : Bounded (cellColumn c col k f s) := by
  unfold cellColumn
  exact bounded_ite h
      (bounded_ite
        (bounded_ite
          (updPump_bounded
            (frameSent_bounded
              (bounded_ite (postRun_bounded (canCount_bounded (canCount_bounded h))) (canCount_bounded h))))
          (frameSent_bounded
            (bounded_ite (postRun_bounded (canCount_bounded (canCount_bounded h))) (canCount_bounded h))))
        (postRun_bounded
          (canCount_bounded
            (bounded_ite (postRun_bounded (canCount_bounded (canCount_bounded h))) (canCount_bounded h)))))

theorem hostSend_bounded {c f} : ∀ {left room l} {s : State}, Bounded s → Bounded (hostSend c f left room l s)
  | _, _, [], _, h => h
  | _, _, _ :: _, _, h => bounded_ite h (bounded_ite (bounded_ite (updCan_bounded h) h)
      (hostSend_bounded (canCount_bounded (frameSent_bounded (updCan_bounded h)))))

theorem execCellTransmit_bounded {channel column facts} (h : Bounded s) :
    NextBounded (execCellTransmit channel column facts s) := by
  unfold execCellTransmit
  exact bounded_ite h
      (bounded_ite
        (bounded_ite
          (bounded_ite (hostSend_bounded (canCount_bounded (noteErrors_bounded h))) (noteErrors_bounded h))
          (cellColumn_bounded (noteErrors_bounded h)))
        (bounded_ite (cellColumn_bounded h) h))

/-! The operations of Machine/Tenants.lean. -/

theorem noteStale_bounded {t} (h : Bounded s) : Bounded (noteStale t s) :=
  postEvery_bounded (heatCount_bounded (updTenant_bounded h))

theorem applyBind_bounded {site t} (h : Bounded s) : Bounded (applyBind site t s) := post_bounded (updSiteP_bounded h)

theorem vacateSite_bounded {site} (h : Bounded s) : Bounded (vacateSite site s) := updSiteP_bounded (bounded_mk h)

theorem applyQuota_bounded {t lo hi} (h : Bounded s) : Bounded (applyQuota t lo hi s) := updTenant_bounded h

theorem applyPages_bounded {t l rs} (h : Bounded s) : Bounded (applyPages t l rs s) :=
  bounded_mk (foldl_bounded (fun _ _ ht => noteStale_bounded ht) h)

theorem applyReleaseTenant_bounded {t} (h : Bounded s) : Bounded (applyReleaseTenant t s) :=
  post_bounded (updTenant_bounded (foldl_bounded (fun _ _ ht => vacateSite_bounded ht) h))

theorem applyAdmit_bounded {t} (h : Bounded s) : Bounded (applyAdmit t s) := post_bounded (updTenant_bounded h)

theorem execQuarantineTimerExpiry_bounded {tenant} (h : Bounded s) :
    NextBounded (execQuarantineTimerExpiry tenant s) :=
  bounded_ite (updTenant_bounded h) h

theorem applySplit_bounded {t order c m l} (h : Bounded s) : Bounded (applySplit t order c m l s) :=
  post_bounded (updTenant_bounded h)

theorem startTenant_bounded {t} (h : Bounded s) : Bounded (startTenant s t) :=
  bounded_ite (updTenant_bounded h)
    (bounded_ite h (updTenant_bounded (bounded_ite (bounded_mk (bounded_mk h)) (bounded_mk h))))

theorem startTenants_bounded (h : Bounded s) : Bounded (startTenants s) :=
  foldl_bounded (fun _ _ ht => startTenant_bounded ht) h

theorem execDitherWindowStart_bounded {site} (h : Bounded s) : NextBounded (execDitherWindowStart site s) :=
  bounded_ite (capCount_bounded (updSiteC_bounded h)) h

theorem execThermalTrip_bounded {loop} (h : Bounded s) : NextBounded (execThermalTrip loop s) :=
  bounded_ite (abortWhere_bounded (tripLoop_bounded h)) h

theorem thermalFrame_bounded (h : Bounded s) : Bounded (thermalFrame s) :=
  foldl_bounded (fun _ _ ht => bounded_ite (thermalCount_bounded ht) ht) h

/-! The operations of Machine/Security.lean. -/

theorem setSec_bounded {f} (h : Bounded s) : Bounded (setSec f s) := h

theorem secCount_bounded {k} (h : Bounded s) : Bounded (secCount k s) := setSec_bounded h

theorem carry_bounded {i size} (h : Bounded s) : Bounded (carry i size s) := updSession_bounded h

theorem put_bounded {i t} (h : Bounded s) : Bounded (put i t s) := send_bounded (updSession_bounded h)

theorem flush_bounded {i} : ∀ {l} {s : State}, Bounded s → Bounded (flush i l s)
  | [], _, h => updSession_bounded h
  | _ :: _, _, h => by
    unfold flush
    split
    · exact flush_bounded (put_bounded h)
    · exact updSession_bounded h

theorem answer_bounded {i msgId t} (h : Bounded s) : Bounded (answer i msgId t s) :=
  bounded_ite (put_bounded h) (updSession_bounded h)

theorem await_bounded {i msgId} (h : Bounded s) : Bounded (await i msgId s) := updSession_bounded h

theorem resolve_bounded {i msgId t} (h : Bounded s) : Bounded (resolve i msgId t s) := by
  unfold resolve
  split
  · exact flush_bounded h
  · exact h

theorem errorAnswer_bounded {i msgId code} (h : Bounded s) : Bounded (errorAnswer i msgId code s) := answer_bounded h

theorem onMessage_bounded {i msgId size} {f : State → State} (hf : ∀ t, Bounded t → Bounded (f t))
    (h : Bounded s) : Bounded (onMessage i msgId size f s) :=
  bounded_ite (put_bounded (carry_bounded h)) (hf _ (carry_bounded h))

theorem draw_bounded (h : Bounded s) : Bounded (draw s).2 := h

theorem newEnrolNonce_bounded (h : Bounded s) : Bounded (newEnrolNonce s) :=
  bounded_ite (setSec_bounded (draw_bounded h)) h

theorem execDrbgHealthFailure_bounded (h : Bounded s) : NextBounded (execDrbgHealthFailure s) :=
  bounded_ite (post_bounded (setSec_bounded h)) h

theorem execDrbgResume_bounded (h : Bounded s) : NextBounded (execDrbgResume s) :=
  bounded_ite (post_bounded (newEnrolNonce_bounded (setSec_bounded h))) h

theorem execEnrolNChange_bounded {low} (h : Bounded s) : NextBounded (execEnrolNChange low s) :=
  bounded_ite h (setSec_bounded h)

theorem partFuses_bounded {f} (h : Bounded s) : Bounded (partFuses f s) :=
  bounded_ite (setSec_bounded (bounded_mk h)) h

theorem enrol_bounded {f} (h : Bounded s) : Bounded (enrol f s).2 :=
  bounded_ite_snd (post_bounded (setSec_bounded h))
    (newEnrolNonce_bounded (post_bounded (bounded_ite (partFuses_bounded h) h)))

theorem execEnrolReboot_bounded (h : Bounded s) : NextBounded (execEnrolReboot s) := by
  unfold execEnrolReboot
  split
  · exact bounded_ite (bounded_mk (setSec_bounded h)) h
  · exact h

theorem certPart_bounded {session part last bytes f} (h : Bounded s) :
    Bounded (certPart session part last bytes f s).2 := by
  unfold certPart
  extract_lets drop
  have h1 : Bounded drop := setSec_bounded h
  refine bounded_ite_snd h ?_
  split
  · exact bounded_ite_snd h (setSec_bounded h)
  · exact bounded_ite_snd h (bounded_ite_snd h h1)
  · exact bounded_ite_snd h h1
  · exact h

theorem installCert_bounded {part bytes} (h : Bounded s) : Bounded (installCert part bytes s) :=
  post_bounded (setSec_bounded h)

theorem issueNonce_bounded (h : Bounded s) : Bounded (issueNonce s) :=
  post_bounded (setSec_bounded (draw_bounded h))

theorem execReleaseNonceExpiry_bounded (h : Bounded s) : NextBounded (execReleaseNonceExpiry s) := by
  unfold execReleaseNonceExpiry
  split
  · exact bounded_ite (setSec_bounded h) h
  · exact h

theorem emptied_bounded : Bounded (emptied s) := reset_bounded

theorem enterReturn_bounded (h : Bounded s) : Bounded (enterReturn s) := h

theorem zeroise_bounded : Bounded (zeroise s) :=
  post_bounded (enterReturn_bounded (setSec_bounded (bounded_mk reset_bounded)))

theorem ownerRelease_bounded {rootHash sigOk nonce} (h : Bounded s) :
    Bounded (ownerRelease rootHash sigOk nonce s).2 :=
  bounded_ite_snd zeroise_bounded (post_bounded h)

theorem spdmAnswer_bounded {i code data} (h : Bounded s) : Bounded (spdmAnswer i code data s) :=
  bounded_ite (onMessage_bounded (fun _ ht => bounded_ite (errorAnswer_bounded ht) (answer_bounded ht)) h) h

theorem execGetVersion_bounded {session} (h : Bounded s) : NextBounded (execGetVersion session s) :=
  spdmAnswer_bounded h

theorem execGetCapabilities_bounded {session} (h : Bounded s) : NextBounded (execGetCapabilities session s) :=
  spdmAnswer_bounded h

theorem execNegotiateAlgorithms_bounded {session offersEcdsaP384 offersSha384} (h : Bounded s) :
    NextBounded (execNegotiateAlgorithms session offersEcdsaP384 offersSha384 s) :=
  bounded_ite (spdmAnswer_bounded h) (spdmAnswer_bounded h)

theorem execGetDigests_bounded {session} (h : Bounded s) : NextBounded (execGetDigests session s) :=
  spdmAnswer_bounded h

theorem execGetCertificate_bounded {session slot offset length} (h : Bounded s) :
    NextBounded (execGetCertificate session slot offset length s) := by
  unfold execGetCertificate
  split
  · exact bounded_ite (spdmAnswer_bounded h) (spdmAnswer_bounded h)
  · exact spdmAnswer_bounded h

theorem execChallenge_bounded {session slot nonce} (h : Bounded s) :
    NextBounded (execChallenge session slot nonce s) := by
  unfold execChallenge
  split <;> exact spdmAnswer_bounded h

theorem noteAttested_bounded {i} (h : Bounded s) : Bounded (noteAttested i s) :=
  bounded_ite (post_bounded (updSession_bounded (secCount_bounded h))) (secCount_bounded h)

theorem execGetMeasurements_bounded {session index signed nonce} (h : Bounded s) :
    NextBounded (execGetMeasurements session index signed nonce s) := by
  refine bounded_ite h ?_
  split
  · exact spdmAnswer_bounded h
  · refine bounded_ite ?_ (spdmAnswer_bounded h)
    split
    · exact spdmAnswer_bounded h
    · exact noteAttested_bounded (spdmAnswer_bounded h)

theorem execSpdmUnsupportedRequest_bounded {session} (h : Bounded s) :
    NextBounded (execSpdmUnsupportedRequest session s) :=
  spdmAnswer_bounded h

theorem updSecTenant_bounded {t f} (h : Bounded s) : Bounded (updSecTenant t f s) := setSec_bounded h

theorem beginBlocks_bounded (h : Bounded s) : Bounded (beginBlocks s) := h

theorem telemetryFrame_bounded (h : Bounded s) : Bounded (telemetryFrame s) := bounded_ite h (setSec_bounded h)

theorem sealTenant_bounded {b} (h : Bounded s) : Bounded (sealTenant b s) :=
  send_bounded (notify_bounded (secCount_bounded (updSecTenant_bounded h)))

theorem sealRow_bounded {b} (h : Bounded s) : Bounded (sealRow b s) :=
  send_bounded (notify_bounded (setSec_bounded h))

theorem execTelemetryBlockSeal_bounded (h : Bounded s) : NextBounded (execTelemetryBlockSeal s) := by
  unfold execTelemetryBlockSeal
  split
  · exact bounded_ite (sealRow_bounded (foldl_bounded (fun _ _ ht => sealTenant_bounded ht) (setSec_bounded h))) h
  · exact h

theorem skipBlocks_bounded {ts} (h : Bounded s) : Bounded (skipBlocks ts s) :=
  post_bounded
    (secCount_bounded
      (setSec_bounded (foldl_bounded (fun _ _ ht => post_bounded (secCount_bounded (updSecTenant_bounded ht))) h)))

theorem execBlockNotSealed_bounded (h : Bounded s) : NextBounded (execBlockNotSealed s) := by
  unfold execBlockNotSealed
  split
  · exact bounded_ite (skipBlocks_bounded h) h
  · exact h

theorem rollBlocks_bounded (h : Bounded s) : Bounded (rollBlocks s) :=
  bounded_ite
    (bounded_ite (beginBlocks_bounded (by
        split
        · exact skipBlocks_bounded h
        · exact h))
      (beginBlocks_bounded (setSec_bounded (by
          split
          · exact skipBlocks_bounded h
          · exact h))))
    h

theorem execSessionLockoutEnd_bounded {session} (h : Bounded s) : NextBounded (execSessionLockoutEnd session s) := by
  unfold execSessionLockoutEnd
  split
  · exact bounded_ite (updSession_bounded h) h
  · exact h

/-! The operations of Machine/Copies.lean. -/

theorem copyFails_bounded {c x} (h : Bounded s) : Bounded (copyFails c x s) := post_bounded (bounded_mk h)

theorem endUpdate_bounded (h : Bounded s) : Bounded (endUpdate s) := h

theorem keyRestored_bounded (h : Bounded s) : Bounded (keyRestored s) := h

theorem imageBegin_bounded {h1 length} (h : Bounded s) : Bounded (imageBegin h1 length s) := by
  unfold imageBegin
  split
  · exact bounded_mk h
  · exact h

theorem imageWrite_bounded {hdr offset bytes} (h : Bounded s) : Bounded (imageWrite hdr offset bytes s).2 := by
  unfold imageWrite
  split
  · exact bounded_ite_snd h (bounded_ite_snd (bounded_mk h) (bounded_mk h))
  · exact h

theorem imageEnd_bounded {hdr f} (h : Bounded s) : Bounded (imageEnd hdr f s).2.2 := by
  unfold imageEnd
  split
  · split
    · exact h
    · extract_lets bs _ s1 r
      have h1 : Bounded s1 := bounded_mk h
      split
      · exact post_bounded (bounded_mk h1)
      · exact copyFails_bounded (bounded_mk h1)
  · exact h

/-! The operations of Machine/LogWriter.lean. -/

theorem announce_bounded {e} (h : Bounded s) : Bounded (announce e s) := notify_bounded h

theorem writeRecord_bounded {e} (h : Bounded s) : Bounded (writeRecord e s) := by
  unfold writeRecord
  extract_lets ann e1 s1 s2 s3
  have h1 : Bounded s1 := h
  have h2 : Bounded s2 := by
    change Bounded (match s.log.state with | .isOpen => _ | .degraded => _ | _ => _)
    split <;> exact h1
  have h3 : Bounded s3 := bounded_ite (setLog_bounded (logLastWord_fits h2)) h2
  exact bounded_ite (announce_bounded h3) h3

theorem mediaEvent_bounded {address cause} (h : Bounded s) : Bounded (mediaEvent address cause s) :=
  announce_bounded (setLog_bounded (logLastWord_fits h))

theorem mediaFailure_bounded {address cause} (h : Bounded s) : Bounded (mediaFailure address cause s) := by
  unfold mediaFailure
  extract_lets last s1
  have h1 : Bounded s1 := mediaEvent_bounded (setLog_bounded h)
  exact bounded_ite (writeRecord_bounded h1) h1

theorem loseReserve_bounded (h : Bounded s) : Bounded (loseReserve s) :=
  bounded_ite (mediaEvent_bounded (setLog_bounded h)) h

theorem writeBatch_bounded {fail} : ∀ {k l} {s : State}, Bounded s → Bounded (writeBatch fail k l s)
  | _, [], _, h => h
  | _, _ :: _, _, h => by
    unfold writeBatch
    refine writeBatch_bounded (writeRecord_bounded ?_)
    split
    · exact bounded_ite (mediaFailure_bounded h) h
    · exact h

theorem execLogWrite_bounded {fail} (h : Bounded s) : NextBounded (execLogWrite fail s) := by
  refine bounded_ite h ?_
  extract_lets n batch s1
  have h1 : Bounded s1 := writeBatch_bounded (setLog_bounded
    ⟨Nat.le_trans (List.length_drop (l := s.log.queue) ▸ Nat.sub_le _ _) h.1, h.2⟩)
  exact bounded_ite (post_bounded (setLog_bounded h1)) h1

theorem execAnnouncementExpiry_bounded (h : Bounded s) : NextBounded (execAnnouncementExpiry s) := by
  unfold execAnnouncementExpiry
  split
  · exact bounded_ite (setLog_bounded h) h
  · exact h

theorem moveLastWords_bounded (h : Bounded s) : Bounded (moveLastWords s) := by
  refine bounded_ite h (post_bounded (setLog_bounded ?_))
  exact List.foldlRecOn (motive := LogFits) _ _ ⟨h.1, Nat.zero_le _⟩ fun _ hl _ _ => logPost_fits hl

theorem openLog_bounded {ringOk} (h : Bounded s) : Bounded (openLog ringOk s) := by
  unfold openLog
  extract_lets head oldest s0 s1 old s2 fresh s3
  have h0 : Bounded s0 := h
  have h1 : Bounded s1 := h0
  have h2 : Bounded s2 := mediaFailure_bounded (setLog_bounded ⟨h0.1, Nat.zero_le _⟩)
  have h3 : Bounded s3 := moveLastWords_bounded (setLog_bounded ⟨h2.1, h0.2⟩)
  exact bounded_ite (moveLastWords_bounded (post_bounded h1))
    (bounded_ite (setLog_bounded ⟨h3.1, h2.2⟩) (mediaFailure_bounded h0))

/-! The operations of Machine/Maintenance.lean. -/

theorem maintCount_bounded {k} (h : Bounded s) : Bounded (maintCount k s) := h

theorem startRefused_bounded {r code target} (h : Bounded s) : Bounded (startRefused r code target s) :=
  post_bounded (maintCount_bounded h)

theorem acceptStart_bounded {code duration target window} (h : Bounded s) :
    Bounded (acceptStart code duration target window s) :=
  post_bounded (maintCount_bounded (bounded_mk (updActivity_bounded h)))

theorem classOne_bounded {c open_} (h : Bounded s) : Bounded (classOne c open_ s) := updCh_bounded h

theorem beginActivity_bounded {i} (h : Bounded s) : Bounded (beginActivity i s) := by
  unfold beginActivity
  extract_lets _ s1
  have h1 : Bounded s1 := updActivity_bounded h
  split
  · exact classOne_bounded h1
  · exact updPump_bounded h1
  · exact updActivity_bounded h1
  · exact classOne_bounded h1
  · exact classOne_bounded h1
  · exact h1

theorem cleanActivity_bounded {a} (h : Bounded s) : Bounded (cleanActivity s a) := by
  unfold cleanActivity
  extract_lets drop s2 shut s3
  have h2 : Bounded s2 := updPump_bounded h
  have hdrop {l : List Nat} : Bounded (l.foldl drop s) := foldl_bounded (fun _ _ ht => updCh_bounded ht) h
  split
  · exact bounded_ite (restartPump_bounded h2) h2
  · exact bounded_mk hdrop
  · exact hdrop

theorem maintBoundary_bounded (h : Bounded s) : Bounded (maintBoundary s) :=
  foldl_bounded (fun _ _ ht => bounded_ite (beginActivity_bounded ht) ht)
    (foldl_bounded (fun _ _ ht => cleanActivity_bounded ht) (bounded_mk h))

theorem maintSamples_bounded (h : Bounded s) : Bounded (maintSamples s) := h

theorem execActivityEnd_bounded {index} (h : Bounded s) : NextBounded (execActivityEnd index s) := by
  unfold execActivityEnd
  exact bounded_ite h
      (bounded_ite (endActivity_bounded h)
        (bounded_ite h
          (bounded_ite (endActivity_bounded h) (bounded_ite (endActivity_bounded h) (endActivity_bounded h)))))

theorem execActivityEntryFree_bounded {index} (h : Bounded s) : NextBounded (execActivityEntryFree index s) :=
  bounded_ite (updActivity_bounded h) h

theorem execStrokeValveClose_bounded {index} (h : Bounded s) : NextBounded (execStrokeValveClose index s) :=
  bounded_ite (classOne_bounded (updActivity_bounded h)) h

theorem strokeFail_bounded {i requirement} (h : Bounded s) : Bounded (strokeFail i requirement s) :=
  post_bounded (endActivity_bounded h)

theorem strokeClosing_bounded {i} (h : Bounded s) : Bounded (strokeClosing i s) :=
  bounded_ite h
    (bounded_ite (strokeFail_bounded h)
      (bounded_ite (classOne_bounded (updActivity_bounded h)) (bounded_ite (strokeFail_bounded h) h)))

theorem strokeOpening_bounded {i} (h : Bounded s) : Bounded (strokeOpening i s) :=
  bounded_ite h
    (bounded_ite (bounded_ite (updActivity_bounded h) (endActivity_bounded h)) (bounded_ite (strokeFail_bounded h) h))

theorem execStrokeFlowCheck_bounded {index} (h : Bounded s) : NextBounded (execStrokeFlowCheck index s) :=
  bounded_ite h
    (by
      split
      · exact strokeClosing_bounded h
      · exact strokeClosing_bounded h
      · exact strokeOpening_bounded h
      · exact strokeOpening_bounded h
      · exact h)

theorem execStrokeFloorTimeout_bounded {index} (h : Bounded s) : NextBounded (execStrokeFloorTimeout index s) :=
  bounded_ite (endActivity_bounded h) h

theorem execDrainFillEndPressure_bounded {index} (h : Bounded s) :
    NextBounded (execDrainFillEndPressure index s) :=
  bounded_ite (endActivity_bounded h) h

theorem execSelfTestResult_bounded {index wet x} (h : Bounded s) :
    NextBounded (execSelfTestResult index wet x s) :=
  bounded_ite h
    (bounded_ite (endActivity_bounded (updActivity_bounded h))
      (post_bounded (endActivity_bounded (updActivity_bounded h))))

theorem execFirmwareExchangeReport_bounded {index verified bytes} (h : Bounded s) :
    NextBounded (execFirmwareExchangeReport index verified bytes s) :=
  bounded_ite h
    (bounded_ite (post_bounded (endActivity_bounded (updActivity_bounded h)))
      (post_bounded (endActivity_bounded (updActivity_bounded h))))

theorem closeWindow_bounded {w} (h : Bounded s) : Bounded (closeWindow w s) :=
  bounded_ite (post_bounded (bounded_mk h)) h

theorem openWindow_bounded {payload} (h : Bounded s) : Bounded (openWindow payload s) := by
  unfold openWindow
  extract_lets _ _ s1
  have h1 : Bounded s1 := post_bounded (bounded_mk h)
  exact bounded_ite (bounded_ite (acceptStart_bounded h1) (startRefused_bounded h1)) h1

theorem executeClose_bounded {payload} (h : Bounded s) : Bounded (executeClose payload s) :=
  closeWindow_bounded (bounded_ite (foldl_bounded (fun _ _ ht => bounded_ite (endActivity_bounded ht) ht) h) h)

theorem execMaintWindowTimeout_bounded {window} (h : Bounded s) : NextBounded (execMaintWindowTimeout window s) :=
  bounded_ite (closeWindow_bounded h) h

theorem applyStop_bounded {id} (h : Bounded s) : Bounded (applyStop id s) := by
  unfold applyStop
  split
  · exact endActivity_bounded h
  · exact h

/-! The operations of Machine/Timebase.lean. -/

theorem noteForeign_bounded {a} (h : Bounded s) : Bounded (noteForeign a s) := h

theorem takeAnnounce_bounded {a} (h : Bounded s) : Bounded (takeAnnounce a s) :=
  bounded_ite (post_bounded (bounded_ite (post_bounded (bounded_mk h)) (bounded_mk h)))
    (bounded_ite (post_bounded (bounded_mk h)) (bounded_mk h))

theorem ptpIgnore_bounded (h : Bounded s) : Bounded (ptpIgnore s) := h

theorem enterHoldover_bounded (h : Bounded s) : Bounded (enterHoldover s) := post_bounded (bounded_mk h)

theorem newEpoch_bounded {d} (h : Bounded s) : Bounded (newEpoch d s) := h

theorem preEpochStep_bounded {d} (h : Bounded s) : Bounded (preEpochStep d s) := post_bounded (bounded_mk h)

theorem sendDelayReq_bounded (h : Bounded s) : Bounded (sendDelayReq s) := bounded_ite h (send_bounded (bounded_mk h))

theorem execSyncReceived_bounded {port sender origin correction rxRow logInterval} (h : Bounded s) :
    NextBounded (execSyncReceived port sender origin correction rxRow logInterval s) :=
  nextBounded_ite h
    (nextBounded_ite (ptpIgnore_bounded h)
      (nextBounded_ite h (sendDelayReq_bounded (bounded_ite (post_bounded (bounded_mk h)) (bounded_mk h)))))

theorem execDelayRespReceived_bounded {head txRow rxMaster} (h : Bounded s) :
    NextBounded (execDelayRespReceived head txRow rxMaster s) :=
  bounded_ite h (bounded_ite (ptpIgnore_bounded h) (bounded_ite (bounded_mk h) h))

theorem execPtpMessageIgnored_bounded (h : Bounded s) : NextBounded (execPtpMessageIgnored s) :=
  bounded_ite (ptpIgnore_bounded h) h

theorem execAnnounceReceived_bounded {a} (h : Bounded s) : NextBounded (execAnnounceReceived a s) :=
  nextBounded_ite h
    (nextBounded_ite (ptpIgnore_bounded h)
      (nextBounded_ite h
        (by
          extract_lets
          split
          · exact nextBounded_ite (takeAnnounce_bounded (noteForeign_bounded h)) (noteForeign_bounded h)
          · exact noteForeign_bounded h)))

theorem dropMaster_bounded (h : Bounded s) : Bounded (dropMaster s) := by
  unfold dropMaster
  split
  · exact h
  · exact bounded_mk h

theorem execAnnounceReceiptTimeout_bounded (h : Bounded s) : NextBounded (execAnnounceReceiptTimeout s) :=
  nextBounded_ite
    (by
      extract_lets
      split
      · exact takeAnnounce_bounded (dropMaster_bounded h)
      · exact nextBounded_ite (bounded_mk (dropMaster_bounded h)) (enterHoldover_bounded (dropMaster_bounded h)))
    h

theorem execPtpPortTakeover_bounded (h : Bounded s) : NextBounded (execPtpPortTakeover s) :=
  nextBounded_ite (bounded_mk h) h

theorem execWallDegraded_bounded (h : Bounded s) : NextBounded (execWallDegraded s) := by
  unfold execWallDegraded
  split
  · exact nextBounded_ite (post_bounded (bounded_mk h)) h
  · exact h

/-! The operations of Machine/Schedule.lean. -/

theorem record_bounded {e frame} (h : Bounded s) : Bounded (record s e frame) := h

theorem closeEntry_bounded {i st} (h : Bounded s) : Bounded (closeEntry i st s) := by
  unfold closeEntry
  split
  · exact h
  · exact record_bounded (bounded_mk h)

theorem commitImage_bounded {i k} (h : Bounded s) : Bounded (commitImage i k s) := by
  unfold commitImage
  split
  · exact h
  · exact bounded_ite (bounded_mk h) (bounded_ite (post_bounded h) (bounded_ite (post_bounded h) (bounded_mk h)))

theorem commitImageSchedule_bounded (h : Bounded s) : Bounded (commitImageSchedule s) :=
  bounded_ite h
    (foldl_bounded (fun _ _ ht => by
        split
        · exact ht
        · split
          · exact ht
          · exact commitImage_bounded ht)
      (bounded_mk h))

theorem nextOccurrence_bounded {e} (h : Bounded s) : Bounded (nextOccurrence e s) := by
  unfold nextOccurrence
  split
  · exact h
  · split
    · exact h
    · exact bounded_ite h (commitImage_bounded h)

theorem dropLate_bounded {i} (h : Bounded s) : Bounded (dropLate i s) := by
  unfold dropLate
  split
  · exact h
  · exact nextOccurrence_bounded (post_bounded (bounded_mk (closeEntry_bounded h)))

theorem judgeLate_bounded {i} (h : Bounded s) : Bounded (judgeLate i s) := by
  unfold judgeLate
  split
  · exact h
  · exact bounded_ite (dropLate_bounded h) h

theorem enterTable_bounded {e} (h : Bounded s) : Bounded (enterTable e s) := by
  unfold enterTable
  split
  · exact post_bounded h
  · exact judgeLate_bounded (bounded_mk h)

theorem enterCommits_bounded (h : Bounded s) : Bounded (enterCommits s) :=
  foldl_bounded (fun _ _ ht => enterTable_bounded ht) (bounded_mk h)

theorem commitWaiting_bounded (h : Bounded s) : Bounded (commitWaiting s) :=
  bounded_ite h (foldl_bounded (fun _ _ ht => commitImage_bounded ht) (bounded_mk h))

theorem stageSchedule_bounded (h : Bounded s) : Bounded (stageSchedule s) :=
  bounded_mk (foldl_bounded (fun _ _ ht => judgeLate_bounded ht) h)

theorem markExecuted_bounded {i} (h : Bounded s) : Bounded (markExecuted i s) := by
  unfold markExecuted
  split
  · exact h
  · exact nextOccurrence_bounded
      (bounded_ite (post_bounded (bounded_mk (closeEntry_bounded h))) (closeEntry_bounded h))

theorem reconvert_bounded {i} (h : Bounded s) : Bounded (reconvert i s) := by
  unfold reconvert
  split
  · exact h
  · exact bounded_ite h
        (bounded_ite
          (bounded_ite (nextOccurrence_bounded (post_bounded (record_bounded (bounded_mk h))))
            (post_bounded (record_bounded (bounded_mk h))))
          (bounded_ite (judgeLate_bounded (bounded_mk h)) h))

theorem reconvertCommits_bounded (h : Bounded s) : Bounded (reconvertCommits s) := h

theorem execTimeEpochIncrement_bounded (h : Bounded s) : NextBounded (execTimeEpochIncrement s) := by
  unfold execTimeEpochIncrement
  split
  · exact h
  · exact nextBounded_ite h
        (nextBounded_ite (preEpochStep_bounded h)
          (commitImageSchedule_bounded
            (foldl_bounded (fun _ _ ht => reconvert_bounded ht)
              (reconvertCommits_bounded (bounded_ite (newEpoch_bounded h) (post_bounded (newEpoch_bounded h)))))))

theorem execWallKeyConversion_bounded (h : Bounded s) : NextBounded (execWallKeyConversion s) :=
  nextBounded_ite (foldl_bounded (fun _ _ ht => reconvert_bounded ht) (bounded_mk h)) h

theorem execHistoryRecordExpiry_bounded (h : Bounded s) : NextBounded (execHistoryRecordExpiry s) := h

theorem execScheduleSlotFree_bounded (h : Bounded s) : NextBounded (execScheduleSlotFree s) := h

/-! The operations of Machine/Pair.lean. -/

theorem pairCount_bounded {k} (h : Bounded s) : Bounded (pairCount k s) := setPair_bounded h

theorem sendCtrl_bounded {op boundary} (h : Bounded s) : Bounded (sendCtrl op boundary s) :=
  bounded_ite (sendReliable_bounded h) h

theorem releaseStages_bounded (h : Bounded s) : Bounded (releaseStages s) :=
  banksRefresh_bounded (releaseOutputs_bounded (bounded_mk h))

theorem leaveControl_bounded (h : Bounded s) : Bounded (leaveControl s) := by
  unfold leaveControl
  extract_lets s1
  have h1 : Bounded s1 :=
    endVigil_bounded (abortAll_bounded (loopsLeaveControl_bounded (releaseStages_bounded h)))
  exact setPair_bounded (bounded_mk h1)

theorem becomeStandby_bounded (h : Bounded s) : Bounded (becomeStandby s) := bounded_mk (leaveControl_bounded h)

theorem loseRole_bounded (h : Bounded s) : Bounded (loseRole s) := setPair_bounded (leaveControl_bounded h)

theorem advanceTerm_bounded (h : Bounded s) : Bounded (advanceTerm s) := setPair_bounded h

theorem acceptSwap_bounded (h : Bounded s) : Bounded (acceptSwap s) :=
  post_bounded (sendCtrl_bounded (setPair_bounded h))

theorem endSwap_bounded (h : Bounded s) : Bounded (endSwap s) := setPair_bounded h

theorem refuseSwap_bounded (h : Bounded s) : Bounded (refuseSwap s) :=
  post_bounded (pairCount_bounded (endSwap_bounded h))

theorem judgeOwnSwap_bounded (h : Bounded s) : Bounded (judgeOwnSwap s) := by
  unfold judgeOwnSwap
  split
  · exact bounded_ite (acceptSwap_bounded h) (refuseSwap_bounded h)
  · exact h

theorem crossedSwap_bounded (h : Bounded s) : Bounded (crossedSwap s) :=
  post_bounded (pairCount_bounded (endSwap_bounded h))

theorem recordRound_bounded {own r} (h : Bounded s) : Bounded (recordRound own r s) :=
  bounded_ite (postRun_bounded (bounded_ite (setPair_bounded h) (pairCount_bounded (setPair_bounded h))))
    (setPair_bounded h)

theorem roundLost_bounded {r} (h : Bounded s) : Bounded (roundLost r s) := by
  unfold roundLost
  split
  · exact bounded_ite (post_bounded (becomeStandby_bounded h)) (releaseStages_bounded h)
  · exact bounded_ite (post_bounded (pairCount_bounded (setPair_bounded (becomeStandby_bounded h))))
        (bounded_ite (post_bounded (becomeStandby_bounded h)) (releaseStages_bounded h))
  · exact bounded_ite (becomeStandby_bounded h) h
  · exact h

theorem resumePlan_bounded (h : Bounded s) : Bounded (resumePlan s) := h

theorem primedWins_bounded {code} (h : Bounded s) : Bounded (primedWins code s) :=
  post_bounded (bounded_mk (advanceTerm_bounded (resumePlan_bounded h)))

theorem roundWon_bounded (h : Bounded s) : Bounded (roundWon s) := by
  unfold roundWon
  extract_lets s1
  have h1 : Bounded s1 := setPair_bounded h
  split
  · exact primedWins_bounded (pairCount_bounded h1)
  · exact bounded_ite (banksRefresh_bounded (bounded_mk h1)) h1
  · exact bounded_ite (banksRefresh_bounded (bounded_mk h1)) h1
  · exact h1

theorem roundEnd_bounded {own f} (h : Bounded s) : Bounded (roundEnd own f s) := by
  unfold roundEnd
  extract_lets s0 _ s1 s2
  have h1 : Bounded s0 := setPair_bounded h
  have h2 : Bounded s1 := recordRound_bounded h1
  have h3 : Bounded s2 := bounded_ite (roundWon_bounded h2) (roundLost_bounded h2)
  split
  · exact bounded_ite (crossedSwap_bounded h3) (bounded_ite (judgeOwnSwap_bounded h3) h3)
  · exact h3

theorem claimSeen_bounded {f} (h : Bounded s) : Bounded (claimSeen f s) :=
  bounded_ite (bounded_mk (releaseBackup_bounded h)) h

theorem execClaimRound_bounded {facts} (h : Bounded s) : NextBounded (execClaimRound facts s) :=
  claimSeen_bounded (roundEnd_bounded h)

theorem execClaimRefreshTimeout_bounded (h : Bounded s) : NextBounded (execClaimRefreshTimeout s) :=
  bounded_ite (setPair_bounded h) h

theorem execClaimWireStuck_bounded {wireB} (h : Bounded s) : NextBounded (execClaimWireStuck wireB s) :=
  postRun_bounded (bounded_ite (setPair_bounded h) (pairCount_bounded (setPair_bounded h)))

theorem execStrapConflict_bounded (h : Bounded s) : NextBounded (execStrapConflict s) :=
  bounded_ite (post_bounded (setPair_bounded h)) h

theorem execHealthSend_bounded (h : Bounded s) : NextBounded (execHealthSend s) :=
  bounded_ite (sendReliable_bounded (setPair_bounded h)) h

theorem seeTerm_bounded {t} (h : Bounded s) : Bounded (seeTerm t s) := setPair_bounded h

theorem execHealthReceived_bounded {payload} (h : Bounded s) : NextBounded (execHealthReceived payload s) :=
  seeTerm_bounded (setPair_bounded h)

theorem execPartnerSilent_bounded (h : Bounded s) : NextBounded (execPartnerSilent s) :=
  bounded_ite (postRun_bounded (setPair_bounded h)) h

theorem markSend_bounded (h : Bounded s) : Bounded (markSend s) := bounded_ite (sendPacket_bounded h) h

theorem termUpdate_bounded {t} (h : Bounded s) : Bounded (termUpdate t s) :=
  bounded_ite (setPair_bounded (seeTerm_bounded h)) (seeTerm_bounded h)

theorem execMarkReceived_bounded {payload} (h : Bounded s) : NextBounded (execMarkReceived payload s) :=
  termUpdate_bounded (setPair_bounded h)

theorem checkpointSnapshot_bounded (h : Bounded s) : Bounded (checkpointSnapshot s) :=
  bounded_ite (pairCount_bounded (setPair_bounded h)) h

theorem keepCheckpoint_bounded {c} (h : Bounded s) : Bounded (keepCheckpoint c s) := h

theorem execCkptReceived_bounded {ckpt complete hashOk} (h : Bounded s) :
    NextBounded (execCkptReceived ckpt complete hashOk s) := by
  unfold execCkptReceived
  exact bounded_ite (seeTerm_bounded h)
      (bounded_ite (keepCheckpoint_bounded (pairCount_bounded (setPair_bounded (seeTerm_bounded h))))
        (bounded_ite (post_bounded (pairCount_bounded (seeTerm_bounded h)))
          (postRun_bounded (post_bounded (pairCount_bounded (seeTerm_bounded h))))))

theorem execCheckpointStale_bounded (h : Bounded s) : NextBounded (execCheckpointStale s) :=
  bounded_ite (postRun_bounded (setPair_bounded h)) h

theorem reopenWindows_bounded {d ws} (h : Bounded s) : Bounded (reopenWindows d ws s) :=
  foldl_bounded (fun _ _ ht => bounded_ite (post_bounded ht) ht) (bounded_mk h)

theorem loadSections_bounded {c} (h : Bounded s) : Bounded (loadSections c s) :=
  setPair_bounded (reopenWindows_bounded (foldl_bounded (fun _ _ ht => judgeLate_bounded ht) (bounded_mk h)))

theorem coldTakeover_bounded (h : Bounded s) : Bounded (coldTakeover s) :=
  post_bounded (bounded_mk (advanceTerm_bounded h))

theorem bidWon_bounded (h : Bounded s) : Bounded (bidWon s) := by
  unfold bidWon
  extract_lets s1
  have h1 : Bounded s1 := setPair_bounded (pairCount_bounded h)
  exact bounded_ite (primedWins_bounded h1)
      (bounded_ite (bounded_mk (post_bounded h1)) (coldTakeover_bounded (post_bounded h1)))

theorem execTakeoverBid_bounded {facts} (h : Bounded s) : NextBounded (execTakeoverBid facts s) :=
  bounded_ite h
    (bounded_ite (postRun_bounded (setPair_bounded h))
      (bounded_ite (bidWon_bounded (recordRound_bounded (setPair_bounded h)))
        (recordRound_bounded (setPair_bounded h))))

theorem execRestoreComplete_bounded (h : Bounded s) : NextBounded (execRestoreComplete s) := by
  unfold execRestoreComplete
  split
  · exact post_bounded (setPair_bounded (advanceTerm_bounded (resumePlan_bounded (loadSections_bounded h))))
  · exact h

theorem execSwapRequestRaise_bounded {source} (h : Bounded s) : NextBounded (execSwapRequestRaise source s) := by
  unfold execSwapRequestRaise
  extract_lets
  split
  · exact bounded_ite (sendCtrl_bounded (setPair_bounded h)) h
  · exact bounded_ite (setPair_bounded h) h
  · exact h

theorem applyPairSwap_bounded (h : Bounded s) : Bounded (applyPairSwap s) :=
  bounded_ite h (bounded_ite (sendCtrl_bounded (setPair_bounded h)) (setPair_bounded h))

theorem applyPairHold_bounded {v} (h : Bounded s) : Bounded (applyPairHold v s) := post_bounded (setPair_bounded h)

theorem execSwapReqReceived_bounded (h : Bounded s) : NextBounded (execSwapReqReceived s) :=
  bounded_ite (bounded_ite (acceptSwap_bounded h) (post_bounded (pairCount_bounded (sendCtrl_bounded h))))
    (bounded_ite (post_bounded (pairCount_bounded (sendCtrl_bounded h))) h)

theorem execRefusedReceived_bounded (h : Bounded s) : NextBounded (execRefusedReceived s) :=
  bounded_ite (endSwap_bounded h) h

theorem execHandoverReceived_bounded {boundary} (h : Bounded s) : NextBounded (execHandoverReceived boundary s) :=
  bounded_ite (setPair_bounded h) h

theorem execFinalCheckpointLoaded_bounded (h : Bounded s) : NextBounded (execFinalCheckpointLoaded s) := by
  unfold execFinalCheckpointLoaded
  split
  · exact bounded_ite (sendCtrl_bounded (setPair_bounded (loadSections_bounded h))) h
  · exact h

theorem execPrimedReceived_bounded (h : Bounded s) : NextBounded (execPrimedReceived s) :=
  bounded_ite (setPair_bounded h) h

theorem execHandoverTimeout_bounded (h : Bounded s) : NextBounded (execHandoverTimeout s) := by
  unfold execHandoverTimeout
  exact bounded_ite h
      (by
        split
        · exact bounded_ite h (post_bounded (setPair_bounded (endSwap_bounded h)))
        · exact setPair_bounded (endSwap_bounded h)
        · exact setPair_bounded (endSwap_bounded h)
        · exact h)

theorem execStandbySelfTest_bounded {test index pass} (h : Bounded s) :
    NextBounded (execStandbySelfTest test index pass s) := by
  unfold execStandbySelfTest
  extract_lets stageFails
  have hfails {t} (ht : Bounded t) : Bounded (stageFails t) := setDomain_bounded ht
  refine bounded_ite h ?_
  split
  · exact bounded_ite (bounded_ite (setPair_bounded h) (post_bounded (bounded_mk (setPair_bounded h)))) h
  · exact bounded_ite (bounded_ite (setPair_bounded h) (hfails (setPair_bounded h))) h
  · exact bounded_ite (hfails h) h

theorem execPartnerAttestRetry_bounded (h : Bounded s) : NextBounded (execPartnerAttestRetry s) := by
  unfold execPartnerAttestRetry
  split
  · exact bounded_ite (startAttest_bounded (updPort_bounded h)) h
  · exact h

theorem armUpdate_bounded (h : Bounded s) : Bounded (armUpdate s) := h

theorem execArmingComplete_bounded {facts} (h : Bounded s) : NextBounded (execArmingComplete facts s) := by
  unfold execArmingComplete
  exact bounded_ite h
      (bounded_ite (becomeStandby_bounded h)
        (bounded_ite (bounded_mk (advanceTerm_bounded (recordRound_bounded h)))
          (becomeStandby_bounded (recordRound_bounded h))))

theorem startSpeeds_bounded (h : Bounded s) : Bounded (startSpeeds s) := h

theorem pendingSites_bounded (h : Bounded s) : Bounded (pendingSites s) := h

theorem directHold_bounded {c} (h : Bounded s) : Bounded (directHold s c) := by
  unfold directHold
  split
  · exact bounded_ite (updCh_bounded h) h
  · exact h

theorem freshChains_bounded {takeover} (h : Bounded s) : Bounded (freshChains takeover s) :=
  bounded_ite (bounded_mk h) h

theorem takeControl_bounded (h : Bounded s) : Bounded (takeControl s) := by
  unfold takeControl
  extract_lets _ _ _ s1 s2 s3 s4
  have h1 : Bounded s1 := banksRefresh_bounded (pendingSites_bounded (bounded_mk h))
  have h2 : Bounded s2 := initialCaps_bounded (bounded_ite h1 (initialGrant_bounded h1))
  have h3 : Bounded s3 := freshChains_bounded (leakTakeControl_bounded (startSpeeds_bounded h2))
  have h4 : Bounded s4 := foldl_bounded (fun _ _ ht => directHold_bounded ht) h3
  exact post_bounded (setPair_bounded h4)

theorem execTakePlantControl_bounded (h : Bounded s) : NextBounded (execTakePlantControl s) :=
  bounded_ite (takeControl_bounded h) h

theorem pairGuard_bounded (h : Bounded s) : Bounded (pairGuard s) := setPair_bounded (setPair_bounded h)

theorem stagesLapse_bounded (h : Bounded s) : Bounded (stagesLapse s) := by
  unfold stagesLapse
  split <;> exact bounded_ite (releaseStages_bounded h) h

theorem pairFrame_bounded (h : Bounded s) : Bounded (pairFrame s) :=
  streamCheckpoint_bounded
    (markSend_bounded (bounded_ite (abortAll_bounded (stagesLapse_bounded h)) (stagesLapse_bounded h)))

/-! The operations of Machine/Requests.lean. -/

theorem setMgmt_bounded {f} (h : Bounded s) : Bounded (setMgmt f s) := h

theorem countFailure_bounded {k code f h4 b} (h : Bounded s) : Bounded (countFailure k code f h4 b s) := by
  unfold countFailure
  extract_lets s1
  have h1 : Bounded s1 := secCount_bounded h
  split
  · exact postEvery_bounded (updSecTenant_bounded h1)
  · exact postEvery_bounded (updSession_bounded h1)

theorem countTagFail_bounded {i} (h : Bounded s) : Bounded (countTagFail i s) :=
  bounded_ite (post_bounded (secCount_bounded (updSession_bounded h))) (updSession_bounded h)

theorem commonCheck_bounded {role hdr b} (h : Bounded s) : Bounded (commonCheck role hdr b s).2 :=
  bounded_ite_snd (countFailure_bounded h) (bounded_ite_snd h (bounded_ite_snd h (bounded_ite_snd h
    (bounded_ite_snd (noteStale_bounded h) (bounded_ite_snd (countTagFail_bounded (countFailure_bounded h))
      (bounded_ite_snd (countFailure_bounded h) (bounded_ite_snd (countFailure_bounded h)
        (bounded_ite_snd (countFailure_bounded h) (bounded_ite (updSecTenant_bounded h) h)))))))))

theorem requestLimit_bounded {due scope loop limit} (h : Bounded s) :
    Bounded (requestLimit due scope loop limit s) :=
  h

theorem ownRefused_bounded {r h2 b} (h : Bounded s) : Bounded (ownRefused r h2 b s) := by
  unfold ownRefused
  split
  · exact bounded_ite (post_bounded h) h
  · exact releaseRefused_bounded h
  · exact startRefused_bounded h
  · exact bounded_ite (post_bounded h) (bounded_ite (post_bounded h) (bounded_ite (post_bounded h) h))
  · exact bounded_ite (post_bounded h) h
  · exact h

theorem respond_bounded {h1 code effect data} (h : Bounded s) : Bounded (respond h1 code effect data s) :=
  resolve_bounded h

theorem reserve_bounded {h1 b} (h : Bounded s) : Bounded (reserve h1 b s) := by
  unfold reserve
  split
  · exact requestMode_bounded h
  · exact requestLimit_bounded h
  · exact bounded_mk h
  · exact canSend_bounded h
  · exact acceptStart_bounded h
  · exact setMgmt_bounded h
  · exact issueNonce_bounded h
  · exact imageBegin_bounded h
  · exact setMgmt_bounded h
  · exact setMgmt_bounded h

theorem noteResult'_bounded {ok h2 b} (h : Bounded s) : Bounded (noteResult' ok h2 b s) := by
  unfold noteResult'
  split
  · exact updSecTenant_bounded h
  · exact h

theorem actNow_bounded {hdr b r} (h : Bounded s) (heq : actNow hdr b s = some r) : Bounded r.2.2 := by
  unfold actNow at heq
  split at heq
  case h_1 =>
    split at heq
    · cases heq
    · cases heq
      exact enrol_bounded h
  case h_2 =>
    split at heq
    · cases heq
    · cases heq
      exact ownerRelease_bounded h
  case h_3 =>
    split at heq
    · cases heq
    · extract_lets r at heq
      have hr : Bounded r.2 := certPart_bounded h
      split at heq
      · cases heq
        exact installCert_bounded hr
      · split at heq
        · cases heq
          exact setSec_bounded hr
        · cases heq
          exact hr
  case h_4 =>
    split at heq
    · cases heq
    · cases heq
      exact imageWrite_bounded h
  case h_5 =>
    split at heq
    · cases heq
    · cases heq
      exact imageEnd_bounded h
  case h_6 => cases heq

theorem judge_bounded {role q} (h : Bounded s) : Bounded (judge role q s).2 := by
  unfold judge
  extract_lets s0 c r data s1 nonce s2
  have hc : Bounded c.2 := commonCheck_bounded (setMgmt_bounded h)
  have h1 : Bounded s1 := reserve_bounded hc
  have h2 : Bounded s2 := bounded_ite h1 (respond_bounded h1)
  split
  · exact noteResult'_bounded (respond_bounded hc)
  · split
    next heq => exact respond_bounded (actNow_bounded hc heq)
    next =>
      split
      · exact noteResult'_bounded (respond_bounded (ownRefused_bounded hc))
      · exact noteResult'_bounded h2

theorem arrive_bounded {q} (h : Bounded s) : Bounded (arrive q s) :=
  bounded_ite h
    (onMessage_bounded
      (fun _ ht => bounded_ite (setMgmt_bounded (await_bounded ht)) (judge_bounded (await_bounded ht)))
      h)

theorem applyIf_bounded {check} {f : State → State} (hf : ∀ t, Bounded t → Bounded (f t))
    (h : Bounded s) : Bounded (applyIf check f s) := bounded_ite (hf _ h) h

theorem applyRequest_bounded {q} (h : Bounded s) : Bounded (applyRequest q s) := by
  unfold applyRequest
  extract_lets
  split
  · exact applyIf_bounded (fun _ ht => applyQuota_bounded ht) h
  · exact respond_bounded (applyPages_bounded h)
  · exact applyIf_bounded (fun _ ht => applySplit_bounded ht) h
  · exact applyIf_bounded (fun _ ht => applyBind_bounded ht) h
  · exact applyIf_bounded (fun _ ht => post_bounded (vacateSite_bounded ht)) h
  · exact applyIf_bounded (fun _ ht => applyQuota_bounded ht) h
  · exact applyIf_bounded (fun _ ht => updSecTenant_bounded (applyReleaseTenant_bounded ht)) h
  · exact applyIf_bounded (fun _ ht => applyAdmit_bounded ht) h
  · exact bounded_mk h
  · exact bounded_ite (applyClearElement_bounded h) h
  · exact bounded_ite (abortFlush_bounded (applySprayInhibit_bounded h)) (applySprayInhibit_bounded h)
  · exact applySetValve_bounded h
  · exact applyClearValve_bounded h
  · exact applyReleaseLoop_bounded h
  · exact applyRowStop_bounded h
  · exact applyReleaseRow_bounded h
  · exact releaseFloor_bounded h
  · exact bounded_ite (respond_bounded (canCancel_bounded h)) (respond_bounded h)
  · exact applyPairSwap_bounded h
  · exact applyPairHold_bounded h
  · exact applyStop_bounded h
  · exact bounded_mk h
  · exact applyPrecision_bounded h
  · exact bounded_ite h (post_bounded (setMgmt_bounded h))
  · exact h

theorem commitRequests_bounded (h : Bounded s) : Bounded (commitRequests s) := setMgmt_bounded h

theorem applyRequests_bounded (h : Bounded s) : Bounded (applyRequests s) :=
  foldl_bounded (fun _ _ ht => applyRequest_bounded ht) (setMgmt_bounded h)

theorem execLowerMax_bounded {hdr max} (h : Bounded s) : NextBounded (execLowerMax hdr max s) := arrive_bounded h

theorem execReleasePages_bounded {hdr pages} (h : Bounded s) : NextBounded (execReleasePages hdr pages s) :=
  arrive_bounded h

theorem execSetSplit_bounded {hdr order compute memory links} (h : Bounded s) :
    NextBounded (execSetSplit hdr order compute memory links s) :=
  arrive_bounded h

theorem execBindSite_bounded {hdr site} (h : Bounded s) : NextBounded (execBindSite hdr site s) := arrive_bounded h

theorem execUnbindSite_bounded {hdr site} (h : Bounded s) : NextBounded (execUnbindSite hdr site s) :=
  arrive_bounded h

theorem execSetQuota_bounded {hdr min max} (h : Bounded s) : NextBounded (execSetQuota hdr min max s) :=
  arrive_bounded h

theorem execReleaseTenant_bounded {hdr} (h : Bounded s) : NextBounded (execReleaseTenant hdr s) := arrive_bounded h

theorem execAdmitTenant_bounded {hdr} (h : Bounded s) : NextBounded (execAdmitTenant hdr s) := arrive_bounded h

theorem execSetMode_bounded {hdr mode} (h : Bounded s) : NextBounded (execSetMode hdr mode s) := arrive_bounded h

theorem execSetLimit_bounded {hdr scope loop limit} (h : Bounded s) :
    NextBounded (execSetLimit hdr scope loop limit s) :=
  arrive_bounded h

theorem execSetLoopSp_bounded {hdr loop value} (h : Bounded s) : NextBounded (execSetLoopSp hdr loop value s) :=
  arrive_bounded h

theorem execSchedCommit_bounded {hdr body} (h : Bounded s) : NextBounded (execSchedCommit hdr body s) :=
  arrive_bounded h

theorem execClearElement_bounded {hdr fan index} (h : Bounded s) :
    NextBounded (execClearElement hdr fan index s) :=
  arrive_bounded h

theorem execSetSprayInhibit_bounded {hdr value} (h : Bounded s) : NextBounded (execSetSprayInhibit hdr value s) :=
  arrive_bounded h

theorem execSetValve_bounded {hdr channel position} (h : Bounded s) :
    NextBounded (execSetValve hdr channel position s) :=
  arrive_bounded h

theorem execClearValve_bounded {hdr index bank} (h : Bounded s) : NextBounded (execClearValve hdr index bank s) :=
  arrive_bounded h

theorem execReleaseLoop_bounded {hdr loop} (h : Bounded s) : NextBounded (execReleaseLoop hdr loop s) :=
  arrive_bounded h

theorem execRowStop_bounded {hdr} (h : Bounded s) : NextBounded (execRowStop hdr s) := arrive_bounded h

theorem execReleaseRow_bounded {hdr} (h : Bounded s) : NextBounded (execReleaseRow hdr s) := arrive_bounded h

theorem execReleaseFloor_bounded {hdr link} (h : Bounded s) : NextBounded (execReleaseFloor hdr link s) :=
  arrive_bounded h

theorem execCanSend_bounded {hdr channel msg} (h : Bounded s) : NextBounded (execCanSend hdr channel msg s) :=
  arrive_bounded h

theorem execCanCancel_bounded {hdr channel id} (h : Bounded s) : NextBounded (execCanCancel hdr channel id s) :=
  arrive_bounded h

theorem execPairSwap_bounded {hdr} (h : Bounded s) : NextBounded (execPairSwap hdr s) := arrive_bounded h

theorem execPairHold_bounded {hdr value} (h : Bounded s) : NextBounded (execPairHold hdr value s) := arrive_bounded h

theorem execMaintStart_bounded {hdr code duration target receives} (h : Bounded s) :
    NextBounded (execMaintStart hdr code duration target receives s) :=
  arrive_bounded h

theorem execMaintStop_bounded {hdr id} (h : Bounded s) : NextBounded (execMaintStop hdr id s) := arrive_bounded h

theorem execMaintReleaseHeld_bounded {hdr} (h : Bounded s) : NextBounded (execMaintReleaseHeld hdr s) :=
  arrive_bounded h

theorem execMgmtReset_bounded {hdr force} (h : Bounded s) : NextBounded (execMgmtReset hdr force s) :=
  arrive_bounded h

theorem execPrecisionRun_bounded {hdr slot} (h : Bounded s) : NextBounded (execPrecisionRun hdr slot s) :=
  arrive_bounded h

theorem execSetDeviceCert_bounded {hdr part last bytes facts} (h : Bounded s) :
    NextBounded (execSetDeviceCert hdr part last bytes facts s) :=
  arrive_bounded h

theorem execGetReleaseNonce_bounded {hdr} (h : Bounded s) : NextBounded (execGetReleaseNonce hdr s) :=
  arrive_bounded h

theorem execOwnerRelease_bounded {hdr rootHash sigOk nonce} (h : Bounded s) :
    NextBounded (execOwnerRelease hdr rootHash sigOk nonce s) :=
  arrive_bounded h

theorem execSetFieldbus_bounded {hdr cfg count} (h : Bounded s) : NextBounded (execSetFieldbus hdr cfg count s) :=
  arrive_bounded h

theorem execOwnerEnrol_bounded {hdr facts} (h : Bounded s) : NextBounded (execOwnerEnrol hdr facts s) :=
  arrive_bounded h

theorem execImageBegin_bounded {hdr start} (h : Bounded s) : NextBounded (execImageBegin hdr start s) :=
  arrive_bounded (bounded_ite (keyRestored_bounded h) h)

theorem execImageWrite_bounded {hdr offset bytes} (h : Bounded s) :
    NextBounded (execImageWrite hdr offset bytes s) :=
  arrive_bounded h

theorem execImageEnd_bounded {hdr facts} (h : Bounded s) : NextBounded (execImageEnd hdr facts s) := arrive_bounded h

theorem execImageEraseComplete_bounded (h : Bounded s) : NextBounded (execImageEraseComplete s) := by
  unfold execImageEraseComplete
  split
  · exact bounded_ite (respond_bounded (updSession_bounded (setMgmt_bounded h))) h
  · exact h

theorem execImageUpdateTimeout_bounded (h : Bounded s) : NextBounded (execImageUpdateTimeout s) := by
  unfold execImageUpdateTimeout
  split
  · exact bounded_ite (endUpdate_bounded h) h
  · exact h

/-! The operations of Machine/Sessions.lean. -/

theorem updEth_bounded {p f} (h : Bounded s) : Bounded (updEth p f s) := setMgmt_bounded h

theorem mgmtCount_bounded {k} (h : Bounded s) : Bounded (mgmtCount k s) := setMgmt_bounded h

theorem closeSession_bounded {i cause} (h : Bounded s) : Bounded (closeSession i cause s) :=
  bounded_ite
    (post_bounded
      (updSession_bounded
        (setMgmt_bounded
          (by
            split
            · exact bounded_ite (setSec_bounded (by
                split
                · exact bounded_ite (endUpdate_bounded h) h
                · exact h))
                  (by
                      split
                      · exact bounded_ite (endUpdate_bounded h) h
                      · exact h)
            · split
              · exact bounded_ite (endUpdate_bounded h) h
              · exact h))))
    h

theorem closePort_bounded {p cause} (h : Bounded s) : Bounded (closePort p cause s) :=
  foldl_bounded (fun _ _ ht => bounded_ite (closeSession_bounded ht) ht) h

theorem execEthLinkUp_bounded {port} (h : Bounded s) : NextBounded (execEthLinkUp port s) :=
  bounded_ite (send_bounded (post_bounded (updEth_bounded h))) h

theorem linkDown_bounded {p} (h : Bounded s) : Bounded (linkDown p s) :=
  bounded_ite (post_bounded (closePort_bounded (updEth_bounded h))) h

theorem execEthLinkDown_bounded {port} (h : Bounded s) : NextBounded (execEthLinkDown port s) := linkDown_bounded h

theorem takeAddress_bounded {p ipv4 len local_} (h : Bounded s) : Bounded (takeAddress p ipv4 len local_ s) :=
  bounded_ite (updEth_bounded h) (post_bounded (updEth_bounded (closePort_bounded h)))

theorem execDhcpLease_bounded {port ipv4 prefixLen} (h : Bounded s) :
    NextBounded (execDhcpLease port ipv4 prefixLen s) :=
  bounded_ite (takeAddress_bounded h) h

theorem execLinkLocalFallback_bounded {port ipv4} (h : Bounded s) :
    NextBounded (execLinkLocalFallback port ipv4 s) :=
  bounded_ite (updEth_bounded (takeAddress_bounded h)) h

theorem execDhcpRetry_bounded {port} (h : Bounded s) : NextBounded (execDhcpRetry port s) :=
  bounded_ite (send_bounded (updEth_bounded h)) h

theorem execEthFloodDiscard_bounded {port frames tagged} (h : Bounded s) :
    NextBounded (execEthFloodDiscard port frames tagged s) :=
  updEth_bounded h

theorem admitClient_bounded {i role f} (h : Bounded s) : Bounded (admitClient i role f s) :=
  post_bounded (updSession_bounded h)

theorem execTlsSessionOpen_bounded {client} (h : Bounded s) : NextBounded (execTlsSessionOpen client s) :=
  bounded_ite h
    (by
      split
      · exact postRun_bounded (mgmtCount_bounded (send_bounded h))
      · exact bounded_ite h
            (bounded_ite (admitClient_bounded h)
              (bounded_ite (post_bounded (secCount_bounded h))
                (bounded_ite (admitClient_bounded h) (post_bounded (admitClient_bounded h))))))

theorem execSessionIdleClose_bounded {session} (h : Bounded s) : NextBounded (execSessionIdleClose session s) :=
  bounded_ite (closeSession_bounded h) h

theorem execSessionClose_bounded {session} (h : Bounded s) : NextBounded (execSessionClose session s) :=
  closeSession_bounded h

theorem execMalformedMessage_bounded {session msgId badHeader} (h : Bounded s) :
    NextBounded (execMalformedMessage session msgId badHeader s) :=
  bounded_ite h (bounded_ite (closeSession_bounded h) (onMessage_bounded (fun _ ht => errorAnswer_bounded ht) h))

theorem execPing_bounded {session msgId} (h : Bounded s) : NextBounded (execPing session msgId s) :=
  bounded_ite (onMessage_bounded (fun _ ht => answer_bounded ht) h) h

theorem execSubscribe_bounded {session msgId topic index on} (h : Bounded s) :
    NextBounded (execSubscribe session msgId topic index on s) := by
  unfold execSubscribe
  exact bounded_ite h
      (onMessage_bounded
        (fun _ ht =>
          bounded_ite (errorAnswer_bounded ht)
            (bounded_ite (errorAnswer_bounded ht)
              (bounded_ite (errorAnswer_bounded ht) (answer_bounded (updSession_bounded ht)))))
        h)

theorem execNotify_bounded {session} (h : Bounded s) : NextBounded (execNotify session s) :=
  bounded_ite h (by
      split
      · exact h
      · exact put_bounded (updSession_bounded h))

theorem execTlsKeyUpdate_bounded {session} (h : Bounded s) : NextBounded (execTlsKeyUpdate session s) :=
  bounded_ite (send_bounded (updSession_bounded h)) h

/-! The operations of Machine/Fieldbus.lean. -/

theorem noteWrite_bounded {k result} (h : Bounded s) : Bounded (noteWrite k result s) :=
  bounded_ite (mgmtCount_bounded h) (postRun_bounded (mgmtCount_bounded h))

theorem writePoint_bounded {k a v} (h : Bounded s) : Bounded (writePoint k a v s).2 := by
  unfold writePoint
  split
  · exact noteWrite_bounded (judge_bounded h)
  · exact noteWrite_bounded h

theorem modbusTouch_bounded {c} (h : Bounded s) : Bounded (modbusTouch c s) := setMgmt_bounded h

theorem modbusError_bounded {c function code} (h : Bounded s) : Bounded (modbusError c function code s) :=
  send_bounded h

theorem modbusRead_bounded {c function a n mapped pt value} (h : Bounded s) :
    Bounded (modbusRead c function a n mapped pt value s) := by
  unfold modbusRead
  extract_lets _ s1
  have h1 : Bounded s1 := bounded_mk (modbusTouch_bounded h)
  exact bounded_ite (modbusError_bounded h1) (bounded_ite (modbusError_bounded h1) (send_bounded h1))

theorem execModbusReadInput_bounded {conn address count} (h : Bounded s) :
    NextBounded (execModbusReadInput conn address count s) :=
  bounded_ite (modbusRead_bounded h) h

theorem execModbusReadHolding_bounded {conn address count} (h : Bounded s) :
    NextBounded (execModbusReadHolding conn address count s) :=
  bounded_ite (modbusRead_bounded h) h

theorem fieldAnswer_bounded {y result} (h : Bounded s) : Bounded (fieldAnswer y result s) := by
  unfold fieldAnswer
  split
  · exact bounded_ite h (bounded_ite (send_bounded h) (modbusError_bounded h))
  · exact send_bounded h

theorem writePoints_bounded {y} : ∀ {l} {s : State}, Bounded s → Bounded (writePoints y l s).2
  | [], _, h => fieldAnswer_bounded h
  | (_, _) :: _, _, h => by
    unfold writePoints
    extract_lets r
    have hr : Bounded r.2 := writePoint_bounded h
    split
    · exact h
    · split
      · exact writePoints_bounded hr
      · exact fieldAnswer_bounded hr

theorem enqueue_bounded {l} (h : Bounded s) : Bounded (enqueue l s) := setMgmt_bounded h

theorem arrivePoints_bounded {y l} (h : Bounded s) : Bounded (arrivePoints y l s) :=
  bounded_ite (setMgmt_bounded h)
    (bounded_ite (writePoints_bounded h) (enqueue_bounded (writePoints_bounded h)))

theorem takeArrivals_bounded : ∀ {l} {s : State}, Bounded s → Bounded (takeArrivals l s)
  | [], _, h => h
  | .request _ :: _, _, h => bounded_ite (enqueue_bounded h)
      (takeArrivals_bounded (bounded_ite (judge_bounded h) h))
  | .points _ _ :: _, _, h => bounded_ite (enqueue_bounded h)
      (bounded_ite (takeArrivals_bounded (writePoints_bounded h))
        (enqueue_bounded (writePoints_bounded h)))

theorem takeWaiting_bounded (h : Bounded s) : Bounded (takeWaiting s) := takeArrivals_bounded (setMgmt_bounded h)

theorem modbusWrite_bounded {c function source a ws answer} (h : Bounded s) :
    Bounded (modbusWrite c function source a ws answer s) := by
  unfold modbusWrite
  extract_lets s1 refuse
  have h1 : Bounded s1 := modbusTouch_bounded h
  have hrefuse {code} : Bounded (refuse code s1) := modbusError_bounded (noteWrite_bounded h1)
  refine bounded_ite hrefuse (bounded_ite hrefuse ?_)
  split
  · exact hrefuse
  · exact arrivePoints_bounded h1

theorem execModbusWriteSingle_bounded {conn source address value} (h : Bounded s) :
    NextBounded (execModbusWriteSingle conn source address value s) :=
  bounded_ite (modbusWrite_bounded h) h

theorem execModbusWriteMultiple_bounded {conn source address values} (h : Bounded s) :
    NextBounded (execModbusWriteMultiple conn source address values s) :=
  bounded_ite (modbusWrite_bounded h) h

theorem execModbusConnectionOpen_bounded (h : Bounded s) : NextBounded (execModbusConnectionOpen s) :=
  bounded_ite (by
      split
      · exact modbusTouch_bounded h
      · exact send_bounded h) h

theorem execModbusConnectionIdle_bounded {conn} (h : Bounded s) : NextBounded (execModbusConnectionIdle conn s) := by
  unfold execModbusConnectionIdle
  split
  · exact bounded_ite (setMgmt_bounded h) h
  · exact h

theorem execReadProperty_bounded {item} (h : Bounded s) : NextBounded (execReadProperty item s) :=
  bounded_ite (send_bounded h) h

theorem execReadPropertyMultiple_bounded {items} (h : Bounded s) :
    NextBounded (execReadPropertyMultiple items s) :=
  bounded_ite (send_bounded h) h

theorem bacWrite_bounded {source x v} (h : Bounded s) : Bounded (bacWrite source x v s) := by
  unfold bacWrite
  extract_lets refuse
  have hrefuse {code} : Bounded (refuse code) := send_bounded (noteWrite_bounded h)
  refine bounded_ite hrefuse (bounded_ite hrefuse ?_)
  split
  · exact hrefuse
  · refine bounded_ite hrefuse ?_
    split
    · exact hrefuse
    · exact hrefuse
    · exact arrivePoints_bounded h

theorem execWriteProperty_bounded {source item value} (h : Bounded s) :
    NextBounded (execWriteProperty source item value s) :=
  bounded_ite (bacWrite_bounded h) h

theorem execWhoIs_bounded {range} (h : Bounded s) : NextBounded (execWhoIs range s) := bounded_ite (send_bounded h) h

/-! The operations of Machine/Inputs.lean. -/

theorem sampleSensor_bounded {r i} (h : Bounded s) : Bounded (sampleSensor r s i) := by
  unfold sampleSensor
  extract_lets
  split
  · exact updActivity_bounded (bounded_mk h)
  · exact bounded_mk h

theorem sampleSensors_bounded {r} (h : Bounded s) : Bounded (sampleSensors r s) :=
  foldl_bounded (fun _ _ ht => sampleSensor_bounded ht) h

theorem sampleFaults_bounded {r} (h : Bounded s) : Bounded (sampleFaults r s) :=
  foldl_bounded (fun _ _ ht => updPump_bounded ht) h

theorem sampleFans_bounded {r} (h : Bounded s) : Bounded (sampleFans r s) :=
  foldl_bounded (fun _ _ ht => bounded_ite (updFan_bounded ht) ht) h

theorem sampleCooling_bounded {r0} (h : Bounded s) : Bounded (sampleCooling r0 s) := bounded_mk (bounded_mk h)

theorem samplePlant_bounded {r} (h : Bounded s) : Bounded (samplePlant r s) :=
  bounded_mk
    (sampleCooling_bounded
      (sampleLeak_bounded
        (sampleValves_bounded (sampleFans_bounded (sampleFaults_bounded (sampleSensors_bounded h))))))

theorem sampleLost_bounded (h : Bounded s) : Bounded (sampleLost s) := h

theorem thermalCounter_bounded {f} (h : Bounded s) : Bounded (thermalCounter f s) := h

theorem execInletOver_bounded (h : Bounded s) : NextBounded (execInletOver s) := by
  unfold execInletOver
  split
  · exact bounded_ite (post_bounded (thermalCounter_bounded h)) h
  · exact h

theorem execInletOverClear_bounded (h : Bounded s) : NextBounded (execInletOverClear s) := by
  unfold execInletOverClear
  split
  · exact bounded_ite (post_bounded (thermalCounter_bounded h)) h
  · exact h

theorem updInFan_bounded {i f} (h : Bounded s) : Bounded (updInFan i f s) := thermalCounter_bounded h

theorem execInternalFanFailed_bounded {fan} (h : Bounded s) : NextBounded (execInternalFanFailed fan s) := by
  unfold execInternalFanFailed
  split
  · exact bounded_ite
        (bounded_ite (post_bounded (post_bounded (thermalCounter_bounded (updInFan_bounded h))))
          (post_bounded (thermalCounter_bounded (updInFan_bounded h))))
        h
  · exact h

theorem execInternalFanRetry_bounded {fan} (h : Bounded s) : NextBounded (execInternalFanRetry fan s) :=
  bounded_ite (thermalCounter_bounded (updInFan_bounded h)) h

theorem execInternalFanRestored_bounded {fan} (h : Bounded s) : NextBounded (execInternalFanRestored fan s) := by
  unfold execInternalFanRestored
  split
  · exact bounded_ite (post_bounded (updInFan_bounded h)) h
  · exact h

/-! The operations of Machine/Startup.lean. -/

theorem setPow_bounded {f} (h : Bounded s) : Bounded (setPow f s) := h

theorem keepMram_bounded : Bounded (keepMram s) := reset_bounded

theorem keepWarm_bounded {kind} (h : Bounded s) : Bounded (keepWarm kind s) := by
  have hk : LogFits (keepMram s).log := keepMram_bounded
  exact bounded_mk_log ⟨hk.1, h.2⟩

theorem stepTime_bounded {f k} (h : Bounded s) : Bounded (stepTime f k s) := h

theorem stepDone_bounded {f k} (h : Bounded s) : Bounded (stepDone f k s) := setPow_bounded (stepTime_bounded h)

theorem coreStops_bounded (h : Bounded s) : Bounded (coreStops s) :=
  setPow_bounded (releaseBackup_bounded (loseRole_bounded h))

theorem railReport_bounded {f k} (h : Bounded s) : Bounded (railReport f k s) := by
  refine bounded_ite h ?_
  split
  · exact setPow_bounded h
  · exact setPow_bounded h
  · exact post_bounded (railDomainsOff_bounded (setPow_bounded (setPow_bounded h)))

theorem railGroups_bounded {f} : ∀ {l} {s : State}, Bounded s → Bounded (railGroups f l s).2
  | [], _, h => h
  | _ :: _, _, h => by
    unfold railGroups
    extract_lets s1
    have h1 : Bounded s1 := foldl_bounded (fun _ _ ht => railReport_bounded ht) h
    split
    · exact setPow_bounded h1
    · split
      · exact lastWord_bounded (coreStops_bounded h1)
      · exact railGroups_bounded h1

theorem alwaysOnStep_bounded {f} (h : Bounded s) : Bounded (alwaysOnStep f s) :=
  stepDone_bounded (setPow_bounded (bounded_ite h
    (bounded_mk_log (log := { s.log with lastWords := [] }) ⟨h.1, Nat.zero_le _⟩)))

theorem managementDomains_bounded (h : Bounded s) : Bounded (managementDomains s) :=
  powerDomain_bounded (setDomain_bounded (powerDomain_bounded (setDomain_bounded h)))

theorem startReturn_bounded {f} (h : Bounded s) : Bounded (startReturn f s) :=
  managementDomains_bounded (openLog_bounded (bounded_ite (enterReturn_bounded h) zeroise_bounded))

theorem keyCheck_bounded {f} (h : Bounded s) : Bounded (keyCheck f s) := by
  unfold keyCheck
  extract_lets _ _ s1
  have h1 : Bounded s1 := stepDone_bounded h
  exact bounded_ite
      (bounded_ite (bounded_ite (post_bounded (bounded_mk h1)) (bounded_mk h1))
        (post_bounded (bounded_ite (post_bounded (bounded_mk h1)) (bounded_mk h1))))
      (bounded_ite (bounded_mk h1) (bounded_mk h1))

theorem selectCopy_bounded {c other r} (h : Bounded s) : Bounded (selectCopy c other r s) :=
  post_bounded (bounded_mk h)

theorem trySecond_bounded {c} (h : Bounded s) : Bounded (trySecond c s) :=
  bounded_ite (selectCopy_bounded h) (copyFails_bounded (bounded_mk h))

theorem verifyImages_bounded (h : Bounded s) : Bounded (verifyImages s) :=
  bounded_ite h (bounded_ite (selectCopy_bounded (bounded_mk h)) (trySecond_bounded (copyFails_bounded h)))

theorem verifyStep_bounded {f} (h : Bounded s) : Bounded (verifyStep f s) :=
  bounded_ite (stepDone_bounded (verifyImages_bounded h)) (stepTime_bounded (verifyImages_bounded h))

theorem copyUnread_bounded {c} (h : Bounded s) : Bounded (copyUnread c s) :=
  bounded_ite (trySecond_bounded (copyFails_bounded (bounded_mk h))) (copyFails_bounded (bounded_mk h))

theorem noImage_bounded (h : Bounded s) : Bounded (noImage s) :=
  managementDomains_bounded (post_bounded (bounded_mk h))

theorem memoryStep_bounded {f} (h : Bounded s) : Bounded (memoryStep f s) := by
  unfold memoryStep
  extract_lets _ s1 s2
  have h1 : Bounded s1 := setPow_bounded h
  have h2 : Bounded s2 := foldl_bounded (fun _ _ ht => bounded_ite (post_bounded (setDomain_bounded ht)) ht) h1
  exact bounded_ite h2
      (bounded_ite (setPow_bounded h2)
        (bounded_ite (post_bounded (setPow_bounded h2)) (post_bounded (post_bounded (setDomain_bounded h2)))))

theorem graphStep_bounded (h : Bounded s) : Bounded (graphStep s) :=
  foldl_bounded (fun _ _ ht => bounded_ite (post_bounded ht) ht) (bounded_mk (loadGraphs_bounded h))

theorem portStep_bounded (h : Bounded s) : Bounded (portStep s) :=
  foldl_bounded (fun _ _ ht => channelUpdate_bounded ht)
    (foldl_bounded (fun _ _ ht => bounded_ite (enterTraining_bounded ht) ht) (portDomains_bounded h))

theorem loadConfiguration_bounded (h : Bounded s) : Bounded (loadConfiguration s) := by
  unfold loadConfiguration
  extract_lets _ _ s1
  have h1 : Bounded s1 := bounded_mk h
  exact startLeak_bounded
      (startTenants_bounded
        (initEstimator_bounded (initElements_bounded (initLoops_bounded (initPlan_bounded (initCan_bounded h1))))))

theorem readyStep_bounded {f} (h : Bounded s) : Bounded (readyStep f s) := by
  unfold readyStep
  extract_lets s _ _ _ _ s1 s2 s3
  have h1 : Bounded s := stepDone_bounded h
  have h2 : Bounded s1 := bounded_mk h1
  have h3 : Bounded s2 := post_bounded (post_bounded h2)
  have h4 : Bounded s3 := bounded_ite (post_bounded h3) h3
  exact foldl_bounded (fun _ _ ht => startAttest_bounded ht) h4

theorem finishStart_bounded {f} (h : Bounded s) : Bounded (finishStart f s) := by
  unfold finishStart
  extract_lets s9
  have h1 : Bounded s9 := calibrationDomains_bounded (powerDomains_bounded h)
  exact readyStep_bounded
      (stepDone_bounded (portStep_bounded (loadConfiguration_bounded (openLog_bounded (graphStep_bounded h1)))))

theorem fromImage_bounded {f} : ∀ {n} {s : State}, Bounded s → Bounded (fromImage f n s)
  | n, _, h => by
    unfold fromImage
    split
    · exact noImage_bounded h
    · extract_lets _ m s1
      have hm : Bounded m := stepDone_bounded (memoryStep_bounded (stepDone_bounded
        (calibrate_bounded (bounded_mk h))))
      have h1 : Bounded s1 := post_bounded hm
      cases n with
      | zero => exact finishStart_bounded hm
      | succ n =>
        exact bounded_ite
          (bounded_ite
            (fromImage_bounded (verifyStep_bounded (keyCheck_bounded (setPow_bounded h1))))
            (fromImage_bounded (copyUnread_bounded h1)))
          (finishStart_bounded hm)

theorem keyToReady_bounded {f} (h : Bounded s) : Bounded (keyToReady f s) :=
  fromImage_bounded (verifyStep_bounded (keyCheck_bounded h))

theorem exchangeReceive_bounded {f} (h : Bounded s) : Bounded (exchangeReceive f s) :=
  bounded_ite (setPow_bounded (setDomain_bounded h)) h

theorem bootRom_bounded {f} (h : Bounded s) : Bounded (bootRom f s) :=
  bounded_ite (lastWord_bounded (coreStops_bounded (setPow_bounded h)))
    (by
      split
      · exact lastWord_bounded (exchangeReceive_bounded (coreStops_bounded (setPow_bounded h)))
      · exact bounded_ite
            (startReturn_bounded
              (bounded_ite (post_bounded (setSec_bounded (stepDone_bounded (setPow_bounded h))))
                (setSec_bounded (stepDone_bounded (setPow_bounded h)))))
            (bounded_ite
              (openLog_bounded
                (bounded_ite (post_bounded (setSec_bounded (stepDone_bounded (setPow_bounded h))))
                  (setSec_bounded (stepDone_bounded (setPow_bounded h)))))
              (keyToReady_bounded
                (newEnrolNonce_bounded
                  (bounded_ite (post_bounded (setSec_bounded (stepDone_bounded (setPow_bounded h))))
                    (setSec_bounded (stepDone_bounded (setPow_bounded h))))))))

theorem fromRails_bounded {f} (h : Bounded s) : Bounded (fromRails f s) := by
  have hr : Bounded (railGroups f (groupsFor s) s).2 := railGroups_bounded h
  exact bounded_ite (bootRom_bounded (alwaysOnStep_bounded (bounded_ite hr (stepDone_bounded hr)))) hr

theorem startUp_bounded {f} (h : Bounded s) : Bounded (startUp f s) := by
  unfold startUp
  extract_lets _ _ s0 s1
  have h0 : Bounded s0 := h
  have h1 : Bounded s1 := post_bounded h0
  exact bounded_ite (fromRails_bounded (stepDone_bounded h1))
    (fromRails_bounded (post_bounded (bounded_mk h1)))

theorem execPowerGoodAssert_bounded {facts} (h : Bounded s) : NextBounded (execPowerGoodAssert facts s) :=
  bounded_ite h (startUp_bounded keepMram_bounded)

theorem powerOff_bounded (h : Bounded s) : Bounded (powerOff s) := by
  have hk : LogFits (keepMram s).log := keepMram_bounded
  exact bounded_mk_log ⟨hk.1, h.2⟩

theorem execPowerGoodDeassert_bounded (h : Bounded s) : NextBounded (execPowerGoodDeassert s) :=
  bounded_ite (powerOff_bounded h) h

theorem execInputOvervoltage_bounded (h : Bounded s) : NextBounded (execInputOvervoltage s) :=
  bounded_ite (setPow_bounded (powerOff_bounded (lastWord_bounded h))) (setPow_bounded h)

theorem enterReset_bounded {kind} (h : Bounded s) : Bounded (enterReset kind s) :=
  setPow_bounded (coreStops_bounded h)

theorem execResetNAssert_bounded (h : Bounded s) : NextBounded (execResetNAssert s) :=
  bounded_ite (enterReset_bounded h) h

theorem execCoreWatchdog_bounded (h : Bounded s) : NextBounded (execCoreWatchdog s) :=
  bounded_ite (enterReset_bounded h) h

theorem execWarmReset_bounded {facts} (h : Bounded s) : NextBounded (execWarmReset facts s) := by
  unfold execWarmReset
  split
  · exact bounded_ite (startUp_bounded (keepWarm_bounded h)) h
  · exact h

theorem execRailReady_bounded {rail readyUs} (h : Bounded s) : NextBounded (execRailReady rail readyUs s) := by
  unfold execRailReady
  split
  · exact bounded_ite (fromRails_bounded h) h
  · exact bounded_ite (setPow_bounded h) h

theorem execRailReadyTimeout_bounded {rail} (h : Bounded s) : NextBounded (execRailReadyTimeout rail s) := by
  unfold execRailReadyTimeout
  split
  · exact bounded_ite (fromRails_bounded h) h
  · exact h

theorem engineOff_bounded (h : Bounded s) : Bounded (engineOff s) :=
  foldl_bounded (fun _ _ ht => bounded_ite (unloadGraph_bounded ht) ht) (bounded_mk h)

theorem enterHeldState_bounded (h : Bounded s) : Bounded (enterHeldState s) := setPow_bounded (loseRole_bounded h)

theorem reloadsFail_bounded (h : Bounded s) : Bounded (reloadsFail s) :=
  foldl_bounded (fun _ _ ht => bounded_ite (failBank_bounded ht) ht) h

theorem railConsequences_bounded {k} (h : Bounded s) : Bounded (railConsequences k s) := by
  unfold railConsequences
  extract_lets s1
  have h1 : Bounded s1 := railDomainsOff_bounded h
  split
  · exact engineOff_bounded h1
  · exact portDomains_bounded h1
  · exact reloadsFail_bounded (probesLost_bounded (loseReserve_bounded (setPow_bounded h1)))
  · exact bounded_ite (enterHeldState_bounded h1) (setPow_bounded (banksRefresh_bounded h1))
  · exact linkDown_bounded (linkDown_bounded h1)
  · exact h1

theorem execRailLost_bounded {rail} (h : Bounded s) : NextBounded (execRailLost rail s) := by
  unfold execRailLost
  extract_lets mark
  have h1 : Bounded mark := setPow_bounded h
  exact bounded_ite (setPow_bounded h)
      (bounded_ite h
        (bounded_ite (lastWord_bounded (railDomainsOff_bounded (coreStops_bounded h1)))
          (railConsequences_bounded (post_bounded h1))))

theorem execSocThermalTrip_bounded (h : Bounded s) : NextBounded (execSocThermalTrip s) :=
  bounded_ite (lastWord_bounded (railDomainsOff_bounded (coreStops_bounded (setPow_bounded h)))) h

theorem execDeadManEngage_bounded (h : Bounded s) : NextBounded (execDeadManEngage s) :=
  bounded_ite (lastWord_bounded (setPow_bounded (loseRole_bounded h))) h

theorem execCrystalFailure_bounded (h : Bounded s) : NextBounded (execCrystalFailure s) := by
  have hdown : Bounded (linkDown 1 (linkDown 0 (loseRole s))) :=
    linkDown_bounded (linkDown_bounded (loseRole_bounded h))
  refine bounded_ite (post_bounded (foldl_bounded (fun _ _ ht => channelUpdate_bounded ht)
    (foldl_bounded (fun t d ht => ?_) (bounded_mk (foldl_bounded (fun t p ht => ?_) hdown))))) h
  · exact bounded_ite (setDomain_bounded ht) ht
  · exact setPortState_bounded (endSession_bounded (sitesDown_bounded ht))

theorem execAct24Absent_bounded (h : Bounded s) : NextBounded (execAct24Absent s) :=
  bounded_ite
    (bounded_ite (post_bounded (banksRefresh_bounded (setPow_bounded h))) (banksRefresh_bounded (setPow_bounded h)))
    h

theorem execAct24Present_bounded (h : Bounded s) : NextBounded (execAct24Present s) :=
  bounded_ite (banksRefresh_bounded (setPow_bounded h)) h

theorem execDomainCycleComplete_bounded {domain lockUs} (h : Bounded s) :
    NextBounded (execDomainCycleComplete domain lockUs s) := by
  unfold execDomainCycleComplete
  extract_lets parent locked s1
  have h1 : Bounded s1 := by
    dsimp only [s1]
    split
    · exact storeLock_bounded h
    · exact h
  exact bounded_ite h (bounded_ite (portDomains_bounded (failCycle_bounded h))
    (bounded_ite (setDomain_bounded h1) (portDomains_bounded (failCycle_bounded h1))))

theorem execNoImageKeyRetry_bounded {facts} (h : Bounded s) : NextBounded (execNoImageKeyRetry facts s) :=
  bounded_ite
    (by
      extract_lets
      split
      · exact verifyStep_bounded (keyCheck_bounded (bounded_mk h))
      · exact fromImage_bounded
            (releaseBackup_bounded (setPow_bounded (verifyStep_bounded (keyCheck_bounded (bounded_mk h))))))
    h

theorem execOtherCopyCheck_bounded (h : Bounded s) : NextBounded (execOtherCopyCheck s) := by
  unfold execOtherCopyCheck
  split
  · exact bounded_ite (bounded_ite (bounded_mk h) (post_bounded (bounded_mk h))) h
  · exact h

theorem execRollbackAdvance_bounded (h : Bounded s) : NextBounded (execRollbackAdvance s) := by
  unfold execRollbackAdvance
  split
  · exact bounded_ite
        (bounded_ite (post_bounded (bounded_mk (post_bounded (setSec_bounded h)))) (post_bounded (setSec_bounded h)))
        h
  · exact h

theorem execKeyLoss_bounded (h : Bounded s) : NextBounded (execKeyLoss s) :=
  bounded_ite (post_bounded (bounded_ite (endUpdate_bounded (bounded_mk h)) (bounded_mk h))) h

/-! The operations of Machine/StatusWindow.lean. -/

theorem execRead_bounded {session msgId address bytes} (h : Bounded s) :
    NextBounded (execRead session msgId address bytes s) := by
  unfold execRead
  exact bounded_ite h
      (onMessage_bounded
        (fun _ ht =>
          bounded_ite (errorAnswer_bounded ht)
            (bounded_ite (errorAnswer_bounded ht)
              (bounded_ite (errorAnswer_bounded ht) (bounded_ite (errorAnswer_bounded ht) (answer_bounded ht)))))
        h)

theorem writeShared_bounded {e i off data} (h : Bounded s) : Bounded (writeShared e i off data s) := by
  unfold writeShared
  extract_lets one s1 s2 s1'
  have h2 : Bounded s2 := updProbe_bounded (bounded_ite (abortProbe_bounded h) h)
  have h1 : Bounded s1' := bounded_ite (updCan_bounded h) h
  split
  · exact bounded_ite (armProbe_bounded h2) h2
  · split
    · exact mqTailWrite_bounded h1
    · exact h1
  · exact bounded_ite (updCan_bounded h) h
  · exact h

theorem execWrite_bounded {session msgId address data} (h : Bounded s) :
    NextBounded (execWrite session msgId address data s) := by
  unfold execWrite
  exact bounded_ite h
      (onMessage_bounded
        (fun _ ht =>
          bounded_ite (errorAnswer_bounded ht)
            (bounded_ite (errorAnswer_bounded ht)
              (bounded_ite (errorAnswer_bounded ht)
                (bounded_ite (errorAnswer_bounded ht)
                  (by
                    split
                    · exact errorAnswer_bounded ht
                    · exact answer_bounded ht
                    · exact bounded_ite (errorAnswer_bounded ht)
                          (bounded_ite (answer_bounded ht)
                            (bounded_ite
                              (bounded_ite (setMgmt_bounded (await_bounded ht)) (errorAnswer_bounded ht))
                              (answer_bounded (updSession_bounded ht)))))))))
        h)

theorem applyWrite_bounded {x} (h : Bounded s) : Bounded (applyWrite s x) :=
  resolve_bounded (by
      split
      · exact writeShared_bounded h
      · exact h)

theorem applyWrites_bounded (h : Bounded s) : Bounded (applyWrites s) :=
  foldl_bounded (fun _ _ ht => applyWrite_bounded ht) (setMgmt_bounded h)

/-! The operations of Machine/Frames.lean. -/

theorem frameEnds_bounded (h : Bounded s) : Bounded (frameEnds s) := by
  unfold frameEnds
  extract_lets s1
  have h1 : Bounded s1 := leakOutputs_bounded (checkpointSnapshot_bounded h)
  split
  · exact bounded_ite (bounded_mk h1) h1
  · exact h1

theorem executeSlot_bounded {i} (h : Bounded s) : Bounded (executeSlot s i) := by
  unfold executeSlot
  refine bounded_ite h (markExecuted_bounded ?_)
  split
  · exact scheduleSetPoint_bounded h
  · exact bounded_ite (requestMode_bounded h) h
  · exact applyCells_bounded h
  · exact openWindow_bounded h
  · exact executeClose_bounded h
  · exact bounded_ite (requestLimit_bounded h) h
  · exact h

theorem executeStaged_bounded (h : Bounded s) : Bounded (executeStaged s) :=
  foldl_bounded (fun _ _ ht => executeSlot_bounded ht) (bounded_mk h)

theorem controlNormal_bounded (h : Bounded s) : Bounded (controlNormal s) := h

theorem frameBegins_bounded (h : Bounded s) : Bounded (frameBegins s) := by
  unfold frameBegins
  extract_lets s1 s2 s3 s4 _ s5
  have h1 : Bounded s1 := executeStaged_bounded (outputsInForce_bounded h)
  have h2 : Bounded s2 :=
    commitImageSchedule_bounded
      (commitWaiting_bounded
        (applyTargets_bounded (applyWrites_bounded (enterCommits_bounded (applyRequests_bounded h1)))))
  have h3 : Bounded s3 := canFrame_bounded (linkFrame_bounded (shedStep_bounded (publishPorts_bounded h2)))
  have h4 : Bounded s4 :=
    pairFrame_bounded (rollBlocks_bounded (maintBoundary_bounded (dutySecond_bounded (elementDomains_bounded h3))))
  have h5 : Bounded s5 := armUpdate_bounded (takeWallDay_bounded (bounded_mk h4))
  exact takeWaiting_bounded (controlNormal_bounded h5)

theorem resetCountdown_bounded (h : Bounded s) : Bounded (resetCountdown s) := by
  unfold resetCountdown
  split
  · exact bounded_ite (setMgmt_bounded h) (setPow_bounded (setMgmt_bounded h))
  · exact h

theorem idleBegins_bounded (h : Bounded s) : Bounded (idleBegins s) :=
  takeWaiting_bounded
    (applyWrites_bounded (applyRequests_bounded (commitRequests_bounded (resetCountdown_bounded (bounded_mk h)))))

theorem advanceFrame_bounded (h : Bounded s) : Bounded (advanceFrame s) := h

theorem execFrameBoundary_bounded (h : Bounded s) : NextBounded (execFrameBoundary s) :=
  bounded_ite h
    (bounded_ite (frameBegins_bounded (advanceFrame_bounded (bounded_ite (frameEnds_bounded h) h)))
      (idleBegins_bounded (advanceFrame_bounded h)))

theorem phaseDone_bounded {k} (h : Bounded s) : Bounded (phaseDone k s) := h

theorem ingest_bounded {r} (h : Bounded s) : Bounded (ingest r s) := by
  unfold ingest
  extract_lets s1 s2 s3
  have h1 : Bounded s1 := bounded_ite (beacons_bounded h) h
  have h2 : Bounded s2 :=
    clockFrame_bounded (bounded_ite (junctionSample_bounded (samplePlant_bounded h1)) (sampleLost_bounded h1))
  have h3 : Bounded s3 := bounded_ite (canSnapshot_bounded h2) h2
  exact isolationFlowCheck_bounded (maintSamples_bounded (thermalFrame_bounded (planSamples_bounded h3)))

theorem execIngestPhase_bounded {readings} (h : Bounded s) : NextBounded (execIngestPhase readings s) :=
  bounded_ite (phaseDone_bounded (ingest_bounded (missStopped_bounded h))) h

theorem engineWork_bounded {stalls} (h : Bounded s) : Bounded (engineWork stalls s) := by
  unfold engineWork
  extract_lets _ s1 s2
  have h1 : Bounded s1 := bounded_ite (planBefore_bounded h) h
  have h2 : Bounded s2 := bounded_ite h1 (bounded_ite (engineSlice_bounded h1) (engineLost_bounded h1))
  exact bounded_ite (planAfterEngine_bounded h2) h2

theorem planWork_bounded (h : Bounded s) : Bounded (planWork s) :=
  bounded_ite h
    (bounded_ite (bounded_ite (hotFrame_bounded h) h) (bounded_ite (planSlice_bounded h) (planSliceLost_bounded h)))

theorem compute_bounded {stalls} (h : Bounded s) : Bounded (compute stalls s) := by
  unfold compute
  extract_lets s1 s2 s3 s4 s5 s6 s7
  have h1 : Bounded s1 := engineWork_bounded h
  have h2 : Bounded s2 := bounded_ite (estimatorSlice_bounded h1) h1
  have h3 : Bounded s3 := leakDecision_bounded h2
  have h4 : Bounded s4 := bounded_ite (allocatorSlice_bounded h3) h3
  have h5 : Bounded s5 :=
    bounded_ite (controlOverrun_bounded h4) (bounded_ite (probesStep_bounded h4) (controlSlice_bounded h4))
  have h6 : Bounded s6 := planWork_bounded h5
  have h7 : Bounded s7 := bounded_ite (leakAdaptation_bounded h6) h6
  exact abortFailed_bounded h7

theorem execComputePhase_bounded {stalls} (h : Bounded s) : NextBounded (execComputePhase stalls s) :=
  bounded_ite (phaseDone_bounded (compute_bounded (missStopped_bounded h))) h

theorem stageOutputs_bounded (h : Bounded s) : Bounded (stageOutputs s) :=
  valveAdmission_bounded (bounded_ite (abortFlush_bounded (speedLogic_bounded h)) (speedLogic_bounded h))

theorem emit_bounded (h : Bounded s) : Bounded (emit s) := by
  unfold emit
  extract_lets s1
  have h1 : Bounded s1 := bounded_ite h (bounded_ite (stageOutputs_bounded h) (bounded_ite (waterFrame_bounded h) h))
  exact bounded_ite (canStage_bounded h1) h1

theorem execEmitPhase_bounded (h : Bounded s) : NextBounded (execEmitPhase s) :=
  bounded_ite (phaseDone_bounded (emit_bounded (missStopped_bounded h))) h

theorem heartbeat_bounded (h : Bounded s) : Bounded (heartbeat s) := h

theorem clockGuard_bounded (h : Bounded s) : Bounded (clockGuard s) := bounded_ite (clockSwitch_bounded h) h

theorem latchStatus_bounded (h : Bounded s) : Bounded (latchStatus s) := h

theorem bookkeep_bounded (h : Bounded s) : Bounded (bookkeep s) := by
  unfold bookkeep
  extract_lets s1
  have h1 : Bounded s1 := stageSchedule_bounded (commitRequests_bounded h)
  exact latchStatus_bounded
      (heartbeat_bounded
        (pairGuard_bounded (clockGuard_bounded (shedQuiet_bounded (scrubFrame_bounded (telemetryFrame_bounded h1))))))

theorem execGuardPhase_bounded (h : Bounded s) : NextBounded (execGuardPhase s) :=
  bounded_ite
    (phaseDone_bounded (bounded_ite (evaluateOverruns_bounded h) (bookkeep_bounded (evaluateOverruns_bounded h))))
    (bounded_ite (phaseDone_bounded (latchStatus_bounded (heartbeat_bounded (commitRequests_bounded h)))) h)

theorem execClientOverrun_bounded {client} (h : Bounded s) : NextBounded (execClientOverrun client s) :=
  bounded_ite (overrunClient_bounded h) h

theorem execSafeHoldEnter_bounded (h : Bounded s) : NextBounded (execSafeHoldEnter s) :=
  bounded_ite (abortAll_bounded (cancelAllPromises_bounded (stopPlan_bounded (post_bounded (bounded_mk h))))) h

theorem execSafeHoldExit_bounded (h : Bounded s) : NextBounded (execSafeHoldExit s) :=
  bounded_ite (restartPlan_bounded (post_bounded (bounded_mk h))) h

theorem execPllLossOfLock_bounded {pll fast} (h : Bounded s) : NextBounded (execPllLossOfLock pll fast s) :=
  bounded_ite h (bounded_ite (bounded_ite (post_bounded (bounded_mk h)) h) (pllLoss_bounded h))

theorem execPllRelock_bounded {pll fast} (h : Bounded s) : NextBounded (execPllRelock pll fast s) :=
  bounded_ite (bounded_mk h) (pllRelock_bounded h)

theorem epochBegins_bounded (h : Bounded s) : Bounded (epochBegins s) := by
  unfold epochBegins
  extract_lets s1
  have h1 : Bounded s1 := setPlan_bounded h
  exact bounded_ite h1 (bounded_ite (rollSamples_bounded (dropRequests_bounded h1)) (planBoundary_bounded h1))

theorem execPlanEpochBoundary_bounded (h : Bounded s) : NextBounded (execPlanEpochBoundary s) :=
  bounded_ite (epochBegins_bounded h) h

/-! The operations of Machine/Dispatch.lean. -/

/-- Every command keeps the bounds. -/
theorem exec_bounded (h : Bounded s) : ∀ c : Instr, NextBounded (exec c s)
  | .frameBoundary => execFrameBoundary_bounded h
  | .ingestPhase .. => execIngestPhase_bounded h
  | .computePhase .. => execComputePhase_bounded h
  | .emitPhase => execEmitPhase_bounded h
  | .guardPhase => execGuardPhase_bounded h
  | .clientOverrun .. => execClientOverrun_bounded h
  | .shedRequest => execShedRequest_bounded h
  | .shedRestore => execShedRestore_bounded h
  | .safeHoldEnter => execSafeHoldEnter_bounded h
  | .safeHoldExit => execSafeHoldExit_bounded h
  | .pllLossOfLock .. => execPllLossOfLock_bounded h
  | .pllRelock .. => execPllRelock_bounded h
  | .crystalFailure => execCrystalFailure_bounded h
  | .syncReceived .. => execSyncReceived_bounded h
  | .timeEpochIncrement => execTimeEpochIncrement_bounded h
  | .announceReceived .. => execAnnounceReceived_bounded h
  | .announceReceiptTimeout => execAnnounceReceiptTimeout_bounded h
  | .ptpPortTakeover => execPtpPortTakeover_bounded h
  | .wallDegraded => execWallDegraded_bounded h
  | .wallKeyConversion => execWallKeyConversion_bounded h
  | .historyRecordExpiry => execHistoryRecordExpiry_bounded h
  | .scheduleSlotFree => execScheduleSlotFree_bounded h
  | .powerGoodAssert .. => execPowerGoodAssert_bounded h
  | .powerGoodDeassert => execPowerGoodDeassert_bounded h
  | .railReady .. => execRailReady_bounded h
  | .railReadyTimeout .. => execRailReadyTimeout_bounded h
  | .railLost .. => execRailLost_bounded h
  | .upperFillComplete => execUpperFillComplete_bounded h
  | .noImageKeyRetry .. => execNoImageKeyRetry_bounded h
  | .otherCopyCheck => execOtherCopyCheck_bounded h
  | .rollbackAdvance => execRollbackAdvance_bounded h
  | .keyLoss => execKeyLoss_bounded h
  | .act24Absent => execAct24Absent_bounded h
  | .act24Present => execAct24Present_bounded h
  | .domainCycleComplete .. => execDomainCycleComplete_bounded h
  | .periodicCalibration .. => execPeriodicCalibration_bounded h
  | .armingComplete .. => execArmingComplete_bounded h
  | .takePlantControl => execTakePlantControl_bounded h
  | .backupDriveStart => execBackupDriveStart_bounded h
  | .backupDriveRelease => execBackupDriveRelease_bounded h
  | .backupHeartbeatLoss => execBackupHeartbeatLoss_bounded h
  | .crystalTry .. => execCrystalTry_bounded h
  | .heldRelease => execHeldRelease_bounded h
  | .resetNAssert => execResetNAssert_bounded h
  | .coreWatchdog => execCoreWatchdog_bounded h
  | .warmReset .. => execWarmReset_bounded h
  | .deadManEngage => execDeadManEngage_bounded h
  | .silenceFallback .. => execSilenceFallback_bounded h
  | .quarantineTimerExpiry .. => execQuarantineTimerExpiry_bounded h
  | .lowerMax .. => execLowerMax_bounded h
  | .releasePages .. => execReleasePages_bounded h
  | .setSplit .. => execSetSplit_bounded h
  | .bindSite .. => execBindSite_bounded h
  | .unbindSite .. => execUnbindSite_bounded h
  | .setQuota .. => execSetQuota_bounded h
  | .releaseTenant .. => execReleaseTenant_bounded h
  | .admitTenant .. => execAdmitTenant_bounded h
  | .planEpochBoundary => execPlanEpochBoundary_bounded h
  | .pumpOverspeedLimit .. => execPumpOverspeedLimit_bounded h
  | .overspeedRestEnd .. => execOverspeedRestEnd_bounded h
  | .singleBitError .. => execSingleBitError_bounded h
  | .weightDoubleBitError .. => execWeightDoubleBitError_bounded h
  | .weightReloadComplete .. => execWeightReloadComplete_bounded h
  | .scratchDoubleBitError .. => execScratchDoubleBitError_bounded h
  | .precisionRun .. => execPrecisionRun_bounded h
  | .precisionRunComplete .. => execPrecisionRunComplete_bounded h
  | .loopResume .. => execLoopResume_bounded h
  | .probeArm .. => execProbeArm_bounded h
  | .probeAbort .. => execProbeAbort_bounded h
  | .probeDone .. => execProbeDone_bounded h
  | .setLoopSp .. => execSetLoopSp_bounded h
  | .noReference .. => execNoReference_bounded h
  | .ditherWindowStart .. => execDitherWindowStart_bounded h
  | .ditherWindowEnd .. => execDitherWindowEnd_bounded h
  | .thermalTrip .. => execThermalTrip_bounded h
  | .thermalTripRelease .. => execThermalTripRelease_bounded h
  | .telReceived .. => execTelReceived_bounded h
  | .capViolationRelease .. => execCapViolationRelease_bounded h
  | .telDeadline .. => execTelDeadline_bounded h
  | .siteUnresponsive .. => execSiteUnresponsive_bounded h
  | .siteResponsive .. => execSiteResponsive_bounded h
  | .packetError .. => execPacketError_bounded h
  | .reliablePacketReceived .. => execReliablePacketReceived_bounded (payload := []) h
  | .ackReceived .. => execAckReceived_bounded h
  | .nakReceived .. => execNakReceived_bounded h
  | .replayTimeout .. => execReplayTimeout_bounded h
  | .pingSend .. => execPingSend_bounded h
  | .pongReceived .. => execPongReceived_bounded h
  | .transactionResponse .. => execTransactionResponse_bounded h
  | .transactionTimeout .. => execTransactionTimeout_bounded h
  | .evtReceived .. => execEvtReceived_bounded h
  | .trainingComplete .. => execTrainingComplete_bounded h
  | .trainingAttemptFail .. => execTrainingAttemptFail_bounded h
  | .attestationTimeout .. => execAttestationTimeout_bounded h
  | .attestationRetry .. => execAttestationRetry_bounded h
  | .authFailure .. => execAuthFailure_bounded h
  | .rekeyStart .. => execRekeyStart_bounded h
  | .keyUpdateAck .. => execKeyUpdateAck_bounded h
  | .rekeyTimeout .. => execRekeyTimeout_bounded h
  | .linkLost .. => execLinkLost_bounded h
  | .portQuarantineEnd .. => execPortQuarantineEnd_bounded h
  | .marginMeasure .. => execMarginMeasure_bounded h
  | .pumpStatusReceived .. => execPumpStatusReceived_bounded h
  | .pumpStatusStale .. => execPumpStatusStale_bounded h
  | .elementStall .. => execElementStall_bounded h
  | .groupFullSpeedEnd .. => execGroupFullSpeedEnd_bounded h
  | .elementRetryEnd .. => execElementRetryEnd_bounded h
  | .retryCountReset .. => execRetryCountReset_bounded h
  | .clearElement .. => execClearElement_bounded h
  | .setSprayInhibit .. => execSetSprayInhibit_bounded h
  | .vigilHold => execVigilHold_bounded h
  | .sprayCycle => execSprayCycle_bounded h
  | .waterDayRollover => execWaterDayRollover_bounded h
  | .energisingEdge .. => execEnergisingEdge_bounded h
  | .peakEnd .. => execPeakEnd_bounded h
  | .valveRelease .. => execValveRelease_bounded h
  | .dipDetected .. => execDipDetected_bounded h
  | .missingDip .. => execMissingDip_bounded h
  | .coilShort .. => execCoilShort_bounded h
  | .openCoilEnergised .. => execOpenCoilEnergised_bounded h
  | .openCoilReleased .. => execOpenCoilReleased_bounded h
  | .switchFailedOn .. => execSwitchFailedOn_bounded h
  | .bankOvercurrent .. => execBankOvercurrent_bounded h
  | .groundFault .. => execGroundFault_bounded h
  | .bankTripRecovery .. => execBankTripRecovery_bounded h
  | .driverHot .. => execDriverHot_bounded h
  | .driverCool .. => execDriverCool_bounded h
  | .dutyLimit .. => execDutyLimit_bounded h
  | .valveRequestRefused .. => execValveRequestRefused_bounded h
  | .setValve .. => execSetValve_bounded h
  | .clearValve .. => execClearValve_bounded h
  | .leakInputState .. => execLeakInputState_bounded h
  | .ropeLocation .. => execRopeLocation_bounded h
  | .massBalanceHoldoffEnd .. => execMassBalanceHoldoffEnd_bounded h
  | .pressureDecayEval .. => execPressureDecayEval_bounded h
  | .classifierConfirm .. => execClassifierConfirm_bounded h
  | .isolationCheckTimeout .. => execIsolationCheckTimeout_bounded h
  | .notHoldingRecheck .. => execNotHoldingRecheck_bounded h
  | .releaseLoop .. => execReleaseLoop_bounded h
  | .manyLoopsEnd => execManyLoopsEnd_bounded h
  | .rowStop .. => execRowStop_bounded h
  | .releaseRow .. => execReleaseRow_bounded h
  | .releaseFloor .. => execReleaseFloor_bounded h
  | .ringOpenExternal => execRingOpenExternal_bounded h
  | .ringClosedExternal => execRingClosedExternal_bounded h
  | .busOff .. => execBusOff_bounded h
  | .busOffRecovery .. => execBusOffRecovery_bounded h
  | .busOffStormEnd .. => execBusOffStormEnd_bounded h
  | .errorPassive .. => execErrorPassive_bounded h
  | .errorActive .. => execErrorActive_bounded h
  | .cellTransmit .. => execCellTransmit_bounded h
  | .canFrameReceived .. => execCanFrameReceived_bounded h
  | .valveStatusReceived .. => execValveStatusReceived_bounded h
  | .valveStatusStale .. => execValveStatusStale_bounded h
  | .canSend .. => execCanSend_bounded h
  | .canCancel .. => execCanCancel_bounded h
  | .hostMessageExpire .. => execHostMessageExpire_bounded h
  | .sendSlotFree .. => execSendSlotFree_bounded h
  | .mqTailWrite .. => execMqTailWrite_bounded h
  | .mqOverflowClear .. => execMqOverflowClear_bounded h
  | .newClear .. => execNewClear_bounded h
  | .claimRound .. => execClaimRound_bounded h
  | .claimRefreshTimeout => execClaimRefreshTimeout_bounded h
  | .claimWireStuck .. => execClaimWireStuck_bounded h
  | .strapConflict => execStrapConflict_bounded h
  | .healthSend => execHealthSend_bounded h
  | .healthReceived .. => execHealthReceived_bounded h
  | .partnerSilent => execPartnerSilent_bounded h
  | .markReceived .. => execMarkReceived_bounded h
  | .ckptReceived .. => execCkptReceived_bounded h
  | .checkpointStale => execCheckpointStale_bounded h
  | .takeoverBid .. => execTakeoverBid_bounded h
  | .restoreComplete => execRestoreComplete_bounded h
  | .swapRequestRaise .. => execSwapRequestRaise_bounded h
  | .swapReqReceived => execSwapReqReceived_bounded h
  | .handoverReceived .. => execHandoverReceived_bounded h
  | .primedReceived => execPrimedReceived_bounded h
  | .refusedReceived => execRefusedReceived_bounded h
  | .handoverTimeout => execHandoverTimeout_bounded h
  | .pairSwap .. => execPairSwap_bounded h
  | .pairHold .. => execPairHold_bounded h
  | .partnerAttestRetry => execPartnerAttestRetry_bounded h
  | .drbgHealthFailure => execDrbgHealthFailure_bounded h
  | .drbgResume => execDrbgResume_bounded h
  | .ownerEnrol .. => execOwnerEnrol_bounded h
  | .enrolReboot => execEnrolReboot_bounded h
  | .setDeviceCert .. => execSetDeviceCert_bounded h
  | .getReleaseNonce .. => execGetReleaseNonce_bounded h
  | .releaseNonceExpiry => execReleaseNonceExpiry_bounded h
  | .ownerRelease .. => execOwnerRelease_bounded h
  | .getVersion .. => execGetVersion_bounded h
  | .getCapabilities .. => execGetCapabilities_bounded h
  | .negotiateAlgorithms .. => execNegotiateAlgorithms_bounded h
  | .getDigests .. => execGetDigests_bounded h
  | .getCertificate .. => execGetCertificate_bounded h
  | .challenge .. => execChallenge_bounded h
  | .getMeasurements .. => execGetMeasurements_bounded h
  | .tlsSessionOpen .. => execTlsSessionOpen_bounded h
  | .sessionIdleClose .. => execSessionIdleClose_bounded h
  | .sessionLockoutEnd .. => execSessionLockoutEnd_bounded h
  | .telemetryBlockSeal => execTelemetryBlockSeal_bounded h
  | .blockNotSealed => execBlockNotSealed_bounded h
  | .logWrite .. => execLogWrite_bounded h
  | .maintStart .. => execMaintStart_bounded h
  | .maintStop .. => execMaintStop_bounded h
  | .activityEnd .. => execActivityEnd_bounded h
  | .activityEntryFree .. => execActivityEntryFree_bounded h
  | .strokeValveClose .. => execStrokeValveClose_bounded h
  | .strokeFlowCheck .. => execStrokeFlowCheck_bounded h
  | .strokeFloorTimeout .. => execStrokeFloorTimeout_bounded h
  | .drainFillEndPressure .. => execDrainFillEndPressure_bounded h
  | .selfTestResult .. => execSelfTestResult_bounded h
  | .firmwareExchangeReport .. => execFirmwareExchangeReport_bounded h
  | .maintWindowTimeout .. => execMaintWindowTimeout_bounded h
  | .ethLinkUp .. => execEthLinkUp_bounded h
  | .ethLinkDown .. => execEthLinkDown_bounded h
  | .dhcpLease .. => execDhcpLease_bounded h
  | .linkLocalFallback .. => execLinkLocalFallback_bounded h
  | .dhcpRetry .. => execDhcpRetry_bounded h
  | .ethFloodDiscard .. => execEthFloodDiscard_bounded h
  | .read .. => execRead_bounded h
  | .write .. => execWrite_bounded h
  | .subscribe .. => execSubscribe_bounded h
  | .ping .. => execPing_bounded h
  | .notify .. => execNotify_bounded h
  | .setMode .. => execSetMode_bounded h
  | .setLimit .. => execSetLimit_bounded h
  | .schedCommit .. => execSchedCommit_bounded h
  | .maintReleaseHeld .. => execMaintReleaseHeld_bounded h
  | .imageBegin .. => execImageBegin_bounded h
  | .imageEraseComplete => execImageEraseComplete_bounded h
  | .imageWrite .. => execImageWrite_bounded h
  | .imageEnd .. => execImageEnd_bounded h
  | .imageUpdateTimeout => execImageUpdateTimeout_bounded h
  | .mgmtReset .. => execMgmtReset_bounded h
  | .setFieldbus .. => execSetFieldbus_bounded h
  | .modbusReadHolding .. => execModbusReadHolding_bounded h
  | .modbusReadInput .. => execModbusReadInput_bounded h
  | .modbusWriteSingle .. => execModbusWriteSingle_bounded h
  | .modbusWriteMultiple .. => execModbusWriteMultiple_bounded h
  | .modbusConnectionIdle .. => execModbusConnectionIdle_bounded h
  | .readProperty .. => execReadProperty_bounded h
  | .readPropertyMultiple .. => execReadPropertyMultiple_bounded h
  | .writeProperty .. => execWriteProperty_bounded h
  | .whoIs .. => execWhoIs_bounded h
  | .inputOvervoltage => execInputOvervoltage_bounded h
  | .inletOver => execInletOver_bounded h
  | .inletOverClear => execInletOverClear_bounded h
  | .internalFanFailed .. => execInternalFanFailed_bounded h
  | .internalFanRetry .. => execInternalFanRetry_bounded h
  | .internalFanRestored .. => execInternalFanRestored_bounded h
  | .socThermalTrip => execSocThermalTrip_bounded h
  | .delayRespReceived .. => execDelayRespReceived_bounded h
  | .ptpMessageIgnored => execPtpMessageIgnored_bounded h
  | .releasingComplete .. => execReleasingComplete_bounded h
  | .rowSensorCauseEnd => execRowSensorCauseEnd_bounded h
  | .announcementExpiry => execAnnouncementExpiry_bounded h
  | .finalCheckpointLoaded => execFinalCheckpointLoaded_bounded h
  | .standbySelfTest .. => execStandbySelfTest_bounded h
  | .tlsKeyUpdate .. => execTlsKeyUpdate_bounded h
  | .sessionClose .. => execSessionClose_bounded h
  | .malformedMessage .. => execMalformedMessage_bounded h
  | .spdmUnsupportedRequest .. => execSpdmUnsupportedRequest_bounded h
  | .enrolNChange .. => execEnrolNChange_bounded h
  | .modbusConnectionOpen => execModbusConnectionOpen_bounded h

/-! The operations of Machine/Step.lean. -/

theorem step_bounded (h : Bounded s) : NextBounded (step s) := by
  unfold step
  split
  · exact h
  · exact exec_bounded (bounded_mk h) _

end

/-- Settles O48: the command in front keeps the bounds, and an empty queue changes nothing. -/
theorem everyStepKeepsTheLogBounds : Obligations.EveryStepKeepsTheLogBounds := by
  intro s t h hstep
  have hnext : NextBounded (step s) := step_bounded h
  rwa [hstep] at hnext

end Sys2Proof.Machine
end

section
/-! SUPPORT. The clips of R152: what `clipBy` makes of one target and of the sum of a list of targets, for the rack limit
and for the row limit; settles O14. -/

namespace Sys2Proof.Machine

theorem clipFactor_le (limit fsum excess : Nat) : clipFactor limit fsum excess ≤ 65536 := by
  unfold clipFactor
  split
  · exact Nat.zero_le _
  · exact Nat.min_le_left _ _

/-- The clip's factor gives away no more than what the floors leave of the limit. -/
theorem excess_mul_clipFactor_div_le (limit fsum excess : Nat) :
    excess * clipFactor limit fsum excess / 65536 ≤ limit - fsum := by
  unfold clipFactor
  split
  · simp
  · refine Nat.div_le_of_le_mul ?_
    calc excess * min 65536 (65536 * (limit - fsum) / excess)
        ≤ excess * (65536 * (limit - fsum) / excess) := Nat.mul_le_mul_left _ (Nat.min_le_right _ _)
      _ ≤ 65536 * (limit - fsum) := Nat.mul_div_le _ _

theorem le_clipBy (k f p : Nat) : f ≤ clipBy k f p := Nat.le_add_right _ _

theorem clipBy_le {k f p : Nat} (hk : k ≤ 65536) (hfp : f ≤ p) : clipBy k f p ≤ p := by
  have hshare : (p - f) * k / 65536 ≤ p - f := Nat.div_le_of_le_mul (by
    rw [Nat.mul_comm 65536]
    exact Nat.mul_le_mul_left _ hk)
  unfold clipBy
  omega

section
variable {α : Type} {f p : α → Nat}

theorem sum_clipBy_le (k : Nat) (l : List α) :
    (l.map fun a => clipBy k (f a) (p a)).sum ≤ (l.map f).sum + (l.map fun a => p a - f a).sum * k / 65536 := by
  induction l with
  | nil => simp
  | cons a l ih =>
    have hadd : _ ≤ ((p a - f a) * k + (l.map fun a => p a - f a).sum * k) / 65536 := Nat.div_add_div_le_add_div
    simp only [List.map_cons, List.sum_cons, Nat.add_mul, clipBy] at ih ⊢
    omega

theorem sum_add_sum_sub {l : List α} (hfp : ∀ a ∈ l, f a ≤ p a) :
    (l.map f).sum + (l.map fun a => p a - f a).sum = (l.map p).sum := by
  induction l with
  | nil => rfl
  | cons a l ih =>
    obtain ⟨ha, hl⟩ := List.forall_mem_cons.mp hfp
    have hrest := ih hl
    simp only [List.map_cons, List.sum_cons]
    omega

/-- Targets clipped by their factor fit a limit that the floors fit. -/
theorem sum_clipBy_clipFactor_le {limit : Nat} {l : List α} (hfp : ∀ a ∈ l, f a ≤ p a) (hfit : (l.map f).sum ≤ limit) :
    (l.map fun a => clipBy (clipFactor limit (l.map f).sum ((l.map p).sum - (l.map f).sum)) (f a) (p a)).sum ≤ limit := by
  have hexcess : (l.map fun a => p a - f a).sum = (l.map p).sum - (l.map f).sum := by
    have := sum_add_sum_sub hfp
    omega
  have hsum := sum_clipBy_le (f := f) (p := p) (clipFactor limit (l.map f).sum ((l.map p).sum - (l.map f).sum)) l
  rw [hexcess] at hsum
  have hshare := excess_mul_clipFactor_div_le limit (l.map f).sum ((l.map p).sum - (l.map f).sum)
  omega

end

theorem floorInForce_le_pageCapOf {s : State} {i : Nat} (h : floorInForce s i ≤ s.img.limits.chipCap) :
    floorInForce s i ≤ pageCapOf s i := Nat.le_min.mpr ⟨h, Nat.le_add_right _ _⟩

/-! The rack clip. -/

theorem sum_rackTargets_le {s : State} {l : Nat} (hcap : ∀ i ∈ loopSites s l, floorInForce s i ≤ s.img.limits.chipCap)
    (hfit : floorSum s l ≤ rackInForce s l) : ((rackTargets s l).map (·.2)).sum ≤ rackInForce s l := by
  simp only [rackTargets, List.map_map, Function.comp_def]
  by_cases hover : rackInForce s l < pageCapSum s l
  · simp only [hover, if_true]
    exact sum_clipBy_clipFactor_le (fun i hi => floorInForce_le_pageCapOf (hcap i hi)) hfit
  · simp only [hover, if_false]
    exact Nat.not_lt.mp hover

/-- A target after the rack clip is that of a present site, between its floor and its page cap. -/
theorem mem_rackTargets {s : State} {l : Nat} (hcap : ∀ i ∈ presentSites s, floorInForce s i ≤ s.img.limits.chipCap)
    {x : Nat × Nat} (hx : x ∈ rackTargets s l) : floorInForce s x.1 ≤ x.2 ∧ x.2 ≤ pageCapOf s x.1 := by
  simp only [rackTargets, List.mem_map] at hx
  obtain ⟨i, hi, rfl⟩ := hx
  have hfp := floorInForce_le_pageCapOf (hcap i (List.mem_filter.mp hi).1)
  split
  · exact ⟨le_clipBy _ _ _, clipBy_le (clipFactor_le _ _ _) hfp⟩
  · exact ⟨hfp, Nat.le_refl _⟩

/-! The row clip. -/

/-- The targets of the row before the row clip. -/
def rowTargets (s : State) : List (Nat × Nat) := (List.range 24).flatMap (rackTargets s)

/-- The factor of the row clip. -/
def rowFactor (s : State) : Nat :=
  clipFactor s.heat.rowLimit ((rowTargets s).map fun x => floorInForce s x.1).sum
    (((rowTargets s).map (·.2)).sum - ((rowTargets s).map fun x => floorInForce s x.1).sum)

theorem allTargets_eq (s : State) : allTargets s =
    if s.heat.rowLimit < ((rowTargets s).map (·.2)).sum then
      (rowTargets s).map fun x => (x.1, clipBy (rowFactor s) (floorInForce s x.1) x.2)
    else rowTargets s := rfl

theorem floorSum_allTargets (s : State) : ((allTargets s).map fun x => floorInForce s x.1).sum =
    ((rowTargets s).map fun x => floorInForce s x.1).sum := by
  rw [allTargets_eq]
  split
  · rw [List.map_map]
    rfl
  · rfl

section
variable {s : State} (hcap : ∀ i ∈ presentSites s, floorInForce s i ≤ s.img.limits.chipCap)
include hcap

theorem mem_rowTargets {x : Nat × Nat} (hx : x ∈ rowTargets s) :
    floorInForce s x.1 ≤ x.2 ∧ x.2 ≤ pageCapOf s x.1 := by
  obtain ⟨l, -, hl⟩ := List.mem_flatMap.mp hx
  exact mem_rackTargets hcap hl

theorem sum_allTargets_le (hfit : ((allTargets s).map fun x => floorInForce s x.1).sum ≤ s.heat.rowLimit) :
    ((allTargets s).map (·.2)).sum ≤ s.heat.rowLimit := by
  rw [floorSum_allTargets] at hfit
  rw [allTargets_eq]
  split
  case isTrue =>
    rw [List.map_map]
    exact sum_clipBy_clipFactor_le (fun x hx => (mem_rowTargets hcap hx).1) hfit
  case isFalse hfits => exact Nat.not_lt.mp hfits

theorem mem_allTargets {x : Nat × Nat} (hx : x ∈ allTargets s) :
    floorInForce s x.1 ≤ x.2 ∧ x.2 ≤ pageCapOf s x.1 := by
  rw [allTargets_eq] at hx
  split at hx
  · obtain ⟨y, hy, rfl⟩ := List.mem_map.mp hx
    obtain ⟨hlow, hhigh⟩ := mem_rowTargets hcap hy
    exact ⟨le_clipBy _ _ _, Nat.le_trans (clipBy_le (clipFactor_le _ _ _) hlow) hhigh⟩
  · exact mem_rowTargets hcap hx

end

/-- Settles O14: a clip keeps each target between its floor and what it clips, and gives away no more than the limit leaves
above the floors. -/
theorem clippedTargetsKeepTheLimits : Obligations.ClippedTargetsKeepTheLimits :=
  ⟨fun _ _ => sum_rackTargets_le, fun _ => sum_allTargets_le, fun _ hcap _ => mem_allTargets hcap⟩

end Sys2Proof.Machine
end

section
/-! SUPPORT. Duty, refusal and admission of the valve channels (R420, R422 to R424): what an update of a channel leaves of
the others, the duty window, the refusal of a request that has waited, and the one peak of a bank; settles O34. -/

namespace Sys2Proof.Machine

theorem vch_updCh (c d : Nat) (f : ValveCh → ValveCh) (s : State) :
    vch (updCh c f s) d = if c = d ∧ d < s.valve.ch.length then f (vch s d) else vch s d := getD_upd _ _ _ _ _

theorem vch_updCh_self {c : Nat} {s : State} (f : ValveCh → ValveCh) (hc : c < s.valve.ch.length) :
    vch (updCh c f s) c = f (vch s c) := getD_upd_self _ _ _ _ hc

theorem vch_updCh_ne {c d : Nat} {s : State} (f : ValveCh → ValveCh) (h : d ≠ c) : vch (updCh c f s) d = vch s d :=
  getD_upd_ne _ _ _ _ _ h.symm

/-! The duty window (R420). -/

theorem valve_postRun (code index : Nat) (s : State) : (postRun code s index).valve = s.valve := by
  unfold postRun
  split <;> rfl

theorem postRun_eq (code index : Nat) (s : State) :
    postRun code s index = { s with log := (postRun code s index).log } := by
  unfold postRun
  split <;> rfl

theorem vch_postRun (code index c : Nat) (s : State) : vch (postRun code s index) c = vch s c :=
  congrArg (fun v => v.ch.getD c {}) (valve_postRun code index s)

/-- What the duty judgement of a channel changes: its duty mark and the log (R420). -/
theorem dutyJudge_effect {s : State} {c : Nat} (hc : c < s.valve.ch.length) :
    (∃ v, vch (dutyJudge c s) c = { vch s c with dutyOver := v } ∧
      ((valveCfg s c).dutyLimit * 100000 ≤ windowSum (vch s c) → v = true) ∧
      (windowSum (vch s c) < (valveCfg s c).dutyLimit * 100000 →
        windowSum (vch s c) * 10 ≤ (valveCfg s c).dutyLimit * 900000 → v = false) ∧
      (windowSum (vch s c) < (valveCfg s c).dutyLimit * 100000 →
        (valveCfg s c).dutyLimit * 900000 < windowSum (vch s c) * 10 → v = (vch s c).dutyOver)) ∧
    (∀ d, d ≠ c → vch (dutyJudge c s) d = vch s d) ∧
    dutyJudge c s = { s with valve := (dutyJudge c s).valve, log := (dutyJudge c s).log } := by
  unfold dutyJudge
  extract_lets lim x
  by_cases hover : lim ≤ windowSum x
  · rw [if_pos hover]
    refine ⟨⟨true, ?_, fun _ => rfl, fun h => ?_, fun h => ?_⟩, fun d hd => ?_, ?_⟩
    · rw [vch_updCh_self _ (by rwa [valve_postRun]), vch_postRun]
    · exact absurd hover (Nat.not_le.mpr h)
    · exact absurd hover (Nat.not_le.mpr h)
    · rw [vch_updCh_ne _ hd, vch_postRun]
    · rw [postRun_eq]
      rfl
  · rw [if_neg hover]
    by_cases hlow : windowSum x * 10 ≤ lim * 9
    · rw [if_pos hlow]
      refine ⟨⟨false, vch_updCh_self _ hc, fun h => absurd h hover, fun _ _ => rfl, fun _ h => ?_⟩,
        fun d hd => vch_updCh_ne _ hd, rfl⟩
      exact absurd hlow (by dsimp only [lim, x]; omega)
    · rw [if_neg hlow]
      exact ⟨⟨_, rfl, fun h => absurd h hover, fun _ h => absurd h (by dsimp only [lim, x] at hlow; omega),
        fun _ _ => rfl⟩, fun _ _ => rfl, rfl⟩

/-- Judging the duty of channels leaves every channel's buckets. -/
theorem dutyJudge_buckets (c d : Nat) (s : State) :
    (vch (dutyJudge d s) c).openBucket = (vch s c).openBucket ∧ (vch (dutyJudge d s) c).buckets = (vch s c).buckets := by
  unfold dutyJudge
  extract_lets lim x
  split
  · rw [vch_updCh, vch_postRun]
    split <;> exact ⟨rfl, rfl⟩
  · split
    · rw [vch_updCh]
      split <;> exact ⟨rfl, rfl⟩
    · exact ⟨rfl, rfl⟩

/-- With each second the open bucket closes into the 60 of the window (R420). -/
theorem dutySecond_buckets {s : State} {c : Nat} (hc : c < s.valve.ch.length) (hsec : s.seq.frame % 10000 = 0) :
    (vch (dutySecond s) c).openBucket = 0 ∧
    (vch (dutySecond s) c).buckets = ((vch s c).openBucket :: (vch s c).buckets).take 60 := by
  rw [dutySecond, if_pos hsec]
  have hopen := foldl_keeps (fun t => (vch t c).openBucket) (fun t d => dutyJudge d t)
    (fun t d => (dutyJudge_buckets c d t).1)
  have hbuckets := foldl_keeps (fun t => (vch t c).buckets) (fun t d => dutyJudge d t)
    (fun t d => (dutyJudge_buckets c d t).2)
  rw [hopen, hbuckets]
  simp [vch, List.getD_eq_getElem?_getD, List.getElem?_map, List.getElem?_eq_getElem hc]

/-! Refusal (R424). -/

/-- A dropped command of class 1 to 3 is no longer in force. -/
theorem requestInForce_dropCommand_ne {cls : Nat} (x : ValveCh) (h0 : cls ≠ 0) (v : Bool) :
    requestInForce (dropCommand cls x) ≠ some (cls, v) := by
  intro h
  unfold requestInForce at h
  split at h
  · simp_all
  · split at h
    next hc1 =>
      obtain ⟨rfl, -⟩ := Prod.mk.inj (Option.some.inj h)
      simp [dropCommand] at hc1
    next hc2 =>
      obtain ⟨rfl, -⟩ := Prod.mk.inj (Option.some.inj h)
      simp [dropCommand] at hc2
    next hc3 =>
      obtain ⟨rfl, -⟩ := Prod.mk.inj (Option.some.inj h)
      simp [dropCommand] at hc3
    next => cases h

/-- What a refusal makes of the channel (R424). -/
def refusedCh (s : State) (cls f : Nat) (y : ValveCh) : ValveCh :=
  { dropCommand cls y with
    since := none, drive := if y.drive = .waiting then .released else y.drive, lastResult := 2
    waitFrames := s.seq.frame - f }

theorem refusedCh_drive_ne (s : State) (cls f : Nat) (y : ValveCh) : (refusedCh s cls f y).drive ≠ .waiting := by
  simp only [refusedCh]
  split
  · decide
  · assumption

theorem execValveRequestRefused_of_due {s : State} {c cls f : Nat}
    (hreq : requestInForce (vch s c) = some (cls, true)) (hcls : cls ≠ 0) (hsince : (vch s c).since = some f)
    (hwait : f + 500 < s.seq.frame) (hcur : inCurrent (vch s c).drive = false) (hst : (vch s c).staged = none) :
    execValveRequestRefused c s = .next (post 0xA067 (valveCount 7 (updCh c (refusedCh s cls f) s)) c cls) := by
  simp only [execValveRequestRefused, hreq, hsince, hcur, hst, hwait]
  rw [if_pos (by simp [hcls])]
  rfl

theorem execValveRequestRefused_of_no_wait {s : State} {c : Nat} (hsince : (vch s c).since = none) :
    execValveRequestRefused c s = .next s := by
  unfold execValveRequestRefused
  extract_lets x
  split
  next hf => cases hsince.symm.trans hf
  next => rfl

theorem execValveRequestRefused_of_waiting {s : State} {c f : Nat} (hsince : (vch s c).since = some f)
    (hwait : s.seq.frame < f + 500) : execValveRequestRefused c s = .next s := by
  unfold execValveRequestRefused
  extract_lets x
  split
  next cls f' _ hf =>
    obtain rfl : f = f' := Option.some.inj (hsince.symm.trans hf)
    have hlt : ¬ f + 500 < s.seq.frame := by omega
    have hne : ¬ f + 500 = s.seq.frame := by omega
    simp [hlt, hne]
  next => rfl

theorem execValveRequestRefused_of_leak {s : State} {c : Nat} {v : Bool}
    (hreq : requestInForce (vch s c) = some (0, v)) : execValveRequestRefused c s = .next s := by
  unfold execValveRequestRefused
  extract_lets x
  split
  next cls f hr _ =>
    obtain ⟨rfl, -⟩ := Prod.mk.inj (Option.some.inj (hreq.symm.trans hr))
    rfl
  next => rfl

/-! At most one peak of a bank (R422, R423). -/

/-- Every channel in its peak, or staged for it, was so before. -/
def NoNewPeak (s t : State) : Prop := ∀ c, busyPeak (vch t c) = true → busyPeak (vch s c) = true

theorem NoNewPeak.trans {s t u : State} (h : NoNewPeak s t) (h' : NoNewPeak t u) : NoNewPeak s u :=
  fun c hc => h c (h' c hc)

theorem noNewPeak_updCh {c : Nat} {f : ValveCh → ValveCh} (hf : ∀ x, busyPeak (f x) = true → busyPeak x = true)
    (s : State) : NoNewPeak s (updCh c f s) := by
  intro d hd
  rw [vch_updCh] at hd
  split at hd
  · exact hf _ hd
  · exact hd

/-- Neither the wait for a command nor its end brings a peak. -/
theorem busyPeak_of_staged_drive {x y : ValveCh} (hst : y.staged = x.staged) (hdr : y.drive = .peak → x.drive = .peak)
    (h : busyPeak y = true) : busyPeak x = true := by
  simp only [busyPeak, hst, Bool.or_eq_true, Bool.and_eq_true, decide_eq_true_eq] at h ⊢
  exact h.imp_right fun ⟨hp, hs⟩ => ⟨hdr hp, hs⟩

/-- A channel that begins to wait is not in its peak for that. -/
theorem noNewPeak_wait (s : State) (c n : Nat) : NoNewPeak s (updCh c (fun y => { y with
    since := some (y.since.getD n), drive := if y.drive = .released then .waiting else y.drive }) s) := by
  refine noNewPeak_updCh (fun x => ?_) s
  refine busyPeak_of_staged_drive rfl ?_
  dsimp only
  split
  · exact fun h => absurd h (by decide)
  · exact id

/-- Nor is one whose wait ends. -/
theorem noNewPeak_endWait (s : State) (c : Nat) : NoNewPeak s (updCh c (fun y => { y with
    since := none, drive := if y.drive = .waiting then .released else y.drive }) s) := by
  refine noNewPeak_updCh (fun x => ?_) s
  refine busyPeak_of_staged_drive rfl ?_
  dsimp only
  split
  · exact fun h => absurd h (by decide)
  · exact id

theorem noNewPeak_of_release {c : Nat} {f : ValveCh → ValveCh} (hf : ∀ x, (f x).staged = some false) (s : State) :
    NoNewPeak s (updCh c f s) :=
  noNewPeak_updCh (fun x h => by simp [busyPeak, hf x] at h) s

theorem noNewPeak_stageRelease (s : State) (c : Nat) : NoNewPeak s (stageRelease s c) := by
  unfold stageRelease
  extract_lets x s1
  have h1 : NoNewPeak s s1 := noNewPeak_endWait s c
  split
  · split
    · split
      · exact noNewPeak_wait s c _
      · split
        · exact h1.trans (noNewPeak_updCh (f := fun y => { y with lastResult := 5 }) (fun _ => id) s1)
        · exact h1
    · exact noNewPeak_endWait s c
  · split
    · split
      · exact noNewPeak_of_release (fun _ => rfl) s
      · split
        · exact noNewPeak_of_release (f := fun y => { y with staged := some false, lastResult := 4 }) (fun _ => rfl) s
        · exact fun _ => id
    · exact noNewPeak_of_release (fun _ => rfl) s

theorem noNewPeak_preemptOne {b : Nat} {s t : State} (h : preemptOne b s = some t) : NoNewPeak s t := by
  unfold preemptOne at h
  extract_lets l at h
  split at h
  · cases h
  next c _ _ =>
    cases h
    exact noNewPeak_of_release
      (f := fun x => { dropCommand _ x with staged := some false, lastResult := 3 }) (fun _ => rfl) s

theorem noNewPeak_preemptUntil (c : Nat) : ∀ (k : Nat) (s : State), NoNewPeak s (preemptUntil c k s)
  | 0, _ => fun _ => id
  | k + 1, s => by
    unfold preemptUntil
    split
    · exact fun _ => id
    · split
      next s1 h => exact (noNewPeak_preemptOne h).trans (noNewPeak_preemptUntil c k s1)
      next => exact fun _ => id

/-- The bank's channels in their peak or staged for it. -/
abbrev peaks (s : State) (b : Nat) : List Nat := (bankChs b).filter fun c => busyPeak (vch s c)

theorem NoNewPeak.peaks_le {s t : State} (h : NoNewPeak s t) (b : Nat) : (peaks t b).length ≤ (peaks s b).length := by
  rw [← List.countP_eq_length_filter, ← List.countP_eq_length_filter]
  exact List.countP_mono_left fun c _ => h c

theorem bankChs_nodup (b : Nat) : (bankChs b).Nodup :=
  List.pairwise_map.mpr (List.nodup_range.imp fun hne heq => hne (Nat.add_left_cancel heq))

/-- Where no channel of the bank is in its peak, admitting one leaves one at most. -/
theorem peaks_admitChannel_le {s : State} {b : Nat} (hfree : ∀ d ∈ bankChs b, busyPeak (vch s d) = false) (c : Nat) :
    (peaks (admitChannel c s) b).length ≤ 1 := by
  have honly : ∀ d ∈ bankChs b, busyPeak (vch (admitChannel c s) d) = true → d = c := by
    intro d hd hbusy
    refine Classical.byContradiction fun hne => ?_
    rw [admitChannel, vch_updCh_ne _ hne, hfree d hd] at hbusy
    cases hbusy
  have hsub : peaks (admitChannel c s) b ⊆ [c] := fun d hd => by
    obtain ⟨hmem, hbusy⟩ := List.mem_filter.mp hd
    exact List.mem_singleton.mpr (honly d hmem hbusy)
  exact List.Nodup.length_le_of_subset ((bankChs_nodup b).filter _) hsub

theorem peakFree_iff (s : State) (b : Nat) :
    peakFree s b = true ↔ ∀ d ∈ bankChs b, busyPeak (vch s d) = false := by
  simp [peakFree]

theorem peaks_admitBank_le (b : Nat) : ∀ (l : List (Nat × Nat)) (blocked : Option Nat) (s : State),
    (peaks s b).length ≤ 1 → (peaks (admitBank b l blocked s) b).length ≤ 1
  | [], _, _, h => h
  | (cls, c) :: t, blocked, s, h => by
    unfold admitBank
    extract_lets wait s1
    have hwait : (peaks wait b).length ≤ 1 := peaks_admitBank_le b t _ s h
    split
    · exact hwait
    · split
      · exact hwait
      · split
        · exact hwait
        next hfree =>
          have h1 : NoNewPeak s s1 := by
            dsimp only [s1]
            split
            · exact noNewPeak_preemptUntil c 8 s
            · exact fun _ => id
          have hfree1 : ∀ d ∈ bankChs b, busyPeak (vch s1 d) = false := fun d hd => by
            have hd' := (peakFree_iff s b).mp (by simpa using hfree) d hd
            exact Bool.eq_false_iff.mpr fun hbusy => by simp [h1 d hbusy] at hd'
          split
          · exact peaks_admitBank_le b t _ _ (peaks_admitChannel_le hfree1 c)
          · exact peaks_admitBank_le b t _ _ (Nat.le_trans (h1.peaks_le b) h)

theorem peaks_bankAdmission_le {s : State} {b : Nat} (h : (peaks s b).length ≤ 1) :
    (peaks (bankAdmission s b) b).length ≤ 1 := by
  unfold bankAdmission
  extract_lets s1 before s2 s3
  have h1 : NoNewPeak s s1 :=
    List.foldlRecOn (motive := NoNewPeak s) _ _ (fun _ => id) fun t ht c _ => ht.trans (noNewPeak_stageRelease t c)
  have h2 : (peaks s2 b).length ≤ 1 := peaks_admitBank_le b _ _ s1 (Nat.le_trans (h1.peaks_le b) h)
  have h3 : peaks s3 b = peaks s2 b := by
    refine foldl_keeps (fun t => peaks t b) _ (fun t p => ?_) before s2
    split <;> rfl
  split
  · rwa [h3]
  · have hlast : peaks (postRun 0xA066 s3 b) b = peaks s3 b := by
      simp only [peaks, vch_postRun]
    rwa [hlast, h3]

/-- Settles O34: the duty window and its judgement, the refusal after 500 frames, and admission, which stages a channel
only in a bank without a peak. -/
theorem dutyRefusalAndOnePeakPerBank : Obligations.DutyRefusalAndOnePeakPerBank := by
  refine ⟨fun s c uj hc => ?duty, fun s c hc hsec => dutySecond_buckets hc hsec, fun s hsec => if_neg hsec,
    fun s c cls f hc hreq hcls hsince hwait hcur hst => ?refused,
    fun s c hsince => execValveRequestRefused_of_no_wait hsince,
    fun s c f hsince hwait => execValveRequestRefused_of_waiting hsince hwait,
    fun s c v hreq => execValveRequestRefused_of_leak hreq, fun s b h => peaks_bankAdmission_le h⟩
  case duty =>
    have hvch := vch_updCh_self (s := s) (fun x => { x with openBucket := x.openBucket + uj }) hc
    obtain ⟨⟨v, hv, hfull, hclear, hkeep⟩, hothers, hframe⟩ := dutyJudge_effect
      (s := updCh c (fun x => { x with openBucket := x.openBucket + uj }) s) (c := c)
      (by simpa only [updCh, length_upd] using hc)
    have hsum : windowSum (vch (updCh c (fun x => { x with openBucket := x.openBucket + uj }) s) c) =
        windowSum (vch s c) + uj := by
      rw [hvch]
      exact (Nat.add_assoc _ _ _).symm
    rw [hsum] at hfull hclear hkeep
    rw [hvch] at hv hkeep
    refine ⟨_, rfl, ?_⟩
    simp only [dutyAccount, hv]
    exact ⟨trivial, trivial, hfull, hclear, hkeep, fun d hd => (hothers d hd).trans (vch_updCh_ne _ hd), hframe⟩
  case refused =>
    refine ⟨_, execValveRequestRefused_of_due hreq hcls hsince hwait hcur hst, ?_⟩
    have hvch : vch (post 0xA067 (valveCount 7 (updCh c (refusedCh s cls f) s)) c cls) c =
        refusedCh s cls f (vch s c) := vch_updCh_self _ hc
    rw [hvch]
    exact ⟨rfl, rfl, refusedCh_drive_ne _ _ _ _, requestInForce_dropCommand_ne _ hcls true,
      fun d hd => vch_updCh_ne _ hd, rfl, rfl⟩

end Sys2Proof.Machine
end

section
/-! SUPPORT. The judgement of a request (R538, R582, R583, R598, R604): the state in which a request that is taken now is
judged, what its checks read, and how its answer leaves; settles O49. -/

namespace Sys2Proof.Machine

/-! Sessions under an update of one of them. -/

theorem session_updSession_self {i : Nat} {s : State} (f : Session → Session) (hi : i < s.mgmt.sessions.length) :
    session (updSession i f s) i = f (session s i) := getD_upd_self _ _ _ _ hi

theorem session_updSession_ne {i j : Nat} (f : Session → Session) (s : State) (hij : j ≠ i) :
    session (updSession i f s) j = session s j := getD_upd_ne _ _ _ _ _ hij.symm

@[simp] theorem length_sessions_updSession (i : Nat) (f : Session → Session) (s : State) :
    (updSession i f s).mgmt.sessions.length = s.mgmt.sessions.length := length_upd _ _ _

/-- Reading past the end of a list gives the default. -/
theorem getD_of_length_le {α : Type} (l : List α) (d : α) {n : Nat} (h : l.length ≤ n) : l.getD n d = d := by
  rw [List.getD_eq_getElem?_getD, List.getElem?_eq_none h]
  rfl

theorem getD_of_lt {α : Type} (l : List α) (d : α) {n : Nat} (h : n < l.length) : l.getD n d = l[n] :=
  (List.getElem_eq_getD d).symm

/-- An open session has an entry of its own. -/
theorem lt_of_isOpen {s : State} {i : Nat} (h : (session s i).isOpen = true) : i < s.mgmt.sessions.length := by
  refine Classical.byContradiction fun hge => ?_
  rw [session, getD_of_length_le _ _ (Nat.not_lt.mp hge)] at h
  exact absurd h (by decide)

/-! The state in which a request is judged. -/

/-- What a message that takes its place makes of its session. -/
def carried (q : Request) (s : State) (x : Session) : Session :=
  { x with
    messages := cnt x.messages, lastNs := rowNs s, bytesIn := x.bytesIn + requestBytes q
    outbox := x.outbox ++ [{ msgId := q.hdr.msgId }] }

/-- A request has come and takes its place among the messages of its session; it counts among those of the frame. -/
def received (q : Request) (s : State) : State := { s with mgmt := { s.mgmt with
  sessions := upd s.mgmt.sessions q.hdr.session (carried q s), taken := s.mgmt.taken + 1 } }

theorem received_eq (q : Request) (s : State) : setMgmt (fun x => { x with taken := x.taken + 1 })
    (await q.hdr.session q.hdr.msgId (carry q.hdr.session (requestBytes q) s)) = received q s := by
  have hupd : upd (upd s.mgmt.sessions q.hdr.session fun x =>
        { x with messages := cnt x.messages, lastNs := rowNs s, bytesIn := x.bytesIn + requestBytes q })
      q.hdr.session (fun x => { x with outbox := x.outbox ++ [{ msgId := q.hdr.msgId }] }) =
      upd s.mgmt.sessions q.hdr.session (carried q s) := List.modify_modify_eq _ _ _ _
  simp only [setMgmt, await, carry, updSession, received, ← hupd]

theorem session_received_self {q : Request} {s : State} (hi : q.hdr.session < s.mgmt.sessions.length) :
    session (received q s) q.hdr.session = carried q s (session s q.hdr.session) := getD_upd_self _ _ _ _ hi

theorem session_received_ne {q : Request} {s : State} {i : Nat} (hi : i ≠ q.hdr.session) :
    session (received q s) i = session s i := getD_upd_ne _ _ _ _ _ hi.symm

/-- The tenants' records after a request that passes the header checks: its nonce is its tenant's last. -/
def admittedTenants (q : Request) (s : State) : List TenantSec :=
  if q.hdr.tenantAuth then upd s.sec.tenants q.hdr.tenant fun x => { x with lastNonce := q.hdr.nonce }
  else s.sec.tenants

/-- What a request that passes the header checks leaves. -/
def admitted (q : Request) (s : State) : State :=
  { received q s with sec := { s.sec with tenants := admittedTenants q s } }

theorem admitted_eq (q : Request) (s : State) : admitted q s =
    if q.hdr.tenantAuth then updSecTenant q.hdr.tenant (fun x => { x with lastNonce := q.hdr.nonce }) (received q s)
    else received q s := by
  unfold admitted admittedTenants
  split <;> rfl

/-- Step 8 reads neither the sessions, nor how many requests were taken, nor the tenants' nonces. -/
theorem ownCheck_congr (s : State) (l : List Session) (n : Nat) (c : List TenantSec) (h : ReqHdr) (b : ReqBody) :
    ownCheck { s with mgmt := { s.mgmt with sessions := l, taken := n }, sec := { s.sec with tenants := c } } h b =
      ownCheck s h b := by
  cases b <;> rfl

theorem ownCheck_admitted (q : Request) (s : State) (h : ReqHdr) (b : ReqBody) :
    ownCheck (admitted q s) h b = ownCheck s h b :=
  ownCheck_congr s _ _ _ h b

theorem arrive_of_now {q : Request} {s : State} (h : arrivesNow s q.hdr.session) :
    arrive q s = (judge (session s q.hdr.session).role q
      (await q.hdr.session q.hdr.msgId (carry q.hdr.session (requestBytes q) s))).2 := by
  obtain ⟨hruns, hopen, hout, hguard, htaken, hwaiting⟩ := h
  have hwait : mustWait s = false := by
    simp [mustWait, hguard, hwaiting, Nat.not_le.mpr htaken]
  simp [arrive, onMessage, queueFull, hruns, hopen, hout, hwait]

/-! The header checks. -/

theorem lockout_received {q : Request} {s : State} (hi : q.hdr.session < s.mgmt.sessions.length) :
    (session (received q s) q.hdr.session).lockout = (session s q.hdr.session).lockout := by
  rw [session_received_self hi]
  rfl

/-- The header checks judge a request as they would have before it took its place. -/
theorem commonCheck_received_code {q : Request} {s : State} (hi : q.hdr.session < s.mgmt.sessions.length)
    (role : SessRole) :
    (commonCheck role q.hdr q.body (received q s)).1 = (commonCheck role q.hdr q.body s).1 := by
  simp only [commonCheck, lockout_received hi, apply_ite Prod.fst]
  rfl

section
variable {c : Prop} [Decidable c] {n : Nat} {u v : State} {r : Nat × State}

/-- A check that passes leaves the result to those after it. -/
theorem code_ite_of_not {k : Nat} (hc : ¬ c) (hr : r.1 = k) : (if c then (n, u) else r).1 = k := by
  rwa [if_neg hc]

/-- Where the result is OK, the state is that of the last check. -/
theorem state_ite_of_code (hn : n ≠ 0) (hr : r.1 = 0 → r.2 = v) (h : (if c then (n, u) else r).1 = 0) :
    (if c then (n, u) else r).2 = v := by
  split at h
  · exact absurd h hn
  next hc =>
    rw [if_neg hc]
    exact hr h

end

/-- A request that fails no header check leaves its nonce. -/
theorem commonCheck_state_of_code {role : SessRole} {h : ReqHdr} {b : ReqBody} {t : State} :
    (commonCheck role h b t).1 = 0 → (commonCheck role h b t).2 =
      if h.tenantAuth then updSecTenant h.tenant (fun x => { x with lastNonce := h.nonce }) t else t :=
  state_ite_of_code (by decide) (state_ite_of_code (by decide) (state_ite_of_code (by decide)
    (state_ite_of_code (by decide) (state_ite_of_code (by decide) (state_ite_of_code (by decide)
      (state_ite_of_code (by decide) (state_ite_of_code (by decide) (state_ite_of_code (by decide)
        fun _ => rfl))))))))

theorem commonCheck_code_of_headerPasses {s : State} {h : ReqHdr} {b : ReqBody} (hp : headerPasses s h b) :
    (commonCheck (session s h.session).role h b s).1 = 0 := by
  obtain ⟨hrole, hcontrol, htenant, hauth, htime⟩ := hp
  exact code_ite_of_not (by simp [hrole]) (code_ite_of_not (by simpa using hcontrol)
    (code_ite_of_not (by simpa using fun ha => (hauth ha).1)
    (code_ite_of_not (by simpa using fun hn => ⟨(htenant hn).1, (htenant hn).2.1⟩)
    (code_ite_of_not (by simpa using fun hn => (htenant hn).2.2)
    (code_ite_of_not (by simpa using fun ha => (hauth ha).2.1)
    (code_ite_of_not (by simpa using fun ha => (hauth ha).2.2.1)
    (code_ite_of_not (by simpa using htime)
    (code_ite_of_not (by simpa using fun ha => (hauth ha).2.2.2) rfl))))))))

theorem commonCheck_of_headerPasses {q : Request} {s : State} (hi : q.hdr.session < s.mgmt.sessions.length)
    (hp : headerPasses s q.hdr q.body) :
    commonCheck (session s q.hdr.session).role q.hdr q.body (received q s) = (0, admitted q s) := by
  have hcode := (commonCheck_received_code hi _).trans (commonCheck_code_of_headerPasses hp)
  refine Prod.ext hcode ?_
  rw [admitted_eq]
  exact commonCheck_state_of_code hcode

/-! The answer. -/

/-- The answer to a request leaves on its session, and nothing waits there any more. -/
def answeredOn (h : ReqHdr) (code effect : Nat) (data : List Nat) (t : State) : State :=
  updSession h.session (fun x => { x with outbox := [] })
    (put h.session (.message h.session (requestResp t h code effect data)) t)

theorem respond_of_outbox {h : ReqHdr} {t : State} (hout : (session t h.session).outbox = [{ msgId := h.msgId }])
    (code effect : Nat) (data : List Nat) : respond h code effect data t = answeredOn h code effect data t := by
  simp [respond, resolve, hout, fillSlot, flush, answeredOn]

theorem session_answeredOn_self {h : ReqHdr} {t : State} (hi : h.session < t.mgmt.sessions.length)
    (code effect : Nat) (data : List Nat) : session (answeredOn h code effect data t) h.session =
      { session t h.session with
        outbox := [], bytesOut := (session t h.session).bytesOut + (requestResp t h code effect data).length } := by
  refine (session_updSession_self _ ?_).trans ?_
  · exact (length_sessions_updSession _ _ _).symm ▸ hi
  · have hput : session (put h.session (.message h.session (requestResp t h code effect data)) t) h.session =
        { session t h.session with
          bytesOut := (session t h.session).bytesOut + (requestResp t h code effect data).length } :=
      session_updSession_self _ hi
    rw [hput]

theorem session_answeredOn_ne {h : ReqHdr} {t : State} {i : Nat} (hi : i ≠ h.session) (code effect : Nat)
    (data : List Nat) : session (answeredOn h code effect data t) i = session t i :=
  (session_updSession_ne _ _ hi).trans (session_updSession_ne _ _ hi)

theorem answeredOn_eq (h : ReqHdr) (code effect : Nat) (data : List Nat) (t : State) :
    ∃ l, answeredOn h code effect data t = { t with
      mgmt := { t.mgmt with sessions := l }
      sent := .message h.session (requestResp t h code effect data) :: t.sent } := ⟨_, rfl⟩

theorem tenantSec_answeredOn (h : ReqHdr) (code effect : Nat) (data : List Nat) (t : State) (k : Nat) :
    tenantSec (answeredOn h code effect data t) k = tenantSec t k := rfl

theorem noteResult'_eq (ok : Bool) (h : ReqHdr) (b : ReqBody) (t : State) :
    ∃ c, noteResult' ok h b t = { t with sec := { t.sec with tenants := c } } := by
  unfold noteResult'
  split
  · exact ⟨_, rfl⟩
  · exact ⟨t.sec.tenants, rfl⟩

theorem lastNonce_updSecTenant_of_keeps {f : TenantSec → TenantSec} (hf : ∀ x, (f x).lastNonce = x.lastNonce)
    (k j : Nat) (t : State) : (tenantSec (updSecTenant k f t) j).lastNonce = (tenantSec t j).lastNonce := by
  have hget : tenantSec (updSecTenant k f t) j = if k = j ∧ j < t.sec.tenants.length then f (tenantSec t j)
      else tenantSec t j := getD_upd _ _ _ _ _
  rw [hget]
  split
  · exact hf _
  · rfl

theorem lastNonce_noteResult' (ok : Bool) (h : ReqHdr) (b : ReqBody) (t : State) (j : Nat) :
    (tenantSec (noteResult' ok h b t) j).lastNonce = (tenantSec t j).lastNonce := by
  unfold noteResult'
  split
  · refine lastNonce_updSecTenant_of_keeps (fun x => ?_) _ _ _
    rfl
  · rfl

theorem session_noteResult' (ok : Bool) (h : ReqHdr) (b : ReqBody) (t : State) (i : Nat) :
    session (noteResult' ok h b t) i = session t i := by
  obtain ⟨c, heq⟩ := noteResult'_eq ok h b t
  rw [heq]
  rfl

/-- A state in which a request is being judged: its session and the count of requests are as when it was received, and
no answer has left. -/
structure Judging (q : Request) (s u : State) : Prop where
  sessions : u.mgmt.sessions = (received q s).mgmt.sessions
  taken : u.mgmt.taken = s.mgmt.taken + 1
  waiting : u.mgmt.waiting = s.mgmt.waiting
  sent : u.sent = s.sent
  seq : u.seq = s.seq

theorem judging_admitted (q : Request) (s : State) : Judging q s (admitted q s) := ⟨rfl, rfl, rfl, rfl, rfl⟩

section
variable {q : Request} {s u : State} (h : Judging q s u)
include h

theorem Judging.session (i : Nat) : Machine.session u i = Machine.session (received q s) i :=
  congrArg (fun l => l.getD i {}) h.sessions

/-- On a session without other messages the request's place is the first. -/
theorem Judging.respond_eq (hnow : arrivesNow s q.hdr.session) (code effect : Nat) (data : List Nat) :
    respond q.hdr code effect data u = answeredOn q.hdr code effect data u := by
  obtain ⟨-, hopen, hout, -⟩ := hnow
  refine respond_of_outbox ?_ _ _ _
  rw [h.session, session_received_self (lt_of_isOpen hopen)]
  simp [carried, hout]

/-- The answer to a request that is judged now is the one thing that management and the security block add to it. -/
theorem Judging.answered (hnow : arrivesNow s q.hdr.session) (ok : Bool) (code effect : Nat) (data : List Nat) :
    answered s (noteResult' ok q.hdr q.body (answeredOn q.hdr code effect data u)) q.hdr code effect data := by
  obtain ⟨-, hopen, -, -, -, hwaiting⟩ := hnow
  have hi : q.hdr.session < u.mgmt.sessions.length := by
    rw [h.sessions]
    simpa [received] using lt_of_isOpen hopen
  have hresp : requestResp u q.hdr code effect data = requestResp s q.hdr code effect data := by
    simp only [requestResp, frameStamp, h.seq]
  obtain ⟨c, heq⟩ := noteResult'_eq ok q.hdr q.body (answeredOn q.hdr code effect data u)
  have hsess := (session_noteResult' ok q.hdr q.body _ q.hdr.session).trans
    (session_answeredOn_self hi code effect data)
  refine ⟨?_, ?_, ?_, ?_, ?_⟩
  · rw [heq, ← hresp, ← h.sent]
    rfl
  · rw [heq]
    exact h.taken
  · rw [heq]
    exact h.waiting.trans hwaiting
  · rw [hsess]
  · rw [hsess, h.session, session_received_self (lt_of_isOpen hopen)]
    rfl

theorem Judging.session_ne {i : Nat} (hi : i ≠ q.hdr.session) (ok : Bool) (code effect : Nat) (data : List Nat) :
    Machine.session (noteResult' ok q.hdr q.body (answeredOn q.hdr code effect data u)) i = Machine.session s i := by
  rw [session_noteResult', session_answeredOn_ne hi, h.session, session_received_ne hi]

end

/-! Acceptance. -/

/-- The data of the answer that leaves when a request is accepted into state `u` (R548, R604). -/
def acceptData (b : ReqBody) (u : State) (data : List Nat) : List Nat :=
  match b, u.sec.releaseNonce with
  | .getReleaseNonce, some (n, _) => leBytes 32 n
  | _, _ => data

theorem acceptData_of_ne {b : ReqBody} (hb : b ≠ .getReleaseNonce) (u : State) (data : List Nat) :
    acceptData b u data = data := by
  unfold acceptData
  split
  · exact absurd rfl hb
  · rfl

theorem judge_of_accepted {q : Request} {s : State} (h : accepts s q) (hact : actNow q.hdr q.body (admitted q s) = none) :
    arrive q s = noteResult' true q.hdr q.body
      (if answeredLater q.body then reserve q.hdr q.body (admitted q s)
       else respond q.hdr 0 (effectFrame s q.body)
         (acceptData q.body (reserve q.hdr q.body (admitted q s)) (answerData (admitted q s) q.body))
         (reserve q.hdr q.body (admitted q s))) := by
  obtain ⟨hnow, hheader, hown⟩ := h
  have hcheck := commonCheck_of_headerPasses (lt_of_isOpen hnow.2.1) hheader
  have hown' := (ownCheck_admitted q s q.hdr q.body).trans hown
  have heff (t : State) (ht : t.seq = s.seq) : effectFrame t q.body = effectFrame s q.body := by
    simp only [effectFrame, nextEpochFrame, ht]
  rw [arrive_of_now hnow, ← heff (received q s) rfl]
  simp only [judge, received_eq, hcheck, hact, hown']
  rfl

/-! Requests held for the next boundary. -/

/-- The requests that are answered OK in the frame in which they come, and act at the boundary that follows. -/
def heldForBoundary : ReqBody → Bool
  | .lowerMax .. | .setSplit .. | .bindSite _ | .unbindSite _ | .setQuota .. | .releaseTenant | .admitTenant
  | .setLoopSp .. | .clearElement .. | .setSprayInhibit _ | .setValve .. | .clearValve .. | .releaseLoop _ | .rowStop
  | .releaseRow | .releaseFloor _ | .pairSwap | .pairHold _ | .maintStop _ | .releaseHeld | .precisionRun _
  | .setFieldbus .. => true
  | _ => false

/-- The state that holds an accepted request for the boundary. -/
def withAccepted (q : Request) (t : State) : State := setMgmt (fun x => { x with accepted := x.accepted ++ [q] }) t

theorem tenantSec_withAccepted (q : Request) (t : State) (k : Nat) :
    tenantSec (withAccepted q t) k = tenantSec t k := rfl

section
variable {b : ReqBody} (hb : heldForBoundary b = true)
include hb

theorem actNow_of_held (h : ReqHdr) (u : State) : actNow h b u = none := by
  cases b <;> simp [heldForBoundary, actNow] at hb ⊢

theorem reserve_of_held (h : ReqHdr) (u : State) : reserve h b u = withAccepted ⟨h, b⟩ u := by
  cases b <;> simp [heldForBoundary, reserve, withAccepted] at hb ⊢

theorem answerData_of_held (u : State) : answerData u b = [] := by
  cases b <;> simp [heldForBoundary, answerData] at hb ⊢

theorem effectFrame_of_held (s : State) : effectFrame s b = s.seq.frame + 1 := by
  cases b <;> simp [heldForBoundary, effectFrame] at hb ⊢

theorem answeredLater_of_held : answeredLater b = false := by
  cases b <;> simp [heldForBoundary, answeredLater] at hb ⊢

theorem ne_getReleaseNonce_of_held : b ≠ .getReleaseNonce := by
  rintro rfl
  cases hb

end

theorem arrive_of_held {q : Request} {s : State} (h : accepts s q) (hb : heldForBoundary q.body = true) :
    arrive q s = noteResult' true q.hdr q.body
      (respond q.hdr 0 (s.seq.frame + 1) [] (withAccepted q (admitted q s))) := by
  rw [judge_of_accepted h (actNow_of_held hb _ _), reserve_of_held hb, answerData_of_held hb, effectFrame_of_held hb,
    answeredLater_of_held hb, acceptData_of_ne (ne_getReleaseNonce_of_held hb)]
  rfl

/-- The nonce of a request that passes is its tenant's last. -/
theorem lastNonce_admitted {q : Request} {s : State} (hauth : q.hdr.tenantAuth = true)
    (ht : q.hdr.tenant < s.sec.tenants.length) : (tenantSec (admitted q s) q.hdr.tenant).lastNonce = q.hdr.nonce := by
  have hget : tenantSec (admitted q s) q.hdr.tenant =
      { tenantSec s q.hdr.tenant with lastNonce := q.hdr.nonce } := by
    rw [admitted_eq, if_pos hauth]
    exact getD_upd_self _ _ _ _ ht
  rw [hget]

theorem acceptedForBoundary_of_held {q : Request} {s : State} (h : accepts s q) (hb : heldForBoundary q.body = true) :
    acceptedForBoundary s q (.next (arrive q s)) := by
  have hjudging : Judging q s (withAccepted q (admitted q s)) := by
    obtain ⟨hsess, htaken, hwaiting, hsent, hseq⟩ := judging_admitted q s
    exact ⟨hsess, htaken, hwaiting, hsent, hseq⟩
  rw [arrive_of_held h hb, hjudging.respond_eq h.1]
  obtain ⟨c, hnote⟩ := noteResult'_eq true q.hdr q.body
    (answeredOn q.hdr 0 (s.seq.frame + 1) [] (withAccepted q (admitted q s)))
  obtain ⟨l, hans⟩ := answeredOn_eq q.hdr 0 (s.seq.frame + 1) [] (withAccepted q (admitted q s))
  refine ⟨_, rfl, hjudging.answered h.1 _ _ _ _, ?_, fun hauth ht => ?_, fun i hi => hjudging.session_ne hi _ _ _ _, ?_⟩
  · rw [hnote, hans]
    simp only [withAccepted, setMgmt, admitted, received]
  · rw [lastNonce_noteResult', tenantSec_answeredOn, tenantSec_withAccepted]
    exact lastNonce_admitted hauth ht
  · rw [hnote, hans]
    simp only [withAccepted, setMgmt, admitted, received]

/-- Settles O49: a request that passes leaves its answer, its nonce and its place among the accepted. -/
theorem requestsAcceptedForTheNextBoundary : Obligations.RequestsAcceptedForTheNextBoundary := by
  intro s h
  refine ⟨?_, ?_, ?_, ?_, ?_, ?_, ?_, ?_, ?_, ?_, ?_, ?_, ?_, ?_, ?_, ?_, ?_, ?_, ?_, ?_, ?_, ?_⟩
  all_goals intros; exact acceptedForBoundary_of_held (by assumption) rfl

end Sys2Proof.Machine
end

section
/-! SUPPORT. Refused requests (R538, R540, R582, R583, R598): what the failure of a check leaves as it was, the first check
that fails, and requests that wait or find the queue full; settles O51. -/

namespace Sys2Proof.Machine

/-! What a refusal changes before its answer. -/

/-- A state in which the refusal of a request is being recorded: the request still has the only place on its session, and
only management, the security block, the counts of heat, maintenance and leak, and the log have changed. -/
def Refusing (q : Request) (s u : State) : Prop :=
  ∃ m c h a k l, u = { s with mgmt := m, sec := c, heat := h, maint := a, leak := k, log := l } ∧
    (m.sessions.getD q.hdr.session {}).outbox = [{ msgId := q.hdr.msgId }] ∧ m.taken = s.mgmt.taken + 1 ∧
    m.accepted = s.mgmt.accepted ∧ h.pages = s.heat.pages ∧ h.sites = s.heat.sites ∧ k.loops = s.leak.loops

section
variable {q : Request} {s u : State}

theorem outbox_received (hnow : arrivesNow s q.hdr.session) :
    (session (received q s) q.hdr.session).outbox = [{ msgId := q.hdr.msgId }] := by
  obtain ⟨-, hopen, hout, -⟩ := hnow
  rw [session_received_self (lt_of_isOpen hopen)]
  simp [carried, hout]

theorem refusing_received (hnow : arrivesNow s q.hdr.session) : Refusing q s (received q s) :=
  ⟨_, _, _, _, _, _, rfl, outbox_received hnow, rfl, rfl, rfl, rfl, rfl⟩

theorem refusing_admitted (hnow : arrivesNow s q.hdr.session) : Refusing q s (admitted q s) :=
  ⟨_, _, _, _, _, _, rfl, outbox_received hnow, rfl, rfl, rfl, rfl, rfl⟩

section
variable (h : Refusing q s u)
include h

theorem Refusing.post (code index sub : Nat) (detail : List Nat) :
    Refusing q s (Machine.post code u index sub detail) := by
  obtain ⟨m, c, h, a, k, l, rfl, hkeeps⟩ := h
  exact ⟨m, c, h, a, k, _, rfl, hkeeps⟩

theorem Refusing.postEvery (gap code index : Nat) : Refusing q s (Machine.postEvery gap code u index) := by
  unfold Machine.postEvery
  split
  · exact h
  · obtain ⟨m, c, h, a, k, l, rfl, hkeeps⟩ := h
    exact ⟨m, c, h, a, k, _, rfl, hkeeps⟩

theorem Refusing.secCount (k : Nat) : Refusing q s (Machine.secCount k u) := by
  obtain ⟨m, c, h, a, k, l, rfl, hkeeps⟩ := h
  exact ⟨m, _, h, a, k, l, rfl, hkeeps⟩

theorem Refusing.updSecTenant (t : Nat) (f : TenantSec → TenantSec) : Refusing q s (Machine.updSecTenant t f u) := by
  obtain ⟨m, c, h, a, k, l, rfl, hkeeps⟩ := h
  exact ⟨m, _, h, a, k, l, rfl, hkeeps⟩

theorem Refusing.updTenant (t : Nat) (f : TenantSt → TenantSt) : Refusing q s (Machine.updTenant t f u) := by
  obtain ⟨m, c, h, a, k, l, rfl, hkeeps⟩ := h
  exact ⟨m, c, _, a, k, l, rfl, hkeeps⟩

theorem Refusing.heatCount (i n : Nat) : Refusing q s (Machine.heatCount i n u) := by
  obtain ⟨m, c, h, a, k, l, rfl, hkeeps⟩ := h
  exact ⟨m, c, _, a, k, l, rfl, hkeeps⟩

theorem Refusing.maintCount (i : Nat) : Refusing q s (Machine.maintCount i u) := by
  obtain ⟨m, c, h, a, k, l, rfl, hkeeps⟩ := h
  exact ⟨m, c, h, _, k, l, rfl, hkeeps⟩

theorem Refusing.leakCount (i : Nat) : Refusing q s (Machine.leakCount i u) := by
  obtain ⟨m, c, h, a, k, l, rfl, hkeeps⟩ := h
  exact ⟨m, c, h, a, _, l, rfl, hkeeps⟩

theorem Refusing.updSession (i : Nat) {f : Session → Session} (hf : ∀ x, (f x).outbox = x.outbox) :
    Refusing q s (Machine.updSession i f u) := by
  obtain ⟨m, c, h, a, k, l, rfl, hout, hkeeps⟩ := h
  refine ⟨_, c, h, a, k, l, rfl, ?_, hkeeps⟩
  rw [← hout, getD_upd]
  split
  · exact hf _
  · rfl

theorem Refusing.countFailure (k code : Nat) (f : TenantSec → TenantSec) (hdr : ReqHdr) (b : ReqBody) :
    Refusing q s (Machine.countFailure k code f hdr b u) := by
  unfold Machine.countFailure
  split
  · exact ((h.secCount k).updSecTenant _ f).postEvery _ _ _
  · refine ((h.secCount k).updSession hdr.session (fun x => ?_)).postEvery _ _ _
    rfl

theorem Refusing.countTagFail (i : Nat) : Refusing q s (Machine.countTagFail i u) := by
  unfold Machine.countTagFail
  extract_lets fails
  split
  · exact ((h.updSession i fun _ => by rfl).secCount 6).post _ _ _ _
  · exact h.updSession i fun _ => by rfl

theorem Refusing.noteStale (t : Nat) : Refusing q s (Machine.noteStale t u) :=
  ((h.updTenant t _).heatCount 13 1).postEvery _ _ _

theorem Refusing.commonCheck (role : SessRole) (hdr : ReqHdr) (b : ReqBody) :
    Refusing q s (Machine.commonCheck role hdr b u).2 := by
  have hite {c : Prop} [Decidable c] {x y : Nat × State} (hx : Refusing q s x.2) (hy : Refusing q s y.2) :
      Refusing q s (if c then x else y).2 := by
    split
    · exact hx
    · exact hy
  refine hite (h.countFailure _ _ _ _ _) (hite h (hite h (hite h (hite (h.noteStale _) (hite
    ((h.countFailure _ _ _ _ _).countTagFail _) (hite (h.countFailure _ _ _ _ _) (hite (h.countFailure _ _ _ _ _)
      (hite (h.countFailure _ _ _ _ _) ?_))))))))
  dsimp only
  split
  · exact h.updSecTenant _ _
  · exact h

theorem Refusing.ownRefused (r : Nat) (hdr : ReqHdr) (b : ReqBody) : Refusing q s (Machine.ownRefused r hdr b u) := by
  unfold Machine.ownRefused
  split
  · split
    · exact h.post _ _ _ _
    · exact h
  · exact (h.leakCount 9).post _ _ _ _
  · exact (h.maintCount _).post _ _ _ _
  · split
    · exact h.post _ _ _ _
    · split
      · exact h.post _ _ _ _
      · split
        · exact h.post _ _ _ _
        · exact h
  · split
    · exact h.post _ _ _ _
    · exact h
  · exact h

/-- The answer completes the refusal. -/
theorem Refusing.refusedWith (code : Nat) :
    refusedWith s q code (.next (noteResult' false q.hdr q.body (respond q.hdr code 0 [] u))) := by
  obtain ⟨m, c, h, a, k, l, rfl, hout, htaken, hacc, hpages, hsites, hloops⟩ := h
  rw [respond_of_outbox (h := q.hdr)
    (t := { s with mgmt := m, sec := c, heat := h, maint := a, leak := k, log := l }) hout]
  obtain ⟨d, hnote⟩ := noteResult'_eq false q.hdr q.body
    (answeredOn q.hdr code 0 [] { s with mgmt := m, sec := c, heat := h, maint := a, leak := k, log := l })
  rw [hnote]
  exact ⟨_, rfl, rfl, htaken, hacc, rfl, rfl, hpages, hsites, hloops, rfl⟩

end

/-! The check that fails first. -/

theorem arrive_of_header_failure {code : Nat} (hnow : arrivesNow s q.hdr.session) (hcode : code ≠ 0)
    (hcheck : (commonCheck (session s q.hdr.session).role q.hdr q.body s).1 = code) :
    refusedWith s q code (.next (arrive q s)) := by
  have hrec := (commonCheck_received_code (lt_of_isOpen hnow.2.1) _).trans hcheck
  have harrive : arrive q s = noteResult' false q.hdr q.body
      (respond q.hdr code 0 [] (commonCheck (session s q.hdr.session).role q.hdr q.body (received q s)).2) := by
    rw [arrive_of_now hnow]
    simp only [judge, received_eq, hrec]
    rw [if_pos hcode]
  rw [harrive]
  exact ((refusing_received hnow).commonCheck _ _ _).refusedWith code

/-- A request that acts at once has no check of its own but its length. -/
theorem actNow_of_ownCheck_ne {t : State} {h : ReqHdr} {b : ReqBody} (hown : ownCheck t h b ≠ 0) (v : State) :
    actNow h b v = none := by
  cases b <;> simp [ownCheck, actNow] at hown ⊢ <;> simp [hown]

theorem arrive_of_own_failure (hnow : arrivesNow s q.hdr.session) (hheader : headerPasses s q.hdr q.body)
    (hown : ownCheck s q.hdr q.body ≠ 0) : refusedWith s q (ownCheck s q.hdr q.body) (.next (arrive q s)) := by
  have hcheck := commonCheck_of_headerPasses (lt_of_isOpen hnow.2.1) hheader
  have harrive : arrive q s = noteResult' false q.hdr q.body (respond q.hdr (ownCheck s q.hdr q.body) 0 []
      (ownRefused (ownCheck s q.hdr q.body) q.hdr q.body (admitted q s))) := by
    rw [arrive_of_now hnow]
    simp only [judge, received_eq, hcheck, actNow_of_ownCheck_ne hown, ownCheck_admitted]
    rw [if_neg (by simp), if_pos hown]
  rw [harrive]
  exact ((refusing_admitted hnow).ownRefused _ _ _).refusedWith _

end

section
variable {c : Prop} [Decidable c] {n : Nat} {u : State} {r : Nat × State}

theorem code_ite_of (hc : c) : (if c then (n, u) else r).1 = n := by rw [if_pos hc]

end

theorem tenantAuth_of_tenantKeyed {role : SessRole} {h : ReqHdr} {b : ReqBody} (hkey : tenantKeyed b = true)
    (hrole : mayRequest role h b = true) : h.tenantAuth = true := by
  cases b <;> simp [tenantKeyed, mayRequest, enrolKind] at hkey hrole ⊢ <;> exact hrole.1

section
variable {s : State} {h : ReqHdr} {b : ReqBody}

theorem code_of_no_permission (hrole : mayRequest (session s h.session).role h b = false) (hb : b ≠ .releaseHeld) :
    (commonCheck (session s h.session).role h b s).1 = 9 :=
  code_ite_of (by simp [hrole, hb])

section
variable (hrole : mayRequest (session s h.session).role h b = true)
include hrole

theorem code_of_no_control (hkind : tenantKeyed b = true ∨ facilityKind b = true ∧ servedByStandby b = false)
    (hcontrol : s.pow.plantControl = false) : (commonCheck (session s h.session).role h b s).1 = 2 :=
  code_ite_of_not (by simp [hrole]) (code_ite_of (by simpa [hcontrol] using hkind))

section
variable (hkey : tenantKeyed b = true) (hcontrol : s.pow.plantControl = true)
include hkey hcontrol

theorem code_of_lockout (hlock : (session s h.session).lockout ≠ none) :
    (commonCheck (session s h.session).role h b s).1 = 10 :=
  code_ite_of_not (by simp [hrole]) (code_ite_of_not (by simp [hcontrol])
    (code_ite_of (by simpa [tenantAuth_of_tenantKeyed hkey hrole, Option.isSome_iff_ne_none] using hlock)))

variable (hlock : (session s h.session).lockout = none)
include hlock

theorem code_of_no_slot (hslot : 256 ≤ h.tenant ∨ (tenantCfg s h.tenant).present = false) :
    (commonCheck (session s h.session).role h b s).1 = 3 :=
  code_ite_of_not (by simp [hrole]) (code_ite_of_not (by simp [hcontrol]) (code_ite_of_not (by simp [hlock])
    (code_ite_of (by simpa [namesTenant, hkey] using hslot))))

variable (hslot : h.tenant < 256) (hpresent : (tenantCfg s h.tenant).present = true)
include hslot hpresent

theorem code_of_stale (hgen : h.tgen ≠ (tenantSt s h.tenant).gen) :
    (commonCheck (session s h.session).role h b s).1 = 1 :=
  code_ite_of_not (by simp [hrole]) (code_ite_of_not (by simp [hcontrol]) (code_ite_of_not (by simp [hlock])
    (code_ite_of_not (by simp [hpresent, hslot]) (code_ite_of (by simpa [namesTenant, hkey] using hgen)))))

variable (hgen : h.tgen = (tenantSt s h.tenant).gen)
include hgen

theorem code_of_bad_tag (htag : h.tagOk = false) : (commonCheck (session s h.session).role h b s).1 = 10 :=
  code_ite_of_not (by simp [hrole]) (code_ite_of_not (by simp [hcontrol]) (code_ite_of_not (by simp [hlock])
    (code_ite_of_not (by simp [hpresent, hslot]) (code_ite_of_not (by simp [hgen])
    (code_ite_of (by simp [htag, tenantAuth_of_tenantKeyed hkey hrole]))))))

variable (htag : h.tagOk = true)
include htag

theorem code_of_no_wall (hwall : wallValid s = false) : (commonCheck (session s h.session).role h b s).1 = 11 :=
  code_ite_of_not (by simp [hrole]) (code_ite_of_not (by simp [hcontrol]) (code_ite_of_not (by simp [hlock])
    (code_ite_of_not (by simp [hpresent, hslot]) (code_ite_of_not (by simp [hgen]) (code_ite_of_not (by simp [htag])
    (code_ite_of (by simp [hwall, tenantAuth_of_tenantKeyed hkey hrole])))))))

variable (hwall : wallValid s = true)
include hwall

theorem code_of_old (hage : issuedInTime s h = false) : (commonCheck (session s h.session).role h b s).1 = 12 :=
  code_ite_of_not (by simp [hrole]) (code_ite_of_not (by simp [hcontrol]) (code_ite_of_not (by simp [hlock])
    (code_ite_of_not (by simp [hpresent, hslot]) (code_ite_of_not (by simp [hgen]) (code_ite_of_not (by simp [htag])
    (code_ite_of_not (by simp [hwall])
    (code_ite_of (by simp [hage, tenantAuth_of_tenantKeyed hkey hrole]))))))))

theorem code_of_replay (hage : issuedInTime s h = true) (hnonce : h.nonce ≤ (tenantSec s h.tenant).lastNonce) :
    (commonCheck (session s h.session).role h b s).1 = 13 :=
  code_ite_of_not (by simp [hrole]) (code_ite_of_not (by simp [hcontrol]) (code_ite_of_not (by simp [hlock])
    (code_ite_of_not (by simp [hpresent, hslot]) (code_ite_of_not (by simp [hgen]) (code_ite_of_not (by simp [htag])
    (code_ite_of_not (by simp [hwall]) (code_ite_of_not (by simp [hage])
    (code_ite_of (by simp [hnonce, tenantAuth_of_tenantKeyed hkey hrole])))))))))

end
end
end

/-! Requests that wait, and a queue that is full (R582, R583). -/

section
variable {q : Request} {s : State} (hruns : coreRuns s = true) (hopen : (session s q.hdr.session).isOpen = true)
include hruns hopen

theorem arrive_of_wait (hwait : s.mgmt.guardDone = true ∨ 256 ≤ s.mgmt.taken)
    (hroom : (session s q.hdr.session).outbox.length < 64) : arrive q s =
      setMgmt (fun x => { x with waiting := x.waiting ++ [.request q] })
        (await q.hdr.session q.hdr.msgId (carry q.hdr.session (requestBytes q) s)) := by
  have hmust : mustWait s = true := by
    rcases hwait with h | h <;> simp [mustWait, h]
  simp [arrive, onMessage, queueFull, hruns, hopen, hmust, Nat.not_le.mpr hroom]

theorem arrive_of_full (hfull : 64 ≤ (session s q.hdr.session).outbox.length) : arrive q s =
    put q.hdr.session (.message q.hdr.session (errorMsg s q.hdr.msgId 0x85))
      (carry q.hdr.session (requestBytes q) s) := by
  simp [arrive, onMessage, queueFull, hruns, hopen, hfull]

end

/-- Settles O51: the first check that fails gives the code, and its failure leaves all but the counts as it was. -/
theorem requestsRefusedInOrder : Obligations.RequestsRefusedInOrder := by
  refine ⟨fun s h m => rfl, fun s q hnow hrole hb => ?_, fun s q hnow hrole hkind hcontrol => ?_,
    fun s q hnow hkey hrole hcontrol => ⟨fun hlock => ?_, fun hlock => ⟨fun hslot => ?_, fun hslot hpresent =>
      ⟨fun hgen => ?_, fun hgen => ⟨fun htag => ?_, fun htag => ⟨fun hwall => ?_, fun hwall hage => ?_,
        fun hwall hage hnonce => ?_⟩⟩⟩⟩⟩,
    fun s q hnow hheader hown => arrive_of_own_failure hnow hheader hown,
    fun s q hruns hopen hwait hroom => ⟨_, arrive_of_wait hruns hopen hwait hroom, rfl, rfl⟩,
    fun s q hclosed => ?_, fun s h => ?_,
    fun s q hruns hopen hfull => ⟨_, arrive_of_full hruns hopen hfull, rfl, rfl⟩⟩
  · exact arrive_of_header_failure hnow (by decide) (code_of_no_permission hrole hb)
  · exact arrive_of_header_failure hnow (by decide) (code_of_no_control hrole hkind hcontrol)
  · exact arrive_of_header_failure hnow (by decide) (code_of_lockout hrole hkey hcontrol hlock)
  · exact arrive_of_header_failure hnow (by decide) (code_of_no_slot hrole hkey hcontrol hlock hslot)
  · exact arrive_of_header_failure hnow (by decide) (code_of_stale hrole hkey hcontrol hlock hslot hpresent hgen)
  · exact arrive_of_header_failure hnow (by decide)
      (code_of_bad_tag hrole hkey hcontrol hlock hslot hpresent hgen htag)
  · exact arrive_of_header_failure hnow (by decide)
      (code_of_no_wall hrole hkey hcontrol hlock hslot hpresent hgen htag hwall)
  · exact arrive_of_header_failure hnow (by decide)
      (code_of_old hrole hkey hcontrol hlock hslot hpresent hgen htag hwall hage)
  · exact arrive_of_header_failure hnow (by decide)
      (code_of_replay hrole hkey hcontrol hlock hslot hpresent hgen htag hwall hage hnonce)
  · simp [arrive, hclosed]
  · refine ⟨fun h => ?_, fun h => ?_, fun h => ?_, fun h => ?_⟩ <;> simp [issuedInTime, h]

end Sys2Proof.Machine
end

section
/-! SUPPORT. The queue of commands, settling O1, and a client's overrun (R45, R46): what the first and a second report of
it change; settles O3. -/

namespace Sys2Proof.Machine

/-! The queue. -/

theorem step_of_front {s : State} {c : Instr} {rest : List Instr} (h : s.pending = c :: rest) :
    step s = exec c { s with pending := rest } := by
  rw [step, h]

theorem step_of_empty {s : State} (h : s.pending = []) : step s = .next s := by
  rw [step, h]

/-- Settles O1: the queue's front decides the step, and no word encodes a command. -/
theorem stepRunsTheFrontCommand : Obligations.StepRunsTheFrontCommand :=
  ⟨fun _ _ _ h => step_of_front h, fun _ h => step_of_empty h, fun _ _ _ => rfl⟩

/-! Overruns of clients. -/

theorem overrunClient_of_first {s : State} {c : Client} (h : s.seq.overran.contains c = false) :
    overrunClient c s = if s.seq.overPrev.contains c then { s with seq := seqOverrun s.seq c }
      else post 0x1020 { s with seq := seqOverrun s.seq c } c.index := by
  rw [overrunClient, h]
  rfl

theorem overrunClient_of_reported {s : State} {c : Client} (h : s.seq.overran.contains c = true) :
    overrunClient c s = s := if_pos h

theorem execClientOverrun_of_due {s : State} {c : Client} (hop : operating s = true) (hvalid : s.seq.frameValid = true)
    (hphase : s.seq.phase ≤ c.phase.index) (hpower : clientPowered c s = true) :
    execClientOverrun c s = .next (overrunClient c s) := by
  simp [execClientOverrun, phaseDue, hop, hvalid, hphase, hpower]

theorem execClientOverrun_of_reported {s : State} {c : Client} (h : s.seq.overran.contains c = true) :
    execClientOverrun c s = .next s := by
  rw [execClientOverrun, overrunClient_of_reported h, ite_self]

/-- Whether no client of the phase has overrun in the frame so far. -/
theorem any_phase_eq_false {q : Sequencer} {c : Client} (h : ∀ d ∈ q.overran, d.phase ≠ c.phase) :
    (q.overran.any fun d => d.phase == c.phase) = false := by
  simpa using h

theorem seqOverrun_counts_of_first {q : Sequencer} {c : Client} (h : ∀ d ∈ q.overran, d.phase ≠ c.phase) :
    (seqOverrun q c).consec = upd q.consec c.phase.index (fun n => satAdd 8 n 1) ∧
    (seqOverrun q c).phaseOver = upd q.phaseOver c.phase.index cnt := by
  simp [seqOverrun, any_phase_eq_false h]

theorem seqOverrun_counts_of_later {q : Sequencer} {c d : Client} (hd : d ∈ q.overran) (hsame : d.phase = c.phase) :
    (seqOverrun q c).consec = q.consec ∧ (seqOverrun q c).phaseOver = q.phaseOver := by
  have hany : (q.overran.any fun d => d.phase == c.phase) = true :=
    List.any_eq_true.mpr ⟨d, hd, beq_iff_eq.mpr hsame⟩
  simp [seqOverrun, hany]

theorem mem_overran_seqOverrun (q : Sequencer) (c : Client) : c ∈ (seqOverrun q c).overran := List.mem_cons_self

theorem phaseIndex_lt (p : Phase) : p.index < 4 := by
  cases p <;> decide

theorem seqOverrun_engineConsec (q : Sequencer) (c : Client) :
    (seqOverrun q c).engineConsec = q.engineConsec + (if c = .engine then 1 else 0) := by
  by_cases h : c = .engine <;> simp [seqOverrun, h]

/-- Settles O3: the first report of a client in a frame counts it, and the first of a phase counts the phase. -/
theorem clientOverrunCountsOnce : Obligations.ClientOverrunCountsOnce := by
  refine ⟨fun s c hop hvalid hphase hpower hfirst => ⟨_, execClientOverrun_of_due hop hvalid hphase hpower, ?_⟩,
    fun s c h => execClientOverrun_of_reported h, fun q c hfirst hlen hlen' => ?counts,
    fun q c d hsame => seqOverrun_counts_of_later (mem_overran_seqOverrun q c) hsame, seqOverrun_engineConsec⟩
  case counts =>
    obtain ⟨hconsec, hover⟩ := seqOverrun_counts_of_first hfirst
    rw [hconsec, hover, getD_upd_self _ _ _ _ (hlen ▸ phaseIndex_lt c.phase), getD_upd_self _ _ _ _ (hlen' ▸ phaseIndex_lt c.phase)]
    exact ⟨rfl, rfl⟩
  rw [overrunClient_of_first hfirst]
  split
  case isTrue => exact ⟨rfl, rfl, fun _ => rfl⟩
  case isFalse h => exact ⟨rfl, rfl, fun hprev => absurd hprev h⟩

end Sys2Proof.Machine
end

section
/-! SUPPORT. Safe hold and clocks (R47, R53): what the aborts, the stop of the plan and its restart leave as it was, and the
loss and the return of a PLL's lock; settles O4. -/

namespace Sys2Proof.Machine

/-! What the entry of SAFE_HOLD leaves of the sequencer and of the plan. -/

/-- The end of an activity changes only maintenance and the log. -/
theorem endActivity_eq (i : Nat) (st : ActState) (cause : Nat) (s : State) :
    ∃ m l, endActivity i st cause s = { s with maint := m, log := l } := by
  unfold endActivity
  extract_lets a res s0 s1
  split
  · exact ⟨_, _, rfl⟩
  · split <;> exact ⟨_, _, rfl⟩

theorem endActivity_seq_plan (i : Nat) (st : ActState) (cause : Nat) (s : State) :
    (endActivity i st cause s).seq = s.seq ∧ (endActivity i st cause s).plan = s.plan := by
  obtain ⟨m, l, h⟩ := endActivity_eq i st cause s
  rw [h]
  exact ⟨rfl, rfl⟩

theorem abortAll_seq_plan (cause : Nat) (s : State) :
    ((abortAll cause s).seq, (abortAll cause s).plan) = (s.seq, s.plan) := by
  refine foldl_keeps (fun t : State => (t.seq, t.plan)) _ (fun t i => ?_) _ _
  dsimp only
  split
  · obtain ⟨hseq, hplan⟩ := endActivity_seq_plan i .aborted cause t
    rw [hseq, hplan]
  · rfl

theorem cancelAllPromises_seq_plan (s : State) :
    ((cancelAllPromises s).seq, (cancelAllPromises s).plan) = (s.seq, s.plan) := by
  refine foldl_keeps (fun t : State => (t.seq, t.plan)) (fun t k => cancelPromise k t) (fun t k => ?_) _ _
  rfl

theorem stopPlan_seq (s : State) : (stopPlan s).seq = s.seq := by
  unfold stopPlan
  split <;> rfl

theorem stopPlan_plan (s : State) :
    (stopPlan s).plan.state = .stopped ∧ (stopPlan s).plan.inForce = s.plan.inForce := by
  unfold stopPlan
  split
  case isTrue h => exact ⟨h, rfl⟩
  case isFalse => exact ⟨rfl, rfl⟩

/-- What the entry of SAFE_HOLD or HOLD_LOCKED ends once the sequencer has entered it (R47). -/
def heldDown (s : State) : State := abortAll 4 (cancelAllPromises (stopPlan s))

theorem heldDown_seq_plan (s : State) : (heldDown s).seq = s.seq ∧ (heldDown s).plan = (stopPlan s).plan := by
  obtain ⟨hseq, hplan⟩ := Prod.mk.inj (abortAll_seq_plan 4 (cancelAllPromises (stopPlan s)))
  obtain ⟨hseq', hplan'⟩ := Prod.mk.inj (cancelAllPromises_seq_plan (stopPlan s))
  exact ⟨hseq.trans (hseq'.trans (stopPlan_seq s)), hplan.trans hplan'⟩

theorem execSafeHoldEnter_of_due {s : State} (hop : operating s = true) (hvalid : s.seq.frameValid = true)
    (hphase : s.seq.phase = 0) (hstate : s.seq.state = .normal)
    (hdue : s.seq.consec.any (fun n => 16 ≤ n) = true) :
    execSafeHoldEnter s = .next (heldDown (post (if (seqEnterHold s.seq).state = .safeHold then 0x1030 else 0x1032)
      { s with seq := seqEnterHold s.seq })) := by
  have hhold : safeHoldDue s.seq = true := by
    rw [safeHoldDue, hstate, hdue]
    rfl
  rw [execSafeHoldEnter, hop, hvalid, hphase, hhold]
  rfl

theorem execSafeHoldEnter_of_held {s : State} (h : s.seq.state = .holdLocked) : execSafeHoldEnter s = .next s := by
  simp [execSafeHoldEnter, safeHoldDue, h]

theorem seqEnterHold_state_iff (q : Sequencer) : (seqEnterHold q).state = .safeHold ↔
    (q.holdEntries.filter fun f => decide (q.frame - f < 6000000)).length < 3 := by
  simp [seqEnterHold]

theorem seqEnterHold_state_ne_normal (q : Sequencer) : (seqEnterHold q).state ≠ .normal := by
  unfold seqEnterHold
  dsimp only
  split
  · exact nofun
  · exact nofun

/-! The exit. -/

/-- An event says no more of the state than the time and the boot. -/
theorem mkEvent_congr {s t : State} (hstamp : frameStamp t = frameStamp s) (hrow : rowNs t = rowNs s)
    (hepoch : t.wall.epoch = s.wall.epoch) (hboot : t.log.boot = s.log.boot) (code index sub : Nat) (detail : List Nat) :
    mkEvent t code index sub detail = mkEvent s code index sub detail := by
  rw [mkEvent, mkEvent, hstamp, hrow, hepoch, hboot]

/-- The sequencer back in NORMAL, with its event (R47). -/
def backToNormal (s : State) : State :=
  post 0x1031 { s with
    seq := { s.seq with state := .normal, clean := 0 }
    pump := { s.pump with normalFrame := some s.seq.frame } }

theorem mkEvent_backToNormal (s : State) (code index sub : Nat) (detail : List Nat) :
    mkEvent (backToNormal s) code index sub detail = mkEvent s code index sub detail :=
  mkEvent_congr (s := s) (t := backToNormal s) rfl rfl rfl (logPost_boot _ _) _ _ _ _

theorem execSafeHoldExit_of_due {s : State} (hop : operating s = true) (hphase : s.seq.phase = 0)
    (hstate : s.seq.state = .safeHold) (hclean : 10000 ≤ s.seq.clean) :
    execSafeHoldExit s = .next (restartPlan (backToNormal s)) := by
  simp [execSafeHoldExit, backToNormal, hop, hphase, hstate, hclean]

theorem execSafeHoldExit_of_unclean {s : State} (h : s.seq.clean < 10000) : execSafeHoldExit s = .next s := by
  simp [execSafeHoldExit, Nat.not_le.mpr h]

theorem execSafeHoldExit_of_locked {s : State} (h : s.seq.state = .holdLocked) : execSafeHoldExit s = .next s := by
  simp [execSafeHoldExit, h]

theorem restartPlan_of_running {s : State} (h : s.plan.state ≠ .stopped) : restartPlan s = s := if_neg h

theorem restartPlan_of_stopped {s : State} (h : s.plan.state = .stopped) :
    ∃ p, restartPlan s = { s with plan := p, log := logPost s.log (mkEvent s 0x5051 0xFFFF 0xFFFF []) } ∧
      p.state = .wait ∧ p.infeasibleRun = 0 ∧ p.inForce = s.plan.inForce :=
  ⟨_, if_pos h, rfl, rfl, rfl⟩

/-! PLLs. -/

theorem execPllLossOfLock_of_locked {s : State} {p : Pll} (hruns : sequencerRuns s = true)
    (h : s.seq.unlocked.contains p = false) :
    execPllLossOfLock p false s = .next (post 0x1040 { s with seq := { s.seq with unlocked := p :: s.seq.unlocked } }) := by
  simp only [execPllLossOfLock, hruns, pllLoss, h]
  simp

theorem execPllLossOfLock_of_unlocked {s : State} {p : Pll} (h : s.seq.unlocked.contains p = true) :
    execPllLossOfLock p false s = .next s := by
  simp only [execPllLossOfLock, pllLoss, h]
  simp

theorem execPllLossOfLock_fast {s : State} (hruns : sequencerRuns s = true) (h : s.eng.fastLocked = true) :
    execPllLossOfLock .engine true s = .next (post 0x1040 { s with eng := { s.eng with fastLocked := false } }) := by
  simp [execPllLossOfLock, hruns, h]

theorem execPllRelock_slow (p : Pll) (s : State) : execPllRelock p false s = .next (pllRelock p s) := by
  simp [execPllRelock]

theorem pllRelock_unlocked (p : Pll) (s : State) :
    (pllRelock p s).seq = { s.seq with unlocked := s.seq.unlocked.filter (· ≠ p) } := by
  unfold pllRelock
  dsimp only
  split
  · rfl
  · split <;> rfl

theorem mem_unlocked_pllRelock {p q : Pll} {s : State} :
    q ∈ (pllRelock p s).seq.unlocked ↔ q ∈ s.seq.unlocked ∧ q ≠ p := by
  simp [pllRelock_unlocked]

theorem pllRelock_analog (s : State) :
    (pllRelock .analog s).plant = { s.plant with aoOut := s.plant.aoHeld.getD s.plant.aoOut, aoHeld := none } := rfl

theorem pllRelock_can (s : State) :
    (pllRelock .can s).can = { s.can with force := s.can.held.getD s.can.force, held := none } := rfl

theorem pllRelock_plant {p : Pll} (h : p ≠ .analog) (s : State) : (pllRelock p s).plant = s.plant := by
  unfold pllRelock
  dsimp only
  rw [if_neg h]
  split <;> rfl

theorem pllRelock_can_ne {p : Pll} (h : p ≠ .can) (s : State) : (pllRelock p s).can = s.can := by
  unfold pllRelock
  dsimp only
  rw [if_neg h]
  split <;> rfl

/-- A relock changes only the sequencer's list and what the crossings held. -/
theorem pllRelock_eq (p : Pll) (s : State) : pllRelock p s =
    { s with seq := (pllRelock p s).seq, plant := (pllRelock p s).plant, can := (pllRelock p s).can } := by
  cases p <;> rfl

/-- A client whose PLL is out does not run. -/
theorem clientRuns_of_unlocked {s : State} {c : Client} {p : Pll} (hpll : c.pll = some p)
    (hclock : c ≠ .engine ∨ s.eng.clock ≠ 2) (hout : p ∈ s.seq.unlocked) : clientRuns c s = false := by
  have hfast : ¬ (c = .engine ∧ s.eng.clock = 2) := fun ⟨hc, hfast⟩ => hclock.elim (· hc) (· hfast)
  simp [clientRuns, clockRuns, hpll, hfast, hout]

/-- Settles O4: the entry and the exit of SAFE_HOLD by their guards, and the PLLs by their lists. -/
theorem safeHoldAndPllLoss : Obligations.SafeHoldAndPllLoss := by
  refine ⟨fun s hop hvalid hphase hstate hdue => ⟨_, execSafeHoldEnter_of_due hop hvalid hphase hstate hdue, ?enter⟩,
    seqEnterHold_state_iff, fun q => ⟨seqEnterHold_state_ne_normal q, rfl, rfl, rfl⟩,
    fun s hop hphase hstate hclean => ⟨_, execSafeHoldExit_of_due hop hphase hstate hclean, ?exit⟩,
    fun s _ h => execSafeHoldExit_of_unclean h,
    fun s h => ⟨execSafeHoldEnter_of_held h, execSafeHoldExit_of_locked h⟩,
    fun s p hruns h => ⟨_, execPllLossOfLock_of_locked hruns h, rfl, rfl, rfl⟩,
    fun s p h => execPllLossOfLock_of_unlocked h,
    fun s hruns h => ⟨_, execPllLossOfLock_fast hruns h, rfl, rfl, rfl⟩,
    fun s p => ⟨_, execPllRelock_slow p s, fun h => (mem_unlocked_pllRelock.mp h).2 rfl,
      fun q hq => mem_unlocked_pllRelock.trans (and_iff_left hq), fun h => pllRelock_plant h s,
      fun h => pllRelock_can_ne h s, fun h => h ▸ pllRelock_analog s, fun h => h ▸ pllRelock_can s, pllRelock_eq p s⟩,
    fun s => ⟨_, rfl, rfl⟩, fun s c p hpll hclock hout => clientRuns_of_unlocked hpll hclock hout⟩
  case enter =>
    obtain ⟨hstopped, hforce⟩ := stopPlan_plan
      (post (if (seqEnterHold s.seq).state = .safeHold then 0x1030 else 0x1032) { s with seq := seqEnterHold s.seq })
    obtain ⟨hseq, hplan⟩ := heldDown_seq_plan
      (post (if (seqEnterHold s.seq).state = .safeHold then 0x1030 else 0x1032) { s with seq := seqEnterHold s.seq })
    rw [hseq, hplan, hforce]
    exact ⟨rfl, hstopped, rfl, rfl⟩
  case exit =>
    rcases Decidable.em (s.plan.state = .stopped) with hplan | hplan
    · obtain ⟨p, hp, hwait, hrun, hforce⟩ := restartPlan_of_stopped (s := backToNormal s) hplan
      rw [hp, mkEvent_backToNormal]
      exact ⟨rfl, rfl, rfl, rfl, fun h => absurd hplan h, fun _ => ⟨hwait, hrun, hforce, rfl⟩⟩
    · rw [restartPlan_of_running (s := backToNormal s) hplan]
      exact ⟨rfl, rfl, rfl, rfl, fun _ => ⟨rfl, rfl⟩, fun h => absurd h hplan⟩

end Sys2Proof.Machine
end

section
/-! SUPPORT. The servo of wall time (R59 to R62, R64, R65): what a Sync leaves of the record, how the servo takes small and
large offsets, and the Delay_Req with its answer; settles O5. -/

namespace Sys2Proof.Machine

/-! The servo's own fields. -/

/-- A Sync changes the servo's fields of the record and no other. -/
theorem wallSync_eq (n f : Nat) (off : Int) (w : Wall) : wallSync n f off w = { w with
    syncCount := cnt w.syncCount, offsetNs := off
    lockRun := (wallSync n f off w).lockRun, bigRun := (wallSync n f off w).bigRun
    freqPart := (wallSync n f off w).freqPart, phasePart := (wallSync n f off w).phasePart
    rate := (wallSync n f off w).rate, limitSince := (wallSync n f off w).limitSince
    ptpLocked := (wallSync n f off w).ptpLocked, step := (wallSync n f off w).step
    degraded := (wallSync n f off w).degraded } := by
  unfold wallSync
  extract_lets w0 w1 w2 w3 w4 w5 run
  have h4 : w4 = { w3 with ptpLocked := w4.ptpLocked } := by
    dsimp only [w4]
    split <;> rfl
  have h5 : w5 = { w4 with step := w5.step } := by
    dsimp only [w5]
    split <;> rfl
  split
  · rfl
  · split
    · rw [h5, h4]
      split <;> rfl
    · split <;> rfl

theorem wallSync_of_arb {n f : Nat} {off : Int} {w : Wall} (h : w.arb = true) :
    wallSync n f off w = { w with syncCount := cnt w.syncCount, offsetNs := off } := if_pos h

theorem natAbs_stepLimit : stepLimit.natAbs = 50000000 := rfl

theorem wallSync_of_small {n f : Nat} {off : Int} {w : Wall} (harb : w.arb = false) (hsmall : off.natAbs ≤ 50000000) :
    (wallSync n f off w).rate = clampI (-rateLimit) rateLimit (Config.servoFreq n + Config.servoPhase n) ∧
    (wallSync n f off w).bigRun = 0 := by
  simp only [wallSync, harb, natAbs_stepLimit, hsmall, if_true, apply_ite Wall.rate, apply_ite Wall.bigRun, ite_self]
  exact ⟨rfl, rfl⟩

theorem wallSync_of_large {n f : Nat} {off : Int} {w : Wall} (harb : w.arb = false) (hlarge : 50000000 < off.natAbs) :
    wallSync n f off w = if 8 ≤ w.bigRun + 1
      then { w with syncCount := cnt w.syncCount, offsetNs := off, bigRun := 0, lockRun := 0, step := some off }
      else { w with syncCount := cnt w.syncCount, offsetNs := off, bigRun := w.bigRun + 1, lockRun := 0 } := by
  simp only [wallSync, harb, natAbs_stepLimit, Nat.not_le.mpr hlarge, if_false, Bool.false_eq_true]

theorem clampI_bounds {lo hi x : Int} (h : lo ≤ hi) : lo ≤ clampI lo hi x ∧ clampI lo hi x ≤ hi := by
  rw [clampI]
  omega

/-! SYNC_RECEIVED. -/

theorem fromMaster_of_source {s : State} {m : Announce} (h : s.wall.master = some m) :
    fromMaster s s.wall.activePort m.source = true := by
  simp [fromMaster, h]

/-- The state after the servo has taken a Sync of the master in use. -/
def synced (origin corr rx log : Int) (s : State) : State :=
  let w := wallSync s.free s.seq.frame (syncOffset s.wall origin corr rx)
    { s.wall with holdover := false, syncOrigin := origin + corr, syncRx := rx, syncLog := log }
  { s with
    wall := { w with stepAt := if w.step = s.wall.step then s.wall.stepAt else s.seq.rowT }
    free := s.free + 1 }

/-- What the servo leaves as the Sync gave it, and what it does not touch. -/
theorem synced_wall (origin corr rx log : Int) (s : State) :
    (synced origin corr rx log s).wall.offsetNs = syncOffset s.wall origin corr rx ∧
    (synced origin corr rx log s).wall.holdover = false ∧
    (synced origin corr rx log s).wall.syncCount = cnt s.wall.syncCount ∧
    (synced origin corr rx log s).wall.offset = s.wall.offset ∧
    (synced origin corr rx log s).wall.epoch = s.wall.epoch ∧
    (synced origin corr rx log s).wall.syncOrigin = origin + corr ∧ (synced origin corr rx log s).wall.syncRx = rx ∧
    (synced origin corr rx log s).wall.delayOpen = s.wall.delayOpen ∧
    (synced origin corr rx log s).wall.delaySeq = s.wall.delaySeq ∧
    (synced origin corr rx log s).wall.activePort = s.wall.activePort := by
  unfold synced
  dsimp only
  rw [wallSync_eq]
  exact ⟨rfl, rfl, rfl, rfl, rfl, rfl, rfl, rfl, rfl, rfl⟩

/-- The same, with the event that ends holdover (R65). -/
def syncLogged (origin corr rx log : Int) (s : State) : State :=
  if s.wall.holdover then post 0x1003 (synced origin corr rx log s) else synced origin corr rx log s

theorem mkEvent_synced (origin corr rx log : Int) (s : State) (code index sub : Nat) (detail : List Nat) :
    mkEvent (synced origin corr rx log s) code index sub detail = mkEvent s code index sub detail := by
  obtain ⟨-, -, -, -, hepoch, -⟩ := synced_wall origin corr rx log s
  exact mkEvent_congr (s := s) (t := synced origin corr rx log s) rfl rfl hepoch rfl _ _ _ _

/-- Only the log tells whether a Sync ended holdover. -/
theorem syncLogged_eq (origin corr rx log : Int) (s : State) : syncLogged origin corr rx log s =
    { synced origin corr rx log s with
      log := if s.wall.holdover then logPost s.log (mkEvent s 0x1003 0xFFFF 0xFFFF []) else s.log } := by
  unfold syncLogged
  split
  · rw [post, mkEvent_synced]
    rfl
  · rfl

theorem syncLogged_wall (origin corr rx log : Int) (s : State) :
    (syncLogged origin corr rx log s).wall = (synced origin corr rx log s).wall := by
  unfold syncLogged
  split <;> rfl

theorem execSyncReceived_of_master {s : State} {port domain source : Nat} {origin corr rx log : Int}
    (hruns : sequencerRuns s = true) (hdom : domain = s.img.topology.ptpDomain) (hlo : -7 ≤ log) (hhi : log ≤ 0)
    (hfrom : fromMaster s port source = true) :
    execSyncReceived port ⟨domain, source⟩ origin corr rx log s = .next (sendDelayReq (syncLogged origin corr rx log s)) := by
  have hlo' : ¬ log < -7 := Int.not_lt.mpr hlo
  have hhi' : ¬ 0 < log := Int.not_lt.mpr hhi
  simp [execSyncReceived, hruns, hdom, hlo', hhi', hfrom, syncLogged, synced]

theorem execSyncReceived_of_unsupported {s : State} {port domain source : Nat} {origin corr rx log : Int}
    (hruns : sequencerRuns s = true) (h : domain ≠ s.img.topology.ptpDomain ∨ log < -7 ∨ 0 < log) :
    execSyncReceived port ⟨domain, source⟩ origin corr rx log s = .next (ptpIgnore s) := by
  simp [execSyncReceived, hruns, h]

theorem execSyncReceived_of_other {s : State} {port source : Nat} {origin corr rx log : Int}
    (hruns : sequencerRuns s = true) (hlo : -7 ≤ log) (hhi : log ≤ 0) (hfrom : fromMaster s port source = false) :
    execSyncReceived port ⟨s.img.topology.ptpDomain, source⟩ origin corr rx log s = .next s := by
  have hlo' : ¬ log < -7 := Int.not_lt.mpr hlo
  have hhi' : ¬ 0 < log := Int.not_lt.mpr hhi
  simp [execSyncReceived, hruns, hlo', hhi', hfrom]

/-! The Delay_Req and its answer (R61). -/

theorem sendDelayReq_of_open {s : State} (h : s.wall.delayOpen = true) : sendDelayReq s = s := if_pos h

theorem sendDelayReq_of_none {s : State} (h : s.wall.delayOpen = false) : sendDelayReq s =
    { s with
      wall := { s.wall with delaySeq := (s.wall.delaySeq + 1) % 65536, delayOpen := true }
      sent := .ptpDelayReq s.wall.activePort s.img.topology.ptpDomain ((s.wall.delaySeq + 1) % 65536) :: s.sent } := by
  rw [sendDelayReq, h]
  rfl

theorem delayAnswers_of_match {s : State} {r : DelayResp} {m : Announce} (hmaster : s.wall.master = some m)
    (hport : r.port = s.wall.activePort) (hsource : r.source = m.source) (hours : r.ours = true)
    (hopen : s.wall.delayOpen = true) (hseq : r.seq = s.wall.delaySeq) : delayAnswers s r = true := by
  simp [delayAnswers, hours, hopen, hseq, hport, hsource, fromMaster_of_source hmaster]

theorem execDelayRespReceived_of_answer {s : State} {r : DelayResp} (hruns : sequencerRuns s = true)
    (hdom : r.domain = s.img.topology.ptpDomain) (h : delayAnswers s r = true) :
    execDelayRespReceived r.toDelayHead r.txRow r.rxMaster s = .next { s with wall := { s.wall with
      delayOpen := false
      pathDelay := ((s.wall.syncRx + s.wall.offset - s.wall.syncOrigin) +
        (r.rxMaster - r.correction - (r.txRow + s.wall.offset))) / 2 } } := by
  simp [execDelayRespReceived, hruns, hdom, h]

theorem execDelayRespReceived_of_other {s : State} {r : DelayResp} (hdom : r.domain = s.img.topology.ptpDomain)
    (h : delayAnswers s r = false) : execDelayRespReceived r.toDelayHead r.txRow r.rxMaster s = .next s := by
  simp [execDelayRespReceived, hdom, h]

/-- Settles O5: a Sync acts through the servo's fields alone, and the Delay_Req through its own. -/
theorem syncOffsetsSlewOrStep : Obligations.SyncOffsetsSlewOrStep := by
  refine ⟨fun s m origin corr rx log hruns hlo hhi hmaster =>
      ⟨_, execSyncReceived_of_master hruns rfl hlo hhi (fromMaster_of_source hmaster), ?sync⟩,
    fun n f off w harb hsmall => ?small, fun n f off w harb hlarge => ?large,
    fun n f off w harb => by rw [wallSync_of_arb harb],
    fun s port domain source origin corr rx log hruns h => execSyncReceived_of_unsupported hruns h,
    fun s port source origin corr rx log hruns hlo hhi h => execSyncReceived_of_other hruns hlo hhi h,
    fun s hruns => congrArg Host.Outcome.next (if_pos hruns),
    fun s r m hruns hmaster hdom hport hsource hours hopen hseq => execDelayRespReceived_of_answer hruns hdom
      (delayAnswers_of_match hmaster hport hsource hours hopen hseq),
    fun s r hdom h => execDelayRespReceived_of_other hdom h⟩
  case small =>
    obtain ⟨hrate, hrun⟩ := wallSync_of_small (n := n) (f := f) harb hsmall
    obtain ⟨hlo, hhi⟩ := clampI_bounds (x := Config.servoFreq n + Config.servoPhase n)
      (show -rateLimit ≤ rateLimit by decide)
    rw [hrate]
    exact ⟨hlo, hhi, hrun⟩
  case large =>
    rw [wallSync_of_large harb hlarge]
    split
    case isTrue h => exact ⟨rfl, fun hlt => absurd h (Nat.not_le.mpr hlt), fun _ => rfl⟩
    case isFalse h => exact ⟨rfl, fun _ => ⟨rfl, rfl⟩, fun hge => absurd hge h⟩
  case sync =>
    obtain ⟨hoff, hhold, hcount, hoffset, hepoch, horigin, hrx, hopen, hseq, hport⟩ := synced_wall origin corr rx log s
    rw [← syncLogged_wall] at hopen
    have hcopied : (s.wall.holdover = false → (syncLogged origin corr rx log s).log = s.log) ∧ (s.wall.holdover = true →
        (syncLogged origin corr rx log s).log = logPost s.log (mkEvent s 0x1003 0xFFFF 0xFFFF [])) := by
      rw [syncLogged_eq]
      exact ⟨fun h => if_neg (by rw [h]; exact Bool.false_ne_true), fun h => if_pos h⟩
    rcases hdelay : s.wall.delayOpen with _ | _
    · rw [sendDelayReq_of_none (hopen.trans hdelay)]
      rw [syncLogged_eq] at hcopied ⊢
      exact ⟨hoff, hhold, hcount, hoffset, hepoch, horigin, hrx, rfl, rfl, rfl, rfl, nofun, fun _ => ⟨by
        dsimp only
        rw [hseq, hport]
        rfl, congrArg (fun n => (n + 1) % 65536) hseq⟩, hcopied⟩
    · rw [sendDelayReq_of_open (hopen.trans hdelay)]
      rw [syncLogged_eq] at hcopied ⊢
      exact ⟨hoff, hhold, hcount, hoffset, hepoch, horigin, hrx, rfl, rfl, rfl, by rwa [syncLogged_eq, hdelay] at hopen,
        fun _ => ⟨rfl, hseq⟩, nofun, hcopied⟩

end Sys2Proof.Machine
end

section
/-! SUPPORT. Time epochs, the schedule's upkeep and the plan epoch boundary (R57, R70 to R72, R30, R178): what rewriting an
entry leaves of the others and of the clocks, and what the parts of a boundary leave of mode and limits; settles O7. -/

namespace Sys2Proof.Machine

/-! Rewriting an entry (R70): what `reconvert` leaves as it was. -/

/-- What no operation of the schedule touches: wall time, the sequencer and the time of the last conversion. -/
def clocks (s : State) : Wall × Sequencer × Nat := (s.wall, s.seq, s.sched.lastConv)

/-- Of the table at most entry `i` differs, and the clocks agree. -/
def OnlyEntry (i : Nat) (s u : State) : Prop :=
  clocks u = clocks s ∧ ∀ j, i ≠ j → u.sched.table[j]? = s.sched.table[j]?

theorem OnlyEntry.refl (i : Nat) (s : State) : OnlyEntry i s s := ⟨rfl, fun _ _ => rfl⟩

theorem OnlyEntry.trans {i : Nat} {s u t : State} (h : OnlyEntry i s u) (h' : OnlyEntry i u t) : OnlyEntry i s t :=
  ⟨h'.1.trans h.1, fun j hj => (h'.2 j hj).trans (h.2 j hj)⟩

theorem OnlyEntry.of_table_eq {i : Nat} {s u : State} (hclocks : clocks u = clocks s)
    (htable : u.sched.table = s.sched.table) : OnlyEntry i s u :=
  ⟨hclocks, fun _ _ => by rw [htable]⟩

/-- An update of entry `i`, as the schedule's operations make it. -/
theorem onlyEntry_upd {i : Nat} {s u : State} {f : SchedEntry → SchedEntry} (hclocks : clocks u = clocks s)
    (htable : u.sched.table = upd s.sched.table i f) : OnlyEntry i s u :=
  ⟨hclocks, fun j hj => by rw [htable, getElem?_upd_ne _ _ _ _ hj]⟩

section
variable (i : Nat) (s : State)

theorem onlyEntry_commitImage (j k : Nat) : OnlyEntry i s (commitImage j k s) := by
  unfold commitImage
  split
  · exact .refl i s
  · extract_lets e
    split
    · exact .of_table_eq rfl rfl
    · split
      · exact .of_table_eq rfl rfl
      · split <;> exact .of_table_eq rfl rfl

theorem onlyEntry_nextOccurrence (e : SchedEntry) : OnlyEntry i s (nextOccurrence e s) := by
  unfold nextOccurrence
  split
  · exact .refl i s
  · split
    · exact .refl i s
    · split
      · exact .refl i s
      · exact onlyEntry_commitImage _ _ _ _

theorem onlyEntry_closeEntry (st : EntryState) : OnlyEntry i s (closeEntry i st s) := by
  unfold closeEntry
  split
  · exact .refl i s
  · exact onlyEntry_upd rfl rfl

theorem onlyEntry_dropLate : OnlyEntry i s (dropLate i s) := by
  unfold dropLate
  split
  · exact .refl i s
  · refine ((onlyEntry_closeEntry i s .dropped).trans ?_).trans (onlyEntry_nextOccurrence i _ _)
    exact .of_table_eq rfl rfl

theorem onlyEntry_judgeLate : OnlyEntry i s (judgeLate i s) := by
  unfold judgeLate
  split
  · exact .refl i s
  · split
    · exact onlyEntry_dropLate i s
    · exact .refl i s

theorem onlyEntry_reconvert : OnlyEntry i s (reconvert i s) := by
  unfold reconvert
  split
  · exact .refl i s
  · split
    · exact .refl i s
    · split
      · extract_lets _ s1 s2
        have h2 : OnlyEntry i s s2 := onlyEntry_upd rfl rfl
        split
        · exact h2.trans (onlyEntry_nextOccurrence i s2 _)
        · exact h2
      · split
        · refine OnlyEntry.trans ?_ (onlyEntry_judgeLate i _)
          exact onlyEntry_upd rfl rfl
        · exact .refl i s

end

theorem foldl_reconvert_clocks (l : List Nat) (s : State) :
    clocks (l.foldl (fun t i => reconvert i t) s) = clocks s :=
  foldl_keeps clocks (fun t i => reconvert i t) (fun t i => (onlyEntry_reconvert i t).1) l s

theorem foldl_reconvert_table {i : Nat} {l : List Nat} (h : i ∉ l) (s : State) :
    (l.foldl (fun t i => reconvert i t) s).sched.table[i]? = s.sched.table[i]? := by
  induction l generalizing s with
  | nil => rfl
  | cons j l ih =>
    obtain ⟨hij, hl⟩ := List.ne_and_not_mem_of_not_mem_cons h
    exact (ih hl _).trans ((onlyEntry_reconvert j s).2 i (Ne.symm hij))

theorem judgeLate_of_future {i : Nat} {s : State} {e : SchedEntry} (he : s.sched.table[i]? = some e)
    (hdue : s.seq.frame < e.due) : judgeLate i s = s := by
  simp [judgeLate, he, Nat.not_le.mpr hdue]

/-- An entry that stays pending is rewritten in place. -/
theorem reconvert_of_pending {i : Nat} {s : State} {e : SchedEntry} (he : s.sched.table[i]? = some e)
    (hvalid : e.valid = true) (hwall : e.wallKeyed = true) (hpending : e.state = .pending)
    (hhist : inHistory s e.actionId e.occurrence = false) (hdue : s.seq.frame < convertDue s e.target) :
    (reconvert i s).sched.table[i]? =
      some { e with due := convertDue s e.target, convEpoch := s.wall.epoch % 65536 } := by
  have hnew : (upd s.sched.table i fun x => { x with
      due := convertDue s e.target, convEpoch := s.wall.epoch % 65536 })[i]? =
      some { e with due := convertDue s e.target, convEpoch := s.wall.epoch % 65536 } := by
    rw [getElem?_upd_self, he, Option.map_some]
  rw [reconvert, he]
  dsimp only
  have hguard : (!e.valid || !e.wallKeyed || decide (e.state = .skipped)) = false := by
    simp [hvalid, hwall, hpending]
  rw [hguard, hhist, if_neg Bool.false_ne_true, if_neg Bool.false_ne_true, if_pos hpending]
  exact (congrArg (fun u : State => u.sched.table[i]?) (judgeLate_of_future hnew hdue)).trans hnew

/-! Time epochs (R57). -/

/-- Committing the image's schedule touches of the clocks only the mark that it is done. -/
theorem commitImageSchedule_clocks (s : State) :
    ∃ d, clocks (commitImageSchedule s) = clocks { s with wall := { s.wall with imageSchedDone := d } } := by
  unfold commitImageSchedule
  split
  · exact ⟨s.wall.imageSchedDone, rfl⟩
  · refine ⟨true, foldl_keeps clocks _ (fun t i => ?_) _ _⟩
    split
    · rfl
    · split
      · rfl
      · exact (onlyEntry_commitImage 0 t _ _).1

/-- What an increment of the epoch does once the new epoch stands. -/
def rewritten (n : Nat) (s : State) : State :=
  commitImageSchedule ((List.range n).foldl (fun t i => reconvert i t) (reconvertCommits s))

theorem rewritten_clocks (n : Nat) (s : State) :
    ∃ d, clocks (rewritten n s) = clocks { s with wall := { s.wall with imageSchedDone := d } } := by
  obtain ⟨d, hd⟩ := commitImageSchedule_clocks ((List.range n).foldl (fun t i => reconvert i t) (reconvertCommits s))
  have hfold := foldl_reconvert_clocks (List.range n) (reconvertCommits s)
  simp only [clocks, Prod.mk.injEq] at hd hfold ⊢
  obtain ⟨hwall, hseq, hconv⟩ := hfold
  rw [hwall, hseq, hconv] at hd
  exact ⟨d, hd⟩

theorem execTimeEpochIncrement_of_due {s : State} {d : Int} (hruns : sequencerRuns s = true)
    (hphase : s.seq.phase = 0) (hstep : s.wall.step = some d) (hat : s.wall.stepAt < s.seq.rowT)
    (hlocked : s.wall.ptpLocked = true ∨ s.wall.epoch ≠ 0) :
    execTimeEpochIncrement s = .next (rewritten s.sched.table.length
      (if s.wall.epoch = 0 ∧ d = 0 then newEpoch d s else post 0x1004 (newEpoch d s))) := by
  have hlate : ¬ (s.wall.epoch = 0 ∧ s.wall.ptpLocked = false) := by
    rintro ⟨hepoch, hout⟩
    rcases hlocked with h | h
    · rw [hout] at h
      exact Bool.false_ne_true h
    · exact h hepoch
  have hlen : (if s.wall.epoch = 0 ∧ d = 0 then newEpoch d s else post 0x1004 (newEpoch d s)).sched.table.length =
      s.sched.table.length := by
    split <;> rfl
  rw [← hlen]
  simp [execTimeEpochIncrement, hstep, hruns, hphase, hat, hlate, rewritten]

theorem execTimeEpochIncrement_before_lock {s : State} {d : Int} (hruns : sequencerRuns s = true)
    (hphase : s.seq.phase = 0) (hstep : s.wall.step = some d) (hat : s.wall.stepAt < s.seq.rowT)
    (hlocked : s.wall.ptpLocked = false) (hepoch : s.wall.epoch = 0) :
    execTimeEpochIncrement s = .next (preEpochStep d s) := by
  simp [execTimeEpochIncrement, hstep, hruns, hphase, hat, hlocked, hepoch]

theorem execTimeEpochIncrement_of_not_due {s : State} (h : s.seq.phase ≠ 0 ∨ s.seq.rowT ≤ s.wall.stepAt) :
    execTimeEpochIncrement s = .next s := by
  unfold execTimeEpochIncrement
  split
  · rfl
  · rw [if_pos]
    rcases h with h | h
    · simp [h]
    · simp [Nat.not_lt.mpr h]

theorem execTimeEpochIncrement_of_none {s : State} (h : s.wall.step = none) : execTimeEpochIncrement s = .next s := by
  rw [execTimeEpochIncrement, h]

theorem newEpoch_history_length (d : Int) (s : State) : (newEpoch d s).wall.history.length ≤ 16 := by
  rw [newEpoch]
  exact List.length_take_le _ _

/-! The upkeep of the table (R70 to R72). -/

/-- The entries that a conversion rewrites. -/
def farEntries (s : State) : List Nat := indicesWhere s.sched.table fun _ e =>
  e.valid && e.wallKeyed && e.state = .pending && s.seq.frame + 10000 < e.due

theorem mem_indicesWhere {α : Type} {l : List α} {p : Nat → α → Bool} {i : Nat} :
    i ∈ indicesWhere l p ↔ ∃ a, l[i]? = some a ∧ p i a = true := by
  rw [indicesWhere, List.mem_filter, List.mem_range]
  cases h : l[i]? with
  | none => simp
  | some a =>
    obtain ⟨hlt, -⟩ := List.getElem?_eq_some_iff.mp h
    simp [hlt]

theorem not_mem_farEntries {s : State} {i : Nat} {e : SchedEntry} (he : s.sched.table[i]? = some e)
    (h : e.wallKeyed = false ∨ e.state ≠ .pending ∨ e.due ≤ s.seq.frame + 10000) : i ∉ farEntries s := by
  rw [farEntries, mem_indicesWhere]
  rintro ⟨a, ha, hp⟩
  cases he.symm.trans ha
  simp only [Bool.and_eq_true, decide_eq_true_eq] at hp
  obtain ⟨⟨⟨-, hwall⟩, hpending⟩, hdue⟩ := hp
  rcases h with h | h | h
  · rw [hwall] at h
    exact absurd h.symm Bool.false_ne_true
  · exact h hpending
  · omega

theorem execWallKeyConversion_of_due {s : State} (hepoch : s.wall.epoch ≠ 0) (harb : s.wall.arb = false)
    (hdue : s.sched.lastConv + 1000000000 ≤ rowNs s) :
    execWallKeyConversion s = .next ((farEntries s).foldl (fun t i => reconvert i t)
      { s with sched := { s.sched with lastConv := rowNs s } }) := by
  simp [execWallKeyConversion, farEntries, wallValid, hepoch, harb, hdue]

theorem farEntries_eq_nil {s : State} (h : ∀ e ∈ s.sched.table, e.due ≤ s.seq.frame + 10000) : farEntries s = [] := by
  refine List.eq_nil_iff_forall_not_mem.mpr fun i hi => ?_
  obtain ⟨e, he, -⟩ := mem_indicesWhere.mp hi
  exact not_mem_farEntries he (.inr (.inr (h e (List.mem_of_getElem? he)))) hi

/-! The plan epoch boundary (R30, R178). -/

/-- What a plan epoch boundary settles and its later parts leave. -/
def boundarySettled (s : State) : RowMode × Option Nat × List ModeReq × List LimitReq :=
  (s.plan.mode, s.plan.lastBoundary, s.plan.requests, s.heat.limitRequests)

theorem settled_postEvery (gap code : Nat) (s : State) (index sub : Nat) (detail : List Nat) :
    boundarySettled (postEvery gap code s index sub detail) = boundarySettled s := by
  unfold postEvery
  split <;> rfl

theorem settled_postRun (code : Nat) (s : State) (index sub : Nat) (detail : List Nat) :
    boundarySettled (postRun code s index sub detail) = boundarySettled s := by
  unfold postRun
  split <;> rfl

theorem settled_ownerClamp (g : Nat) (hi : Int) (e : PortElem) (s : State) :
    boundarySettled (ownerClamp g hi e s).2 = boundarySettled s := by
  unfold ownerClamp
  extract_lets v
  split
  · rfl
  · exact settled_postEvery _ _ _ _ _ _

theorem settled_ownerEdge (g role i : Nat) (hi : Int) (s : State) :
    boundarySettled (ownerEdge g role i hi s).2 = boundarySettled s := by
  refine foldl_keeps (fun acc : Option Int × State => boundarySettled acc.2) _ (fun acc e => ?_) _ _
  exact settled_ownerClamp g hi e acc.2

theorem settled_ownerLeast (role i : Nat) (hi : Int) (s : State) :
    boundarySettled (ownerLeast role i hi s).2 = boundarySettled s := by
  refine foldl_keeps (fun acc : Option Int × State => boundarySettled acc.2) _ (fun acc g => ?_) _ _
  exact settled_ownerEdge g role i hi acc.2

theorem settled_ownerPorts (s : State) : boundarySettled (ownerPorts s).2.2.2 = boundarySettled s := by
  unfold ownerPorts
  extract_lets a b ban
  have ha : boundarySettled a.2 = boundarySettled s := by
    refine foldl_keeps (fun acc : List Nat × State => boundarySettled acc.2) _ (fun acc l => ?_) (List.range 24) ([], s)
    dsimp only
    exact settled_ownerLeast 7 l 65536 acc.2
  clear_value a
  have hb : boundarySettled b.2 = boundarySettled a.2 := by
    refine foldl_keeps (fun acc : List (Option Nat) × State => boundarySettled acc.2) _ (fun acc g => ?_) (List.range 4) ([], a.2)
    dsimp only
    exact settled_ownerLeast 8 g 11000 acc.2
  clear_value b
  exact hb.trans ha

theorem settled_planSnapshot (s : State) : boundarySettled (planSnapshot s) = boundarySettled s := by
  have hports := settled_ownerPorts s
  unfold planSnapshot
  generalize ownerPorts s = o at hports ⊢
  exact hports

theorem settled_sprayLock (s : State) : boundarySettled (sprayLock s) = boundarySettled s := by
  unfold sprayLock
  extract_lets e s1
  split
  · rfl
  · split <;> rfl

theorem settled_lockstepFreq (t : Nat) (s : State) : boundarySettled (lockstepFreq t s) = boundarySettled s := by
  unfold lockstepFreq
  extract_lets ps lock
  split
  · rfl
  · split
    · rfl
    · split
      · rfl
      · exact settled_postEvery _ _ _ _ _ _

theorem settled_lockstepAll (s : State) : boundarySettled (lockstepAll s) = boundarySettled s := by
  refine foldl_keeps boundarySettled _ (fun u t => ?_) _ _
  split
  · exact settled_lockstepFreq t u
  · rfl

theorem settled_leaveFeast (s : State) : boundarySettled (leaveFeast s) = boundarySettled s := rfl

theorem settled_vigilCommit (committed : Bool) (s : State) :
    boundarySettled (vigilCommit committed s) = boundarySettled s := by
  unfold vigilCommit
  extract_lets run s1
  split
  · split <;> rfl
  · rfl

theorem settled_creditLoop (v : PlanValues) (l : Nat) (s : State) :
    boundarySettled (creditLoop v l s) = boundarySettled s := by
  unfold creditLoop
  extract_lets p out clear x arm s1 a b s2
  have hclear (t : State) : boundarySettled (clear t) = boundarySettled t := rfl
  split
  · split <;> rfl
  · exact hclear s
  · split
    · rfl
    · split
      · split <;> rfl
      · rfl

theorem settled_emberLoop (v : PlanValues) (l : Nat) (s : State) :
    boundarySettled (emberLoop v l s) = boundarySettled s := by
  unfold emberLoop
  extract_lets p want have_ s1
  split
  · rfl
  · have h1 : boundarySettled s1 = boundarySettled s := by
      refine foldl_keeps boundarySettled _ (fun t i => ?_) (loopSites s l) s
      rfl
    clear_value s1
    exact h1

theorem settled_planTargets (v : PlanValues) (s : State) : boundarySettled (planTargets v s) = boundarySettled s := by
  refine foldl_keeps boundarySettled _ (fun t i => ?_) _ _
  extract_lets c p
  split
  · rfl
  · split
    · rfl
    · split
      · rfl
      · split <;> rfl

theorem settled_commitBoundary (s : State) : boundarySettled (commitBoundary s) = boundarySettled s := by
  unfold commitBoundary
  split
  · exact settled_vigilCommit false s
  · extract_lets s1 pools _ s2 s3
    have h3 : boundarySettled s3 = boundarySettled s2 :=
      foldl_keeps boundarySettled _ (fun t l => (settled_emberLoop _ l _).trans (settled_creditLoop _ l t)) _ _
    exact (settled_vigilCommit true _).trans ((settled_planTargets _ s3).trans h3)

theorem settled_commitFallback (x : Snapshot) (s : State) :
    boundarySettled (commitFallback x s) = boundarySettled s := by
  unfold commitFallback
  split
  · extract_lets v low s1
    exact foldl_keeps boundarySettled _ (fun t l => settled_postRun _ t _ _ _) low s1
  · rfl

theorem settled_discardResult (s : State) : boundarySettled (discardResult s) = boundarySettled s := by
  unfold discardResult
  split
  · rfl
  · extract_lets s1
    split
    · exact settled_commitFallback _ s1
    · rfl

/-- What the first two parts of a boundary settle, the rest of it leaves. -/
theorem settled_planBoundary (s : State) :
    boundarySettled (planBoundary s) = boundarySettled (limitBoundary (modeBoundary s)) := by
  unfold planBoundary
  extract_lets wasFeast s1 s2 s3 s4 s5
  have h2 : boundarySettled s2 = boundarySettled s1 := (settled_commitBoundary _).trans (settled_discardResult s1)
  have h3 : boundarySettled s3 = boundarySettled s2 := by
    dsimp only [s3]
    split
    · exact settled_leaveFeast s2
    · rfl
  have h4 : boundarySettled s4 = boundarySettled s3 := (settled_lockstepAll _).trans (settled_sprayLock s3)
  have h5 : boundarySettled s5 = boundarySettled s1 := h4.trans (h3.trans h2)
  split
  · exact h5
  · exact (settled_planSnapshot s5).trans h5

theorem settled_modeBoundary (s : State) : boundarySettled (modeBoundary s) =
    (modeFrom s (requestAt s s.seq.frame), s.plan.lastBoundary, s.plan.requests.filter (fun r => s.seq.frame < r.due),
      s.heat.limitRequests) := by
  unfold modeBoundary
  extract_lets q m dropped lowered s1 s2 s3
  have h2 : boundarySettled s2 = boundarySettled s1 := by
    dsimp only [s2]
    split <;> rfl
  have h3 : boundarySettled s3 = boundarySettled s2 := by
    dsimp only [s3]
    split <;> rfl
  have hs : boundarySettled s3 = boundarySettled s1 := h3.trans h2
  clear_value s3
  split
  · exact hs
  · exact hs

/-- A limit that falls due changes a limit and no request. -/
theorem limitRequests_applyLimit (h : Heat) (r : LimitReq) : (applyLimit h r).limitRequests = h.limitRequests := by
  unfold applyLimit
  split <;> rfl

theorem limitRequests_limitBoundary (s : State) : (limitBoundary s).heat.limitRequests =
    s.heat.limitRequests.filter fun r => s.seq.frame < r.due :=
  foldl_keeps Heat.limitRequests applyLimit limitRequests_applyLimit _ _

theorem seq_modeBoundary (s : State) : (modeBoundary s).seq = s.seq := by
  unfold modeBoundary
  extract_lets q m dropped lowered s1 s2 s3
  simp only [s3, s2, apply_ite State.seq, post_seq, ite_self]
  rfl

theorem planBoundary_settles (s : State) :
    (planBoundary s).plan.mode = modeFrom s (requestAt s s.seq.frame) ∧
    (planBoundary s).plan.lastBoundary = s.plan.lastBoundary ∧
    (planBoundary s).plan.requests = s.plan.requests.filter (fun r => s.seq.frame < r.due) ∧
    (planBoundary s).heat.limitRequests = s.heat.limitRequests.filter (fun r => s.seq.frame < r.due) := by
  have hall := settled_planBoundary s
  have hmode := settled_modeBoundary s
  have hlimit := limitRequests_limitBoundary (modeBoundary s)
  simp only [boundarySettled, Prod.mk.injEq] at hall hmode
  obtain ⟨hm, hl, hr, hq⟩ := hall
  obtain ⟨hm', hl', hr', hq'⟩ := hmode
  rw [seq_modeBoundary, hq'] at hlimit
  exact ⟨hm.trans hm', hl.trans hl', hr.trans hr', hq.trans hlimit⟩

/-- The state in which a boundary is taken. -/
def boundaryTaken (s : State) : State := { s with plan := { s.plan with lastBoundary := some s.seq.frame } }

theorem execPlanEpochBoundary_of_due {s : State} (hop : operating s = true) (hvalid : s.seq.frameValid = true)
    (hphase : s.seq.phase = 0) (hframe : s.seq.frame % 100 = 0) (hlast : s.plan.lastBoundary ≠ some s.seq.frame) :
    execPlanEpochBoundary s = .next (epochBegins s) := by
  simp [execPlanEpochBoundary, hop, hvalid, hphase, hframe, hlast]

theorem execPlanEpochBoundary_of_not_due {s : State}
    (h : s.seq.frame % 100 ≠ 0 ∨ s.seq.phase ≠ 0 ∨ s.plan.lastBoundary = some s.seq.frame) :
    execPlanEpochBoundary s = .next s := by
  rcases h with h | h | h <;> simp [execPlanEpochBoundary, h]

theorem epochBegins_of_acting {s : State} (hstands : standsBy s = false) (hhold : handoverHold s = false)
    (hsafe : safeHoldDue s.seq = false) : epochBegins s = planBoundary (boundaryTaken s) := by
  have hhold' : ¬ handoverHold (boundaryTaken s) = true := Bool.eq_false_iff.mp hhold
  have hstands' : ¬ standsBy (boundaryTaken s) = true := Bool.eq_false_iff.mp hstands
  unfold epochBegins
  rw [hsafe]
  exact (if_neg hhold').trans (if_neg hstands')

theorem epochBegins_of_standby {s : State} (hstands : standsBy s = true) (hhold : handoverHold s = false) :
    ∃ v, epochBegins s = rollSamples (dropRequests s.seq.frame
      { s with plan := { s.plan with lastBoundary := some s.seq.frame, shadow := v } }) := by
  unfold epochBegins
  extract_lets s1
  have hhold' : ¬ handoverHold s1 = true := Bool.eq_false_iff.mp hhold
  exact ⟨_, (if_neg hhold').trans (if_pos hstands)⟩

/-! The schedule's other upkeep, and the obligation. -/

theorem mem_history_execHistoryRecordExpiry (s : State) : ∃ t, execHistoryRecordExpiry s = .next t ∧
    (∀ h, h ∈ t.sched.history ↔ h ∈ s.sched.history ∧ (rowNs s : Int) - h.rowNs < 90000000000000) ∧
    t = { s with sched := { s.sched with history := t.sched.history } } :=
  ⟨_, rfl, fun _ => List.mem_filter.trans (and_congr_right fun _ => decide_eq_true_iff), rfl⟩

/-- What SCHEDULE_SLOT_FREE makes of an entry (R72). -/
def slotAfter (s : State) (e : SchedEntry) : SchedEntry :=
  if e.valid && e.state ≠ .pending && e.leftAt + 10000000000 ≤ rowNs s then {} else e

theorem execScheduleSlotFree_eq (s : State) : execScheduleSlotFree s =
    .next { s with sched := { s.sched with table := s.sched.table.map (slotAfter s) } } := rfl

/-- Settles O7: an epoch and a conversion rewrite only the entries they name, and a boundary settles mode and limits
before its other parts. -/
theorem epochsAndScheduleUpkeep : Obligations.EpochsAndScheduleUpkeep := by
  refine ⟨fun s d hruns hphase hstep hat hlocked =>
      ⟨_, execTimeEpochIncrement_of_due hruns hphase hstep hat hlocked, ?epoch⟩,
    fun s d hruns hphase hstep hat hlocked hepoch =>
      ⟨_, execTimeEpochIncrement_before_lock hruns hphase hstep hat hlocked hepoch, rfl, rfl, rfl⟩,
    fun s h => execTimeEpochIncrement_of_not_due h,
    fun s d => ⟨rfl, rfl, rfl, rfl, newEpoch_history_length d s, rfl, rfl⟩,
    fun s h => execTimeEpochIncrement_of_none h,
    fun s hepoch harb hdue hnear => (execWallKeyConversion_of_due hepoch harb hdue).trans ?near,
    fun s hepoch harb hdue => ⟨_, execWallKeyConversion_of_due hepoch harb hdue, ?convert⟩,
    fun s i e he hvalid hwall hpending hhist hdue => reconvert_of_pending he hvalid hwall hpending hhist hdue,
    mem_history_execHistoryRecordExpiry,
    fun s => ⟨_, execScheduleSlotFree_eq s, rfl, List.length_map _, fun i e he => ?free⟩,
    fun s hop hvalid hphase hframe hlast hstands hhold hsafe =>
      ⟨_, execPlanEpochBoundary_of_due hop hvalid hphase hframe hlast, ?boundary⟩,
    fun s hop hvalid hphase hframe hlast hstands hhold =>
      ⟨_, execPlanEpochBoundary_of_due hop hvalid hphase hframe hlast, ?standby⟩,
    fun s h => execPlanEpochBoundary_of_not_due h⟩
  case epoch =>
    obtain ⟨done, hd⟩ := rewritten_clocks s.sched.table.length
      (if s.wall.epoch = 0 ∧ d = 0 then newEpoch d s else post 0x1004 (newEpoch d s))
    have hnew : clocks { (if s.wall.epoch = 0 ∧ d = 0 then newEpoch d s else post 0x1004 (newEpoch d s)) with
        wall := { (if s.wall.epoch = 0 ∧ d = 0 then newEpoch d s else post 0x1004 (newEpoch d s)).wall with
          imageSchedDone := done } } = ({ (newEpoch d s).wall with imageSchedDone := done }, s.seq, s.sched.lastConv) := by
      split <;> rfl
    obtain ⟨hwall, hseq⟩ := Prod.mk.inj (hd.trans hnew)
    rw [hwall, (Prod.mk.inj hseq).1]
    exact ⟨rfl, rfl, rfl, rfl, rfl⟩
  case near =>
    rw [farEntries_eq_nil hnear]
    rfl
  case convert =>
    have hclocks := foldl_reconvert_clocks (farEntries s) { s with sched := { s.sched with lastConv := rowNs s } }
    simp only [clocks, Prod.mk.injEq] at hclocks
    obtain ⟨hwall, hseq, hconv⟩ := hclocks
    exact ⟨hconv, hseq, hwall, fun i e he hnear => (foldl_reconvert_table (not_mem_farEntries he hnear) _).trans he⟩
  case free =>
    have hmap : (s.sched.table.map (slotAfter s))[i]? = some (slotAfter s e) := by rw [List.getElem?_map, he, Option.map_some]
    refine ⟨fun hvalid hstate hleft => hmap.trans ?_, fun hstate => hmap.trans ?_, fun hleft => hmap.trans ?_⟩
    · simp [slotAfter, hvalid, hstate, hleft]
    · simp [slotAfter, hstate]
    · simp [slotAfter, Nat.not_le.mpr hleft]
  case boundary =>
    rw [epochBegins_of_acting hstands hhold hsafe]
    exact ⟨rfl, planBoundary_settles (boundaryTaken s)⟩
  case standby =>
    obtain ⟨v, hv⟩ := epochBegins_of_standby hstands hhold
    rw [hv]
    exact ⟨rfl, rfl, rfl, rfl⟩

end Sys2Proof.Machine
end

section
/-! SUPPORT. What the loss of the role and of plant control leaves as it was (R133, R142): the valve banks, the aborted
activities and the control loops change, the sequencer, wall time and the fuses do not. -/

namespace Sys2Proof.Machine

/-- A fold whose every turn stands in a relation to its start does so as a whole. -/
theorem foldl_rel {α β : Type} {R : β → β → Prop} {f : β → α → β} (hrefl : ∀ b, R b b)
    (htrans : ∀ a b c, R a b → R b c → R a c) (h : ∀ b a, R b (f b a)) (l : List α) (b : β) : R b (l.foldl f b) := by
  induction l generalizing b with
  | nil => exact hrefl b
  | cons a l ih => exact htrans _ _ _ (h b a) (ih (f b a))

/-! Banks and activities. -/

/-- Only the valves of the two states differ. -/
def OnlyValve (s t : State) : Prop := ∃ v, t = { s with valve := v }

theorem OnlyValve.trans {s t u : State} (h : OnlyValve s t) (h' : OnlyValve t u) : OnlyValve s u := by
  obtain ⟨v, rfl⟩ := h
  obtain ⟨v', rfl⟩ := h'
  exact ⟨v', rfl⟩

theorem onlyValve_dropBank (b : Nat) (s : State) : OnlyValve s (dropBank b s) := by
  refine foldl_rel (R := OnlyValve) (fun t => ⟨t.valve, rfl⟩) (fun _ _ _ => OnlyValve.trans) (fun t c => ?_) _ _
  exact ⟨_, rfl⟩

theorem onlyValve_bankRefresh (s : State) (b : Nat) : OnlyValve s (bankRefresh s b) := by
  unfold bankRefresh
  extract_lets on
  split
  · split
    · exact ⟨_, rfl⟩
    · exact ⟨s.valve, rfl⟩
  · split
    · exact ⟨s.valve, rfl⟩
    · refine OnlyValve.trans ?_ (onlyValve_dropBank b _)
      exact ⟨_, rfl⟩
  · exact ⟨s.valve, rfl⟩
  · exact ⟨s.valve, rfl⟩
  · exact ⟨s.valve, rfl⟩

/-- Refreshing the banks changes only the valves. -/
theorem banksRefresh_eq (s : State) : ∃ v, banksRefresh s = { s with valve := v } :=
  foldl_rel (R := OnlyValve) (fun t => ⟨t.valve, rfl⟩) (fun _ _ _ => OnlyValve.trans) onlyValve_bankRefresh _ _

/-- Only maintenance and the log of the two states differ, and not the log's boot. -/
def OnlyMaint (s t : State) : Prop := ∃ m l, t = { s with maint := m, log := l } ∧ l.boot = s.log.boot

theorem OnlyMaint.trans {s t u : State} (h : OnlyMaint s t) (h' : OnlyMaint t u) : OnlyMaint s u := by
  obtain ⟨m, l, rfl, hboot⟩ := h
  obtain ⟨m', l', rfl, hboot'⟩ := h'
  exact ⟨m', l', rfl, hboot'.trans hboot⟩

theorem OnlyMaint.refl (s : State) : OnlyMaint s s := ⟨s.maint, s.log, rfl, rfl⟩

theorem onlyMaint_endActivity (i : Nat) (st : ActState) (cause : Nat) (s : State) :
    OnlyMaint s (endActivity i st cause s) := by
  unfold endActivity
  extract_lets a res s0 s1
  split
  · exact .refl s
  · split
    · exact ⟨_, _, rfl, logPost_boot _ _⟩
    · exact ⟨_, _, rfl, logPost_boot _ _⟩

theorem onlyMaint_abortWhere (cause : Nat) (p : Activity → Bool) (s : State) : OnlyMaint s (abortWhere cause p s) := by
  refine foldl_rel OnlyMaint.refl (fun _ _ _ => OnlyMaint.trans) (fun t i => ?_) _ _
  split
  · exact onlyMaint_endActivity _ _ _ _
  · exact .refl t

/-! The role. -/

theorem releaseStages_eq (s : State) : ∃ v p pl pr, releaseStages s =
    { s with valve := v, pump := p, plant := pl, pair := pr, pow := { s.pow with plantControl := false } } := by
  obtain ⟨v, hv⟩ := banksRefresh_eq (releaseOutputs { s with
    pow := { s.pow with plantControl := false }
    pair := { s.pair with stages := false } })
  exact ⟨v, _, _, _, hv⟩

/-- What the loss of the role leaves: the components it changes stand apart, and the log's boot with them. -/
theorem loseRole_eq (s : State) : ∃ v m l k c p pl pr, loseRole s =
    { s with valve := v, maint := m, log := l, key := k, ctl := c, pump := p, plant := pl, pair := pr
             pow := { s.pow with plantControl := false } } ∧ l.boot = s.log.boot := by
  obtain ⟨v, p, pl, pr, hv⟩ := releaseStages_eq s
  obtain ⟨m, l, hm, hboot⟩ := onlyMaint_abortWhere 5 (fun _ => true) (loopsLeaveControl (releaseStages s))
  rw [hv] at hm hboot
  unfold loseRole leaveControl abortAll
  rw [hv, hm]
  exact ⟨v, m, l, _, _, _, pl, _, rfl, hboot⟩

/-- The core's stop (R133): the role is lost, and the outputs stand released. -/
theorem coreStops_eq (s : State) : ∃ v m l k c p pl pr, coreStops s =
    { s with valve := v, maint := m, log := l, key := k, ctl := c, pump := p, plant := pl, pair := pr
             pow := { s.pow with
               plantControl := false, backupDrive := false, backupMv := 0, state := .dead, ready := false
               deadMan := true, bypassClosed := true, waiting := none } } ∧ l.boot = s.log.boot := by
  obtain ⟨v, m, l, k, c, p, pl, pr, h, hboot⟩ := loseRole_eq s
  refine ⟨v, m, l, k, c, p, pl, pr, ?_, hboot⟩
  rw [coreStops, h]
  rfl

theorem mkEvent_coreStops (s : State) (code index sub : Nat) (detail : List Nat) :
    mkEvent (coreStops s) code index sub detail = mkEvent s code index sub detail := by
  obtain ⟨v, m, l, k, c, p, pl, pr, h, hboot⟩ := coreStops_eq s
  rw [h]
  refine mkEvent_congr ?_ ?_ ?_ hboot _ _ _ _
  · rfl
  · rfl
  · rfl

end Sys2Proof.Machine
end

section
/-! SUPPORT. The loss of input power (R113, R139, R140): what the stores without power keep; settles O8. -/

namespace Sys2Proof.Machine

theorem execPowerGoodDeassert_of_power {s : State} (h : s.pow.powerGood = true) :
    execPowerGoodDeassert s = .next (powerOff s) := congrArg Host.Outcome.next (if_pos h)

theorem execPowerGoodDeassert_of_none {s : State} (h : s.pow.powerGood = false) :
    execPowerGoodDeassert s = .next s := congrArg Host.Outcome.next (if_neg (by rw [h]; exact Bool.false_ne_true))

theorem gens_keepMram (s : State) : (keepMram s).heat.tenants.map (·.gen) = s.heat.tenants.map (·.gen) :=
  List.map_map

theorem execInputOvervoltage_of_power {s : State} (h : s.pow.powerGood = true) : execInputOvervoltage s =
    .next (setPow (fun p => { p with inputOpen := true }) (powerOff (lastWord (Config.lastWordCode 2) s))) :=
  congrArg Host.Outcome.next (if_pos h)

/-- The state in which the core's rail is lost, before the core stops. -/
def railLostMark (k : Nat) (s : State) : State :=
  setPow (fun p => { p with rails := upd p.rails k fun r =>
    { r with state := .lost, lossCount := satAdd 16 r.lossCount 1 } }) s

theorem execSocThermalTrip_of_power {s : State} (h : s.pow.powerGood = true) (hrail : railReady s 2 = true) :
    execSocThermalTrip s = .next (lastWord 0x0035 (railDomainsOff 2 (coreStops (railLostMark 2 s)))) := by
  rw [execSocThermalTrip, h, hrail]
  rfl

theorem mkEvent_railDomainsOff (k : Nat) (s : State) (code index sub : Nat) (detail : List Nat) :
    mkEvent (railDomainsOff k s) code index sub detail = mkEvent s code index sub detail := rfl

theorem mkEvent_railLostMark (k : Nat) (s : State) (code index sub : Nat) (detail : List Nat) :
    mkEvent (railLostMark k s) code index sub detail = mkEvent s code index sub detail := rfl

theorem lastWords_head?_lastWord (code : Nat) (s : State) (detail : List Nat) :
    (lastWord code s detail).log.lastWords.head? =
      some { mkEvent s code 0xFFFF 0xFFFF detail with stampLag := true } := rfl

/-- Settles O8: `powerOff` writes what the stores keep over the state at reset. -/
theorem powerLossKeepsMramAndFuses : Obligations.PowerLossKeepsMramAndFuses := by
  refine ⟨fun s h => ⟨_, execPowerGoodDeassert_of_power h, rfl, rfl, rfl, rfl, rfl, rfl, rfl, rfl, rfl, rfl, rfl,
      gens_keepMram s, rfl, rfl, rfl⟩,
    fun s h => execPowerGoodDeassert_of_none h,
    fun s h => ⟨_, execInputOvervoltage_of_power h, ?_⟩,
    fun s h hrail => ⟨_, execSocThermalTrip_of_power h hrail, ?_⟩⟩
  · exact ⟨rfl, rfl, rfl, rfl⟩
  rw [lastWords_head?_lastWord, mkEvent_railDomainsOff, mkEvent_coreStops, mkEvent_railLostMark]
  obtain ⟨v, m, l, k, c, p, pl, pr, hstop, -⟩ := coreStops_eq (railLostMark 2 s)
  rw [hstop]
  exact ⟨rfl, rfl, rfl, rfl, rfl⟩

end Sys2Proof.Machine
end

section
/-! SUPPORT. Start-up and resets (R113, R114, R118, R137, R139): what a start writes before it waits for a rail, what a
reset leaves of the stores, and the end of start-up in READY; settles O9. -/

namespace Sys2Proof.Machine

/-! A start that waits for the reports of rails 1 and 2 (R118). -/

/-- A rail whose group has been enabled. -/
def enabledRail (r : Rail) : Rail := { r with enabled := true }

/-- The state in which start-up waits for the reports of rails 1 and 2. -/
def railsAwaited (f : StartFacts) (s : State) : State :=
  setPow (fun p => { p with waiting := some f, rails := upd (upd p.rails 1 enabledRail) 2 enabledRail }) s

theorem railReport_of_pending {f : StartFacts} {k : Nat} {s : State} (hoff : (s.pow.rails.getD k {}).state = .off)
    (hnone : f.rails.getD k (some none) = none) :
    railReport f k s = setPow (fun p => { p with rails := upd p.rails k enabledRail }) s := by
  unfold railReport
  dsimp only
  rw [if_neg (not_not_intro hoff), hnone]
  rfl

/-- Enabling a rail leaves the state of every rail. -/
theorem state_upd_enabledRail (l : List Rail) (j k : Nat) :
    ((upd l j enabledRail).getD k {}).state = (l.getD k {}).state := by
  rw [getD_upd]
  split <;> rfl

theorem groupsFor_head (s : State) : ∃ rest, groupsFor s = [1, 2] :: rest := by
  unfold groupsFor
  split
  · exact ⟨_, rfl⟩
  · exact ⟨_, rfl⟩

theorem fromRails_of_pending {f : StartFacts} {s : State} (hoff1 : (s.pow.rails.getD 1 {}).state = .off)
    (hoff2 : (s.pow.rails.getD 2 {}).state = .off) (h1 : f.rails.getD 1 (some none) = none)
    (h2 : f.rails.getD 2 (some none) = none) : fromRails f s = railsAwaited f s := by
  obtain ⟨rest, hrest⟩ := groupsFor_head s
  have hoff2' : ((setPow (fun p => { p with rails := upd p.rails 1 enabledRail }) s).pow.rails.getD 2 {}).state = .off :=
    (state_upd_enabledRail _ 1 2).trans hoff2
  have hfold : [1, 2].foldl (fun t k => railReport f k t) s =
      setPow (fun p => { p with rails := upd p.rails 2 enabledRail })
        (setPow (fun p => { p with rails := upd p.rails 1 enabledRail }) s) := by
    rw [List.foldl_cons, List.foldl_cons, List.foldl_nil, railReport_of_pending hoff1 h1,
      railReport_of_pending hoff2' h2]
  have hany : ([1, 2].any fun k => ((setPow (fun p => { p with rails := upd p.rails 2 enabledRail })
      (setPow (fun p => { p with rails := upd p.rails 1 enabledRail }) s)).pow.rails.getD k {}).state = .off) = true :=
    List.any_eq_true.mpr ⟨2, by simp, decide_eq_true
      ((state_upd_enabledRail _ 2 2).trans ((state_upd_enabledRail _ 1 2).trans hoff2))⟩
  unfold fromRails
  rw [hrest, railGroups, hfold]
  dsimp only
  rw [hany]
  rfl

/-- The state in which a start begins its first step (R113, R114). -/
def startBegun (s : State) : State :=
  post 0x2001 { s with
    log := { s.log with boot := (s.log.boot + 1) % 4294967296 }
    pow := { s.pow with powerGood := true, rails := upd s.pow.rails 0 fun r => { r with state := .ready, enabled := true } } }

theorem startUp_of_crystal {f : StartFacts} (hxtal : f.crystalOk = true) (s : State) :
    startUp f s = fromRails f (stepDone f 1 (startBegun s)) := if_pos hxtal

/-- The state of a start whose crystal has failed (R136). -/
def crystalFailed (s : State) : State :=
  post 0x2010 { s with
    seq := { s.seq with backupClock := true }
    pow := { s.pow with state := .limp, failStep := 1, xtalTries := 0 } }

theorem startUp_of_no_crystal {f : StartFacts} (hxtal : f.crystalOk = false) (s : State) :
    startUp f s = fromRails f (crystalFailed (startBegun s)) := if_neg (by rw [hxtal]; exact Bool.false_ne_true)

/-- A start whose rails are as at reset waits for the reports of rails 1 and 2. -/
theorem fromRails_of_reset_rails {f : StartFacts} {s : State}
    (hrails : s.pow.rails = upd State.reset.pow.rails 0 fun r => { r with state := .ready, enabled := true })
    (h1 : f.rails.getD 1 (some none) = none) (h2 : f.rails.getD 2 (some none) = none) :
    fromRails f s = railsAwaited f s :=
  fromRails_of_pending (by rw [hrails]; rfl) (by rw [hrails]; rfl) h1 h2

/-- The rails of a start that waits: rail 0 is ready, rails 1 and 2 enabled, and no other. -/
theorem rails_railsAwaited {f : StartFacts} {s : State}
    (hrails : s.pow.rails = upd State.reset.pow.rails 0 fun r => { r with state := .ready, enabled := true }) :
    ((railsAwaited f s).pow.rails.getD 0 {}).state = .ready ∧
    (∀ k, k = 1 ∨ k = 2 → ((railsAwaited f s).pow.rails.getD k {}).enabled = true ∧
      ((railsAwaited f s).pow.rails.getD k {}).state = .off) ∧
    (∀ k, 3 ≤ k → ((railsAwaited f s).pow.rails.getD k {}).enabled = false) := by
  have hlist : (railsAwaited f s).pow.rails =
      [{ state := .ready, enabled := true }, { enabled := true }, { enabled := true }, {}, {}, {}, {}, {}] := by
    unfold railsAwaited setPow
    dsimp only
    rw [hrails]
    rfl
  rw [hlist]
  refine ⟨rfl, ?_, fun k hk => ?_⟩
  · rintro k (rfl | rfl)
    · exact ⟨rfl, rfl⟩
    · exact ⟨rfl, rfl⟩
  · match k, hk with
    | 3, _ | 4, _ | 5, _ | 6, _ | 7, _ => rfl
    | n + 8, _ => rfl

theorem execPowerGoodAssert_of_none {s : State} {f : StartFacts} (h : s.pow.powerGood = false) :
    execPowerGoodAssert f s = .next (startUp f (keepMram s)) :=
  congrArg Host.Outcome.next (if_neg (by rw [h]; exact Bool.false_ne_true))

theorem execWarmReset_of_due {s : State} {f : StartFacts} {k : Nat} (hdue : s.pow.resetDue = some k)
    (h : s.pow.powerGood = true) : execWarmReset f s = .next (startUp f (keepWarm k s)) := by
  rw [execWarmReset, hdue]
  exact congrArg Host.Outcome.next (if_pos h)

/-! Resets, and the release from HELD (R137, R139). -/

theorem execResetNAssert_of_power {s : State} (h : s.pow.powerGood = true) :
    execResetNAssert s = .next (enterReset 1 s) := congrArg Host.Outcome.next (if_pos h)

theorem execCoreWatchdog_of_silent {s : State} (hruns : coreRuns s = true)
    (h : s.pow.lastHeartbeat + 100000000 ≤ rowNs s) : execCoreWatchdog s = .next (enterReset 2 s) := by
  simp [execCoreWatchdog, hruns, h]

theorem execCoreWatchdog_of_alive {s : State} (h : coreRuns s = false ∨ rowNs s < s.pow.lastHeartbeat + 100000000) :
    execCoreWatchdog s = .next s := by
  rcases h with h | h
  · simp [execCoreWatchdog, h]
  · simp [execCoreWatchdog, Nat.not_le.mpr h]

/-- A reset that is due: the core stands, and the outputs are released (R133, R139). -/
theorem enterReset_eq (k : Nat) (s : State) : ∃ u : State, enterReset k s = u ∧ u.pow.resetDue = some k ∧
    u.pow.state = .dead ∧ u.pow.ready = false ∧ u.pow.deadMan = true ∧ u.pow.bypassClosed = true ∧
    u.pow.backupDrive = false ∧ u.sec.fuses = s.sec.fuses := by
  obtain ⟨v, m, l, kk, c, p, pl, pr, hstop, -⟩ := coreStops_eq s
  rw [enterReset, hstop]
  exact ⟨_, rfl, rfl, rfl, rfl, rfl, rfl, rfl, rfl⟩

theorem execHeldRelease_of_due {s : State} {f : Nat} (hsince : s.pow.vanaSince = some f) (hstate : s.pow.state = .held)
    (hdue : f + 10000 ≤ s.seq.frame) (hresets : warmResets s < 6) :
    execHeldRelease s = .next { s with pow := { s.pow with resetDue := some 1 } } := by
  have hlong : 10000 ≤ since s f := Nat.le_sub_of_add_le (by omega)
  rw [execHeldRelease, hsince]
  exact if_pos ⟨hstate, hlong, hresets⟩

theorem execHeldRelease_of_storm {s : State} (h : 6 ≤ warmResets s) : execHeldRelease s = .next s := by
  unfold execHeldRelease
  split
  · exact if_neg fun hall => absurd hall.2.2 (Nat.not_lt.mpr h)
  · rfl

/-- What a reset carries over the stores (R139). -/
theorem keepWarm_keeps (k : Nat) (s : State) :
    (keepWarm k s).valve.banks.map (fun b => decide (b.state = .failed)) =
      s.valve.banks.map (fun b => decide (b.state = .failed)) ∧
    (keepWarm k s).eng.graphs.map (·.level) = s.eng.graphs.map (·.level) := by
  refine ⟨?_, List.map_map⟩
  unfold keepWarm
  dsimp only
  rw [List.map_map]
  refine List.map_congr_left fun b _ => ?_
  rw [Function.comp_apply]
  split
  case isTrue h => simp [h]
  case isFalse h => simp [h]

/-! Tries of NO_IMAGE (R140), and READY. -/

theorem execNoImageKeyRetry_of_early {s : State} {f : StartFacts} (h : rowNs s < s.key.lastRetry + 10000000000) :
    execNoImageKeyRetry f s = .next s := by
  simp [execNoImageKeyRetry, Nat.not_le.mpr h]

/-- The check of the keys that a try makes. -/
def keyRetried (f : StartFacts) (s : State) : State :=
  verifyStep f (keyCheck f { s with key := { s.key with lastRetry := rowNs s } })

theorem execNoImageKeyRetry_of_none {s : State} {f : StartFacts} (hstate : s.pow.state = .noImage)
    (hdue : s.key.lastRetry + 10000000000 ≤ rowNs s) (hnone : (keyRetried f s).key.selected = none) :
    execNoImageKeyRetry f s = .next (keyRetried f s) := by
  have hguard : (decide (s.pow.state = .noImage) && decide (s.key.lastRetry + 10000000000 ≤ rowNs s)) = true := by
    simp [hstate, hdue]
  rw [execNoImageKeyRetry, if_pos hguard]
  dsimp only
  split
  · rfl
  case h_2 c hc => exact nomatch hnone.symm.trans hc

/-- The state in which a try that has found an image carries start-up on. -/
def imageFound (f : StartFacts) (s : State) : State :=
  releaseBackup (setPow (fun p => { p with failStep := if railFailed (keyRetried f s) then 2 else 0 }) (keyRetried f s))

theorem execNoImageKeyRetry_of_found {s : State} {f : StartFacts} (hstate : s.pow.state = .noImage)
    (hdue : s.key.lastRetry + 10000000000 ≤ rowNs s) (hfound : (keyRetried f s).key.selected ≠ none) :
    execNoImageKeyRetry f s = .next (fromImage f f.hashMismatches (imageFound f s)) := by
  have hguard : (decide (s.pow.state = .noImage) && decide (s.key.lastRetry + 10000000000 ≤ rowNs s)) = true := by
    simp [hstate, hdue]
  rw [execNoImageKeyRetry, if_pos hguard]
  dsimp only
  split
  case h_1 hc => exact absurd hc hfound
  · rfl

theorem verifyStep_of_no_source {f : StartFacts} {s : State} (hsource : s.key.source = 0)
    (hselected : s.key.selected = none) : verifyStep f s = stepTime f 6 s := by
  have hverify : verifyImages s = s := by
    rw [verifyImages, hsource]
    rfl
  rw [verifyStep, hverify, hselected]
  rfl

theorem keyCheck_of_no_device {f : StartFacts} {s : State} (hback : f.backplane.present = false)
    (hfront : f.front.present = false) : keyCheck f s =
      { stepDone f 5 s with key := { lastRetry := s.key.lastRetry, frontPresent := f.front.present } } := by
  unfold keyCheck
  rw [hback, hfront]
  rfl

/-- The time of a step changes only its own records and row time. -/
theorem stepTime_eq (f : StartFacts) (k : Nat) (s : State) :
    ∃ p q, stepTime f k s = { s with pow := p, seq := q } ∧ p.state = s.pow.state := by
  unfold stepTime
  exact ⟨_, _, rfl, rfl⟩

theorem stepDone_eq (f : StartFacts) (k : Nat) (s : State) :
    ∃ p q, stepDone f k s = { s with pow := p, seq := q } ∧ p.state = s.pow.state := by
  obtain ⟨p, q, h, hstate⟩ := stepTime_eq f k s
  rw [stepDone, h]
  exact ⟨{ p with lastStep := k }, q, rfl, hstate⟩

/-- Without a key device in either slot a try finds nothing. -/
theorem keyRetried_of_no_device {s : State} {f : StartFacts} (hback : f.backplane.present = false)
    (hfront : f.front.present = false) : ∃ p q, keyRetried f s =
      { s with pow := p, seq := q, key := { lastRetry := rowNs s, frontPresent := f.front.present } } ∧
      p.state = s.pow.state := by
  obtain ⟨p, q, h, hstate⟩ := stepDone_eq f 5 { s with key := { s.key with lastRetry := rowNs s } }
  rw [keyRetried, keyCheck_of_no_device hback hfront, h]
  dsimp only
  obtain ⟨p', q', h', hstate'⟩ := stepTime_eq f 6
    { s with pow := p, seq := q, key := { lastRetry := rowNs s, frontPresent := f.front.present } }
  rw [verifyStep_of_no_source rfl rfl, h']
  exact ⟨p', q', rfl, hstate'.trans hstate⟩

/-! READY (R131, R139). -/

theorem startAttest_pow (p : Nat) (s : State) : (startAttest p s).pow = s.pow := by
  have hsent (s : State) : (sendTxn p true 0 0 s).pow = s.pow := by
    unfold sendTxn
    extract_lets x r
    split
    · rfl
    · split <;> rfl
  unfold startAttest
  split
  · rfl
  · split
    · rfl
    · exact hsent _

/-- READY: the dead-man is released, and the module arms, or waits in HELD. -/
theorem readyStep_pow (f : StartFacts) (s : State) :
    (readyStep f s).pow.ready = true ∧ ((readyStep f s).pow.state = .arming ∨ (readyStep f s).pow.state = .held) ∧
    (readyStep f s).pow.deadMan = false ∧ (readyStep f s).pow.bypassClosed = false ∧ (readyStep f s).pow.lastStep = 10 := by
  unfold readyStep
  extract_lets s' storm held _ _ s1 s2 s3
  have hfold : ((List.range 65).foldl (fun t p => startAttest p t) s3).pow = s3.pow :=
    foldl_keeps State.pow (fun t p => startAttest p t) (fun t p => startAttest_pow p t) _ _
  have h3 : s3.pow = s1.pow := by
    dsimp only [s3]
    split <;> rfl
  rw [hfold, h3]
  refine ⟨rfl, ?_, rfl, rfl, rfl⟩
  dsimp only [s1]
  split
  · exact .inr rfl
  · exact .inl rfl

theorem fromImage_of_selected {f : StartFacts} {s : State} (h : s.key.selected ≠ none) :
    ∃ u, fromImage f 0 s = readyStep f u := by
  unfold fromImage
  split
  case h_1 hc => exact absurd hc h
  · dsimp only
    unfold finishStart
    exact ⟨_, rfl⟩

/-- Settles O9: start-up and resets through the steps they begin with and the one they end with. -/
theorem startUpAndResets : Obligations.StartUpAndResets := by
  refine ⟨fun s f h => execPowerGoodAssert_of_none h,
    fun s f h hxtal h1 h2 => ⟨_, execPowerGoodAssert_of_none h, ?start⟩,
    fun s f h hxtal h1 h2 => ⟨_, execPowerGoodAssert_of_none h, ?limp⟩,
    fun s f h => congrArg Host.Outcome.next (if_pos h),
    fun s h => ⟨_, execResetNAssert_of_power h, ?resetN⟩,
    fun s hruns hsilent => ⟨_, execCoreWatchdog_of_silent hruns hsilent, ?watchdog⟩,
    fun s h => execCoreWatchdog_of_alive h,
    fun s f k hdue h => execWarmReset_of_due hdue h,
    fun s f k hdue h hxtal h1 h2 => ⟨_, execWarmReset_of_due hdue h, ?warm⟩,
    fun s k => ⟨rfl, rfl, rfl, rfl, rfl, rfl, ?history, rfl, keepWarm_keeps k s⟩,
    fun s f hsince hstate hdue hresets => execHeldRelease_of_due hsince hstate hdue hresets,
    fun s h => execHeldRelease_of_storm h,
    fun s f hstate hdue hback hfront => ?noDevice,
    fun s f hstate hdue => ?retry,
    fun s f h => execNoImageKeyRetry_of_early h⟩
  case start =>
    rw [startUp_of_crystal hxtal, fromRails_of_reset_rails rfl h1 h2]
    obtain ⟨hrail0, hrails, hothers⟩ := rails_railsAwaited (f := f) (s := stepDone f 1 (startBegun (keepMram s))) rfl
    exact ⟨rfl, rfl, rfl, rfl, rfl, rfl, rfl, rfl, rfl, rfl, hrail0, hrails, hothers, rfl, rfl⟩
  case limp =>
    rw [startUp_of_no_crystal hxtal, fromRails_of_reset_rails rfl h1 h2]
    exact ⟨rfl, rfl, rfl, rfl, rfl, rfl⟩
  case resetN =>
    obtain ⟨u, hu, hdue, hstate, hready, hdead, hbypass, hdrive, hfuses⟩ := enterReset_eq 1 s
    rw [hu]
    exact ⟨hdue, hstate, hready, hdead, hbypass, hdrive, hfuses⟩
  case watchdog =>
    obtain ⟨u, hu, hdue, hstate, hready, hdead, hbypass, -⟩ := enterReset_eq 2 s
    rw [hu]
    exact ⟨hdue, hstate, hready, hdead, hbypass⟩
  case warm =>
    rw [startUp_of_crystal hxtal, fromRails_of_reset_rails rfl h1 h2]
    exact ⟨rfl, rfl, rfl, rfl, rfl, rfl, rfl, rfl⟩
  case history => exact congrArg (· + 1) (List.length_map _)
  case noDevice =>
    obtain ⟨p, q, hkey, hp⟩ := keyRetried_of_no_device (s := s) hback hfront
    have hnone : (keyRetried f s).key.selected = none := by rw [hkey]
    refine ⟨_, execNoImageKeyRetry_of_none hstate hdue hnone, ?_⟩
    rw [hkey]
    exact ⟨hp.trans hstate, rfl, rfl, rfl, rfl, rfl⟩
  case retry =>
    rcases Decidable.em ((keyRetried f s).key.selected = none) with hnone | hfound
    · exact ⟨_, _, rfl, execNoImageKeyRetry_of_none hstate hdue hnone, fun _ => rfl, fun h => absurd hnone h⟩
    · refine ⟨_, _, rfl, execNoImageKeyRetry_of_found hstate hdue hfound, fun h => absurd h hfound, fun _ hhash => ?_⟩
      obtain ⟨u, hu⟩ := fromImage_of_selected (f := f) (s := imageFound f s) hfound
      rw [hhash, hu]
      exact readyStep_pow f u

end Sys2Proof.Machine
end

section
/-! SUPPORT. The crystal's failure and its tries (R54, R130, R136): closing the ports and the sessions leaves the sequencer
and the power records, and the switched domains of the high clocks go off; settles O10. -/

namespace Sys2Proof.Machine

/-! What the ports' ends leave. -/

/-- The sequencer and the power records. -/
def seqPow (s : State) : Sequencer × Power := (s.seq, s.pow)

theorem seqPow_endUpdate (s : State) : seqPow (endUpdate s) = seqPow s := rfl

theorem seqPow_closeSession (i cause : Nat) (s : State) : seqPow (closeSession i cause s) = seqPow s := by
  unfold closeSession
  extract_lets s1 s2 mine s3
  have h1 : seqPow s1 = seqPow s := by
    dsimp only [s1]
    split
    · split
      · exact seqPow_endUpdate s
      · rfl
    · rfl
  have h2 : seqPow s2 = seqPow s1 := by
    dsimp only [s2]
    split
    · split <;> rfl
    · rfl
  split
  · exact h2.trans h1
  · rfl

theorem seqPow_linkDown (p : Nat) (s : State) : seqPow (linkDown p s) = seqPow s := by
  have hclose (u : State) : seqPow (closePort p 3 u) = seqPow u := by
    refine foldl_keeps seqPow _ (fun t i => ?_) _ _
    split
    · exact seqPow_closeSession i 3 t
    · rfl
  have hpost (u : State) : seqPow (post 0x0003 u p) = seqPow u := rfl
  unfold linkDown
  split
  · exact (hpost _).trans (hclose _)
  · rfl

theorem seqPow_siteDown (i : Nat) (s : State) : seqPow (siteDown i s) = seqPow s := by
  unfold siteDown
  split <;> rfl

theorem seqPow_sitesDown (p : Nat) (s : State) : seqPow (sitesDown p s) = seqPow s := by
  refine foldl_keeps seqPow _ (fun t i => ?_) (portSites s p) s
  exact seqPow_siteDown i t

theorem seqPow_endSession (p : Nat) (s : State) : seqPow (endSession p s) = seqPow s := by
  unfold endSession
  extract_lets s1
  have h1 : seqPow s1 = seqPow s := by
    refine foldl_keeps seqPow _ (fun t x => ?_) (lport s p).txns s
    rfl
  clear_value s1
  exact h1

/-- Every link port goes off, and its session ends (R54). -/
def portsOff (s : State) : State :=
  (List.range 65).foldl (fun t p => setPortState p .off (endSession p (sitesDown p t))) s

theorem seqPow_portsOff (s : State) : seqPow (portsOff s) = seqPow s := by
  refine foldl_keeps seqPow _ (fun t p => ?_) _ _
  exact (seqPow_endSession p _).trans (seqPow_sitesDown p t)

theorem seqPow_channelUpdate (s : State) (c : Nat) : seqPow (channelUpdate s c) = seqPow s := by
  unfold channelUpdate
  extract_lets x on restrict s1
  split
  · split
    · rfl
    · rfl
  · split
    · rfl
    · split <;> rfl
    · split <;> rfl
    · split
      · rfl
      · split <;> rfl

/-! The switched domains of the high clocks. -/

/-- A domain that runs from the crystal goes off (R54). -/
def clockDomainOff (t : State) (d : Nat) : State :=
  if domainOn t d && (d < 64 || (85 ≤ d && d < 97) || (118 ≤ d && d ≤ 120)) then
    setDomain d (fun x => { x with state := .off }) t
  else t

/-- Only the switched domains of the two states differ. -/
def OnlyDomains (s t : State) : Prop := ∃ l, t = { s with pow := { s.pow with domains := l } }

theorem OnlyDomains.trans {s t u : State} (h : OnlyDomains s t) (h' : OnlyDomains t u) : OnlyDomains s u := by
  obtain ⟨l, rfl⟩ := h
  obtain ⟨l', rfl⟩ := h'
  exact ⟨l', rfl⟩

theorem onlyDomains_clockDomainOff (t : State) (d : Nat) : OnlyDomains t (clockDomainOff t d) := by
  unfold clockDomainOff
  split
  · exact ⟨_, rfl⟩
  · exact ⟨t.pow.domains, rfl⟩

/-- Switching one domain off leaves no other on. -/
theorem domainOn_setDomain_off {t : State} {d e : Nat} (h : d = e ∨ domainOn t e = false) :
    domainOn (setDomain d (fun x => { x with state := .off }) t) e = false := by
  have hstate : domainOn (setDomain d (fun x => { x with state := .off }) t) e =
      decide (((upd t.pow.domains d fun x =>
        let y := { x with state := .off }
        if y.state = x.state then y else { y with lastChange := t.seq.frame % 4294967296 }).getD e {}).state = .on) := rfl
  rw [hstate, getD_upd]
  split
  · refine decide_eq_false ?_
    dsimp only
    split
    · exact nofun
    · exact nofun
  case isFalse hne =>
    rcases h with rfl | h
    · have hlen : t.pow.domains.length ≤ d := by
        refine Classical.byContradiction fun hlt => ?_
        exact hne ⟨rfl, Nat.lt_of_not_le hlt⟩
      rw [getD_of_length_le _ _ hlen]
      rfl
    · exact h

theorem domainOn_clockDomainOff {t : State} {d e : Nat} (h : (d = e ∧ e < 64) ∨ domainOn t e = false) :
    domainOn (clockDomainOff t d) e = false := by
  unfold clockDomainOff
  split
  case isTrue => exact domainOn_setDomain_off (h.imp_left And.left)
  case isFalse hguard =>
    rcases h with ⟨rfl, hlt⟩ | h
    · simpa [hlt] using hguard
    · exact h

theorem domainOn_foldl_clockDomainOff {e : Nat} (he : e < 64) {l : List Nat} (hmem : e ∈ l) (t : State) :
    domainOn (l.foldl clockDomainOff t) e = false := by
  have hkeeps (l : List Nat) (t : State) (h : domainOn t e = false) : domainOn (l.foldl clockDomainOff t) e = false := by
    induction l generalizing t with
    | nil => exact h
    | cons d l ih => exact ih _ (domainOn_clockDomainOff (.inr h))
  induction l generalizing t with
  | nil => exact nomatch hmem
  | cons d l ih =>
    rcases List.mem_cons.mp hmem with rfl | hmem
    · exact hkeeps l _ (domainOn_clockDomainOff (.inl ⟨rfl, he⟩))
    · exact ih hmem _

/-! CRYSTAL_FAILURE and CRYSTAL_TRY. -/

/-- The sequencer on the RC oscillator, the module in LIMP with its dead-man engaged (R54, R130). -/
def limped (now : Nat) (s : State) : State := { s with
  seq := { s.seq with backupClock := true }
  pow := { s.pow with state := .limp, lastTry := now, noClaimFrames := 0, xtalTries := 0
                      deadMan := true, bypassClosed := true } }

/-- What the crystal's failure makes of the state before the CAN channels follow their domains. -/
def crystalOut (s : State) : State :=
  (List.range 126).foldl clockDomainOff (limped (rowNs s) (portsOff (linkDown 1 (linkDown 0 (loseRole s)))))

theorem execCrystalFailure_of_ready {s : State} (hready : s.pow.ready = true) (hclock : s.seq.backupClock = false) :
    execCrystalFailure s = .next (post 0x1041 ((List.range 12).foldl channelUpdate (crystalOut s))) := by
  unfold execCrystalFailure
  rw [hready, hclock]
  rfl

theorem execCrystalFailure_of_not_due {s : State} (h : s.pow.ready = false ∨ s.seq.backupClock = true) :
    execCrystalFailure s = .next s := by
  rcases h with h | h <;> simp [execCrystalFailure, h]

theorem seqPow_crystalOut (s : State) : ∃ l, seqPow (crystalOut s) = ({ s.seq with backupClock := true },
    { s.pow with
      plantControl := false, state := .limp, lastTry := rowNs s, noClaimFrames := 0, xtalTries := 0
      deadMan := true, bypassClosed := true, domains := l }) := by
  obtain ⟨v, m, l, k, c, p, pl, pr, hrole, -⟩ := loseRole_eq s
  have hports := (seqPow_portsOff (linkDown 1 (linkDown 0 (loseRole s)))).trans
    ((seqPow_linkDown 1 _).trans (seqPow_linkDown 0 (loseRole s)))
  rw [hrole] at hports
  obtain ⟨d, hd⟩ : OnlyDomains (limped (rowNs s) (portsOff (linkDown 1 (linkDown 0 (loseRole s))))) (crystalOut s) :=
    foldl_rel (R := OnlyDomains) (fun t => ⟨t.pow.domains, rfl⟩) (fun _ _ _ => OnlyDomains.trans)
      onlyDomains_clockDomainOff (List.range 126) _
  rw [hrole] at hd
  obtain ⟨hseq, hpow⟩ := Prod.mk.inj hports
  refine ⟨d, ?_⟩
  rw [hd]
  unfold seqPow limped
  dsimp only
  rw [hseq, hpow]

theorem execCrystalTry_pass {s : State} (hstate : s.pow.state = .limp) (htries : s.pow.xtalTries < 10)
    (hdue : s.pow.lastTry + 1000000000 ≤ rowNs s) : execCrystalTry true s = .next (post 0x2012 { s with
      pow := { s.pow with xtalTries := s.pow.xtalTries + 1, lastTry := rowNs s, resetDue := some 1 } }) := by
  rw [execCrystalTry, if_pos ⟨hstate, htries, hdue⟩]
  rfl

theorem execCrystalTry_fail {s : State} (hstate : s.pow.state = .limp) (htries : s.pow.xtalTries < 9)
    (hdue : s.pow.lastTry + 1000000000 ≤ rowNs s) : execCrystalTry false s = .next (post 0x2011 { s with
      pow := { s.pow with xtalTries := s.pow.xtalTries + 1, lastTry := rowNs s } }) := by
  have hlast : ¬ s.pow.xtalTries + 1 = 10 := by omega
  rw [execCrystalTry, if_pos ⟨hstate, by omega, hdue⟩]
  exact congrArg Host.Outcome.next (if_neg hlast)

theorem execCrystalTry_of_tried {s : State} {b : Bool} (h : 10 ≤ s.pow.xtalTries) : execCrystalTry b s = .next s :=
  if_neg fun hall => absurd hall.2.1 (Nat.not_lt.mpr h)

/-- Settles O10: the failure writes the two records after the ports' ends, and a try writes the count. -/
theorem crystalFailureAndTries : Obligations.CrystalFailureAndTries := by
  refine ⟨fun s hready hclock => ⟨_, execCrystalFailure_of_ready hready hclock, ?_⟩,
    fun s h => execCrystalFailure_of_not_due h,
    fun s hstate htries hdue => ⟨_, execCrystalTry_pass hstate htries hdue, rfl, rfl, rfl⟩,
    fun s hstate htries hdue => ⟨_, execCrystalTry_fail hstate htries hdue, rfl, rfl, rfl, rfl⟩,
    fun s b h => execCrystalTry_of_tried h⟩
  obtain ⟨l, hout⟩ := seqPow_crystalOut s
  have hchannels : seqPow ((List.range 12).foldl channelUpdate (crystalOut s)) = seqPow (crystalOut s) :=
    foldl_keeps seqPow channelUpdate seqPow_channelUpdate _ _
  obtain ⟨hseq, hpow⟩ := Prod.mk.inj (hchannels.trans hout)
  obtain ⟨-, hpow'⟩ := Prod.mk.inj hchannels
  rw [post_seq, post_pow, hseq]
  refine ⟨rfl, ?_⟩
  have hoff (d : Nat) (hd : d < 64) : domainOn (crystalOut s) d = false :=
    domainOn_foldl_clockDomainOff hd (List.mem_range.mpr (by omega)) _
  simp only [domainOn, post_pow, hpow'] at hoff ⊢
  rw [← hpow', hpow]
  exact ⟨rfl, rfl, rfl, rfl, rfl, rfl, by rwa [← hpow', hpow] at hoff⟩

end Sys2Proof.Machine
end

section
/-! SUPPORT. Rails, the supply and the switched domains (R118 to R120, R124): what a report makes of its rail, what a lost
rail leaves of the rails, and how the banks follow the supply; settles O11. -/

namespace Sys2Proof.Machine

/-! Reports of the rails of the core (R118). -/

theorem upd_comm {α : Type} (l : List α) {i j : Nat} (h : i ≠ j) (f g : α → α) :
    upd (upd l i f) j g = upd (upd l j g) i f := by
  refine List.ext_getElem? fun n => ?_
  rcases Decidable.em (i = n) with rfl | hi
  · rw [getElem?_upd_ne _ _ _ _ h.symm, getElem?_upd_self, getElem?_upd_self, getElem?_upd_ne _ _ _ _ h.symm]
  · rcases Decidable.em (j = n) with rfl | hj
    · rw [getElem?_upd_self, getElem?_upd_ne _ _ _ _ hi, getElem?_upd_ne _ _ _ _ hi, getElem?_upd_self]
    · rw [getElem?_upd_ne _ _ _ _ hj, getElem?_upd_ne _ _ _ _ hi, getElem?_upd_ne _ _ _ _ hi, getElem?_upd_ne _ _ _ _ hj]

/-- A rail that has reported after `us`. -/
def readyRail (us : Nat) (r : Rail) : Rail := { r with enabled := true, state := .ready, readyUs := us }

/-- A rail that has not reported in its time. -/
def failedRail (r : Rail) : Rail := { r with enabled := true, state := .failed }

/-- The state with rail `k` updated. -/
def updRail (k : Nat) (g : Rail → Rail) (s : State) : State := setPow (fun p => { p with rails := upd p.rails k g }) s

/-- What start-up makes of a rail that did not report (R118). -/
def railFailure (k : Nat) (s : State) : State :=
  post 0x2020 (railDomainsOff k (setPow (fun p => { p with failStep := 2 }) (updRail k failedRail s))) k

theorem railReport_of_ready {f : StartFacts} {k us : Nat} {s : State} (hoff : (s.pow.rails.getD k {}).state = .off)
    (h : f.rails.getD k (some none) = some (some us)) : railReport f k s = updRail k (readyRail us) s := by
  unfold railReport
  dsimp only
  rw [if_neg (not_not_intro hoff), h]
  rfl

theorem railReport_of_timeout {f : StartFacts} {k : Nat} {s : State} (hoff : (s.pow.rails.getD k {}).state = .off)
    (h : f.rails.getD k (some none) = some none) : railReport f k s = railFailure k s := by
  unfold railReport
  dsimp only
  rw [if_neg (not_not_intro hoff), h]
  rfl

theorem getD_rails_updRail_ne {j k : Nat} (h : k ≠ j) (g : Rail → Rail) (s : State) :
    (updRail k g s).pow.rails.getD j {} = s.pow.rails.getD j {} := getD_upd_ne _ _ _ _ _ h

theorem getD_rails_updRail_self {k : Nat} {s : State} (h : k < s.pow.rails.length) (g : Rail → Rail) :
    (updRail k g s).pow.rails.getD k {} = g (s.pow.rails.getD k {}) := getD_upd_self _ _ _ _ h

theorem updRail_comm {j k : Nat} (h : j ≠ k) (f g : Rail → Rail) (s : State) :
    updRail k g (updRail j f s) = updRail j f (updRail k g s) := by
  unfold updRail setPow
  dsimp only
  rw [upd_comm _ h]

theorem railFailure_updRail {j k : Nat} (h : j ≠ k) (f : Rail → Rail) (s : State) :
    railFailure k (updRail j f s) = updRail j f (railFailure k s) := by
  unfold railFailure
  rw [updRail_comm h]
  rfl

/-- The two rails of the core, in either order. -/
def CorePair (k j : Nat) : Prop := k = 1 ∧ j = 2 ∨ k = 2 ∧ j = 1

theorem CorePair.ne {k j : Nat} (h : CorePair k j) : k ≠ j := by
  rcases h with ⟨rfl, rfl⟩ | ⟨rfl, rfl⟩ <;> decide

/-- While rail `j` of the core is out, the report of rail `k` is taken and start-up waits on. -/
theorem fromRails_of_one_report {f : StartFacts} {k j : Nat} {s : State} {report : State → State}
    (hpair : CorePair k j) (hj : f.rails.getD j (some none) = none) (hoffj : (s.pow.rails.getD j {}).state = .off)
    (hk : ∀ t : State, t.pow.rails.getD k {} = s.pow.rails.getD k {} → railReport f k t = report t)
    (hkeeps : ∀ t : State, (report t).pow.rails.getD j {} = t.pow.rails.getD j {})
    (hcomm : ∀ t : State, report (updRail j enabledRail t) = updRail j enabledRail (report t)) :
    fromRails f s = setPow (fun p => { p with waiting := some f }) (updRail j enabledRail (report s)) := by
  obtain ⟨rest, hrest⟩ := groupsFor_head s
  have hfold : [1, 2].foldl (fun t k => railReport f k t) s = updRail j enabledRail (report s) := by
    rcases hpair with ⟨rfl, rfl⟩ | ⟨rfl, rfl⟩
    · rw [List.foldl_cons, List.foldl_cons, List.foldl_nil, hk s rfl]
      exact railReport_of_pending (by rw [hkeeps, hoffj]) hj
    · rw [List.foldl_cons, List.foldl_cons, List.foldl_nil, railReport_of_pending hoffj hj]
      exact (hk _ (getD_rails_updRail_ne (by decide) _ _)).trans (hcomm s)
  have hoff : ((updRail j enabledRail (report s)).pow.rails.getD j {}).state = .off :=
    (state_upd_enabledRail _ j j).trans (by rw [hkeeps, hoffj])
  have hmem : j ∈ [1, 2] := by
    rcases hpair with ⟨-, rfl⟩ | ⟨-, rfl⟩ <;> simp
  have hany : ([1, 2].any fun k => ((updRail j enabledRail (report s)).pow.rails.getD k {}).state = .off) = true :=
    List.any_eq_true.mpr ⟨j, hmem, decide_eq_true hoff⟩
  unfold fromRails
  rw [hrest, railGroups, hfold]
  dsimp only
  rw [hany]
  rfl

/-- The facts of a start with the report of rail `k` in them. -/
def withReport (f : StartFacts) (k : Nat) (r : Option Nat) : StartFacts := { f with rails := f.rails.set k (some r) }

theorem getD_rails_withReport_self {f : StartFacts} {k : Nat} (h : k < f.rails.length) (r : Option Nat) :
    (withReport f k r).rails.getD k (some none) = some r := by
  simp [withReport, List.getD_eq_getElem?_getD, h]

theorem getD_rails_withReport_ne {f : StartFacts} {j k : Nat} (h : k ≠ j) (r : Option Nat) :
    (withReport f k r).rails.getD j (some none) = f.rails.getD j (some none) := by
  simp [withReport, List.getD_eq_getElem?_getD, h]

theorem execRailReady_of_awaited {s : State} {f : StartFacts} {k us : Nat} (hwait : s.pow.waiting = some f)
    (hen : (s.pow.rails.getD k {}).enabled = true) (hoff : (s.pow.rails.getD k {}).state = .off) :
    execRailReady k us s = .next (fromRails (withReport f k (some us)) s) := by
  rw [execRailReady, hwait]
  dsimp only
  rw [hen, hoff]
  rfl

theorem execRailReadyTimeout_of_awaited {s : State} {f : StartFacts} {k : Nat} (hwait : s.pow.waiting = some f)
    (hen : (s.pow.rails.getD k {}).enabled = true) (hoff : (s.pow.rails.getD k {}).state = .off) :
    execRailReadyTimeout k s = .next (fromRails (withReport f k none) s) := by
  rw [execRailReadyTimeout, hwait]
  dsimp only
  rw [hen, hoff]
  rfl

/-- A rail that is not as the default is one of the rails. -/
theorem lt_of_enabled {s : State} {k : Nat} (hen : (s.pow.rails.getD k {}).enabled = true) : k < s.pow.rails.length := by
  refine Classical.byContradiction fun hge => ?_
  rw [getD_of_length_le _ _ (Nat.le_of_not_lt hge)] at hen
  exact Bool.false_ne_true hen

theorem fromRails_of_ready_report {f : StartFacts} {k j us : Nat} {s : State} (hpair : CorePair k j)
    (hj : f.rails.getD j (some none) = none) (hoff : (s.pow.rails.getD k {}).state = .off)
    (hoffj : (s.pow.rails.getD j {}).state = .off) (hlen : k < f.rails.length) :
    fromRails (withReport f k (some us)) s = setPow (fun p => { p with waiting := some (withReport f k (some us)) })
      (updRail j enabledRail (updRail k (readyRail us) s)) :=
  fromRails_of_one_report hpair ((getD_rails_withReport_ne hpair.ne _).trans hj) hoffj
    (fun t ht => railReport_of_ready (by rw [ht, hoff]) (getD_rails_withReport_self hlen _))
    (fun t => getD_rails_updRail_ne hpair.ne _ t) (fun t => updRail_comm hpair.ne.symm _ _ t)

theorem fromRails_of_timeout_report {f : StartFacts} {k j : Nat} {s : State} (hpair : CorePair k j)
    (hj : f.rails.getD j (some none) = none) (hoff : (s.pow.rails.getD k {}).state = .off)
    (hoffj : (s.pow.rails.getD j {}).state = .off) (hlen : k < f.rails.length) :
    fromRails (withReport f k none) s = setPow (fun p => { p with waiting := some (withReport f k none) })
      (updRail j enabledRail (railFailure k s)) :=
  fromRails_of_one_report hpair ((getD_rails_withReport_ne hpair.ne _).trans hj) hoffj
    (fun t ht => railReport_of_timeout (by rw [ht, hoff]) (getD_rails_withReport_self hlen _))
    (fun t => getD_rails_updRail_ne hpair.ne _ t) (fun t => railFailure_updRail hpair.ne.symm _ t)

/-! Rails that are lost (R119). -/

theorem lt_of_railReady {s : State} {k : Nat} (h : railReady s k = true) : k < s.pow.rails.length := by
  refine Classical.byContradiction fun hge => ?_
  rw [railReady, getD_of_length_le _ _ (Nat.le_of_not_lt hge)] at h
  exact Bool.false_ne_true h

theorem railLostMark_rail {k : Nat} {s : State} (h : k < s.pow.rails.length) :
    (railLostMark k s).pow.rails.getD k {} = { s.pow.rails.getD k {} with
      state := .lost, lossCount := satAdd 16 (s.pow.rails.getD k {}).lossCount 1 } := getD_upd_self _ _ _ _ h

/-- A rail that is ready is not VANA awaited in HELD. -/
theorem not_heldRail {s : State} {k : Nat} (hready : railReady s k = true) :
    ¬ (decide (k = 6) && decide (s.pow.state = .held) && !(railReady s 6)) = true := by
  rcases Decidable.em (k = 6) with rfl | h6
  · simp [hready]
  · simp [h6]

theorem execRailLost_of_core {s : State} {k : Nat} (hpower : s.pow.powerGood = true) (hk : k < 3)
    (hready : railReady s k = true) :
    execRailLost k s = .next (lastWord 0x2021 (railDomainsOff k (coreStops (railLostMark k s)))) := by
  have hup : ¬ (!(s.pow.powerGood && railReady s k)) = true := by simp [hpower, hready]
  exact congrArg Host.Outcome.next ((if_neg (not_heldRail hready)).trans ((if_neg hup).trans (if_pos hk)))

theorem execRailLost_of_other {s : State} {k : Nat} (hpower : s.pow.powerGood = true) (hk : 3 ≤ k)
    (hready : railReady s k = true) :
    execRailLost k s = .next (railConsequences k (post 0x2021 (railLostMark k s) k)) := by
  have hup : ¬ (!(s.pow.powerGood && railReady s k)) = true := by simp [hpower, hready]
  exact congrArg Host.Outcome.next
    ((if_neg (not_heldRail hready)).trans ((if_neg hup).trans (if_neg (Nat.not_lt.mpr hk))))

theorem rails_unloadGraph (g : Nat) (s : State) : (unloadGraph g s).pow.rails = s.pow.rails := rfl

theorem rails_failBank (bank : Nat) (s : State) : (failBank bank s).pow.rails = s.pow.rails := by
  unfold failBank
  extract_lets k gs s1 _ _ s2
  have h2 : s2.pow.rails = s.pow.rails := rfl
  clear_value s2
  rw [post_pow, ← h2]
  exact foldl_keeps (fun t : State => t.pow.rails) (fun t g => unloadGraph g t) (fun t g => rails_unloadGraph g t) gs s2

theorem seqPow_loseReserve (s : State) : seqPow (loseReserve s) = seqPow s := by
  unfold loseReserve
  split <;> rfl

theorem seqPow_updPort (p : Nat) (f : LinkPort → LinkPort) (s : State) : seqPow (updPort p f s) = seqPow s := rfl

theorem seqPow_setPortState (p : Nat) (st : PortState) (s : State) : seqPow (setPortState p st s) = seqPow s := rfl

theorem seqPow_probesLost (s : State) : seqPow (probesLost s) = seqPow s := by
  refine foldl_keeps seqPow _ (fun t i => ?_) (List.range s.ctl.probes.length) s
  dsimp only
  split <;> rfl

theorem seqPow_primedUnacked (p : Nat) (s : State) : seqPow (primedUnacked p s) = seqPow s := by
  unfold primedUnacked
  split <;> rfl

theorem seqPow_portDomains (s : State) : seqPow (portDomains s) = seqPow s := by
  refine foldl_keeps seqPow _ (fun t p => ?_) _ _
  unfold portDomain
  extract_lets d
  split
  · rw [seqPow_setPortState, seqPow_updPort, portEnds, seqPow_endSession, seqPow_primedUnacked, seqPow_sitesDown]
  · rfl

theorem rails_reloadsFail (s : State) : (reloadsFail s).pow.rails = s.pow.rails := by
  refine foldl_keeps (fun t : State => t.pow.rails) _ (fun t b => ?_) s.eng.reload s
  split
  · exact rails_failBank b t
  · rfl

theorem rails_engineOff (s : State) : (engineOff s).pow.rails = s.pow.rails := by
  unfold engineOff
  refine (foldl_keeps (fun t : State => t.pow.rails) _ (fun t g => ?_) _ _).trans rfl
  split <;> rfl

theorem rails_of_seqPow {s t : State} (h : seqPow t = seqPow s) : t.pow.rails = s.pow.rails :=
  congrArg (fun x : Sequencer × Power => x.2.rails) h

/-- What follows from a lost rail leaves the rails. -/
theorem rails_railConsequences (k : Nat) (s : State) : (railConsequences k s).pow.rails = s.pow.rails := by
  unfold railConsequences
  extract_lets s1
  have h1 : s1.pow.rails = s.pow.rails := rfl
  clear_value s1
  rw [← h1]
  split
  · exact rails_engineOff s1
  · exact rails_of_seqPow (seqPow_portDomains s1)
  · rw [rails_reloadsFail, rails_of_seqPow (seqPow_probesLost _), rails_of_seqPow (seqPow_loseReserve _)]
    rfl
  · split
    · obtain ⟨v, m, l, k, c, p, pl, pr, h, -⟩ := loseRole_eq s1
      rw [enterHeldState, h]
      rfl
    · obtain ⟨v, h⟩ := banksRefresh_eq s1
      rw [h]
      rfl
  · exact rails_of_seqPow ((seqPow_linkDown 1 _).trans (seqPow_linkDown 0 s1))
  · rfl

/-! The domains of a rail (R119). -/

theorem domains_railDomainsOff_of_holds {k d : Nat} {s : State} {x : Domain} (hx : s.pow.domains[d]? = some x)
    (h : railHolds k d = true) : ((railDomainsOff k s).pow.domains.getD d {}).state = .failed ∧
      ((railDomainsOff k s).pow.domains.getD d {}).failReason = 2 := by
  simp [railDomainsOff, List.getD_eq_getElem?_getD, hx, h]

theorem domains_railDomainsOff_of_other {k d : Nat} (s : State) (h : railHolds k d = false) :
    (railDomainsOff k s).pow.domains.getD d {} = s.pow.domains.getD d {} := by
  cases hx : s.pow.domains[d]? <;> simp [railDomainsOff, List.getD_eq_getElem?_getD, hx, h]

theorem domainOn_railDomainsOff {k d : Nat} (s : State) (h : railHolds k d = true) :
    domainOn (railDomainsOff k s) d = false := by
  rw [domainOn]
  cases hx : s.pow.domains[d]? with
  | none => simp [railDomainsOff, List.getD_eq_getElem?_getD, hx]
  | some x =>
    obtain ⟨hstate, -⟩ := domains_railDomainsOff_of_holds hx h
    rw [hstate]
    rfl

/-! The Ethernet ports (R579). -/

theorem ports_closeSession (i cause : Nat) (s : State) : (closeSession i cause s).mgmt.ports = s.mgmt.ports := by
  unfold closeSession
  extract_lets s1 s2 mine s3
  have h1 : s1.mgmt.ports = s.mgmt.ports := by
    dsimp only [s1]
    split
    · split <;> rfl
    · rfl
  have h2 : s2.mgmt.ports = s1.mgmt.ports := by
    dsimp only [s2]
    split
    · split <;> rfl
    · rfl
  split
  · exact h2.trans h1
  · rfl

theorem ports_closePort (p cause : Nat) (s : State) : (closePort p cause s).mgmt.ports = s.mgmt.ports := by
  unfold closePort
  refine foldl_keeps (fun t : State => t.mgmt.ports) _ (fun t i => ?_) _ _
  split
  · exact ports_closeSession i cause t
  · rfl

/-- A port's loss of its link leaves the other ports. -/
theorem ports_linkDown (p : Nat) (s : State) : (linkDown p s).mgmt.ports = s.mgmt.ports ∧ (ethPort s p).linkUp = false ∨
    (linkDown p s).mgmt.ports = upd s.mgmt.ports p fun x =>
      { x with linkUp := false, linkLocal := false, ipv4 := 0, prefixLen := 0, addressed := false } := by
  unfold linkDown
  split
  case isTrue =>
    dsimp only
    rw [post_mgmt, ports_closePort]
    exact .inr rfl
  case isFalse h => exact .inl ⟨rfl, Bool.eq_false_iff.mpr h⟩

theorem linkUp_linkDown (p : Nat) (s : State) : (ethPort (linkDown p s) p).linkUp = false := by
  unfold ethPort
  rcases ports_linkDown p s with ⟨h, hup⟩ | h
  · rw [h]
    exact hup
  · rw [h, getD_upd]
    split
    · rfl
    case isFalse hlt =>
      rw [getD_of_length_le _ _ (Nat.le_of_not_lt fun hp => hlt ⟨rfl, hp⟩)]

theorem ethPort_linkDown_ne {p q : Nat} (h : p ≠ q) (s : State) : ethPort (linkDown p s) q = ethPort s q := by
  unfold ethPort
  rcases ports_linkDown p s with ⟨hports, -⟩ | hports
  · rw [hports]
  · rw [hports, getD_upd_ne _ _ _ _ _ h]

/-! The banks and the 24 V supply (R120, R410). -/

/-- A fold that meets `x` establishes what its turn for `x` establishes and every other turn keeps. -/
theorem foldl_reaches {α β : Type} {P Q : β → Prop} {f : β → α → β} {x : α} (hQ : ∀ b a, Q b → Q (f b a))
    (hP : ∀ b a, Q b → P b → P (f b a)) (hx : ∀ b, Q b → P (f b x)) {l : List α} (hmem : x ∈ l) {b : β} (h : Q b) :
    P (l.foldl f b) := by
  have hkeeps (l : List α) (b : β) (hq : Q b) (hp : P b) : P (l.foldl f b) := by
    induction l generalizing b with
    | nil => exact hp
    | cons a l ih => exact ih _ (hQ b a hq) (hP b a hq hp)
  induction l generalizing b with
  | nil => exact nomatch hmem
  | cons a l ih =>
    rcases List.mem_cons.mp hmem with rfl | hmem
    · exact hkeeps l _ (hQ b x h) (hx b h)
    · exact ih hmem (hQ b a h)

theorem inCurrent_dropChannel {s : State} {c d : Nat} (h : c = d ∨ inCurrent (vch s d).drive = false) :
    inCurrent (vch (dropChannel s c) d).drive = false := by
  rw [dropChannel, vch_updCh]
  split
  · dsimp only
    split
    · rfl
    case isFalse hdrive =>
      split
      · rfl
      · exact Bool.eq_false_iff.mpr hdrive
  case isFalse hne =>
    rcases h with rfl | h
    · rw [vch, getD_of_length_le _ _ (Nat.le_of_not_lt fun hlt => hne ⟨rfl, hlt⟩)]
      rfl
    · exact h

theorem inCurrent_dropBank {s : State} {b c : Nat} (h : c ∈ bankChs b ∨ inCurrent (vch s c).drive = false) :
    inCurrent (vch (dropBank b s) c).drive = false := by
  unfold dropBank
  generalize bankChs b = l at h ⊢
  rcases h with h | h
  · exact foldl_reaches (f := dropChannel) (P := fun t => inCurrent (vch t c).drive = false) (Q := fun _ => True)
      (fun _ _ _ => trivial)
      (fun _ _ _ ht => inCurrent_dropChannel (.inr ht)) (fun _ _ => inCurrent_dropChannel (.inl rfl)) h trivial
  · induction l generalizing s with
    | nil => exact h
    | cons d l ih => exact ih (inCurrent_dropChannel (.inr h))

theorem banks_dropBank (b : Nat) (s : State) : (dropBank b s).valve.banks = s.valve.banks := by
  unfold dropBank
  refine foldl_keeps (fun t : State => t.valve.banks) _ (fun t c => ?_) _ _
  rfl

theorem vbank_updBank (b b' : Nat) (f : ValveBank → ValveBank) (s : State) :
    vbank (updBank b f s) b' = if b = b' ∧ b' < s.valve.banks.length then f (vbank s b') else vbank s b' :=
  getD_upd _ _ _ _ _

theorem vbank_bankRefresh_ne {b b' : Nat} (h : b' ≠ b) (s : State) : vbank (bankRefresh s b') b = vbank s b := by
  have hupd (f : ValveBank → ValveBank) : vbank (updBank b' f s) b = vbank s b := by
    rw [vbank_updBank, if_neg fun hb => h hb.1]
  unfold bankRefresh
  extract_lets on
  split
  · split
    · exact hupd _
    · rfl
  · split
    · rfl
    · rw [vbank, banks_dropBank]
      exact hupd _
  · rfl
  · rfl
  · rfl

theorem inCurrent_bankRefresh {s : State} {c : Nat} (b : Nat) (h : inCurrent (vch s c).drive = false) :
    inCurrent (vch (bankRefresh s b) c).drive = false := by
  unfold bankRefresh
  extract_lets on
  split
  · split <;> exact h
  · split
    · exact h
    · exact inCurrent_dropBank (.inr h)
  · exact h
  · exact h
  · exact h

section
variable {s : State} {b : Nat}

theorem bankRefresh_of_off_unpowered (hoff : (vbank s b).state = .off) (h : bankConditions s b = false) :
    bankRefresh s b = s := by
  simp [bankRefresh, hoff, h]

theorem bankRefresh_of_on_unpowered (hon : (vbank s b).state = .on) (h : bankConditions s b = false) :
    bankRefresh s b = dropBank b (updBank b (fun x => { x with state := .off, thermWarn := false }) s) := by
  simp [bankRefresh, hon, h]

theorem bankRefresh_of_off_powered (hoff : (vbank s b).state = .off) (h : bankConditions s b = true) :
    bankRefresh s b = updBank b (fun x => { x with state := .on }) s := by
  simp [bankRefresh, hoff, h]

theorem bankRefresh_of_on_powered (hon : (vbank s b).state = .on) (h : bankConditions s b = true) :
    bankRefresh s b = s := by
  simp [bankRefresh, hon, h]

theorem bankConditions_bankRefresh (b' : Nat) : bankConditions (bankRefresh s b') b = bankConditions s b := by
  obtain ⟨v, h⟩ := onlyValve_bankRefresh s b'
  rw [h]
  rfl

end

/-- A bank that is off, its channels without current. -/
def BankDark (b : Nat) (s : State) : Prop :=
  (vbank s b).state = .off ∧ ∀ i < 8, inCurrent (vch s (8 * b + i)).drive = false

theorem bankDark_post {b : Nat} {s : State} (code : Nat) (h : BankDark b s) : BankDark b (post code s) := h

theorem mem_bankChs {b i : Nat} (h : i < 8) : 8 * b + i ∈ bankChs b :=
  List.mem_map.mpr ⟨i, List.mem_range.mpr h, rfl⟩

/-- Without its conditions a bank goes off, and stays so. -/
theorem bankDark_bankRefresh {s : State} {b : Nat} (h : bankConditions s b = false)
    (hstate : (vbank s b).state = .on ∨ BankDark b s) : BankDark b (bankRefresh s b) := by
  rcases hstate with hon | hdark
  · rw [bankRefresh_of_on_unpowered hon h]
    refine ⟨?_, fun i hi => inCurrent_dropBank (.inl (mem_bankChs hi))⟩
    rw [vbank, banks_dropBank]
    refine (congrArg ValveBank.state (vbank_updBank b b _ s)).trans ?_
    split
    · rfl
    case isFalse hlt =>
      rw [vbank, getD_of_length_le _ _ (Nat.le_of_not_lt fun hb => hlt ⟨rfl, hb⟩)]
  · rwa [bankRefresh_of_off_unpowered hdark.1 h]

theorem bankDark_of_ne {s : State} {b b' : Nat} (hne : b' ≠ b) (h : BankDark b s) : BankDark b (bankRefresh s b') :=
  ⟨(congrArg ValveBank.state (vbank_bankRefresh_ne hne s)).trans h.1, fun i hi => inCurrent_bankRefresh b' (h.2 i hi)⟩

theorem banksRefresh_dark {s : State} {b : Nat} (hb : b < 6) (h : bankConditions s b = false)
    (hon : (vbank s b).state = .on) : BankDark b (banksRefresh s) := by
  refine foldl_reaches (Q := fun t => bankConditions t b = false ∧ ((vbank t b).state = .on ∨ BankDark b t))
    (fun t b' ht => ?_) (fun t b' ht hdark => ?_) (fun t ht => bankDark_bankRefresh ht.1 ht.2)
    (List.mem_range.mpr hb) ⟨h, .inl hon⟩
  · refine ⟨(bankConditions_bankRefresh b').trans ht.1, ?_⟩
    rcases Decidable.em (b' = b) with rfl | hne
    · exact .inr (bankDark_bankRefresh ht.1 ht.2)
    · exact ht.2.imp (congrArg ValveBank.state (vbank_bankRefresh_ne hne t)).trans (bankDark_of_ne hne)
  · rcases Decidable.em (b' = b) with rfl | hne
    · exact bankDark_bankRefresh ht.1 ht.2
    · exact bankDark_of_ne hne hdark

/-- With its conditions a bank that is off comes on, and stays so. -/
theorem vbank_bankRefresh_on {s : State} {b : Nat} (h : bankConditions s b = true) (hlen : b < s.valve.banks.length)
    (hstate : (vbank s b).state = .off ∨ (vbank s b).state = .on) : (vbank (bankRefresh s b) b).state = .on := by
  rcases hstate with hoff | hon
  · rw [bankRefresh_of_off_powered hoff h, vbank_updBank, if_pos ⟨rfl, hlen⟩]
  · rwa [bankRefresh_of_on_powered hon h]

theorem length_banks_bankRefresh (s : State) (b : Nat) :
    (bankRefresh s b).valve.banks.length = s.valve.banks.length := by
  unfold bankRefresh
  extract_lets on
  split
  · split
    · exact length_upd _ _ _
    · rfl
  · split
    · rfl
    · rw [banks_dropBank]
      exact length_upd _ _ _
  · rfl
  · rfl
  · rfl

theorem banksRefresh_on {s : State} {b : Nat} (hb : b < 6) (h : bankConditions s b = true)
    (hlen : b < s.valve.banks.length) (hoff : (vbank s b).state = .off) : (vbank (banksRefresh s) b).state = .on := by
  refine foldl_reaches (P := fun t => (vbank t b).state = .on) (Q := fun t => bankConditions t b = true ∧
      b < t.valve.banks.length ∧ ((vbank t b).state = .off ∨ (vbank t b).state = .on))
    (fun t b' ht => ?_) (fun t b' ht hon => ?_) (fun t ht => vbank_bankRefresh_on ht.1 ht.2.1 ht.2.2)
    (List.mem_range.mpr hb) ⟨h, hlen, .inl hoff⟩
  · obtain ⟨hcond, hlt, hstate⟩ := ht
    refine ⟨(bankConditions_bankRefresh b').trans hcond, by rwa [length_banks_bankRefresh], ?_⟩
    rcases Decidable.em (b' = b) with rfl | hne
    · exact .inr (vbank_bankRefresh_on hcond hlt hstate)
    · rwa [vbank_bankRefresh_ne hne]
  · rcases Decidable.em (b' = b) with rfl | hne
    · exact vbank_bankRefresh_on ht.1 ht.2.1 ht.2.2
    · rwa [vbank_bankRefresh_ne hne]

theorem execAct24Absent_of_running {s : State} (habsent : s.pow.act24Absent = false) (hruns : coreRuns s = true) :
    execAct24Absent s = .next (post 0x2023
      (banksRefresh (setPow (fun p => { p with act24 := false, act24Absent := true }) s))) := by
  have hpower : s.pow.powerGood = true := (Bool.and_eq_true_iff.mp hruns).1
  simp [execAct24Absent, habsent, hruns, hpower]

theorem execAct24Present_of_off {s : State} (hpower : s.pow.powerGood = true) (h : s.pow.act24 = false) :
    execAct24Present s =
      .next (banksRefresh (setPow (fun p => { p with act24 := true, act24Absent := false }) s)) := by
  simp [execAct24Present, hpower, h]

/-! The cycle of a switched domain (R124). -/

theorem domainParent_of_port {d : Nat} (h : d < 64 ∨ d = 120) : domainParent d = none := by
  unfold domainParent
  rw [if_neg (by omega), if_neg (by omega)]

theorem domainPort_of_port {d : Nat} (h : d < 64 ∨ d = 120) : domainPort d = some (if d = 120 then 64 else d) := by
  unfold domainPort
  rcases h with h | rfl
  · rw [if_pos h, if_neg (by omega)]
  · rfl

theorem execDomainCycleComplete_of_locked {s : State} {d us : Nat} (hcycling : (s.pow.domains.getD d {}).state = .cycling)
    (hrail : railReady s (domainRail d) = true) (hd : d < 64 ∨ d = 120) (hus : us ≤ 2000) :
    execDomainCycleComplete d us s =
      .next (setDomain d (fun x => { x with state := .on }) (storeLock (if d = 120 then 64 else d) us s)) := by
  unfold execDomainCycleComplete
  rw [domainParent_of_port hd, domainPort_of_port hd]
  simp [hcycling, hrail, lockLimit, -List.getD_eq_getElem?_getD, hus]

theorem execDomainCycleComplete_of_unlocked {s : State} {d us : Nat}
    (hcycling : (s.pow.domains.getD d {}).state = .cycling) (hrail : railReady s (domainRail d) = true)
    (hd : d < 64 ∨ d = 120) (hus : 2000 < us) : execDomainCycleComplete d us s =
      .next (portDomains (failCycle d (storeLock (if d = 120 then 64 else d) us s))) := by
  unfold execDomainCycleComplete
  rw [domainParent_of_port hd, domainPort_of_port hd]
  simp [hcycling, hrail, lockLimit, -List.getD_eq_getElem?_getD, Nat.not_le.mpr hus]

theorem storeLock_of_locked {p us : Nat} (h : us ≤ 2000) (s : State) :
    ∃ w, storeLock p us s = { s with pow := w } ∧ w.domains = s.pow.domains := by
  unfold storeLock
  rw [show decide (lockLimit < us) = false from decide_eq_false (Nat.not_lt.mpr h)]
  exact ⟨_, rfl, rfl⟩

theorem storeLock_log_of_unlocked {p us : Nat} (h : 2000 < us) (s : State) :
    (storeLock p us s).log = logPost s.log (mkEvent s 0x2030 p 6 []) := by
  unfold storeLock
  rw [show decide (lockLimit < us) = true from decide_eq_true h]
  rfl

/-- Settles O11: reports and losses act on their own rail, the banks on their conditions, and a cycle on its domain. -/
theorem railsReadyLostAndSupply : Obligations.RailsReadyLostAndSupply := by
  refine ⟨fun s f k us hwait hen hoff =>
      ⟨execRailReady_of_awaited hwait hen hoff, execRailReadyTimeout_of_awaited hwait hen hoff⟩,
    fun s f k j us hwait hpair hen hoff hoffj hj hk hnone =>
      ⟨_, execRailReady_of_awaited hwait hen hoff, ?ready⟩,
    fun s f k j hwait hpair hen hoff hoffj hj hk hnone =>
      ⟨_, execRailReadyTimeout_of_awaited hwait hen hoff, ?timeout⟩,
    fun s k us hwait => ⟨?idleTimeout, fun h6 => ?idleReady⟩,
    fun s us hwait hheld hready hrail hvana => ?vana,
    fun s k hpower hk hready => ⟨_, execRailLost_of_core hpower hk hready, ?core⟩,
    fun s k hpower hk hready => ⟨_, _, execRailLost_of_other hpower hk hready, rfl, ?other⟩,
    fun s k d x hx h => domains_railDomainsOff_of_holds hx h,
    fun s k d h => domains_railDomainsOff_of_other s h,
    fun s hpower hready => ⟨_, execRailLost_of_other hpower (by decide) hready, ?vmgmt⟩,
    fun s habsent hruns => ⟨_, execAct24Absent_of_running habsent hruns, ?absent⟩,
    fun s hpower h => ⟨_, execAct24Present_of_off hpower h, ?present⟩,
    fun s d us hcycling hrail hd hus => ⟨_, execDomainCycleComplete_of_locked hcycling hrail hd hus, ?locked⟩,
    fun s d us hcycling hrail hd hus =>
      ⟨_, execDomainCycleComplete_of_unlocked hcycling hrail hd hus, storeLock_log_of_unlocked hus s⟩,
    fun s d us h => congrArg Host.Outcome.next (if_pos h)⟩
  case ready =>
    have hkj : k ≠ j := CorePair.ne hpair
    rw [fromRails_of_ready_report hpair hnone hoff hoffj hk]
    have hrailk : (updRail j enabledRail (updRail k (readyRail us) s)).pow.rails.getD k {} =
        readyRail us (s.pow.rails.getD k {}) :=
      (getD_rails_updRail_ne hkj.symm _ _).trans (getD_rails_updRail_self (lt_of_enabled hen) _)
    have hrailj : ((updRail j enabledRail (updRail k (readyRail us) s)).pow.rails.getD j {}).state = .off :=
      (state_upd_enabledRail _ j j).trans ((congrArg Rail.state (getD_rails_updRail_ne hkj _ _)).trans hoffj)
    exact ⟨congrArg Rail.state hrailk, congrArg Rail.readyUs hrailk, hrailj, rfl, rfl⟩
  case timeout =>
    have hkj : k ≠ j := CorePair.ne hpair
    rw [fromRails_of_timeout_report hpair hnone hoff hoffj hk]
    have hrailk : (updRail j enabledRail (railFailure k s)).pow.rails.getD k {} = failedRail (s.pow.rails.getD k {}) :=
      (getD_rails_updRail_ne hkj.symm _ _).trans (getD_rails_updRail_self (lt_of_enabled hen) _)
    refine ⟨congrArg Rail.state hrailk, rfl, rfl, rfl, fun d hd => ?_⟩
    have hholds : railHolds k d = true := by
      rcases hpair with ⟨rfl, -⟩ | ⟨rfl, -⟩ <;> simp [railHolds]
    exact (domains_railDomainsOff_of_holds
      (s := setPow (fun p => { p with failStep := 2 }) (updRail k failedRail s)) (List.getElem?_eq_getElem hd) hholds).1
  case idleTimeout => rw [exec, execRailReadyTimeout, hwait]
  case idleReady => simp [exec, execRailReady, hwait, h6]
  case vana =>
    simp [exec, execRailReady, hwait, hheld, hready, hrail, hvana, setPow]
  case core =>
    obtain ⟨v, m, l, kk, c, p, pl, pr, hstop, -⟩ := coreStops_eq (railLostMark k s)
    rw [hstop]
    exact ⟨rfl, rfl, rfl, congrArg Rail.state (railLostMark_rail (lt_of_railReady hready))⟩
  case other =>
    have hrail := railLostMark_rail (lt_of_railReady hready)
    rw [rails_railConsequences, post_pow, hrail]
    exact ⟨rfl, rfl, rfl⟩
  case vmgmt =>
    have hpow := congrArg Prod.snd ((seqPow_linkDown 1 _).trans
      (seqPow_linkDown 0 (railDomainsOff 7 (post 0x2021 (railLostMark 7 s) 7))))
    have hoff (d : Nat) (h : railHolds 7 d = true) :
        domainOn (linkDown 1 (linkDown 0 (railDomainsOff 7 (post 0x2021 (railLostMark 7 s) 7)))) d = false :=
      (congrArg (fun p : Power => decide ((p.domains.getD d {}).state = .on)) hpow).trans (domainOn_railDomainsOff _ h)
    exact ⟨hoff 118 rfl, hoff 119 rfl, (congrArg EthPort.linkUp (ethPort_linkDown_ne (by decide) _)).trans
      (linkUp_linkDown 0 _), linkUp_linkDown 1 _,
      (congrArg Power.state hpow).trans rfl⟩
  case absent =>
    obtain ⟨v, hv⟩ := banksRefresh_eq (setPow (fun p => { p with act24 := false, act24Absent := true }) s)
    refine ⟨by rw [hv]; rfl, by rw [hv]; rfl, fun b hb hon => ?_⟩
    exact bankDark_post 0x2023 (banksRefresh_dark (s := setPow (fun p => { p with act24 := false, act24Absent := true }) s)
      hb (Bool.and_false _) hon)
  case present =>
    obtain ⟨v, hv⟩ := banksRefresh_eq (setPow (fun p => { p with act24 := true, act24Absent := false }) s)
    refine ⟨by rw [hv]; rfl, by rw [hv]; rfl, fun b hlen hb hoff hcontrol hdomain => ?_⟩
    have hcond : bankConditions (setPow (fun p => { p with act24 := true, act24Absent := false }) s) b = true := by
      rw [bankConditions, Bool.and_eq_true, Bool.and_eq_true]
      exact ⟨⟨hcontrol, hdomain⟩, rfl⟩
    exact banksRefresh_on hb hcond hlen hoff
  case locked =>
    obtain ⟨w, hw, hdomains⟩ := storeLock_of_locked (p := if d = 120 then 64 else d) hus s
    have hlen : d < s.pow.domains.length := by
      refine Classical.byContradiction fun hge => ?_
      rw [getD_of_length_le _ _ (Nat.le_of_not_lt hge)] at hcycling
      exact nomatch hcycling
    rw [hw]
    unfold setDomain
    dsimp only
    rw [hdomains, getD_upd_self _ _ _ _ hlen]
    refine ⟨?_, rfl, fun e he => getD_upd_ne _ _ _ _ _ he.symm, rfl⟩
    split <;> rfl

end Sys2Proof.Machine
end

section
/-! SUPPORT. Calibration, the copies of the key and the rollback counter after READY (R107 to R109, R126, R127): what each
command writes when it is due; settles O13. -/

namespace Sys2Proof.Machine

/-- Only the log of the two states differs. -/
def OnlyLog (s t : State) : Prop := ∃ l, t = { s with log := l }

theorem OnlyLog.refl (s : State) : OnlyLog s s := ⟨s.log, rfl⟩

theorem OnlyLog.trans {s t u : State} (h : OnlyLog s t) (h' : OnlyLog t u) : OnlyLog s u := by
  obtain ⟨l, rfl⟩ := h
  obtain ⟨l', rfl⟩ := h'
  exact ⟨l', rfl⟩

/-- A fold that posts events for some of its elements changes only the log. -/
theorem onlyLog_foldl_post {α : Type} (p : α → Bool) (event : α → State → State)
    (hevent : ∀ a t, OnlyLog t (event a t)) (l : List α) (s : State) :
    OnlyLog s (l.foldl (fun t a => if p a then event a t else t) s) := by
  refine foldl_rel (R := OnlyLog) OnlyLog.refl (fun _ _ _ => OnlyLog.trans) (fun t a => ?_) l s
  split
  · exact hevent a t
  · exact .refl t

theorem onlyLog_calEvents (g : Nat) (old new : AfeCal) (s : State) : OnlyLog s (calEvents g old new s) :=
  onlyLog_foldl_post (fun i => (calItems new).getD i false && !(calItems old).getD i false)
    (fun i t => post 0x2030 t g i) (fun _ _ => ⟨_, rfl⟩) (List.range 5) s

theorem onlyLog_driftEvents (g : Nat) (start old new : AfeCal) (s : State) :
    OnlyLog s (driftEvents g start old new s) :=
  onlyLog_foldl_post (fun i => (calDrifts start new).getD i false && !(calDrifts start old).getD i false)
    (fun i t => post 0x2031 t g i) (fun _ _ => ⟨_, rfl⟩) (List.range 5) s

theorem execPeriodicCalibration_of_due {s : State} {g : Nat} {r : AfeCal} (hop : operating s = true)
    (hdomain : domainOn s (103 + g) = true) (hg : g < 8) (hage : s.pow.calFrame.getD g 0 + 6000000 ≤ s.seq.frame)
    (hone : s.pow.calFrame.all (· ≠ s.seq.frame) = true) :
    ∃ l, execPeriodicCalibration g r.toAdcCal r.toSourceCal s = .next { s with
      pow := { s.pow with
        calAfe := upd s.pow.calAfe g (fun _ => r), calFrame := upd s.pow.calFrame g (fun _ => s.seq.frame) }
      log := l } := by
  have hlong : 6000000 ≤ since s (s.pow.calFrame.getD g 0) := Nat.le_sub_of_add_le (by omega)
  have hguard : (operating s && domainOn s (103 + g) && decide (g < 8) &&
      (decide (6000000 ≤ since s (s.pow.calFrame.getD g 0)) || calibrationAsked s g) &&
      s.pow.calFrame.all (· ≠ s.seq.frame)) = true := by
    rw [hop, hdomain, hone, decide_eq_true hg, decide_eq_true hlong]
    rfl
  unfold execPeriodicCalibration
  dsimp only
  rw [if_pos hguard]
  obtain ⟨l, hl⟩ := onlyLog_calEvents g (s.pow.calAfe.getD g {}) r s
  obtain ⟨l', hl'⟩ := onlyLog_driftEvents g (s.pow.calStart.getD g {}) (s.pow.calAfe.getD g {}) r { s with
    pow := { s.pow with
      calAfe := upd s.pow.calAfe g (fun _ => r), calFrame := upd s.pow.calFrame g (fun _ => s.seq.frame) }
    log := l }
  refine ⟨l', congrArg Host.Outcome.next (Eq.trans ?_ hl')⟩
  rw [hl]
  rfl

theorem execPeriodicCalibration_of_same_frame {s : State} {g : Nat} {r : AfeCal}
    (h : s.pow.calFrame.any (· = s.seq.frame) = true) :
    execPeriodicCalibration g r.toAdcCal r.toSourceCal s = .next s := by
  have hall : s.pow.calFrame.all (· ≠ s.seq.frame) = false := by
    obtain ⟨f, hf, heq⟩ := List.any_eq_true.mp h
    exact List.all_eq_false.mpr ⟨f, hf, by simpa using heq⟩
  unfold execPeriodicCalibration
  dsimp only
  rw [hall, Bool.and_false]
  rfl

theorem execUpperFillComplete_of_filled {s : State} (hready : s.pow.ready = true) (hddr : s.pow.ddrOk = true)
    (hdomain : domainOn s 121 = true) :
    execUpperFillComplete s = .next { s with pow := { s.pow with upperFill := true } } := by
  rw [execUpperFillComplete, hready, hddr, hdomain]
  rfl

/-! The copies of the key (R107 to R109). -/

theorem copyStatus_setStatus (c : Copy) (x : CopyStatus) (k : Key) : copyStatus (setStatus c x k) c = x := by
  cases c <;> rfl

/-- Setting a copy's status leaves what the key device holds besides. -/
theorem setStatus_keeps (c : Copy) (x : CopyStatus) (k : Key) :
    (setStatus c x k).otherChecking = k.otherChecking ∧ (setStatus c x k).selected = k.selected ∧
    (setStatus c x k).otherState = k.otherState := by
  cases c <;> exact ⟨rfl, rfl, rfl⟩

/-- The key's record once the other copy has been judged. -/
def otherChecked (c : Copy) (r : CopyCheck) (s : State) : State := { s with
  key := setStatus (otherCopy c) (statusOf r)
    { s.key with otherChecking := false, otherState := if r.reason = 0 then 1 else 2 } }

theorem execOtherCopyCheck_of_due {s : State} {c : Copy} (hselected : s.key.selected = some c)
    (hready : s.pow.ready = true) (hcheck : s.key.otherChecking = true) {r : CopyCheck}
    (hr : r = if s.key.lost then ⟨16, 0xFFFF, 0, 0, none⟩ else verifyCopy (otherCopy c) s) :
    execOtherCopyCheck s =
      .next (if r.reason = 0 then otherChecked c r s else post 0x3008 (otherChecked c r s)) := by
  unfold execOtherCopyCheck
  rw [hselected]
  dsimp only
  rw [hready, hcheck, ← hr]
  rfl

theorem otherChecked_key (c : Copy) (r : CopyCheck) (s : State) :
    (otherChecked c r s).key.otherChecking = false ∧ (otherChecked c r s).key.selected = s.key.selected ∧
    (otherChecked c r s).key.otherState = (if r.reason = 0 then 1 else 2) ∧
    (copyStatus (otherChecked c r s).key (otherCopy c)).reason = r.reason := by
  obtain ⟨hchecking, hselected, hstate⟩ := setStatus_keeps (otherCopy c) (statusOf r)
    { s.key with otherChecking := false, otherState := if r.reason = 0 then 1 else 2 }
  exact ⟨hchecking, hselected, hstate, congrArg CopyStatus.reason (copyStatus_setStatus _ _ _)⟩

/-! The rollback counter (R108). -/

/-- The state after the counter has been advanced to a level. -/
def rollbackAt (level : Nat) (s : State) : State :=
  post 0x3006 (setSec (fun x => { x with fuses := { x.fuses with rollback := level } }) s)

/-- The other copy, whose level now lies below the counter, no longer counts (R108). -/
def otherOutdated (c : Copy) (s : State) : State :=
  post 0x3007 { s with key := { setStatus (otherCopy c) { copyStatus s.key (otherCopy c) with reason := 17 } s.key with
    otherState := 2, otherChecking := false } }

theorem execRollbackAdvance_of_due {s : State} {c : Copy} {f : Nat} (hselected : s.key.selected = some c)
    (hsince : s.key.controlNormalSince = some f) (hframe : s.seq.frame % 100 = 0) (hdue : f + 6000000 ≤ s.seq.frame)
    (hlevel : s.sec.fuses.rollback < (copyStatus s.key c).level) :
    execRollbackAdvance s = .next (if (copyStatus s.key (otherCopy c)).reason = 0 ∧
        (copyStatus s.key (otherCopy c)).level < (copyStatus s.key c).level
      then otherOutdated c (rollbackAt (copyStatus s.key c).level s) else rollbackAt (copyStatus s.key c).level s) := by
  unfold execRollbackAdvance
  rw [hselected, hsince]
  simp only [hframe, hdue, hlevel, Bool.and_eq_true, decide_eq_true_eq, and_self, if_true]
  rfl

theorem execRollbackAdvance_of_none {s : State} (h : s.key.controlNormalSince = none) :
    execRollbackAdvance s = .next s := by
  unfold execRollbackAdvance
  rw [h]
  split
  case h_1 c f hc hf => exact nomatch hf
  · rfl

theorem copyStatus_otherOutdated (c : Copy) (s : State) :
    (copyStatus (otherOutdated c s).key (otherCopy c)).reason = 17 := by
  cases c <;> rfl

theorem execKeyLoss_of_present {s : State} (hready : s.pow.ready = true) (hsource : s.key.source ≠ 0)
    (hlost : s.key.lost = false) (hupdate : s.mgmt.update = none) :
    execKeyLoss s = .next (post 0x3009 { s with key := { s.key with lost := true } }) := by
  simp [execKeyLoss, hready, hsource, hlost, hupdate]

/-- Settles O13: each command writes its own record once its conditions hold. -/
theorem calibrationAndKeyAfterReady : Obligations.CalibrationAndKeyAfterReady := by
  refine ⟨fun s g r hop hdomain hg hlen hlen' hage hone => ?calibrate,
    fun s g r h => execPeriodicCalibration_of_same_frame h,
    fun s hready hddr hdomain => execUpperFillComplete_of_filled hready hddr hdomain,
    fun s c hselected hready hcheck => ⟨_, execOtherCopyCheck_of_due hselected hready hcheck rfl, ?other⟩,
    fun s c f hselected hsince hframe hdue hlevel =>
      ⟨_, execRollbackAdvance_of_due hselected hsince hframe hdue hlevel, ?rollback⟩,
    fun s h => execRollbackAdvance_of_none h,
    fun s hready hsource hlost hupdate => ⟨_, execKeyLoss_of_present hready hsource hlost hupdate, rfl, rfl, rfl⟩⟩
  case calibrate =>
    obtain ⟨l, hl⟩ := execPeriodicCalibration_of_due (r := r) hop hdomain hg hage hone
    exact ⟨_, hl, getD_upd_self _ _ _ _ (hlen ▸ hg), getD_upd_self _ _ _ _ (hlen' ▸ hg),
      fun h hh => getD_upd_ne _ _ _ _ _ hh.symm, rfl⟩
  case other =>
    generalize hr : (if s.key.lost then ⟨16, 0xFFFF, 0, 0, none⟩ else verifyCopy (otherCopy c) s : CopyCheck) = r
    obtain ⟨hchecking, hsel, hstate, hreason⟩ := otherChecked_key c r s
    have hkey : (if r.reason = 0 then otherChecked c r s else post 0x3008 (otherChecked c r s)).key =
        (otherChecked c r s).key := by
      split <;> rfl
    have himg : (if r.reason = 0 then otherChecked c r s else post 0x3008 (otherChecked c r s)).img = s.img := by
      split <;> rfl
    rw [hkey, himg]
    refine ⟨hchecking, hsel.trans hselected, rfl, fun hlost hzero => ?_, fun hlost hzero => ?_, fun hlost => ?_⟩
    · rw [if_neg (Bool.eq_false_iff.mp hlost)] at hr
      rw [hr] at hzero
      rw [if_pos hzero] at hstate ⊢
      exact ⟨hstate, rfl⟩
    · rw [if_neg (Bool.eq_false_iff.mp hlost)] at hr
      rw [hr] at hzero
      rw [if_neg hzero] at hstate ⊢
      exact ⟨hstate, rfl⟩
    · rw [if_pos hlost] at hr
      subst hr
      exact ⟨hstate, hreason⟩
  case rollback =>
    refine ⟨?_, ?_, fun hreason hbelow => ?_⟩
    · split <;> rfl
    · split <;> rfl
    · rw [if_pos ⟨hreason, hbelow⟩]
      exact copyStatus_otherOutdated _ _

end Sys2Proof.Machine
end

section
/-! SUPPORT. The thermal trip and the causes of FLOOR_N (R326, R327): the lines of a loop's links as one update each, the
end of a stroke test, and the release of a violation; settles O17. -/

namespace Sys2Proof.Machine

/-! The lines of a loop's links. -/

theorem floorLine_updFloor (l k : Nat) (f : FloorLine → FloorLine) (s : State) :
    floorLine (updFloor l f s) k = if l = k ∧ k < s.caps.floors.length then f (floorLine s k) else floorLine s k :=
  getD_upd _ _ _ _ _

/-- An update that may be repeated acts once on each line of the list. -/
theorem floorLine_foldl_updFloor {f : FloorLine → FloorLine} (hf : ∀ x, f (f x) = f x) (l : List Nat) {k : Nat}
    {s : State} (hk : k < s.caps.floors.length) :
    floorLine (l.foldl (fun t j => updFloor j f t) s) k = if k ∈ l then f (floorLine s k) else floorLine s k := by
  induction l generalizing s with
  | nil => rfl
  | cons j l ih =>
    have hlen : k < (updFloor j f s).caps.floors.length := (length_upd _ _ _).symm ▸ hk
    rw [List.foldl_cons, ih hlen, floorLine_updFloor]
    rcases Decidable.em (j = k) with rfl | hjk
    · simp [hk, hf]
    · simp [hjk, Ne.symm hjk]

/-- The thermal cause of a line. -/
def withThermal (v : Bool) (y : FloorLine) : FloorLine := { y with thermal := v }

theorem setThermal_eq (l : Nat) (v : Bool) (s : State) :
    ∃ fl, setThermal l v s = { s with caps := { s.caps with floors := fl } } := by
  refine foldl_rel (R := fun s t : State => ∃ fl, t = { s with caps := { s.caps with floors := fl } })
    (fun t => ⟨t.caps.floors, rfl⟩) ?_ (fun t k => ⟨_, rfl⟩) (loopLinks s l) s
  rintro a b c ⟨fl, rfl⟩ ⟨fl', rfl⟩
  exact ⟨fl', rfl⟩

theorem floorLine_setThermal {l k : Nat} {s : State} (v : Bool) (hk : k < s.caps.floors.length) :
    floorLine (setThermal l v s) k = if k ∈ loopLinks s l then withThermal v (floorLine s k) else floorLine s k :=
  floorLine_foldl_updFloor (f := withThermal v) (fun _ => rfl) (loopLinks s l) hk

/-! The trip. -/

/-- The state with the mark of loop `l`. -/
def withTripped (l : Nat) (v : Bool) (s : State) : State :=
  { s with caps := { s.caps with tripped := upd s.caps.tripped l fun _ => v } }

theorem tripLoop_eq (l : Nat) (s : State) : ∃ fl, tripLoop l s = { s with
    caps := { s.caps with
      tripped := upd s.caps.tripped l fun _ => true, floors := fl, counters := upd s.caps.counters 2 cnt }
    log := logPost s.log (mkEvent s 0x8010 l 0xFFFF []) } ∧
    fl = (setThermal l true (withTripped l true s)).caps.floors := by
  obtain ⟨fl, h⟩ := setThermal_eq l true (withTripped l true s)
  refine ⟨fl, ?_, by rw [h]⟩
  unfold tripLoop
  rw [show { s with caps := { s.caps with tripped := upd s.caps.tripped l fun _ => true } } = withTripped l true s from rfl, h]
  rfl

theorem floorLine_tripLoop {l k : Nat} {s : State} (hk : k < s.caps.floors.length) :
    floorLine (tripLoop l s) k = if k ∈ loopLinks s l then withThermal true (floorLine s k) else floorLine s k := by
  obtain ⟨fl, h, hfl⟩ := tripLoop_eq l s
  rw [h, floorLine]
  dsimp only
  rw [hfl]
  exact floorLine_setThermal (s := withTripped l true s) true hk

theorem execThermalTrip_of_hot {s : State} {l : Nat} (hhot : 10 ≤ s.caps.hotRun.getD l 0)
    (htripped : s.caps.tripped.getD l false = false) :
    execThermalTrip l s = .next (abortWhere 15 (strokeOf l) (tripLoop l s)) := by
  rw [execThermalTrip, htripped, decide_eq_true hhot]
  rfl

theorem execThermalTrip_of_cool {s : State} {l : Nat} (h : s.caps.hotRun.getD l 0 < 10) :
    execThermalTrip l s = .next s := by
  rw [execThermalTrip, decide_eq_false (Nat.not_le.mpr h)]
  rfl

theorem execThermalTripRelease_of_due {s : State} {l : Nat} (htripped : s.caps.tripped.getD l false = true)
    (hcool : 10000 ≤ s.caps.coolRun.getD l 0) :
    execThermalTripRelease l s = .next (post 0x8011 (setThermal l false (withTripped l false s)) l) := by
  rw [execThermalTripRelease, htripped, decide_eq_true hcool]
  rfl

theorem execThermalTripRelease_of_hot {s : State} {l : Nat} (h : s.caps.coolRun.getD l 0 < 10000) :
    execThermalTripRelease l s = .next s := by
  rw [execThermalTripRelease, decide_eq_false (Nat.not_le.mpr h), Bool.and_false]
  rfl

/-! The end of a stroke test (R576). -/

/-- An activity that was aborted with its cause. -/
def AbortedWith (cause i : Nat) (s : State) : Prop := (activity s i).state = .aborted ∧ (activity s i).cause = cause

theorem lt_of_inProgress {s : State} {i : Nat} (h : inProgress (activity s i) = true) :
    i < s.maint.activities.length := by
  refine Classical.byContradiction fun hge => ?_
  rw [activity, getD_of_length_le _ _ (Nat.le_of_not_lt hge)] at h
  exact Bool.false_ne_true h

theorem activities_endActivity_aborted {i : Nat} {s : State} (cause : Nat) (h : inProgress (activity s i) = true) :
    (endActivity i .aborted cause s).maint.activities = upd s.maint.activities i fun y => { y with
      state := .aborted, result := 5, cause := cause, endFrame := s.seq.frame, stroke := .none } := by
  unfold endActivity
  dsimp only
  rw [h]
  rfl

theorem abortedWith_endActivity {i : Nat} {s : State} (cause : Nat) (h : inProgress (activity s i) = true) :
    AbortedWith cause i (endActivity i .aborted cause s) := by
  unfold AbortedWith activity
  rw [activities_endActivity_aborted cause h, getD_upd_self _ _ _ _ (lt_of_inProgress h)]
  exact ⟨rfl, rfl⟩

theorem activity_endActivity_ne {i j : Nat} (h : j ≠ i) (cause : Nat) (s : State) :
    activity (endActivity j .aborted cause s) i = activity s i := by
  by_cases hj : inProgress (activity s j) = true
  · unfold activity
    rw [activities_endActivity_aborted cause hj, getD_upd_ne _ _ _ _ _ h]
  · unfold endActivity
    dsimp only
    rw [Bool.eq_false_iff.mpr hj]
    rfl

/-- Every activity that the abort names ends aborted, with the cause. -/
theorem abortedWith_abortWhere {i : Nat} {s : State} {p : Activity → Bool} (cause : Nat) (hi : i < 4)
    (h : inProgress (activity s i) = true) (hp : p (activity s i) = true) :
    AbortedWith cause i (abortWhere cause p s) := by
  have hself (t : State) (ht : activity t i = activity s i ∨ AbortedWith cause i t) :
      AbortedWith cause i (if inProgress (activity t i) && p (activity t i) then endActivity i .aborted cause t else t) := by
    rcases ht with ht | ht
    · rw [ht, h, hp]
      exact abortedWith_endActivity cause (by rw [ht, h])
    · have hnot : inProgress (activity t i) = false := by
        rw [inProgress, ht.1]
        rfl
      rwa [hnot]
  have hother (t : State) (j : Nat) (hj : j ≠ i) : activity
      (if inProgress (activity t j) && p (activity t j) then endActivity j .aborted cause t else t) i = activity t i := by
    split
    · exact activity_endActivity_ne hj cause t
    · rfl
  refine foldl_reaches (P := AbortedWith cause i) (Q := fun t => activity t i = activity s i ∨ AbortedWith cause i t)
    (fun t j ht => ?_) (fun t j _ ht => ?_) (fun t ht => hself t ht) (List.mem_range.mpr hi) (.inl rfl)
  · rcases Decidable.em (j = i) with rfl | hj
    · exact .inr (hself t ht)
    · simp only [AbortedWith, hother t j hj]
      exact ht
  · rcases Decidable.em (j = i) with rfl | hj
    · exact hself t (.inr ht)
    · simp only [AbortedWith, hother t j hj]
      exact ht

/-! Violations (R327). -/

/-- A line whose violation is released. -/
def violationReleased (frame : Nat) (y : FloorLine) : FloorLine := { y with violation := false, releasedAt := some frame }

theorem execCapViolationRelease_of_due {s : State} {k : Nat} (hviol : (floorLine s k).violation = true)
    (hheld : (floorLine s k).held = false) (hdue : (floorLine s k).assertFrame + 100000 ≤ s.seq.frame) :
    execCapViolationRelease k s = .next (post 0x8003 (updFloor k (violationReleased s.seq.frame) s) k) := by
  unfold execCapViolationRelease
  dsimp only
  rw [hviol, hheld, decide_eq_true hdue]
  rfl

theorem execCapViolationRelease_of_not_due {s : State} {k : Nat}
    (h : (floorLine s k).held = true ∨ s.seq.frame < (floorLine s k).assertFrame + 100000) :
    execCapViolationRelease k s = .next s := by
  rcases h with h | h
  · simp [execCapViolationRelease, h]
  · simp [execCapViolationRelease, Nat.not_le.mpr h]

theorem lt_of_violation {s : State} {k : Nat} (h : (floorLine s k).violation = true) : k < s.caps.floors.length := by
  refine Classical.byContradiction fun hge => ?_
  rw [floorLine, getD_of_length_le _ _ (Nat.le_of_not_lt hge)] at h
  exact Bool.false_ne_true h

/-- Settles O17: the trip marks its loop and the lines of its links, and the abort ends the loop's stroke test. -/
theorem thermalTripAndFloorCauses : Obligations.ThermalTripAndFloorCauses := by
  refine ⟨fun s l hhot hlen htripped => ⟨⟨_, execThermalTrip_of_hot hhot htripped, rfl, ?trip⟩, ?mark, ?log, ?frame,
      fun k hk => floorLine_tripLoop hk⟩,
    fun s l h => execThermalTrip_of_cool h,
    fun s l htripped hcool => ⟨_, execThermalTripRelease_of_due htripped hcool, ?release⟩,
    fun s l h => execThermalTripRelease_of_hot h,
    fun s k hviol hheld hdue => ⟨_, execCapViolationRelease_of_due hviol hheld hdue, ?violation⟩,
    fun s k h => execCapViolationRelease_of_not_due h⟩
  case trip =>
    obtain ⟨m, lg, habort, -⟩ := onlyMaint_abortWhere 15 (strokeOf l) (tripLoop l s)
    obtain ⟨fl, htrip, -⟩ := tripLoop_eq l s
    have hcaps : (abortWhere 15 (strokeOf l) (tripLoop l s)).caps = (tripLoop l s).caps := by rw [habort]
    refine ⟨hcaps, ?_, fun i hi hprogress hstroke => ?_⟩
    · rw [hcaps, htrip]
      exact getD_upd_self _ _ _ _ hlen
    · have hsame : activity (tripLoop l s) i = activity s i := by
        rw [htrip]
        rfl
      exact abortedWith_abortWhere 15 hi (by rw [hsame, hprogress]) (by rw [hsame, hstroke])
  case mark =>
    obtain ⟨fl, htrip, -⟩ := tripLoop_eq l s
    rw [htrip]
    exact getD_upd_self _ _ _ _ hlen
  case log =>
    obtain ⟨fl, htrip, -⟩ := tripLoop_eq l s
    rw [htrip]
  case frame =>
    obtain ⟨fl, htrip, -⟩ := tripLoop_eq l s
    rw [htrip]
  case release =>
    have hlen : l < s.caps.tripped.length := by
      refine Classical.byContradiction fun hge => ?_
      rw [getD_of_length_le _ _ (Nat.le_of_not_lt hge)] at htripped
      exact Bool.false_ne_true htripped
    obtain ⟨fl, hfl⟩ := setThermal_eq l false (withTripped l false s)
    refine ⟨?_, ?_, ?_, fun k hk => floorLine_setThermal (s := withTripped l false s) false hk⟩
    · rw [hfl]
      exact getD_upd_self _ _ _ _ hlen
    · rw [hfl]
      rfl
    · rw [hfl]
      rfl
  case violation =>
    refine ⟨(floorLine_updFloor k k _ s).trans (if_pos ⟨rfl, lt_of_violation hviol⟩), fun j hj => ?_, rfl, rfl⟩
    exact (floorLine_updFloor k j _ s).trans (if_neg fun h => hj h.1.symm)

end Sys2Proof.Machine
end

section
/-! SUPPORT. References of the estimator and dither windows (R333, R334): one update of a site each, and the two ends of a
window; settles O18. -/

namespace Sys2Proof.Machine

theorem siteC_updSiteC (i j : Nat) (f : SiteCaps → SiteCaps) (s : State) :
    siteC (updSiteC i f s) j = if i = j ∧ j < s.caps.sites.length then f (siteC s j) else siteC s j :=
  getD_upd _ _ _ _ _

theorem siteC_updSiteC_self {i : Nat} {s : State} (hi : i < s.caps.sites.length) (f : SiteCaps → SiteCaps) :
    siteC (updSiteC i f s) i = f (siteC s i) := (siteC_updSiteC i i f s).trans (if_pos ⟨rfl, hi⟩)

theorem siteC_updSiteC_ne {i j : Nat} (h : j ≠ i) (f : SiteCaps → SiteCaps) (s : State) :
    siteC (updSiteC i f s) j = siteC s j := (siteC_updSiteC i j f s).trans (if_neg fun hij => h hij.1.symm)

/-! A site without a reference (R333). -/

theorem execNoReference_of_old {s : State} {i : Nat} (hpresent : sitePresent s i = true)
    (hage : (siteC s i).refFrame + 6000000 ≤ s.seq.frame) (hnoRef : (siteC s i).noRef = false) :
    execNoReference i s = .next (post 0x8030 (capCount 7 (updSiteC i (fun x => { x with noRef := true }) s)) i) := by
  have hold : 600 ≤ refAge s i := by
    unfold refAge since
    omega
  rw [execNoReference, hpresent, decide_eq_true hold, hnoRef]
  rfl

theorem execNoReference_of_logged {s : State} {i : Nat} (h : (siteC s i).noRef = true) :
    execNoReference i s = .next s := by
  rw [execNoReference, h, Bool.not_true, Bool.and_false]
  rfl

/-! The start of a window (R334). -/

/-- A site whose dither window starts. -/
def windowStarted (frame target : Nat) (y : SiteCaps) : SiteCaps := { y with dither := some { start := frame, target } }

theorem execDitherWindowStart_of_due {s : State} {i t : Nat} (hpresent : sitePresent s i = true)
    (hplace : s.seq.frame % 100000 = 200 * (i % 500)) (htenant : (siteP s i).tenant = some t)
    (hallow : (tenantCfg s t).allowDither = true) (hresponse : (siteC s i).response = .responsive)
    (hcold : i ∉ (loopRun s (siteLoop s i)).cold) (hage : (siteC s i).refFrame + 100000 ≤ s.seq.frame)
    (hdriven : (floorLine s (linkOf i)).driven = false) (hsettled : 100 ≤ (siteC s i).settled) :
    execDitherWindowStart i s =
      .next (capCount 4 (updSiteC i (windowStarted s.seq.frame (siteP s i).target) s)) := by
  have hcold' : (loopRun s (siteLoop s i)).cold.contains i = false := by
    simpa using hcold
  unfold execDitherWindowStart responsive
  dsimp only
  refine congrArg Host.Outcome.next (if_pos ?_)
  rw [hpresent, decide_eq_true hplace, htenant, hresponse, hcold', decide_eq_true hage, hdriven,
    decide_eq_true hsettled]
  dsimp only
  rw [hallow]
  rfl

theorem execDitherWindowStart_of_barred {s : State} {i : Nat} (h : (floorLine s (linkOf i)).driven = true ∨
    (siteP s i).tenant = none ∨ (siteC s i).settled < 100 ∨ s.seq.frame % 100000 ≠ 200 * (i % 500)) :
    execDitherWindowStart i s = .next s := by
  unfold execDitherWindowStart
  dsimp only
  refine congrArg Host.Outcome.next (if_neg ?_)
  simp only [Bool.and_eq_true, decide_eq_true_eq, Bool.not_eq_true']
  rintro ⟨⟨⟨⟨⟨⟨⟨-, hplace⟩, htenant⟩, -⟩, -⟩, -⟩, hdriven⟩, hsettled⟩
  rcases h with h | h | h | h
  · exact Bool.false_ne_true (hdriven.symm.trans h)
  · rw [h] at htenant
    exact Bool.false_ne_true htenant
  · omega
  · exact h hplace

/-! The end of a window (R334). -/

theorem execDitherWindowEnd_of_none {s : State} {i : Nat} (h : (siteC s i).dither = none) :
    execDitherWindowEnd i s = .next s := by
  rw [execDitherWindowEnd, h]

theorem execDitherWindowEnd_of_early {s : State} {i : Nat} {d : Dither} (h : (siteC s i).dither = some d)
    (hearly : s.seq.frame < d.start + 206) : execDitherWindowEnd i s = .next s := by
  rw [execDitherWindowEnd, h]
  exact if_pos hearly

theorem execDitherWindowEnd_of_void {s : State} {i : Nat} {d : Dither} (h : (siteC s i).dither = some d)
    (hdue : d.start + 206 ≤ s.seq.frame) (hvoid : ditherResult d = none) :
    execDitherWindowEnd i s = .next (voidDither i s) := by
  rw [execDitherWindowEnd, h]
  dsimp only
  rw [if_neg (Nat.not_lt.mpr hdue), hvoid]

theorem execDitherWindowEnd_of_result {s : State} {i : Nat} {d : Dither} {r : F32 × F32}
    (h : (siteC s i).dither = some d) (hdue : d.start + 206 ≤ s.seq.frame) (hr : ditherResult d = some r) :
    execDitherWindowEnd i s = .next (updSiteC i (fun x => { x with dither := none }) (takeReference i r.1 r.2 s)) := by
  rw [execDitherWindowEnd, h]
  dsimp only
  rw [if_neg (Nat.not_lt.mpr hdue), hr]

/-- A reference updates its site, with the event that it was missing (R333). -/
theorem takeReference_eq (i : Nat) (y tau : F32) (s : State) : ∃ z zp l, takeReference i y tau s =
    { updSiteC i (fun c => { c with z := z, zp := zp, refFrame := s.seq.frame, noRef := false }) s with log := l } := by
  unfold takeReference
  extract_lets x v err
  split
  next z zp _ _ =>
    dsimp only
    split
    · exact ⟨z, zp, _, rfl⟩
    · exact ⟨z, zp, s.log, rfl⟩

theorem postEvery_eq (gap code index : Nat) (s : State) : ∃ l, postEvery gap code s index = { s with log := l } := by
  unfold postEvery
  split
  · exact ⟨s.log, rfl⟩
  · exact ⟨_, rfl⟩

/-- Settles O18: each command updates its own site when its conditions hold. -/
theorem ditherWindowsAndReferences : Obligations.DitherWindowsAndReferences := by
  refine ⟨fun s i hpresent hage hnoRef hi => ⟨_, execNoReference_of_old hpresent hage hnoRef,
      siteC_updSiteC_self hi _, fun j hj => siteC_updSiteC_ne hj _ s, rfl, rfl, rfl⟩,
    fun s i h => execNoReference_of_logged h,
    fun s i t hpresent hplace htenant hallow hresponse hcold hage hdriven hsettled hi =>
      ⟨_, execDitherWindowStart_of_due hpresent hplace htenant hallow hresponse hcold hage hdriven hsettled,
        siteC_updSiteC_self hi _, fun j hj => siteC_updSiteC_ne hj _ s, rfl, rfl⟩,
    fun s i h => execDitherWindowStart_of_barred h,
    fun s i d h hdue hi => ?_,
    fun s i d h hearly => execDitherWindowEnd_of_early h hearly,
    fun s i h => execDitherWindowEnd_of_none h⟩
  rcases hr : ditherResult d with _ | r
  · refine ⟨_, execDitherWindowEnd_of_void h hdue hr, ?_⟩
    obtain ⟨l, hl⟩ := postEvery_eq 6000000 0x8032 i (capCount 5 (updSiteC i (fun x => { x with dither := none }) s))
    have hself : siteC (voidDither i s) i = { siteC s i with dither := none } := by
      rw [voidDither, hl]
      exact siteC_updSiteC_self hi _
    refine ⟨by rw [hself], fun j hj => ?_, ?_, fun _ => ⟨?_, by rw [hself]⟩, fun hne => absurd rfl hne⟩
    · rw [voidDither, hl]
      exact siteC_updSiteC_ne hj _ s
    · rw [voidDither, hl]
      rfl
    · rw [voidDither, hl]
      rfl
  · refine ⟨_, execDitherWindowEnd_of_result h hdue hr, ?_⟩
    obtain ⟨z, zp, l, hl⟩ := takeReference_eq i r.1 r.2 s
    have hlen : i < (takeReference i r.1 r.2 s).caps.sites.length := by
      rw [hl]
      exact (length_upd _ _ _).symm ▸ hi
    have hself : siteC (takeReference i r.1 r.2 s) i =
        { siteC s i with z := z, zp := zp, refFrame := s.seq.frame, noRef := false } := by
      rw [hl]
      exact siteC_updSiteC_self hi _
    rw [siteC_updSiteC_self hlen, hself]
    refine ⟨rfl, fun j hj => ?_, ?_, nofun, fun _ => ⟨rfl, rfl⟩⟩
    · rw [siteC_updSiteC_ne hj, hl]
      exact siteC_updSiteC_ne hj _ s
    · rw [hl]
      rfl

end Sys2Proof.Machine
end

section
/-! SUPPORT. Control loops that resume, and probes (R305, R313): each command as one update; settles O22. -/

namespace Sys2Proof.Machine

theorem probe_updProbe (i j : Nat) (f : Probe → Probe) (s : State) :
    probe (updProbe i f s) j = if i = j ∧ j < s.ctl.probes.length then f (probe s j) else probe s j :=
  getD_upd _ _ _ _ _

theorem probe_updProbe_self {i : Nat} {s : State} (hi : i < s.ctl.probes.length) (f : Probe → Probe) :
    probe (updProbe i f s) i = f (probe s i) := (probe_updProbe i i f s).trans (if_pos ⟨rfl, hi⟩)

theorem probe_updProbe_ne {i j : Nat} (h : j ≠ i) (f : Probe → Probe) (s : State) :
    probe (updProbe i f s) j = probe s j := (probe_updProbe i j f s).trans (if_neg fun hij => h hij.1.symm)

/-- A loop that returns to RUN from its output (R305). -/
def resumed (p : CtlLoop) : CtlLoop := { p with state := .run, cause := 0, clean := 0, start := some p.u }

theorem ctl_runLoop {i : Nat} {s : State} (hi : i < s.ctl.loops.length) :
    ctl (runLoop i (ctl s i).u s) i = resumed (ctl s i) := getD_upd_self _ _ _ _ hi

theorem ctl_runLoop_ne {i j : Nat} (h : j ≠ i) (a : Int) (s : State) : ctl (runLoop i a s) j = ctl s j :=
  getD_upd_ne _ _ _ _ _ h.symm

theorem execLoopResume_of_clean {s : State} {i : Nat} (hstate : (ctl s i).state = .frozen) (hcause : (ctl s i).cause = 0)
    (hclean : 10 ≤ (ctl s i).clean) (hcontrol : s.pow.plantControl = true) :
    execLoopResume i s = .next (post 0x7002 (runLoop i (ctl s i).u s) i) := by
  simp [execLoopResume, hstate, hcause, hclean, hcontrol]

theorem execLoopResume_of_not_due {s : State} {i : Nat}
    (h : (ctl s i).state ≠ .frozen ∨ (ctl s i).cause ≠ 0 ∨ (ctl s i).clean < 10) : execLoopResume i s = .next s := by
  rcases h with h | h | h
  · simp [execLoopResume, h]
  · simp [execLoopResume, h]
  · simp [execLoopResume, Nat.not_le.mpr h]

/-- A probe with its buffer cleared (R313). -/
def armedProbe (q : Probe) : Probe := { q with
  state := .armed, samples := [], lost := false, triggered := false, preTaken := 0, trigFrame := 0, count := 0, last := none }

section
variable {s : State} {i : Nat}

theorem not_running_of_idle (h : (probe s i).state = .idle ∨ (probe s i).state = .done) :
    ¬ ((probe s i).state = .armed || (probe s i).state = .post) = true := by
  rcases h with h | h <;> simp [h]

theorem running_of_armed (h : (probe s i).state = .armed ∨ (probe s i).state = .post) :
    ((probe s i).state = .armed || (probe s i).state = .post) = true := by
  rcases h with h | h <;> simp [h]

theorem armProbe_of_valid (hidle : (probe s i).state = .idle ∨ (probe s i).state = .done) (hddr : ddrReady s = true)
    (hvalid : probeValid i (probe s i) = true) : armProbe i s = updProbe i armedProbe s := by
  have hboth : (ddrReady s && probeValid i (probe s i)) = true := by rw [hddr, hvalid, Bool.and_self]
  exact (if_neg (not_running_of_idle hidle)).trans (if_pos hboth)

theorem armProbe_of_refused (hidle : (probe s i).state = .idle ∨ (probe s i).state = .done)
    (h : ddrReady s = false ∨ probeValid i (probe s i) = false) : armProbe i s = post 0x7022 s i := by
  have hboth : ¬ (ddrReady s && probeValid i (probe s i)) = true := by
    rcases h with h | h <;> simp [h]
  exact (if_neg (not_running_of_idle hidle)).trans (if_neg hboth)

theorem armProbe_of_running (h : (probe s i).state = .armed ∨ (probe s i).state = .post) : armProbe i s = s :=
  if_pos (running_of_armed h)

theorem abortProbe_of_running (h : (probe s i).state = .armed ∨ (probe s i).state = .post) :
    abortProbe i s = updProbe i (fun q => { q with state := .done }) s := if_pos (running_of_armed h)

theorem execProbeDone_of_full (hpost : (probe s i).state = .post) (hfull : 65536 ≤ (probe s i).samples.length) :
    execProbeDone i s =
      .next (post 0x7021 (updProbe i (fun q => { q with state := .done, captures := cnt q.captures }) s) i) := by
  simp [execProbeDone, hpost, hfull]

theorem execProbeDone_of_short (h : (probe s i).samples.length < 65536) : execProbeDone i s = .next s := by
  simp [execProbeDone, Nat.not_le.mpr h]

end

/-- Settles O22: a resume, an arm, an abort and the end of a capture each update one entry. -/
theorem loopResumeAndProbes : Obligations.LoopResumeAndProbes := by
  refine ⟨fun s i hi hstate hcause hclean hcontrol => ⟨_, execLoopResume_of_clean hstate hcause hclean hcontrol,
      ctl_runLoop hi, fun j hj => ctl_runLoop_ne hj _ s, rfl, rfl, rfl⟩,
    fun s i h => execLoopResume_of_not_due h,
    fun s i hi hidle hddr hvalid => ?arm,
    fun s i hidle h => congrArg Host.Outcome.next (armProbe_of_refused hidle h),
    fun s i h => ⟨congrArg Host.Outcome.next (armProbe_of_running h), fun hi => ?abort⟩,
    fun s i hi hpost hfull => ⟨_, execProbeDone_of_full hpost hfull, probe_updProbe_self hi _, rfl, rfl⟩,
    fun s i h => execProbeDone_of_short h⟩
  case arm =>
    exact ⟨_, congrArg Host.Outcome.next (armProbe_of_valid hidle hddr hvalid), probe_updProbe_self hi _,
      fun j hj => probe_updProbe_ne hj _ s, rfl⟩
  case abort =>
    exact ⟨_, congrArg Host.Outcome.next (abortProbe_of_running h), probe_updProbe_self hi _,
      fun j hj => probe_updProbe_ne hj _ s, rfl⟩

end Sys2Proof.Machine
end

section
/-! SUPPORT. Memory errors of the weight banks (R245, R247): updates of several graphs at once, what a failed bank group
leaves, and the two outcomes of a reload; settles O20. -/

namespace Sys2Proof.Machine

/-! Updates of several graphs. -/

/-- An update that may be repeated acts once on each element of the list. -/
theorem getD_foldl_upd {α : Type} {f : α → α} (hf : ∀ x, f (f x) = f x) (l : List Nat) (xs : List α) (k : Nat) (d : α) :
    (l.foldl (fun t i => upd t i f) xs).getD k d = if k ∈ l ∧ k < xs.length then f (xs.getD k d) else xs.getD k d := by
  induction l generalizing xs with
  | nil => simp
  | cons i l ih =>
    rw [List.foldl_cons, ih, length_upd, getD_upd]
    rcases Decidable.em (k < xs.length) with hk | hk
    · rcases Decidable.em (i = k) with rfl | hik
      · simp [hk, hf]
      · simp [hk, hik, Ne.symm hik]
    · simp [hk]

theorem foldl_updGraph (l : List Nat) (f : GraphSt → GraphSt) (s : State) :
    l.foldl (fun t g => updGraph g f t) s = withGraphs s (l.foldl (fun gr g => upd gr g f) s.eng.graphs) := by
  induction l generalizing s with
  | nil => rfl
  | cons g l ih =>
    rw [List.foldl_cons, ih]
    rfl

/-! A single-bit error (R245). -/

theorem execSingleBitError_seen {s : State} {scratch : Bool} (h : runSeen 0x6001 0xFFFF 10000 s = true) :
    execSingleBitError scratch s = .next (engCount (b2n scratch) 1 s) :=
  congrArg Host.Outcome.next (if_pos h)

theorem execSingleBitError_unseen {s : State} {scratch : Bool} (h : runSeen 0x6001 0xFFFF 10000 s = false) :
    execSingleBitError scratch s = .next (post 0x6001 (markRun 0x6001 0xFFFF (engCount (b2n scratch) 1 s))) :=
  congrArg Host.Outcome.next (if_neg (Bool.eq_false_iff.mp h))

/-- The queue after a post depends on the queue alone. -/
theorem queue_logPost_markRun (code index : Nat) (s : State) (e : Event) :
    (logPost (markRun code index s).log e).queue = (logPost s.log e).queue := by
  unfold logPost
  rw [show (markRun code index s).log.queue = s.log.queue from rfl]
  split <;> rfl

/-! The failure of a bank group (R247). -/

/-- What unloading graphs changes: the engine's graphs and pending sends, and the marks of graphs not loaded. -/
def OnlyUnloaded (s t : State) : Prop := ∃ nl gr pd, t = { s with
  pow := { s.pow with graphNotLoaded := nl }, eng := { s.eng with graphs := gr, pending := pd } }

theorem foldl_unloadGraph_only (l : List Nat) (s : State) : OnlyUnloaded s (l.foldl (fun t g => unloadGraph g t) s) := by
  refine foldl_rel (R := OnlyUnloaded) (fun t => ⟨t.pow.graphNotLoaded, t.eng.graphs, t.eng.pending, rfl⟩) ?_
    (fun t g => ⟨_, _, _, rfl⟩) l s
  rintro a b c ⟨nl, gr, pd, rfl⟩ ⟨nl', gr', pd', rfl⟩
  exact ⟨nl', gr', pd', rfl⟩

theorem graphSt_unloadGraph (g h : Nat) (s : State) : graphSt (unloadGraph g s) h =
    if g = h ∧ h < s.eng.graphs.length then
      { graphSt s h with loaded := false, eval := none, done := [], poisoned := false }
    else graphSt s h := getD_upd _ _ _ _ _

theorem loaded_unloadGraph {g h : Nat} {s : State} (hg : g = h ∨ (graphSt s h).loaded = false) :
    (graphSt (unloadGraph g s) h).loaded = false := by
  rw [graphSt_unloadGraph]
  split
  · rfl
  case isFalse hne =>
    rcases hg with rfl | hg
    · rw [graphSt, getD_of_length_le _ _ (Nat.le_of_not_lt fun hlt => hne ⟨rfl, hlt⟩)]
    · exact hg

/-- The graphs that a failed bank group unloads. -/
def groupGraphs (s : State) (k : Nat) : List Nat :=
  (List.range 8).filter fun g => (graphSt s g).loaded && (graphBanks (graphCfg s g)).contains k

/-- The state in which a failed bank group's graphs are unloaded. -/
def groupFailed (bank : Nat) (s : State) : State :=
  { s with
    pow := { s.pow with
      domains := (setDomain (64 + bank / 4) (fun d => { d with state := .failed, failReason := 6 }) s).pow.domains
      bankGroupFail := s.pow.bankGroupFail.set (bank / 4) true }
    eng := { s.eng with reload := s.eng.reload.filter fun b => b / 4 ≠ bank / 4 } }

theorem failBank_eq_unloaded (bank : Nat) (s : State) : failBank bank s =
    post 0x6005 ((groupGraphs s (bank / 4)).foldl (fun t g => unloadGraph g t) (groupFailed bank s)) (bank / 4) := rfl

theorem failBank_eq (bank : Nat) (s : State) : ∃ nl gr pd l, failBank bank s = { groupFailed bank s with
    pow := { (groupFailed bank s).pow with graphNotLoaded := nl }
    eng := { (groupFailed bank s).eng with graphs := gr, pending := pd }, log := l } := by
  obtain ⟨nl, gr, pd, h⟩ := foldl_unloadGraph_only (groupGraphs s (bank / 4)) (groupFailed bank s)
  rw [failBank_eq_unloaded, h]
  exact ⟨nl, gr, pd, _, rfl⟩

theorem getD_domains_groupFailed {bank : Nat} {s : State} (hbank : bank < 64) (hlen : s.pow.domains.length = 126) :
    ((groupFailed bank s).pow.domains.getD (64 + bank / 4) {}).state = .failed ∧
    ((groupFailed bank s).pow.domains.getD (64 + bank / 4) {}).failReason = 6 := by
  have hlt : 64 + bank / 4 < s.pow.domains.length := by omega
  unfold groupFailed setDomain
  dsimp only
  rw [getD_upd_self _ _ _ _ hlt]
  split
  · exact ⟨rfl, rfl⟩
  · exact ⟨rfl, rfl⟩

theorem getElem?_domains_groupFailed {bank d : Nat} (s : State) (h : d ≠ 64 + bank / 4) :
    (groupFailed bank s).pow.domains[d]? = s.pow.domains[d]? := getElem?_upd_ne _ _ _ _ h.symm

theorem not_mem_reload_groupFailed (bank : Nat) (s : State) : bank ∉ (groupFailed bank s).eng.reload := by
  unfold groupFailed
  simp

/-- Every graph of the failed group is unloaded. -/
theorem loaded_failBank {bank g : Nat} {s : State} (hg : g < 8) (hloaded : (graphSt s g).loaded = true)
    (hmem : bank / 4 ∈ graphBanks (graphCfg s g)) : (graphSt (failBank bank s) g).loaded = false := by
  have hin : g ∈ groupGraphs s (bank / 4) := by
    simp [groupGraphs, hg, hloaded, hmem]
  rw [failBank_eq_unloaded]
  exact foldl_reaches (f := fun t g => unloadGraph g t) (P := fun t => (graphSt t g).loaded = false) (Q := fun _ => True)
    (fun _ _ _ => trivial) (fun _ _ _ ht => loaded_unloadGraph (.inr ht)) (fun _ _ => loaded_unloadGraph (.inl rfl)) hin
    trivial

/-! A double-bit error in a row of a weight bank (R245, R247). -/

/-- A graph whose row was struck. -/
def poison (y : GraphSt) : GraphSt := { y with poisoned := true }

/-- The state after a double-bit error has been noted. -/
def rowStruck (bank row : Nat) (s : State) : State := { s with
  eng := { s.eng with
    counters := upd s.eng.counters 2 fun x => satAdd 32 x 1
    lastDbe := s.seq.frame % 4294967296
    graphs := (rowGraphs s bank row).foldl (fun gr g => upd gr g poison) s.eng.graphs
    badRows := (bank, row) :: s.eng.badRows.filter (· ≠ (bank, row))
    bankDbe := (bank, s.seq.frame) :: s.eng.bankDbe.filter fun x => x.1 ≠ bank }
  log := logPost s.log (mkEvent s 0x6002 bank 0xFFFF []) }

/-- Whether the bank had a double-bit error in the last 600 s. -/
def struckBefore (bank : Nat) (s : State) : Bool :=
  s.eng.bankDbe.any fun x => x.1 = bank && s.seq.frame < x.2 + 6000000

/-- What is noted of the error once its graphs are marked. -/
def noteRow (bank row frame : Nat) (s : State) : State :=
  post 0x6002 { s with eng := { s.eng with
    badRows := (bank, row) :: s.eng.badRows.filter (· ≠ (bank, row))
    bankDbe := (bank, frame) :: s.eng.bankDbe.filter fun x => x.1 ≠ bank } } bank

theorem noteRow_foldl_poison (bank row : Nat) (s : State) :
    noteRow bank row s.seq.frame ((rowGraphs s bank row).foldl (fun t g => updGraph g poison t) (noteDbe 2 s)) =
      rowStruck bank row s := by
  rw [foldl_updGraph]
  unfold noteRow noteDbe engCount rowStruck
  rfl

theorem execWeightDoubleBitError_eq (bank row : Nat) (s : State) : execWeightDoubleBitError ⟨bank, row⟩ s =
    .next (if struckBefore bank s || !lpddrOk s then failBank bank (rowStruck bank row s)
      else if (rowGraphs s bank row).any fun g => !(graphSt s g).disabled then
        { rowStruck bank row s with eng := { (rowStruck bank row s).eng with
          reload := bank :: (rowStruck bank row s).eng.reload.filter (· ≠ bank) } }
      else rowStruck bank row s) := by
  rw [← noteRow_foldl_poison]
  rfl

theorem graphSt_rowStruck (bank row g : Nat) (s : State) : graphSt (rowStruck bank row s) g =
    if g ∈ rowGraphs s bank row ∧ g < s.eng.graphs.length then poison (graphSt s g) else graphSt s g :=
  getD_foldl_upd (f := poison) (fun _ => rfl) (rowGraphs s bank row) s.eng.graphs g {}

theorem struckBefore_eq_false {bank : Nat} {s : State}
    (h : ∀ x ∈ s.eng.bankDbe, x.1 = bank → x.2 + 6000000 ≤ s.seq.frame) : struckBefore bank s = false := by
  refine List.any_eq_false.mpr fun x hx => ?_
  simp only [Bool.and_eq_true, decide_eq_true_eq, not_and, Nat.not_lt]
  exact h x hx

theorem struckBefore_eq_true {bank : Nat} {s : State} {x : Nat × Nat} (hx : x ∈ s.eng.bankDbe) (hbank : x.1 = bank)
    (hage : s.seq.frame < x.2 + 6000000) : struckBefore bank s = true :=
  List.any_eq_true.mpr ⟨x, hx, by simp [hbank, hage]⟩

/-! The end of a reload (R247). -/

/-- A graph that waits for no other bank. -/
def cleanOf (reload : List Nat) (s : State) (g : Nat) : Bool := !((graphCfg s g).blocks.any fun b => reload.contains b.bank)

/-- A graph whose rows are whole again. -/
def unpoison (y : GraphSt) : GraphSt := { y with poisoned := y.scrubEnd.isSome }

/-- The state after a reload that verifies. -/
def bankReloaded (bank : Nat) (s : State) : State := { s with
  eng := { s.eng with
    counters := upd s.eng.counters 4 fun x => satAdd 32 x 1
    reload := s.eng.reload.filter (· ≠ bank), rows := reloadRows s bank
    badRows := s.eng.badRows.filter fun x => x.1 ≠ bank
    graphs := ((bankGraphs s bank).filter (cleanOf (s.eng.reload.filter (· ≠ bank)) s)).foldl
      (fun gr g => upd gr g unpoison) s.eng.graphs }
  log := logPost s.log (mkEvent s 0x6004 bank 0xFFFF []) }

theorem execWeightReloadComplete_of_verified {bank : Nat} {s : State} (hmem : bank ∈ s.eng.reload)
    (hddr : lpddrOk s = true) : execWeightReloadComplete bank true s = .next (bankReloaded bank s) := by
  unfold execWeightReloadComplete
  rw [List.contains_iff_mem.mpr hmem, hddr]
  refine congrArg Host.Outcome.next ((if_neg Bool.false_ne_true).trans ((if_neg Bool.false_ne_true).trans ?_))
  dsimp only
  rw [foldl_updGraph]
  rfl

theorem execWeightReloadComplete_of_failed {bank : Nat} {ok : Bool} {s : State} (hmem : bank ∈ s.eng.reload)
    (h : ok = false ∨ lpddrOk s = false) : execWeightReloadComplete bank ok s = .next (failBank bank s) := by
  have hbad : (!ok || !lpddrOk s) = true := by
    rcases h with h | h <;> simp [h]
  unfold execWeightReloadComplete
  rw [List.contains_iff_mem.mpr hmem, hbad]
  rfl

theorem execWeightReloadComplete_of_none {bank : Nat} {ok : Bool} {s : State} (hmem : bank ∉ s.eng.reload) :
    execWeightReloadComplete bank ok s = .next s := by
  have hnot : s.eng.reload.contains bank = false := by simpa using hmem
  unfold execWeightReloadComplete
  rw [hnot]
  rfl

theorem graphSt_bankReloaded (bank g : Nat) (s : State) : graphSt (bankReloaded bank s) g =
    if g ∈ (bankGraphs s bank).filter (cleanOf (s.eng.reload.filter (· ≠ bank)) s) ∧ g < s.eng.graphs.length
    then unpoison (graphSt s g) else graphSt s g :=
  getD_foldl_upd (f := unpoison) (fun _ => rfl) _ s.eng.graphs g {}

theorem poisoned_bankReloaded {bank g : Nat} {s : State} (hmem : g ∈ bankGraphs s bank) (hlen : g < s.eng.graphs.length)
    (hscrub : (graphSt s g).scrubEnd = none)
    (hblocks : ∀ b ∈ (graphCfg s g).blocks, b.bank = bank ∨ b.bank ∉ s.eng.reload) :
    (graphSt (bankReloaded bank s) g).poisoned = false := by
  have hclean : cleanOf (s.eng.reload.filter (· ≠ bank)) s g = true := by
    simp only [cleanOf, Bool.not_eq_true', List.any_eq_false, List.contains_iff_mem, List.mem_filter, decide_eq_true_eq,
      not_and, ne_eq, Classical.not_not]
    intro b hb hreload
    exact (hblocks b hb).resolve_right (not_not_intro hreload)
  rw [graphSt_bankReloaded, if_pos ⟨List.mem_filter.mpr ⟨hmem, hclean⟩, hlen⟩]
  exact (congrArg Option.isSome hscrub)

/-- Settles O20: an error marks its row and its graphs, and a bank is reloaded or fails with its group. -/
theorem engineMemoryErrors : Obligations.EngineMemoryErrors := by
  refine ⟨fun s scratch => ?single, fun s bank row hddr hold => ⟨_, execWeightDoubleBitError_eq bank row s, ?double⟩,
    fun s bank row hbad hbank hlen hlen' => ⟨_, execWeightDoubleBitError_eq bank row s, ?fails⟩,
    fun s bank hmem hddr => ⟨_, execWeightReloadComplete_of_verified hmem hddr, ?reloaded⟩,
    fun s bank ok hmem h hbank hlen => ⟨_, execWeightReloadComplete_of_failed hmem h, rfl, ?reloadFails⟩,
    fun s bank ok hmem => execWeightReloadComplete_of_none hmem⟩
  case single =>
    have hcount : engCount (b2n scratch) 1 s = { s with eng := { s.eng with
        counters := upd s.eng.counters (if scratch then 1 else 0) fun x => satAdd 32 x 1 } } := rfl
    rcases hseen : runSeen 0x6001 0xFFFF 10000 s with _ | _
    · refine ⟨_, execSingleBitError_unseen hseen, rfl, rfl, nofun, fun _ => ?_⟩
      exact queue_logPost_markRun 0x6001 0xFFFF _ _
    · exact ⟨_, execSingleBitError_seen hseen, rfl, rfl, fun _ => rfl, nofun⟩
  case double =>
    have hnone : ¬ (struckBefore bank s || !lpddrOk s) = true := by
      rw [struckBefore_eq_false hold, hddr]
      exact Bool.false_ne_true
    rw [if_neg hnone]
    have hpoison (g : Nat) (hg : g ∈ rowGraphs s bank row) (hlen : g < s.eng.graphs.length) :
        (graphSt (rowStruck bank row s) g).poisoned = true := by
      rw [graphSt_rowStruck, if_pos ⟨hg, hlen⟩]
      rfl
    have hother (g : Nat) (hg : g ∉ rowGraphs s bank row) : graphSt (rowStruck bank row s) g = graphSt s g := by
      rw [graphSt_rowStruck, if_neg fun h => hg h.1]
    split
    case isTrue hany =>
      refine ⟨rfl, rfl, rfl, List.mem_cons_self, List.mem_cons_self, hpoison, hother,
        fun _ _ _ => List.mem_cons_self, fun hall => ?_⟩
      obtain ⟨g, hg, hdis⟩ := List.any_eq_true.mp hany
      rw [hall g hg] at hdis
      exact absurd hdis Bool.false_ne_true
    case isFalse hany =>
      refine ⟨rfl, rfl, rfl, List.mem_cons_self, List.mem_cons_self, hpoison, hother, fun g hg hdis => ?_, fun _ => rfl⟩
      exact absurd (List.any_eq_true.mpr ⟨g, hg, by rw [hdis]; rfl⟩) hany
  case fails =>
    have hsome : (struckBefore bank s || !lpddrOk s) = true := by
      rcases hbad with hddr | ⟨x, hx, hxbank, hage⟩
      · rw [hddr, Bool.not_false, Bool.or_true]
      · rw [struckBefore_eq_true hx hxbank hage, Bool.true_or]
    rw [if_pos hsome]
    obtain ⟨nl, gr, pd, l, h⟩ := failBank_eq bank (rowStruck bank row s)
    obtain ⟨hstate, hreason⟩ := getD_domains_groupFailed (s := rowStruck bank row s) hbank hlen
    rw [h]
    refine ⟨hstate, hreason, ?_, not_mem_reload_groupFailed bank _, fun d hd => getElem?_domains_groupFailed _ hd⟩
    have hlt : bank / 4 < s.pow.bankGroupFail.length := by omega
    show (s.pow.bankGroupFail.set (bank / 4) true).getD (bank / 4) false = true
    simp [List.getD_eq_getElem?_getD, hlt]
  case reloaded =>
    refine ⟨fun h => ?_, rfl, rfl, fun x hx => of_decide_eq_true (List.mem_filter.mp hx).2, rfl, rfl,
      fun g hg hlen hscrub hblocks => poisoned_bankReloaded hg hlen hscrub hblocks⟩
    exact of_decide_eq_true (List.mem_filter.mp h).2 rfl
  case reloadFails =>
    obtain ⟨nl, gr, pd, l, h⟩ := failBank_eq bank s
    obtain ⟨hstate, hreason⟩ := getD_domains_groupFailed (s := s) hbank hlen
    refine ⟨?_, ?_, ?_, fun g hloaded hbanks hg => loaded_failBank hg hloaded hbanks⟩
    · rw [h]
      exact hstate
    · rw [h]
      exact hreason
    · rw [h]
      exact not_mem_reload_groupFailed bank s

end Sys2Proof.Machine
end

section
/-! SUPPORT. Scratch errors and precision runs (R248, R252): what a strike makes of its graph, and the two ends of a
precision run; settles O21. -/

namespace Sys2Proof.Machine

theorem graphSt_updGraph (g h : Nat) (f : GraphSt → GraphSt) (s : State) :
    graphSt (updGraph g f s) h = if g = h ∧ h < s.eng.graphs.length then f (graphSt s h) else graphSt s h :=
  getD_upd _ _ _ _ _

theorem graphSt_updGraph_self {g : Nat} {s : State} (hg : g < s.eng.graphs.length) (f : GraphSt → GraphSt) :
    graphSt (updGraph g f s) g = f (graphSt s g) := (graphSt_updGraph g g f s).trans (if_pos ⟨rfl, hg⟩)

theorem graphSt_updGraph_ne {g h : Nat} (hne : h ≠ g) (f : GraphSt → GraphSt) (s : State) :
    graphSt (updGraph g f s) h = graphSt s h := (graphSt_updGraph g h f s).trans (if_neg fun hgh => hne hgh.1.symm)

theorem graphSt_post (code : Nat) (s : State) (index sub : Nat) (detail : List Nat) (g : Nat) :
    graphSt (post code s index sub detail) g = graphSt s g := rfl

/-! A double-bit error of the scratch (R248). -/

/-- A graph whose evaluation was struck. -/
def struckGraph (y : GraphSt) : GraphSt := { y with eval := y.eval.map fun e => { e with struck := true } }

theorem struck_of_eval_struckGraph {y : GraphSt} {e : Eval} (h : (struckGraph y).eval = some e) : e.struck = true := by
  obtain ⟨e', -, rfl⟩ := Option.map_eq_some_iff.mp h
  rfl

/-- The state of a node that starts again from its whole bound. -/
def wholeBound (s : State) (slot node : Nat) : List Bnd :=
  initNodeState ((graphCfg s slot).nodes.getD node {}) (nodeConst slot [] (graphCfg s slot) node)

/-- A graph whose node `node` starts again from `whole`. -/
def nodeRestarted (node : Nat) (whole : List Bnd) (y : GraphSt) : GraphSt := { y with
  state := y.state.set node whole, next := y.next.set node whole
  done := y.done.map fun d => { d with state := d.state.set node whole } }

theorem execScratchDoubleBitError_of_state (slot node : Nat) (s : State) :
    execScratchDoubleBitError slot node true s = .next (post 0x6003
      (updGraph slot (nodeRestarted node (wholeBound s slot node)) (updGraph slot struckGraph (noteDbe 3 s))) slot) := rfl

theorem execScratchDoubleBitError_of_word (slot node : Nat) (s : State) :
    execScratchDoubleBitError slot node false s =
      .next (post 0x6003 (updGraph slot struckGraph (noteDbe 3 s)) slot) := rfl

theorem graphSt_struckNoted_self {g : Nat} {s : State} (k : Nat) (hg : g < s.eng.graphs.length) :
    graphSt (updGraph g struckGraph (noteDbe k s)) g = struckGraph (graphSt s g) := getD_upd_self _ _ _ _ hg

theorem graphSt_struckNoted_ne {g h : Nat} (k : Nat) (hne : h ≠ g) (s : State) :
    graphSt (updGraph g struckGraph (noteDbe k s)) h = graphSt s h := getD_upd_ne _ _ _ _ _ hne.symm

/-- What the note of a scratch error leaves, whatever becomes of the graph. -/
theorem scratchNoted_keeps {slot : Nat} {s u : State} (hframe : u = { s with eng := u.eng })
    (hcount : u.eng.counters = upd s.eng.counters 3 (fun x => satAdd 32 x 1))
    (hlast : u.eng.lastDbe = s.seq.frame % 4294967296) {t : State} (ht : t = post 0x6003 u slot) :
    t = { s with eng := t.eng, log := t.log } ∧ t.log = logPost s.log (mkEvent s 0x6003 slot 0xFFFF []) ∧
    t.eng.counters = upd s.eng.counters 3 (fun x => satAdd 32 x 1) ∧
    t.eng.lastDbe = s.seq.frame % 4294967296 := by
  generalize u.eng = e at hframe hcount hlast
  subst hframe ht
  exact ⟨rfl, rfl, hcount, hlast⟩

theorem updGraph_frame {s u : State} (g : Nat) (f : GraphSt → GraphSt) (h : u = { s with eng := u.eng }) :
    updGraph g f u = { s with eng := (updGraph g f u).eng } := by
  generalize u.eng = e at h
  subst h
  rfl

theorem counters_updGraph (g : Nat) (f : GraphSt → GraphSt) (s : State) :
    (updGraph g f s).eng.counters = s.eng.counters := rfl

theorem lastDbe_updGraph (g : Nat) (f : GraphSt → GraphSt) (s : State) :
    (updGraph g f s).eng.lastDbe = s.eng.lastDbe := rfl

theorem struckNoted_keeps (g : Nat) (s : State) :
    updGraph g struckGraph (noteDbe 3 s) = { s with eng := (updGraph g struckGraph (noteDbe 3 s)).eng } ∧
    (updGraph g struckGraph (noteDbe 3 s)).eng.counters = upd s.eng.counters 3 (fun x => satAdd 32 x 1) ∧
    (updGraph g struckGraph (noteDbe 3 s)).eng.lastDbe = s.seq.frame % 4294967296 := ⟨rfl, rfl, rfl⟩

/-! The end of a precision run (R252). -/

/-- The state in which the result of a precision run stands, logged. -/
def precisionStored (slot : Nat) (r : List (List (Int × Int))) (s : State) : State :=
  post 0x6041 { s with eng := { s.eng with precision := none, precisionResult := r } } slot

/-- Whether two bounds of one value share no point. -/
def someDisjoint (p : Precision) (r : List (List (Int × Int))) : Bool :=
  (List.zip p.edges r).any fun x => (List.zip x.1 x.2).any fun y => disjointEdges y.1 y.2

theorem execPrecisionRunComplete_of_none {s : State} {r : List (List (Int × Int))} (h : s.eng.precision = none) :
    execPrecisionRunComplete r s = .next s := by
  rw [execPrecisionRunComplete, h]

theorem execPrecisionRunComplete_of_run {s : State} {p : Precision} {r : List (List (Int × Int))}
    (h : s.eng.precision = some p) : execPrecisionRunComplete r s =
      .next (if someDisjoint p r then precisionEmpty p.slot (precisionStored p.slot r s)
        else precisionStored p.slot r s) := by
  rw [execPrecisionRunComplete, h]
  rfl

theorem disjointEdges_iff (e : PortElem) (r : Int × Int) :
    disjointEdges e r = true ↔ e.inf = false ∧ (r.2 < e.lo0 ∨ e.hi0 < r.1) := by
  simp [disjointEdges]

theorem someDisjoint_eq_false {p : Precision} {r : List (List (Int × Int))} (h : ∀ x ∈ List.zip p.edges r,
    ∀ y ∈ List.zip x.1 x.2, y.1.inf = true ∨ (y.1.lo0 ≤ y.2.2 ∧ y.2.1 ≤ y.1.hi0)) : someDisjoint p r = false := by
  refine List.any_eq_false.mpr fun x hx => Bool.eq_false_iff.mp (List.any_eq_false.mpr fun y hy => ?_)
  rw [disjointEdges_iff]
  rintro ⟨hinf, hout⟩
  rcases h x hx y hy with hy | ⟨hlo, hhi⟩
  · exact Bool.false_ne_true (hinf.symm.trans hy)
  · omega

theorem someDisjoint_eq_true {p : Precision} {r : List (List (Int × Int))} (h : ∃ x ∈ List.zip p.edges r,
    ∃ y ∈ List.zip x.1 x.2, y.1.inf = false ∧ (y.2.2 < y.1.lo0 ∨ y.1.hi0 < y.2.1)) : someDisjoint p r = true := by
  obtain ⟨x, hx, y, hy, hout⟩ := h
  exact List.any_eq_true.mpr ⟨x, hx, List.any_eq_true.mpr ⟨y, hy, (disjointEdges_iff _ _).mpr hout⟩⟩

/-! Distrust of the engine (R252). -/

/-- A graph that the distrust of the engine disables. -/
def disabledGraph (y : GraphSt) : GraphSt := { y with disabled := true, eval := none, done := [] }

theorem graphSt_disableGraph (g h : Nat) (s : State) : graphSt (disableGraph g s) h =
    if g = h ∧ h < s.eng.graphs.length then disabledGraph (graphSt s h) else graphSt s h := getD_upd _ _ _ _ _

/-- What disabling graphs leaves of the engine and of the marks of a graph. -/
def DisabledOnly (s t : State) : Prop :=
  (t.eng.precisionResult = s.eng.precisionResult ∧ t.eng.lastEmpty = s.eng.lastEmpty ∧
    t.eng.distrusted = s.eng.distrusted ∧ (s.eng.precision = none → t.eng.precision = none)) ∧
  ∀ g, (graphSt t g).poisoned = (graphSt s g).poisoned ∧ (graphSt t g).scrubEnd = (graphSt s g).scrubEnd ∧
    ((graphSt t g).eval = (graphSt s g).eval ∨ (graphSt t g).eval = none)

theorem DisabledOnly.trans {s t u : State} (h : DisabledOnly s t) (h' : DisabledOnly t u) : DisabledOnly s u := by
  obtain ⟨⟨hresult, hempty, hdistrust, hprec⟩, hgraph⟩ := h
  obtain ⟨⟨hresult', hempty', hdistrust', hprec'⟩, hgraph'⟩ := h'
  refine ⟨⟨hresult'.trans hresult, hempty'.trans hempty, hdistrust'.trans hdistrust, fun hp => hprec' (hprec hp)⟩,
    fun g => ?_⟩
  obtain ⟨hpoison, hscrub, heval⟩ := hgraph g
  obtain ⟨hpoison', hscrub', heval'⟩ := hgraph' g
  exact ⟨hpoison'.trans hpoison, hscrub'.trans hscrub, heval'.elim (fun h => h ▸ heval) .inr⟩

theorem DisabledOnly.refl (s : State) : DisabledOnly s s :=
  ⟨⟨rfl, rfl, rfl, id⟩, fun _ => ⟨rfl, rfl, .inl rfl⟩⟩

theorem disabledOnly_disableGraph (g : Nat) (s : State) : DisabledOnly s (disableGraph g s) := by
  refine ⟨⟨rfl, rfl, rfl, fun hp => ?_⟩, fun h => ?_⟩
  · have hmatch : (disableGraph g s).eng.precision = (match s.eng.precision with
      | some p => if p.slot = g then none else some p
      | none => none) := rfl
    rw [hmatch, hp]
  · rw [graphSt_disableGraph]
    split
    · exact ⟨rfl, rfl, .inr rfl⟩
    · exact ⟨rfl, rfl, .inl rfl⟩

theorem disabled_disableGraph {g h : Nat} {s : State} (hlen : h < s.eng.graphs.length)
    (hg : g = h ∨ (graphSt s h).disabled = true) : (graphSt (disableGraph g s) h).disabled = true := by
  rw [graphSt_disableGraph]
  split
  · rfl
  case isFalse hne => exact hg.resolve_left fun hgh => hne ⟨hgh, hlen⟩

/-- Every graph of the slots is disabled. -/
theorem disabled_foldl_disableGraph {g : Nat} {s : State} (hg : g < 8) (hlen : g < s.eng.graphs.length) :
    (graphSt ((List.range 8).foldl (fun t g => disableGraph g t) s) g).disabled = true :=
  foldl_reaches (f := fun t g => disableGraph g t) (P := fun t => (graphSt t g).disabled = true)
    (Q := fun t => g < t.eng.graphs.length) (fun t h ht => (length_upd t.eng.graphs h _).symm ▸ ht)
    (fun _ _ ht hdis => disabled_disableGraph ht (.inr hdis)) (fun _ ht => disabled_disableGraph ht (.inl rfl))
    (List.mem_range.mpr hg) hlen

/-- A graph whose bounds shared no point (R252). -/
def emptyGraph (frame : Nat) (y : GraphSt) : GraphSt := { y with poisoned := true, scrubEnd := some (frame + 128) }

/-- The state in which the empty intersection of graph `slot` has been noted. -/
def emptyNoted (slot : Nat) (s : State) : State :=
  post 0x6040 { strikeGraph slot (updGraph slot (emptyGraph s.seq.frame) s) with
    eng := { (strikeGraph slot (updGraph slot (emptyGraph s.seq.frame) s)).eng with lastEmpty := some s.seq.frame } } slot

theorem precisionEmpty_first {slot : Nat} {s : State} (h : s.eng.lastEmpty = none) :
    precisionEmpty slot s = emptyNoted slot s := by
  unfold precisionEmpty
  extract_lets again s1 s2
  have hagain : ¬ again = true := by
    dsimp only [again]
    rw [h]
    exact Bool.false_ne_true
  exact if_neg hagain

/-- The engine distrusted after a second empty intersection. -/
def distrustedState (s : State) : State :=
  (List.range 8).foldl (fun t g => disableGraph g t) { s with eng := { s.eng with distrusted := true } }

theorem precisionEmpty_eq (slot : Nat) (s : State) : precisionEmpty slot s = emptyNoted slot s ∨
    precisionEmpty slot s = distrustedState (emptyNoted slot s) := by
  unfold precisionEmpty
  extract_lets again s1 s2
  split
  · exact .inr rfl
  · exact .inl rfl

theorem precisionEmpty_again {slot f : Nat} {s : State} (h : s.eng.lastEmpty = some f)
    (hsoon : s.seq.frame < f + 6000000) : precisionEmpty slot s = distrustedState (emptyNoted slot s) := by
  unfold precisionEmpty
  extract_lets again s1 s2
  have hagain : again = true := by
    dsimp only [again]
    rw [h]
    exact decide_eq_true hsoon
  exact if_pos hagain

theorem graphSt_emptyNoted {slot : Nat} {s : State} (hslot : slot < s.eng.graphs.length) :
    graphSt (emptyNoted slot s) slot = struckGraph (emptyGraph s.seq.frame (graphSt s slot)) := by
  have hlen : slot < (updGraph slot (emptyGraph s.seq.frame) s).eng.graphs.length := (length_upd _ _ _).symm ▸ hslot
  exact (graphSt_updGraph_self hlen struckGraph).trans (congrArg struckGraph (graphSt_updGraph_self hslot _))

theorem disabledOnly_distrusted (s : State) :
    DisabledOnly { s with eng := { s.eng with distrusted := true } } (distrustedState s) :=
  foldl_rel (R := DisabledOnly) DisabledOnly.refl (fun _ _ _ => DisabledOnly.trans)
    (fun t g => disabledOnly_disableGraph g t) (List.range 8) _

/-- What every empty intersection leaves, whether or not the engine is distrusted. -/
theorem precisionEmpty_keeps {slot : Nat} {s : State} (hslot : slot < s.eng.graphs.length)
    (hprec : s.eng.precision = none) :
    (precisionEmpty slot s).eng.precisionResult = s.eng.precisionResult ∧
    (precisionEmpty slot s).eng.lastEmpty = some s.seq.frame ∧ (precisionEmpty slot s).eng.precision = none ∧
    (∀ e, (graphSt (precisionEmpty slot s) slot).eval = some e → e.struck = true) ∧
    (graphSt (precisionEmpty slot s) slot).poisoned = true ∧
    (graphSt (precisionEmpty slot s) slot).scrubEnd = some (s.seq.frame + 128) := by
  have hgraph := graphSt_emptyNoted hslot
  rcases precisionEmpty_eq slot s with h | h
  · rw [h, hgraph]
    exact ⟨rfl, rfl, hprec, fun e he => struck_of_eval_struckGraph he, rfl, rfl⟩
  · obtain ⟨⟨hresult, hempty, -, hnone⟩, hmarks⟩ := disabledOnly_distrusted (emptyNoted slot s)
    obtain ⟨hpoison, hscrub, heval⟩ := hmarks slot
    have hsame : graphSt { emptyNoted slot s with eng := { (emptyNoted slot s).eng with distrusted := true } } slot =
        struckGraph (emptyGraph s.seq.frame (graphSt s slot)) := hgraph
    rw [hsame] at hpoison hscrub heval
    rw [h]
    refine ⟨hresult, hempty, hnone hprec, fun e he => ?_, hpoison, hscrub⟩
    rcases heval with heval | heval
    · exact struck_of_eval_struckGraph (heval.symm.trans he)
    · exact nomatch heval.symm.trans he

theorem lt_of_loaded {s : State} {g : Nat} (h : (graphSt s g).loaded = true) : g < s.eng.graphs.length := by
  refine Classical.byContradiction fun hge => ?_
  rw [graphSt, getD_of_length_le _ _ (Nat.le_of_not_lt hge)] at h
  exact Bool.false_ne_true h

/-- Settles O21: a strike acts on its graph, and a precision run ends with its result or with the empty intersection. -/
theorem scratchErrorsAndPrecisionRuns : Obligations.ScratchErrorsAndPrecisionRuns := by
  refine ⟨fun s g node st hg => ?scratch, fun s r h => execPrecisionRunComplete_of_none h,
    fun s p r hp h => ⟨_, execPrecisionRunComplete_of_run hp, ?agree⟩,
    fun s p r hp hslot h => ⟨_, execPrecisionRunComplete_of_run hp, ?empty⟩⟩
  case scratch =>
    have hstruck := graphSt_struckNoted_self 3 hg
    obtain ⟨hnoted, hcounts, hdbe⟩ := struckNoted_keeps g s
    cases st with
    | false =>
      obtain ⟨hframe, hlog, hcount, hlast⟩ := scratchNoted_keeps (slot := g) hnoted hcounts hdbe rfl
      refine ⟨_, execScratchDoubleBitError_of_word g node s, hframe, hlog, hcount, hlast, fun e he => ?_,
        fun h hh => ?_, nofun, fun _ => ?_⟩
      · rw [graphSt_post, hstruck] at he
        exact struck_of_eval_struckGraph (y := graphSt s g) he
      · rw [graphSt_post, graphSt_struckNoted_ne 3 hh]
      · rw [graphSt_post, hstruck]
        rfl
    | true =>
      have hlen : g < (updGraph g struckGraph (noteDbe 3 s)).eng.graphs.length := (length_upd _ _ _).symm ▸ hg
      have hboth := graphSt_updGraph_self hlen (nodeRestarted node (wholeBound s g node))
      rw [hstruck] at hboth
      obtain ⟨hframe, hlog, hcount, hlast⟩ := scratchNoted_keeps (slot := g)
        (updGraph_frame g (nodeRestarted node (wholeBound s g node)) hnoted)
        ((counters_updGraph _ _ _).trans hcounts) ((lastDbe_updGraph _ _ _).trans hdbe) rfl
      refine ⟨_, execScratchDoubleBitError_of_state g node s, hframe, hlog, hcount, hlast, fun e he => ?_,
        fun h hh => ?_, fun _ => ?_, nofun⟩
      · rw [graphSt_post, hboth] at he
        exact struck_of_eval_struckGraph (y := graphSt s g) he
      · rw [graphSt_post, graphSt_updGraph_ne hh, graphSt_struckNoted_ne 3 hh]
      · rw [graphSt_post, hboth]
        rfl
  case agree =>
    rw [someDisjoint_eq_false h]
    exact ⟨rfl, rfl, rfl⟩
  case empty =>
    rw [someDisjoint_eq_true h, if_pos rfl]
    obtain ⟨hresult, hempty, hprec, heval, hpoison, hscrub⟩ :=
      precisionEmpty_keeps (s := precisionStored p.slot r s) hslot rfl
    refine ⟨hresult, hempty, hprec, heval, hpoison, hscrub, fun hnone => ?_, fun f hf hsoon => ?_⟩
    · rw [precisionEmpty_first (s := precisionStored p.slot r s) hnone]
      rfl
    · rw [precisionEmpty_again (s := precisionStored p.slot r s) hf hsoon]
      obtain ⟨⟨-, -, hdistrust, -⟩, -⟩ := disabledOnly_distrusted (emptyNoted p.slot (precisionStored p.slot r s))
      refine ⟨hdistrust, fun g hg hloaded => disabled_foldl_disableGraph hg ?_⟩
      have hlen : (emptyNoted p.slot (precisionStored p.slot r s)).eng.graphs.length = s.eng.graphs.length :=
        (length_upd _ _ _).trans (length_upd _ _ _)
      exact hlen.symm ▸ lt_of_loaded hloaded

end Sys2Proof.Machine
end

section
/-! SUPPORT. Stalls, restarts and failures of pumps and fans (R396 to R398): one update of a pump or a fan each; settles
O28. -/

namespace Sys2Proof.Machine

theorem pumpSt_updPump_self {p : Nat} {s : State} (hp : p < s.pump.pumps.length) (f : PumpSt → PumpSt) :
    pumpSt (updPump p f s) p = f (pumpSt s p) := getD_upd_self _ _ _ _ hp

theorem pumpSt_updPump_ne {p q : Nat} (h : q ≠ p) (f : PumpSt → PumpSt) (s : State) :
    pumpSt (updPump p f s) q = pumpSt s q := getD_upd_ne _ _ _ _ _ h.symm

theorem fanSt_updFan_self {i : Nat} {s : State} (hi : i < s.pump.fans.length) (f : FanSt → FanSt) :
    fanSt (updFan i f s) i = f (fanSt s i) := getD_upd_self _ _ _ _ hi

/-! What the stall of an element leaves to the stroke tests and to the element's group. -/

theorem abortWhere_of_idle {s : State} (h : ∀ a ∈ s.maint.activities, inProgress a = false) (cause : Nat)
    (p : Activity → Bool) : abortWhere cause p s = s := by
  have hidle : ∀ i, inProgress (activity s i) = false := fun i => by
    unfold activity
    rcases Nat.lt_or_ge i s.maint.activities.length with hi | hi
    · rw [← List.getElem_eq_getD (h := hi)]
      exact h _ (List.getElem_mem hi)
    · rw [getD_of_length_le _ _ hi]
      rfl
  unfold abortWhere
  refine List.foldlRecOn (motive := fun t => t = s) _ _ rfl fun t ht i _ => ?_
  rw [ht]
  exact if_neg (by rw [hidle i]; nofun)

theorem abortPumpStall_of_idle {s : State} (h : ∀ a ∈ s.maint.activities, inProgress a = false) :
    abortPumpStall s = s := by
  unfold abortPumpStall
  exact abortWhere_of_idle h _ _

theorem groupFull_of_closed {s : State} (h : anyWindow s = false) (g : Nat) : groupFull g s = s :=
  if_neg (by rw [h]; nofun)

/-! The stall of an element (R397). -/

/-- A pump that stalled in `frame`, while no window is open: its retries are used up when `out`. -/
def stalledPump (frame : Nat) (out : Bool) (y : PumpSt) : PumpSt :=
  { y with state := if out then .failed else .retry, retries := if out then y.retries else y.retries + 1
           retrySince := frame, stallFrame := frame, stalls := cnt y.stalls, runOut := false, keepsRunning := false
           fullSince := y.fullSince.map fun _ => frame }

/-- A fan that stalled in `frame`, while no window is open: its retries are used up when `out`. -/
def stalledFan (frame : Nat) (out : Bool) (y : FanSt) : FanSt :=
  { y with state := if out then .failed else .retry, retries := if out then y.retries else y.retries + 1
           retrySince := frame, stallFrame := frame, stalls := cnt y.stalls, duty := 0
           fullSince := y.fullSince.map fun _ => frame }

theorem sinceOf_closed (o : Option Nat) (frame : Nat) :
    (if (false || o.isSome) = true then some frame else none) = o.map fun _ => frame := by
  cases o <;> rfl

/-- The counts of a stall of group `k`: of its stalls, and of retries or failures as `out` says. -/
theorem stallCounts_eq (k : Nat) (out : Bool) (s : State) :
    ∃ c, pumpCount k (if out then pumpCount 4 s else pumpCount 3 s) = { s with pump := { s.pump with counters := c } } := by
  by_cases h : out
  · exact ⟨_, by rw [if_pos h]; rfl⟩
  · exact ⟨_, by rw [if_neg h]; rfl⟩

theorem stallPump_eq {s : State} {p : Nat} (hrun : (pumpSt s p).state = .run) (hwin : anyWindow s = false)
    {out : Bool} (hout : (s.img.pumps.getD p {}).stallRetries ≤ (pumpSt s p).retries ↔ out = true) :
    ∃ c, stallPump p s =
      post (if out then 0xA003 else 0xA001)
        { s with pump := { s.pump with
          pumps := upd s.pump.pumps p
            (stalledPump s.seq.frame out)
          counters := c } } p 0xFFFF (leBytes 2 (pumpSt s p).faultCode) := by
  obtain ⟨c, hc⟩ := stallCounts_eq 1 out
    (updPump p (stalledPump s.seq.frame out) s)
  refine ⟨c, ?_⟩
  unfold stallPump
  dsimp only
  rw [if_neg (by rw [hrun]; nofun), hwin]
  simp only [sinceOf_closed, hout]
  unfold stalledPump at hc
  rw [hc]
  exact (groupFull_of_closed (by exact hwin) 0).trans rfl

theorem stallFan_eq {s : State} {f : Nat} (hrun : (fanSt s f).state = .run) (hwin : anyWindow s = false)
    {out : Bool} (hout : (s.img.fans.getD f {}).stallRetries ≤ (fanSt s f).retries ↔ out = true) :
    ∃ c, stallFan f s =
      post (if out then 0xA012 else 0xA010)
        { s with pump := { s.pump with
          fans := upd s.pump.fans f
            (stalledFan s.seq.frame out)
          counters := c } } f := by
  obtain ⟨c, hc⟩ := stallCounts_eq 2 out
    (updFan f (stalledFan s.seq.frame out) s)
  refine ⟨c, ?_⟩
  unfold stallFan
  dsimp only
  rw [if_neg (by rw [hrun]; nofun), hwin]
  simp only [sinceOf_closed, hout]
  unfold stalledFan at hc
  rw [hc]
  exact (groupFull_of_closed (by exact hwin) _).trans rfl

theorem stallPump_of_stopped {s : State} {p : Nat} (hrun : (pumpSt s p).state ≠ .run)
    (hkeeps : (pumpSt s p).keepsRunning = false) : stallPump p s = s := by
  unfold stallPump
  refine if_pos ?_
  rw [hkeeps, decide_eq_true hrun, Bool.and_false]
  rfl

theorem execElementStall_of_pump {s : State} {p : Nat} (hp : p < 4) (hstall : pumpStalls s p = true) :
    execElementStall p s = .next (abortPumpStall (stallPump p s)) := by
  have hpump : elementStall p false s = stallPump p s := by
    unfold elementStall
    rw [if_pos hp, hstall]
    rfl
  rw [execElementStall, hpump]

theorem execElementStall_of_fan {s : State} {f : Nat} (hstall : fanStalls s f = true) :
    execElementStall (4 + f) s = .next (abortPumpStall (stallFan f s)) := by
  have hfan : elementStall (4 + f) false s = stallFan f s := by
    unfold elementStall
    rw [if_neg (by omega), Nat.add_sub_cancel_left, hstall]
    rfl
  rw [execElementStall, hfan]

theorem execElementStall_of_stopped {s : State} {p : Nat} (hp : p < 4) (hrun : (pumpSt s p).state ≠ .run)
    (hkeeps : (pumpSt s p).keepsRunning = false) (hidle : ∀ a ∈ s.maint.activities, inProgress a = false) :
    execElementStall p s = .next s := by
  have hsame : elementStall p false s = s := by
    unfold elementStall
    dsimp only
    rw [if_pos hp, stallPump_of_stopped hrun hkeeps, ite_self]
  rw [execElementStall, hsame, abortPumpStall_of_idle hidle]

/-! The end of a retry, and the retries given back (R396). -/

theorem execElementRetryEnd_of_pump {s : State} {p : Nat} (hp : p < 4) (hretry : (pumpSt s p).state = .retry)
    (hage : (pumpSt s p).retrySince + 20000 ≤ s.seq.frame) :
    execElementRetryEnd p s = .next (post 0xA002 (restartPump p s) p) := by
  unfold execElementRetryEnd
  dsimp only
  rw [if_pos hp, hretry, decide_eq_true hage]
  rfl

theorem execElementRetryEnd_of_fan {s : State} {f : Nat} (hretry : (fanSt s f).state = .retry)
    (hage : (fanSt s f).retrySince + 20000 ≤ s.seq.frame) :
    execElementRetryEnd (4 + f) s = .next (post 0xA011 (restartFan f s) f) := by
  unfold execElementRetryEnd
  dsimp only
  rw [if_neg (by omega), Nat.add_sub_cancel_left, hretry, decide_eq_true hage]
  rfl

theorem execElementRetryEnd_of_early {s : State} {p : Nat} (hp : p < 4)
    (hage : s.seq.frame < (pumpSt s p).retrySince + 20000) : execElementRetryEnd p s = .next s := by
  unfold execElementRetryEnd
  dsimp only
  rw [if_pos hp, decide_eq_false (Nat.not_le.2 hage), Bool.and_false]
  rfl

theorem execRetryCountReset_of_due {s : State} {p : Nat} (hp : p < 4) (hrun : (pumpSt s p).state = .run)
    (hage : (pumpSt s p).stallFrame + 6000000 ≤ s.seq.frame) :
    execRetryCountReset p s = .next (updPump p (fun y => { y with retries := 0 }) s) := by
  unfold execRetryCountReset
  dsimp only
  rw [if_pos hp, hrun, decide_eq_true hage]
  rfl

theorem execRetryCountReset_of_early {s : State} {p : Nat} (hp : p < 4)
    (hage : s.seq.frame < (pumpSt s p).stallFrame + 6000000) : execRetryCountReset p s = .next s := by
  unfold execRetryCountReset
  dsimp only
  rw [if_pos hp, decide_eq_false (Nat.not_le.2 hage), Bool.and_false]
  rfl

theorem execGroupFullSpeedEnd_of_settled {s : State} {g : Nat} (hfull : s.pump.fullSpeed.getD g false = true)
    (hsettled : groupMembersSettled s g = true) :
    ∃ ps fs, execGroupFullSpeedEnd g s = .next (post 0xA023 { s with pump := { s.pump with
      fullSpeed := s.pump.fullSpeed.set g false, pumps := ps, fans := fs } } g) := by
  unfold execGroupFullSpeedEnd
  rw [hfull, hsettled]
  exact ⟨_, _, rfl⟩

theorem execGroupFullSpeedEnd_of_open {s : State} {g : Nat}
    (h : s.pump.fullSpeed.getD g false = false ∨ groupMembersSettled s g = false) :
    execGroupFullSpeedEnd g s = .next s := by
  have hguard : (s.pump.fullSpeed.getD g false && groupMembersSettled s g) = false := by
    rcases h with h | h
    · rw [h, Bool.false_and]
    · rw [h, Bool.and_false]
  unfold execGroupFullSpeedEnd
  rw [hguard]
  rfl

/-- Settles O28: a stall counts against its element's retries, and a retry ends in a restart. -/
theorem elementStallsAndRestarts : Obligations.ElementStallsAndRestarts := by
  refine ⟨fun s p hp hlen hrun hstall hwin hidle hleft => ?retry, fun s p hp hlen hrun hstall hwin hidle hout => ?failed,
    fun s f hlen hrun hstall hwin hidle hleft => ?fan,
    fun s p hp hrun hkeeps hidle => execElementStall_of_stopped hp hrun hkeeps hidle,
    fun s p hp hlen hretry hage => ⟨_, execElementRetryEnd_of_pump hp hretry hage, ?pumpBack⟩,
    fun s f hlen hretry hage => ⟨_, execElementRetryEnd_of_fan hretry hage, ?fanBack⟩,
    fun s p hp hage => execElementRetryEnd_of_early hp hage,
    fun s p hp hlen hrun hage => ⟨_, execRetryCountReset_of_due hp hrun hage, pumpSt_updPump_self hlen _,
      fun q hq => pumpSt_updPump_ne hq _ s, rfl⟩,
    fun s p hp hage => execRetryCountReset_of_early hp hage, fun s g hfull hsettled => ?settled,
    fun s g h => execGroupFullSpeedEnd_of_open h⟩
  case retry =>
    obtain ⟨c, hc⟩ := stallPump_eq hrun hwin (out := false) ⟨fun h => absurd h (Nat.not_le.2 hleft), nofun⟩
    refine ⟨_, (execElementStall_of_pump hp hstall).trans
      (congrArg Host.Outcome.next (abortPumpStall_of_idle (by rw [hc]; exact hidle))), ?_⟩
    rw [hc]
    exact ⟨(pumpSt_updPump_self hlen _).trans rfl, fun q hq => pumpSt_updPump_ne hq _ s, rfl, rfl⟩
  case failed =>
    obtain ⟨c, hc⟩ := stallPump_eq hrun hwin (out := true) ⟨fun _ => rfl, fun _ => hout⟩
    refine ⟨_, (execElementStall_of_pump hp hstall).trans
      (congrArg Host.Outcome.next (abortPumpStall_of_idle (by rw [hc]; exact hidle))), ?_⟩
    have hself := pumpSt_updPump_self hlen (stalledPump s.seq.frame true)
    rw [hc]
    exact ⟨(congrArg PumpSt.state hself).trans rfl, (congrArg PumpSt.retries hself).trans rfl, rfl, rfl⟩
  case fan =>
    obtain ⟨c, hc⟩ := stallFan_eq hrun hwin (out := false) ⟨fun h => absurd h (Nat.not_le.2 hleft), nofun⟩
    refine ⟨_, (execElementStall_of_fan hstall).trans
      (congrArg Host.Outcome.next (abortPumpStall_of_idle (by rw [hc]; exact hidle))), ?_⟩
    have hself := fanSt_updFan_self hlen (stalledFan s.seq.frame false)
    rw [hc]
    exact ⟨(congrArg FanSt.state hself).trans rfl, (congrArg FanSt.duty hself).trans rfl,
      (congrArg FanSt.retries hself).trans rfl, rfl, rfl⟩
  case pumpBack =>
    have hself : pumpSt (restartPump p s) p = _ := pumpSt_updPump_self hlen _
    exact ⟨(congrArg PumpSt.state hself).trans rfl, (congrArg PumpSt.speed hself).trans rfl,
      (congrArg PumpSt.suppress hself).trans rfl, (congrArg PumpSt.retries hself).trans rfl,
      fun q hq => pumpSt_updPump_ne hq _ s, rfl, rfl⟩
  case fanBack =>
    have hself : fanSt (restartFan f s) f = _ := fanSt_updFan_self hlen _
    exact ⟨(congrArg FanSt.state hself).trans rfl, (congrArg FanSt.speed hself).trans rfl,
      (congrArg FanSt.suppress hself).trans rfl, rfl, rfl⟩
  case settled =>
    obtain ⟨ps, fs, h⟩ := execGroupFullSpeedEnd_of_settled hfull hsettled
    exact ⟨_, h, rfl, rfl, rfl⟩

end Sys2Proof.Machine
end

section
/-! SUPPORT. Pump paths, overspeed and speed ramps (R34, R382 to R392); settles O29. -/

namespace Sys2Proof.Machine

/-! The status of a pump and its absence (R382, R385). -/

/-- The status word `n` as the pump's record takes it, in a basic cycle that makes `run` consecutive ones. -/
def statusTaken (frame n run cyc : Nat) (y : PumpSt) : PumpSt :=
  { y with speedAct := bits n 15 0, running := bit n 16, faultCode := bits n 47 32, statusCount := cnt y.statusCount
           lastStatus := some frame, cycleRun := run, lastCycle := cyc
           actHist := (frame, bits n 15 0) :: y.actHist.filter fun h => frame < h.1 + 50000 }

theorem execPumpStatusReceived_of_status {s : State} {p : Nat} {b : List Nat} (hpresent : pumpPresent s p = true)
    (hlen : b.length = 8) (hpath : (pumpSt s p).analog = false) (hfault : bit (leNat b) 17 = false) :
    ∃ run, execPumpStatusReceived p b s =
      .next (updPump p (statusTaken s.seq.frame (leNat b) run (basicCycle s)) s) := by
  unfold execPumpStatusReceived pumpStatus
  dsimp only
  rw [hpresent, if_pos rfl, if_neg (not_not_intro hlen), hpath, hfault]
  exact ⟨_, rfl⟩

theorem execPumpStatusReceived_of_length {s : State} {p : Nat} {b : List Nat} (hpresent : pumpPresent s p = true)
    (hlen : b.length ≠ 8) : execPumpStatusReceived p b s = .next (pumpCount 6 s) := by
  unfold execPumpStatusReceived pumpStatus
  rw [hpresent, if_pos rfl, if_pos hlen]

theorem execPumpStatusReceived_of_absent {s : State} {p : Nat} (b : List Nat) (h : pumpPresent s p = false) :
    execPumpStatusReceived p b s = .next s := by
  rw [execPumpStatusReceived, h]
  rfl

theorem pumpStale_of_old {s : State} {p f : Nat} (h : (pumpSt s p).lastStatus = some f)
    (hage : f + 1000 ≤ s.seq.frame) :
    pumpStale s p = true := by
  unfold pumpStale
  rw [h]
  exact (congrArg (Bool.or _) (decide_eq_true hage)).trans (Bool.or_true _)

theorem pumpStale_of_none {s : State} {p : Nat} (h : (pumpSt s p).lastStatus = none) (hage : 1000 ≤ s.seq.frame) :
    pumpStale s p = true := by
  unfold pumpStale
  rw [h]
  exact (congrArg (Bool.or _) (decide_eq_true hage)).trans (Bool.or_true _)

/-- A pump that moves to its analog path. -/
def onAnalog (y : PumpSt) : PumpSt := { y with analog := true, cycleRun := 0 }

theorem execPumpStatusStale_of_stale {s : State} {p : Nat} (hpresent : pumpPresent s p = true)
    (hpath : (pumpSt s p).analog = false) (hstale : pumpStale s p = true) :
    execPumpStatusStale p s = .next (post 0xA004 (pumpCount 5 (updPump p onAnalog s)) p) := by
  rw [execPumpStatusStale, hpresent, hpath, hstale]
  rfl

theorem execPumpStatusStale_of_analog {s : State} {p : Nat} (h : (pumpSt s p).analog = true) :
    execPumpStatusStale p s = .next s := by
  rw [execPumpStatusStale, h, Bool.not_true, Bool.and_false, Bool.false_and]
  rfl

/-! Episodes of overspeed and their rest (R34, R392). -/

theorem execPumpOverspeedLimit_of_old {s : State} {p f : Nat} (h : (pumpSt s p).episode = some f)
    (hage : f + 1200000 ≤ s.seq.frame) :
    execPumpOverspeedLimit p s = .next (updPump p (fun y => { y with limit := 10000 }) s) := by
  rw [execPumpOverspeedLimit, h]
  exact congrArg Host.Outcome.next (if_pos hage)

theorem execPumpOverspeedLimit_of_young {s : State} {p : Nat}
    (h : ∀ f, (pumpSt s p).episode = some f → s.seq.frame < f + 1200000) : execPumpOverspeedLimit p s = .next s := by
  unfold execPumpOverspeedLimit
  cases he : (pumpSt s p).episode with
  | none => rfl
  | some f => exact congrArg Host.Outcome.next (if_neg (Nat.not_le.2 (h f he)))

theorem execOverspeedRestEnd_of_over {s : State} {p f : Nat} (h : (pumpSt s p).restEnd = some f)
    (hage : f ≤ s.seq.frame) :
    execOverspeedRestEnd p s = .next (updPump p (fun y => { y with restEnd := none }) s) := by
  rw [execOverspeedRestEnd, h]
  exact congrArg Host.Outcome.next (if_pos hage)

theorem execOverspeedRestEnd_of_resting {s : State} {p : Nat}
    (h : ∀ f, (pumpSt s p).restEnd = some f → s.seq.frame < f) : execOverspeedRestEnd p s = .next s := by
  unfold execOverspeedRestEnd
  cases he : (pumpSt s p).restEnd with
  | none => rfl
  | some f => exact congrArg Host.Outcome.next (if_neg (Nat.not_le.2 (h f he)))

theorem pumpLimit_of_barred {s : State} {p : Nat} (h : s.plan.mode ≠ .feast ∨ (pumpSt s p).analog = true ∨
    (∃ f, (pumpSt s p).episode = some f ∧ f + 1200000 ≤ s.seq.frame) ∨
    (∃ f, (pumpSt s p).restEnd = some f ∧ s.seq.frame < f)) : pumpLimit s p = 10000 := by
  unfold pumpLimit
  dsimp only
  refine if_neg ?_
  rcases h with hmode | hpath | ⟨f, hf, hage⟩ | ⟨f, hf, hage⟩
  · simp [hmode]
  · simp [hpath]
  · simp [hf, Nat.not_lt.2 hage]
  · simp [hf, hage]

/-! The ramp of a speed state (R390). -/

theorem speedStep_rates (g : GroupCfg) (t v : Nat) :
    ∃ up down, 1 ≤ up ∧ 1 ≤ down ∧ up ≤ max 1 (max (g.rateUp * 65536 / 10000) (g.rateDown * 65536 / 10000)) ∧
      down ≤ max 1 (max (g.rateUp * 65536 / 10000) (g.rateDown * 65536 / 10000)) ∧
      speedStep g t v = if v < t * 65536 then min (t * 65536) (v + up) else max (t * 65536) (v - down) := by
  unfold speedStep
  extract_lets goal up0 down0 crossing up down
  refine ⟨up, down, ?_, ?_, ?_, ?_, rfl⟩ <;> cases hc : crossing <;> simp [up, down, hc, up0, down0] <;> omega

/-- Settles O29: a pump keeps its bus path while its status is fresh, and its speed state its rates. -/
theorem pumpPathsOverspeedAndRamps : Obligations.PumpPathsOverspeedAndRamps := by
  refine ⟨fun s p b hpresent hlen hp hpath hfault => ?status,
    fun s p b hpresent hlen => execPumpStatusReceived_of_length hpresent hlen,
    fun s p b h => execPumpStatusReceived_of_absent b h,
    fun s p f hpresent hp hpath hf hage =>
      ⟨_, execPumpStatusStale_of_stale hpresent hpath (pumpStale_of_old hf hage), pumpSt_updPump_self hp onAnalog,
        fun q hq => pumpSt_updPump_ne hq onAnalog s, rfl, rfl, rfl⟩,
    fun s p hpresent hp hpath hnone hage =>
      ⟨_, execPumpStatusStale_of_stale hpresent hpath (pumpStale_of_none hnone hage), ?analog⟩,
    fun s p h => execPumpStatusStale_of_analog h,
    fun s p f hp hf hage => ⟨_, execPumpOverspeedLimit_of_old hf hage, pumpSt_updPump_self hp _,
      fun q hq => pumpSt_updPump_ne hq _ s, rfl⟩,
    fun s p h => execPumpOverspeedLimit_of_young h,
    fun s p f hp hf hage => ⟨_, execOverspeedRestEnd_of_over hf hage, pumpSt_updPump_self hp _, rfl⟩,
    fun s p h => execOverspeedRestEnd_of_resting h, fun s p h => pumpLimit_of_barred h, fun g t v => ?ramp⟩
  case status =>
    obtain ⟨run, h⟩ := execPumpStatusReceived_of_status hpresent hlen hpath hfault
    have hself := pumpSt_updPump_self hp (statusTaken s.seq.frame (leNat b) run (basicCycle s))
    refine ⟨_, h, ?_, congrArg PumpSt.lastStatus hself, congrArg PumpSt.statusCount hself,
      congrArg PumpSt.faultCode hself, (congrArg PumpSt.analog hself).trans hpath,
      fun q hq => pumpSt_updPump_ne hq _ s, rfl⟩
    exact (congrArg PumpSt.speedAct hself).trans (congrArg (· % 65536) (Nat.div_one (leNat b)))
  case analog => exact congrArg PumpSt.analog (pumpSt_updPump_self hp onAnalog)
  case ramp =>
    obtain ⟨up, down, hup, hdown, hupMax, hdownMax, hstep⟩ := speedStep_rates g t v
    rw [hstep]
    split <;> omega

end Sys2Proof.Machine
end

section
/-! SUPPORT. Vigil, the spray cycle and the day's water (R395, R399 to R404); settles O30. -/

namespace Sys2Proof.Machine

/-! Vigil (R395). -/

theorem execVigilHold_of_old {s : State} (hcontrol : s.pow.plantControl = true) (hage : 500 < s.pump.planAge)
    (hvigil : s.pump.vigil = false) :
    execVigilHold s =
      .next (post 0xA020 (pumpCount 0 (closeSpray { s with pump := { s.pump with vigil := true, commitRun := 0 } }))) := by
  rw [execVigilHold, hcontrol, hvigil, decide_eq_true hage]
  rfl

theorem execVigilHold_of_barred {s : State}
    (h : s.pump.planAge ≤ 500 ∨ s.pump.vigil = true ∨ s.pow.plantControl = false) : execVigilHold s = .next s := by
  unfold execVigilHold
  refine congrArg Host.Outcome.next (if_neg ?_)
  rcases h with hage | hvigil | hcontrol
  · simp [Nat.not_lt.2 hage]
  · simp [hvigil]
  · simp [hcontrol]

/-! The spray cycle (R399, R401). -/

theorem sprayDuty_of_barred {s : State}
    (h : s.pump.vigil = true ∨ s.pump.sprayInhibit = true ∨ waterSpent s = true) : sprayDuty s = 0 := by
  unfold sprayDuty
  refine if_pos ?_
  rcases h with h | h | h
  · simp [h]
  · simp [h]
  · simp [h]

theorem execSprayCycle_of_boundary {s : State} (hframe : s.seq.frame % 100000 = 0) (hcontrol : s.pow.plantControl = true) :
    execSprayCycle s = .next (sprayCycle s) := by
  rw [execSprayCycle, hcontrol, decide_eq_true hframe]
  rfl

theorem execSprayCycle_of_between {s : State} (h : s.seq.frame % 100000 ≠ 0) : execSprayCycle s = .next s := by
  rw [execSprayCycle, decide_eq_false h]
  rfl

theorem sprayOwed_of_none {s : State} (h : sprayDuty s = 0) : sprayOwed s = (0, 0) := by
  rw [sprayOwed, h]
  rfl

theorem sprayOwed_of_due {s : State} (hduty : sprayDuty s ≠ 0) (hdue : 5000 ≤ s.pump.acc + 10 * sprayDuty s) :
    sprayOwed s = (s.pump.acc + 10 * sprayDuty s, min (s.pump.acc + 10 * sprayDuty s) 100000) := by
  unfold sprayOwed
  dsimp only
  rw [if_neg hduty, if_pos hdue]

theorem sprayCycle_of_none {s : State} (h : sprayDuty s = 0) :
    sprayCycle s = { s with pump := { s.pump with acc := 0, spray := sprayOpenings s.seq.frame s } } := by
  unfold sprayCycle
  dsimp only
  rw [sprayOwed_of_none h]
  rfl

theorem sprayCycle_of_due {s : State} (hduty : sprayDuty s ≠ 0) (hdue : 5000 ≤ s.pump.acc + 10 * sprayDuty s) :
    sprayCycle s = pumpCount 7 { s with pump := { s.pump with
      acc := s.pump.acc + 10 * sprayDuty s - min (s.pump.acc + 10 * sprayDuty s) 100000
      spray := sprayOpenings s.seq.frame s } } := by
  unfold sprayCycle
  dsimp only
  rw [sprayOwed_of_due hduty hdue, if_neg (by omega)]

/-- What a cycle that begins in frame `n` plans for valve `v`: `on` frames, shared out among the valves `vs`. -/
def plannedOpening (n on : Nat) (vs : List Nat) (v : Nat) (x : SprayValve) : SprayValve :=
  match vs.findIdx? (· = v) with
  | some i => { x with from_ := if on = 0 then 0 else n + (100000 - on) * i / vs.length
                       until_ := if on = 0 then 0 else n + (100000 - on) * i / vs.length + on }
  | none => { x with from_ := 0, until_ := 0 }

theorem getElem?_sprayOpenings (n v : Nat) (s : State) :
    (sprayOpenings n s)[v]? = s.pump.spray[v]?.map (plannedOpening n (sprayOwed s).2 (sprayServed s) v) := by
  unfold sprayOpenings plannedOpening
  dsimp only
  exact List.getElem?_mapIdx

theorem account_plannedOpening (n on : Nat) (vs : List Nat) (v : Nat) (x : SprayValve) :
    (plannedOpening n on vs v x).account = x.account := by
  unfold plannedOpening
  split <;> rfl

theorem plannedOpening_of_none (n : Nat) (vs : List Nat) (v : Nat) (x : SprayValve) :
    (plannedOpening n 0 vs v x).from_ = 0 ∧ (plannedOpening n 0 vs v x).until_ = 0 := by
  unfold plannedOpening
  split <;> exact ⟨rfl, rfl⟩

/-- The opening of a valve in service lies within the cycle. -/
theorem plannedOpening_of_served {n on v : Nat} {vs : List Nat} (hv : v ∈ vs) (hon : 0 < on) (hcycle : on ≤ 100000)
    (x : SprayValve) :
    (plannedOpening n on vs v x).until_ = (plannedOpening n on vs v x).from_ + on ∧
      n ≤ (plannedOpening n on vs v x).from_ ∧ (plannedOpening n on vs v x).until_ ≤ n + 100000 := by
  unfold plannedOpening
  split
  next i hi =>
    obtain ⟨hlen, -, -⟩ := List.findIdx?_eq_some_iff_getElem.1 hi
    have hpart : (100000 - on) * i / vs.length ≤ 100000 - on :=
      Nat.div_le_of_le_mul (by rw [Nat.mul_comm]; exact Nat.mul_le_mul_right _ (Nat.le_of_lt hlen))
    dsimp only
    rw [if_neg (Nat.ne_of_gt hon), if_neg (Nat.ne_of_gt hon)]
    generalize (100000 - on) * i / vs.length = part at hpart
    omega
  next hnone => exact absurd (List.findIdx?_eq_none_iff.1 hnone v hv) (by simp)

/-- A cycle plans openings, and leaves the accounts of the valves alone. -/
theorem account_sprayOpenings (n : Nat) (s : State) :
    (sprayOpenings n s).map (·.account) = s.pump.spray.map (·.account) := by
  refine List.ext_getElem? fun v => ?_
  rw [List.getElem?_map, getElem?_sprayOpenings, Option.map_map, List.getElem?_map]
  exact congrArg (Option.map · _) (funext fun x => account_plannedOpening _ _ _ _ x)

theorem sprayOpenings_of_none {s : State} (n : Nat) (h : sprayDuty s = 0) :
    ∀ x ∈ sprayOpenings n s, x.from_ = 0 ∧ x.until_ = 0 := by
  intro x hx
  obtain ⟨v, hv⟩ := List.mem_iff_getElem?.1 hx
  rw [getElem?_sprayOpenings, sprayOwed_of_none h] at hv
  obtain ⟨y, -, rfl⟩ := Option.map_eq_some_iff.1 hv
  exact plannedOpening_of_none _ _ _ _

theorem getD_sprayOpenings {s : State} {v : Nat} (n : Nat) (hv : v < s.pump.spray.length) :
    (sprayOpenings n s).getD v {} =
      plannedOpening n (sprayOwed s).2 (sprayServed s) v (s.pump.spray.getD v {}) := by
  rw [List.getD_eq_getElem?_getD, getElem?_sprayOpenings, List.getD_eq_getElem?_getD, List.getElem?_eq_getElem hv]
  rfl

/-! The day's water (R402, R403). -/

theorem keepTimeLeft_eq (s : State) :
    ∃ left at_, keepTimeLeft s = { s with pump := { s.pump with tRem := left, tRemAt := at_ } } := by
  unfold keepTimeLeft
  split <;> exact ⟨_, _, rfl⟩

theorem execWaterDayRollover_of_held {s : State} (hwall : wallValid s = false) :
    execWaterDayRollover s = .next (if timeLeft s = 0 then newDay (s.pump.day + 1) s else s) := by
  rw [execWaterDayRollover, hwall]
  rfl

theorem execWaterDayRollover_of_wall {s : State} (hwall : wallValid s = true) (hday : s.pump.wallDay = true) :
    execWaterDayRollover s =
      .next (if (s.pump.day : Int) < waterDay s then keepTimeLeft (newDay (waterDay s).toNat s) else keepTimeLeft s) := by
  rw [execWaterDayRollover, hwall, hday]
  rfl

/-- Settles O30: Vigil ends the spray, a duty of 0 opens nothing, and a day begins with an empty account. -/
theorem sprayWaterAndVigil : Obligations.SprayWaterAndVigil := by
  refine ⟨fun s hcontrol hage hvigil => ⟨_, execVigilHold_of_old hcontrol hage hvigil, rfl, rfl, rfl, rfl, rfl, rfl,
      fun x hx => ?closed, fun x hx => ?released, rfl, rfl⟩,
    fun s h => execVigilHold_of_barred h, fun s h => sprayDuty_of_barred h,
    fun s hframe hcontrol hduty => ⟨_, execSprayCycle_of_boundary hframe hcontrol, ?none⟩,
    fun s hframe hcontrol hduty hdue => ⟨_, execSprayCycle_of_boundary hframe hcontrol, ?due⟩,
    fun s h => execSprayCycle_of_between h,
    fun s hwall hleft => ⟨_, (execWaterDayRollover_of_held hwall).trans (congrArg Host.Outcome.next (if_pos hleft)),
      rfl, rfl, rfl, rfl, rfl, rfl, rfl⟩,
    fun s hwall hleft => (execWaterDayRollover_of_held hwall).trans (congrArg Host.Outcome.next (if_neg hleft)),
    fun s hwall hday hlater => ?newDay, fun s hwall hday hsame => ?sameDay⟩
  case closed =>
    obtain ⟨y, -, rfl⟩ := List.mem_map.1 hx
    exact ⟨rfl, rfl⟩
  case released =>
    obtain ⟨y, -, rfl⟩ := List.mem_map.1 hx
    rfl
  case none =>
    rw [sprayCycle_of_none hduty]
    exact ⟨rfl, sprayOpenings_of_none _ hduty, account_sprayOpenings _ s, rfl⟩
  case due =>
    rw [sprayCycle_of_due hduty hdue]
    refine ⟨rfl, rfl, rfl, fun v hserved hv => ?_⟩
    have hplanned : (sprayOpenings s.seq.frame s).getD v {} = _ := getD_sprayOpenings s.seq.frame hv
    rw [sprayOwed_of_due hduty hdue] at hplanned
    change ((sprayOpenings s.seq.frame s).getD v {}).until_ = ((sprayOpenings s.seq.frame s).getD v {}).from_ + _ ∧ _ ∧
      ((sprayOpenings s.seq.frame s).getD v {}).until_ ≤ _
    rw [show (pumpCount 7 _).pump.spray = sprayOpenings s.seq.frame s from rfl, hplanned]
    exact plannedOpening_of_served hserved (by omega) (Nat.min_le_right _ _) _
  case newDay =>
    obtain ⟨left, at_, h⟩ := keepTimeLeft_eq (newDay (waterDay s).toNat s)
    refine ⟨_, (execWaterDayRollover_of_wall hwall hday).trans
      (congrArg Host.Outcome.next ((if_pos hlater).trans h)), rfl, ?_, rfl, rfl⟩
    exact Int.toNat_of_nonneg (Int.le_trans (Int.natCast_nonneg _) (Int.le_of_lt hlater))
  case sameDay =>
    obtain ⟨left, at_, h⟩ := keepTimeLeft_eq s
    exact ⟨_, (execWaterDayRollover_of_wall hwall hday).trans
      (congrArg Host.Outcome.next ((if_neg (Int.not_lt.2 hsame)).trans h)), rfl, rfl, rfl⟩

end Sys2Proof.Machine
end

section
/-! SUPPORT. Coil phases, the movement check and the faults of coils (R413 to R418): what the failure of a channel
changes; settles O31 and O32. -/

namespace Sys2Proof.Machine

/-! The failure of a channel (R418): its release leaves its marks, and the other channels, alone. -/

/-- Only the drive of channel `c` differs: no other channel, and no channel's reason, misses or pin reading. -/
def OnlyDrive (c : Nat) (s t : State) : Prop :=
  ∃ ch, t = { s with valve := { s.valve with ch := ch } } ∧ ∀ d, (d ≠ c → ch.getD d {} = vch s d) ∧
    (ch.getD d {}).reason = (vch s d).reason ∧ (ch.getD d {}).missRun = (vch s d).missRun ∧
    (ch.getD d {}).offMv = (vch s d).offMv

theorem OnlyDrive.refl (c : Nat) (s : State) : OnlyDrive c s s := ⟨_, rfl, fun _ => ⟨fun _ => rfl, rfl, rfl, rfl⟩⟩

theorem OnlyDrive.trans {c : Nat} {s t u : State} (h : OnlyDrive c s t) (h' : OnlyDrive c t u) : OnlyDrive c s u := by
  obtain ⟨ch, rfl, h⟩ := h
  obtain ⟨ch', rfl, h'⟩ := h'
  refine ⟨ch', rfl, fun d => ?_⟩
  obtain ⟨hne, hreason, hmiss, hmv⟩ := h d
  obtain ⟨hne', hreason', hmiss', hmv'⟩ := h' d
  exact ⟨fun hd => (hne' hd).trans (hne hd), hreason'.trans hreason, hmiss'.trans hmiss, hmv'.trans hmv⟩

theorem onlyDrive_updCh {f : ValveCh → ValveCh} (h : ∀ x, (f x).reason = x.reason ∧ (f x).missRun = x.missRun ∧
    (f x).offMv = x.offMv) (c : Nat) (s : State) : OnlyDrive c s (updCh c f s) := by
  refine ⟨_, rfl, fun d => ?_⟩
  have hd : (upd s.valve.ch c f).getD d {} = _ := vch_updCh c d f s
  refine ⟨fun hne => vch_updCh_ne f hne, ?_⟩
  rw [hd]
  split
  · exact h _
  · exact ⟨rfl, rfl, rfl⟩

theorem onlyDrive_dropChannel (c : Nat) (s : State) : OnlyDrive c s (dropChannel s c) := by
  unfold dropChannel
  refine onlyDrive_updCh (fun x => ?_) c s
  exact ⟨rfl, rfl, rfl⟩

/-- The state in which the failure of a channel stands, counted and logged. -/
def markedFailed (c reason code : Nat) (s : State) : State :=
  post code (valveCount 14 (updCh c (fun x => { x with reason := reason }) s)) c reason

theorem driven_of_short {s : State} {c : Nat} (cls : Nat) (h : (vch s c).reason = 4) : driven s c cls = false := by
  unfold driven
  rw [h]
  exact Bool.and_false _

/-- What the release after a failure does to the marked state. -/
def releaseFailed (c reason : Nat) (s : State) : State :=
  if reason = 4 && (requestInForce (vch s c)).isNone then dropChannel s c
  else match requestInForce (vch s c) with
  | some (cls, true) =>
    if driven s c cls then s
    else if cls = 0 then dropChannel s c else updCh c (fun x => { x with lastResult := 5 }) (dropChannel s c)
  | _ => if reason = 4 then dropChannel s c else s

theorem failChannel_eq (c reason code : Nat) (s : State) :
    failChannel c reason code s = releaseFailed c reason (markedFailed c reason code s) := rfl

theorem onlyDrive_releaseFailed (c reason : Nat) (s : State) : OnlyDrive c s (releaseFailed c reason s) := by
  unfold releaseFailed
  split
  · exact onlyDrive_dropChannel c s
  · split
    · split
      · exact .refl c s
      · split
        · exact onlyDrive_dropChannel c s
        · refine (onlyDrive_dropChannel c s).trans (onlyDrive_updCh (fun x => ?_) c _)
          exact ⟨rfl, rfl, rfl⟩
    · split
      · exact onlyDrive_dropChannel c s
      · exact .refl c s

theorem inCurrent_releaseFailed_short {s : State} {c : Nat} (h : (vch s c).reason = 4) :
    inCurrent (vch (releaseFailed c 4 s) c).drive = false := by
  have hdrop : inCurrent (vch (dropChannel s c) c).drive = false := inCurrent_dropChannel (.inl rfl)
  unfold releaseFailed
  split
  · exact hdrop
  · split
    · rw [driven_of_short _ h, if_neg Bool.false_ne_true]
      split
      · exact hdrop
      · rw [vch_updCh]
        split <;> exact hdrop
    · rw [if_pos rfl]
      exact hdrop

/-- The failure of channel `c`: its reason, its event, and no other channel. -/
theorem failChannel_keeps {c : Nat} (reason code : Nat) {s t : State} (ht : failChannel c reason code s = t)
    (hc : c < s.valve.ch.length) :
    t = { s with valve := t.valve, log := t.log } ∧ (vch t c).reason = reason ∧
    (vch t c).missRun = (vch s c).missRun ∧ (vch t c).offMv = (vch s c).offMv ∧ (∀ d, d ≠ c → vch t d = vch s d) ∧
    t.log = logPost s.log (mkEvent s code c reason []) ∧ t.valve.counters = upd s.valve.counters 14 cnt ∧
    t.valve.banks = s.valve.banks := by
  rw [failChannel_eq] at ht
  have hmarked : vch (markedFailed c reason code s) c = _ :=
    vch_updCh_self (fun x => { x with reason := reason }) hc
  have hother : ∀ d, d ≠ c → vch (markedFailed c reason code s) d = vch s d := fun d hd => vch_updCh_ne _ hd
  obtain ⟨ch, h, hch⟩ := onlyDrive_releaseFailed c reason (markedFailed c reason code s)
  obtain ⟨-, hreason, hmiss, hmv⟩ := hch c
  rw [h] at ht
  subst ht
  refine ⟨rfl, hreason.trans ?_, hmiss.trans ?_, hmv.trans ?_, fun d hd => ((hch d).1 hd).trans (hother d hd), rfl, rfl,
    rfl⟩
  · rw [hmarked]
  · rw [hmarked]
  · rw [hmarked]

/-! Coil phases (R413, R414, R416). -/

theorem execPeakEnd_of_due {s : State} {c : Nat} (hpeak : (vch s c).drive = .peak)
    (hage : (vch s c).edge + 10 * (valveCfg s c).peakMs ≤ s.seq.frame) :
    execPeakEnd c s = .next (updCh c (fun x => { x with drive := .hold }) s) := by
  rw [execPeakEnd, hpeak, decide_eq_true hage]
  rfl

theorem execPeakEnd_of_early {s : State} {c : Nat}
    (h : (vch s c).drive ≠ .peak ∨ s.seq.frame < (vch s c).edge + 10 * (valveCfg s c).peakMs) :
    execPeakEnd c s = .next s := by
  unfold execPeakEnd
  refine congrArg Host.Outcome.next (if_neg ?_)
  rcases h with h | h
  · simp [h]
  · simp [Nat.not_le.2 h]

theorem execValveRelease_of_staged {s : State} {c : Nat} (hstaged : (vch s c).staged = some false)
    (hphase : s.seq.phase ≤ 2) : execValveRelease c s = .next (dropChannel s c) := by
  rw [execValveRelease, hstaged, stagedBefore, decide_eq_true hphase]
  rfl

theorem execValveRelease_of_not_due {s : State} {c : Nat} (h : (vch s c).staged ≠ some false ∨ 3 ≤ s.seq.phase) :
    execValveRelease c s = .next s := by
  unfold execValveRelease stagedBefore
  refine congrArg Host.Outcome.next (if_neg ?_)
  rcases h with h | h
  · simp [h]
  · simp [Nat.not_le.2 h]

/-- A channel whose current has fallen to `ma`: it waits when a request is held, and is released otherwise. -/
def currentFallen (ma : Nat) (x : ValveCh) : ValveCh :=
  { x with drive := if x.since.isSome then .waiting else .released, ma }

theorem execReleasingComplete_of_low {s : State} {c ma : Nat} (hdrive : (vch s c).drive = .releasing) (hma : ma < 50) :
    execReleasingComplete c ma s = .next (updCh c (currentFallen ma) s) := by
  rw [execReleasingComplete, hdrive, decide_eq_true hma]
  rfl

theorem execReleasingComplete_of_not_due {s : State} {c ma : Nat} (h : (vch s c).drive ≠ .releasing ∨ 50 ≤ ma) :
    execReleasingComplete c ma s = .next s := by
  unfold execReleasingComplete
  refine congrArg Host.Outcome.next (if_neg ?_)
  rcases h with h | h
  · simp [h]
  · simp [Nat.not_lt.2 h]

/-! The movement check (R417). -/

/-- A channel whose dip shows movement. -/
def dipSeen (time depth : Nat) (x : ValveCh) : ValveCh :=
  { x with window := false, moved := true, missRun := 0, dipTime := time, dipDepth := depth }

theorem execDipDetected_of_dip {s : State} {c time depth : Nat} (hwindow : windowOpen s c = true)
    (hstart : 10 * (valveCfg s c).dipStart ≤ time) (hend : time ≤ 10 * (valveCfg s c).dipEnd)
    (hdepth : max 20 ((valveCfg s c).peakMa / 64) ≤ depth) :
    execDipDetected c time depth s = .next (valveCount 1 (updCh c (dipSeen time depth) s)) := by
  rw [execDipDetected, hwindow, dipCounts, decide_eq_true hstart, decide_eq_true hend, decide_eq_true hdepth]
  rfl

theorem execDipDetected_of_closed {s : State} {c : Nat} (time depth : Nat) (h : windowOpen s c = false) :
    execDipDetected c time depth s = .next s := by
  rw [execDipDetected, h]
  rfl

theorem execDipDetected_of_no_dip {s : State} {c time depth : Nat} (h : time < 10 * (valveCfg s c).dipStart ∨
    10 * (valveCfg s c).dipEnd < time ∨ depth < max 20 ((valveCfg s c).peakMa / 64)) :
    execDipDetected c time depth s = .next s := by
  have hnone : dipCounts (valveCfg s c) time depth = false := by
    unfold dipCounts
    rcases h with h | h | h
    · rw [decide_eq_false (Nat.not_le.2 h), Bool.false_and, Bool.false_and]
    · rw [decide_eq_false (Nat.not_le.2 h), Bool.and_false, Bool.false_and]
    · rw [decide_eq_false (Nat.not_le.2 h), Bool.and_false]
  rw [execDipDetected, hnone, Bool.and_false]
  rfl

/-- A channel whose window ended without a dip. -/
def dipMissed (y : ValveCh) : ValveCh :=
  { y with window := false, moved := false, missRun := satAdd 8 y.missRun 1, misses := cnt y.misses, dipTime := 0xFFFF }

/-- The state after a window of channel `c` ended without a dip. -/
def missNoted (c : Nat) (s : State) : State := post 0xA060 (valveCount 2 (updCh c dipMissed s)) c

theorem mkEvent_missNoted (c : Nat) (s : State) (code index sub : Nat) (detail : List Nat) :
    mkEvent (missNoted c s) code index sub detail = mkEvent s code index sub detail :=
  mkEvent_congr (s := s) (t := missNoted c s) rfl rfl rfl (logPost_boot _ _) _ _ _ _

theorem execMissingDip_of_over {s : State} {c : Nat} (hwindow : (vch s c).window = true)
    (hcurrent : inCurrent (vch s c).drive = true) (hage : (vch s c).edge + 10 * (valveCfg s c).dipEnd ≤ s.seq.frame) :
    execMissingDip c s = .next (if 3 ≤ (vch s c).missRun + 1 && (vch s c).reason = 0 then
      failChannel c 1 0xA061 (missNoted c s) else missNoted c s) := by
  unfold execMissingDip
  dsimp only
  rw [hwindow, hcurrent, decide_eq_true hage]
  rfl

theorem execMissingDip_of_closed {s : State} {c : Nat} (h : (vch s c).window = false) :
    execMissingDip c s = .next s := by
  unfold execMissingDip
  dsimp only
  rw [h]
  rfl

/-- Settles O31: a coil's phases, its release and the check of its movement. -/
theorem coilPhasesAndMovement : Obligations.CoilPhasesAndMovement := by
  refine ⟨fun s c hc hpeak hage => ⟨_, execPeakEnd_of_due hpeak hage, vch_updCh_self _ hc,
      fun d hd => vch_updCh_ne _ hd, rfl⟩,
    fun s c h => execPeakEnd_of_early h,
    fun s c hc hstaged hcurrent hphase => ⟨_, execValveRelease_of_staged hstaged hphase, ?release,
      fun d hd => vch_updCh_ne _ hd, rfl⟩,
    fun s c h => execValveRelease_of_not_due h,
    fun s c ma hc hdrive hma => ⟨_, execReleasingComplete_of_low hdrive hma, ?fallen⟩,
    fun s c ma h => execReleasingComplete_of_not_due h,
    fun s c time depth hwindow hc hstart hend hdepth => ⟨_, execDipDetected_of_dip hwindow hstart hend hdepth,
      vch_updCh_self (dipSeen time depth) hc, fun d hd => vch_updCh_ne (dipSeen time depth) hd, rfl, rfl⟩,
    fun s c time depth h => execDipDetected_of_closed time depth h,
    fun s c hc hwindow hcurrent hage hfew => ⟨_, execMissingDip_of_over hwindow hcurrent hage, ?miss⟩,
    fun s c hc hwindow hcurrent hage htwo hreason => ⟨_, execMissingDip_of_over hwindow hcurrent hage, ?third⟩,
    fun s c h => execMissingDip_of_closed h, fun s c time depth h => execDipDetected_of_no_dip h⟩
  case release =>
    have hself : vch (dropChannel s c) c = _ := vch_updCh_self _ hc
    rw [hself, hcurrent]
    rfl
  case fallen =>
    have hself := vch_updCh_self (currentFallen ma) hc
    rw [hself]
    refine ⟨rfl, fun hnone => ?_, fun hsome => ?_, fun d hd => vch_updCh_ne _ hd, rfl⟩
    · rw [currentFallen, hnone]
      rfl
    · obtain ⟨f, hf⟩ := Option.ne_none_iff_exists'.1 hsome
      rw [currentFallen, hf]
      rfl
  case miss =>
    rw [if_neg (by simp; omega)]
    have hself : vch (missNoted c s) c = _ := vch_updCh_self dipMissed hc
    refine ⟨hself.trans ?_, rfl, rfl⟩
    rw [dipMissed, satAdd, Nat.min_eq_left (by omega)]
  case third =>
    have hself : vch (missNoted c s) c = _ := vch_updCh_self dipMissed hc
    rw [if_pos (by simp [htwo, hreason])]
    have hlen : c < (missNoted c s).valve.ch.length := (length_upd _ _ _).symm ▸ hc
    obtain ⟨hframe, hreason', hmiss, -, -, hlog, -, -⟩ := failChannel_keeps 1 0xA061 rfl hlen
    rw [mkEvent_missNoted] at hlog
    refine ⟨hreason', hmiss.trans ?_, hlog, hframe⟩
    rw [hself, dipMissed, htwo]
    rfl

/-! Faults of coils and switches (R418). -/

theorem execCoilShort_of_current {s : State} {c : Nat} (h : inCurrent (vch s c).drive = true) :
    execCoilShort c s = .next (failChannel c 4 0xA064 (valveCount 5 s)) := by
  rw [execCoilShort, h]
  rfl

theorem execCoilShort_of_released {s : State} {c : Nat} (h : inCurrent (vch s c).drive = false) :
    execCoilShort c s = .next s := by
  rw [execCoilShort, h]
  rfl

theorem execOpenCoilEnergised_of_current {s : State} {c : Nat} (h : inCurrent (vch s c).drive = true)
    (hage : (vch s c).edge + 20 ≤ s.seq.frame) (hreason : (vch s c).reason = 0) :
    execOpenCoilEnergised c s = .next (failChannel c 2 0xA062 (valveCount 3 s)) := by
  unfold execOpenCoilEnergised
  dsimp only
  rw [h, decide_eq_true hage, hreason]
  rfl

theorem execOpenCoilEnergised_of_released {s : State} {c : Nat} (h : inCurrent (vch s c).drive = false) :
    execOpenCoilEnergised c s = .next s := by
  unfold execOpenCoilEnergised
  dsimp only
  rw [h]
  rfl

/-- The state that holds the pin reading `mv` of channel `c`, counted as an open coil. -/
def pinRead (c mv : Nat) (s : State) : State := valveCount 4 (updCh c (fun y => { y with offMv := mv }) s)

theorem execOpenCoilReleased_of_low {s : State} {c mv : Nat} (hoff : inCurrent (vch s c).drive = false)
    (hbank : (vbank s (c / 8)).state = .on) (hage : (vch s c).releasedAt + 200 ≤ s.seq.frame) (hmv : mv < 2000)
    (hreason : (vch s c).reason = 0) (hused : (valveCfg s c).function ≠ 0) :
    execOpenCoilReleased c mv s = .next (failChannel c 3 0xA063 (pinRead c mv s)) := by
  unfold execOpenCoilReleased
  dsimp only
  rw [hoff, hbank, decide_eq_true hage, decide_eq_true hmv, hreason, decide_eq_true hused]
  rfl

theorem execOpenCoilReleased_of_high {s : State} {c mv : Nat} (h : 2000 ≤ mv) :
    execOpenCoilReleased c mv s = .next s := by
  unfold execOpenCoilReleased
  refine congrArg Host.Outcome.next (if_neg ?_)
  simp [Nat.not_lt.2 h]

/-- A bank whose switch failed on. -/
def switchLost (y : ValveBank) : ValveBank := { y with state := .failed, switchFailed := true }

theorem execSwitchFailedOn_of_current {s : State} {c ma : Nat} (hoff : inCurrent (vch s c).drive = false)
    (hage : (vch s c).releasedAt + 200 ≤ s.seq.frame) (hma : 100 ≤ ma) (hbank : (vbank s (c / 8)).state = .on) :
    execSwitchFailedOn c ma s =
      .next (post 0xA065 (dropBank (c / 8) (updBank (c / 8) switchLost (valveCount 13 s))) c (c / 8)) := by
  unfold execSwitchFailedOn
  dsimp only
  rw [hoff, hbank, decide_eq_true hage, decide_eq_true hma]
  rfl

theorem execSwitchFailedOn_of_low {s : State} {c ma : Nat} (h : ma < 100) : execSwitchFailedOn c ma s = .next s := by
  unfold execSwitchFailedOn
  refine congrArg Host.Outcome.next (if_neg ?_)
  simp [Nat.not_le.2 h]

theorem vch_dropBank_ne {b d : Nat} (h : d ∉ bankChs b) (s : State) : vch (dropBank b s) d = vch s d := by
  unfold dropBank
  generalize bankChs b = l at h
  induction l generalizing s with
  | nil => rfl
  | cons c l ih =>
    obtain ⟨hne, hl⟩ := not_or.1 (mt List.mem_cons.2 h)
    exact (ih (dropChannel s c) hl).trans (vch_updCh_ne _ hne)

theorem vbank_dropBank (b c : Nat) (s : State) : vbank (dropBank b s) c = vbank s c :=
  congrArg (fun l => l.getD c {}) (banks_dropBank b s)

/-- A bank whose channels are released, with its event: the banks' own states and the other channels stay. -/
theorem dropBank_keeps {b code index sub : Nat} {u t : State} (ht : post code (dropBank b u) index sub = t) :
    (∀ c, vbank t c = vbank u c) ∧ (∀ d ∈ bankChs b, inCurrent (vch t d).drive = false) ∧
    (∀ d, d ∉ bankChs b → vch t d = vch u d) ∧ t.log = logPost u.log (mkEvent u code index sub []) ∧
    t = { u with valve := t.valve, log := t.log } := by
  have hbank := fun c => vbank_dropBank b c u
  have hoff : ∀ d ∈ bankChs b, inCurrent (vch (dropBank b u) d).drive = false :=
    fun d hd => inCurrent_dropBank (.inl hd)
  have hother : ∀ d, d ∉ bankChs b → vch (dropBank b u) d = vch u d := fun d hd => vch_dropBank_ne hd u
  obtain ⟨v, hv⟩ := onlyValve_dropBank b u
  rw [hv] at ht hbank hoff hother
  subst ht
  exact ⟨hbank, hoff, hother, rfl, rfl⟩

/-- Settles O32: each fault marks its own element, and a bank whose switch fails on is released. -/
theorem coilAndSwitchFaults : Obligations.CoilAndSwitchFaults := by
  refine ⟨fun s c hc hcurrent => ⟨_, execCoilShort_of_current hcurrent, ?short⟩,
    fun s c h => ⟨execCoilShort_of_released h, execOpenCoilEnergised_of_released h⟩,
    fun s c hc hcurrent hage hreason => ⟨_, execOpenCoilEnergised_of_current hcurrent hage hreason, ?energised⟩,
    fun s c mv hc hoff hbank hage hmv hreason hused =>
      ⟨_, execOpenCoilReleased_of_low hoff hbank hage hmv hreason hused, ?released⟩,
    fun s c mv h => execOpenCoilReleased_of_high h,
    fun s c ma hb hoff hage hma hbank => ⟨_, execSwitchFailedOn_of_current hoff hage hma hbank, ?switch⟩,
    fun s c ma h => execSwitchFailedOn_of_low h, fun s n cls h => driven_of_short cls h⟩
  case short =>
    obtain ⟨hframe, hreason, -, -, hother, hlog, hcount, -⟩ :=
      failChannel_keeps (s := valveCount 5 s) 4 0xA064 rfl hc
    refine ⟨hreason, ?_, hlog, hother, hcount, hframe⟩
    rw [failChannel_eq]
    refine inCurrent_releaseFailed_short ?_
    exact congrArg ValveCh.reason (vch_updCh_self (s := s) (fun x => { x with reason := 4 }) hc)
  case energised =>
    obtain ⟨hframe, hreason, -, -, hother, hlog, hcount, -⟩ :=
      failChannel_keeps (s := valveCount 3 s) 2 0xA062 rfl hc
    exact ⟨hreason, hlog, hother, hcount, hframe⟩
  case released =>
    have hlen : c < (pinRead c mv s).valve.ch.length := (length_upd _ _ _).symm ▸ hc
    obtain ⟨hframe, hreason, -, hpin, hother, hlog, -, -⟩ := failChannel_keeps 3 0xA063 rfl hlen
    refine ⟨hreason, hpin.trans ?_, hlog, fun d hd => (hother d hd).trans (vch_updCh_ne _ hd), hframe⟩
    exact congrArg ValveCh.offMv (vch_updCh_self (s := s) (fun y => { y with offMv := mv }) hc)
  case switch =>
    have hlost : vbank (updBank (c / 8) switchLost (valveCount 13 s)) (c / 8) = switchLost (vbank s (c / 8)) :=
      getD_upd_self _ _ _ _ hb
    obtain ⟨hbanks, hoff', hother, hlog, hframe⟩ := dropBank_keeps (code := 0xA065) (index := c) (sub := c / 8)
      (u := updBank (c / 8) switchLost (valveCount 13 s)) rfl
    have hbank' := (hbanks (c / 8)).trans hlost
    exact ⟨congrArg ValveBank.state hbank', congrArg ValveBank.switchFailed hbank', hoff', hother, hlog, hframe⟩

end Sys2Proof.Machine
end

section
/-! SUPPORT. Trips of a valve bank and its temperature (R418, R421); settles O33. -/

namespace Sys2Proof.Machine

theorem vbank_updBank_self {b : Nat} {s : State} (hb : b < s.valve.banks.length) (f : ValveBank → ValveBank) :
    vbank (updBank b f s) b = f (vbank s b) := getD_upd_self _ _ _ _ hb

theorem vbank_updBank_ne {b c : Nat} (h : c ≠ b) (f : ValveBank → ValveBank) (s : State) :
    vbank (updBank b f s) c = vbank s c := getD_upd_ne _ _ _ _ _ h.symm

/-! Trips (R418). -/

/-- The trips of a bank's last 60 s, the one in `frame` among them. -/
def recentTrips (frame : Nat) (x : ValveBank) : List Nat := frame :: x.tripFrames.filter fun f => frame < f + 600000

/-- A bank that trips in `frame`; `failed` for its third trip in 60 s. -/
def bankTripped (frame : Nat) (recent : List Nat) (failed : Bool) (y : ValveBank) : ValveBank :=
  { y with state := if failed then .failed else .tripped, tripFrames := recent
           trips := cnt y.trips, trippedAt := frame }

/-- The state in which a trip of bank `b` is counted, before its channels are released. -/
def tripMarked (b : Nat) (failed : Bool) (s : State) : State :=
  updBank b (bankTripped s.seq.frame (recentTrips s.seq.frame (vbank s b)) failed) (valveCount 10 s)

theorem bankTrip_of_on {b : Nat} {s : State} (hon : (vbank s b).state = .on) {failed : Bool}
    (hfailed : 3 ≤ (recentTrips s.seq.frame (vbank s b)).length ↔ failed = true) :
    bankTrip b s = if failed then post 0xA06D (post 0xA06C (dropBank b (tripMarked b failed s)) b) b
      else post 0xA06C (dropBank b (tripMarked b failed s)) b := by
  unfold recentTrips at hfailed
  unfold bankTrip
  dsimp only
  rw [if_neg (not_not_intro hon)]
  simp only [hfailed]
  rfl

/-- The state that holds the current `hs` drawn from bank `b`. -/
def currentDrawn (b hs : Nat) (s : State) : State := updBank b (fun y => { y with hsMa := hs }) s

theorem vbank_currentDrawn {b hs : Nat} {s : State} (hb : b < s.valve.banks.length) :
    vbank (currentDrawn b hs s) b = { vbank s b with hsMa := hs } := vbank_updBank_self hb _

/-- What the trip of a bank that drew `hs` leaves, once its channels are released and its event is logged. -/
theorem tripMarked_keeps {b hs : Nat} {s : State} (failed : Bool) (hb : b < s.valve.banks.length) {t : State}
    (ht : post 0xA06C (dropBank b (tripMarked b failed (currentDrawn b hs s))) b = t) :
    (vbank t b).state = (if failed then .failed else .tripped) ∧ (vbank t b).hsMa = hs ∧
    (vbank t b).trippedAt = s.seq.frame ∧ (∀ d ∈ bankChs b, inCurrent (vch t d).drive = false) ∧
    (∀ d, d ∉ bankChs b → vch t d = vch s d) ∧ (∀ c, c ≠ b → vbank t c = vbank s c) ∧
    t.log = logPost s.log (mkEvent s 0xA06C b 0xFFFF []) ∧ t = { s with valve := t.valve, log := t.log } := by
  obtain ⟨hbanks, hoff, hother, hlog, hframe⟩ := dropBank_keeps ht
  have hlen : b < (currentDrawn b hs s).valve.banks.length := (length_upd _ _ _).symm ▸ hb
  have hself : vbank (tripMarked b failed (currentDrawn b hs s)) b = _ := getD_upd_self _ _ _ _ hlen
  have hdrawn : (currentDrawn b hs s).valve.banks.getD b {} = _ := vbank_currentDrawn (hs := hs) hb
  have hbank := (hbanks b).trans hself
  refine ⟨congrArg ValveBank.state hbank, (congrArg ValveBank.hsMa hbank).trans (congrArg ValveBank.hsMa hdrawn),
    congrArg ValveBank.trippedAt hbank, hoff, hother, fun c hc => (hbanks c).trans ?_, hlog, hframe⟩
  exact (getD_upd_ne _ _ _ _ _ hc.symm).trans (getD_upd_ne _ _ _ _ _ hc.symm)

/-- What a third trip in 60 s leaves: the bank has failed, with its own event besides the trip's. -/
theorem tripFailed_keeps {b hs : Nat} {s : State} (hb : b < s.valve.banks.length) {t : State}
    (ht : post 0xA06D (post 0xA06C (dropBank b (tripMarked b true (currentDrawn b hs s))) b) b = t) :
    (vbank t b).state = .failed ∧ (∀ d ∈ bankChs b, inCurrent (vch t d).drive = false) ∧
    t.log = logPost (logPost s.log (mkEvent s 0xA06C b 0xFFFF [])) (mkEvent s 0xA06D b 0xFFFF []) ∧
    t = { s with valve := t.valve, log := t.log } := by
  generalize hu : post 0xA06C (dropBank b (tripMarked b true (currentDrawn b hs s))) b = u at ht
  obtain ⟨hstate, -, -, hoff, -, -, hlog, hframe⟩ := tripMarked_keeps true hb hu
  have hevent : mkEvent u 0xA06D b 0xFFFF [] = mkEvent s 0xA06D b 0xFFFF [] := by
    refine mkEvent_congr ?_ ?_ ?_ ?_ _ _ _ _
    · rw [hframe]; rfl
    · rw [hframe]; rfl
    · rw [hframe]
    · rw [hlog, logPost_boot]
  subst ht
  refine ⟨hstate, hoff, ?_, ?_⟩
  · rw [← hlog, ← hevent]
    rfl
  · rw [hframe]
    rfl

theorem execBankOvercurrent_of_high {b hs : Nat} (h : 8000 ≤ hs) (s : State) :
    execBankOvercurrent b hs s = .next (bankTrip b (currentDrawn b hs s)) :=
  congrArg Host.Outcome.next (if_pos h)

theorem execGroundFault_of_leak {b hs ls : Nat} (h : ls + 300 ≤ hs) (s : State) :
    execGroundFault b hs ls s = .next (bankTrip b (currentDrawn b hs s)) :=
  congrArg Host.Outcome.next (if_pos h)

theorem execBankOvercurrent_of_low {b hs : Nat} (h : hs < 8000) (s : State) :
    execBankOvercurrent b hs s = .next s :=
  congrArg Host.Outcome.next (if_neg (Nat.not_le.2 h))

theorem execGroundFault_of_tight {b hs ls : Nat} (h : hs < ls + 300) (s : State) :
    execGroundFault b hs ls s = .next s :=
  congrArg Host.Outcome.next (if_neg (Nat.not_le.2 h))

theorem execBankTripRecovery_of_over {b : Nat} {s : State} (htripped : (vbank s b).state = .tripped)
    (hage : (vbank s b).trippedAt + 10000 ≤ s.seq.frame) :
    execBankTripRecovery b s =
      .next (updBank b (fun y => { y with state := if bankConditions s b then .on else .off }) s) := by
  unfold execBankTripRecovery
  dsimp only
  rw [htripped, decide_eq_true hage]
  rfl

theorem execBankTripRecovery_of_early {b : Nat} {s : State}
    (h : (vbank s b).state ≠ .tripped ∨ s.seq.frame < (vbank s b).trippedAt + 10000) :
    execBankTripRecovery b s = .next s := by
  unfold execBankTripRecovery
  refine congrArg Host.Outcome.next (if_neg ?_)
  rcases h with h | h
  · simp [h]
  · simp [Nat.not_le.2 h]

/-! The temperature of a bank (R421). -/

/-- A bank whose driver reads `temp` in `frame`. -/
def readTemp (frame : Nat) (temp : Int) (y : ValveBank) : ValveBank :=
  { y with temp := some (satTemp temp), thermWarn := decide (8960 ≤ temp) && y.state = .on
           coolSince := if temp ≤ 8960 then some (y.coolSince.getD frame) else none }

/-- A bank that is HOT. -/
def hotBank (y : ValveBank) : ValveBank := { y with state := .hot, thermWarn := false }

/-- What the reading does before it makes a bank HOT: it warns of one that is ON. -/
def warmed (b : Nat) (temp : Int) (s : State) : State :=
  if 8960 ≤ temp && (vbank s b).state = .on then
    postRun 0xA06A (if (vbank s b).thermWarn then updBank b (readTemp s.seq.frame temp) s
      else valveCount 11 (updBank b (readTemp s.seq.frame temp) s)) b
  else updBank b (readTemp s.seq.frame temp) s

theorem driverTemp_eq (b : Nat) (temp : Int) (s : State) : driverTemp b temp s =
    if 10240 ≤ temp && (vbank s b).state = .on then
      post 0xA06B (dropBank b (updBank b hotBank (valveCount 12 (warmed b temp s)))) b
    else warmed b temp s := rfl

theorem driverTemp_of_not_on {b : Nat} {s : State} (temp : Int) (h : (vbank s b).state ≠ .on) :
    driverTemp b temp s = updBank b (readTemp s.seq.frame temp) s := by
  rw [driverTemp_eq, warmed, decide_eq_false h, Bool.and_false, Bool.and_false]
  rfl

/-- A warm bank that is ON: its reading stands, and nothing but the valves' counters and the log changes besides. -/
theorem warmed_eq {b : Nat} {s : State} {temp : Int} (hon : (vbank s b).state = .on) (hwarm : 8960 ≤ temp) :
    ∃ c l, warmed b temp s = { s with
      valve := { s.valve with banks := upd s.valve.banks b (readTemp s.seq.frame temp), counters := c }
      log := l } := by
  rw [warmed, decide_eq_true hon, decide_eq_true hwarm, Bool.and_true, if_pos rfl, postRun_eq]
  split
  · exact ⟨_, _, rfl⟩
  · exact ⟨_, _, rfl⟩

theorem driverTemp_of_warm {b : Nat} {s : State} {temp : Int} (hhot : temp < 10240) :
    driverTemp b temp s = warmed b temp s := by
  rw [driverTemp_eq, decide_eq_false (Int.not_le.2 hhot)]
  rfl

theorem driverTemp_of_hot {b : Nat} {s : State} {temp : Int} (hon : (vbank s b).state = .on) (hhot : 10240 ≤ temp) :
    driverTemp b temp s = post 0xA06B (dropBank b (updBank b hotBank (valveCount 12 (warmed b temp s)))) b := by
  rw [driverTemp_eq, decide_eq_true hon, decide_eq_true hhot]
  rfl

/-- A bank that cools, its reading taken: back to its conditions once it has been cool for 1 s. -/
theorem execDriverCool_of_hot {b : Nat} {s : State} {temp : Int} (hb : b < s.valve.banks.length) (hcool : temp ≤ 8960)
    (hhot : (vbank s b).state = .hot) : execDriverCool b temp s =
      .next (if ((vbank s b).coolSince.getD s.seq.frame) + 10000 ≤ s.seq.frame then
        updBank b (fun y => { y with state := if bankConditions s b then .on else .off })
          (updBank b (readTemp s.seq.frame temp) s)
        else updBank b (readTemp s.seq.frame temp) s) := by
  have hself : vbank (updBank b (readTemp s.seq.frame temp) s) b = _ := vbank_updBank_self hb _
  unfold execDriverCool
  dsimp only
  rw [driverTemp_of_not_on temp (by rw [hhot]; nofun), hself]
  unfold readTemp
  dsimp only
  rw [hhot, if_pos hcool, decide_eq_true hcool]
  simp only [Bool.true_and, decide_eq_true_eq]

theorem execDriverHot_of_warm {b : Nat} {temp : Int} (h : 8960 ≤ temp) (s : State) :
    execDriverHot b temp s = .next (driverTemp b temp s) := congrArg Host.Outcome.next (if_pos h)

theorem execDriverHot_of_cool {b : Nat} {temp : Int} (h : temp < 8960) (s : State) :
    execDriverHot b temp s = .next s := congrArg Host.Outcome.next (if_neg (Int.not_le.2 h))

/-- Settles O33: a third trip in 60 s fails the bank, and 1 s at a lower temperature gives a hot one back. -/
theorem bankTripsAndTemperature : Obligations.BankTripsAndTemperature := by
  refine ⟨fun s b hs hb hhigh hon hfew => ⟨_, execBankOvercurrent_of_high hhigh s, ?trip⟩,
    fun s b hs ls hb hleak hon hmany => ⟨_, execGroundFault_of_leak hleak s, ?failed⟩,
    fun s b hs ls hlow htight => ⟨execBankOvercurrent_of_low hlow s, execGroundFault_of_tight htight s⟩,
    fun s b hb htripped hage => ⟨_, execBankTripRecovery_of_over htripped hage, vbank_updBank_self hb _,
      fun c hc => vbank_updBank_ne hc _ s, rfl⟩,
    fun s b h => execBankTripRecovery_of_early h,
    fun s b temp hb hhot hon => ⟨_, execDriverHot_of_warm (by omega) s, ?hot⟩,
    fun s b temp hb hwarm hhot hon => ⟨_, execDriverHot_of_warm hwarm s, ?warm⟩,
    fun s b temp h => execDriverHot_of_cool h s, fun s b f temp hb hcool hhot hsince hage => ?back,
    fun s b temp hb hcool hhot hsince => ?cooling⟩
  case trip =>
    have hdrawn := vbank_currentDrawn (hs := hs) hb
    rw [bankTrip_of_on (failed := false) (by rw [hdrawn]; exact hon) (by
      rw [hdrawn, recentTrips, List.length_cons]
      exact ⟨fun h => absurd (Nat.le_of_succ_le_succ h) (Nat.not_le.2 hfew), nofun⟩)]
    exact tripMarked_keeps false hb rfl
  case failed =>
    have hdrawn := vbank_currentDrawn (hs := hs) hb
    rw [bankTrip_of_on (failed := true) (by rw [hdrawn]; exact hon) (by
      rw [hdrawn, recentTrips, List.length_cons]
      exact ⟨fun _ => rfl, fun _ => Nat.succ_le_succ hmany⟩), if_pos rfl]
    exact tripFailed_keeps hb rfl
  case hot =>
    rw [driverTemp_of_hot hon hhot]
    obtain ⟨c, l, h⟩ := warmed_eq hon (show 8960 ≤ temp by omega)
    rw [h]
    have hlen : b < (upd s.valve.banks b (readTemp s.seq.frame temp)).length := (length_upd _ _ _).symm ▸ hb
    have hself := getD_upd_self _ b hotBank {} hlen
    rw [getD_upd_self _ b _ {} hb] at hself
    obtain ⟨hbanks, hoff, -, -, hframe⟩ := dropBank_keeps (b := b) (code := 0xA06B) (index := b) (sub := 0xFFFF)
      (u := updBank b hotBank (valveCount 12 { s with
        valve := { s.valve with banks := upd s.valve.banks b (readTemp s.seq.frame temp), counters := c }
        log := l })) rfl
    have hbank := (hbanks b).trans hself
    exact ⟨congrArg ValveBank.state hbank, congrArg ValveBank.temp hbank, congrArg ValveBank.thermWarn hbank, hoff,
      hframe⟩
  case warm =>
    obtain ⟨c, l, h⟩ := warmed_eq hon hwarm
    rw [driverTemp_of_warm hhot, h]
    have hself : (upd s.valve.banks b (readTemp s.seq.frame temp)).getD b {} = _ := getD_upd_self _ _ _ _ hb
    refine ⟨(congrArg ValveBank.state hself).trans hon, (congrArg ValveBank.thermWarn hself).trans ?_, rfl, rfl⟩
    change (decide (8960 ≤ temp) && decide ((vbank s b).state = .on)) = true
    rw [decide_eq_true hwarm, decide_eq_true hon]
    rfl
  case back =>
    have hcooled := execDriverCool_of_hot hb hcool hhot
    rw [hsince] at hcooled
    refine ⟨_, hcooled.trans (congrArg Host.Outcome.next (if_pos hage)), ?_⟩
    have hlen : b < (updBank b (readTemp s.seq.frame temp) s).valve.banks.length := (length_upd _ _ _).symm ▸ hb
    have hself := vbank_updBank_self hlen (fun y => { y with state := if bankConditions s b then .on else .off })
    rw [vbank_updBank_self hb] at hself
    exact ⟨congrArg ValveBank.state hself, congrArg ValveBank.temp hself, rfl⟩
  case cooling =>
    have hcooled := execDriverCool_of_hot hb hcool hhot
    rw [hsince] at hcooled
    have hself := vbank_updBank_self hb (readTemp s.seq.frame temp)
    refine ⟨_, hcooled.trans (congrArg Host.Outcome.next (if_neg (by simp))),
      (congrArg ValveBank.state hself).trans hhot, (congrArg ValveBank.coolSince hself).trans ?_, rfl⟩
    rw [readTemp, hsince]
    exact if_pos hcool

end Sys2Proof.Machine
end

section
/-! SUPPORT. Leak inputs, their debounce and the locations of ropes (R434, R437); settles O35. -/

namespace Sys2Proof.Machine

theorem leakIn_updLeakIn_self {i : Nat} {s : State} (hi : i < s.leak.inputs.length) (f : LeakInput → LeakInput) :
    leakIn (updLeakIn i f s) i = f (leakIn s i) := getD_upd_self _ _ _ _ hi

theorem leakIn_updLeakIn_ne {i j : Nat} (h : j ≠ i) (f : LeakInput → LeakInput) (s : State) :
    leakIn (updLeakIn i f s) j = leakIn s j := getD_upd_ne _ _ _ _ _ h.symm

/-- An input that is declared WET in `frame`; a float says its side by itself. -/
def wetInput (i frame : Nat) (y : LeakInput) : LeakInput :=
  { y with state := .wet, contacts := cnt y.contacts, lastWet := frame, sideA := i ≥ 16 || y.sideA }

/-- An input that holds the location `x`, measured in `frame`, on the sides of `where_`. -/
def located (frame x : Nat) (where_ : Bool × Bool × Bool) (y : LeakInput) : LeakInput :=
  { y with sideA := y.sideA || where_.1, sideB := y.sideB || where_.2.1, nearSplit := y.nearSplit || where_.2.2
           location := x, measured := frame }

theorem locate_eq (i x : Nat) (s : State) :
    locate i x s = updLeakIn i (located s.seq.frame x (ropeSides (leakCfg s i) x)) s := rfl

theorem sides_located (frame x : Nat) (where_ : Bool × Bool × Bool) (y : LeakInput) :
    (y.sideA = true → (located frame x where_ y).sideA = true) ∧
    (y.sideB = true → (located frame x where_ y).sideB = true) :=
  ⟨fun h => by rw [located, h]; rfl, fun h => by rw [located, h]; rfl⟩

/-! The debounce of an input (R434). -/

theorem execLeakInputState_of_unused {s : State} {i : Nat} (st : LeakInState) (x : Nat) (h : leakUsed s i = false) :
    execLeakInputState i st x s = .next s := by
  unfold execLeakInputState
  dsimp only
  rw [h]
  rfl

section
variable {s : State} {i : Nat} (x : Nat)

theorem declareWet_rope (hrope : i < 16) : declareWet i x s =
    post 0xB001 (leakCount 0 (updLeakIn i (located s.seq.frame x (ropeSides (leakCfg s i) x))
      (updLeakIn i (wetInput i s.seq.frame) s))) i 0xFFFF (leBytes 2 x) := by
  rw [declareWet, if_pos hrope, locate_eq]
  rfl

theorem declareWet_float (hfloat : 16 ≤ i) : declareWet i x s =
    post 0xB010 (leakCount 1 (updLeakIn i (wetInput i s.seq.frame) s)) (i - 16) := by
  rw [declareWet, if_neg (Nat.not_lt.2 hfloat)]
  rfl

theorem execLeakInputState_of_wet (hused : leakUsed s i = true) (hdry : (leakIn s i).state = .dry)
    (hrun : (if i < 16 then 5 else 10) ≤ (leakIn s i).wetRun) :
    execLeakInputState i .wet x s = .next (declareWet i x s) := by
  unfold execLeakInputState
  dsimp only
  rw [hused, hdry, if_neg (by decide)]
  simp only [decide_eq_true_eq]
  exact congrArg Host.Outcome.next ((if_pos hrun).trans (congrArg (declareWet i x) (if_neg nofun)))

theorem execLeakInputState_of_short_wet (hrun : (leakIn s i).wetRun < 5) :
    execLeakInputState i .wet x s = .next s := by
  unfold execLeakInputState
  dsimp only
  rw [ite_eq_left_iff.2 fun _ => if_neg (by split <;> omega)]

theorem execLeakInputState_of_dry (hrope : i < 16) (hused : leakUsed s i = true) (hwet : (leakIn s i).state = .wet)
    (hrun : 10000 ≤ (leakIn s i).dryRun) : execLeakInputState i .dry x s =
      .next (post 0xB002 (updLeakIn i (fun z => { z with
        state := .dry, sideA := z.state = .fault && z.sideA, sideB := z.state = .fault && z.sideB
        nearSplit := z.state = .fault && z.nearSplit, location := 0xFFFF }) s) i) := by
  unfold execLeakInputState
  dsimp only
  rw [hused, hwet, decide_eq_true hrun, decide_eq_true hrope, if_neg (by decide), Bool.true_or, if_pos rfl, if_pos rfl,
    if_neg nofun, if_pos rfl, if_pos hrope]

theorem execLeakInputState_of_short_dry (hwet : (leakIn s i).state = .wet) (hrun : (leakIn s i).dryRun < 10000) :
    execLeakInputState i .dry x s = .next s := by
  unfold execLeakInputState
  dsimp only
  rw [hwet, decide_eq_false (Nat.not_le.2 hrun)]
  exact congrArg Host.Outcome.next (ite_self _)

/-- An input in FAULT. -/
def faultInput (z : LeakInput) : LeakInput := { z with state := .fault, location := 0xFFFF }

theorem execLeakInputState_of_fault (hrope : i < 16) (hused : leakUsed s i = true)
    (hsound : (leakIn s i).state ≠ .fault) (hrun : 100 ≤ (leakIn s i).faultRun) :
    execLeakInputState i .fault x s = .next (post 0xB003 (updLeakIn i faultInput s) i) := by
  unfold execLeakInputState
  dsimp only
  rw [hused, decide_eq_false hsound, if_neg (by decide), if_pos hrun, decide_eq_true hrope, if_pos rfl, if_pos hrope]
  rfl

theorem execLeakInputState_of_short_fault (hrun : (leakIn s i).faultRun < 100) :
    execLeakInputState i .fault x s = .next s := by
  unfold execLeakInputState
  dsimp only
  rw [if_neg (Nat.not_le.2 hrun), ite_self]

/-! The location of a rope (R437). -/

theorem execRopeLocation_of_wet (hrope : i < 16) (hwet : (leakIn s i).state = .wet)
    (hage : (leakIn s i).measured + 10000 ≤ s.seq.frame) :
    execRopeLocation i x s = .next (updLeakIn i (located s.seq.frame x (ropeSides (leakCfg s i) x)) s) := by
  unfold execRopeLocation
  dsimp only
  rw [decide_eq_true hrope, hwet, decide_eq_true hage]
  rfl

theorem execRopeLocation_of_not_wet (h : (leakIn s i).state ≠ .wet) : execRopeLocation i x s = .next s := by
  unfold execRopeLocation
  refine congrArg Host.Outcome.next (if_neg ?_)
  simp [h]

end

/-- Settles O35: an input changes its state after its count of frames, and a WET rope's location adds sides. -/
theorem leakInputsAndLocations : Obligations.LeakInputsAndLocations := by
  refine ⟨fun s i x hrope hi hused hdry hrun =>
      ⟨_, execLeakInputState_of_wet x hused hdry (by rw [if_pos hrope]; exact hrun), ?rope⟩,
    fun s i x hfloat hi hused hdry hrun =>
      ⟨_, execLeakInputState_of_wet x hused hdry (by rw [if_neg (Nat.not_lt.2 hfloat)]; exact hrun), ?float⟩,
    fun s i x _ hrun => execLeakInputState_of_short_wet x hrun,
    fun s i x hrope hi hused hwet hrun => ⟨_, execLeakInputState_of_dry x hrope hused hwet hrun, ?dry,
      fun j hj => leakIn_updLeakIn_ne hj _ s, rfl, rfl⟩,
    fun s i x hwet hrun => execLeakInputState_of_short_dry x hwet hrun,
    fun s i x hrope hi hused hsound hrun => ⟨_, execLeakInputState_of_fault x hrope hused hsound hrun,
      leakIn_updLeakIn_self hi faultInput, rfl, rfl⟩,
    fun s i x hrun => execLeakInputState_of_short_fault x hrun,
    fun s i x st h => execLeakInputState_of_unused st x h,
    fun s i x hrope hi hwet hage => ⟨_, execRopeLocation_of_wet x hrope hwet hage, ?located⟩,
    fun s i x h => execRopeLocation_of_not_wet x h⟩
  case rope =>
    rw [declareWet_rope x hrope]
    have hlen : i < (updLeakIn i (wetInput i s.seq.frame) s).leak.inputs.length := (length_upd _ _ _).symm ▸ hi
    have hself := leakIn_updLeakIn_self hlen (located s.seq.frame x (ropeSides (leakCfg s i) x))
    rw [leakIn_updLeakIn_self hi] at hself
    exact ⟨congrArg LeakInput.state hself, congrArg LeakInput.location hself, congrArg LeakInput.contacts hself,
      fun j hj => (leakIn_updLeakIn_ne hj _ _).trans (leakIn_updLeakIn_ne hj _ _), rfl, rfl⟩
  case float =>
    rw [declareWet_float x hfloat]
    have hself := leakIn_updLeakIn_self hi (wetInput i s.seq.frame)
    refine ⟨congrArg LeakInput.state hself, (congrArg LeakInput.sideA hself).trans ?_, rfl, rfl⟩
    rw [wetInput, decide_eq_true hfloat]
    rfl
  case dry =>
    refine (leakIn_updLeakIn_self hi _).trans ?_
    rw [hwet]
    rfl
  case located =>
    have hself := leakIn_updLeakIn_self hi (located s.seq.frame x (ropeSides (leakCfg s i) x))
    obtain ⟨hA, hB⟩ := sides_located s.seq.frame x (ropeSides (leakCfg s i) x) (leakIn s i)
    rw [hself]
    exact ⟨rfl, rfl, hA, hB, fun j hj => leakIn_updLeakIn_ne hj _ s, rfl⟩

end Sys2Proof.Machine
end

section
/-! SUPPORT. Leak confirmers and the causes of an emergency (R441 to R443, R450 to R452): the balance's hold-off, the
decay of a second, the classifier and the loop that it isolates, the ring; settles O36. -/

namespace Sys2Proof.Machine

theorem leakLoop_updLeak_self {l : Nat} {s : State} (hl : l < s.leak.loops.length) (f : LoopLeak → LoopLeak) :
    leakLoop (updLeak l f s) l = f (leakLoop s l) := getD_upd_self _ _ _ _ hl

theorem leakLoop_updLeak_ne {l k : Nat} (h : k ≠ l) (f : LoopLeak → LoopLeak) (s : State) :
    leakLoop (updLeak l f s) k = leakLoop s k := getD_upd_ne _ _ _ _ _ h.symm

/-! The hold-off of the mass balance (R441). -/

theorem execMassBalanceHoldoffEnd_of_over {s : State} {l f : Nat} (h : (leakLoop s l).holdUntil = some f)
    (hage : f ≤ s.seq.frame) :
    execMassBalanceHoldoffEnd l s = .next (updLeak l (fun y => { y with holdUntil := none }) s) := by
  rw [execMassBalanceHoldoffEnd, h]
  exact congrArg Host.Outcome.next (if_pos hage)

theorem execMassBalanceHoldoffEnd_of_held {s : State} {l : Nat}
    (h : ∀ f, (leakLoop s l).holdUntil = some f → s.seq.frame < f) : execMassBalanceHoldoffEnd l s = .next s := by
  unfold execMassBalanceHoldoffEnd
  cases hl : (leakLoop s l).holdUntil with
  | none => rfl
  | some f => exact congrArg Host.Outcome.next (if_neg (Nat.not_le.2 (h f hl)))

theorem holdUntil_restartBalance (l : Nat) (s : State) : ((restartBalance l s).leak.loops.getD l {}).holdUntil =
    if l < s.leak.loops.length then some (s.seq.frame + 100000) else none := by
  unfold restartBalance updLeak
  dsimp only
  rw [getD_upd]
  split
  case isTrue h => rw [if_pos h.2]
  case isFalse h =>
    have hlen : ¬ l < s.leak.loops.length := fun hl => h ⟨rfl, hl⟩
    rw [if_neg hlen, getD_of_length_le _ _ (Nat.le_of_not_lt hlen)]

/-! The decay of pressure (R442). -/

/-- A loop whose second ends with the values `vals`. -/
def secondTaken (vals : List (Nat × Int)) (y : LoopLeak) : LoopLeak :=
  { y with pVals := vals, sec := y.sec + 1, pSum := 0, pCount := 0, pVoid := false }

/-- The values of the last ten seconds, the one that ends among them unless a reading was missing. -/
def secondValues (x : LoopLeak) : List (Nat × Int) := if x.pVoid then x.pVals else ((x.sec, x.pSum) :: x.pVals).take 10

theorem secondValues_of_whole {x : LoopLeak} (h : x.pVoid = false) :
    secondValues x = ((x.sec, x.pSum) :: x.pVals).take 10 := by rw [secondValues, h, if_neg Bool.false_ne_true]

theorem execPressureDecayEval_of_second {s : State} {l : Nat} (hactive : (leakLoop s l).decayActive = true)
    (hcount : 10000 ≤ (leakLoop s l).pCount) (hnormal : s.seq.state = .normal) : execPressureDecayEval l s =
      .next (if (leakLoop s l).pVoid || (secondValues (leakLoop s l)).length < 10 then
          updLeak l (secondTaken (secondValues (leakLoop s l))) s
        else decayJudge l (decaySlope (secondValues (leakLoop s l)))
          (updLeak l (secondTaken (secondValues (leakLoop s l))) s)) := by
  unfold execPressureDecayEval
  dsimp only
  rw [hactive, decide_eq_true hcount, hnormal]
  rfl

theorem execPressureDecayEval_of_not_due {s : State} {l : Nat}
    (h : (leakLoop s l).pCount < 10000 ∨ s.seq.state ≠ .normal) : execPressureDecayEval l s = .next s := by
  unfold execPressureDecayEval
  refine congrArg Host.Outcome.next (if_pos ?_)
  rcases h with h | h
  · simp [Nat.not_le.2 h]
  · simp [h]

/-- A loop whose slope `d` has been judged in `frame`, above its threshold for `run` seconds. -/
def slopeJudged (d : F32) (run : Nat) (var thr : F32) (frame : Nat) (y : LoopLeak) : LoopLeak :=
  { y with decay := d, decayRun := run, decayVar := var, decayThr := thr, decayConfirmed := decide (5 ≤ run)
           decayFrame := if decide (5 ≤ run) then some frame else y.decayFrame }

/-- The seconds in a row whose slope was above the threshold, the one of slope `d` among them. -/
def decayRunWith (d : F32) (x : LoopLeak) : Nat := if f32Lt x.decayThr d then x.decayRun + 1 else 0

/-- What is said of loop `l` once its slope is judged: a confirmation, or a decay inside an isolated loop. -/
def announceDecay (l : Nat) (hit was isOpen : Bool) (s : State) : State :=
  if hit && !was then
    if isOpen then confirmMeans l 3 0xB030 s
    else post 0xB031 (leakCount 3 (updLeak l (fun y => { y with decayInside := true }) s)) l
  else s

theorem decayJudge_eq (l : Nat) (d : F32) (s : State) : ∃ var thr, decayJudge l d s =
    announceDecay l (decide (5 ≤ decayRunWith d (leakLoop s l))) (leakLoop s l).decayConfirmed
      (decide ((leakLoop s l).iso = .isOpen))
      (updLeak l (slopeJudged d (decayRunWith d (leakLoop s l)) var thr s.seq.frame) s) := by
  unfold decayJudge announceDecay slopeJudged decayRunWith
  dsimp only
  simp only [decide_eq_true_eq]
  exact ⟨_, _, rfl⟩

theorem announceDecay_keeps {s : State} {l : Nat} (hit was isOpen : Bool) (hl : l < s.leak.loops.length) {t : State}
    (ht : announceDecay l hit was isOpen s = t) :
    (∃ b, leakLoop t l = { leakLoop s l with decayInside := b }) ∧ (∀ k, k ≠ l → leakLoop t k = leakLoop s k) ∧
    t = { s with leak := t.leak, log := t.log } := by
  subst ht
  unfold announceDecay confirmMeans
  split
  · split
    · exact ⟨⟨_, rfl⟩, fun k _ => rfl, rfl⟩
    · exact ⟨⟨true, leakLoop_updLeak_self hl _⟩, fun k hk => leakLoop_updLeak_ne hk _ s, rfl⟩
  · exact ⟨⟨_, rfl⟩, fun k _ => rfl, rfl⟩

/-- What a judgement of the slope `d` leaves: the loop's slope, its run and its confirmation, and no other loop. -/
theorem decayJudge_keeps {s : State} {l : Nat} (d : F32) (hl : l < s.leak.loops.length) {t : State}
    (ht : decayJudge l d s = t) : (leakLoop t l).decay = d ∧ (leakLoop t l).sec = (leakLoop s l).sec ∧
    (leakLoop t l).pCount = (leakLoop s l).pCount ∧ (leakLoop t l).decayRun = decayRunWith d (leakLoop s l) ∧
    (leakLoop t l).decayConfirmed = decide (5 ≤ (leakLoop t l).decayRun) ∧ (leakLoop t l).iso = (leakLoop s l).iso ∧
    (∀ k, k ≠ l → leakLoop t k = leakLoop s k) ∧ t = { s with leak := t.leak, log := t.log } := by
  obtain ⟨var, thr, h⟩ := decayJudge_eq l d s
  have hself := leakLoop_updLeak_self hl (slopeJudged d (decayRunWith d (leakLoop s l)) var thr s.seq.frame)
  obtain ⟨⟨b, hb⟩, hother, hframe⟩ := announceDecay_keeps _ _ _ ((length_upd _ _ _).symm ▸ hl) (h.symm.trans ht)
  rw [hself] at hb
  rw [hb]
  exact ⟨rfl, rfl, rfl, rfl, rfl, rfl, fun k hk => (hother k hk).trans (leakLoop_updLeak_ne hk _ s), hframe⟩

/-! The classifier, and the isolation that it brings (R443, R447). -/

/-- A loop that the classifier has confirmed. -/
def confirmedByClass (y : LoopLeak) : LoopLeak := { y with clsConfirmed := true }

/-- The state in which the confirmation stands, counted and logged. -/
def classConfirmed (l : Nat) (s : State) : State := confirmMeans l 4 0xB040 (updLeak l confirmedByClass s)

theorem leakLoop_classConfirmed_self {s : State} {l : Nat} (hl : l < s.leak.loops.length) :
    leakLoop (classConfirmed l s) l = confirmedByClass (leakLoop s l) := leakLoop_updLeak_self hl _

theorem execClassifierConfirm_of_run {s : State} {l : Nat} (hrun : 200 ≤ (leakLoop s l).clsRun)
    (hnew : (leakLoop s l).clsConfirmed = false) (hnormal : s.seq.state = .normal) : execClassifierConfirm l s =
      .next (if s.pow.plantControl then rowFloors (decideLoop (classConfirmed l s) l) else classConfirmed l s) := by
  unfold execClassifierConfirm
  dsimp only
  rw [decide_eq_true hrun, hnew, hnormal]
  rfl

theorem execClassifierConfirm_of_short {s : State} {l : Nat} (h : (leakLoop s l).clsRun < 200) :
    execClassifierConfirm l s = .next s := by
  unfold execClassifierConfirm
  refine congrArg Host.Outcome.next (if_neg ?_)
  simp [Nat.not_le.2 h]

theorem any_confirmedBy_of_class {s : State} {l : Nat} (h : (leakLoop s l).clsConfirmed = true) :
    (confirmedBy s l).any id = true :=
  List.any_eq_true.2 ⟨_, List.mem_cons_of_mem _ (List.mem_cons_of_mem _ (List.mem_cons_of_mem _
    (List.mem_cons_of_mem _ List.mem_cons_self))), h⟩

/-- A loop whose isolation is decided in `frame`. -/
def closingLoop (frame trigger : Nat) (cause : List Bool) (y : LoopLeak) : LoopLeak :=
  { y with iso := .closing, cause := cause, trigger := trigger, decidedFrame := frame, isolations := cnt y.isolations
           flowSeen := false }

/-- A loop that holds the causes `cause` besides its own. -/
def addCause (cause : List Bool) (y : LoopLeak) : LoopLeak := { y with cause := List.zipWith (· || ·) y.cause cause }

theorem decideLoop_of_open {s : State} {l : Nat} (hclass : (leakLoop s l).clsConfirmed = true)
    (hopen : (leakLoop s l).iso = .isOpen) : decideLoop s l = isolateLoop l (confirmedBy s l) s := by
  unfold decideLoop
  dsimp only
  rw [any_confirmedBy_of_class hclass, if_neg (by decide), if_pos hopen]

theorem decideLoop_of_closed {s : State} {l : Nat} (hclass : (leakLoop s l).clsConfirmed = true)
    (hclosed : (leakLoop s l).iso ≠ .isOpen) : decideLoop s l = updLeak l (addCause (confirmedBy s l)) s := by
  unfold decideLoop
  dsimp only
  rw [any_confirmedBy_of_class hclass, if_neg (by decide), if_neg hclosed]
  rfl

/-- What the valves, the pages and the loops of the leak detection hold is the same in the two states. -/
def SameIsolation (s t : State) : Prop :=
  t.valve = s.valve ∧ t.heat = s.heat ∧ t.leak.loops = s.leak.loops ∧ t.seq = s.seq

theorem SameIsolation.trans {s t u : State} (h : SameIsolation s t) (h' : SameIsolation t u) : SameIsolation s u := by
  obtain ⟨hv, hh, hl, hq⟩ := h
  obtain ⟨hv', hh', hl', hq'⟩ := h'
  exact ⟨hv'.trans hv, hh'.trans hh, hl'.trans hl, hq'.trans hq⟩

theorem sameIsolation_abortWhere (cause : Nat) (p : Activity → Bool) (s : State) :
    SameIsolation s (abortWhere cause p s) := by
  obtain ⟨m, l, h, -⟩ := onlyMaint_abortWhere cause p s
  rw [h]
  exact ⟨rfl, rfl, rfl, rfl⟩

theorem sameIsolation_noted (k code index sub : Nat) (detail : List Nat) (s : State) :
    SameIsolation s (post code (leakCount k s) index sub detail) := ⟨rfl, rfl, rfl, rfl⟩

theorem sameIsolation_beginEmergency (cause : Nat) (s : State) : SameIsolation s (beginEmergency cause s) := by
  unfold beginEmergency
  split
  · exact ⟨rfl, rfl, rfl, rfl⟩
  · refine SameIsolation.trans ?_ (sameIsolation_abortWhere _ _ _)
    exact ⟨rfl, rfl, rfl, rfl⟩

/-- The state in which the isolation of loop `l` is decided, its outputs held. -/
def isolationDecided (l : Nat) (cause : List Bool) (s : State) : State :=
  updLeak l (closingLoop s.seq.frame (triggerFrame s l) cause) (holdIsolation l s)

theorem sameIsolation_isolateLoop (l : Nat) (cause : List Bool) (s : State) :
    SameIsolation (isolationDecided l cause s) (isolateLoop l cause s) := by
  unfold isolateLoop
  dsimp only
  generalize hx : boolBits cause :: _ = detail
  have hnoted : SameIsolation (isolationDecided l cause s) (abortWhere 1 (strokeOf l)
      (post 0xB050 (leakCount 5 (isolationDecided l cause s)) l 0xFFFF detail)) :=
    (sameIsolation_noted _ _ _ _ _ _).trans (sameIsolation_abortWhere _ _ _)
  unfold isolationDecided closingLoop at hnoted ⊢
  generalize abortWhere 1 _ _ = u at hnoted ⊢
  refine hnoted.trans ?_
  split
  · refine SameIsolation.trans ?_ (sameIsolation_beginEmergency _ _)
    exact ⟨rfl, rfl, rfl, rfl⟩
  · exact ⟨rfl, rfl, rfl, rfl⟩

theorem setLeakFloor_keeps (v : Bool) (l : Nat) (s : State) : (setLeakFloor v l s).valve = s.valve ∧
    (setLeakFloor v l s).heat = s.heat ∧ (setLeakFloor v l s).leak = s.leak := by
  unfold setLeakFloor
  refine ⟨foldl_keeps State.valve _ (fun t k => ?_) _ s, foldl_keeps State.heat _ (fun t k => ?_) _ s,
    foldl_keeps State.leak _ (fun t k => ?_) _ s⟩
  · rfl
  · rfl
  · rfl

theorem setC0_keeps (v : Bool) (l : Nat) (s : State) : (setC0 v l s).heat = s.heat ∧ (setC0 v l s).leak = s.leak := by
  unfold setC0
  refine ⟨foldl_keeps State.heat _ (fun t k => ?_) _ s, foldl_keeps State.leak _ (fun t k => ?_) _ s⟩
  · rfl
  · rfl

theorem c0_setC0 {s : State} {l c : Nat} (v : Bool) (hc : c ∈ isoChs s l) (hlen : c < s.valve.ch.length) :
    (vch (setC0 v l s) c).c0 = v := by
  have hkeep : ∀ (t : State) (k : Nat), c < t.valve.ch.length →
      c < (updCh k (fun x => { x with c0 := v }) t).valve.ch.length := fun t k h => (length_upd _ _ _).symm ▸ h
  unfold setC0
  refine foldl_reaches (P := fun t => (vch t c).c0 = v) (Q := fun t => c < t.valve.ch.length) hkeep (fun t k _ ht => ?_)
    (fun t ht => ?_) hc hlen
  · rw [vch_updCh]
    split
    · rfl
    · exact ht
  · rw [vch_updCh_self _ ht]

/-- The isolation of a loop holds its valves closed, and marks its pages. -/
theorem holdIsolation_keeps (l : Nat) (s : State) :
    (∀ c ∈ isoChs s l, c < s.valve.ch.length → (vch (holdIsolation l s) c).c0 = true) ∧
    (l < s.heat.loops.length → (loopP (holdIsolation l s) l).isolated = true) ∧
    (holdIsolation l s).leak = s.leak := by
  obtain ⟨hvalve, hheat, hleak⟩ := setLeakFloor_keeps true l (setC0 true l s)
  obtain ⟨hheat', hleak'⟩ := setC0_keeps true l s
  unfold holdIsolation vch loopP
  dsimp only [updLoopP]
  refine ⟨fun c hc hlen => ?_, fun hl => ?_, hleak.trans hleak'⟩
  · rw [hvalve]
    exact c0_setC0 true hc hlen
  · rw [hheat, hheat', getD_upd_self _ _ _ _ hl]

theorem rowFloors_keeps (s : State) : (rowFloors s).valve = s.valve ∧ (rowFloors s).heat = s.heat ∧
    (rowFloors s).leak = s.leak := ⟨rfl, rfl, rfl⟩

/-- What the isolation of a loop leaves once the row's lines are driven. -/
theorem rowFloors_isolateLoop_keeps {s : State} {l : Nat} (cause : List Bool) (hl : l < s.leak.loops.length) {t : State}
    (ht : rowFloors (isolateLoop l cause s) = t := by rfl) :
    leakLoop t l = closingLoop s.seq.frame (triggerFrame s l) cause (leakLoop s l) ∧
    (l < s.heat.loops.length → (loopP t l).isolated = true) ∧
    (∀ c ∈ isoChs s l, c < s.valve.ch.length → (vch t c).c0 = true) := by
  obtain ⟨hvalve, hheat, hloops, -⟩ := sameIsolation_isolateLoop l cause s
  obtain ⟨hvalve', hheat', hleak'⟩ := rowFloors_keeps (isolateLoop l cause s)
  obtain ⟨hheld, hisolated, hleak⟩ := holdIsolation_keeps l s
  have hdecided : (isolationDecided l cause s).leak.loops =
      upd (holdIsolation l s).leak.loops l (closingLoop s.seq.frame (triggerFrame s l) cause) := rfl
  unfold leakLoop loopP vch at *
  rw [← ht]
  refine ⟨?_, fun hlen => ?_, fun c hc hlen => ?_⟩
  · rw [hleak', hloops, hdecided, hleak, getD_upd_self _ _ _ _ hl]
  · rw [hheat', hheat]
    exact hisolated hlen
  · rw [hvalve', hvalve]
    exact hheld c hc hlen

theorem floorLine_rowFloors {s : State} {k : Nat} (hk : k < s.caps.floors.length) : floorLine (rowFloors s) k =
    { floorLine s k with row := (s.leak.emergency || s.leak.ringExt) && domainOn s k } := by
  unfold rowFloors floorLine
  dsimp only
  rw [List.getD_eq_getElem?_getD, List.getElem?_mapIdx, List.getD_eq_getElem?_getD, List.getElem?_eq_getElem hk]
  rfl

/-! The causes of an emergency (R450 to R452). -/

theorem execRowSensorCauseEnd_of_dry {s : State} (hcause : s.leak.rowSensor = true)
    (hdry : ∀ i, i < 24 → inputDry s 30 i = true) :
    execRowSensorCauseEnd s = .next { s with leak := { s.leak with rowSensor := false } } := by
  rw [execRowSensorCauseEnd, hcause, List.all_eq_true.2 fun i hi => hdry i (List.mem_range.1 hi)]
  rfl

theorem execRowSensorCauseEnd_of_wet {s : State} {i : Nat} (hi : i < 24) (h : inputDry s 30 i = false) :
    execRowSensorCauseEnd s = .next s := by
  have hall : (List.range 24).all (inputDry s 30) = false :=
    List.all_eq_false.2 ⟨i, List.mem_range.2 hi, by rw [h]; exact Bool.false_ne_true⟩
  rw [execRowSensorCauseEnd, hall, Bool.and_false]
  rfl

theorem execManyLoopsEnd_of_old {s : State} (hcause : s.leak.manyLoops = true)
    (hage : s.leak.manyFrame + 600000 ≤ s.seq.frame) :
    execManyLoopsEnd s = .next { s with leak := { s.leak with manyLoops := false } } := by
  rw [execManyLoopsEnd, hcause, decide_eq_true hage]
  rfl

theorem execManyLoopsEnd_of_young {s : State} (h : s.seq.frame < s.leak.manyFrame + 600000) :
    execManyLoopsEnd s = .next s := by
  rw [execManyLoopsEnd, decide_eq_false (Nat.not_le.2 h), Bool.and_false]
  rfl

theorem execRingOpenExternal_of_open {s : State} (hrun : 50 ≤ s.leak.ringOpenRun) (hnew : s.leak.ringExt = false) :
    execRingOpenExternal s =
      .next (post 0xB061 (rowFloors { s with leak := { s.leak with ringExt := true } })) := by
  rw [execRingOpenExternal, decide_eq_true hrun, hnew]
  rfl

theorem execRingOpenExternal_of_short {s : State} (h : s.leak.ringOpenRun < 50) : execRingOpenExternal s = .next s := by
  rw [execRingOpenExternal, decide_eq_false (Nat.not_le.2 h)]
  rfl

theorem execRingClosedExternal_of_closed {s : State} (hrun : 10000 ≤ s.leak.ringClosedRun)
    (hopen : s.leak.ringExt = true) : execRingClosedExternal s =
      .next (post 0xB063 (rowFloors { s with leak := { s.leak with ringExt := false } })) := by
  rw [execRingClosedExternal, decide_eq_true hrun, hopen]
  rfl

theorem execRingClosedExternal_of_short {s : State} (h : s.leak.ringClosedRun < 10000) :
    execRingClosedExternal s = .next s := by
  rw [execRingClosedExternal, decide_eq_false (Nat.not_le.2 h)]
  rfl

/-- Settles O36: each confirmer acts after its own time, and each cause of an emergency ends after its own. -/
theorem leakConfirmersAndCauses : Obligations.LeakConfirmersAndCauses := by
  refine ⟨fun s l f hl hf hage => ⟨_, execMassBalanceHoldoffEnd_of_over hf hage, leakLoop_updLeak_self hl _,
      fun k hk => leakLoop_updLeak_ne hk _ s, rfl⟩,
    fun s l h => execMassBalanceHoldoffEnd_of_held h, fun s l => holdUntil_restartBalance l s,
    fun s l hl hactive hcount hnormal hvoid => ⟨_, execPressureDecayEval_of_second hactive hcount hnormal, ?void⟩,
    fun s l hl hactive hcount hnormal hwhole hten =>
      ⟨_, _, execPressureDecayEval_of_second hactive hcount hnormal, rfl, ?judged⟩,
    fun s l hl hactive hcount hnormal hwhole hfew =>
      ⟨_, execPressureDecayEval_of_second hactive hcount hnormal, ?few⟩,
    fun s l h => execPressureDecayEval_of_not_due h,
    fun s l hl hrun hnew hnormal hstandby => ⟨_, execClassifierConfirm_of_run hrun hnew hnormal, ?standby⟩,
    fun s l h => execClassifierConfirm_of_short h, fun s hcause hdry => execRowSensorCauseEnd_of_dry hcause hdry,
    fun s i hi h => execRowSensorCauseEnd_of_wet hi h, fun s hcause hage => execManyLoopsEnd_of_old hcause hage,
    fun s h => execManyLoopsEnd_of_young h,
    fun s hrun hnew => ⟨_, execRingOpenExternal_of_open hrun hnew, rfl, fun k hk => ?opened, rfl, rfl, rfl⟩,
    fun s h => execRingOpenExternal_of_short h,
    fun s hrun hopen => ⟨_, execRingClosedExternal_of_closed hrun hopen, rfl, fun k hk => ?closed, rfl⟩,
    fun s h => execRingClosedExternal_of_short h,
    fun s l hl hloops hrun hnew hnormal hcontrol hopen =>
      ⟨_, execClassifierConfirm_of_run hrun hnew hnormal, ?isolated⟩,
    fun s l hl hrun hnew hnormal hcontrol hclosed =>
      ⟨_, execClassifierConfirm_of_run hrun hnew hnormal, ?already⟩⟩
  case void =>
    rw [hvoid, Bool.true_or, if_pos rfl, secondValues, hvoid, if_pos rfl]
    exact ⟨leakLoop_updLeak_self hl _, rfl⟩
  case judged =>
    rw [secondValues_of_whole hwhole, hwhole, if_neg (by simp; omega)]
    have hlen : l < (updLeak l (secondTaken ((((leakLoop s l).sec, (leakLoop s l).pSum) ::
      (leakLoop s l).pVals).take 10)) s).leak.loops.length := (length_upd _ _ _).symm ▸ hl
    obtain ⟨hd, hsec, hcount', hrun, hconf, hiso, hother, hframe⟩ := decayJudge_keeps _ hlen rfl
    rw [leakLoop_updLeak_self hl] at hsec hcount' hrun hiso
    exact ⟨hd, hsec, hcount', hrun, hconf, hiso, fun k hk => (hother k hk).trans (leakLoop_updLeak_ne hk _ s), hframe⟩
  case few =>
    rw [secondValues_of_whole hwhole, List.take_of_length_le (by simp; omega),
      if_pos (by simp; omega)]
    refine ⟨(leakLoop_updLeak_self hl _).trans ?_, rfl⟩
    rw [secondTaken, ← hwhole]
  case standby =>
    rw [hstandby, if_neg Bool.false_ne_true]
    exact ⟨leakLoop_classConfirmed_self hl, fun k hk => leakLoop_updLeak_ne hk _ s, rfl, rfl, rfl⟩
  case opened =>
    refine (floorLine_rowFloors (s := { s with leak := { s.leak with ringExt := true } }) hk).trans ?_
    dsimp only
    rw [Bool.or_true, Bool.true_and]
    rfl
  case closed =>
    refine (floorLine_rowFloors (s := { s with leak := { s.leak with ringExt := false } }) hk).trans ?_
    dsimp only
    rw [Bool.or_false]
    rfl
  case isolated =>
    have hself := leakLoop_classConfirmed_self hl
    rw [hcontrol, if_pos rfl, decideLoop_of_open (by rw [hself]; rfl) (by rw [hself]; exact hopen)]
    generalize confirmedBy (classConfirmed l s) l = cause
    obtain ⟨hloop, hisolated, hheld⟩ := rowFloors_isolateLoop_keeps (s := classConfirmed l s) cause
      ((length_upd _ _ _).symm ▸ hl)
    rw [hself] at hloop
    exact ⟨congrArg LoopLeak.clsConfirmed hloop, congrArg LoopLeak.iso hloop, congrArg LoopLeak.decidedFrame hloop,
      congrArg LoopLeak.isolations hloop, hisolated hloops, hheld⟩
  case already =>
    have hself := leakLoop_classConfirmed_self hl
    have hlen : l < (classConfirmed l s).leak.loops.length := (length_upd _ _ _).symm ▸ hl
    rw [hcontrol, if_pos rfl, decideLoop_of_closed (by rw [hself]; rfl) (by rw [hself]; exact hclosed)]
    have hnew := leakLoop_updLeak_self hlen (addCause (confirmedBy (classConfirmed l s) l))
    obtain ⟨hvalve, -, hleak⟩ := rowFloors_keeps (updLeak l (addCause (confirmedBy (classConfirmed l s) l))
      (classConfirmed l s))
    rw [leakLoop, hleak, ← leakLoop, hnew, hself, hvalve]
    exact ⟨rfl, rfl, rfl⟩

end Sys2Proof.Machine
end

section
/-! SUPPORT. CAN bus-off, storms and error states (R463, R487, R488): one update of a channel each; settles O38. -/

namespace Sys2Proof.Machine

theorem canCh_updCan_self {c : Nat} {s : State} (hc : c < s.can.ch.length) (f : CanCh → CanCh) :
    canCh (updCan c f s) c = f (canCh s c) := getD_upd_self _ _ _ _ hc

theorem canCh_updCan_ne {c d : Nat} (h : d ≠ c) (f : CanCh → CanCh) (s : State) :
    canCh (updCan c f s) d = canCh s d := getD_upd_ne _ _ _ _ _ h.symm

/-! Counting on a channel. -/

/-- Of CAN channel `c` only the counters differ, and of the other channels nothing. -/
def OnlyCanCounters (c : Nat) (s t : State) : Prop :=
  ∃ ch, t = { s with can := { s.can with ch := ch } } ∧ ch.length = s.can.ch.length ∧
    (∀ d, d ≠ c → ch.getD d {} = canCh s d) ∧
    (c < s.can.ch.length → ∃ cs, ch.getD c {} = { canCh s c with counters := cs })

theorem OnlyCanCounters.refl (c : Nat) (s : State) : OnlyCanCounters c s s :=
  ⟨_, rfl, rfl, fun _ _ => rfl, fun _ => ⟨_, rfl⟩⟩

theorem OnlyCanCounters.trans {c : Nat} {s t u : State} (h : OnlyCanCounters c s t) (h' : OnlyCanCounters c t u) :
    OnlyCanCounters c s u := by
  obtain ⟨ch, rfl, hlen, hother, hself⟩ := h
  obtain ⟨ch', rfl, hlen', hother', hself'⟩ := h'
  refine ⟨ch', rfl, hlen'.trans hlen, fun d hd => (hother' d hd).trans (hother d hd), fun hc => ?_⟩
  obtain ⟨cs, hcs⟩ := hself hc
  obtain ⟨cs', hcs'⟩ := hself' (hlen.symm ▸ hc)
  refine ⟨cs', hcs'.trans ?_⟩
  unfold canCh at hcs ⊢
  rw [hcs]

theorem onlyCanCounters_canCount (c k n : Nat) (s : State) : OnlyCanCounters c s (canCount c k n s) :=
  ⟨_, rfl, length_upd _ _ _, fun _ hd => canCh_updCan_ne hd _ s, fun hc => ⟨_, canCh_updCan_self hc _⟩⟩

/-! Bus-off and storms (R487). -/

/-- The bus-offs of the channel's last 60 s, the one in `frame` among them. -/
def recentBusOffs (frame : Nat) (x : CanCh) : List Nat := frame :: x.busOffFrames.filter fun f => frame < f + 600000

/-- A channel that goes off the bus in `frame`, into a storm when `storm` says so. -/
def offBus (frame : Nat) (recent : List Nat) (storm : Bool) (y : CanCh) : CanCh :=
  { y with state := .busOff, recovered := false, busOffFrames := recent, lastBusOff := frame, returnFrame := none
           tec := 255, storm := y.storm || storm }

/-- The state in which the bus-off of channel `c` is counted and logged. -/
def busOffNoted (c : Nat) (storm : Bool) (s : State) : State :=
  post 0xC001 (canCount c 10 1 (updCan c (offBus s.seq.frame (recentBusOffs s.seq.frame (canCh s c)) storm) s)) c

theorem execBusOff_of_normal {s : State} {c : Nat} (hnormal : (canCh s c).state = .normal) {storm : Bool}
    (hstorm : (decide (8 ≤ (recentBusOffs s.seq.frame (canCh s c)).length) && !(canCh s c).storm) = storm) :
    execBusOff c s =
      .next (if storm then post 0xC003 (canSum 0 (busOffNoted c storm s)) c else busOffNoted c storm s) := by
  unfold recentBusOffs at hstorm
  unfold execBusOff
  dsimp only
  rw [if_pos hnormal, hstorm]
  rfl

theorem execBusOff_of_off {s : State} {c : Nat} (h : (canCh s c).state ≠ .normal) : execBusOff c s = .next s :=
  congrArg Host.Outcome.next (if_neg h)

/-- What a bus-off leaves: the channel off the bus, its event, and no other channel. -/
theorem busOffNoted_keeps {s : State} {c : Nat} (storm : Bool) (hc : c < s.can.ch.length) {t : State}
    (ht : busOffNoted c storm s = t) : (∃ cs, canCh t c = { offBus s.seq.frame
      (recentBusOffs s.seq.frame (canCh s c)) storm (canCh s c) with counters := cs }) ∧
    (∀ d, d ≠ c → canCh t d = canCh s d) ∧ t.log = logPost s.log (mkEvent s 0xC001 c 0xFFFF []) ∧
    t = { s with can := { s.can with ch := t.can.ch }, log := t.log } := by
  obtain ⟨ch, h, -, hother, hself⟩ := onlyCanCounters_canCount c 10 1
    (updCan c (offBus s.seq.frame (recentBusOffs s.seq.frame (canCh s c)) storm) s)
  obtain ⟨cs, hcs⟩ := hself ((length_upd _ _ _).symm ▸ hc)
  rw [canCh_updCan_self hc] at hcs
  unfold busOffNoted at ht
  rw [h] at ht
  subst ht
  exact ⟨⟨cs, hcs⟩, fun d hd => (hother d hd).trans (canCh_updCan_ne hd _ s), rfl, rfl⟩

theorem execBusOffRecovery_of_off {s : State} {c : Nat} (h : (canCh s c).state = .busOff) : execBusOffRecovery c s =
    .next (updCan c (fun y => { y with recovered := true, tec := 0, rec_ := 0, passive := false }) s) :=
  congrArg Host.Outcome.next (if_pos h)

theorem execBusOffRecovery_of_on {s : State} {c : Nat} (h : (canCh s c).state ≠ .busOff) :
    execBusOffRecovery c s = .next s := congrArg Host.Outcome.next (if_neg h)

theorem execBusOffStormEnd_of_old {s : State} {c f : Nat} (hstorm : (canCh s c).storm = true)
    (hf : (canCh s c).returnFrame = some f) (hage : f + 600000 ≤ s.seq.frame) :
    execBusOffStormEnd c s = .next (post 0xC004 (updCan c (fun y => { y with storm := false }) s) c) := by
  unfold execBusOffStormEnd
  dsimp only
  rw [hstorm, hf]
  exact congrArg Host.Outcome.next (if_pos hage)

theorem execBusOffStormEnd_of_none {s : State} {c : Nat}
    (h : (canCh s c).storm = false ∨ (canCh s c).returnFrame = none) : execBusOffStormEnd c s = .next s := by
  unfold execBusOffStormEnd
  dsimp only
  rcases h with h | h
  · rw [h]
  · rw [h]
    cases (canCh s c).storm <;> rfl

/-! Error states (R463, R488). -/

/-- A channel whose error counters read `tec` and `rec_`. -/
def errorsRead (tec rec_ : Nat) (y : CanCh) : CanCh := { y with tec := min 255 tec, rec_ := min 255 rec_ }

theorem noteErrors_keeps {s : State} {c : Nat} (errors : List Nat) (tec rec_ : Nat) (hc : c < s.can.ch.length) :
    ∃ ch cs, noteErrors c errors tec rec_ s = { s with can := { s.can with ch := ch } } ∧
      ch.length = s.can.ch.length ∧ (∀ d, d ≠ c → ch.getD d {} = canCh s d) ∧
      ch.getD c {} = { errorsRead tec rec_ (canCh s c) with counters := cs } := by
  obtain ⟨ch, h, hlen, hother, hself⟩ := foldl_rel (R := OnlyCanCounters c) (.refl c) (fun _ _ _ => .trans)
    (fun t k => onlyCanCounters_canCount c (5 + k) (errors.getD k 0) t) (List.range 5) s
  obtain ⟨cs, hcs⟩ := hself hc
  refine ⟨upd ch c (errorsRead tec rec_), cs, ?_, (length_upd _ _ _).trans hlen,
    fun d hd => (getD_upd_ne _ _ _ _ _ hd.symm).trans (hother d hd), ?_⟩
  · unfold noteErrors
    dsimp only
    rw [h]
    rfl
  · rw [getD_upd_self _ _ _ _ (hlen.symm ▸ hc), hcs]
    rfl

theorem execErrorPassive_of_active {s : State} {c : Nat} (e : List Nat) (tec rec_ : Nat)
    (hnormal : (canCh s c).state = .normal) (hactive : (canCh s c).passive = false) : execErrorPassive c e tec rec_ s =
      .next (postEvery 10000 0xC010
        (updCan c (fun y => { y with passive := true }) (noteErrors c e tec rec_ s)) c) := by
  unfold execErrorPassive
  dsimp only
  rw [hnormal, hactive]
  rfl

theorem execErrorActive_of_passive {s : State} {c : Nat} (tec rec_ : Nat) (hnormal : (canCh s c).state = .normal)
    (hpassive : (canCh s c).passive = true) : execErrorActive c tec rec_ s =
      .next (postEvery 10000 0xC011
        (updCan c (fun y => { y with passive := false }) (noteErrors c [] tec rec_ s)) c) := by
  unfold execErrorActive
  dsimp only
  rw [hnormal, hpassive]
  rfl

theorem execErrorPassive_of_off {s : State} {c : Nat} (e : List Nat) (tec rec_ : Nat)
    (h : (canCh s c).state ≠ .normal) : execErrorPassive c e tec rec_ s = .next s := by
  unfold execErrorPassive
  dsimp only
  rw [decide_eq_false h]
  rfl

theorem execErrorActive_of_off {s : State} {c : Nat} (tec rec_ : Nat) (h : (canCh s c).state ≠ .normal) :
    execErrorActive c tec rec_ s = .next s := by
  unfold execErrorActive
  dsimp only
  rw [decide_eq_false h]
  rfl

/-- What the change of an error state leaves: the channel's counters and its state, and no other channel. -/
theorem errorState_keeps {s : State} {c : Nat} (code : Nat) (e : List Nat) (tec rec_ : Nat) (passive : Bool)
    (hc : c < s.can.ch.length) {t : State}
    (ht : postEvery 10000 code (updCan c (fun y => { y with passive := passive }) (noteErrors c e tec rec_ s)) c = t) :
    (∃ cs, canCh t c = { errorsRead tec rec_ (canCh s c) with counters := cs, passive := passive }) ∧
    (∀ d, d ≠ c → canCh t d = canCh s d) ∧ t = { s with can := { s.can with ch := t.can.ch }, log := t.log } ∧
    (runSeen code c 10000 s = true → t.log = s.log) := by
  obtain ⟨ch, cs, h, hlen, hother, hself⟩ := noteErrors_keeps e tec rec_ hc
  rw [h] at ht
  have hch := getD_upd_self ch c (fun y => { y with passive := passive }) {} (hlen.symm ▸ hc)
  have hne : ∀ d, d ≠ c → (upd ch c (fun y => { y with passive := passive })).getD d {} = canCh s d :=
    fun d hd => (getD_upd_ne _ _ _ _ _ hd.symm).trans (hother d hd)
  rw [hself] at hch
  unfold updCan postEvery at ht
  dsimp only at ht
  generalize upd ch c _ = ch' at ht hch hne
  split at ht
  · subst ht
    exact ⟨⟨cs, hch⟩, hne, rfl, fun _ => rfl⟩
  case isFalse hseen =>
    subst ht
    exact ⟨⟨cs, hch⟩, hne, rfl, fun hrun => absurd hrun hseen⟩

/-- Settles O38: a channel goes off the bus and back, and enters and leaves its error state, once each. -/
theorem canBusOffAndErrorStates : Obligations.CanBusOffAndErrorStates := by
  refine ⟨fun s c hc hnormal hfew => ⟨_, execBusOff_of_normal hnormal (storm := false) ?few, ?busOff⟩,
    fun s c hc hnormal hcalm hmany => ⟨_, execBusOff_of_normal hnormal (storm := true) ?many, ?storm⟩,
    fun s c h => execBusOff_of_off h,
    fun s c hc h => ⟨_, execBusOffRecovery_of_off h, canCh_updCan_self hc _, fun d hd => canCh_updCan_ne hd _ s, rfl⟩,
    fun s c h => execBusOffRecovery_of_on h,
    fun s c f hc hstorm hf hage => ⟨_, execBusOffStormEnd_of_old hstorm hf hage, canCh_updCan_self hc _,
      fun d hd => canCh_updCan_ne hd _ s, rfl, rfl⟩,
    fun s c h => execBusOffStormEnd_of_none h,
    fun s c tec rec_ e hc hnormal hactive => ⟨_, execErrorPassive_of_active e tec rec_ hnormal hactive, ?passive⟩,
    fun s c tec rec_ hc hnormal hpassive => ⟨_, execErrorActive_of_passive tec rec_ hnormal hpassive, ?active⟩,
    fun s c tec rec_ e h => ⟨execErrorPassive_of_off e tec rec_ h, execErrorActive_of_off tec rec_ h⟩⟩
  case few =>
    rw [decide_eq_false (by rw [recentBusOffs, List.length_cons]; omega), Bool.false_and]
  case busOff =>
    rw [if_neg Bool.false_ne_true]
    obtain ⟨⟨cs, hself⟩, hother, hlog, hframe⟩ := busOffNoted_keeps false hc rfl
    refine ⟨congrArg CanCh.state hself, congrArg CanCh.recovered hself, congrArg CanCh.tec hself,
      (congrArg CanCh.storm hself).trans (Bool.or_false _), (congrArg CanCh.slots hself).trans rfl, hother, hlog,
      hframe⟩
  case many =>
    rw [decide_eq_true (by rw [recentBusOffs, List.length_cons]; omega), hcalm]
    rfl
  case storm =>
    rw [if_pos rfl]
    generalize ht : busOffNoted c true s = t
    obtain ⟨⟨cs, hself⟩, -, hlog, hframe⟩ := busOffNoted_keeps true hc ht
    refine ⟨congrArg CanCh.state hself, (congrArg CanCh.storm hself).trans (Bool.or_true _), ?_, ?_⟩
    · rw [hframe]
      rfl
    · rw [← hlog, ← mkEvent_congr (s := s) (t := t)]
      · rfl
      · rw [hframe]; rfl
      · rw [hframe]; rfl
      · rw [hframe]
      · rw [hlog, logPost_boot]
  case passive =>
    obtain ⟨⟨cs, hself⟩, hother, hframe, hquiet⟩ := errorState_keeps 0xC010 e tec rec_ true hc rfl
    exact ⟨congrArg CanCh.passive hself, congrArg CanCh.tec hself, congrArg CanCh.rec_ hself,
      (congrArg CanCh.state hself).trans hnormal, hother, hframe, hquiet⟩
  case active =>
    obtain ⟨⟨cs, hself⟩, hother, hframe, -⟩ := errorState_keeps 0xC011 [] tec rec_ false hc rfl
    exact ⟨congrArg CanCh.passive hself, congrArg CanCh.tec hself, congrArg CanCh.rec_ hself, hother, hframe⟩

end Sys2Proof.Machine
end

section
/-! SUPPORT. CAN reception, the mirror queues and the external valves' status (R481 to R492); settles O39. -/

namespace Sys2Proof.Machine

/-! What becomes of a received frame (R481, R482). -/

theorem execCanFrameReceived_of_deaf {s : State} {c off : Nat} {m : CanMsg} (h : (canCh s c).state = .off ∨
    ((canCh s c).state = .busOff ∧ (canCh s c).recovered = false) ∨ canClock s = false) :
    execCanFrameReceived c m off s = .next s := by
  unfold execCanFrameReceived canListens
  refine congrArg Host.Outcome.next (if_neg ?_)
  rcases h with h | ⟨h, hrec⟩ | h
  · simp [h]
  · simp [h, hrec]
  · simp [h]

/-- A CAN channel that has counted a received frame. -/
def frameCounted (x : CanCh) : CanCh := { x with counters := upd x.counters 1 fun v => satAdd 32 v 1 }

/-- A CAN channel that has discarded a frame of no known kind. -/
def frameDiscarded (x : CanCh) : CanCh := { x with unknown := cnt x.unknown }

section
variable {s : State} {c : Nat} (off : Nat) {m : CanMsg}

theorem execCanFrameReceived_of_listening (hlisten : canListens (canCh s c) = true) (hclock : canClock s = true) :
    execCanFrameReceived c m off s = .next (canReceive c off m s) := by
  rw [execCanFrameReceived, hlisten, hclock]
  rfl

theorem canReceive_of_unknown
    (h : m.remote = true ∨ (hardwareTakes s c m = false ∧ acceptingFilter s c m = none)) :
    canReceive c off m s = updCan c frameDiscarded (updCan c frameCounted s) := by
  unfold canReceive
  dsimp only
  rcases h with h | ⟨hhard, hnone⟩
  · rw [h]
    rfl
  · rw [hhard, hnone]
    exact ite_self _

theorem canReceive_of_filter {k : Nat} (hdata : m.remote = false) (hhard : hardwareTakes s c m = false)
    (hk : acceptingFilter s c m = some k) {f : FilterCfg} (hf : (s.img.filters.getD c []).getD k {} = f) :
    canReceive c off m s = if f.target = 2 then hpPut c f.hpBuffer (canRx s m k off f.mirror) (updCan c frameCounted s)
      else if f.target = 1 then queue1Put c (canRx s m k off f.mirror) (updCan c frameCounted s)
      else fifoPut c (canRx s m k off f.mirror) (updCan c frameCounted s) := by
  unfold canReceive
  dsimp only
  rw [hdata, hhard, hk, ← hf]
  rfl

end

theorem canCh_updCan_twice {s : State} {c : Nat} (hc : c < s.can.ch.length) (f g : CanCh → CanCh) :
    canCh (updCan c g (updCan c f s)) c = g (f (canCh s c)) := by
  rw [canCh_updCan_self ((length_upd _ _ _).symm ▸ hc), canCh_updCan_self hc]

theorem canCh_updCan_twice_ne {c d : Nat} (h : d ≠ c) (f g : CanCh → CanCh) (s : State) :
    canCh (updCan c g (updCan c f s)) d = canCh s d := by
  rw [canCh_updCan_ne h, canCh_updCan_ne h]

/-! The receive queues and the buffers of high priority (R485, R486). -/

/-- A CAN channel whose FIFO takes `r`. -/
def fifoTaken (r : CanRx) (y : CanCh) : CanCh :=
  { y with fifo := y.fifo ++ [{ r with seq := y.fifoSeq }], fifoSeq := (y.fifoSeq + 1) % 65536
           rxLevel := max y.rxLevel (y.fifo.length + 1) }

/-- A CAN channel whose queue 1 takes `r`. -/
def queue1Taken (r : CanRx) (y : CanCh) : CanCh :=
  { y with queue1 := y.queue1 ++ [{ r with seq := y.queue1Seq }], queue1Seq := (y.queue1Seq + 1) % 65536
           rxLevel := max y.rxLevel (y.queue1.length + 1) }

theorem fifoPut_of_room {s : State} {c : Nat} (h : (canCh s c).fifo.length < 64) (r : CanRx) :
    fifoPut c r s = updCan c (fifoTaken r) s := if_neg (Nat.not_le.2 h)

theorem fifoPut_of_full {s : State} {c : Nat} (h : 64 ≤ (canCh s c).fifo.length) (r : CanRx) :
    fifoPut c r s = postRun 0xC030 (canCount c 12 1 s) c := if_pos h

theorem queue1Put_of_room {s : State} {c : Nat} (h : (canCh s c).queue1.length < 64) (r : CanRx) :
    queue1Put c r s = updCan c (queue1Taken r) s := if_neg (Nat.not_le.2 h)

/-- A buffer of high priority that takes `r`. -/
def bufferTaken (r : CanRx) (h : HpBuffer) : HpBuffer :=
  { h with rx := { r with seq := h.seq }, isNew := true, changed := true, seq := (h.seq + 1) % 65536 }

/-- A CAN channel whose buffer `b` takes `r`. -/
def hpTaken (b : Nat) (r : CanRx) (y : CanCh) : CanCh := { y with hp := upd y.hp b (bufferTaken r) }

/-- A frame put in a buffer: the channel's counters, the buffer, and the sessions' notes. -/
theorem hpPut_keeps {s : State} {c : Nat} (b : Nat) (r : CanRx) (hc : c < s.can.ch.length) {t : State}
    (ht : hpPut c b r s = t) : (∃ cs, canCh t c = { hpTaken b r (canCh s c) with counters := cs }) ∧
    (∀ d, d ≠ c → canCh t d = canCh s d) ∧
    t = { s with can := { s.can with ch := t.can.ch }, mgmt := { s.mgmt with sessions := t.mgmt.sessions } } := by
  have hcount : OnlyCanCounters c s (if ((canCh s c).hp.getD b {}).changed then canCount c 12 1 s else s) := by
    split
    · exact onlyCanCounters_canCount c 12 1 s
    · exact .refl c s
  obtain ⟨ch, h, hlen, hother, hself⟩ := hcount
  obtain ⟨cs, hcs⟩ := hself hc
  have hlen' : c < ch.length := hlen.symm ▸ hc
  have htaken := getD_upd_self ch c (hpTaken b r) {} hlen'
  rw [hcs] at htaken
  unfold hpPut notify at ht
  dsimp only at ht
  rw [h] at ht
  subst ht
  exact ⟨⟨cs, htaken⟩, fun d hd => (getD_upd_ne _ _ _ _ _ hd.symm).trans (hother d hd), rfl⟩

/-! The status of an external valve (R491). -/

theorem execValveStatusReceived_of_status {s : State} {v : Nat} (pos cmd : Nat) (fault : Bool) {x : CanValve}
    (hv : s.can.valves[v]? = some x) : execValveStatusReceived v 8 pos cmd fault s =
      .next { s with can := { s.can with valves := s.can.valves.set v { x with
        position := pos, fault := fault, cmdSeen := cmd, lastStatus := some s.seq.frame, stale := false } } } := by
  rw [execValveStatusReceived, valveStatus, hv]
  rfl

theorem execValveStatusReceived_of_length {s : State} {v dlc : Nat} (pos cmd : Nat) (fault : Bool) {x : CanValve}
    (hv : s.can.valves[v]? = some x) (hdlc : dlc ≠ 8) : execValveStatusReceived v dlc pos cmd fault s =
      .next (updCan x.channel frameDiscarded s) := by
  rw [execValveStatusReceived, valveStatus, hv]
  exact congrArg Host.Outcome.next (if_pos hdlc)

theorem execValveStatusStale_eq {s : State} {v f : Nat} {x : CanValve} (hv : s.can.valves[v]? = some x)
    (hf : x.lastStatus = some f) : execValveStatusStale v s =
      .next (if f + 1000 ≤ s.seq.frame then
        { s with can := { s.can with valves := s.can.valves.set v { x with stale := true } } } else s) := by
  unfold execValveStatusStale
  rw [hv]
  dsimp only
  rw [hf]
  simp only [decide_eq_true_eq]

/-! The tail of a mirror queue (R492). -/

theorem execMqTailWrite_of_within {s : State} {c v : Nat} (hv : v < 256)
    (h : (v + 256 - (canCh s c).mqTail) % 256 ≤ mqCount (canCh s c)) :
    execMqTailWrite c v s = .next (updCan c (fun y => { y with mqTail := v }) s) :=
  congrArg Host.Outcome.next (if_pos ⟨hv, h⟩)

theorem execMqTailWrite_of_beyond {s : State} {c v : Nat}
    (h : mqCount (canCh s c) < (v + 256 - (canCh s c).mqTail) % 256) :
    execMqTailWrite c v s = .next (canCount c 13 1 s) :=
  congrArg Host.Outcome.next (if_neg fun hv => Nat.not_le.2 h hv.2)

/-- Settles O39: a frame goes to the first entry that accepts it, and each queue's write acts on its own channel. -/
theorem canReceptionAndMirrorQueues : Obligations.CanReceptionAndMirrorQueues := by
  refine ⟨fun s c off m h => execCanFrameReceived_of_deaf h,
    fun s c off m hc hlisten hclock h => ⟨_, execCanFrameReceived_of_listening off hlisten hclock, ?unknown⟩,
    fun s c off k m hc hlisten hclock hdata hhard hk htarget hroom =>
      ⟨_, execCanFrameReceived_of_listening off hlisten hclock, ?fifo⟩,
    fun s c off k m hc hlisten hclock hdata hhard hk htarget hfull =>
      ⟨_, execCanFrameReceived_of_listening off hlisten hclock, ?full⟩,
    fun s c off k m hc hlisten hclock hdata hhard hk htarget hroom =>
      ⟨_, execCanFrameReceived_of_listening off hlisten hclock, ?queue1⟩,
    fun s c off k m hc hlisten hclock hdata hhard hk htarget hbuffer =>
      ⟨_, _, execCanFrameReceived_of_listening off hlisten hclock, rfl, ?buffer⟩,
    fun s v dlc pos cmd fault x hv hdlc =>
      ⟨_, hdlc ▸ execValveStatusReceived_of_status pos cmd fault hv, rfl, rfl⟩,
    fun s v dlc pos cmd fault x hv hdlc hc => ⟨_, execValveStatusReceived_of_length pos cmd fault hv hdlc,
      canCh_updCan_self hc frameDiscarded, fun d hd => canCh_updCan_ne hd frameDiscarded s, rfl⟩,
    fun s v f x hv hf => ⟨fun hold => (execValveStatusStale_eq hv hf).trans (congrArg Host.Outcome.next (if_pos hold)),
      fun hfresh => (execValveStatusStale_eq hv hf).trans
        (congrArg Host.Outcome.next (if_neg (Nat.not_le.2 hfresh)))⟩,
    fun s c v hc hv h => ⟨_, execMqTailWrite_of_within hv h, canCh_updCan_self hc _,
      fun d hd => canCh_updCan_ne hd _ s, rfl⟩,
    fun s c v hc h => ⟨_, execMqTailWrite_of_beyond h, ?beyond⟩,
    fun s c hc => ⟨_, rfl, canCh_updCan_self hc _, fun d hd => canCh_updCan_ne hd _ s, rfl⟩,
    fun s c b hc => ⟨_, rfl, canCh_updCan_self hc _, fun d hd => canCh_updCan_ne hd _ s, rfl⟩⟩
  case unknown =>
    rw [canReceive_of_unknown off h, canCh_updCan_twice hc]
    exact ⟨rfl, rfl, rfl, rfl, rfl, fun d hd => canCh_updCan_twice_ne hd _ _ s, rfl⟩
  case fifo =>
    rw [canReceive_of_filter off hdata hhard hk rfl, if_neg (by rw [htarget]; decide),
      if_neg (by rw [htarget]; decide), fifoPut_of_room (by rw [canCh_updCan_self hc]; exact hroom),
      canCh_updCan_twice hc]
    exact ⟨rfl, rfl, rfl, rfl, fun d hd => canCh_updCan_twice_ne hd _ _ s, rfl⟩
  case full =>
    rw [canReceive_of_filter off hdata hhard hk rfl, if_neg (by rw [htarget]; decide),
      if_neg (by rw [htarget]; decide), fifoPut_of_full (by rw [canCh_updCan_self hc]; exact hfull), postRun_eq,
      canCount]
    have hself := canCh_updCan_twice hc frameCounted
      (fun x => { x with counters := upd x.counters 12 fun v => satAdd 32 v 1 })
    exact ⟨(congrArg CanCh.fifo hself).trans rfl, (congrArg CanCh.counters hself).trans rfl⟩
  case queue1 =>
    rw [canReceive_of_filter off hdata hhard hk rfl, if_neg (by rw [htarget]; decide), if_pos htarget,
      queue1Put_of_room (by rw [canCh_updCan_self hc]; exact hroom), canCh_updCan_twice hc]
    exact ⟨rfl, rfl, rfl, fun d hd => canCh_updCan_twice_ne hd _ _ s, rfl⟩
  case buffer =>
    rw [canReceive_of_filter off hdata hhard hk rfl, if_pos htarget]
    obtain ⟨⟨cs, hself⟩, hother, hframe⟩ := hpPut_keeps ((s.img.filters.getD c []).getD k {}).hpBuffer
      (canRx s m k off ((s.img.filters.getD c []).getD k {}).mirror) (s := updCan c frameCounted s)
      ((length_upd _ _ _).symm ▸ hc) rfl
    rw [canCh_updCan_self hc] at hself
    have hslot := getD_upd_self (canCh s c).hp _
      (bufferTaken (canRx s m k off ((s.img.filters.getD c []).getD k {}).mirror)) {} hbuffer
    rw [hself]
    refine ⟨(congrArg HpBuffer.isNew hslot).trans rfl, (congrArg HpBuffer.changed hslot).trans rfl,
      (congrArg (fun h => h.rx.msg) hslot).trans rfl, (congrArg (fun h => h.rx.filter) hslot).trans rfl, rfl, rfl,
      fun d hd => (hother d hd).trans (canCh_updCan_ne hd _ s), hframe⟩
  case beyond =>
    have hself := canCh_updCan_self hc (fun x => { x with counters := upd x.counters 13 fun v => satAdd 32 v 1 })
    exact ⟨(congrArg CanCh.mqTail hself).trans rfl, congrArg CanCh.counters hself⟩

end Sys2Proof.Machine
end

section
/-! SUPPORT. CAN cells in their column, and host messages (R472 to R480): what a column does to its channel, and what
goes out; settles O40. -/

namespace Sys2Proof.Machine

/-! Host messages and their slots (R478, R480). -/

/-- A CAN channel whose send slot `k` is changed by `f`. -/
def slotChanged (k : Nat) (f : SendSlot → SendSlot) (y : CanCh) : CanCh := { y with slots := upd y.slots k f }

/-- A send slot whose message ends in `frame` with the outcome `st`. -/
def slotDone (st : SendState) (frame : Nat) (z : SendSlot) : SendSlot := { z with state := st, doneFrame := frame }

theorem execHostMessageExpire_of_old {s : State} {c k : Nat} (hwait : ((canCh s c).slots.getD k {}).state = .waiting)
    (hage : ((canCh s c).slots.getD k {}).acceptFrame + 100000 ≤ s.seq.frame) : execHostMessageExpire c k s =
      .next (post 0xC060 (canCount c 15 1 (updCan c (slotChanged k (slotDone .expired s.seq.frame)) s)) c) := by
  unfold execHostMessageExpire
  dsimp only
  rw [hwait, decide_eq_true hage]
  rfl

theorem execHostMessageExpire_of_not_due {s : State} {c k : Nat} (h : ((canCh s c).slots.getD k {}).state ≠ .waiting ∨
    s.seq.frame < ((canCh s c).slots.getD k {}).acceptFrame + 100000) : execHostMessageExpire c k s = .next s := by
  unfold execHostMessageExpire
  refine congrArg Host.Outcome.next (if_neg ?_)
  rcases h with h | h
  · simp [h, -List.getD_eq_getElem?_getD]
  · simp [Nat.not_le.2 h, -List.getD_eq_getElem?_getD]

theorem execSendSlotFree_of_old {s : State} {c k : Nat}
    (hdone : ((canCh s c).slots.getD k {}).state ∈ [.sent, .cancelled, .expired, .dropped])
    (hage : ((canCh s c).slots.getD k {}).doneFrame + 100000 ≤ s.seq.frame) :
    execSendSlotFree c k s = .next (updCan c (slotChanged k fun _ => {}) s) := by
  have hnot : ((canCh s c).slots.getD k {}).state ≠ .free ∧ ((canCh s c).slots.getD k {}).state ≠ .waiting ∧
      ((canCh s c).slots.getD k {}).state ≠ .sending := by
    refine ⟨?_, ?_, ?_⟩ <;> intro h <;> rw [h] at hdone <;> revert hdone <;> decide
  obtain ⟨hfree, hwait, hsend⟩ := hnot
  unfold execSendSlotFree
  dsimp only
  rw [decide_eq_true hfree, decide_eq_true hwait, decide_eq_true hsend, decide_eq_true hage]
  rfl

theorem execSendSlotFree_of_open {s : State} {c k : Nat}
    (h : ((canCh s c).slots.getD k {}).state ∈ [.free, .waiting, .sending]) : execSendSlotFree c k s = .next s := by
  unfold execSendSlotFree
  refine congrArg Host.Outcome.next (if_neg ?_)
  rw [List.mem_cons, List.mem_cons, List.mem_singleton] at h
  rcases h with h | h | h
  · rw [h]
    simp
  · rw [h]
    simp
  · rw [h]
    simp

/-! A cell in its column (R472, R474). -/

section
variable {s : State} {c col : Nat} (f : BusFacts)

theorem execCellTransmit_of_not_due (h : (almanac s c).columns ≤ col ∨
    s.seq.frame % 10 ≠ ((almanac s c).column.getD col {}).start / 100 ∨ (canCh s c).state = .off ∨
    (canCh s c).state = .restricted ∨ canClock s = false) : execCellTransmit c col f s = .next s := by
  have hsilent (hn : (canCh s c).state ≠ .normal) (hb : (canCh s c).state ≠ .busOff) :
      ((canCh s c).state = .normal && stagePasses s c) = false ∧
      (((canCh s c).state = .busOff || (canCh s c).state = .normal) &&
        decide (((almanac s c).column.getD col {}).kind ≤ 1)) = false := by
    rw [decide_eq_false hn, decide_eq_false hb]
    exact ⟨rfl, rfl⟩
  unfold execCellTransmit
  dsimp only
  refine congrArg Host.Outcome.next ?_
  rcases h with h | h | h | h | h
  · rw [if_pos (by simp [Nat.not_lt.2 h, -List.getD_eq_getElem?_getD])]
  · rw [if_pos (by simp [h, -List.getD_eq_getElem?_getD])]
  · obtain ⟨h1, h2⟩ := hsilent (by rw [h]; nofun) (by rw [h]; nofun)
    rw [h1, h2, if_neg Bool.false_ne_true, if_neg Bool.false_ne_true, ite_self]
  · obtain ⟨h1, h2⟩ := hsilent (by rw [h]; nofun) (by rw [h]; nofun)
    rw [h1, h2, if_neg Bool.false_ne_true, if_neg Bool.false_ne_true, ite_self]
  · rw [if_pos (by simp [h, -List.getD_eq_getElem?_getD])]

variable (hcol : col < (almanac s c).columns)
  (hframe : s.seq.frame % 10 = ((almanac s c).column.getD col {}).start / 100) (hclock : canClock s = true)
include hcol hframe hclock

/-- The column of a channel in NORMAL whose stage passes. -/
theorem execCellTransmit_of_normal (hnormal : (canCh s c).state = .normal) (hstage : stagePasses s c = true) :
    execCellTransmit c col f s = .next (
      if ((almanac s c).column.getD col {}).kind = 2 then
        (if intercalaryOpen (noteErrors c f.errors f.tec f.rec_ s) c then
          hostSend c f f.hosts (80 * ((almanac s c).column.getD col {}).length)
            (waitingSlots (noteErrors c f.errors f.tec f.rec_ s) c)
            (canCount c 4 f.lost (noteErrors c f.errors f.tec f.rec_ s))
         else noteErrors c f.errors f.tec f.rec_ s)
      else cellColumn c ((almanac s c).column.getD col {}) (16 * (s.seq.frame / 10 % 64) + col) f
        (noteErrors c f.errors f.tec f.rec_ s)) := by
  unfold execCellTransmit
  dsimp only
  rw [decide_eq_true hcol, decide_eq_true hframe, hclock, hnormal, hstage]
  rfl

/-- The column of a channel that may not send. -/
theorem execCellTransmit_of_silent
    (hsilent : (canCh s c).state = .busOff ∨ (canCh s c).state = .normal ∧ stagePasses s c = false)
    (hkind : ((almanac s c).column.getD col {}).kind ≤ 1) : execCellTransmit c col f s =
      .next (cellColumn c ((almanac s c).column.getD col {}) (16 * (s.seq.frame / 10 % 64) + col)
        { sent := false } s) := by
  unfold execCellTransmit
  dsimp only
  rw [decide_eq_true hcol, decide_eq_true hframe, hclock, decide_eq_true hkind]
  rcases hsilent with h | ⟨h, hstage⟩
  · rw [h]
    rfl
  · rw [h, hstage]
    rfl

end

/-- A cell in use that the bus took, in a column free at its start. -/
theorem cellColumn_of_taken {s : State} {c k : Nat} {col : ColumnCfg} {f : BusFacts} {x : CellCfg}
    (hx : (almanac s c).cell.getD k {} = x) (hused : x.used = true) (hactive : k ∉ (canCh s c).inactive)
    (hfree : f.busyAtStart = false) (hlost : f.lost = 0) (hsent : f.sent = true)
    (hsource : x.source < 512 ∨ 516 ≤ x.source) : cellColumn c col k f s =
      frameSent c x.source { canId := x.canId, ide := x.ide, fdf := x.fdf, brs := x.brs, dlc := x.dlc
                             data := leBytes (objectBytes x.source) (cellValue s x.source) } f.tdc
        (canCount c 4 0 s) := by
  have hactive' : (canCh s c).inactive.contains k = false := by simpa using hactive
  have hother : (decide (512 ≤ x.source) && decide (x.source < 516)) = false := by
    rcases hsource with h | h
    · rw [decide_eq_false (Nat.not_le.2 h), Bool.false_and]
    · rw [decide_eq_false (Nat.not_lt.2 h), Bool.and_false]
  unfold cellColumn
  dsimp only
  rw [hx, hused, hactive', hfree, hlost, hsent, hother]
  simp

theorem cellValue_canCh (ch : List CanCh) (s : State) (o : Nat) :
    cellValue { s with can := { s.can with ch := ch } } o = cellValue s o := rfl

/-- What a frame does that the bus took without a measurement of its delay. -/
theorem frameSent_eq (c source : Nat) (m : CanMsg) (s : State) : frameSent c source m none s =
    send (.can c source { m with
      esi := m.fdf && (canCh s c).passive, data := (m.data ++ List.replicate 64 0).take (dlcBytes m.dlc) })
      (canCount c 0 1 s) := rfl

/-- A cell in use that its channel may not send: it is counted as missed, and nothing goes out. -/
theorem cellColumn_missed_keeps {s : State} {c k : Nat} {col : ColumnCfg} (hc : c < s.can.ch.length) {t : State}
    (ht : cellColumn c col k { sent := false } s = t) : t.sent = s.sent ∧ (canCh t c).slots = (canCh s c).slots ∧
    t = { s with can := t.can, log := t.log } := by
  unfold cellColumn at ht
  dsimp only at ht
  by_cases hskip : (!((almanac s c).cell.getD k {}).used || (canCh s c).inactive.contains k) = true
  · rw [if_pos hskip] at ht
    subst ht
    exact ⟨rfl, rfl, rfl⟩
  · rw [if_neg hskip, if_neg (by simp), if_neg (by simp), postRun_eq] at ht
    obtain ⟨ch, h, -, -, hself⟩ := (onlyCanCounters_canCount c 4 0 s).trans (onlyCanCounters_canCount c 2 1 _)
    obtain ⟨cs, hcs⟩ := hself hc
    rw [h] at ht
    subst ht
    exact ⟨rfl, (congrArg CanCh.slots hcs).trans rfl, rfl⟩

theorem canCh_canCount_self {s : State} {c : Nat} (k n : Nat) (hc : c < s.can.ch.length) :
    canCh (canCount c k n s) c = { canCh s c with counters := upd (canCh s c).counters k fun v => satAdd 32 v n } :=
  canCh_updCan_self hc _

theorem length_canCount (c k n : Nat) (s : State) : (canCount c k n s).can.ch.length = s.can.ch.length :=
  length_upd _ _ _

/-- A frame that the bus took: it has gone out, and of the channel only the counters differ. -/
theorem frameSent_keeps {s : State} {c : Nat} (source : Nat) (m : CanMsg) (hc : c < s.can.ch.length) {t : State}
    (ht : frameSent c source m none s = t) :
    (∃ cs, canCh t c = { canCh s c with counters := cs }) ∧ t.log = s.log ∧
    t.sent = .can c source { m with
      esi := m.fdf && (canCh s c).passive
      data := (m.data ++ List.replicate 64 0).take (dlcBytes m.dlc) } :: s.sent ∧ c < t.can.ch.length := by
  rw [frameSent_eq] at ht
  subst ht
  exact ⟨⟨_, canCh_canCount_self 0 1 hc⟩, rfl, rfl, (length_upd _ _ _).symm ▸ hc⟩

theorem intercalaryOpen_canCh {s : State} {c : Nat} {ch : List CanCh}
    (h : (canCh { s with can := { s.can with ch := ch } } c).state = (canCh s c).state) :
    intercalaryOpen { s with can := { s.can with ch := ch } } c = intercalaryOpen s c := by
  rw [intercalaryOpen, h]
  rfl

theorem waitingSlots_canCh {s : State} {c : Nat} {ch : List CanCh}
    (h : (canCh { s with can := { s.can with ch := ch } } c).slots = (canCh s c).slots) :
    waitingSlots { s with can := { s.can with ch := ch } } c = waitingSlots s c := by
  unfold waitingSlots
  dsimp only
  rw [h]

/-- One host message whose frame fits in the column and that the bus took. -/
theorem hostSend_one {s : State} {c i room : Nat} {f : BusFacts} (htdc : f.tdc = none) {x : SendSlot}
    (hx : (canCh s c).slots.getD i {} = x)
    (hroom : longestFrame (almanac s c) x.msg.ide x.msg.fdf x.msg.brs x.msg.dlc ≤ room) :
    hostSend c f 1 room [i] s =
      canCount c 14 1 (frameSent c 0xFFFF x.msg none (updCan c (slotChanged i (slotDone .sent s.seq.frame)) s)) := by
  unfold hostSend
  dsimp only
  rw [hx, if_neg (Nat.not_lt.2 hroom), if_neg (by decide), htdc]
  rfl

/-- Settles O40: a cell goes out in its column with the value in force, and a host message ends and frees its slot. -/
theorem canCellsAndHostMessages : Obligations.CanCellsAndHostMessages := by
  refine ⟨fun s c col f h => execCellTransmit_of_not_due f h,
    fun s c col f hc hcol hframe hnormal hclock hstage hkind hsent hfree hlost htdc hused hactive hsource =>
      ⟨_, execCellTransmit_of_normal f hcol hframe hclock hnormal hstage, ?cell⟩,
    fun s c col f hc hcol hframe hclock hsilent hkind hused hactive =>
      ⟨_, execCellTransmit_of_silent f hcol hframe hclock hsilent hkind, cellColumn_missed_keeps hc rfl⟩,
    fun s c col f hc hcol hframe hnormal hclock hstage hkind hclosed =>
      ⟨_, execCellTransmit_of_normal f hcol hframe hclock hnormal hstage, ?closed⟩,
    fun s c col i f x hc hcol hframe hnormal hclock hstage hkind hopen hwaiting hi hx hhosts htdc hroom =>
      ⟨_, execCellTransmit_of_normal f hcol hframe hclock hnormal hstage, ?host⟩,
    fun s c k hc hk hwait hage => ⟨_, execHostMessageExpire_of_old hwait hage, ?expire⟩,
    fun s c k h => execHostMessageExpire_of_not_due h,
    fun s c k hc hk hdone hage => ⟨_, execSendSlotFree_of_old hdone hage, ?free⟩,
    fun s c k h => execSendSlotFree_of_open h⟩
  case cell =>
    obtain ⟨ch, cs, h, hlen, -, hself⟩ := noteErrors_keeps f.errors f.tec f.rec_ hc
    rw [if_neg (by rw [hkind]; decide), h]
    have hu : canCh { s with can := { s.can with ch := ch } } c = _ := hself
    have hc' : c < ({ s with can := { s.can with ch := ch } } : State).can.ch.length := hlen.symm ▸ hc
    rw [cellColumn_of_taken (s := { s with can := { s.can with ch := ch } })
      (x := (almanac s c).cell.getD (16 * (s.seq.frame / 10 % 64) + col) {}) rfl hused
      (by rw [hu]; exact hactive) hfree hlost hsent hsource, htdc, cellValue_canCh]
    obtain ⟨⟨cs', hnew⟩, hlog, hout, -⟩ := frameSent_keeps _ _ (length_canCount c 4 0 _ ▸ hc') rfl
    rw [canCh_canCount_self 4 0 hc', hu] at hnew hout
    exact ⟨congrArg CanCh.tec hnew, congrArg CanCh.rec_ hnew, hlog, hout⟩
  case closed =>
    obtain ⟨ch, cs, h, hlen, -, hself⟩ := noteErrors_keeps f.errors f.tec f.rec_ hc
    have hu : canCh { s with can := { s.can with ch := ch } } c = _ := hself
    rw [if_pos hkind, h, intercalaryOpen_canCh ((congrArg CanCh.state hu).trans rfl), hclosed,
      if_neg Bool.false_ne_true]
    exact ⟨(congrArg CanCh.slots hself).trans rfl, congrArg CanCh.tec hself, rfl, rfl⟩
  case host =>
    obtain ⟨ch, cs, h, hlen, -, hself⟩ := noteErrors_keeps f.errors f.tec f.rec_ hc
    have hu : canCh { s with can := { s.can with ch := ch } } c = _ := hself
    have hc' : c < ({ s with can := { s.can with ch := ch } } : State).can.ch.length := hlen.symm ▸ hc
    rw [if_pos hkind, h, intercalaryOpen_canCh ((congrArg CanCh.state hu).trans rfl), hopen, if_pos rfl,
      waitingSlots_canCh ((congrArg CanCh.slots hu).trans rfl), hwaiting, hhosts]
    have hv := canCh_canCount_self (s := { s with can := { s.can with ch := ch } }) 4 f.lost hc'
    have hcv := (length_canCount c 4 f.lost { s with can := { s.can with ch := ch } }).symm ▸ hc'
    rw [hu] at hv
    rw [hostSend_one htdc (x := x) ((congrArg (fun y : CanCh => y.slots.getD i {}) hv).trans hx.symm) hroom]
    have hw := canCh_updCan_self hcv (slotChanged i (slotDone .sent s.seq.frame))
    rw [hv] at hw
    have hcw : c < (updCan c (slotChanged i (slotDone .sent s.seq.frame)) (canCount c 4 f.lost
        { s with can := { s.can with ch := ch } })).can.ch.length := (length_upd _ _ _).symm ▸ hcv
    obtain ⟨⟨cs', hnew⟩, -, hout, hcx⟩ := frameSent_keeps 0xFFFF x.msg hcw rfl
    rw [hw] at hnew hout
    have hlast := canCh_canCount_self 14 1 hcx
    rw [hnew] at hlast
    refine ⟨(congrArg (fun y : CanCh => y.slots.getD i {}) hlast).trans ((getD_upd_self _ _ _ _ hi).trans ?_), hout⟩
    rw [← hx]
    rfl
  case expire =>
    have hself := canCh_updCan_self hc (slotChanged k (slotDone .expired s.seq.frame))
    have hcount := canCh_canCount_self (s := updCan c (slotChanged k (slotDone .expired s.seq.frame)) s) 15 1
      ((length_upd _ _ _).symm ▸ hc)
    rw [hself] at hcount
    refine ⟨(congrArg (fun y : CanCh => y.slots.getD k {}) hcount).trans (getD_upd_self _ _ _ _ hk),
      fun j hj => (congrArg (fun y : CanCh => y.slots.getD j {}) hcount).trans (getD_upd_ne _ _ _ _ _ hj.symm),
      fun d hd => canCh_updCan_twice_ne hd _ _ s, rfl, rfl⟩
  case free =>
    have hself := canCh_updCan_self hc (slotChanged k fun _ => {})
    rw [hself]
    exact ⟨getD_upd_self _ _ _ _ hk, fun j hj => getD_upd_ne _ _ _ _ _ hj.symm, rfl⟩

end Sys2Proof.Machine
end

section
/-! SUPPORT. The log writer, the queue that it empties and the announcements (R476, R559 to R562): what one record and
one pass of the writer change; settles O47. -/

namespace Sys2Proof.Machine

/-! One record of the open log (R559). -/

/-- Whether a record is announced as it is written (R561). -/
def announcedNow (e : Event) : Bool := isAnnounced e.code && !e.lastWords

/-- The record as it stands in the open log. -/
def numbered (e : Event) (s : State) : Event :=
  { e with seq := s.log.nextSeq, announced := announcedNow e || e.announced, inReserve := false }

/-- The open log that holds the record besides its own. -/
def recorded (e : Event) (s : State) : State := setLog (fun l => { l with
  nextSeq := (l.nextSeq + 1) % 4294967296, classCount := upd l.classCount (eventClass e.code) cnt
  ring := (numbered e s :: l.ring).take 131072 }) s

theorem writeRecord_of_open {s : State} (hopen : s.log.state = .isOpen) (e : Event) : writeRecord e s =
    if announcedNow e then announce (numbered e s) (recorded e s) else recorded e s := by
  unfold writeRecord
  dsimp only
  rw [hopen]
  have hwords : (decide (LogState.isOpen = .lastWordsOnly) || (announcedNow e && decide (LogState.isOpen ≠ .isOpen))) =
      false := by simp
  unfold announcedNow at hwords ⊢
  rw [hwords]
  rfl

/-- What `n` records leave of the state, whatever they are. -/
def Written (n : Nat) (s t : State) : Prop :=
  (t.log.state = s.log.state ∧ t.log.queue = s.log.queue ∧ t.log.taken = s.log.taken ∧
    t.log.droppedRun = s.log.droppedRun) ∧
  (t.log.lastWords = s.log.lastWords ∧ t.log.reserve = s.log.reserve) ∧
  (t.seq = s.seq ∧ t.heat = s.heat ∧ t.pow = s.pow ∧ t.sent = s.sent) ∧
  (s.log.nextSeq < 4294967296 → t.log.nextSeq = (s.log.nextSeq + n) % 4294967296) ∧
  (s.log.ring.length ≤ 131072 → t.log.ring.length = min 131072 (s.log.ring.length + n))

theorem written_writeRecord {s : State} (hopen : s.log.state = .isOpen) (e : Event) :
    Written 1 s (writeRecord e s) := by
  have hring : ((numbered e s :: s.log.ring).take 131072).length = min 131072 (s.log.ring.length + 1) := by
    rw [List.length_take, List.length_cons]
  rw [writeRecord_of_open hopen]
  split
  · exact ⟨⟨rfl, rfl, rfl, rfl⟩, ⟨rfl, rfl⟩, ⟨rfl, rfl, rfl, rfl⟩, fun _ => rfl, fun _ => hring⟩
  · exact ⟨⟨rfl, rfl, rfl, rfl⟩, ⟨rfl, rfl⟩, ⟨rfl, rfl, rfl, rfl⟩, fun _ => rfl, fun _ => hring⟩

/-- A pass that meets no failing write records its batch in its order. -/
theorem written_writeBatch {s : State} (hopen : s.log.state = .isOpen) (k : Nat) (l : List Event) :
    Written l.length s (writeBatch none k l s) := by
  induction l generalizing k s with
  | nil =>
    refine ⟨⟨rfl, rfl, rfl, rfl⟩, ⟨rfl, rfl⟩, ⟨rfl, rfl, rfl, rfl⟩, fun h => (Nat.mod_eq_of_lt h).symm, fun h => ?_⟩
    exact (Nat.min_eq_right h).symm
  | cons e l ih =>
    obtain ⟨⟨hstate, hqueue, htaken, hrun⟩, ⟨hwords, hreserve⟩, ⟨hseq, hheat, hpow, hsent⟩, hnext, hring⟩ :=
      written_writeRecord hopen e
    obtain ⟨⟨hstate', hqueue', htaken', hrun'⟩, ⟨hwords', hreserve'⟩, ⟨hseq', hheat', hpow', hsent'⟩, hnext', hring'⟩ :=
      ih (hstate.trans hopen) (k + 1)
    refine ⟨⟨hstate'.trans hstate, hqueue'.trans hqueue, htaken'.trans htaken, hrun'.trans hrun⟩,
      ⟨hwords'.trans hwords, hreserve'.trans hreserve⟩,
      ⟨hseq'.trans hseq, hheat'.trans hheat, hpow'.trans hpow, hsent'.trans hsent⟩, fun h => ?_, fun h => ?_⟩
    · have hn := hnext h
      refine (hnext' (by omega)).trans ?_
      rw [hn, List.length_cons]
      omega
    · have hr := hring h
      refine (hring' (by omega)).trans ?_
      rw [hr, List.length_cons]
      omega

/-! One pass of the writer. -/

/-- The state whose queue has given the writer what it may take in this frame. -/
def batchTaken (s : State) : State := setLog (fun l => { l with
  queue := l.queue.drop (16 - s.log.taken)
  taken := l.taken + (s.log.queue.take (16 - s.log.taken)).length }) s

theorem execLogWrite_of_open {s : State} (hcore : coreRuns s = true) (hopen : s.log.state = .isOpen)
    (hrun : s.log.droppedRun = 0) :
    execLogWrite none s = .next (writeBatch none 0 (s.log.queue.take (16 - s.log.taken)) (batchTaken s)) := by
  obtain ⟨⟨-, -, -, hsame⟩, -⟩ := written_writeBatch (s := batchTaken s) hopen 0 (s.log.queue.take (16 - s.log.taken))
  have hzero := hsame.trans hrun
  unfold execLogWrite
  dsimp only
  rw [hcore, hopen]
  unfold batchTaken at hzero ⊢
  rw [hzero]
  rfl

theorem execLogWrite_of_idle {s : State} (fail : Option (Nat × Nat)) (h : coreRuns s = false ∨ s.log.state = .opening) :
    execLogWrite fail s = .next s := by
  unfold execLogWrite
  refine congrArg Host.Outcome.next (if_pos ?_)
  rcases h with h | h
  · rw [h]
    rfl
  · rw [decide_eq_true h, Bool.or_true]

theorem execLogWrite_of_full {s : State} (fail : Option (Nat × Nat)) (htaken : 16 ≤ s.log.taken)
    (hrun : s.log.droppedRun = 0) : execLogWrite fail s = .next s := by
  unfold execLogWrite
  dsimp only
  rw [Nat.sub_eq_zero_of_le htaken, List.take_zero]
  unfold writeBatch setLog
  dsimp only
  refine congrArg Host.Outcome.next ((ite_congr rfl (fun _ => rfl) fun _ => ?_).trans (ite_self s))
  refine (if_neg ?_).trans ?_
  · simp [hrun]
  · rfl

theorem execLogWrite_of_one {s : State} {e : Event} (hcore : coreRuns s = true) (hopen : s.log.state = .isOpen)
    (hrun : s.log.droppedRun = 0) (hqueue : s.log.queue = [e]) (htaken : s.log.taken < 16) :
    execLogWrite none s = .next (writeRecord e (batchTaken s)) := by
  have htake : s.log.queue.take (16 - s.log.taken) = [e] := by
    rw [hqueue, List.take_of_length_le (by simp; omega)]
  rw [execLogWrite_of_open hcore hopen hrun, htake]
  rfl

/-! The queue and the announcement (R476, R562). -/

theorem logPost_of_room {l : Log} {e : Event} (h : l.queue.length < 1024) :
    (logPost l e).queue = l.queue ++ [e] ∧ (logPost l e).dropped = l.dropped := by
  rw [logPost, if_pos h]
  exact ⟨rfl, rfl⟩

theorem logPost_of_full {l : Log} {e : Event} (h : 1024 ≤ l.queue.length) : (logPost l e).queue = l.queue ∧
    (logPost l e).dropped = cnt l.dropped ∧ (logPost l e).droppedRun = l.droppedRun + 1 := by
  rw [logPost, if_neg (Nat.not_lt.2 h)]
  exact ⟨rfl, rfl, rfl⟩

theorem execAnnouncementExpiry_eq {s : State} {e : Event} {f : Nat} (h : s.log.announce = some (e, f)) :
    execAnnouncementExpiry s =
      .next (if f + 10000 ≤ s.seq.frame then { s with log := { s.log with announce := none } } else s) := by
  rw [execAnnouncementExpiry, h]
  rfl

theorem execAnnouncementExpiry_of_none {s : State} (h : s.log.announce = none) :
    execAnnouncementExpiry s = .next s := by
  unfold execAnnouncementExpiry
  rw [h]

/-- Settles O47: a pass moves the queue's first records to the ring, in order. -/
theorem logWriterMovesRecords : Obligations.LogWriterMovesRecords := by
  refine ⟨fun s hcore hopen hrun hring hnext => ⟨_, _, execLogWrite_of_open hcore hopen hrun, rfl, ?pass⟩,
    fun s e hcore hopen hqueue htaken hrun hplain hring =>
      ⟨_, execLogWrite_of_one hcore hopen hrun hqueue htaken, ?plain⟩,
    fun s e hcore hopen hqueue htaken hrun hann hword =>
      ⟨_, execLogWrite_of_one hcore hopen hrun hqueue htaken, ?announced⟩,
    fun s f htaken hrun => execLogWrite_of_full f htaken hrun, fun s f h => execLogWrite_of_idle f (.inr h),
    fun s f h => execLogWrite_of_idle f (.inl h), fun l e h => logPost_of_room h, fun l e h => logPost_of_full h,
    fun l e _ => rfl,
    fun s e f h hold => (execAnnouncementExpiry_eq h).trans (congrArg Host.Outcome.next (if_pos hold)),
    fun s e f h hyoung =>
      (execAnnouncementExpiry_eq h).trans (congrArg Host.Outcome.next (if_neg (Nat.not_le.2 hyoung))),
    fun s h => execAnnouncementExpiry_of_none h⟩
  case pass =>
    obtain ⟨⟨-, hqueue, htaken, -⟩, ⟨hwords, hreserve⟩, ⟨hseq, hheat, hpow, hsent⟩, hnext', hring'⟩ :=
      written_writeBatch (s := batchTaken s) hopen 0 (s.log.queue.take (16 - s.log.taken))
    rw [List.length_take] at hnext' hring'
    refine ⟨hqueue.trans ?_, htaken.trans ?_, hnext' hnext, hring' hring, hwords, hreserve, hseq, hheat, hpow, hsent⟩
    · exact List.drop_eq_drop_min
    · exact congrArg (s.log.taken + ·) List.length_take
  case plain =>
    have hann : announcedNow e = false := by rw [announcedNow, hplain, Bool.false_and]
    rw [writeRecord_of_open (s := batchTaken s) hopen, hann, if_neg Bool.false_ne_true]
    refine ⟨?_, rfl⟩
    have hfit : (numbered e (batchTaken s) :: s.log.ring).take 131072 = numbered e (batchTaken s) :: s.log.ring :=
      List.take_of_length_le hring
    refine hfit.trans ?_
    rw [numbered, hann, Bool.false_or]
    rfl
  case announced =>
    have hann' : announcedNow e = true := by rw [announcedNow, hann, hword]; rfl
    rw [writeRecord_of_open (s := batchTaken s) hopen, hann', if_pos rfl]
    refine ⟨?_, rfl⟩
    have hnum : numbered e (batchTaken s) = { e with seq := s.log.nextSeq, announced := true, inReserve := false } := by
      rw [numbered, hann', Bool.true_or]
      rfl
    rw [hnum]
    rfl

end Sys2Proof.Machine
end

section
/-! SUPPORT. The machine right after reset (R113, R142, R148, R503, R559): its lists hold one initial entry throughout;
settles O59. -/

namespace Sys2Proof.Machine

theorem forall_replicate {α : Type} {P : α → Prop} {a : α} (n : Nat) (h : P a) : ∀ x ∈ List.replicate n a, P x := by
  intro x hx
  rw [List.eq_of_mem_replicate hx]
  exact h

/-- Settles O59, field by field of the reset state. -/
theorem resetState : Obligations.ResetState := by
  refine ⟨rfl, rfl, rfl, rfl, rfl, rfl, List.length_replicate, forall_replicate 32768 ⟨rfl, rfl⟩, List.length_replicate,
    forall_replicate 2048 rfl, List.length_replicate, forall_replicate 256 ⟨rfl, rfl⟩, rfl, List.length_replicate,
    forall_replicate 512 rfl, ?_⟩
  refine ⟨List.length_replicate, forall_replicate 65 rfl, rfl, rfl, rfl, rfl, List.length_replicate,
    forall_replicate 512 rfl, List.length_replicate, forall_replicate 48 rfl, List.length_replicate,
    List.length_replicate, rfl, forall_replicate 24 rfl, List.length_replicate, forall_replicate 8 rfl, rfl, rfl, rfl,
    rfl, ⟨Nat.zero_le _, Nat.zero_le _⟩, rfl, rfl⟩

end Sys2Proof.Machine
end

section
/-! SUPPORT. Maintenance activities and windows (R567 to R577): what the end of an activity leaves, and when each of
them ends; settles O54. -/

namespace Sys2Proof.Machine

theorem activity_updActivity_self {i : Nat} {s : State} (hi : i < s.maint.activities.length) (f : Activity → Activity) :
    activity (updActivity i f s) i = f (activity s i) := getD_upd_self _ _ _ _ hi

theorem activity_updActivity_ne {i k : Nat} (h : k ≠ i) (f : Activity → Activity) (s : State) :
    activity (updActivity i f s) k = activity s k := getD_upd_ne _ _ _ _ _ h.symm

/-! The end of an activity (R573, R574). -/

/-- The code of the result that an activity shows in its last state. -/
def resultOf (st : ActState) : Nat := match st with
  | .complete => 1
  | .pass => 2
  | .fail => 3
  | .stopped => 4
  | _ => 5

/-- An activity that ended in `frame`. -/
def activityEnded (frame : Nat) (st : ActState) (cause : Nat) (y : Activity) : Activity :=
  { y with state := st, result := resultOf st, cause := cause, endFrame := frame, stroke := .none }

/-- The event of an activity's end. -/
def endEvent (i : Nat) (st : ActState) (cause : Nat) (s : State) : Event :=
  if st = .aborted then mkEvent s 0xF013 i 0xFFFF (leBytes 2 (activity s i).id ++ [cause])
  else mkEvent s 0xF011 i 0xFFFF (leBytes 2 (activity s i).id)

/-- What the end of a running activity leaves. -/
theorem endActivity_keeps {s : State} {i : Nat} (st : ActState) (cause : Nat) (hi : i < s.maint.activities.length)
    (hrun : (activity s i).state = .running) {t : State} (ht : endActivity i st cause s = t) :
    activity t i = activityEnded s.seq.frame st cause (activity s i) ∧
    t.maint.dropping = s.maint.dropping ++ [activity s i] ∧ t.log = logPost s.log (endEvent i st cause s) ∧
    (∀ k, k ≠ i → activity t k = activity s k) ∧ t = { s with maint := t.maint, log := t.log } := by
  have hprogress : inProgress (activity s i) = true := by rw [inProgress, hrun]; rfl
  have hself := activity_updActivity_self hi (activityEnded s.seq.frame st cause)
  have hother := fun k (hk : k ≠ i) => activity_updActivity_ne hk (activityEnded s.seq.frame st cause) s
  unfold endActivity at ht
  dsimp only at ht
  rw [hprogress, if_neg (by decide), if_pos hrun] at ht
  unfold endEvent
  subst ht
  split
  · exact ⟨hself, rfl, rfl, hother, rfl⟩
  · exact ⟨hself, rfl, rfl, hother, rfl⟩

/-- The state, the result and the detail of an activity that ended. -/
theorem endActivity_shows {s : State} {i : Nat} (st : ActState) (cause : Nat) (hi : i < s.maint.activities.length)
    (hrun : (activity s i).state = .running) :
    (activity (endActivity i st cause s) i).state = st ∧ (activity (endActivity i st cause s) i).result = resultOf st ∧
    (activity (endActivity i st cause s) i).endFrame = s.seq.frame ∧
    (activity (endActivity i st cause s) i).detail = (activity s i).detail := by
  obtain ⟨hself, -⟩ := endActivity_keeps st cause hi hrun rfl
  rw [hself]
  exact ⟨rfl, rfl, rfl, rfl⟩

/-! What an activity that does not run does. -/

section
variable {s : State} {i : Nat} (h : (activity s i).state ≠ .running)
include h

theorem execActivityEnd_of_not_running : execActivityEnd i s = .next s := congrArg Host.Outcome.next (if_pos h)

theorem execStrokeFlowCheck_of_not_running : execStrokeFlowCheck i s = .next s := by
  unfold execStrokeFlowCheck
  dsimp only
  rw [decide_eq_true h]
  rfl

theorem execStrokeValveClose_of_not_running : execStrokeValveClose i s = .next s := by
  unfold execStrokeValveClose
  dsimp only
  rw [decide_eq_false h]
  rfl

theorem execStrokeFloorTimeout_of_not_running : execStrokeFloorTimeout i s = .next s := by
  unfold execStrokeFloorTimeout
  dsimp only
  rw [decide_eq_false h]
  rfl

theorem execDrainFillEndPressure_of_not_running : execDrainFillEndPressure i s = .next s := by
  unfold execDrainFillEndPressure
  dsimp only
  rw [decide_eq_false h]
  rfl

theorem execSelfTestResult_of_not_running (wet : Bool) (x : Nat) : execSelfTestResult i wet x s = .next s := by
  unfold execSelfTestResult
  dsimp only
  rw [decide_eq_true h]
  rfl

theorem execFirmwareExchangeReport_of_not_running (v : Bool) (b : Nat) :
    execFirmwareExchangeReport i v b s = .next s := by
  unfold execFirmwareExchangeReport
  dsimp only
  rw [decide_eq_true h]
  rfl

end

/-! The ends of time and of the flush (R573). -/

/-- The state in which an activity's duration ends it, by its code. -/
def timedEnd (code : Nat) : ActState :=
  if code = 0 || code = 1 || code = 6 then .complete else if code = 4 || code = 5 then .fail else .aborted

section
variable {s : State} {i : Nat} (hrun : (activity s i).state = .running)
include hrun

theorem execActivityEnd_of_over (hover : (activity s i).durationS * 10000 ≤ s.seq.frame - (activity s i).startFrame)
    (hcode : (activity s i).code ≠ 7) : execActivityEnd i s =
      .next (endActivity i (timedEnd (activity s i).code) 0 s) := by
  have hdur : durationOver s (activity s i) = true := decide_eq_true hover
  unfold execActivityEnd timedEnd
  dsimp only
  rw [if_neg (not_not_intro hrun), decide_eq_false hcode, hdur]
  refine congrArg Host.Outcome.next ?_
  rw [Bool.false_and, if_neg Bool.false_ne_true, Bool.not_true, if_neg Bool.false_ne_true]
  split
  · rfl
  · split <;> rfl

theorem execActivityEnd_of_flush (hcode : (activity s i).code = 7) (hover : flushOver s (activity s i) = true) :
    execActivityEnd i s = .next (endActivity i .complete 0 s) := by
  unfold execActivityEnd
  dsimp only
  rw [if_neg (not_not_intro hrun), hcode, hover]
  rfl

end

/-! The entry of an activity that ended (R574). -/

theorem execActivityEntryFree_of_old {s : State} {i : Nat}
    (hended : (activity s i).state ∈ [.complete, .pass, .fail, .stopped, .aborted])
    (hage : (activity s i).endFrame + 100000 ≤ s.seq.frame) :
    execActivityEntryFree i s = .next (updActivity i (fun _ => {}) s) := by
  have hdone : ((activity s i).state ≠ .free && !(inProgress (activity s i))) = true := by
    unfold inProgress
    revert hended
    cases (activity s i).state <;> decide
  unfold execActivityEntryFree
  dsimp only
  rw [hdone, decide_eq_true hage]
  rfl

theorem execActivityEntryFree_of_young {s : State} {i : Nat} (h : s.seq.frame < (activity s i).endFrame + 100000) :
    execActivityEntryFree i s = .next s := by
  unfold execActivityEntryFree
  dsimp only
  rw [decide_eq_false (Nat.not_le.2 h), Bool.and_false]
  rfl

/-! The stroke test (R576, R577). -/

section
variable {s : State} {i : Nat} (hrun : (activity s i).state = .running) (hcode : (activity s i).code = 2)

theorem strokeChannel_eq_supply {a : Activity} (h : a.stroke = .toFloor ∨ a.stroke = .supplyOpening) (s : State) :
    strokeChannel s a = (loopCfg s (a.target % 32)).supplyValve := by
  rcases h with h | h <;> simp [strokeChannel, h]

include hrun hcode

/-- An activity whose loop has reached its floor. -/
def atFloor (frame : Nat) (y : Activity) : Activity :=
  { y with stroke := if y.stroke = .toFloor then .supplyClosing else .returnClosing, stepFrame := frame }

theorem execStrokeValveClose_of_floor (hstroke : (activity s i).stroke = .toFloor)
    (hsum : (loopP s ((activity s i).target % 32)).capSum ≤ (loopP s ((activity s i).target % 32)).floorSum) :
    execStrokeValveClose i s = .next (classOne (loopCfg s ((activity s i).target % 32)).supplyValve false
      (updActivity i (atFloor s.seq.frame) s)) := by
  unfold execStrokeValveClose
  dsimp only
  rw [hrun, hcode, hstroke, decide_eq_true hsum, strokeChannel_eq_supply (.inl hstroke)]
  rfl

theorem execStrokeFlowCheck_of_opening (hstroke : (activity s i).stroke = .returnOpening ∨
    (activity s i).stroke = .supplyOpening) : execStrokeFlowCheck i s = .next (strokeOpening i s) := by
  unfold execStrokeFlowCheck
  dsimp only
  rw [hrun, hcode]
  rcases hstroke with h | h
  · rw [h]
    rfl
  · rw [h]
    rfl

theorem execStrokeFloorTimeout_eq (hstroke : (activity s i).stroke = .toFloor) : execStrokeFloorTimeout i s =
    .next (if 20000 ≤ s.seq.frame - (activity s i).startFrame then endActivity i .aborted 0 s else s) := by
  unfold execStrokeFloorTimeout ranFrames
  dsimp only
  rw [hrun, hcode, hstroke]
  simp

end

theorem execStrokeValveClose_of_above {s : State} {i : Nat}
    (h : (loopP s ((activity s i).target % 32)).floorSum < (loopP s ((activity s i).target % 32)).capSum) :
    execStrokeValveClose i s = .next s := by
  unfold execStrokeValveClose
  dsimp only
  rw [decide_eq_false (Nat.not_le.2 h), Bool.and_false]
  rfl

section
variable {s : State} {i : Nat} {v : Int}
  (hflow : sensorValue s (loopCfg s ((activity s i).target % 32)).flow = some v)
include hflow

theorem strokeOpening_of_return (hstroke : (activity s i).stroke = .returnOpening)
    (hstep : (activity s i).stepFrame < s.seq.frame) (hback : (activity s i).flowMean ≤ 2 * v) :
    strokeOpening i s = endActivity i .pass 0 s := by
  unfold strokeOpening
  dsimp only
  rw [hflow, if_neg (Nat.not_le.2 hstep), hstroke]
  simp [hback]

theorem strokeOpening_of_supply (hstroke : (activity s i).stroke = .supplyOpening)
    (hstep : (activity s i).stepFrame < s.seq.frame) (hback : (activity s i).flowMean ≤ 2 * v) :
    strokeOpening i s = updActivity i (fun y => { y with stroke := .returnDue, stepFrame := s.seq.frame }) s := by
  unfold strokeOpening
  dsimp only
  rw [hflow, if_neg (Nat.not_le.2 hstep), hstroke]
  simp [hback]

theorem strokeOpening_of_late (hlow : 2 * v < (activity s i).flowMean)
    (hlate : (activity s i).stepFrame + 100001 ≤ s.seq.frame) : strokeOpening i s = strokeFail i 2 s := by
  unfold strokeOpening
  dsimp only
  rw [hflow, if_neg (by omega), if_pos hlate]
  simp [Int.not_le.2 hlow]

theorem strokeOpening_of_waiting (hlow : 2 * v < (activity s i).flowMean)
    (hwait : s.seq.frame < (activity s i).stepFrame + 100001) : strokeOpening i s = s := by
  unfold strokeOpening
  dsimp only
  rw [hflow, if_neg (Nat.not_le.2 hwait)]
  simp [Int.not_le.2 hlow]

end

/-! Drain and fill, and self tests (R573). -/

theorem execDrainFillEndPressure_of_drain {s : State} {i : Nat} (hrun : (activity s i).state = .running)
    (hcode : (activity s i).code = 4) (hlen : (activity s i).samples.length = 10000) : execDrainFillEndPressure i s =
      .next (if (activity s i).samples.sum ≤ 20000 * ((activity s i).target / 2 ^ 11 % 65536 : Nat) then
        endActivity i .complete 0 s else s) := by
  unfold execDrainFillEndPressure
  dsimp only
  rw [hrun, hcode, hlen]
  simp

/-- An activity that holds the bytes of a report. -/
def detailTaken (d : List Nat) (y : Activity) : Activity := { y with detail := d }

theorem execSelfTestResult_of_running {s : State} {i : Nat} (wet : Bool) (x : Nat)
    (hrun : (activity s i).state = .running) (hcode : (activity s i).code = 3) : execSelfTestResult i wet x s =
      .next (if wet && (96 ≤ (activity s i).target % 256 ||
            locatedWell (sensorCfg s ((activity s i).target % 256)) x) &&
          s.seq.frame - (activity s i).startFrame ≤ 20000 then
        endActivity i .pass 0 (updActivity i (detailTaken (leBytes 2 x)) s)
      else post 0xF017 (endActivity i .fail 0 (updActivity i (detailTaken (leBytes 2 x)) s)) i
        ((activity s i).target % 256)) := by
  unfold execSelfTestResult ranFrames
  dsimp only
  rw [hrun, hcode]
  rfl

theorem execFirmwareExchangeReport_of_running {s : State} {i : Nat} (v : Bool) (b : Nat)
    (hrun : (activity s i).state = .running) (hcode : (activity s i).code = 8) : execFirmwareExchangeReport i v b s =
      .next (if v then post 0xF018 (endActivity i .pass 0 (updActivity i (detailTaken (leBytes 4 b)) s)) i
        else post 0xF019 (endActivity i .fail 0 (updActivity i (detailTaken (leBytes 4 b)) s)) i) := by
  unfold execFirmwareExchangeReport
  dsimp only
  rw [hrun, hcode]
  rfl

/-- The end of an activity whose report has been taken. -/
theorem reportedEnd_keeps {s : State} {i : Nat} (d : List Nat) (st : ActState) (hi : i < s.maint.activities.length)
    (hrun : (activity s i).state = .running) {t : State}
    (ht : endActivity i st 0 (updActivity i (detailTaken d) s) = t) :
    (activity t i).state = st ∧ (activity t i).result = resultOf st ∧ (activity t i).detail = d ∧
    (st ≠ .aborted → t.log = logPost s.log (mkEvent s 0xF011 i 0xFFFF (leBytes 2 (activity s i).id))) ∧
    t = { s with maint := t.maint, log := t.log } := by
  have htaken := activity_updActivity_self hi (detailTaken d)
  have hlen : i < (updActivity i (detailTaken d) s).maint.activities.length := (length_upd _ _ _).symm ▸ hi
  obtain ⟨hself, -, hlog, -, hframe⟩ := endActivity_keeps st 0 hlen (by rw [htaken]; exact hrun) ht
  rw [hself, htaken]
  refine ⟨rfl, rfl, rfl, fun hst => ?_, hframe⟩
  rw [hlog, endEvent, if_neg hst, htaken]
  rfl

/-! Maintenance windows (R567). -/

theorem execMaintWindowTimeout_of_old {s : State} {w : Nat} (hopen : (s.maint.windows.getD w {}).isOpen = true)
    (hage : (s.maint.windows.getD w {}).openFrame + 864000000 ≤ s.seq.frame) : execMaintWindowTimeout w s =
      .next (post 0xF016 { s with maint := { s.maint with windows := upd s.maint.windows w fun _ => {} } } w) := by
  unfold execMaintWindowTimeout closeWindow
  rw [if_pos hage, if_pos hopen]

theorem execMaintWindowTimeout_of_young {s : State} {w : Nat}
    (h : s.seq.frame < (s.maint.windows.getD w {}).openFrame + 864000000) : execMaintWindowTimeout w s = .next s :=
  congrArg Host.Outcome.next (if_neg (Nat.not_le.2 h))

/-- Settles O54: each activity ends as its rule says, with its result and its event. -/
theorem maintenanceActivitiesEnd : Obligations.MaintenanceActivitiesEnd := by
  refine ⟨fun s i st c hi hrun => ?ends,
    fun s i h => ⟨execActivityEnd_of_not_running h, execStrokeFlowCheck_of_not_running h,
      execStrokeValveClose_of_not_running h, execStrokeFloorTimeout_of_not_running h,
      execDrainFillEndPressure_of_not_running h, fun w x => execSelfTestResult_of_not_running h w x,
      fun v b => execFirmwareExchangeReport_of_not_running h v b⟩,
    fun s i hi hrun hover hcode => ?timed, fun s i hi hrun hcode hover => ?flush,
    fun s i hended hage hi => ⟨_, execActivityEntryFree_of_old hended hage, activity_updActivity_self hi _,
      fun k hk => activity_updActivity_ne hk _ s, rfl⟩,
    fun s i h => execActivityEntryFree_of_young h,
    fun s i hi hrun hcode hstroke hsum hch => ⟨_, execStrokeValveClose_of_floor hrun hcode hstroke hsum, ?close⟩,
    fun s i h => execStrokeValveClose_of_above h,
    fun s i v hi hrun hcode hstep hstroke hflow hback => ?passed,
    fun s i v hi hrun hcode hstep hstroke hflow hback => ?supply,
    fun s i v hi hrun hcode hstroke hflow hlow => ⟨fun hlate => ?late, fun hwait => ?waiting⟩,
    fun s i hi hrun hcode hstroke => ⟨fun hlong => ?floor, fun hshort => ?toFloor⟩,
    fun s i hi hrun hcode hlen => ⟨fun hlow => ?drained, fun hhigh => ?draining⟩,
    fun s i x hi hrun hcode hfloat hsoon => ⟨_, execSelfTestResult_of_running true x hrun hcode, ?wet⟩,
    fun s i x hi hrun hcode => ⟨_, execSelfTestResult_of_running false x hrun hcode, ?dry⟩,
    fun s i b v hi hrun hcode => ⟨_, execFirmwareExchangeReport_of_running v b hrun hcode, ?report⟩,
    fun s w hw hopen hage => ⟨_, execMaintWindowTimeout_of_old hopen hage, ?window, rfl, rfl⟩,
    fun s w h => execMaintWindowTimeout_of_young h⟩
  case ends =>
    obtain ⟨hself, hdrop, hlog, hother, -⟩ := endActivity_keeps st c hi hrun rfl
    refine ⟨resultOf st, hself, hdrop, fun h => by rw [h]; rfl, fun h => by rw [h]; rfl, fun h => by rw [h]; rfl,
      fun h => by rw [h]; rfl, fun h => ⟨by rw [h]; rfl, ?_⟩, fun h => ?_, hother⟩
    · rw [hlog, endEvent, if_pos h]
    · rw [hlog, endEvent, if_neg h]
  case timed =>
    obtain ⟨hself, hdrop, -⟩ := endActivity_keeps (timedEnd (activity s i).code) 0 hi hrun rfl
    refine ⟨_, timedEnd (activity s i).code, execActivityEnd_of_over hrun hover hcode, rfl,
      congrArg Activity.state hself, congrArg Activity.endFrame hself, hdrop, fun h => ?_, fun h => ?_, fun h => ?_⟩
    · rcases h with h | h | h <;> rw [h] <;> rfl
    · rcases h with h | h <;> rw [h] <;> rfl
    · rcases h with h | h | h <;> rw [h] <;> rfl
  case flush =>
    obtain ⟨hstate, hresult, -⟩ := endActivity_shows .complete 0 hi hrun
    exact ⟨_, execActivityEnd_of_flush hrun hcode hover, rfl, hstate, hresult⟩
  case close =>
    have hself := activity_updActivity_self hi (atFloor s.seq.frame)
    refine ⟨(congrArg Activity.stroke hself).trans ?_, congrArg Activity.stepFrame hself, ?_, rfl⟩
    · exact if_pos hstroke
    · exact congrArg ValveCh.c1 (vch_updCh_self (s := updActivity i (atFloor s.seq.frame) s) _ hch)
  case passed =>
    obtain ⟨hstate, hresult, -⟩ := endActivity_shows .pass 0 hi hrun
    refine ⟨_, (execStrokeFlowCheck_of_opening hrun hcode (.inl hstroke)).trans ?_, rfl, hstate, hresult⟩
    rw [strokeOpening_of_return hflow hstroke hstep hback]
  case supply =>
    refine ⟨_, (execStrokeFlowCheck_of_opening hrun hcode (.inr hstroke)).trans ?_,
      activity_updActivity_self hi (fun y => { y with stroke := .returnDue, stepFrame := s.seq.frame }), rfl⟩
    rw [strokeOpening_of_supply hflow hstroke hstep hback]
  case late =>
    obtain ⟨hstate, hresult, -⟩ := endActivity_shows .fail 0 hi hrun
    refine ⟨_, (execStrokeFlowCheck_of_opening hrun hcode (.inr hstroke)).trans ?_, rfl, hstate, hresult⟩
    rw [strokeOpening_of_late hflow hlow hlate, strokeFail, strokeChannel_eq_supply (.inr hstroke)]
  case waiting =>
    exact (execStrokeFlowCheck_of_opening hrun hcode (.inr hstroke)).trans
      (congrArg Host.Outcome.next (strokeOpening_of_waiting hflow hlow hwait))
  case floor =>
    obtain ⟨hstate, hresult, -⟩ := endActivity_shows .aborted 0 hi hrun
    exact ⟨_, (execStrokeFloorTimeout_eq hrun hcode hstroke).trans (congrArg Host.Outcome.next (if_pos hlong)), rfl,
      hstate, hresult⟩
  case toFloor =>
    exact (execStrokeFloorTimeout_eq hrun hcode hstroke).trans
      (congrArg Host.Outcome.next (if_neg (Nat.not_le.2 hshort)))
  case drained =>
    obtain ⟨hstate, hresult, -⟩ := endActivity_shows .complete 0 hi hrun
    exact ⟨_, (execDrainFillEndPressure_of_drain hrun hcode hlen).trans (congrArg Host.Outcome.next (if_pos hlow)),
      rfl, hstate, hresult⟩
  case draining =>
    exact (execDrainFillEndPressure_of_drain hrun hcode hlen).trans
      (congrArg Host.Outcome.next (if_neg (Int.not_le.2 hhigh)))
  case wet =>
    obtain ⟨hstate, hresult, hdetail, -, hframe⟩ := reportedEnd_keeps (leBytes 2 x) .pass hi hrun rfl
    rw [if_pos (by simp [hfloat, hsoon])]
    exact ⟨hstate, hresult, hdetail, hframe⟩
  case dry =>
    rw [Bool.false_and, Bool.false_and, if_neg Bool.false_ne_true]
    generalize hu : endActivity i .fail 0 _ = u
    obtain ⟨hstate, hresult, -, hlog, hframe⟩ := reportedEnd_keeps (leBytes 2 x) .fail hi hrun hu
    have hlog' := hlog nofun
    have hevent : mkEvent u 0xF017 i ((activity s i).target % 256) [] =
        mkEvent s 0xF017 i ((activity s i).target % 256) [] := by
      refine mkEvent_congr ?_ ?_ ?_ ?_ _ _ _ _
      · rw [hframe]; rfl
      · rw [hframe]; rfl
      · rw [hframe]
      · rw [hlog', logPost_boot]
    refine ⟨hstate, hresult, ?_⟩
    rw [← hlog', ← hevent]
    rfl
  case report =>
    cases v with
    | true =>
      rw [if_pos rfl]
      generalize hu : endActivity i .pass 0 _ = u
      obtain ⟨hstate, -, hdetail, -, hframe⟩ := reportedEnd_keeps (leBytes 4 b) .pass hi hrun hu
      refine ⟨hstate, hdetail, ?_⟩
      rw [hframe]
      rfl
    | false =>
      rw [if_neg Bool.false_ne_true]
      generalize hu : endActivity i .fail 0 _ = u
      obtain ⟨hstate, -, hdetail, -, hframe⟩ := reportedEnd_keeps (leBytes 4 b) .fail hi hrun hu
      refine ⟨hstate, hdetail, ?_⟩
      rw [hframe]
      rfl
  case window => exact congrArg MaintWindow.isOpen (getD_upd_self _ _ _ _ hw)

end Sys2Proof.Machine
end

section
/-! SUPPORT. The management ports, their addresses and the sessions on them (R536, R579 to R586): what the end of a
session leaves, and who is admitted; settles O55. -/

namespace Sys2Proof.Machine

theorem ethPort_updEth_self {p : Nat} {s : State} (hp : p < s.mgmt.ports.length) (f : EthPort → EthPort) :
    ethPort (updEth p f s) p = f (ethPort s p) := getD_upd_self _ _ _ _ hp

/-! The end of a session (R581). -/

/-- The update in force once session `i` has ended. -/
def updateWithout (i : Nat) (s : State) : Option ImageUpdate := match s.mgmt.update with
  | some u => if u.session = i then none else some u
  | none => none

/-- The state without the upload of session `i`. -/
def withoutUpdate (i : Nat) (s : State) : State := match s.mgmt.update with
  | some u => if u.session = i then endUpdate s else s
  | none => s

/-- The state without the certificate that session `i` brings in parts. -/
def withoutCert (i : Nat) (s : State) : State := match s.sec.certParts with
  | some (j, _) => if j = i then setSec (fun c => { c with certParts := none }) s else s
  | none => s

/-- Whether an arrival that waits is a request of session `i`. -/
def ofSession (i : Nat) : Arrival → Bool
  | .request q => decide (q.hdr.session = i)
  | .points .. => false

theorem withoutUpdate_eq (i : Nat) (s : State) : ∃ k, withoutUpdate i s =
    { s with mgmt := { s.mgmt with update := updateWithout i s }, key := k } ∧ (s.mgmt.update = none → k = s.key) := by
  unfold withoutUpdate updateWithout
  cases hu : s.mgmt.update with
  | none => exact ⟨s.key, congrArg (fun o => { s with mgmt := { s.mgmt with update := o } }) hu, fun _ => rfl⟩
  | some u =>
    dsimp only
    by_cases hmine : u.session = i
    · rw [if_pos hmine, if_pos hmine]
      exact ⟨_, rfl, nofun⟩
    · rw [if_neg hmine, if_neg hmine]
      exact ⟨s.key, congrArg (fun o => { s with mgmt := { s.mgmt with update := o } }) hu, nofun⟩

theorem withoutCert_eq (i : Nat) (s : State) :
    ∃ c, withoutCert i s = { s with sec := c } ∧ (s.sec.certParts = none → c = s.sec) := by
  unfold withoutCert
  cases hc : s.sec.certParts with
  | none => exact ⟨s.sec, rfl, fun _ => rfl⟩
  | some p =>
    dsimp only
    split
    · exact ⟨_, rfl, nofun⟩
    · exact ⟨s.sec, rfl, nofun⟩

theorem closeSession_eq {s : State} {i : Nat} (cause : Nat) (hopen : (session s i).isOpen = true) :
    closeSession i cause s = post 0x0011 (updSession i (fun _ => {}) (setMgmt (fun m => { m with
      waiting := m.waiting.filter fun x => !(ofSession i x) }) (withoutCert i (withoutUpdate i s)))) i 0xFFFF [cause] :=
  if_pos hopen

/-- An open session that ends: its entry is cleared, and its upload and its waiting requests end with it. -/
theorem closeSession_of_open {s : State} {i : Nat} (cause : Nat) (hopen : (session s i).isOpen = true) :
    ∃ m c k, closeSession i cause s =
      post 0x0011 (updSession i (fun _ => {}) { s with mgmt := m, sec := c, key := k }) i 0xFFFF [cause] ∧
      m.sessions = s.mgmt.sessions ∧ m.update = updateWithout i s ∧ (s.mgmt.update = none → k = s.key) ∧
      (s.sec.certParts = none → c = s.sec) := by
  obtain ⟨k, hk, hkey⟩ := withoutUpdate_eq i s
  obtain ⟨c, hc, hsec⟩ := withoutCert_eq i (withoutUpdate i s)
  rw [closeSession_eq cause hopen, hc, hk]
  rw [hk] at hsec
  exact ⟨_, c, k, rfl, rfl, rfl, hkey, hsec⟩

theorem closeSession_of_closed {s : State} {i : Nat} (cause : Nat) (hclosed : (session s i).isOpen = false) :
    closeSession i cause s = s := if_neg (by rw [hclosed]; nofun)

theorem sessions_closeSession (i cause : Nat) (s : State) : (closeSession i cause s).mgmt.sessions =
    if (session s i).isOpen then upd s.mgmt.sessions i (fun _ => {}) else s.mgmt.sessions := by
  cases hopen : (session s i).isOpen with
  | false => rw [closeSession_of_closed cause hopen]; rfl
  | true =>
    obtain ⟨m, c, k, h, hsessions, -⟩ := closeSession_of_open cause hopen
    rw [h, ← hsessions]
    rfl

theorem session_closeSession_ne {i j : Nat} (h : j ≠ i) (cause : Nat) (s : State) :
    session (closeSession i cause s) j = session s j := by
  unfold session
  rw [sessions_closeSession]
  split
  · exact getD_upd_ne _ _ _ _ _ h.symm
  · rfl

theorem session_closeSession_self {s : State} {i : Nat} (cause : Nat) (hopen : (session s i).isOpen = true) :
    session (closeSession i cause s) i = {} := by
  unfold session
  rw [sessions_closeSession, if_pos hopen, getD_upd_self _ _ _ _ (lt_of_isOpen hopen)]

/-- What the end of a session leaves of the rest. -/
theorem closeSession_log {s : State} {i : Nat} (cause : Nat) (hopen : (session s i).isOpen = true) :
    (closeSession i cause s).log = logPost s.log (mkEvent s 0x0011 i 0xFFFF [cause]) ∧
    (closeSession i cause s).mgmt.update = updateWithout i s ∧
    (s.mgmt.update = none → s.sec.certParts = none → closeSession i cause s =
      { s with mgmt := (closeSession i cause s).mgmt, log := (closeSession i cause s).log }) := by
  obtain ⟨m, c, k, h, -, hupdate, hkey, hsec⟩ := closeSession_of_open cause hopen
  rw [h]
  refine ⟨rfl, hupdate, fun hu hc => ?_⟩
  rw [hkey hu, hsec hc]
  rfl

/-! A port without its link (R579). -/

/-- Every open session of a port ends with the port's link. -/
theorem session_closePort_self {s : State} {p i : Nat} (cause : Nat) (hi : i < 8) (hport : (session s i).port = p)
    (hopen : (session s i).isOpen = true) : session (closePort p cause s) i = {} := by
  have hcleared (t : State) (j : Nat) (ht : session t i = {}) : session (closeSession j cause t) i = {} := by
    rcases Decidable.em (i = j) with rfl | hij
    · rw [closeSession_of_closed cause (by rw [ht]), ht]
    · rw [session_closeSession_ne hij, ht]
  unfold closePort
  refine foldl_reaches (P := fun t => session t i = {}) (Q := fun t => session t i = session s i ∨ session t i = {})
    (fun t j ht => ?_) (fun t j _ ht => ?_) (fun t ht => ?_) (List.mem_range.2 hi) (.inl rfl)
  · split
    · rcases ht with ht | ht
      · rcases Decidable.em (i = j) with rfl | hij
        · exact .inr (session_closeSession_self cause (by rw [ht, hopen]))
        · exact .inl ((session_closeSession_ne hij cause t).trans ht)
      · exact .inr (hcleared t j ht)
    · exact ht
  · split
    · exact hcleared t j ht
    · exact ht
  · rcases ht with ht | ht
    · rw [if_pos (by rw [ht, hport])]
      exact session_closeSession_self cause (by rw [ht, hopen])
    · split
      · exact hcleared t i ht
      · exact ht

theorem session_closePort_other {s : State} {p i : Nat} (cause : Nat) (hport : (session s i).port ≠ p) :
    session (closePort p cause s) i = session s i := by
  unfold closePort
  refine foldl_rel (R := fun t u => (session t i).port ≠ p → session u i = session t i) (fun _ _ => rfl)
    (fun t u w htu huw ht => ?_) (fun t j ht => ?_) _ s hport
  · exact (huw (by rw [htu ht]; exact ht)).trans (htu ht)
  · split
    case isTrue hj => exact session_closeSession_ne (fun hij => ht (by rw [hij]; exact hj)) cause t
    case isFalse => rfl

/-- A port that has lost its link. -/
def bareEth (x : EthPort) : EthPort :=
  { x with linkUp := false, linkLocal := false, ipv4 := 0, prefixLen := 0, addressed := false }

theorem linkDown_of_up {s : State} {p : Nat} (h : (ethPort s p).linkUp = true) :
    linkDown p s = post 0x0003 (closePort p 3 (updEth p bareEth s)) p := by
  unfold linkDown
  exact if_pos h

theorem linkDown_of_down {s : State} {p : Nat} (h : (ethPort s p).linkUp = false) : linkDown p s = s := by
  unfold linkDown
  exact if_neg (by rw [h]; nofun)

/-! Addresses (R580). -/

section
variable {s : State} {p : Nat}

theorem execEthLinkUp_of_down (hp : p < 2) (hcore : coreRuns s = true) (hdomain : domainOn s (118 + p) = true)
    (hdown : (ethPort s p).linkUp = false) : execEthLinkUp p s =
      .next (send (.dhcp p (dhcpClient p)) (post 0x0002 (updEth p (fun x =>
        { x with linkUp := true, upNs := rowNs s, askNs := rowNs s }) s) p)) := by
  unfold execEthLinkUp
  rw [decide_eq_true hp, hcore, hdomain, hdown]
  rfl

theorem execEthLinkUp_of_not_due (h : (ethPort s p).linkUp = true ∨ domainOn s (118 + p) = false) :
    execEthLinkUp p s = .next s := by
  unfold execEthLinkUp
  refine congrArg Host.Outcome.next (if_neg ?_)
  rcases h with h | h
  · simp [h]
  · simp [h]

theorem execDhcpLease_of_up (a n : Nat) (hcore : coreRuns s = true) (hup : (ethPort s p).linkUp = true) :
    execDhcpLease p a n s = .next (takeAddress p a n false s) := by
  rw [execDhcpLease, hcore, hup]
  rfl

/-- A port that holds an address. -/
def addressTaken (a n : Nat) (local_ : Bool) (y : EthPort) : EthPort :=
  { y with ipv4 := a, prefixLen := n, linkLocal := local_, addressed := true }

/-- What an address leaves of its port; the sessions stay when the port had the address. -/
theorem takeAddress_keeps (a n : Nat) (local_ : Bool) (hp : p < s.mgmt.ports.length) {t : State}
    (ht : takeAddress p a n local_ s = t) :
    ethPort t p = addressTaken a n local_ (ethPort s p) ∧ t.mgmt.ports.length = s.mgmt.ports.length ∧
    ((ethPort s p).addressed = true → (ethPort s p).ipv4 = a → t.log = s.log ∧
      t.mgmt.sessions = s.mgmt.sessions) := by
  unfold takeAddress at ht
  dsimp only at ht
  by_cases hsame : ((ethPort s p).addressed && (ethPort s p).ipv4 = a) = true
  · rw [if_pos hsame] at ht
    obtain ⟨haddr, hip⟩ := Bool.and_eq_true_iff.1 hsame
    have hself := ethPort_updEth_self hp (fun y => { y with linkLocal := local_, prefixLen := n })
    subst ht
    refine ⟨hself.trans ?_, length_upd _ _ _, fun _ _ => ⟨rfl, rfl⟩⟩
    rw [addressTaken, ← haddr, ← of_decide_eq_true hip]
  · rw [if_neg hsame] at ht
    have hports := ports_closePort p 4 s
    have hself := getD_upd_self (closePort p 4 s).mgmt.ports p (addressTaken a n local_) {} (by rw [hports]; exact hp)
    subst ht
    refine ⟨hself.trans ?_, (length_upd _ _ _).trans (congrArg List.length hports), fun haddr hip => ?_⟩
    · rw [hports]
      rfl
    · exact absurd (by rw [haddr, decide_eq_true hip]; rfl) hsame

theorem execLinkLocalFallback_of_due {a : Nat} (hcore : coreRuns s = true) (hup : (ethPort s p).linkUp = true)
    (hbare : (ethPort s p).addressed = false) (hage : (ethPort s p).upNs + 10000000000 ≤ rowNs s)
    (ha : linkLocalAddress a = true) : execLinkLocalFallback p a s =
      .next (updEth p (fun y => { y with askNs := rowNs s }) (takeAddress p a 16 true s)) := by
  unfold execLinkLocalFallback
  dsimp only
  rw [hcore, hup, hbare, decide_eq_true hage, ha]
  rfl

theorem execLinkLocalFallback_of_addressed (a : Nat) (h : (ethPort s p).addressed = true) :
    execLinkLocalFallback p a s = .next s := by
  unfold execLinkLocalFallback
  refine congrArg Host.Outcome.next (if_neg ?_)
  simp [h]

theorem execDhcpRetry_of_due (hcore : coreRuns s = true) (hup : (ethPort s p).linkUp = true)
    (hlocal : (ethPort s p).linkLocal = true) (hage : (ethPort s p).askNs + 60000000000 ≤ rowNs s) : execDhcpRetry p s =
      .next (send (.dhcp p (dhcpClient p)) (updEth p (fun y => { y with askNs := rowNs s }) s)) := by
  unfold execDhcpRetry
  dsimp only
  rw [hcore, hup, hlocal, decide_eq_true hage]
  rfl

theorem execDhcpRetry_of_early (h : rowNs s < (ethPort s p).askNs + 60000000000) : execDhcpRetry p s = .next s := by
  unfold execDhcpRetry
  dsimp only
  rw [decide_eq_false (Nat.not_le.2 h), Bool.and_false]
  rfl

end


/-- A port that has discarded frames beyond its limit, and tagged ones. -/
def flooded (frames tagged : Nat) (x : EthPort) : EthPort :=
  { x with floodDrops := satAdd 32 x.floodDrops (frames - 20000), taggedDrops := satAdd 32 x.taggedDrops tagged }

theorem execEthFloodDiscard_eq (p n g : Nat) (s : State) :
    execEthFloodDiscard p n g s = .next (updEth p (flooded n g) s) := rfl

/-! Clients (R536, R581). -/

/-- Whether a client's first message finds its port with an address. -/
def reachable (s : State) (f : ClientFacts) : Bool :=
  coreRuns s && (ethPort s f.port).linkUp && (ethPort s f.port).addressed

theorem execTlsSessionOpen_of_full {s : State} {f : ClientFacts} (hreach : reachable s f = true)
    (hfull : s.mgmt.sessions.findIdx? (fun x => !x.isOpen) = none) : execTlsSessionOpen f s =
      .next (postRun 0x0012 (mgmtCount 0 (send (.tcpReset false) s))) := by
  unfold reachable at hreach
  unfold execTlsSessionOpen
  rw [hreach, hfull]
  rfl

/-- The judgement of a client with a TLS connection, in the free entry `i`. -/
theorem execTlsSessionOpen_of_free {s : State} {f : ClientFacts} {i : Nat} (hreach : reachable s f = true)
    (hfree : s.mgmt.sessions.findIdx? (fun x => !x.isOpen) = some i) (hrandom : s.sec.drbgOk = true)
    (htls : f.tlsOk = true) (hlife : lifeCycle s = .enrolled) : execTlsSessionOpen f s =
      .next (if clientRefused s f ≠ 0 then post 0xE020 (secCount 0 s) 0xFFFF 0xFFFF [clientRefused s f]
        else if wallValid s then admitClient i (((f.units.filterMap unitRole)[0]?).getD .none) f s
        else post 0xE021 (admitClient i (((f.units.filterMap unitRole)[0]?).getD .none) f s) i) := by
  have hbare : bareCycle s = false := by rw [bareCycle, hlife]; rfl
  unfold reachable at hreach
  unfold execTlsSessionOpen
  rw [hreach, hfree, hrandom, htls, hbare]
  rfl

theorem clientRefused_of_good {s : State} {f : ClientFacts} {u : Nat} {r : SessRole} (hcert : f.hasCert = true)
    (hcerts : f.certs ≤ 4) (hbytes : f.chainBytes ≤ 8192) (hroot : f.rootHash = s.sec.fuses.ownerKeyHash)
    (hsign : f.signaturesOk = true) (hvalid : f.inValidity = true) (hunits : f.units = [u])
    (hrole : unitRole u = some r) : clientRefused s f = 0 ∧ ((f.units.filterMap unitRole)[0]?).getD .none = r := by
  have hroles : f.units.filterMap unitRole = [r] := by rw [hunits]; simp [hrole]
  unfold clientRefused
  rw [hcert, hroot, hsign, hvalid, hroles]
  refine ⟨?_, rfl⟩
  simp [Nat.not_lt.2 hcerts, Nat.not_lt.2 hbytes]

theorem clientRefused_of_root {s : State} {f : ClientFacts} (h : f.rootHash ≠ s.sec.fuses.ownerKeyHash) :
    clientRefused s f ≠ 0 := by
  unfold clientRefused
  split
  · decide
  · split
    · decide
    · rw [decide_eq_true h, Bool.true_or, if_pos rfl]
      decide

theorem admitClient_keeps {s : State} {i : Nat} (r : SessRole) (f : ClientFacts) (hi : i < s.mgmt.sessions.length) :
    (session (admitClient i r f s) i).isOpen = true ∧ (session (admitClient i r f s) i).role = r ∧
    (session (admitClient i r f s) i).port = f.port ∧ (session (admitClient i r f s) i).lastNs = rowNs s ∧
    (session (admitClient i r f s) i).subs = [] := by
  have hself : session (admitClient i r f s) i = _ := session_updSession_self _ hi
  rw [hself]
  exact ⟨rfl, rfl, rfl, rfl, rfl⟩

/-! Silence, bad messages and the keys of a session (R581, R586). -/

theorem execSessionIdleClose_of_silent {s : State} {i : Nat} (hopen : (session s i).isOpen = true)
    (hupdate : s.mgmt.update = none) (hage : (session s i).lastNs + 60000000000 ≤ rowNs s) :
    execSessionIdleClose i s = .next (closeSession i 1 s) := by
  unfold execSessionIdleClose
  rw [hopen, hupdate, decide_eq_true hage]
  rfl

theorem execSessionIdleClose_of_recent {s : State} {i : Nat} (h : rowNs s < (session s i).lastNs + 60000000000) :
    execSessionIdleClose i s = .next s := by
  unfold execSessionIdleClose
  dsimp only
  rw [decide_eq_false (Nat.not_le.2 h), Bool.and_false]
  rfl

theorem served_of_open {s : State} {i : Nat} (hcore : coreRuns s = true) (hopen : (session s i).isOpen = true) :
    served s i = true := by rw [served, hcore, hopen]; rfl

theorem execMalformedMessage_of_header {s : State} {i : Nat} (m : Nat) (hserved : served s i = true) :
    execMalformedMessage i m true s = .next (closeSession i 5 s) := by
  rw [execMalformedMessage, hserved]
  rfl

theorem session_carry_self {s : State} {i : Nat} (size : Nat) (hi : i < s.mgmt.sessions.length) :
    session (carry i size s) i = { session s i with
      messages := cnt (session s i).messages, lastNs := rowNs s, bytesIn := (session s i).bytesIn + size } :=
  session_updSession_self _ hi

/-- A message on a session that owes no answer is answered at once. -/
theorem onMessage_answered {s : State} {i : Nat} (msgId size code : Nat) (hi : i < s.mgmt.sessions.length)
    (hout : (session s i).outbox = []) : onMessage i msgId size (errorAnswer i msgId code) s =
      put i (.message i (errorMsg s msgId code)) (carry i size s) := by
  have hroom : queueFull s i = false := by rw [queueFull, hout]; rfl
  have hempty : (session (carry i size s) i).outbox.isEmpty = true := by rw [session_carry_self size hi, hout]; rfl
  unfold onMessage errorAnswer answer
  rw [hroom, if_neg Bool.false_ne_true, if_pos hempty]
  rfl

theorem execMalformedMessage_of_body {s : State} {i : Nat} (m : Nat) (hserved : served s i = true)
    (hi : i < s.mgmt.sessions.length) (hout : (session s i).outbox = []) : execMalformedMessage i m false s =
      .next (put i (.message i (errorMsg s m 0x80)) (carry i 16 s)) := by
  rw [execMalformedMessage, hserved, ← onMessage_answered m 16 0x80 hi hout]
  rfl

theorem execTlsKeyUpdate_of_bytes {s : State} {i : Nat} (hserved : served s i = true)
    (hbytes : 2 ^ 30 ≤ (session s i).bytesIn ∨ 2 ^ 30 ≤ (session s i).bytesOut) : execTlsKeyUpdate i s =
      .next (send (.keyUpdate i)
        (updSession i (fun y => { y with bytesIn := 0, bytesOut := 0, keyNs := rowNs s }) s)) := by
  have hmax : 2 ^ 30 ≤ max (session s i).bytesIn (session s i).bytesOut := by omega
  unfold execTlsKeyUpdate
  dsimp only
  rw [hserved, decide_eq_true hmax]
  rfl

theorem execTlsKeyUpdate_of_young {s : State} {i : Nat} (hin : (session s i).bytesIn < 2 ^ 30)
    (hout : (session s i).bytesOut < 2 ^ 30) (hage : rowNs s < (session s i).keyNs + 3600000000000) :
    execTlsKeyUpdate i s = .next s := by
  unfold execTlsKeyUpdate
  dsimp only
  rw [decide_eq_false (Nat.not_le.2 (Nat.max_lt.mpr ⟨hin, hout⟩)), decide_eq_false (Nat.not_le.2 hage), Bool.or_false,
    Bool.and_false]
  rfl

/-- Settles O55: a port gains and loses its link and its address, and a session its client. -/
theorem portsAndSessions : Obligations.PortsAndSessions := by
  refine ⟨fun s p hp hlen hcore hdomain hdown =>
      ⟨_, execEthLinkUp_of_down hp hcore hdomain hdown, ethPort_updEth_self hlen _, rfl, rfl, rfl⟩,
    fun s p h => execEthLinkUp_of_not_due h, fun s p hp' _ hup => ⟨linkDown p s, rfl, ?linkDown⟩,
    fun s p h => congrArg Host.Outcome.next (linkDown_of_down h),
    fun s p a n hp hcore hup => ⟨_, execDhcpLease_of_up a n hcore hup, ?lease⟩,
    fun s p a hp hcore hup hbare hage ha => ⟨_, execLinkLocalFallback_of_due hcore hup hbare hage ha, ?fallback⟩,
    fun s p a h => execLinkLocalFallback_of_addressed a h,
    fun s p hp hcore hup hlocal hage =>
      ⟨_, execDhcpRetry_of_due hcore hup hlocal hage, ethPort_updEth_self hp _, rfl, rfl⟩,
    fun s p h => execDhcpRetry_of_early h, fun s p n g hp => ⟨_, execEthFloodDiscard_eq p n g s, ?flood⟩,
    fun s f i u r hcore hup haddr hfree hrandom htls hlife hcert hcerts hbytes hroot hsign hwall hvalid hunits hrole =>
      ?admitted,
    fun s f hcore hup haddr hfull => ?full,
    fun s f i hcore hup haddr hfree hrandom htls hlife hroot => ?refused,
    fun s i hopen hupdate hcert hage => ⟨_, execSessionIdleClose_of_silent hopen hupdate hage,
      session_closeSession_self 1 hopen, fun k hk => session_closeSession_ne hk 1 s, ?idle⟩,
    fun s i h => execSessionIdleClose_of_recent h,
    fun s i hopen => ⟨closeSession i 2 s, rfl, session_closeSession_self 2 hopen,
      fun k hk => session_closeSession_ne hk 2 s, ?closed⟩,
    fun s i h => congrArg Host.Outcome.next (closeSession_of_closed 2 h),
    fun s i m hcore hopen hout => ⟨⟨_, execMalformedMessage_of_header m (served_of_open hcore hopen),
      session_closeSession_self 5 hopen⟩,
      ⟨_, execMalformedMessage_of_body m (served_of_open hcore hopen) (lt_of_isOpen hopen) hout, rfl, ?answered, rfl⟩⟩,
    fun s i hcore hopen hbytes => ⟨_, execTlsKeyUpdate_of_bytes (served_of_open hcore hopen) hbytes,
      session_updSession_self _ (lt_of_isOpen hopen), rfl, rfl⟩,
    fun s i hin hout hage => execTlsKeyUpdate_of_young hin hout hage⟩
  case linkDown =>
    rw [linkDown_of_up hup]
    have hport : ethPort (closePort p 3 (updEth p bareEth s)) p = bareEth (ethPort s p) :=
      (congrArg (fun l => l.getD p {}) (ports_closePort p 3 (updEth p bareEth s))).trans (ethPort_updEth_self hp' _)
    have hmine := fun i hi => session_closePort_self (s := updEth p bareEth s) (p := p) (i := i) 3 hi
    have hother := fun i => session_closePort_other (s := updEth p bareEth s) (p := p) (i := i) 3
    generalize closePort p 3 (updEth p bareEth s) = u at hport hmine hother ⊢
    have hports : ethPort (post 0x0003 u p) p = ethPort u p := rfl
    rw [hports, hport]
    exact ⟨rfl, rfl, hmine, fun i _ => hother i⟩
  case lease =>
    obtain ⟨hself, -, hsame⟩ := takeAddress_keeps a n false hp rfl
    rw [hself]
    exact ⟨rfl, rfl, rfl, .inr rfl, hsame⟩
  case fallback =>
    obtain ⟨hself, hlen, -⟩ := takeAddress_keeps a 16 true hp rfl
    have hask := ethPort_updEth_self (hlen.symm ▸ hp) (fun y => { y with askNs := rowNs s })
    rw [hself] at hask
    rw [hask]
    exact ⟨rfl, rfl, rfl, rfl, rfl⟩
  case flood =>
    rw [ethPort_updEth_self hp]
    exact ⟨rfl, rfl, rfl⟩
  case admitted =>
    have hreach : reachable s f = true := by rw [reachable, hcore, hup, haddr]; rfl
    obtain ⟨hpass, hrole'⟩ := clientRefused_of_good (s := s) hcert hcerts hbytes hroot hsign hvalid hunits hrole
    obtain ⟨hi, -⟩ := List.findIdx?_eq_some_iff_getElem.1 hfree
    obtain ⟨hopen, hr, hport, hns, hsubs⟩ := admitClient_keeps r f hi
    refine ⟨admitClient i r f s, (execTlsSessionOpen_of_free hreach hfree hrandom htls hlife).trans ?_, hopen, hr,
      hport, hns, hsubs, fun k hk => session_updSession_ne _ s hk, rfl, rfl⟩
    rw [hpass, if_neg (not_not_intro rfl), if_pos hwall, hrole']
  case full =>
    have hreach : reachable s f = true := by rw [reachable, hcore, hup, haddr]; rfl
    have hnone : s.mgmt.sessions.findIdx? (fun x => !x.isOpen) = none :=
      List.findIdx?_eq_none_iff.2 fun x hx => by rw [hfull x hx]; rfl
    refine ⟨_, execTlsSessionOpen_of_full hreach hnone, ?_⟩
    rw [postRun_eq]
    exact ⟨rfl, rfl, rfl⟩
  case refused =>
    have hreach : reachable s f = true := by rw [reachable, hcore, hup, haddr]; rfl
    refine ⟨_, (execTlsSessionOpen_of_free hreach hfree hrandom htls hlife).trans
      (congrArg Host.Outcome.next (if_pos (clientRefused_of_root hroot))), rfl, rfl, rfl⟩
  case idle =>
    obtain ⟨hlog, -, hframe⟩ := closeSession_log 1 hopen
    exact ⟨hlog, hframe hupdate hcert⟩
  case closed =>
    obtain ⟨hlog, hupdate, -⟩ := closeSession_log 2 hopen
    refine ⟨hlog, fun u hu hmine => ?_, fun u hu hother => ?_⟩
    · rw [hupdate, updateWithout, hu]
      exact if_pos hmine
    · rw [hupdate, updateWithout, hu]
      exact if_neg hother
  case answered =>
    have hi := lt_of_isOpen hopen
    have hcarried := session_carry_self (s := s) 16 hi
    have hself : session (put i (.message i (errorMsg s m 0x80)) (carry i 16 s)) i = _ :=
      session_updSession_self _ ((length_upd _ _ _).symm ▸ hi)
    rw [hself, hcarried]
    exact hopen

end Sys2Proof.Machine
end

section
/-! SUPPORT. Requests that act where they are judged, and the update of the copy that is not selected (R109, R602):
settles O53. -/

namespace Sys2Proof.Machine

/-! A request that acts at once. -/

/-- A request of the owner role passes the header checks on a session of that role. -/
theorem headerPasses_of_owner {s : State} {h : ReqHdr} {b : ReqBody} (hkind : ownerKind b = true)
    (hrole : (session s h.session).role = .owner) (hplain : h.tenantAuth = false) : headerPasses s h b := by
  have hkeyed : tenantKeyed b = false ∧ enrolKind b = false ∧ namesTenant b = false := by
    revert hkind
    cases b <;> simp [ownerKind, tenantKeyed, enrolKind, namesTenant]
  obtain ⟨hkeyed, henrol, hnames⟩ := hkeyed
  have hfacility : facilityKind b = false := by simp [facilityKind, hkind]
  refine ⟨?_, ?_, ?_, ?_, ?_⟩
  · simp [mayRequest, henrol, hkeyed, hkind, hplain, hrole]
  · simp [hkeyed, hfacility]
  · simp [hnames]
  · simp [hplain]
  · simp [hplain, hfacility]

theorem admitted_of_plain {q : Request} (s : State) (h : q.hdr.tenantAuth = false) : admitted q s = received q s := by
  rw [admitted_eq, h]
  rfl

theorem arrive_of_actNow {q : Request} {s u : State} {r : Nat} {data : List Nat} (hnow : arrivesNow s q.hdr.session)
    (hheader : headerPasses s q.hdr q.body) (hact : actNow q.hdr q.body (admitted q s) = some (r, data, u)) :
    arrive q s = respond q.hdr r (if r = 0 then s.seq.frame else 0) data u := by
  rw [arrive_of_now hnow]
  simp only [judge, received_eq, commonCheck_of_headerPasses (lt_of_isOpen hnow.2.1) hheader, hact]
  rfl

/-- An answer adds itself to what the module has sent, and acts on its session alone. -/
theorem Judging.exists_answeredOn {q : Request} {s u : State} (h : Judging q s u) (code effect : Nat)
    (data : List Nat) : ∃ l, answeredOn q.hdr code effect data u = { u with
      mgmt := { u.mgmt with sessions := l }
      sent := .message q.hdr.session (requestResp s q.hdr code effect data) :: s.sent } := by
  obtain ⟨l, heq⟩ := answeredOn_eq q.hdr code effect data u
  have hresp : requestResp u q.hdr code effect data = requestResp s q.hdr code effect data := by
    simp only [requestResp, frameStamp, h.seq]
  exact ⟨l, by rw [heq, hresp, h.sent]⟩

theorem arrive_of_acting {q : Request} {s u : State} {r : Nat} {data : List Nat} (hnow : arrivesNow s q.hdr.session)
    (hheader : headerPasses s q.hdr q.body) (hact : actNow q.hdr q.body (admitted q s) = some (r, data, u))
    (hjudging : Judging q s u) : ∃ l, arrive q s = { u with
      mgmt := { u.mgmt with sessions := l }
      sent := .message q.hdr.session (requestResp s q.hdr r (if r = 0 then s.seq.frame else 0) data) :: s.sent } := by
  rw [arrive_of_actNow hnow hheader hact, hjudging.respond_eq hnow]
  exact hjudging.exists_answeredOn _ _ _

/-! The two copies. -/

@[simp] theorem copyBytes_setCopy_self (c : Copy) (bs : List Byte) (k : Key) : copyBytes (setCopy c bs k) c = bs := by
  cases c <;> rfl

@[simp] theorem copyBytes_setCopy_other (c : Copy) (bs : List Byte) (k : Key) :
    copyBytes (setCopy (otherCopy c) bs k) c = copyBytes k c := by
  cases c <;> rfl

theorem setCopy_keeps (c : Copy) (bs : List Byte) (k : Key) {k' : Key} (hk : setCopy c bs k = k') :
    k'.otherState = k.otherState ∧ k'.lost = k.lost ∧ k'.selected = k.selected := by
  subst hk
  cases c <;> exact ⟨rfl, rfl, rfl⟩

theorem otherState_setStatus (c : Copy) (x : CopyStatus) (k : Key) : (setStatus c x k).otherState = k.otherState := by
  cases c <;> rfl

/-! The steps of an update. -/

section
variable {s : State} {h : ReqHdr} {u : ImageUpdate} {c : Copy}

/-- The erase of the copy that is not selected has begun. -/
def eraseBegun (h : ReqHdr) (c : Copy) (n : Nat) (s : State) : State := { s with
  mgmt := { s.mgmt with update := some { session := h.session, msgId := h.msgId, length := n, lastNs := rowNs s } }
  key := setCopy (otherCopy c) [] { s.key with otherState := 0 } }

theorem imageBegin_of_selected (n : Nat) (hsel : s.key.selected = some c) : imageBegin h n s = eraseBegun h c n s := by
  simp [imageBegin, updateCopy, hsel, eraseBegun]

/-- Bytes written in their order. -/
def bytesWritten (u : ImageUpdate) (c : Copy) (o : Nat) (bs : List Byte) (s : State) : State := { s with
  mgmt := { s.mgmt with update := some { u with lastNs := rowNs s, next := o + bs.length } }
  key := setCopy (otherCopy c) (copyBytes s.key (otherCopy c) ++ bs) s.key }

/-- A message of an update that leads to nothing but its time. -/
def updateHeard (u : ImageUpdate) (s : State) : State :=
  { s with mgmt := { s.mgmt with update := some { u with lastNs := rowNs s } } }

/-- The copy closed by IMAGE_END, its bytes not written erased. -/
def copyClosed (u : ImageUpdate) (c : Copy) (f : CopyFacts) (s : State) : State := { s with
  mgmt := { s.mgmt with update := none }
  key := setFacts (otherCopy c) f (setCopy (otherCopy c)
    (copyBytes s.key (otherCopy c) ++ List.replicate (u.length - u.next) (255 : Byte)) s.key) }

/-- The copy of an update that verified, with its event. -/
def copyVerified (c : Copy) (r : CopyCheck) (s : State) : State :=
  post 0x300A { s with key := setStatus c (statusOf r) { s.key with otherState := 3 } }

/-- The copy of an update that did not. -/
def copyRefused (c : Copy) (r : CopyCheck) (s : State) : State :=
  copyFails c (statusOf r) { s with key := { s.key with otherState := 2 } }

section
variable (hu : s.mgmt.update = some u) (hsession : u.session = h.session) (herase : u.erasing = false)
  (hsel : s.key.selected = some c)
include hu hsession herase hsel

theorem imageWrite_of_next {o : Nat} {bs : List Byte} (hne : bs ≠ []) (hlen : bs.length ≤ 4000) (hnext : o = u.next)
    (hfits : o + bs.length ≤ u.length) : imageWrite h o bs s = (0, bytesWritten u c o bs s) := by
  simp [imageWrite, updateCopy, hu, hsel, hsession, herase, hne, hnext, Nat.not_lt.mpr hlen,
    Nat.not_lt.mpr (hnext ▸ hfits), bytesWritten]

theorem imageWrite_of_other {o : Nat} (bs : List Byte) (hnext : o ≠ u.next) :
    imageWrite h o bs s = (3, updateHeard u s) := by
  simp [imageWrite, updateCopy, hu, hsel, hsession, herase, hnext, updateHeard]

theorem imageEnd_of_update (f : CopyFacts) {v : State} (hv : v = copyClosed u c f s) {r : CopyCheck}
    (hr : r = verifyCopy (otherCopy c) v) : imageEnd h f s =
      if r.reason = 0 then (0, [0], copyVerified (otherCopy c) r v)
      else (2, [r.reason], copyRefused (otherCopy c) r v) := by
  subst hr hv
  simp only [imageEnd, updateCopy, hu, hsel, hsession, herase, Option.map_some]
  rw [if_neg (by simp)]
  rfl

end

theorem imageBeginCheck_of_length {n : Nat} (hn : n < 256 ∨ 67108864 < n) : imageBeginCheck s n = 3 := by
  simp [imageBeginCheck, hn]

theorem imageBeginCheck_of_busy {n : Nat} (hlo : 256 ≤ n) (hhi : n ≤ 67108864) (hu : s.mgmt.update ≠ none) :
    imageBeginCheck s n = 7 := by
  simp [imageBeginCheck, Nat.not_lt.mpr hlo, Nat.not_lt.mpr hhi, Option.isSome_iff_ne_none.mpr hu]

end

/-! The messages of an update. -/

section
variable {s : State} {h : ReqHdr}

theorem noteResult'_of_owner {b : ReqBody} (hkind : ownerKind b = true) (hplain : h.tenantAuth = false) (ok : Bool)
    (t : State) : noteResult' ok h b t = t := by
  have hnames : namesTenant b = false := by
    revert hkind
    cases b <;> simp [ownerKind, tenantKeyed, namesTenant]
  simp [noteResult', countedTenant, hplain, hnames]

theorem plain_of_owner {b : ReqBody} (hkind : ownerKind b = true) (hheader : headerPasses s h b) :
    h.tenantAuth = false := by
  have hkeyed : tenantKeyed b = false ∧ enrolKind b = false := by
    revert hkind
    cases b <;> simp [ownerKind, tenantKeyed, enrolKind]
  obtain ⟨hkeyed, henrol⟩ := hkeyed
  obtain ⟨hmay, -⟩ := hheader
  simp [mayRequest, henrol, hkeyed, hkind] at hmay
  exact hmay.1

/-- IMAGE_BEGIN is not answered before its erase is complete. -/
theorem arrive_imageBegin {n : Nat} {c : Copy} (hacc : accepts s ⟨h, .imageBegin n⟩) (hsel : s.key.selected = some c) :
    arrive ⟨h, .imageBegin n⟩ s = eraseBegun h c n (received ⟨h, .imageBegin n⟩ s) := by
  have hplain : h.tenantAuth = false := plain_of_owner (b := .imageBegin n) rfl hacc.2.1
  rw [judge_of_accepted hacc rfl, admitted_of_plain s hplain]
  exact (noteResult'_of_owner (b := .imageBegin n) rfl hplain _ _).trans (imageBegin_of_selected n hsel)

theorem copyBytes_keyRestored (s : State) (c : Copy) : copyBytes (keyRestored s).key c = copyBytes s.key c := by
  cases c <;> rfl

theorem eraseBegun_keeps {q : Request} {c : Copy} {n : Nat} (hnow : arrivesNow s q.hdr.session) {t : State}
    (ht : eraseBegun q.hdr c n (received q s) = t) :
    t.key.lost = s.key.lost ∧ (session t q.hdr.session).outbox = [{ msgId := q.hdr.msgId }] ∧
      t.mgmt.update =
        some { session := q.hdr.session, msgId := q.hdr.msgId, length := n, lastNs := rowNs s } ∧
      copyBytes t.key (otherCopy c) = [] ∧ copyBytes t.key c = copyBytes s.key c ∧ t.key.otherState = 0 ∧
      t = { s with mgmt := t.mgmt, key := t.key } := by
  obtain ⟨hother, hlost, -⟩ := setCopy_keeps (otherCopy c) [] { s.key with otherState := 0 } rfl
  have hbox := outbox_received hnow
  subst ht
  refine ⟨hlost, hbox, rfl, copyBytes_setCopy_self _ _ _, ?_, hother, rfl⟩
  refine (copyBytes_setCopy_other _ _ _).trans ?_
  cases c <;> rfl

section
variable {u : ImageUpdate} {c : Copy} (hnow : arrivesNow s h.session) (hrole : (session s h.session).role = .owner)
  (hplain : h.tenantAuth = false) (hlen : h.lengthOk = true) (hu : s.mgmt.update = some u)
  (hsession : u.session = h.session) (herase : u.erasing = false) (hsel : s.key.selected = some c)
include hnow hrole hplain hlen hu hsession herase hsel

theorem arrive_imageWrite_of_next {o : Nat} {bs : List Byte} (hne : bs ≠ []) (hmax : bs.length ≤ 4000)
    (hnext : o = u.next) (hfits : o + bs.length ≤ u.length) {v : State} (hv : v = received ⟨h, .imageWrite o bs⟩ s) :
    ∃ l, arrive ⟨h, .imageWrite o bs⟩ s = { bytesWritten u c o bs v with
      mgmt := { (bytesWritten u c o bs v).mgmt with sessions := l }
      sent := .message h.session (requestResp s h 0 s.seq.frame []) :: s.sent } := by
  subst hv
  refine arrive_of_acting (q := ⟨h, .imageWrite o bs⟩) (r := 0) (data := []) hnow
    (headerPasses_of_owner (b := .imageWrite o bs) rfl hrole hplain) ?_ ⟨rfl, rfl, rfl, rfl, rfl⟩
  rw [admitted_of_plain s hplain]
  simp only [actNow, hlen, imageWrite_of_next (s := received ⟨h, .imageWrite o bs⟩ s) hu hsession herase hsel hne hmax
    hnext hfits]
  rfl

theorem arrive_imageWrite_of_other {o : Nat} {bs : List Byte} (hnext : o ≠ u.next) {v : State}
    (hv : v = received ⟨h, .imageWrite o bs⟩ s) :
    ∃ l, arrive ⟨h, .imageWrite o bs⟩ s = { updateHeard u v with
      mgmt := { (updateHeard u v).mgmt with sessions := l }
      sent := .message h.session (requestResp s h 3 0 []) :: s.sent } := by
  subst hv
  refine arrive_of_acting (q := ⟨h, .imageWrite o bs⟩) (r := 3) (data := []) hnow
    (headerPasses_of_owner (b := .imageWrite o bs) rfl hrole hplain) ?_ ⟨rfl, rfl, rfl, rfl, rfl⟩
  rw [admitted_of_plain s hplain]
  simp only [actNow, hlen, imageWrite_of_other (s := received ⟨h, .imageWrite o bs⟩ s) hu hsession herase hsel bs hnext]
  rfl

theorem arrive_imageEnd_of_good (f : CopyFacts) {v : State} (hv : v = copyClosed u c f (received ⟨h, .imageEnd f⟩ s))
    {r : CopyCheck} (hr : r = verifyCopy (otherCopy c) v) (hgood : r.reason = 0) :
    ∃ l, arrive ⟨h, .imageEnd f⟩ s = { copyVerified (otherCopy c) r v with
      mgmt := { (copyVerified (otherCopy c) r v).mgmt with sessions := l }
      sent := .message h.session (requestResp s h 0 s.seq.frame [0]) :: s.sent } := by
  refine arrive_of_acting (q := ⟨h, .imageEnd f⟩) (r := 0) (data := [0]) hnow
    (headerPasses_of_owner (b := .imageEnd f) rfl hrole hplain) ?_ (by subst hv; exact ⟨rfl, rfl, rfl, rfl, rfl⟩)
  rw [admitted_of_plain s hplain]
  simp only [actNow, hlen, imageEnd_of_update (s := received ⟨h, .imageEnd f⟩ s) hu hsession herase hsel f hv hr,
    if_pos hgood]
  rfl

theorem arrive_imageEnd_of_bad (f : CopyFacts) {v : State} (hv : v = copyClosed u c f (received ⟨h, .imageEnd f⟩ s))
    {r : CopyCheck} (hr : r = verifyCopy (otherCopy c) v) (hbad : r.reason ≠ 0) :
    ∃ l, arrive ⟨h, .imageEnd f⟩ s = { copyRefused (otherCopy c) r v with
      mgmt := { (copyRefused (otherCopy c) r v).mgmt with sessions := l }
      sent := .message h.session (requestResp s h 2 0 [r.reason]) :: s.sent } := by
  refine arrive_of_acting (q := ⟨h, .imageEnd f⟩) (r := 2) (data := [r.reason]) hnow
    (headerPasses_of_owner (b := .imageEnd f) rfl hrole hplain) ?_ (by subst hv; exact ⟨rfl, rfl, rfl, rfl, rfl⟩)
  rw [admitted_of_plain s hplain]
  simp only [actNow, hlen, imageEnd_of_update (s := received ⟨h, .imageEnd f⟩ s) hu hsession herase hsel f hv hr,
    if_neg hbad]
  rfl

end

end

/-! The erase's end, and the update's time. -/

section
variable {s : State} {u : ImageUpdate}

/-- The erase of an update is complete. -/
def eraseDone (u : ImageUpdate) (s : State) : State :=
  updSession u.session (fun x => { x with lastNs := rowNs s })
    (setMgmt (fun m => { m with update := some { u with erasing := false, lastNs := rowNs s } }) s)

theorem execImageEraseComplete_of_erasing (hu : s.mgmt.update = some u) (herase : u.erasing = true)
    (hout : (session s u.session).outbox = [{ msgId := u.msgId }]) :
    execImageEraseComplete s =
      .next (answeredOn { session := u.session, msgId := u.msgId } 0 s.seq.frame [] (eraseDone u s)) := by
  have hi : u.session < s.mgmt.sessions.length := by
    refine Classical.byContradiction fun hge => ?_
    rw [session, getD_of_length_le _ _ (Nat.not_lt.mp hge)] at hout
    exact absurd hout (by simp)
  have hself : session (eraseDone u s) u.session = { session s u.session with lastNs := rowNs s } :=
    (session_updSession_self _ (by exact hi)).trans rfl
  simp only [execImageEraseComplete, hu, herase]
  refine congrArg Host.Outcome.next (respond_of_outbox (t := eraseDone u s) ?_ _ _ _)
  rw [hself]
  exact hout

theorem answered_eraseDone_keeps {h : ReqHdr} {code effect : Nat} {data : List Nat} {t : State}
    (ht : answeredOn h code effect data (eraseDone u s) = t) :
    t.mgmt.update = some { u with erasing := false, lastNs := rowNs s } ∧
      t.sent = .message h.session (requestResp s h code effect data) :: s.sent ∧ t.key = s.key := by
  have hresp : requestResp (eraseDone u s) h code effect data = requestResp s h code effect data := rfl
  obtain ⟨l, heq⟩ := answeredOn_eq h code effect data (eraseDone u s)
  subst ht
  rw [heq, hresp]
  exact ⟨rfl, rfl, rfl⟩

theorem execImageUpdateTimeout_of_silent (hu : s.mgmt.update = some u) (herase : u.erasing = false)
    (hlast : u.lastNs + 60000000000 ≤ rowNs s) : execImageUpdateTimeout s = .next (endUpdate s) := by
  simp [execImageUpdateTimeout, hu, herase, hlast]

theorem execImageUpdateTimeout_of_not_due (hu : s.mgmt.update = some u)
    (h : u.erasing = true ∨ rowNs s < u.lastNs + 60000000000) : execImageUpdateTimeout s = .next s := by
  rcases h with h | h <;> simp [execImageUpdateTimeout, hu, h, Nat.not_le.mpr]

end

/-- Settles O53: the update's state, and the bytes of the copy that is not selected. -/
theorem imageUpdateErasesWritesAndVerifies : Obligations.ImageUpdateErasesWritesAndVerifies := by
  refine ⟨?_, ?_, ?_, ?_, ?_, ?_, ?_, ?_, ?_⟩
  · intro s h n c answers hacc hsel
    cases answers with
    | false =>
      have hkeeps := eraseBegun_keeps (q := ⟨h, .imageBegin n⟩) (c := c) (n := n) hacc.1 rfl
      obtain ⟨-, hbox, hupdate, herased, hkept, hstate, heq⟩ := hkeeps
      refine ⟨_, congrArg Host.Outcome.next (arrive_imageBegin (s := s) hacc hsel), by simp, hbox, hupdate, herased,
        hkept, hstate, heq⟩
    | true =>
      have hkeeps := eraseBegun_keeps (s := keyRestored s) (q := ⟨h, .imageBegin n⟩) (c := c) (n := n) hacc.1 rfl
      obtain ⟨hlost, hbox, hupdate, herased, hkept, hstate, heq⟩ := hkeeps
      refine ⟨_, congrArg Host.Outcome.next (arrive_imageBegin (s := keyRestored s) hacc hsel), fun _ => hlost, hbox,
        hupdate, herased, hkept.trans (copyBytes_keyRestored s c), hstate, heq⟩
  · intro s u hu herase hout
    exact ⟨_, execImageEraseComplete_of_erasing hu herase hout, answered_eraseDone_keeps rfl⟩
  · intro s hu
    simp [exec, execImageEraseComplete, execImageUpdateTimeout, hu]
  · intro s h u c o bs hnow hrole hplain hlen hu hsession herase hsel hne hmax hnext hfits
    obtain ⟨l, harrive⟩ := arrive_imageWrite_of_next hnow hrole hplain hlen hu hsession herase hsel hne hmax hnext
      hfits rfl
    refine ⟨_, congrArg Host.Outcome.next harrive, rfl, ?_, ?_, rfl, rfl⟩
    · exact copyBytes_setCopy_self _ _ _
    · exact copyBytes_setCopy_other _ _ _
  · intro s h u c o bs hnow hrole hplain hlen hu hsession herase hsel hnext
    obtain ⟨l, harrive⟩ := arrive_imageWrite_of_other (bs := bs) hnow hrole hplain hlen hu hsession herase hsel
      hnext rfl
    exact ⟨_, congrArg Host.Outcome.next harrive, rfl, rfl⟩
  · intro s h u c f hnow hrole hplain hlen hu hsession herase hsel
    have hclosed : verifyCopy (otherCopy c) (copyClosed u c f (received ⟨h, .imageEnd f⟩ s)) =
        verifyCopy (otherCopy c) (copyClosed u c f s) := rfl
    by_cases hgood : (verifyCopy (otherCopy c) (copyClosed u c f s)).reason = 0
    · obtain ⟨l, harrive⟩ := arrive_imageEnd_of_good hnow hrole hplain hlen hu hsession herase hsel f rfl
        hclosed.symm hgood
      exact ⟨_, _, congrArg Host.Outcome.next harrive, rfl, rfl, fun _ => ⟨otherState_setStatus _ _ _, rfl, rfl⟩,
        fun hbad => absurd hgood hbad⟩
    · obtain ⟨l, harrive⟩ := arrive_imageEnd_of_bad hnow hrole hplain hlen hu hsession herase hsel f rfl
        hclosed.symm hgood
      exact ⟨_, _, congrArg Host.Outcome.next harrive, rfl, rfl, fun h => absurd h hgood,
        fun _ => ⟨otherState_setStatus _ _ _, rfl⟩⟩
  · intro s u hu herase hlast
    exact execImageUpdateTimeout_of_silent hu herase hlast
  · intro s u hu h
    exact execImageUpdateTimeout_of_not_due hu h
  · intro s n
    exact ⟨imageBeginCheck_of_length, imageBeginCheck_of_busy⟩

end Sys2Proof.Machine
end

section
/-! SUPPORT. The random generator, enrolment, release and the device certificates (R529 to R532, R547 to R549): settles
O45. -/

namespace Sys2Proof.Machine

/-! The random generator. -/

/-- A new nonce for enrolment takes one free value, and is taken only before enrolment. -/
theorem newEnrolNonce_eq (s : State) : ∃ n k, newEnrolNonce s =
      { s with free := k, sec := { s.sec with enrolNonce := n } } ∧
    (s.sec.drbgOk = true → lifeCycle s = .unenrolled → n < 2 ^ 256) ∧
    (lifeCycle s ≠ .unenrolled → n = s.sec.enrolNonce) := by
  unfold newEnrolNonce
  split
  next h =>
    refine ⟨_, _, rfl, fun _ _ => Nat.mod_lt _ (by decide), fun hne => ?_⟩
    simp [hne] at h
  next h =>
    refine ⟨s.sec.enrolNonce, s.free, rfl, fun hok hun => ?_, fun _ => rfl⟩
    simp [hok, hun] at h

theorem execDrbgHealthFailure_of_ok {s : State} (h : s.sec.drbgOk = true) :
    execDrbgHealthFailure s = .next (post 0xE061 (setSec (fun c => { c with drbgOk := false }) s)) := by
  simp [execDrbgHealthFailure, h]

/-- The generator answers again. -/
def drbgBack (s : State) : State := setSec (fun c => { c with drbgOk := true }) s

theorem execDrbgResume_of_failed {s : State} (hcore : coreRuns s = true) (h : s.sec.drbgOk = false) :
    execDrbgResume s = .next (post 0xE062 (newEnrolNonce (drbgBack s))) := by
  simp [execDrbgResume, hcore, h, drbgBack]

theorem drbgResume_keeps {s t : State} (ht : post 0xE062 (newEnrolNonce (drbgBack s)) = t) :
    ∃ n, t.sec = { s.sec with drbgOk := true, enrolNonce := n } ∧ (lifeCycle s = .unenrolled → n < 2 ^ 256) ∧
      (lifeCycle s ≠ .unenrolled → n = s.sec.enrolNonce) ∧
      t.log = logPost s.log (mkEvent s 0xE062 0xFFFF 0xFFFF []) ∧
      t = { s with sec := t.sec, log := t.log, free := t.free } := by
  obtain ⟨n, k, heq, hlt, hold⟩ := newEnrolNonce_eq (drbgBack s)
  subst ht
  rw [heq]
  exact ⟨n, rfl, hlt rfl, hold, rfl, rfl⟩

/-! Enrolment. -/

section
variable {s : State} {h : ReqHdr} {f : EnrolFacts}

theorem headerPasses_of_enrol (hplain : h.tenantAuth = false) : headerPasses s h (.ownerEnrol f) := by
  refine ⟨?_, ?_, ?_, ?_, ?_⟩
  · simp [mayRequest, enrolKind, hplain]
  · simp [tenantKeyed, facilityKind, enrolKind]
  · simp [namesTenant, tenantKeyed]
  · simp [hplain]
  · simp [hplain, facilityKind, enrolKind]

/-- The fuses of the owner are blown, and the module waits for its reboot. -/
def fusesBlown (f : EnrolFacts) (s : State) : State := setSec (fun c => { c with
  fuses := { s.sec.fuses with
    ownerImageKey := f.imageKey, ownerKeyHash := f.rootHash, enrolled := [true, true, true] }
  enrolReboot := some (rowNs s + 1000000000) }) s

theorem enrol_of_passed (hcheck : enrolCheck s f = 0) : enrol f s = (0, post 0xE001 (fusesBlown f s)) := by
  simp [enrol, hcheck, fusesBlown]

theorem enrol_of_failed (hcheck : enrolCheck s f ≠ 0) (hfuse : f.fuseOk = true) :
    enrol f s = (enrolCheck s f, newEnrolNonce (post 0xE002 s 0xFFFF 0xFFFF [enrolCheck s f])) := by
  simp [enrol, hcheck, hfuse]

theorem not_released_of_unenrolled (h : lifeCycle s = .unenrolled) : majority s.sec.fuses.released = false := by
  refine Classical.byContradiction fun hne => ?_
  rw [lifeCycle, if_pos (eq_true_of_ne_false hne)] at h
  cases h

theorem lifeCycle_of_fuses {t : State} (hrel : majority t.sec.fuses.released = false)
    (hen : t.sec.fuses.enrolled = [true, true, true]) : lifeCycle t = .enrolled := by
  rw [lifeCycle, hrel, hen]
  rfl

theorem enrolCheck_of_good (hlife : lifeCycle s = .unenrolled) (hdrbg : s.sec.drbgOk = true)
    (hheld : enrolHeld s = true) (hsig : f.sigOk = true) (hwrap : f.unwrapOk = true)
    (hkey : superset s.sec.fuses.ownerImageKey f.imageKey = true)
    (hroot : superset s.sec.fuses.ownerKeyHash f.rootHash = true) (hfuse : f.fuseOk = true) : enrolCheck s f = 0 := by
  simp [enrolCheck, hlife, hdrbg, hheld, hsig, hwrap, hkey, hroot, hfuse]

theorem enrolCheck_of_life (hlife : lifeCycle s ≠ .unenrolled) : enrolCheck s f = 2 := if_pos hlife

theorem enrolCheck_of_drbg (hlife : lifeCycle s = .unenrolled) (hdrbg : s.sec.drbgOk = false) : enrolCheck s f = 7 := by
  simp [enrolCheck, hlife, hdrbg]

theorem enrolCheck_of_wire (hlife : lifeCycle s = .unenrolled) (hdrbg : s.sec.drbgOk = true)
    (hheld : enrolHeld s = false) : enrolCheck s f = 2 := by
  simp [enrolCheck, hlife, hdrbg, hheld]

theorem enrolCheck_of_sig (hlife : lifeCycle s = .unenrolled) (hdrbg : s.sec.drbgOk = true)
    (hheld : enrolHeld s = true) (hsig : f.sigOk = false) : enrolCheck s f = 10 := by
  simp [enrolCheck, hlife, hdrbg, hheld, hsig]

section
variable (hnow : arrivesNow s h.session) (hplain : h.tenantAuth = false) (hlen : h.lengthOk = true)
include hnow hplain hlen

theorem arrive_ownerEnrol_of_passed (hcheck : enrolCheck s f = 0) {v : State}
    (hv : v = post 0xE001 (fusesBlown f (received ⟨h, .ownerEnrol f⟩ s))) :
    ∃ l, arrive ⟨h, .ownerEnrol f⟩ s = { v with
      mgmt := { v.mgmt with sessions := l }
      sent := .message h.session (requestResp s h 0 s.seq.frame []) :: s.sent } := by
  subst hv
  refine arrive_of_acting (q := ⟨h, .ownerEnrol f⟩) (r := 0) (data := []) hnow (headerPasses_of_enrol hplain) ?_
    ⟨rfl, rfl, rfl, rfl, rfl⟩
  rw [admitted_of_plain s hplain]
  simp only [actNow, hlen, enrol_of_passed (s := received ⟨h, .ownerEnrol f⟩ s) hcheck]
  rfl

theorem arrive_ownerEnrol_of_failed (hcheck : enrolCheck s f ≠ 0) (hfuse : f.fuseOk = true) {v : State}
    (hv : v = newEnrolNonce (post 0xE002 (received ⟨h, .ownerEnrol f⟩ s) 0xFFFF 0xFFFF [enrolCheck s f])) :
    ∃ l, arrive ⟨h, .ownerEnrol f⟩ s = { v with
      mgmt := { v.mgmt with sessions := l }
      sent := .message h.session (requestResp s h (enrolCheck s f) 0 []) :: s.sent } := by
  have hact : actNow h (.ownerEnrol f) (admitted ⟨h, .ownerEnrol f⟩ s) = some (enrolCheck s f, [], v) := by
    rw [admitted_of_plain s hplain, hv]
    simp only [actNow, hlen, enrol_of_failed (s := received ⟨h, .ownerEnrol f⟩ s) hcheck hfuse]
    rfl
  have hjudging : Judging ⟨h, .ownerEnrol f⟩ s v := by
    obtain ⟨n, k, heq, -⟩ := newEnrolNonce_eq
      (post 0xE002 (received ⟨h, .ownerEnrol f⟩ s) 0xFFFF 0xFFFF [enrolCheck s f])
    rw [hv, heq]
    exact ⟨rfl, rfl, rfl, rfl, rfl⟩
  have harrive := arrive_of_acting (q := ⟨h, .ownerEnrol f⟩) hnow (headerPasses_of_enrol hplain) hact hjudging
  rwa [if_neg hcheck] at harrive

end

theorem enrolFailed_keeps {q : Request} {r : Nat} {v : State}
    (hv : newEnrolNonce (post 0xE002 (received q s) 0xFFFF 0xFFFF [r]) = v) :
    v.sec.fuses = s.sec.fuses ∧ v.log = logPost s.log (mkEvent s 0xE002 0xFFFF 0xFFFF [r]) := by
  obtain ⟨n, k, heq, -⟩ := newEnrolNonce_eq (post 0xE002 (received q s) 0xFFFF 0xFFFF [r])
  subst hv
  rw [heq]
  exact ⟨rfl, rfl⟩

end

theorem execEnrolReboot_of_due {s : State} {t0 : Nat} (h : s.sec.enrolReboot = some t0) (ht : t0 ≤ rowNs s) :
    execEnrolReboot s = .next { s with
      pow := { s.pow with resetDue := some 1 }, sec := { s.sec with enrolReboot := none } } := by
  simp [execEnrolReboot, h, ht, setSec]

theorem execEnrolReboot_of_early {s : State} {t0 : Nat} (h : s.sec.enrolReboot = some t0) (ht : rowNs s < t0) :
    execEnrolReboot s = .next s := by
  simp [execEnrolReboot, h, Nat.not_le.mpr ht]

/-! The nonce of a release. -/

section
variable {s : State} {h : ReqHdr}

/-- The fresh nonce, and its time. -/
def nonceIssued (s : State) : State := post 0xE050 { s with
  free := s.free + 1, sec := { s.sec with releaseNonce := some (Config.fresh s.free % 2 ^ 256, rowNs s) } }

theorem releaseNonceCheck_of_good (hlife : lifeCycle s ≠ .returned) (hdrbg : s.sec.drbgOk = true) :
    releaseNonceCheck s = 0 := by
  simp [releaseNonceCheck, hlife, hdrbg]

theorem arrive_getReleaseNonce (hnow : arrivesNow s h.session) (hrole : (session s h.session).role = .owner)
    (hplain : h.tenantAuth = false) (hlen : h.lengthOk = true) (hlife : lifeCycle s ≠ .returned)
    (hdrbg : s.sec.drbgOk = true) {v : State} (hv : v = nonceIssued (received ⟨h, .getReleaseNonce⟩ s)) :
    ∃ l, arrive ⟨h, .getReleaseNonce⟩ s = { v with
      mgmt := { v.mgmt with sessions := l }
      sent := .message h.session
        (requestResp s h 0 (s.seq.frame + 1) (leBytes 32 (Config.fresh s.free % 2 ^ 256))) :: s.sent } := by
  have hown : ownCheck s h .getReleaseNonce = 0 := by
    simp [ownCheck, hlen, releaseNonceCheck_of_good hlife hdrbg]
  have hjudging : Judging ⟨h, .getReleaseNonce⟩ s v := by
    subst hv
    exact ⟨rfl, rfl, rfl, rfl, rfl⟩
  have harrive := judge_of_accepted (q := ⟨h, .getReleaseNonce⟩)
    ⟨hnow, headerPasses_of_owner (b := .getReleaseNonce) rfl hrole hplain, hown⟩ rfl
  have hreserve : reserve h .getReleaseNonce (admitted ⟨h, .getReleaseNonce⟩ s) = v := by
    rw [hv, admitted_of_plain s hplain]
    rfl
  have hdata : acceptData .getReleaseNonce v [] = leBytes 32 (Config.fresh s.free % 2 ^ 256) := by
    subst hv
    rfl
  obtain ⟨l, hans⟩ := hjudging.exists_answeredOn 0 (s.seq.frame + 1) (leBytes 32 (Config.fresh s.free % 2 ^ 256))
  refine ⟨l, harrive.trans ?_⟩
  rw [noteResult'_of_owner (b := .getReleaseNonce) rfl hplain]
  refine Eq.trans ?_ ((hjudging.respond_eq hnow _ _ _).trans hans)
  rw [← hdata]
  simp only [hreserve]
  rfl

theorem execReleaseNonceExpiry_of_due {n t0 : Nat} (hn : s.sec.releaseNonce = some (n, t0))
    (ht : t0 + 60000000000 ≤ rowNs s) :
    execReleaseNonceExpiry s = .next { s with sec := { s.sec with releaseNonce := none } } := by
  simp [execReleaseNonceExpiry, hn, ht, setSec]

theorem execReleaseNonceExpiry_of_early {n t0 : Nat} (hn : s.sec.releaseNonce = some (n, t0))
    (ht : rowNs s < t0 + 60000000000) : execReleaseNonceExpiry s = .next s := by
  simp [execReleaseNonceExpiry, hn, Nat.not_le.mpr ht]

end

/-! The release of the owner. -/

section
variable {s : State} {h : ReqHdr} {root n m t0 : Nat}

theorem ownerReleaseCheck_eq (hlife : lifeCycle s = .enrolled)
    (hstate : s.pow.state = .standby ∨ s.pow.state = .noImage ∨ s.pow.state = .held) (hheld : enrolHeld s = true)
    (hwon : s.pair.wonFrame ≠ some s.seq.frame) (hn : s.sec.releaseNonce = some (m, t0)) :
    ownerReleaseCheck s s.sec.fuses.ownerKeyHash true n =
      if t0 + 60000000000 ≤ rowNs s then 12 else if n = m then 0 else 10 := by
  have hcontains : [StartState.standby, .noImage, .held].contains s.pow.state = true := by
    rcases hstate with h | h | h <;> rw [h] <;> rfl
  simp only [ownerReleaseCheck, hlife, hcontains, hheld, hwon, hn]
  simp

theorem ownerRelease_of_passed (hcheck : ownerReleaseCheck s root true n = 0) :
    ownerRelease root true n s = (0, zeroise s) := by
  simp [ownerRelease, hcheck]

theorem ownerRelease_of_failed {r : Nat} (hcheck : ownerReleaseCheck s root true n = r) (hr : r ≠ 0) :
    ownerRelease root true n s = (r, post 0xE052 s 0xFFFF 0xFFFF [r]) := by
  simp [ownerRelease, hcheck, hr]

/-- A session of the return mode has no role. -/
def withoutRole (x : Session) : Session := { x with role := .none }

theorem zeroise_keeps {v : State} (hv : zeroise s = v) :
    (lifeCycle v = .returned ∧ v.sec.returnMode = true ∧ v.sec.zeroised = true ∧ v.pow.state = .held ∧
      v.pow.plantControl = false ∧ v.pow.ready = false ∧ v.heat = State.reset.heat ∧ v.pair = State.reset.pair ∧
      v.img = State.reset.img ∧ v.sec.tenants = State.reset.sec.tenants ∧ v.sec.releaseNonce = none ∧
      v.log.ring = [] ∧ v.log.queue.length = 1) ∧
    v.seq = s.seq ∧ v.sent = s.sent ∧ v.mgmt.sessions = s.mgmt.sessions.map withoutRole := by
  subst hv
  exact ⟨⟨rfl, rfl, rfl, rfl, rfl, rfl, rfl, rfl, rfl, rfl, rfl, rfl, rfl⟩, rfl, rfl, rfl⟩

theorem outbox_of_withoutRole {v : State} (hv : v.mgmt.sessions = s.mgmt.sessions.map withoutRole) (i : Nat) :
    (session v i).outbox = (session s i).outbox := by
  have hget : session v i = withoutRole (session s i) := by
    rw [session, session, hv, List.getD_eq_getElem?_getD, List.getD_eq_getElem?_getD, List.getElem?_map]
    cases s.mgmt.sessions[i]? <;> rfl
  rw [hget]
  rfl

section
variable (hnow : arrivesNow s h.session) (hrole : (session s h.session).role = .owner) (hplain : h.tenantAuth = false)
  (hlen : h.lengthOk = true)
include hnow hrole hplain hlen

theorem arrive_ownerRelease_of_passed (hcheck : ownerReleaseCheck s root true n = 0) {v : State}
    (hv : zeroise (received ⟨h, .ownerRelease root true n⟩ s) = v) :
    ∃ l, arrive ⟨h, .ownerRelease root true n⟩ s = { v with
      mgmt := { v.mgmt with sessions := l }
      sent := .message h.session (requestResp s h 0 s.seq.frame []) :: s.sent } := by
  have hact : actNow h (.ownerRelease root true n) (admitted ⟨h, .ownerRelease root true n⟩ s) = some (0, [], v) := by
    rw [admitted_of_plain s hplain, ← hv]
    simp only [actNow, hlen, ownerRelease_of_passed (s := received ⟨h, .ownerRelease root true n⟩ s) hcheck]
    rfl
  obtain ⟨-, hseq, hsent, hsess⟩ := zeroise_keeps hv
  have hbox : (session v h.session).outbox = [{ msgId := h.msgId }] :=
    (outbox_of_withoutRole hsess h.session).trans (outbox_received (q := ⟨h, .ownerRelease root true n⟩) hnow)
  obtain ⟨l, heq⟩ := answeredOn_eq h 0 s.seq.frame [] v
  have hresp : requestResp v h 0 s.seq.frame [] = requestResp s h 0 s.seq.frame [] := by
    simp only [requestResp, frameStamp, hseq]
    rfl
  refine ⟨l, (arrive_of_actNow (q := ⟨h, .ownerRelease root true n⟩) hnow
    (headerPasses_of_owner (b := .ownerRelease root true n) rfl hrole hplain) hact).trans ?_⟩
  rw [if_pos rfl, respond_of_outbox hbox, heq, hresp, hsent]
  rfl

theorem arrive_ownerRelease_of_failed {r : Nat} (hcheck : ownerReleaseCheck s root true n = r) (hr : r ≠ 0) {v : State}
    (hv : v = post 0xE052 (received ⟨h, .ownerRelease root true n⟩ s) 0xFFFF 0xFFFF [r]) :
    ∃ l, arrive ⟨h, .ownerRelease root true n⟩ s = { v with
      mgmt := { v.mgmt with sessions := l }
      sent := .message h.session (requestResp s h r 0 []) :: s.sent } := by
  have hact : actNow h (.ownerRelease root true n) (admitted ⟨h, .ownerRelease root true n⟩ s) = some (r, [], v) := by
    rw [admitted_of_plain s hplain, hv]
    simp only [actNow, hlen, ownerRelease_of_failed (s := received ⟨h, .ownerRelease root true n⟩ s) hcheck hr]
    rfl
  have harrive := arrive_of_acting (q := ⟨h, .ownerRelease root true n⟩) hnow
    (headerPasses_of_owner (b := .ownerRelease root true n) rfl hrole hplain) hact
    (by subst hv; exact ⟨rfl, rfl, rfl, rfl, rfl⟩)
  rwa [if_neg hr] at harrive

end

end

/-! Device certificates. -/

section
variable {s : State} {h : ReqHdr} {head bs : List Nat} {f : ChainFacts}

theorem chainCheck_of_good (hroot : f.rootHash = s.sec.fuses.ownerKeyHash) (hver : f.verified = true)
    (hleaf : f.leafKey = true) (hcerts : f.certs ≤ 4) (hlen : bs.length ≤ 4096) : chainCheck s bs f = 0 := by
  simp [chainCheck, hroot, hver, hleaf, Nat.not_lt.mpr hcerts, Nat.not_lt.mpr hlen]

theorem actNow_only_part (hok : h.lengthOk = true) (hparts : s.sec.certParts = none) (hcheck : chainCheck s bs f = 0) :
    actNow h (.setDeviceCert 0 1 bs f) s = some (0, [], installCert 0 bs s) := by
  simp [actNow, hok, certPart, hparts, hcheck]

theorem actNow_first_part (hok : h.lengthOk = true) (hparts : s.sec.certParts = none) :
    actNow h (.setDeviceCert 0 0 bs f) s =
      some (0, [], setSec (fun c => { c with certParts := some (h.session, bs) }) s) := by
  simp [actNow, hok, certPart, hparts]

theorem actNow_last_part (hok : h.lengthOk = true) (hparts : s.sec.certParts = some (h.session, head))
    (hcheck : chainCheck s (head ++ bs) f = 0) :
    actNow h (.setDeviceCert 1 1 bs f) s = some (0, [], installCert 1 bs s) := by
  simp [actNow, hok, certPart, hparts, hcheck]

theorem installCert_only (hparts : s.sec.certParts = none) :
    installCert 0 bs s = post 0xE003 { s with sec := { s.sec with slot1 := some bs } } := by
  have heq : ({ s.sec with slot1 := some bs, certParts := none } : Security) = { s.sec with slot1 := some bs } := by
    rw [← hparts]
  simp only [installCert, setSec, if_pos, List.nil_append, heq]

theorem installCert_last {x : Nat} (hparts : s.sec.certParts = some (x, head)) : installCert 1 bs s =
    post 0xE003 { s with sec := { s.sec with slot1 := some (head ++ bs), certParts := none } } := by
  simp [installCert, setSec, hparts]

/-- A part of a chain that is taken: its effect, and OK. -/
theorem arrive_setDeviceCert {p l : Nat} (hnow : arrivesNow s h.session)
    (hrole : (session s h.session).role = .owner) (hplain : h.tenantAuth = false) {v : State}
    (hact : actNow h (.setDeviceCert p l bs f) (received ⟨h, .setDeviceCert p l bs f⟩ s) = some (0, [], v))
    (hjudging : Judging ⟨h, .setDeviceCert p l bs f⟩ s v) :
    ∃ l', arrive ⟨h, .setDeviceCert p l bs f⟩ s = { v with
      mgmt := { v.mgmt with sessions := l' }
      sent := .message h.session (requestResp s h 0 s.seq.frame []) :: s.sent } :=
  arrive_of_acting (q := ⟨h, .setDeviceCert p l bs f⟩) hnow
    (headerPasses_of_owner (b := .setDeviceCert p l bs f) rfl hrole hplain)
    (by rw [admitted_of_plain s hplain]; exact hact) hjudging

end

/-- Settles O45: what each request blows, overwrites or installs, and the times of the nonce and of the reboot. -/
theorem enrolmentCertificateAndRelease : Obligations.EnrolmentCertificateAndRelease := by
  refine ⟨?_, ?_, ?_, ?_, ?_, ?_, ?_, ?_, ?_, ?_, ?_, ?_, ?_, ?_, ?_, ?_, ?_, ?_, ?_⟩
  · intro s hok
    exact ⟨_, execDrbgHealthFailure_of_ok hok, rfl, rfl, rfl⟩
  · intro s h
    simp [exec, execDrbgHealthFailure, h]
  · intro s hcore h
    obtain ⟨n, hkeeps⟩ := drbgResume_keeps (s := s) rfl
    exact ⟨_, n, execDrbgResume_of_failed hcore h, hkeeps⟩
  · intro s h
    simp [exec, execDrbgResume, h]
  · intro s b hb
    exact congrArg Host.Outcome.next (if_neg hb)
  · intro s
    exact congrArg Host.Outcome.next (if_pos rfl)
  · intro s h f hnow hplain hlen hlife hdrbg hheld hsig hwrap hkey hroot hfuse
    have hcheck := enrolCheck_of_good hlife hdrbg hheld hsig hwrap hkey hroot hfuse
    obtain ⟨l, harrive⟩ := arrive_ownerEnrol_of_passed hnow hplain hlen hcheck rfl
    exact ⟨_, congrArg Host.Outcome.next harrive, rfl, rfl,
      lifeCycle_of_fuses (not_released_of_unenrolled (s := s) hlife) rfl, rfl, rfl, rfl, rfl, rfl⟩
  · intro s h f hnow hplain hlen hcheck hfuse
    obtain ⟨l, harrive⟩ := arrive_ownerEnrol_of_failed hnow hplain hlen hcheck hfuse rfl
    obtain ⟨hfuses, hlog⟩ := enrolFailed_keeps (s := s) (q := ⟨h, .ownerEnrol f⟩) (r := enrolCheck s f) rfl
    exact ⟨_, congrArg Host.Outcome.next harrive, hfuses, hlog, rfl⟩
  · intro s f
    exact ⟨enrolCheck_of_life, enrolCheck_of_drbg, enrolCheck_of_wire, enrolCheck_of_sig⟩
  · intro s t0 h ht
    exact ⟨_, execEnrolReboot_of_due h ht, rfl, rfl, rfl⟩
  · intro s t0 h ht
    exact execEnrolReboot_of_early h ht
  · intro s h hnow hrole hplain hlen hlife hdrbg
    obtain ⟨l, harrive⟩ := arrive_getReleaseNonce hnow hrole hplain hlen hlife hdrbg rfl
    exact ⟨_, _, congrArg Host.Outcome.next harrive, rfl, Nat.mod_lt _ (by decide), rfl, rfl, rfl⟩
  · intro s n t0 hn ht
    exact execReleaseNonceExpiry_of_due hn ht
  · intro s n t0 hn ht
    exact execReleaseNonceExpiry_of_early hn ht
  · intro s h t0 n hnow hrole hplain hlen hlife hstate hheld hwon hn ht
    have hcheck := ownerReleaseCheck_eq (n := n) hlife hstate hheld hwon hn
    rw [if_neg (Nat.not_le.mpr ht), if_pos rfl] at hcheck
    obtain ⟨⟨hlife', hmode, hzero, hstate', hcontrol, hready, hheat, hpair, himg, htenants, hnonce, hring, hqueue⟩,
      -⟩ := zeroise_keeps (s := received ⟨h, .ownerRelease s.sec.fuses.ownerKeyHash true n⟩ s) rfl
    obtain ⟨l, harrive⟩ := arrive_ownerRelease_of_passed hnow hrole hplain hlen hcheck rfl
    exact ⟨_, congrArg Host.Outcome.next harrive, hlife', hmode, hzero, hstate', hcontrol, hready, hheat, hpair, himg,
      htenants, hnonce, hring, hqueue, rfl⟩
  · intro s h n m t0 hnow hrole hplain hlen hlife hstate hheld hwon hn
    have hcheck := ownerReleaseCheck_eq (n := n) hlife (.inl hstate) hheld hwon hn
    refine ⟨_, _, rfl, fun hlate => hcheck.trans (if_pos hlate), fun hin hne => ?_, fun hfails => ?_⟩
    · rw [hcheck, if_neg (Nat.not_le.mpr hin), if_neg hne]
    · have hne : ownerReleaseCheck s s.sec.fuses.ownerKeyHash true n ≠ 0 := by
        rw [hcheck]
        split
        · decide
        next hin => simp [hfails.resolve_left hin]
      obtain ⟨l, harrive⟩ := arrive_ownerRelease_of_failed hnow hrole hplain hlen rfl hne rfl
      rw [harrive]
      exact ⟨rfl, rfl, rfl, rfl⟩
  · intro s h bs f hnow hrole hplain hlen hparts hroot hver hleaf hcerts hmax
    have hact := actNow_only_part (s := received ⟨h, .setDeviceCert 0 1 bs f⟩ s) hlen hparts
      (chainCheck_of_good hroot hver hleaf hcerts hmax)
    rw [installCert_only (s := received ⟨h, .setDeviceCert 0 1 bs f⟩ s) hparts] at hact
    obtain ⟨l, harrive⟩ := arrive_setDeviceCert hnow hrole hplain hact ⟨rfl, rfl, rfl, rfl, rfl⟩
    exact ⟨_, congrArg Host.Outcome.next harrive, rfl, rfl, rfl⟩
  · intro s h bs f hnow hrole hplain hlen hparts
    obtain ⟨l, harrive⟩ := arrive_setDeviceCert hnow hrole hplain
      (actNow_first_part (s := received ⟨h, .setDeviceCert 0 0 bs f⟩ s) hlen hparts) ⟨rfl, rfl, rfl, rfl, rfl⟩
    exact ⟨_, congrArg Host.Outcome.next harrive, rfl, rfl⟩
  · intro s h head bs f hnow hrole hplain hlen hparts hroot hver hleaf hcerts hmax
    have hact := actNow_last_part (s := received ⟨h, .setDeviceCert 1 1 bs f⟩ s) hlen hparts
      (chainCheck_of_good hroot hver hleaf hcerts hmax)
    rw [installCert_last (s := received ⟨h, .setDeviceCert 1 1 bs f⟩ s) hparts] at hact
    obtain ⟨l, harrive⟩ := arrive_setDeviceCert hnow hrole hplain hact ⟨rfl, rfl, rfl, rfl, rfl⟩
    exact ⟨_, congrArg Host.Outcome.next harrive, rfl⟩

end Sys2Proof.Machine
end

section
/-! SUPPORT. Requests whose effect or answer has a time of its own (R71, R168, R479, R571, R572, R600, R601, R603,
R604): settles O50. -/

namespace Sys2Proof.Machine

/-! What an accepted request leaves. -/

section
variable {q : Request} {s v : State}

/-- An accepted request that is answered at once: what it reserves, and its answer. -/
theorem arrive_of_reserved (h : accepts s q) (hact : actNow q.hdr q.body (admitted q s) = none)
    (hlater : answeredLater q.body = false) (hnonce : q.body ≠ .getReleaseNonce)
    (hv : reserve q.hdr q.body (admitted q s) = v) (hjudging : Judging q s v) {e : Nat} {d : List Nat}
    (he : effectFrame s q.body = e) (hd : answerData (admitted q s) q.body = d) :
    ∃ t l c, arrive q s = t ∧ answered s t q.hdr 0 e d ∧ t = { v with
      mgmt := { v.mgmt with sessions := l }, sec := { v.sec with tenants := c }
      sent := .message q.hdr.session (requestResp s q.hdr 0 e d) :: s.sent } := by
  subst he hd
  have harrive : arrive q s = noteResult' true q.hdr q.body
      (answeredOn q.hdr 0 (effectFrame s q.body) (answerData (admitted q s) q.body) v) := by
    rw [judge_of_accepted h hact, hlater, acceptData_of_ne hnonce, hv, ← hjudging.respond_eq h.1]
    rfl
  obtain ⟨c, hnote⟩ := noteResult'_eq true q.hdr q.body
    (answeredOn q.hdr 0 (effectFrame s q.body) (answerData (admitted q s) q.body) v)
  obtain ⟨l, hans⟩ := hjudging.exists_answeredOn 0 (effectFrame s q.body) (answerData (admitted q s) q.body)
  exact ⟨_, l, c, harrive, hjudging.answered h.1 _ _ _ _, hnote.trans (by rw [hans])⟩

/-- An accepted request that is answered on completion holds its place in the outbox. -/
theorem arrive_of_later (h : accepts s q) (hact : actNow q.hdr q.body (admitted q s) = none)
    (hlater : answeredLater q.body = true) (hv : reserve q.hdr q.body (admitted q s) = v)
    (hsess : v.mgmt.sessions = (received q s).mgmt.sessions) :
    ∃ t c, arrive q s = t ∧ (session t q.hdr.session).outbox = [{ msgId := q.hdr.msgId }] ∧
      t = { v with sec := { v.sec with tenants := c } } := by
  obtain ⟨c, hnote⟩ := noteResult'_eq true q.hdr q.body v
  have hbox : (session v q.hdr.session).outbox = [{ msgId := q.hdr.msgId }] :=
    (congrArg (fun l => (l.getD q.hdr.session {}).outbox) hsess).trans (outbox_received h.1)
  refine ⟨noteResult' true q.hdr q.body v, c, ?_, ?_, hnote⟩
  · rw [judge_of_accepted h hact, if_pos hlater, hv]
  · rw [session_noteResult', hbox]

theorem withAccepted_admitted (q q' : Request) (s : State) : ∃ m c, withAccepted q' (admitted q s) =
    { s with mgmt := m, sec := c } ∧ m.accepted = s.mgmt.accepted ++ [q'] := ⟨_, _, rfl, rfl⟩

/-- A request that is answered on completion waits among those of the boundary, as `q'`. -/
theorem arrive_of_held_later {q' : Request} (h : accepts s q) (hact : actNow q.hdr q.body (admitted q s) = none)
    (hlater : answeredLater q.body = true)
    (hv : reserve q.hdr q.body (admitted q s) = withAccepted q' (admitted q s)) :
    ∃ t, arrive q s = t ∧ t.mgmt.accepted = s.mgmt.accepted ++ [q'] ∧
      (session t q.hdr.session).outbox = [{ msgId := q.hdr.msgId }] ∧ t = { s with mgmt := t.mgmt, sec := t.sec } := by
  obtain ⟨t, c, harrive, hbox, ht⟩ := arrive_of_later h hact hlater hv rfl
  obtain ⟨m, c', heq, haccepted⟩ := withAccepted_admitted q q' s
  rw [heq] at ht
  exact ⟨t, harrive, (congrArg (fun x => x.mgmt.accepted) ht).trans haccepted, hbox, by subst ht; rfl⟩

end

/-! Modes. -/

section
variable {s : State} {due : Nat} {m : RowMode}

/-- The mode request for a boundary: a FEAST keeps the lower mode of the one that it replaces. -/
def modeAsked (due : Nat) (m : RowMode) (s : State) : ModeReq :=
  ⟨due, m, if m = .feast then (s.plan.requests.find? fun r => r.due = due).bind (·.low) else some m⟩

theorem requestMode_eq (due : Nat) (m : RowMode) (s : State) : ∃ l, requestMode due m s = { s with
    log := l
    plan := { s.plan with requests :=
      (s.plan.requests.filter fun q => q.due ≠ due) ++ [modeAsked due m s] } } := by
  have hpost : ∃ l, (if (s.plan.requests.find? fun r => r.due = due).isSome then post 0x5011 s else s) =
      { s with log := l } := by
    split
    · exact ⟨_, rfl⟩
    · exact ⟨s.log, rfl⟩
  obtain ⟨l, hpost⟩ := hpost
  refine ⟨l, ?_⟩
  unfold requestMode
  dsimp only
  rw [hpost]
  rfl

theorem mem_asked : modeAsked due m s ∈ (s.plan.requests.filter fun q => q.due ≠ due) ++ [modeAsked due m s] :=
  List.mem_append_right _ (List.mem_singleton_self _)

theorem mem_other_asked {r : ModeReq} (hr : r.due ≠ due) :
    r ∈ (s.plan.requests.filter fun q => q.due ≠ due) ++ [modeAsked due m s] ↔ r ∈ s.plan.requests := by
  have hne : r ≠ modeAsked due m s := fun h => hr (congrArg ModeReq.due h)
  simp [hr, hne]

theorem low_modeAsked (h : m ≠ .feast) : (modeAsked due m s).low = some m := if_neg h

end

/-! Commits. -/

section
variable {s : State} {c : SchedReq}

theorem commitEntry_due (h : c.wallKeyed = false) : (commitEntry s c).due = c.target := by
  simp [commitEntry, h]

theorem commitCheck_of_zero (h : c.actionId = 0) : commitCheck s c = 3 := by
  simp [commitCheck, h]

section
variable (hid : c.actionId ≠ 0) (hocc : c.occurrence < 65536) (harg : payloadCheck s c.kind c.payload = 0)
include hid hocc harg

theorem commitCheck_of_no_wall (hkeyed : c.wallKeyed = true) (hwall : wallValid s = false) : commitCheck s c = 11 := by
  simp [commitCheck, hid, Nat.not_le.mpr hocc, harg, hkeyed, hwall]

theorem commitCheck_of_repeated (hkeyed : c.wallKeyed = false) (hlate : lateAllowed c.kind (lateOf c) = true)
    (hhist : inHistory s c.actionId c.occurrence = true) : commitCheck s c = 5 := by
  simp [commitCheck, hid, Nat.not_le.mpr hocc, harg, hkeyed, hlate, hhist]

end

end

/-! Messages of a CAN channel. -/

theorem Judging.sum_updCan {q : Request} {s u : State} (h : Judging q s u) (k c : Nat) (f : CanCh → CanCh) :
    Judging q s (canSum k (updCan c f u)) := by
  obtain ⟨hsess, htaken, hwaiting, hsent, hseq⟩ := h
  exact ⟨hsess, htaken, hwaiting, hsent, hseq⟩

section
variable {s : State} {c : Nat} {m : CanMsg}

theorem any_free_of_canSendCheck (h : canSendCheck s c m = 0) :
    ((canCh s c).slots.any fun x => x.state = .free) = true := by
  refine Classical.byContradiction fun hnone => ?_
  have hfull : (!((canCh s c).slots.any fun x => decide (x.state = .free))) = true := by simpa using hnone
  unfold canSendCheck at h
  dsimp only at h
  rw [if_pos hfull] at h
  split at h
  · cases h
  split at h
  · cases h
  split at h <;> cases h

theorem ownCheck_of_canSend {h : ReqHdr} (hown : ownCheck s h (.canSend c m) = 0) : canSendCheck s c m = 0 := by
  unfold ownCheck at hown
  split at hown
  · cases hown
  · exact hown

theorem canCh_congr {u v : State} (h : u.can = v.can) : canCh u c = canCh v c :=
  congrArg (fun x => x.ch.getD c {}) h

theorem canCh_sum_updCan {u : State} (hc : c < u.can.ch.length) (k : Nat) (f : CanCh → CanCh) :
    canCh (canSum k (updCan c f u)) c = f (canCh u c) := canCh_updCan_self hc f

/-- The slot that a message of the host takes. -/
def messageSlot (y : CanCh) (m : CanMsg) (frame effect : Nat) : SendSlot :=
  { state := .waiting, sendId := y.nextSend, msg := m, acceptFrame := frame, effect := effect }

/-- A channel that has taken a message into its slot `i`. -/
def withMessage (i : Nat) (m : CanMsg) (frame effect : Nat) (y : CanCh) : CanCh :=
  { y with slots := y.slots.set i (messageSlot y m frame effect), nextSend := (y.nextSend + 1) % 65536 }

theorem canSend_of_free {i : Nat} (effect : Nat) (hi : ((canCh s c).slots.findIdx? fun x => x.state = .free) = some i) :
    canSend c m effect s = canSum 2 (updCan c (withMessage i m s.seq.frame effect) s) := by
  simp only [canSend, hi]
  rfl

theorem slot_withMessage_self {i : Nat} {y : CanCh} (hi : i < y.slots.length) (frame effect : Nat) :
    (withMessage i m frame effect y).slots.getD i {} = messageSlot y m frame effect := by
  simp [withMessage, List.getD_eq_getElem?_getD, hi]

theorem slot_withMessage_ne {i k : Nat} (h : k ≠ i) (y : CanCh) (frame effect : Nat) :
    (withMessage i m frame effect y).slots.getD k {} = y.slots.getD k {} := by
  simp [withMessage, List.getD_eq_getElem?_getD, List.getElem?_set_ne h.symm]

theorem free_slot_of_findIdx? {l : List SendSlot} {i : Nat} (h : l.findIdx? (fun x => x.state = .free) = some i) :
    i < l.length ∧ (l.getD i {}).state = .free := by
  obtain ⟨hi, hfree, -⟩ := List.findIdx?_eq_some_iff_getElem.mp h
  refine ⟨hi, ?_⟩
  rw [getD_of_lt _ _ hi]
  simpa using hfree

end

/-! Starts of an activity. -/

section
variable {s : State}

/-- Of two activities that have ended, the one that ended first. -/
def earlierEnd (s : State) (b : Option Nat) (i : Nat) : Option Nat := match b with
  | some j => if (activity s i).endFrame < (activity s j).endFrame then some i else some j
  | none => some i

theorem foldl_earlierEnd_mem {p : Nat → Prop} {l : List Nat} (hl : ∀ i ∈ l, p i) {b : Option Nat}
    (hb : ∀ j, b = some j → p j) (hne : l ≠ [] ∨ b ≠ none) : ∃ j, l.foldl (earlierEnd s) b = some j ∧ p j := by
  induction l generalizing b with
  | nil =>
    obtain ⟨j, hj⟩ := Option.ne_none_iff_exists'.mp (hne.resolve_left fun h => h rfl)
    exact ⟨j, hj, hb j hj⟩
  | cons i l ih =>
    have hi : ∃ j, earlierEnd s b i = some j ∧ p j := by
      unfold earlierEnd
      split
      next j =>
        split
        · exact ⟨i, rfl, hl i List.mem_cons_self⟩
        · exact ⟨j, rfl, hb j rfl⟩
      · exact ⟨i, rfl, hl i List.mem_cons_self⟩
    obtain ⟨j, hj, hp⟩ := hi
    refine ih (fun x hx => hl x (List.mem_cons_of_mem _ hx)) (fun x hx => ?_) (.inr (by simp [hj]))
    rw [hj] at hx
    exact Option.some.inj hx ▸ hp

theorem startEntry_of_ended (h : (s.maint.activities.findIdx? fun a => a.state = .free) = none) :
    startEntry s =
      (((List.range 4).filter fun i => !(inProgress (activity s i))).foldl (earlierEnd s) none).getD 0 := by
  simp only [startEntry, h]
  rfl

theorem exists_ended (hlen : s.maint.activities.length = 4) (hcount : s.maint.activities.countP inProgress < 4) :
    ∃ i < 4, inProgress (activity s i) = false := by
  refine Classical.byContradiction fun hnone => ?_
  have hall : s.maint.activities.countP inProgress = s.maint.activities.length := by
    refine List.countP_eq_length.mpr fun a ha => ?_
    obtain ⟨i, hi, rfl⟩ := List.getElem_of_mem ha
    refine Classical.byContradiction fun hend => ?_
    refine hnone ⟨i, hlen ▸ hi, ?_⟩
    rw [activity, getD_of_lt _ _ hi]
    simpa using hend
  omega

/-- A start takes an entry whose activity neither starts nor runs. -/
theorem startEntry_not_inProgress (hlen : s.maint.activities.length = 4)
    (hcount : s.maint.activities.countP inProgress < 4) :
    startEntry s < 4 ∧ inProgress (activity s (startEntry s)) = false := by
  cases hfree : s.maint.activities.findIdx? fun a => a.state = .free with
  | some i =>
    obtain ⟨hi, hstate, -⟩ := List.findIdx?_eq_some_iff_getElem.mp hfree
    have hentry : startEntry s = i := by simp only [startEntry, hfree]
    rw [hentry, activity, getD_of_lt _ _ hi]
    refine ⟨hlen ▸ hi, ?_⟩
    have hstate' : s.maint.activities[i].state = .free := by simpa using hstate
    rw [inProgress, hstate']
    rfl
  | none =>
    obtain ⟨i, hi, hend⟩ := exists_ended hlen hcount
    obtain ⟨j, hj, hlt, hj'⟩ := foldl_earlierEnd_mem (s := s) (b := none)
      (l := (List.range 4).filter fun i => !(inProgress (activity s i)))
      (p := fun i => i < 4 ∧ inProgress (activity s i) = false) (fun i hi => by simpa using hi) (by simp)
      (.inl (List.ne_nil_of_mem (a := i) (by simp [hi, hend])))
    rw [startEntry_of_ended hfree, hj]
    exact ⟨hlt, hj'⟩

theorem countP_of_startCheck {c d x : Nat} {r : Bool} (h : startCheck s c d x r = 0) :
    s.maint.activities.countP inProgress < 4 := by
  refine Classical.byContradiction fun hfull => ?_
  unfold startCheck at h
  rw [if_pos (Nat.not_lt.mp hfull)] at h
  split at h
  · cases h
  split at h
  · cases h
  split at h
  · cases h
  split at h <;> cases h

theorem ownCheck_of_maintStart {h : ReqHdr} {c d x : Nat} {r : Bool} (hown : ownCheck s h (.maintStart c d x r) = 0) :
    startCheck s c d x r = 0 := by
  unfold ownCheck at hown
  split at hown
  · cases hown
  · exact hown

/-- The activity of an accepted start. -/
def startingActivity (code duration target : Nat) (s : State) : Activity :=
  { state := .starting, code, target, window := 0xFF, id := s.maint.nextId
    durationS := if duration = 0 then s.img.maint.maxDuration.getD code 0 else duration
    startFrame := s.seq.frame + 1 }

theorem states_of_not_inProgress {a : Activity} (h : inProgress a = false) :
    a.state ≠ .starting ∧ a.state ≠ .running := by
  simpa [inProgress] using h

/-- What a start leaves: its entry, the next number, and its event. -/
def started (c d x : Nat) (n : List Nat) (l : Log) (s : State) : State := { s with
  maint := { s.maint with
    activities := upd s.maint.activities (startEntry s) fun _ => startingActivity c d x s
    nextId := (s.maint.nextId + 1) % 65536, counters := n }
  log := l }

theorem Judging.started {q : Request} {s u : State} (h : Judging q s u) (c d x : Nat) (n : List Nat) (l : Log) :
    Judging q s (Machine.started c d x n l u) := by
  obtain ⟨hsess, htaken, hwaiting, hsent, hseq⟩ := h
  exact ⟨hsess, htaken, hwaiting, hsent, hseq⟩

theorem activity_congr {u v : State} (h : u.maint = v.maint) (i : Nat) : activity u i = activity v i :=
  congrArg (fun x => x.activities.getD i {}) h

theorem activity_started_self (h : startEntry s < s.maint.activities.length) (c d x : Nat) (n : List Nat) (l : Log) :
    activity (started c d x n l s) (startEntry s) = startingActivity c d x s := getD_upd_self _ _ _ _ h

theorem activity_started_ne {k : Nat} (h : k ≠ startEntry s) (c d x : Nat) (n : List Nat) (l : Log) :
    activity (started c d x n l s) k = activity s k := getD_upd_ne _ _ _ _ _ h.symm

theorem acceptStart_eq (c d x : Nat) (s : State) : ∃ n l, acceptStart c d x 0xFF s = started c d x n l s := ⟨_, _, rfl⟩

end

/-! A reset. -/

theorem resetCheck_of_control {s : State} (h : s.pow.plantControl = true) :
    resetCheck s 0 = 2 ∧ resetCheck s 1 = 0 := by
  simp [resetCheck, h]

/-! Requests that reserve something. -/

section
variable {s : State} {h : ReqHdr}

theorem arrive_setMode {m : Nat} (hacc : accepts s ⟨h, .setMode m⟩) : ∃ t, arrive ⟨h, .setMode m⟩ s = t ∧
    t.plan = { s.plan with requests := (s.plan.requests.filter fun q => q.due ≠ nextEpochFrame s) ++
      [modeAsked (nextEpochFrame s) (RowMode.ofCode m) s] } ∧
    answered s t h 0 (nextEpochFrame s) [] ∧ t.mgmt.accepted = s.mgmt.accepted ∧
    t = { s with plan := t.plan, mgmt := t.mgmt, sec := t.sec, sent := t.sent, log := t.log } := by
  obtain ⟨l, hmode⟩ := requestMode_eq (nextEpochFrame s) (RowMode.ofCode m) (admitted ⟨h, .setMode m⟩ s)
  obtain ⟨t, l', c, harrive, hans, ht⟩ :=
    arrive_of_reserved hacc rfl rfl (by simp) hmode ⟨rfl, rfl, rfl, rfl, rfl⟩ rfl rfl
  subst ht
  exact ⟨_, harrive, rfl, hans, rfl, rfl⟩

theorem arrive_setLimit {sc l x : Nat} (hacc : accepts s ⟨h, .setLimit sc l x⟩) : ∃ t,
    arrive ⟨h, .setLimit sc l x⟩ s = t ∧
    t.heat = { s.heat with limitRequests := s.heat.limitRequests ++
      [⟨nextEpochFrame s, if sc = 0 then none else some l, x⟩] } ∧
    answered s t h 0 (nextEpochFrame s) [] ∧
    t = { s with heat := t.heat, mgmt := t.mgmt, sec := t.sec, sent := t.sent } := by
  obtain ⟨t, l', c, harrive, hans, ht⟩ :=
    arrive_of_reserved hacc rfl rfl (by simp) rfl ⟨rfl, rfl, rfl, rfl, rfl⟩ rfl rfl
  subst ht
  exact ⟨_, harrive, rfl, hans, rfl⟩

/-- An accepted message takes a free slot of its channel. -/
theorem arrive_canSend {c : Nat} {m : CanMsg} (hacc : accepts s ⟨h, .canSend c m⟩) (hc : c < s.can.ch.length) :
    ∃ t i, arrive ⟨h, .canSend c m⟩ s = t ∧
      answered s t h 0 (s.seq.frame + 1) (leBytes 2 (canCh s c).nextSend) ∧ i < (canCh s c).slots.length ∧
      ((canCh s c).slots.getD i {}).state = .free ∧
      canCh t c = withMessage i m s.seq.frame (s.seq.frame + 1) (canCh s c) := by
  have hfree := any_free_of_canSendCheck (ownCheck_of_canSend hacc.2.2)
  obtain ⟨i, hi⟩ := Option.isSome_iff_exists.mp ((List.findIdx?_isSome).trans hfree)
  obtain ⟨hlt, hstate⟩ := free_slot_of_findIdx? hi
  have hsent := canSend_of_free (s := admitted ⟨h, .canSend c m⟩ s) (m := m) (s.seq.frame + 1) hi
  obtain ⟨t, l, c', harrive, hans, ht⟩ := arrive_of_reserved (q := ⟨h, .canSend c m⟩) hacc rfl rfl (by simp) hsent
    ((judging_admitted _ s).sum_updCan 2 c _) rfl rfl
  have hch : canCh t c = withMessage i m s.seq.frame (s.seq.frame + 1) (canCh s c) := by
    rw [canCh_congr (congrArg State.can ht)]
    exact canCh_sum_updCan (u := admitted ⟨h, .canSend c m⟩ s) hc 2 _
  exact ⟨t, i, harrive, hans, hlt, hstate, hch⟩

/-- An accepted start takes an entry whose activity has ended. -/
theorem arrive_maintStart {c d x : Nat} {r : Bool} (hacc : accepts s ⟨h, .maintStart c d x r⟩)
    (hlen : s.maint.activities.length = 4) :
    ∃ t n l, arrive ⟨h, .maintStart c d x r⟩ s = t ∧
      answered s t h 0 (s.seq.frame + 1) (leBytes 2 s.maint.nextId) ∧
      startEntry s < 4 ∧ inProgress (activity s (startEntry s)) = false ∧
      t.maint = (started c d x n l s).maint ∧
      t = { s with maint := t.maint, mgmt := t.mgmt, sec := t.sec, sent := t.sent, log := t.log } := by
  obtain ⟨hentry, hend⟩ := startEntry_not_inProgress hlen (countP_of_startCheck (ownCheck_of_maintStart hacc.2.2))
  obtain ⟨n, l, hstart⟩ := acceptStart_eq c d x (admitted ⟨h, .maintStart c d x r⟩ s)
  obtain ⟨t, l', c', harrive, hans, ht⟩ := arrive_of_reserved (q := ⟨h, .maintStart c d x r⟩) hacc rfl rfl (by simp)
    hstart ((judging_admitted _ s).started c d x n l) rfl rfl
  have hmaint : t.maint = (started c d x n l s).maint := by
    rw [ht]
    rfl
  exact ⟨t, n, l, harrive, hans, hentry, hend, hmaint, by subst ht; rfl⟩

/-- The entry that a start took, and the others. -/
theorem activity_of_started {c d x : Nat} {n : List Nat} {l : Log} {t : State}
    (hlt : startEntry s < s.maint.activities.length) (hmaint : t.maint = (started c d x n l s).maint) :
    activity t (startEntry s) = startingActivity c d x s ∧ ∀ k, k ≠ startEntry s → activity t k = activity s k :=
  ⟨(activity_congr hmaint _).trans (activity_started_self hlt c d x n l),
    fun k hk => (activity_congr hmaint k).trans (activity_started_ne hk c d x n l)⟩

end

/-- Settles O50: what each request reserves, and when it is answered. -/
theorem requestsWithTheirOwnTime : Obligations.RequestsWithTheirOwnTime := by
  refine ⟨?_, ?_, ?_, ?_, ?_, fun s c => commitCheck_of_zero, fun s c => commitCheck_of_no_wall,
    fun s c => commitCheck_of_repeated, ?_, ?_, ?_, ?_, ?_, fun s => resetCheck_of_control⟩
  · intro s h m hacc
    obtain ⟨t, harrive, hplan, hans, haccepted, ht⟩ := arrive_setMode hacc
    refine ⟨t, congrArg Host.Outcome.next harrive, ?_, ?_, ?_, hans, haccepted, ht⟩
    all_goals rw [hplan]
    · exact ⟨_, mem_asked, rfl, rfl, low_modeAsked⟩
    · exact fun r hr => mem_other_asked hr
  · intro s h x hacc
    obtain ⟨t, harrive, hkeeps⟩ := arrive_setLimit hacc
    exact ⟨t, congrArg Host.Outcome.next harrive, hkeeps⟩
  · intro s h l x hacc
    obtain ⟨t, harrive, hkeeps⟩ := arrive_setLimit hacc
    exact ⟨t, congrArg Host.Outcome.next harrive, hkeeps⟩
  · intro s h c hacc
    obtain ⟨t, l, c', harrive, hans, ht⟩ :=
      arrive_of_reserved hacc rfl rfl (by simp) rfl ⟨rfl, rfl, rfl, rfl, rfl⟩ rfl rfl
    exact ⟨t, congrArg Host.Outcome.next harrive, by subst ht; rfl, hans, by subst ht; rfl⟩
  · intro s c h
    exact ⟨commitEntry_due h, rfl, rfl, rfl⟩
  · intro s h c m hacc hc
    obtain ⟨t, i, harrive, hans, hlt, hstate, hch⟩ := arrive_canSend hacc hc
    refine ⟨t, i, congrArg Host.Outcome.next harrive, hans, ?_, hlt, hstate, ?_, fun k hk => ?_⟩
    all_goals rw [hch]
    · rfl
    · exact slot_withMessage_self hlt _ _
    · exact slot_withMessage_ne hk _ _ _
  · intro s h c i hacc
    obtain ⟨t, harrive, hkeeps⟩ := arrive_of_held_later (q' := ⟨h, .canCancel c i⟩) hacc rfl rfl rfl
    exact ⟨t, congrArg Host.Outcome.next harrive, hkeeps⟩
  · intro s h l hacc
    obtain ⟨t, harrive, hkeeps⟩ := arrive_of_held_later
      (q' := ⟨h, .releasePages l (l.map (pageCheck s h.tenant))⟩) hacc rfl rfl rfl
    exact ⟨t, congrArg Host.Outcome.next harrive, hkeeps⟩
  · intro s h c d x r hacc hlen
    obtain ⟨t, n, l, harrive, hans, hentry, hend, hmaint, ht⟩ := arrive_maintStart hacc hlen
    obtain ⟨hself, hother⟩ := activity_of_started (hlen ▸ hentry) hmaint
    obtain ⟨hstarting, hrunning⟩ := states_of_not_inProgress hend
    refine ⟨t, startEntry s, congrArg Host.Outcome.next harrive, hans, hentry, hrunning, hstarting, ?_, ?_, ?_, ?_, ?_,
      hother, ?_, ht⟩
    · rw [hself, startingActivity]
    · rw [hself, startingActivity]
    · rw [hself, startingActivity]
    · rw [hself, startingActivity]
    · rw [hself, startingActivity]
    · rw [hmaint, started]
  · intro s h f hacc
    obtain ⟨t, l, c, harrive, hans, ht⟩ :=
      arrive_of_reserved hacc rfl rfl (by simp) rfl ⟨rfl, rfl, rfl, rfl, rfl⟩ rfl rfl
    exact ⟨t, congrArg Host.Outcome.next harrive, by subst ht; rfl, hans, by subst ht; rfl⟩

end Sys2Proof.Machine
end

section
/-! SUPPORT. The status window protocol (R12, R584, R585, R588 to R592): settles O56. -/

namespace Sys2Proof.Machine

/-! Bytes of a number. -/

theorem length_leBytes (k n : Nat) : (leBytes k n).length = k := by
  induction k generalizing n with
  | zero => rfl
  | succ k ih => exact congrArg (· + 1) (ih _)

theorem leNat_leBytes (k n : Nat) : leNat (leBytes k n) = n % 256 ^ k := by
  induction k generalizing n with
  | zero => simp [leBytes, leNat, Nat.mod_one]
  | succ k ih =>
    rw [leBytes, leNat, ih, Nat.mod_mod, Nat.pow_succ', Nat.mod_mul]

/-- The `k`th of the blocks of `n` that a list is made of. -/
theorem take_drop_flatten {n : Nat} : ∀ {ls : List (List Nat)} {k : Nat}, (∀ l ∈ ls, l.length = n) → k < ls.length →
    (ls.flatten.drop (n * k)).take n = ls.getD k [] := by
  intro ls
  induction ls with
  | nil => exact fun _ hk => absurd hk (Nat.not_lt_zero _)
  | cons l ls ih =>
    intro k hl hk
    have hlen : l.length = n := hl l List.mem_cons_self
    cases k with
    | zero => simp [← hlen]
    | succ k =>
      have hdrop : (l ++ ls.flatten).drop (n * (k + 1)) = ls.flatten.drop (n * k) := by
        rw [Nat.mul_succ, Nat.add_comm, ← hlen]
        exact List.drop_length_add_append _
      rw [List.flatten_cons, hdrop, ih (fun x hx => hl x (List.mem_cons_of_mem _ hx)) (Nat.lt_of_succ_lt_succ hk)]
      rfl

/-! Answers on a session. -/

section
variable {s : State} {i : Nat}

/-- What a message of `size` bytes makes of its session. -/
def heard (s : State) (size : Nat) (x : Session) : Session :=
  { x with messages := cnt x.messages, lastNs := rowNs s, bytesIn := x.bytesIn + size }

theorem session_carry (size : Nat) (hi : i < s.mgmt.sessions.length) :
    session (carry i size s) i = heard s size (session s i) := session_carry_self size hi

theorem length_sessions_carry (size : Nat) : (carry i size s).mgmt.sessions.length = s.mgmt.sessions.length :=
  length_sessions_updSession _ _ _

theorem onMessage_of_room (m size : Nat) (f : State → State) (h : (session s i).outbox.length < 64) :
    onMessage i m size f s = f (carry i size s) := by
  rw [onMessage, queueFull, decide_eq_false (Nat.not_le.mpr h)]
  rfl

theorem onMessage_of_full (m size : Nat) (f : State → State) (h : 64 ≤ (session s i).outbox.length) :
    onMessage i m size f s = put i (.message i (errorMsg s m 0x85)) (carry i size s) := by
  rw [onMessage, queueFull, decide_eq_true h]
  rfl

theorem room_of_idle (hout : (session s i).outbox = []) : (session s i).outbox.length < 64 := by
  rw [hout]
  decide

theorem answer_of_idle (hout : (session s i).outbox = []) (m : Nat) (t : Tx) : answer i m t s = put i t s := by
  rw [answer, hout]
  rfl

theorem answer_of_busy (hout : (session s i).outbox ≠ []) (m : Nat) (t : Tx) : answer i m t s =
    updSession i (fun x => { x with outbox := x.outbox ++ [{ msgId := m, answer := some t }] }) s := by
  rw [answer, if_neg (by simpa using hout)]

theorem outbox_carry (hi : i < s.mgmt.sessions.length) (size : Nat) :
    (session (carry i size s) i).outbox = (session s i).outbox := by
  rw [session_carry size hi]
  rfl

theorem session_put_self {u : State} (hi : i < u.mgmt.sessions.length) (tx : Tx) :
    session (put i tx u) i = { session u i with bytesOut := (session u i).bytesOut + sentBytes tx } :=
  session_updSession_self _ hi

/-- A message leaves on a session that nothing but its own entry tells from `s`. -/
theorem put_of_sessions {u : State} {l : List Session} (hu : u = { s with mgmt := { s.mgmt with sessions := l } })
    {tx : Tx} {t : State} (ht : put i tx u = t) : t.sent = tx :: s.sent ∧ t.mgmt.writes = s.mgmt.writes ∧
      t = { s with mgmt := t.mgmt, sent := t.sent } := by
  subst ht hu
  exact ⟨rfl, rfl, rfl⟩

/-- What has left for a message and what stands in its session, after an update of the session by `g`. -/
theorem put_update_keeps (hi : i < s.mgmt.sessions.length) {g : Session → Session} {tx : Tx} {size : Nat} {t : State}
    (ht : put i tx (updSession i g (carry i size s)) = t) :
    t.sent = tx :: s.sent ∧
      session t i = { g (heard s size (session s i)) with
        bytesOut := (g (heard s size (session s i))).bytesOut + sentBytes tx } ∧
      t.mgmt.writes = s.mgmt.writes ∧ t = { s with mgmt := t.mgmt, sent := t.sent } := by
  have hlen := (length_sessions_carry (s := s) (i := i) size).symm
  have hself : session (updSession i g (carry i size s)) i = g (heard s size (session s i)) := by
    rw [session_updSession_self g (hlen ▸ hi), session_carry size hi]
  obtain ⟨hsent, hwrites, heq⟩ := put_of_sessions (s := s) rfl ht
  refine ⟨hsent, ?_, hwrites, heq⟩
  rw [← ht, session_put_self ((length_sessions_updSession _ _ _).symm ▸ hlen ▸ hi), hself]

theorem put_carry_keeps (hi : i < s.mgmt.sessions.length) {tx : Tx} {size : Nat} {t : State}
    (ht : put i tx (carry i size s) = t) :
    t.sent = tx :: s.sent ∧
      session t i = { heard s size (session s i) with
        bytesOut := (heard s size (session s i)).bytesOut + sentBytes tx } ∧
      t.mgmt.writes = s.mgmt.writes ∧ t = { s with mgmt := t.mgmt, sent := t.sent } := by
  have hlen := (length_sessions_carry (s := s) (i := i) size).symm
  obtain ⟨hsent, hwrites, heq⟩ := put_of_sessions (s := s) rfl ht
  refine ⟨hsent, ?_, hwrites, heq⟩
  rw [← ht, session_put_self (hlen ▸ hi), session_carry size hi]

end

/-! READ. -/

section
variable {s : State} {i : Nat}

/-- The answer of a READ. -/
def readAnswer (s : State) (i m a n : Nat) : List Nat :=
  if n = 0 || 4096 < n then errorMsg s m 0x80
  else if 0x110000 < a + n then errorMsg s m 0x83
  else if a % 4 ≠ 0 || n % 4 ≠ 0 then errorMsg s m 0x84
  else if ((session s i).role = .none || bareCycle s) && !(bareRead a n) then errorMsg s m 0x86
  else message 0x81 0 m (readFrame s) (readData s (session s i).win a n)

theorem execRead_of_served (m a n : Nat) (hserved : served s i = true) (hi : i < s.mgmt.sessions.length)
    (hout : (session s i).outbox = []) :
    execRead i m a n s = .next (put i (.message i (readAnswer s i m a n)) (carry i 24 s)) := by
  have hanswer := answer_of_idle ((outbox_carry hi 24).trans hout)
  unfold execRead readAnswer
  dsimp only
  rw [hserved, onMessage_of_room _ _ _ (room_of_idle hout)]
  simp only [errorAnswer, hanswer, Bool.not_true, if_neg Bool.false_ne_true]
  split
  · rfl
  · split
    · rfl
    · split
      · rfl
      · split <;> rfl

theorem execRead_of_unserved (m a n : Nat) (h : served s i = false) : execRead i m a n s = .next s := by
  unfold execRead
  rw [h]
  rfl

theorem length_readData (s : State) (w : Windows) {a n : Nat} (hn : n % 4 = 0) : (readData s w a n).length = n := by
  have hlen : (readData s w a n).length = n / 4 * 4 := by
    simp [readData, List.length_flatten, Function.comp_def, length_leBytes, List.map_const', List.sum_replicate_nat]
  omega

theorem take_drop_readData (s : State) (w : Windows) {a n k : Nat} (hk : k < n / 4) :
    ((readData s w a n).drop (4 * k)).take 4 = leBytes 4 (wordAt s w (a + 4 * k)) := by
  refine (take_drop_flatten (fun l hl => ?_) (by simpa using hk)).trans ?_
  · obtain ⟨j, -, rfl⟩ := List.mem_map.mp hl
    exact length_leBytes _ _
  · rw [getD_of_lt _ _ (by simpa using hk)]
    simp

theorem readAnswer_of_whole {m a n : Nat} (hlo : 4 ≤ n) (hhi : n ≤ 4096) (ha : a % 4 = 0) (hn : n % 4 = 0)
    (hend : a + n ≤ 0x110000) (hrole : (session s i).role ≠ .none) (hlife : lifeCycle s = .enrolled) :
    readAnswer s i m a n = message 0x81 0 m (readFrame s) (readData s (session s i).win a n) := by
  have hbare : bareCycle s = false := by simp [bareCycle, hlife]
  simp [readAnswer, Nat.ne_of_gt (Nat.lt_of_lt_of_le (by decide : 0 < 4) hlo), Nat.not_lt.mpr hhi, ha, hn,
    Nat.not_lt.mpr hend, hrole, hbare]

theorem wordAt_of_none (w : Windows) {a : Nat} (h : locateAt a = none) : wordAt s w a = 0 := by
  rw [wordAt, h]

/-- The error of a READ that is not of whole words within the space. -/
def readError (a n : Nat) : Nat := if n = 0 ∨ 4096 < n then 0x80 else if 0x110000 < a + n then 0x83 else 0x84

theorem readAnswer_of_bad {m a n : Nat}
    (h : n = 0 ∨ 4096 < n ∨ 0x110000 < a + n ∨ a % 4 ≠ 0 ∨ n % 4 ≠ 0) :
    readAnswer s i m a n = errorMsg s m (readError a n) := by
  unfold readAnswer readError
  by_cases hlen : n = 0 ∨ 4096 < n
  · simp [hlen]
  · by_cases hend : 0x110000 < a + n
    · simp [hlen, hend]
    · have hword : a % 4 ≠ 0 ∨ n % 4 ≠ 0 := by omega
      simp [hlen, hend, hword]

theorem readAnswer_of_no_role {m a n : Nat} (hlo : 4 ≤ n) (hhi : n ≤ 4096) (ha : a % 4 = 0) (hn : n % 4 = 0)
    (hbegin : 0x1000 ≤ a) (hend : a + n ≤ 0xE0000) (hrole : (session s i).role = .none) :
    readAnswer s i m a n = errorMsg s m 0x86 := by
  have hbare : bareRead a n = false := by
    simp only [bareRead, Bool.or_eq_false_iff, Bool.and_eq_false_iff, decide_eq_false_iff_not]
    omega
  have hspace : ¬ 0x110000 < a + n := by omega
  simp [readAnswer, Nat.ne_of_gt (Nat.lt_of_lt_of_le (by decide : 0 < 4) hlo), Nat.not_lt.mpr hhi, ha, hn,
    hspace, hrole, hbare]

end

/-! WRITE. -/

section
variable {s : State} {i : Nat}

/-- A WRITE of a shared field, of which `skip` bytes are ignored. -/
def sharedWrite (i m a : Nat) (d : List Nat) (skip : Nat) (late : Bool) : SharedWrite :=
  { session := i, msgId := m, address := a, data := d, ignored := skip, late := late }

/-- A WRITE of a shared field waits for the boundary. -/
def writeHeld (i m a : Nat) (d : List Nat) (skip : Nat) (t : State) : State :=
  setMgmt (fun x => { x with writes := x.writes ++ [sharedWrite i m a d skip x.guardDone] }) (await i m t)

/-- A WRITE of `d` at byte `off` of an entry `e`, in the state that heard it. -/
def writeEntry (s : State) (i m a : Nat) (d : List Nat) (e : Entry) (off : Nat) (t : State) : State :=
  if touchesPart e off d.length then errorAnswer i m 0x84 t
  else if ignoredBytes e off d.length = d.length then answer i m (.message i (writeResp s m d.length)) t
  else if sharedEntry e then
    if (session s i).role = .facility || (session s i).role = .owner then
      writeHeld i m a d (ignoredBytes e off d.length) t
    else errorAnswer i m 0x86 t
  else answer i m (.message i (writeResp s m (ignoredBytes e off d.length)))
    (updSession i (fun y => { y with win := writeOwn e off d y.win }) t)

section
variable {m a n k off : Nat} {d : List Nat} {e : Entry} (hserved : served s i = true)
  (hout : (session s i).outbox = []) (hrole : (session s i).role ≠ .none) (hlife : lifeCycle s = .enrolled)
  (hlen : d.length = n) (hpos : 0 < n) (hwhole : a % 4 = 0 ∧ n % 4 = 0 ∧ a + n ≤ 0x110000)
  (htarget : writeTarget a n = some (some (e, k, off)))
include hserved hout hrole hlife hlen hpos hwhole htarget

theorem execWrite_of_entry : execWrite i m a d s = .next (writeEntry s i m a d e off (carry i (20 + d.length) s)) := by
  obtain ⟨ha, hn, hend⟩ := hwhole
  have hbare : bareCycle s = false := by simp [bareCycle, hlife]
  unfold execWrite
  dsimp only
  rw [hserved, onMessage_of_room _ _ _ (room_of_idle hout)]
  simp only [hlen, Nat.ne_of_gt hpos, Nat.not_lt.mpr hend, ha, hn, hrole, hbare, htarget]
  unfold writeEntry
  rw [hlen]
  simp [writeHeld, sharedWrite]

end

theorem execWrite_of_unserved (m a : Nat) (d : List Nat) (h : served s i = false) : execWrite i m a d s = .next s := by
  unfold execWrite
  rw [h]
  rfl

section
variable {m a off : Nat} {d : List Nat} {e : Entry} {t : State}

theorem writeEntry_of_part (hout : (session t i).outbox = []) (hpart : touchesPart e off d.length = true) :
    writeEntry s i m a d e off t = put i (.message i (errorMsg t m 0x84)) t := by
  rw [writeEntry, if_pos hpart, errorAnswer, answer_of_idle hout]

theorem writeEntry_of_no_permission (hout : (session t i).outbox = []) (hpart : touchesPart e off d.length = false)
    (hsome : ignoredBytes e off d.length ≠ d.length) (hshared : sharedEntry e = true)
    (hrole : (session s i).role = .observer) :
    writeEntry s i m a d e off t = put i (.message i (errorMsg t m 0x86)) t := by
  rw [writeEntry, hpart, if_neg Bool.false_ne_true, if_neg hsome, if_pos hshared, hrole, errorAnswer,
    answer_of_idle hout]
  rfl

theorem writeEntry_of_shared (hpart : touchesPart e off d.length = false)
    (hsome : ignoredBytes e off d.length ≠ d.length) (hshared : sharedEntry e = true)
    (hrole : (session s i).role = .facility) :
    writeEntry s i m a d e off t = writeHeld i m a d (ignoredBytes e off d.length) t := by
  rw [writeEntry, hpart, if_neg Bool.false_ne_true, if_neg hsome, if_pos hshared, hrole]
  rfl

theorem writeEntry_of_own (hout : (session t i).outbox = []) (hi : i < t.mgmt.sessions.length)
    (hpart : touchesPart e off d.length = false) (hsome : ignoredBytes e off d.length ≠ d.length)
    (hshared : sharedEntry e = false) :
    writeEntry s i m a d e off t = put i (.message i (writeResp s m (ignoredBytes e off d.length)))
      (updSession i (fun y => { y with win := writeOwn e off d y.win }) t) := by
  have hbox : (session (updSession i (fun y => { y with win := writeOwn e off d y.win }) t) i).outbox = [] := by
    rw [session_updSession_self _ hi]
    exact hout
  rw [writeEntry, hpart, if_neg Bool.false_ne_true, if_neg hsome, hshared, if_neg Bool.false_ne_true,
    answer_of_idle hbox]

end

theorem writeTarget_trace : writeTarget 0x78000 4 = some (some (.traceControl, 0, 0)) := by decide

theorem writeTarget_probe : writeTarget 0x78100 20 = some (some (.probe, 0, 0)) := by decide

theorem writeTarget_probe_head : writeTarget 0x78100 4 = some (some (.probe, 0, 0)) := by decide

theorem writeOwn_trace (v : Nat) (w : Windows) :
    writeOwn .traceControl 0 (leBytes 4 v) w = { w with twSource := v % 64, twPage := v / 65536 % 4096 } := by
  simp [writeOwn, written, leNat_leBytes, length_leBytes]
  omega

end

/-! PING, SUBSCRIBE and NOTIFY. -/

section
variable {s : State} {i : Nat}

/-- The answer of a PING. -/
def pong (s : State) (i m : Nat) : Tx := .message i (message 0x87 0 m (frameStamp s) [])

theorem execPing_of_room (m : Nat) (hserved : served s i = true) (hroom : (session s i).outbox.length < 64) :
    execPing i m s = .next (answer i m (pong s i m) (carry i 16 s)) := by
  rw [execPing, hserved, onMessage_of_room _ _ _ hroom]
  rfl

theorem execPing_of_full (m : Nat) (hserved : served s i = true) (hfull : 64 ≤ (session s i).outbox.length) :
    execPing i m s = .next (put i (.message i (errorMsg s m 0x85)) (carry i 16 s)) := by
  rw [execPing, hserved, onMessage_of_full _ _ _ hfull]
  rfl

theorem execPing_of_unserved (m : Nat) (h : served s i = false) : execPing i m s = .next s := by
  rw [execPing, h]
  rfl

/-- The subscription that a SUBSCRIBE names; topics 1 and 2 have no index. -/
def subKey (k x : Nat) : Nat × Nat := (k, if k ≤ 2 then 0 else x)

/-- The subscriptions of a session with one more. -/
def withSub (s : State) (i k x : Nat) (y : Session) : Session :=
  { y with subs := (session s i).subs.filter (· ≠ subKey k x) ++ [subKey k x] }

section
variable {m k x : Nat} (hserved : served s i = true) (hi : i < s.mgmt.sessions.length)
  (hout : (session s i).outbox = []) (hrole : (session s i).role ≠ .none)
include hserved hi hout hrole

theorem execSubscribe_of_topic (hlo : 1 ≤ k) (hhi : k ≤ 4) (hfew : (session s i).subs.length < 32) :
    execSubscribe i m k x true s = .next (put i (.message i (message 0x84 0 m (frameStamp s) []))
      (updSession i (withSub s i k x) (carry i 21 s))) := by
  have hbox : (session (updSession i (withSub s i k x) (carry i 21 s)) i).outbox = [] := by
    rw [session_updSession_self _ ((length_sessions_carry 21).symm ▸ hi)]
    exact (outbox_carry hi 21).trans hout
  have hheld : ((session s i).subs.filter (· ≠ (k, if k ≤ 2 then 0 else x))).length < 32 :=
    Nat.lt_of_le_of_lt (List.length_filter_le _ _) hfew
  rw [← answer_of_idle hbox m]
  unfold execSubscribe
  dsimp only
  rw [hserved, onMessage_of_room _ _ _ (room_of_idle hout), if_neg hrole,
    decide_eq_false (Nat.ne_of_gt hlo), decide_eq_false (Nat.not_lt.mpr hhi), decide_eq_false (Nat.not_le.mpr hheld)]
  rfl

theorem execSubscribe_of_no_topic (hk : k = 0 ∨ 4 < k) : execSubscribe i m k x true s =
    .next (put i (.message i (errorMsg s m 3)) (carry i 21 s)) := by
  have hbad : (decide (k = 0) || decide (4 < k)) = true := by simpa using hk
  unfold execSubscribe
  dsimp only
  rw [hserved, onMessage_of_room _ _ _ (room_of_idle hout), if_neg hrole, hbad, errorAnswer,
    answer_of_idle ((outbox_carry hi 21).trans hout)]
  rfl

end

theorem execSubscribe_of_unserved (m k x : Nat) (b : Bool) (h : served s i = false) :
    execSubscribe i m k x b s = .next s := by
  unfold execSubscribe
  dsimp only
  rw [h]
  rfl

theorem execNotify_of_notes {n : Note} {r : List Note} (hserved : served s i = true)
    (hnotes : (session s i).notes = n :: r) : execNotify i s = .next (put i
      (.message i (message 0x85 0 0 n.frame (leBytes 4 (session s i).dropped ++ n.data)))
      (updSession i (fun x => { x with notes := r, dropped := 0 }) s)) := by
  simp only [execNotify, hserved, hnotes]
  rfl

theorem execNotify_of_none (h : (session s i).notes = []) : execNotify i s = .next s := by
  unfold execNotify
  rw [h]
  split <;> rfl

theorem execNotify_of_unserved (h : served s i = false) : execNotify i s = .next s := by
  rw [execNotify, h]
  rfl

theorem unserved_of_closed (h : (session s i).isOpen = false) : served s i = false := by
  rw [served, h, Bool.and_false]

end

/-- Settles O56: each message is heard, and answered at once, held, or refused. -/
theorem statusWindowReadsAndWrites : Obligations.StatusWindowReadsAndWrites := by
  refine ⟨?_, fun s w a => wordAt_of_none w, ?_, ?_, ?_, ?_, ?_, ?_, ?_, ?_, ?_, ?_, fun s i => execNotify_of_none,
    ?_, ?_, ?_⟩
  · intro s i m a n hcore hopen hout hrole hlife hlo hhi ha hn hend
    have hi := lt_of_isOpen hopen
    have hread := execRead_of_served m a n (served_of_open hcore hopen) hi hout
    rw [readAnswer_of_whole hlo hhi ha hn hend hrole hlife] at hread
    obtain ⟨hsent, hself, -, heq⟩ := put_carry_keeps hi rfl
    refine ⟨_, _, hread, hsent, length_readData _ _ hn, fun k hk => take_drop_readData _ _ hk, ?_, heq⟩
    rw [hself]
    rfl
  · intro s i m a n hcore hopen hout
    have hi := lt_of_isOpen hopen
    have hread := execRead_of_served m a n (served_of_open hcore hopen) hi hout
    refine ⟨_, readError a n, hread, ⟨fun h => if_pos h, fun hlo hhi hend => ?_, fun hlo hhi hend _ => ?_⟩,
      fun hbad => ?_⟩
    · rw [readError, if_neg (by omega), if_pos hend]
    · rw [readError, if_neg (by omega), if_neg (Nat.not_lt.mpr hend)]
    · rw [readAnswer_of_bad hbad]
      obtain ⟨hsent, -⟩ := put_carry_keeps hi rfl
      exact hsent
  · intro s i m a n hcore hopen hout hrole hlo hhi ha hn hbegin hend
    have hi := lt_of_isOpen hopen
    have hread := execRead_of_served m a n (served_of_open hcore hopen) hi hout
    rw [readAnswer_of_no_role hlo hhi ha hn hbegin hend hrole] at hread
    obtain ⟨hsent, -⟩ := put_carry_keeps hi rfl
    exact ⟨_, hread, hsent⟩
  · intro s i m v hcore hopen hout hrole hlife
    have hi := lt_of_isOpen hopen
    have hwrite := execWrite_of_entry (m := m) (served_of_open hcore hopen) hout hrole hlife (length_leBytes 4 v)
      (by decide) (by decide) writeTarget_trace
    rw [writeEntry_of_own ((outbox_carry hi _).trans hout) ((length_sessions_carry _).symm ▸ hi)
      (by rw [length_leBytes]; decide) (by rw [length_leBytes]; decide) rfl] at hwrite
    obtain ⟨hsent, hself, -, heq⟩ := put_update_keeps hi rfl
    refine ⟨_, hwrite, ?_, ?_, heq⟩
    · rw [hself]
      exact writeOwn_trace v _
    · rw [hsent, length_leBytes]
      rfl
  · intro s i m d hcore hopen hout hrole hlife hlen
    have hi := lt_of_isOpen hopen
    have hwrite := execWrite_of_entry (m := m) (served_of_open hcore hopen) hout (by simp [hrole]) hlife hlen
      (by decide) (by decide) writeTarget_probe
    rw [writeEntry_of_no_permission ((outbox_carry hi _).trans hout) (by rw [hlen]; decide) (by rw [hlen]; decide) rfl
      hrole] at hwrite
    obtain ⟨hsent, -, hwrites, -⟩ := put_carry_keeps hi rfl
    exact ⟨_, hwrite, hsent, hwrites⟩
  · intro s i m d hcore hopen hout hrole hlife hlen
    have hwrite := execWrite_of_entry (m := m) (served_of_open hcore hopen) hout (by simp [hrole]) hlife hlen
      (by decide) (by decide) writeTarget_probe
    rw [writeEntry_of_shared (by rw [hlen]; decide) (by rw [hlen]; decide) rfl hrole] at hwrite
    exact ⟨_, sharedWrite i m 0x78100 d _ s.mgmt.guardDone, hwrite, rfl, rfl, rfl, rfl, rfl, rfl, rfl, rfl⟩
  · intro s i m a n d hclosed
    have hserved := unserved_of_closed hclosed
    exact ⟨execRead_of_unserved _ _ _ hserved, execWrite_of_unserved _ _ _ hserved, execPing_of_unserved _ hserved,
      execNotify_of_unserved hserved, fun b => execSubscribe_of_unserved _ _ _ b hserved⟩
  · intro s i m hcore hopen hout
    have hi := lt_of_isOpen hopen
    have hping := execPing_of_room m (served_of_open hcore hopen) (room_of_idle hout)
    rw [answer_of_idle ((outbox_carry hi _).trans hout)] at hping
    obtain ⟨hsent, hself, -, heq⟩ := put_carry_keeps hi rfl
    refine ⟨_, hping, hsent, ?_, heq⟩
    rw [hself]
    rfl
  · intro s i m k x hcore hopen hout hrole hlo hhi hfew
    have hi := lt_of_isOpen hopen
    obtain ⟨hsent, hself, -, heq⟩ := put_update_keeps hi rfl
    refine ⟨_, execSubscribe_of_topic (served_of_open hcore hopen) hi hout hrole hlo hhi hfew, hsent, ?_, heq⟩
    rw [hself]
    exact List.mem_append_right _ (List.mem_singleton_self _)
  · intro s i m k x hcore hopen hout hrole hk
    have hi := lt_of_isOpen hopen
    obtain ⟨hsent, hself, -⟩ := put_carry_keeps hi rfl
    refine ⟨_, execSubscribe_of_no_topic (served_of_open hcore hopen) hi hout hrole hk, hsent, ?_⟩
    rw [hself]
    rfl
  · intro s i n r hcore hopen hout hnotes
    have hi := lt_of_isOpen hopen
    refine ⟨_, execNotify_of_notes (served_of_open hcore hopen) hnotes, rfl, ?_, ?_⟩
    all_goals rw [session_put_self ((length_sessions_updSession _ _ _).symm ▸ hi), session_updSession_self _ hi]
  · intro s i m d hcore hopen hout hrole hlife hlen
    have hi := lt_of_isOpen hopen
    have hwrite := execWrite_of_entry (m := m) (served_of_open hcore hopen) hout (by simp [hrole]) hlife hlen
      (by decide) (by decide) writeTarget_probe_head
    rw [writeEntry_of_part ((outbox_carry hi _).trans hout) (by rw [hlen]; decide)] at hwrite
    obtain ⟨hsent, -, hwrites, -⟩ := put_carry_keeps hi rfl
    exact ⟨_, hwrite, hsent, hwrites⟩
  · intro s i m hcore hopen hout hroom
    have hi := lt_of_isOpen hopen
    have hping := execPing_of_room m (served_of_open hcore hopen) hroom
    rw [answer_of_busy (by rwa [outbox_carry hi])] at hping
    refine ⟨_, hping, rfl, ?_⟩
    rw [session_updSession_self _ ((length_sessions_carry _).symm ▸ hi), session_carry _ hi]
    rfl
  · intro s i m hcore hopen hfull
    have hi := lt_of_isOpen hopen
    obtain ⟨hsent, hself, -⟩ := put_carry_keeps hi rfl
    refine ⟨_, execPing_of_full m (served_of_open hcore hopen) hfull, hsent, ?_⟩
    rw [hself]
    rfl

end Sys2Proof.Machine
end

section
/-! SUPPORT. The fieldbus servers (R605 to R610): points read and written, and the connections; settles O57. -/

namespace Sys2Proof.Machine

/-! A write judged as the facility request that it stands for. -/

section
variable {s t : State} {b : ReqBody}

/-- A request counts among those of the frame. -/
def counted (s : State) : State := setMgmt (fun x => { x with taken := x.taken + 1 }) s

/-- Where no message waits for an answer none leaves. -/
theorem respond_of_idle {h : ReqHdr} (hout : (session t h.session).outbox = []) (code effect : Nat) (data : List Nat) :
    respond h code effect data t = t := by
  rw [respond, resolve, hout]
  rfl

theorem kinds_of_facility (h : facilityKind b = true) :
    tenantKeyed b = false ∧ ownerKind b = false ∧ enrolKind b = false := by
  simpa [facilityKind, and_assoc] using h

section
variable (hkind : facilityKind b = true) (hstandby : servedByStandby b = false)
include hkind hstandby

theorem commonCheck_fieldbus_of_control (hnames : namesTenant b = false) (hcontrol : s.pow.plantControl = true) :
    commonCheck .facility fieldbusHdr b s = (0, s) := by
  obtain ⟨hkeyed, howner, henrol⟩ := kinds_of_facility hkind
  simp [commonCheck, mayRequest, hkeyed, howner, henrol, hnames, hstandby, hcontrol, fieldbusHdr, SessRole.code]

theorem commonCheck_fieldbus_of_standby (hcontrol : s.pow.plantControl = false) :
    commonCheck .facility fieldbusHdr b s = (2, s) := by
  obtain ⟨hkeyed, howner, henrol⟩ := kinds_of_facility hkind
  simp [commonCheck, mayRequest, hkind, hkeyed, howner, henrol, hstandby, hcontrol, fieldbusHdr, SessRole.code]

end

theorem noteResult'_of_no_tenant {h : ReqHdr} (hplain : h.tenantAuth = false) (hnames : namesTenant b = false)
    (ok : Bool) : noteResult' ok h b t = t := by
  simp [noteResult', countedTenant, hplain, hnames]

/-- A request of the fieldbus that passes is reserved, and nothing answers it on a session. -/
theorem judge_fieldbus_of_passed (hheader : commonCheck .facility fieldbusHdr b (counted s) = (0, counted s))
    (hnames : namesTenant b = false) (hact : actNow fieldbusHdr b (counted s) = none)
    (hown : ownCheck (counted s) fieldbusHdr b = 0) (hlater : answeredLater b = false)
    (hout : (session (reserve fieldbusHdr b (counted s)) 255).outbox = []) :
    judge .facility ⟨fieldbusHdr, b⟩ s = (0, reserve fieldbusHdr b (counted s)) := by
  have hcounted : setMgmt (fun x => { x with taken := x.taken + 1 }) s = counted s := rfl
  unfold judge
  dsimp only
  rw [hcounted, hheader, if_neg (by simp), hact]
  dsimp only
  rw [hown, if_neg (by simp), hlater, if_neg Bool.false_ne_true,
    respond_of_idle (h := fieldbusHdr) (t := reserve fieldbusHdr b (counted s)) hout,
    noteResult'_of_no_tenant rfl hnames]

theorem judge_fieldbus_of_refused {r : Nat} (hr : r ≠ 0)
    (hheader : commonCheck .facility fieldbusHdr b (counted s) = (r, counted s))
    (hnames : namesTenant b = false) (hout : (session s 255).outbox = []) :
    judge .facility ⟨fieldbusHdr, b⟩ s = (r, counted s) := by
  have hcounted : setMgmt (fun x => { x with taken := x.taken + 1 }) s = counted s := rfl
  unfold judge
  dsimp only
  rw [hcounted, hheader, if_pos hr, respond_of_idle (h := fieldbusHdr) (t := counted s) hout,
    noteResult'_of_no_tenant rfl hnames]

end

/-! One point that arrives. -/

section
variable {s u : State} {y : FieldReply} {a : Nat} {v : Int} {b : ReqBody}

theorem arrivePoints_of_passed (hwait : mustWait s = false) (hreq : pointRequest a v = some b)
    (hjudge : judge .facility ⟨fieldbusHdr, b⟩ s = (0, u)) :
    arrivePoints y [(a, v)] s = fieldAnswer y 0 (mgmtCount (replyCounter y) u) := by
  have htaken : ¬ 256 ≤ s.mgmt.taken := by
    intro h
    simp [mustWait, h] at hwait
  simp [arrivePoints, hwait, writePoints, htaken, writePoint, hreq, hjudge, noteWrite]

theorem arrivePoints_of_refused {r : Nat} (hr : r ≠ 0) (hwait : mustWait s = false)
    (hreq : pointRequest a v = some b) (hjudge : judge .facility ⟨fieldbusHdr, b⟩ s = (r, u)) :
    arrivePoints y [(a, v)] s = fieldAnswer y r (noteWrite (replyCounter y) r u) := by
  have htaken : ¬ 256 ≤ s.mgmt.taken := by
    intro h
    simp [mustWait, h] at hwait
  simp [arrivePoints, hwait, writePoints, htaken, writePoint, hreq, hjudge, hr]

theorem arrivePoints_of_wait (hwait : mustWait s = true) (l : List (Nat × Int)) :
    arrivePoints y l s = setMgmt (fun m => { m with waiting := m.waiting ++ [.points y l] }) s := if_pos hwait

theorem mustWait_of_free (hguard : s.mgmt.guardDone = false) (htaken : s.mgmt.taken < 256)
    (hwaiting : s.mgmt.waiting = []) : mustWait s = false := by
  simp [mustWait, hguard, hwaiting, Nat.not_le.mpr htaken]

theorem mustWait_of_late (h : s.mgmt.guardDone = true ∨ 256 ≤ s.mgmt.taken) : mustWait s = true := by
  rcases h with h | h <;> simp [mustWait, h]

theorem noteWrite_refused (k : Nat) {r : Nat} (hr : r ≠ 0) (s : State) : ∃ l, noteWrite k r s =
    { s with mgmt := { s.mgmt with counters := upd s.mgmt.counters (k + 1) cnt }, log := l } :=
  ⟨_, by rw [noteWrite, if_neg hr]; exact postRun_eq _ _ _⟩

end

/-! Modbus. -/

section
variable {s : State} {c : Nat}

theorem lt_of_modbusServed (h : modbusServed s c = true) : c < s.mgmt.modbus.length := by
  refine Classical.byContradiction fun hge => ?_
  rw [modbusServed, getD_of_length_le _ _ (Nat.not_lt.mp hge)] at h
  simp at h

theorem modbus_modbusTouch (hc : c < s.mgmt.modbus.length) :
    (modbusTouch c s).mgmt.modbus.getD c none = some (rowNs s) := getD_upd_self _ _ _ _ hc

theorem fieldAnswer_modbus {t : State} (ht : t.mgmt.modbus.getD c none = some (rowNs s)) (f : Nat) (l : List Nat) :
    fieldAnswer (.modbus c f l) 0 t = send (.modbus c f l) t := by
  rw [fieldAnswer, ht]
  rfl

theorem fieldAnswer_modbus_of_refused {t : State} (ht : t.mgmt.modbus.getD c none = some (rowNs s)) (f : Nat)
    (l : List Nat) : fieldAnswer (.modbus c f l) 2 t = modbusError c f 4 t := by
  rw [fieldAnswer, ht]
  rfl

/-- A read begins: the connection is in use, and one free value is taken. -/
def readBegun (c : Nat) (s : State) : State := { modbusTouch c s with free := s.free + 1 }

section
variable {f a n : Nat} {mapped : Nat → Bool} {pt : Nat → Option Point} {value : Nat → Nat}

theorem modbusRead_of_block (hlo : 1 ≤ n) (hhi : n ≤ 125) (hmapped : ∀ k, a ≤ k → k < a + n → mapped k = true)
    (hlow : lowHalf pt a = false) (hhigh : highHalf pt (a + n - 1) = false) :
    modbusRead c f a n mapped pt value s =
      send (.modbus c f (((List.range n).map (a + ·)).map value)) (readBegun c s) := by
  have hall : ((List.range n).map (a + ·)).all mapped = true := by
    refine List.all_eq_true.mpr fun k hk => ?_
    obtain ⟨j, hj, rfl⟩ := List.mem_map.mp hk
    exact hmapped _ (Nat.le_add_right _ _) (Nat.add_lt_add_left (List.mem_range.mp hj) _)
  unfold modbusRead
  dsimp only
  rw [decide_eq_false (Nat.ne_of_gt hlo), decide_eq_false (Nat.not_lt.mpr hhi), hall, hlow, hhigh]
  rfl

theorem modbusRead_of_count (hn : n = 0 ∨ 125 < n) :
    modbusRead c f a n mapped pt value s = modbusError c f 3 (readBegun c s) := by
  have hbad : (decide (n = 0) || decide (125 < n)) = true := by simpa using hn
  unfold modbusRead
  dsimp only
  rw [if_pos hbad]
  rfl

theorem modbusRead_of_unmapped (hlo : 1 ≤ n) (hhi : n ≤ 125) (hlast : mapped (a + (n - 1)) = false) :
    modbusRead c f a n mapped pt value s = modbusError c f 2 (readBegun c s) := by
  have hall : ((List.range n).map (a + ·)).all mapped = false := by
    refine List.all_eq_false.mpr ⟨a + (n - 1), List.mem_map.mpr ⟨n - 1, List.mem_range.mpr (by omega), rfl⟩, ?_⟩
    rw [hlast]
    exact Bool.false_ne_true
  unfold modbusRead
  dsimp only
  rw [decide_eq_false (Nat.ne_of_gt hlo), decide_eq_false (Nat.not_lt.mpr hhi), hall]
  rfl

end

theorem register_of_wide {pt : Nat → Option Point} {a : Nat} {p : Point} (hp : pt a = some p) (hwide : p.wide = true)
    (hnext : pt (a + 1) = none) :
    register pt a = toBits 32 p.reg / 65536 ∧ register pt (a + 1) = toBits 32 p.reg % 65536 := by
  simp [register, hp, hwide, hnext]

theorem writeAllowed_of {f : Fieldbus} {src : Nat} (hon : f.modbusWrite = true) (hsrc : allowed f src = true) :
    (f.modbusWrite && allowed f src) = true := by rw [hon, hsrc]; rfl

section
variable {f src a : Nat} {ws l : List Nat}

theorem modbusWrite_of_denied
    (h : s.mgmt.fieldbus.modbusWrite = false ∨ allowed s.mgmt.fieldbus src = false) :
    modbusWrite c f src a ws l s = modbusError c f 1 (noteWrite 1 1 (modbusTouch c s)) := by
  have hdenied : (s.mgmt.fieldbus.modbusWrite && allowed s.mgmt.fieldbus src) = false := by
    rcases h with h | h <;> simp [h]
  have hguard : (!((modbusTouch c s).mgmt.fieldbus.modbusWrite && allowed (modbusTouch c s).mgmt.fieldbus src)) =
      true := congrArg Bool.not hdenied
  unfold modbusWrite
  dsimp only
  rw [if_pos hguard]

section
variable (hon : s.mgmt.fieldbus.modbusWrite = true) (hsrc : allowed s.mgmt.fieldbus src = true)
  (hsome : ws ≠ []) (hmax : ws.length ≤ 123)
include hon hsrc hsome hmax

theorem modbusWrite_of_allowed : modbusWrite c f src a ws l s =
    (writtenPoints (modbusTouch c s) a ws).elim (modbusError c f 2 (noteWrite 1 2 (modbusTouch c s)))
      fun ps => arrivePoints (.modbus c f l) ps (modbusTouch c s) := by
  have hguard : (!((modbusTouch c s).mgmt.fieldbus.modbusWrite && allowed (modbusTouch c s).mgmt.fieldbus src)) =
      false := congrArg Bool.not (writeAllowed_of hon hsrc)
  have hcount : (ws.isEmpty || decide (123 < ws.length)) = false := by
    simp [hsome, Nat.not_lt.mpr hmax]
  unfold modbusWrite
  dsimp only
  rw [hguard, if_neg Bool.false_ne_true, hcount, if_neg Bool.false_ne_true]
  cases writtenPoints (modbusTouch c s) a ws <;> rfl

theorem modbusWrite_of_points {ps : List (Nat × Int)} (hps : writtenPoints (modbusTouch c s) a ws = some ps) :
    modbusWrite c f src a ws l s = arrivePoints (.modbus c f l) ps (modbusTouch c s) := by
  rw [modbusWrite_of_allowed hon hsrc hsome hmax, hps]
  rfl

theorem modbusWrite_of_unmapped (hps : writtenPoints (modbusTouch c s) a ws = none) :
    modbusWrite c f src a ws l s = modbusError c f 2 (noteWrite 1 2 (modbusTouch c s)) := by
  rw [modbusWrite_of_allowed hon hsrc hsome hmax, hps]
  rfl

end

end

/-! The points that the statements name. -/

theorem writtenPoints_spray (s : State) : writtenPoints s 1 [1] = some [(1, 1)] := rfl

theorem writtenPoints_limit (s : State) (hi lo : Nat) : writtenPoints s 3 [hi, lo] =
    some [(3, 1600 * ((65536 * (hi % 65536) + lo % 65536 : Nat) : Int))] := rfl

theorem writtenPoints_half (s : State) (v : Nat) : writtenPoints s 3 [v] = none := rfl

end

/-! The requests behind those points. -/

theorem pointRequest_spray : pointRequest 1 1 = some (.setSprayInhibit 1) := rfl

section
variable {s : State}

/-- The request of the spray inhibit's point. -/
def sprayRequest : Request := ⟨fieldbusHdr, .setSprayInhibit 1⟩

section
variable (hcontrol : s.pow.plantControl = true) (hout : (session s 255).outbox = [])
include hcontrol hout

theorem judge_spray : judge .facility sprayRequest s = (0, withAccepted sprayRequest (counted s)) :=
  judge_fieldbus_of_passed (b := .setSprayInhibit 1)
    (commonCheck_fieldbus_of_control (s := counted s) rfl rfl rfl hcontrol) rfl rfl rfl rfl hout

theorem judge_limit {n : Nat} (hn : n ≤ s.img.limits.rowCap) :
    judge .facility ⟨fieldbusHdr, .setLimit 0 0 n⟩ s = (0, requestLimit (nextEpochFrame s) 0 0 n (counted s)) :=
  judge_fieldbus_of_passed (b := .setLimit 0 0 n)
    (commonCheck_fieldbus_of_control (s := counted s) rfl rfl rfl hcontrol) rfl rfl (if_pos hn) rfl hout

end

theorem judge_spray_of_standby (hcontrol : s.pow.plantControl = false) (hout : (session s 255).outbox = []) :
    judge .facility sprayRequest s = (2, counted s) :=
  judge_fieldbus_of_refused (b := .setSprayInhibit 1) (by decide)
    (commonCheck_fieldbus_of_standby (s := counted s) rfl rfl hcontrol) rfl hout

end

/-! BACnet. -/

section
variable {s : State} {src : Nat}

theorem bacWrite_of_denied (x : BacProp) (v : BacValue)
    (h : s.mgmt.fieldbus.bacnetWrite = false ∨ allowed s.mgmt.fieldbus src = false) :
    bacWrite src x v s = send (.bacnet 15 40 []) (noteWrite 3 40 s) := by
  have hdenied : (!(s.mgmt.fieldbus.bacnetWrite && allowed s.mgmt.fieldbus src)) = true := by
    rcases h with h | h <;> simp [h]
  unfold bacWrite
  dsimp only
  rw [if_pos hdenied]

theorem bacWrite_spray (hon : s.mgmt.fieldbus.bacnetWrite = true) (hsrc : allowed s.mgmt.fieldbus src = true) :
    bacWrite src ⟨5, 1, 85⟩ (.nat 1) s = arrivePoints .bacnet [(1, 1)] s := by
  unfold bacWrite
  dsimp only
  rw [hon, hsrc]
  rfl

theorem bacRead_start (s : State) : bacRead s ⟨13, 0, 85⟩ = (0, [(s.pow.state.code : Int) + 1]) := rfl

theorem bacRead_spray (s : State) : bacRead s ⟨5, 1, 85⟩ = (0, [(b2n s.pump.sprayInhibit : Int)]) := rfl

theorem inputPoint_of_beyond {i : Nat} (hi : 5096 ≤ i) : inputPoint s i = none := by
  have h0 : ¬ i < 18 := by omega
  have h1 : ¬ i < 484 := by omega
  have h2 : ¬ i < 532 := by omega
  have h3 : ¬ i < 636 := by omega
  have h4 : ¬ i < 672 := by omega
  simp [inputPoint, h0, h1, h2, h3, h4, Nat.not_lt.mpr hi]

theorem bacRead_of_beyond {i : Nat} (hi : 5096 ≤ i) (p : Nat) : bacRead s ⟨0, i, p⟩ = (31, []) := by
  simp [bacRead, bacPoint, inputPoint_of_beyond hi]

end

/-! The writes as the servers take them. -/

section
variable {s : State} {c src : Nat}

/-- Modbus takes writes, and from this source. -/
def modbusOpen (s : State) (c src : Nat) : Prop :=
  modbusServed s c = true ∧ s.mgmt.fieldbus.modbusWrite = true ∧ allowed s.mgmt.fieldbus src = true

/-- A request that comes now is judged now, and none of the fieldbus waits for an answer. -/
def fieldbusFree (s : State) : Prop :=
  s.mgmt.guardDone = false ∧ s.mgmt.taken < 256 ∧ s.mgmt.waiting = [] ∧ (session s 255).outbox = []

theorem mustWait_modbusTouch (hfree : fieldbusFree s) (c : Nat) : mustWait (modbusTouch c s) = false := by
  obtain ⟨hguard, htaken, hwaiting, -⟩ := hfree
  exact mustWait_of_free (s := modbusTouch c s) hguard htaken hwaiting

theorem execModbusWriteSingle_of_denied (a v : Nat) (hserved : modbusServed s c = true)
    (h : s.mgmt.fieldbus.modbusWrite = false ∨ allowed s.mgmt.fieldbus src = false) :
    execModbusWriteSingle c src a v s = .next (modbusError c 6 1 (noteWrite 1 1 (modbusTouch c s))) := by
  rw [execModbusWriteSingle, if_pos hserved, modbusWrite_of_denied h]

theorem execModbusWriteSingle_spray (h : modbusOpen s c src) : execModbusWriteSingle c src 1 1 s =
    .next (arrivePoints (.modbus c 6 [1, 1]) [(1, 1)] (modbusTouch c s)) := by
  obtain ⟨hserved, hon, hsrc⟩ := h
  rw [execModbusWriteSingle, if_pos hserved,
    modbusWrite_of_points hon hsrc (by simp) (by simp) (writtenPoints_spray _)]

/-- The spray inhibit written over Modbus, accepted. -/
def sprayTaken (c : Nat) (s : State) : State :=
  mgmtCount 1 (withAccepted sprayRequest (counted (modbusTouch c s)))

theorem arrivePoints_spray_of_control (hserved : modbusServed s c = true) (hfree : fieldbusFree s)
    (hcontrol : s.pow.plantControl = true) :
    arrivePoints (.modbus c 6 [1, 1]) [(1, 1)] (modbusTouch c s) = send (.modbus c 6 [1, 1]) (sprayTaken c s) :=
  (arrivePoints_of_passed (mustWait_modbusTouch hfree c) pointRequest_spray
    (judge_spray (s := modbusTouch c s) hcontrol hfree.2.2.2)).trans
    (fieldAnswer_modbus (t := sprayTaken c s) (modbus_modbusTouch (lt_of_modbusServed hserved)) _ _)

theorem sprayTaken_keeps {t : State} (ht : send (.modbus c 6 [1, 1]) (sprayTaken c s) = t) :
    t.sent = .modbus c 6 [1, 1] :: s.sent ∧ t.mgmt.counters = upd s.mgmt.counters 1 cnt ∧
      t.mgmt.accepted = s.mgmt.accepted ++ [sprayRequest] ∧ t = { s with mgmt := t.mgmt, sent := t.sent } := by
  subst ht
  refine ⟨?_, ?_, ?_, ?_⟩ <;> simp only [send, sprayTaken, mgmtCount, withAccepted, counted, modbusTouch, setMgmt]

theorem arrivePoints_spray_of_standby (hserved : modbusServed s c = true) (hfree : fieldbusFree s)
    (hcontrol : s.pow.plantControl = false) :
    ∃ t, arrivePoints (.modbus c 6 [1, 1]) [(1, 1)] (modbusTouch c s) = t ∧ t.sent = .modbus c 134 [4] :: s.sent ∧
      t.mgmt.counters = upd s.mgmt.counters 2 cnt ∧ t.mgmt.accepted = s.mgmt.accepted := by
  obtain ⟨l, hnote⟩ := noteWrite_refused 1 (r := 2) (by decide) (counted (modbusTouch c s))
  have harrive := arrivePoints_of_refused (y := .modbus c 6 [1, 1]) (by decide) (mustWait_modbusTouch hfree c)
    pointRequest_spray (judge_spray_of_standby (s := modbusTouch c s) hcontrol hfree.2.2.2)
  have hanswer := fieldAnswer_modbus_of_refused (t := noteWrite 1 2 (counted (modbusTouch c s)))
    (by rw [hnote]; exact modbus_modbusTouch (lt_of_modbusServed hserved)) 6 [1, 1]
  rw [hnote] at hanswer
  refine ⟨_, harrive.trans ((congrArg _ hnote).trans hanswer), rfl, rfl, rfl⟩

/-- The row limit written over Modbus, accepted. -/
def limitTaken (c n : Nat) (s : State) : State :=
  mgmtCount 1 (requestLimit (nextEpochFrame s) 0 0 n (counted (modbusTouch c s)))

theorem execModbusWriteMultiple_limit {hi lo n : Nat} (h : modbusOpen s c src) (hfree : fieldbusFree s)
    (hcontrol : s.pow.plantControl = true) (hhi : hi < 65536) (hlo : lo < 65536) (hn : 1600 * (65536 * hi + lo) = n)
    (hcap : n ≤ s.img.limits.rowCap) :
    execModbusWriteMultiple c src 3 [hi, lo] s = .next (send (.modbus c 16 [3, 2]) (limitTaken c n s)) := by
  obtain ⟨hserved, hon, hsrc⟩ := h
  have hvalue : (1600 * ((65536 * (hi % 65536) + lo % 65536 : Nat) : Int)) = (n : Int) := by
    omega
  have hpoints := writtenPoints_limit (modbusTouch c s) hi lo
  rw [hvalue] at hpoints
  have hreq : pointRequest 3 (n : Int) = some (.setLimit 0 0 n) := by simp [pointRequest]
  have harrive := arrivePoints_of_passed (y := .modbus c 16 [3, 2]) (mustWait_modbusTouch hfree c) hreq
    (judge_limit (s := modbusTouch c s) hcontrol hfree.2.2.2 hcap)
  rw [execModbusWriteMultiple, if_pos hserved, modbusWrite_of_points hon hsrc (by simp) (by simp) hpoints]
  exact congrArg Host.Outcome.next (harrive.trans
    (fieldAnswer_modbus (t := limitTaken c n s) (modbus_modbusTouch (lt_of_modbusServed hserved)) _ _))

theorem limitTaken_keeps {n : Nat} {t : State} (ht : send (.modbus c 16 [3, 2]) (limitTaken c n s) = t) :
    t.sent = .modbus c 16 [3, 2] :: s.sent ∧
      t.heat.limitRequests = s.heat.limitRequests ++ [⟨nextEpochFrame s, none, n⟩] ∧
      t.mgmt.counters = upd s.mgmt.counters 1 cnt := by
  subst ht
  exact ⟨rfl, rfl, rfl⟩

theorem execModbusWriteMultiple_half (v : Nat) (h : modbusOpen s c src) : execModbusWriteMultiple c src 3 [v] s =
    .next (modbusError c 16 2 (noteWrite 1 2 (modbusTouch c s))) := by
  obtain ⟨hserved, hon, hsrc⟩ := h
  rw [execModbusWriteMultiple, if_pos hserved,
    modbusWrite_of_unmapped hon hsrc (by simp) (by simp) (writtenPoints_half _ v)]

theorem execWriteProperty_spray (hserved : bacnetServed s = true) (hon : s.mgmt.fieldbus.bacnetWrite = true)
    (hsrc : allowed s.mgmt.fieldbus src = true) (hfree : fieldbusFree s) (hcontrol : s.pow.plantControl = true) :
    execWriteProperty src ⟨5, 1, 85⟩ (.nat 1) s =
      .next (send (.bacnet 15 0 []) (mgmtCount 3 (withAccepted sprayRequest (counted s)))) := by
  obtain ⟨hguard, htaken, hwaiting, hout⟩ := hfree
  rw [execWriteProperty, if_pos hserved, bacWrite_spray hon hsrc]
  exact congrArg Host.Outcome.next ((arrivePoints_of_passed (y := .bacnet)
    (mustWait_of_free hguard htaken hwaiting) pointRequest_spray (judge_spray hcontrol hout)).trans rfl)

end

/-! Connections. -/

section
variable {s : State} {c : Nat}

theorem execModbusConnectionOpen_of_free (hcore : coreRuns s = true) (hon : s.mgmt.fieldbus.modbusEn = true)
    (hfree : s.mgmt.modbus.findIdx? (·.isNone) = some c) :
    execModbusConnectionOpen s = .next (modbusTouch c s) := by
  simp [execModbusConnectionOpen, hcore, hon, hfree]

theorem execModbusConnectionOpen_of_full (hcore : coreRuns s = true) (hon : s.mgmt.fieldbus.modbusEn = true)
    (hfull : ∀ x ∈ s.mgmt.modbus, x.isSome = true) :
    execModbusConnectionOpen s = .next (send (.tcpReset true) s) := by
  have hnone : s.mgmt.modbus.findIdx? (·.isNone) = none := by
    refine List.findIdx?_eq_none_iff.mpr fun x hx => ?_
    simpa using hfull x hx
  simp only [execModbusConnectionOpen, hcore, hon, hnone]
  rfl

/-- Connection `c` closed. -/
def connectionClosed (c : Nat) (s : State) : State :=
  setMgmt (fun m => { m with modbus := upd m.modbus c (fun _ => none) }) s

theorem execModbusConnectionIdle_of_silent {f : Nat} (hf : s.mgmt.modbus.getD c none = some f)
    (hold : f + 30000000000 ≤ rowNs s) : execModbusConnectionIdle c s = .next (connectionClosed c s) := by
  unfold execModbusConnectionIdle
  rw [hf]
  exact congrArg Host.Outcome.next (if_pos hold)

theorem execModbusConnectionIdle_of_recent {f : Nat} (hf : s.mgmt.modbus.getD c none = some f)
    (hrecent : rowNs s < f + 30000000000) : execModbusConnectionIdle c s = .next s := by
  unfold execModbusConnectionIdle
  rw [hf]
  exact congrArg Host.Outcome.next (if_neg (Nat.not_le.mpr hrecent))

theorem modbus_connectionClosed (c : Nat) (s : State) : (connectionClosed c s).mgmt.modbus.getD c none = none := by
  refine (getD_upd _ _ _ _ _).trans ?_
  split
  · rfl
  next h =>
    exact getD_of_length_le _ _ (Nat.not_lt.mp fun hlt => h ⟨rfl, hlt⟩)

end

/-- Settles O57: what each server answers, and the request that each write becomes. -/
theorem fieldbusServersReadAndWrite : Obligations.FieldbusServersReadAndWrite := by
  refine ⟨?_, ?_, ?_, fun pt a p => register_of_wide, ?_, ?_, ?_, ?_, ?_, ?_, ?_, ?_, ?_, ?_, ?_, ?_, ?_, ?_, ?_, ?_,
    ?_⟩
  · intro s c a n hserved hlo hhi hend hlow hhigh
    have hmapped : ∀ k, a ≤ k → k < a + n → decide (k ≤ 5095) = true := by
      intro k _ hk
      exact decide_eq_true (by omega)
    refine ⟨_, congrArg Host.Outcome.next ((if_pos hserved).trans
      (modbusRead_of_block hlo hhi hmapped hlow hhigh)), rfl, rfl, rfl⟩
  · intro s c a n hserved hlo hhi hmapped hlow hhigh
    exact ⟨_, congrArg Host.Outcome.next ((if_pos hserved).trans
      (modbusRead_of_block hlo hhi hmapped hlow hhigh)), rfl⟩
  · intro s c a n hserved
    refine ⟨fun hn => ⟨_, congrArg Host.Outcome.next ((if_pos hserved).trans (modbusRead_of_count hn)), rfl⟩,
      fun hlo hhi hend => ?_⟩
    have hlast : decide (a + (n - 1) ≤ 5095) = false := decide_eq_false (by omega)
    exact ⟨_, congrArg Host.Outcome.next ((if_pos hserved).trans (modbusRead_of_unmapped hlo hhi hlast)), rfl⟩
  · intro s c src a v hserved h
    obtain ⟨l, hnote⟩ := noteWrite_refused 1 (r := 1) (by decide) (modbusTouch c s)
    refine ⟨_, execModbusWriteSingle_of_denied a v hserved h, ?_⟩
    rw [hnote]
    exact ⟨rfl, rfl, rfl, rfl, rfl⟩
  · intro s c src hserved hon hsrc hcontrol hguard htaken hwaiting hout
    have harrive := arrivePoints_spray_of_control hserved ⟨hguard, htaken, hwaiting, hout⟩ hcontrol
    have hwrite := execModbusWriteSingle_spray ⟨hserved, hon, hsrc⟩
    rw [harrive] at hwrite
    exact ⟨_, hwrite, sprayTaken_keeps rfl⟩
  · intro s c src hserved hon hsrc hcontrol hguard htaken hwaiting hout
    obtain ⟨t, harrive, hkeeps⟩ := arrivePoints_spray_of_standby hserved ⟨hguard, htaken, hwaiting, hout⟩ hcontrol
    have hwrite := execModbusWriteSingle_spray ⟨hserved, hon, hsrc⟩
    rw [harrive] at hwrite
    exact ⟨t, hwrite, hkeeps⟩
  · intro s c src hi lo hserved hon hsrc hcontrol hguard htaken hwaiting hout hhi hlo hcap
    exact ⟨_, execModbusWriteMultiple_limit ⟨hserved, hon, hsrc⟩ ⟨hguard, htaken, hwaiting, hout⟩ hcontrol hhi hlo rfl
      hcap, limitTaken_keeps rfl⟩
  · intro s c src hserved hon hsrc hlate
    have hwrite := execModbusWriteSingle_spray ⟨hserved, hon, hsrc⟩
    rw [arrivePoints_of_wait (s := modbusTouch c s) (mustWait_of_late hlate)] at hwrite
    exact ⟨_, hwrite, rfl, rfl, rfl⟩
  · intro s c src v hserved hon hsrc
    obtain ⟨l, hnote⟩ := noteWrite_refused 1 (r := 2) (by decide) (modbusTouch c s)
    refine ⟨_, execModbusWriteMultiple_half v ⟨hserved, hon, hsrc⟩, ?_⟩
    rw [hnote]
    exact ⟨rfl, rfl⟩
  · intro s c hcore hon hfree
    exact ⟨_, execModbusConnectionOpen_of_free hcore hon hfree, rfl, rfl⟩
  · intro s hcore hon hfull
    exact execModbusConnectionOpen_of_full hcore hon hfull
  · intro s c f hf hold
    exact ⟨_, execModbusConnectionIdle_of_silent hf hold, modbus_connectionClosed c s, rfl⟩
  · intro s c f hf hrecent
    exact execModbusConnectionIdle_of_recent hf hrecent
  · intro s c a n h
    simp [exec, execModbusReadInput, execModbusReadHolding, execModbusWriteSingle, execModbusWriteMultiple, h]
  · intro s hserved
    simp only [exec, execReadProperty, execReadPropertyMultiple, hserved, List.map_cons, List.map_nil, bacRead_start,
      bacRead_spray]
    exact ⟨rfl, rfl⟩
  · intro s i p hserved hi
    simp only [exec, execReadProperty, hserved, bacRead_of_beyond hi]
    rfl
  · intro s src hserved hon hsrc hcontrol hguard htaken hwaiting hout
    exact ⟨_, execWriteProperty_spray hserved hon hsrc ⟨hguard, htaken, hwaiting, hout⟩ hcontrol, rfl, rfl, rfl⟩
  · intro s src x v hserved h
    obtain ⟨l, hnote⟩ := noteWrite_refused 3 (r := 40) (by decide) s
    refine ⟨_, congrArg Host.Outcome.next ((if_pos hserved).trans (bacWrite_of_denied x v h)), ?_⟩
    rw [hnote]
    exact ⟨rfl, rfl, rfl⟩
  · intro s hserved
    refine ⟨?_, fun lo hi h => ?_, fun lo hi h => ?_⟩
    · simp [exec, execWhoIs, hserved, send]
    · simp [exec, execWhoIs, hserved, Nat.not_le.mpr h]
    · simp [exec, execWhoIs, hserved, Nat.not_le.mpr h]
  · intro s x h
    simp [exec, execReadProperty, execReadPropertyMultiple, execWhoIs, h]

end Sys2Proof.Machine
end

section
/-! SUPPORT. SPDM requests and the telemetry blocks (R532 to R534, R540 to R544): settles O46. -/

namespace Sys2Proof.Machine

/-! SPDM answers. -/

section
variable {s : State} {i : Nat}

theorem spdmWaits_carry (hi : i < s.mgmt.sessions.length) (size : Nat) :
    spdmWaits (carry i size s) i = spdmWaits s i := by
  rw [spdmWaits, spdmWaits, outbox_carry hi]

theorem spdmWaits_of_idle (hout : (session s i).outbox = []) : spdmWaits s i = false := by
  rw [spdmWaits, hout]
  rfl

theorem spdmAnswer_of_room (code : Nat) (data : List Nat) (hserved : served s i = true)
    (hroom : (session s i).outbox.length < 64) (hi : i < s.mgmt.sessions.length) : spdmAnswer i code data s =
      if spdmWaits s i then answer i 0 (.message i (errorMsg s 0 0x85)) (carry i 20 s)
      else answer i 0 (.spdm i code data) (carry i 20 s) := by
  have hopen : (coreRuns s && (session s i).isOpen) = true := hserved
  rw [spdmAnswer, hopen, if_pos rfl, onMessage_of_room _ _ _ hroom]
  simp only [spdmWaits_carry hi, errorAnswer]
  rfl

theorem spdmAnswer_of_idle (code : Nat) (data : List Nat) (hserved : served s i = true)
    (hout : (session s i).outbox = []) (hi : i < s.mgmt.sessions.length) :
    spdmAnswer i code data s = put i (.spdm i code data) (carry i 20 s) := by
  rw [spdmAnswer_of_room code data hserved (room_of_idle hout) hi, spdmWaits_of_idle hout, if_neg Bool.false_ne_true,
    answer_of_idle ((outbox_carry hi 20).trans hout)]

/-- An SPDM answer on a session without other messages. -/
theorem spdmAnswer_keeps (code : Nat) (data : List Nat) (hcore : coreRuns s = true)
    (hopen : (session s i).isOpen = true) (hout : (session s i).outbox = []) {t : State}
    (ht : spdmAnswer i code data s = t) :
    t.sent = .spdm i code data :: s.sent ∧ (session t i).messages = cnt (session s i).messages ∧
      t = { s with mgmt := t.mgmt, sent := t.sent } := by
  have hi := lt_of_isOpen hopen
  rw [spdmAnswer_of_idle code data (served_of_open hcore hopen) hout hi] at ht
  obtain ⟨hsent, hself, -, heq⟩ := put_carry_keeps hi ht
  refine ⟨hsent, ?_, heq⟩
  rw [hself]
  rfl

theorem spdmAnswer_of_closed (code : Nat) (data : List Nat) (h : (session s i).isOpen = false) :
    spdmAnswer i code data s = s := by
  rw [spdmAnswer, h, Bool.and_false]
  rfl

/-- An SPDM answer that waits behind others. -/
theorem answer_busy_keeps (hi : i < s.mgmt.sessions.length) (hout : (session s i).outbox ≠ []) (tx : Tx) {t : State}
    (ht : answer i 0 tx (carry i 20 s) = t) :
    (session t i).outbox = (session s i).outbox ++ [{ msgId := 0, answer := some tx }] ∧ t.sent = s.sent ∧
      t = { s with mgmt := t.mgmt } := by
  rw [answer_of_busy (by rwa [outbox_carry hi])] at ht
  have hbox := outbox_carry hi 20
  subst ht
  refine ⟨?_, rfl, rfl⟩
  rw [session_updSession_self _ ((length_sessions_carry 20).symm ▸ hi), hbox]

end

/-! What the requests answer. -/

section
variable {s : State} {i : Nat}

theorem execNegotiateAlgorithms_eq (a b : Bool) (s : State) : execNegotiateAlgorithms i a b s =
    .next (spdmAnswer i (if a && b then 3 else 0) (if a && b then [1, 1] else [1]) s) := by
  unfold execNegotiateAlgorithms
  cases a && b <;> rfl

/-- The digests of the chains installed. -/
def chainDigests (s : State) : List Nat :=
  ([0, 1].filterMap fun k => slotChain s k).flatMap fun c => leBytes 48 (Config.chainDigest c)

theorem length_chainDigests (s : State) : (chainDigests s).length = if s.sec.slot1.isSome then 96 else 48 := by
  cases h : s.sec.slot1 <;> simp [chainDigests, slotChain, h, length_leBytes]

theorem execGetCertificate_of_installed {c : List Nat} {o : Nat} (n : Nat) (hc : s.sec.slot1 = some c)
    (ho : o ≤ c.length) : execGetCertificate i 1 o n s = .next (spdmAnswer i 5 ((c.drop o).take n) s) := by
  have hslot : slotChain s 1 = some c := hc
  unfold execGetCertificate
  rw [hslot]
  exact congrArg Host.Outcome.next (if_pos ho)

theorem slotChain_of_beyond {k : Nat} (hk : 2 ≤ k) : slotChain s k = none := by
  rw [slotChain, if_neg (by omega), if_neg (by omega)]

theorem execGetCertificate_of_none {k : Nat} (o n : Nat) (hk : 2 ≤ k) :
    execGetCertificate i k o n s = .next (spdmAnswer i 0 [1] s) := by
  unfold execGetCertificate
  rw [slotChain_of_beyond hk]

theorem execChallenge_of_none {k : Nat} (nonce : Nat) (hk : 2 ≤ k) :
    execChallenge i k nonce s = .next (spdmAnswer i 0 [1] s) := by
  unfold execChallenge
  rw [slotChain_of_beyond hk]

theorem execChallenge_of_vendor (i nonce : Nat) (s : State) : ∃ d, d.length = 144 ∧
    execChallenge i 0 nonce s = .next (spdmAnswer i 6 (0 :: d) s) := by
  refine ⟨_, ?_, rfl⟩
  simp [length_leBytes]

section
variable {index : Nat} {body : List Nat} (hserved : served s i = true) (hbody : measured s i index = some body)
include hserved hbody

theorem execGetMeasurements_of_unsigned (nonce : Nat) :
    execGetMeasurements i index false nonce s = .next (spdmAnswer i 7 body s) := by
  have hopen : (coreRuns s && (session s i).isOpen) = true := hserved
  unfold execGetMeasurements
  rw [hopen, hbody]
  rfl

theorem execGetMeasurements_of_signed (nonce : Nat) (hout : (session s i).outbox = []) :
    ∃ d, execGetMeasurements i index true nonce s = .next (noteAttested i (spdmAnswer i 7 d s)) := by
  have hopen : (coreRuns s && (session s i).isOpen) = true := hserved
  have hfull : queueFull s i = false := by rw [queueFull, hout]; rfl
  unfold execGetMeasurements
  rw [hopen, hbody, spdmWaits_of_idle hout, hfull]
  exact ⟨_, rfl⟩

end

theorem execGetMeasurements_of_closed (index nonce : Nat) (signed : Bool) (h : (session s i).isOpen = false) :
    execGetMeasurements i index signed nonce s = .next s := by
  unfold execGetMeasurements
  rw [h, Bool.and_false]
  rfl

/-- The attestation of a session, where none was noted in the last minute. -/
def attestNoted (i : Nat) (s : State) : State :=
  post 0xE030 (updSession i (fun x => { x with attested := some (rowNs s) }) (secCount 7 s)) i

theorem noteAttested_of_first (h : (session s i).attested = none) : noteAttested i s = attestNoted i s := by
  unfold noteAttested
  rw [h]
  rfl

theorem noteAttested_of_recent {t0 : Nat} (h : (session s i).attested = some t0)
    (hrecent : rowNs s < t0 + 60000000000) : noteAttested i s = secCount 7 s := by
  unfold noteAttested
  rw [h]
  exact if_neg (by simpa using hrecent)

theorem attested_spdmAnswer (code : Nat) (data : List Nat) (hserved : served s i = true)
    (hout : (session s i).outbox = []) (hi : i < s.mgmt.sessions.length) :
    (session (spdmAnswer i code data s) i).attested = (session s i).attested := by
  rw [spdmAnswer_of_idle code data hserved hout hi]
  obtain ⟨-, hself, -⟩ := put_carry_keeps (s := s) hi rfl
  rw [hself]
  rfl

theorem length_sessions_spdmAnswer (code : Nat) (data : List Nat) (hserved : served s i = true)
    (hout : (session s i).outbox = []) (hi : i < s.mgmt.sessions.length) :
    (spdmAnswer i code data s).mgmt.sessions.length = s.mgmt.sessions.length := by
  rw [spdmAnswer_of_idle code data hserved hout hi]
  exact (length_sessions_updSession _ _ _).trans (length_sessions_carry 20)

theorem attestNoted_keeps {u : State} (hu : u = { s with mgmt := u.mgmt, sent := u.sent })
    (hi : i < u.mgmt.sessions.length) {t : State} (ht : attestNoted i u = t) :
    t.sec.counters = upd s.sec.counters 7 cnt ∧ (session t i).attested = some (rowNs s) ∧
      t.log = logPost s.log (mkEvent s 0xE030 i 0xFFFF []) ∧ t.sent = u.sent := by
  have hself : (session (attestNoted i u) i).attested = some (rowNs u) := by
    refine congrArg Session.attested ((session_updSession_self (s := secCount 7 u)
      (fun x => { x with attested := some (rowNs u) }) hi))
  rw [← ht, hself]
  obtain ⟨m, hm⟩ : ∃ m, m = u.mgmt := ⟨_, rfl⟩
  obtain ⟨l, hl⟩ : ∃ l, l = u.sent := ⟨_, rfl⟩
  rw [← hm, ← hl] at hu
  subst hu
  exact ⟨rfl, rfl, rfl, rfl⟩

end

/-! Lockouts. -/

section
variable {s : State} {i f : Nat}

/-- The lockout of a session ended. -/
def unlocked (i : Nat) (s : State) : State := updSession i (fun x => { x with lockout := none }) s

theorem execSessionLockoutEnd_of_due (h : (session s i).lockout = some f) (hdue : f + 100000 ≤ s.seq.frame) :
    execSessionLockoutEnd i s = .next (unlocked i s) := by
  unfold execSessionLockoutEnd
  rw [h]
  exact congrArg Host.Outcome.next (if_pos hdue)

theorem execSessionLockoutEnd_of_early (h : (session s i).lockout = some f) (hearly : s.seq.frame < f + 100000) :
    execSessionLockoutEnd i s = .next s := by
  unfold execSessionLockoutEnd
  rw [h]
  exact congrArg Host.Outcome.next (if_neg (Nat.not_le.mpr hearly))

/-- A session that has a value of its own has an entry. -/
theorem lt_of_lockout (h : (session s i).lockout = some f) : i < s.mgmt.sessions.length := by
  refine Classical.byContradiction fun hge => ?_
  rw [session, getD_of_length_le _ _ (Nat.not_lt.mp hge)] at h
  cases h

end

/-! Telemetry blocks. -/

section
variable {s : State} {k : Nat} {ts : List TenantBlock} {r : RowBlock}

theorem execTelemetryBlockSeal_of_due (hdue : s.sec.due = some (k, [], r)) (hlo : 10000 * (k + 1) + 100 ≤ s.seq.frame)
    (hhi : s.seq.frame ≤ 10000 * (k + 1) + 5000) :
    execTelemetryBlockSeal s = .next (sealRow r (setSec (fun c => { c with due := none }) s)) := by
  simp [execTelemetryBlockSeal, hdue, hlo, hhi]

theorem execTelemetryBlockSeal_of_early (hdue : s.sec.due = some (k, ts, r))
    (h : s.seq.frame < 10000 * (k + 1) + 100) : execTelemetryBlockSeal s = .next s := by
  simp [execTelemetryBlockSeal, hdue, Nat.not_le.mpr h]

theorem execBlockNotSealed_of_early (hdue : s.sec.due = some (k, ts, r))
    (h : s.seq.frame < 10000 * (k + 1) + 5000) : execBlockNotSealed s = .next s := by
  simp [execBlockNotSealed, hdue, Nat.not_le.mpr h]

theorem execBlockNotSealed_of_late (hdue : s.sec.due = some (k, ts, r)) (h : 10000 * (k + 1) + 5000 ≤ s.seq.frame) :
    execBlockNotSealed s = .next (skipBlocks ts s) := by
  simp [execBlockNotSealed, hdue, h]

theorem sealRow_keeps {u t : State} (ht : sealRow r u = t) :
    t.sec.due = u.sec.due ∧ (∃ b, t.sec.rowBlocks = (b :: u.sec.rowBlocks).take 8 ∧ b.seq = u.sec.rowNext ∧
      b.prevHash = u.sec.rowPrev ∧ b = { r with seq := b.seq, prevHash := b.prevHash, signature := b.signature }) ∧
    t.sec.rowNext = (u.sec.rowNext + 1) % 4294967296 ∧ t.sec.tenants = u.sec.tenants ∧
    t.sent = .block 0xFFFF u.sec.rowNext :: u.sent := by
  subst ht
  exact ⟨rfl, ⟨_, rfl, rfl, rfl, rfl⟩, rfl, rfl, rfl⟩

theorem skipBlocks_row_keeps {t : State} (ht : skipBlocks [] s = t) :
    t.sec.due = none ∧ t.sec.rowNext = (s.sec.rowNext + 1) % 4294967296 ∧ t.sec.rowBlocks = s.sec.rowBlocks ∧
      t.sec.rowPrev = s.sec.rowPrev ∧ t.sec.counters = upd s.sec.counters 9 cnt ∧
      t.log = logPost s.log (mkEvent s 0xE040 0xFFFF 0xFFFF []) ∧ t = { s with sec := t.sec, log := t.log } := by
  subst ht
  exact ⟨rfl, rfl, rfl, rfl, rfl, rfl, rfl⟩

/-- What a sealed block makes of its tenant's record. -/
def sealedIn (b : TenantBlock) (x : TenantSec) : TenantSec := { x with
  chainGen := some b.tgen, nextSeq := (b.seq + 1) % 4294967296, prevTag := b.tag, lastSeq := b.seq
  blocks := (b :: x.blocks).take 4 }

/-- A block with its place in the chain of its tenant. -/
def chained (b : TenantBlock) (s : State) : TenantBlock :=
  { b with
    seq := (chainOf (tenantSec s b.tenant) b.tgen).1, prevTag := (chainOf (tenantSec s b.tenant) b.tgen).2 }

/-- A block as it is sealed. -/
def sealed (b : TenantBlock) (s : State) : TenantBlock := { chained b s with
  tag := Config.telTag (tenantCfg s b.tenant).key b.tgen (leBytes 80 (pack (tenantFields (chained b s)))) % 2 ^ 128 }

theorem tenants_sealTenant (b : TenantBlock) (s : State) :
    (sealTenant b s).sec.tenants = upd s.sec.tenants b.tenant (sealedIn (sealed b s)) := rfl

theorem tenantSec_sealTenant_self {b : TenantBlock} (h : b.tenant < s.sec.tenants.length) :
    tenantSec (sealTenant b s) b.tenant = sealedIn (sealed b s) (tenantSec s b.tenant) :=
  (congrArg (fun l => l.getD b.tenant {}) (tenants_sealTenant b s)).trans (getD_upd_self _ _ _ _ h)

theorem tenantSec_sealTenant_ne {b : TenantBlock} {j : Nat} (h : j ≠ b.tenant) :
    tenantSec (sealTenant b s) j = tenantSec s j :=
  (congrArg (fun l => l.getD j {}) (tenants_sealTenant b s)).trans (getD_upd_ne _ _ _ _ _ h.symm)

end

/-- Settles O46: one answer for each request, and the chain of the blocks. -/
theorem spdmAnswersAndTelemetryBlocks : Obligations.SpdmAnswersAndTelemetryBlocks := by
  refine ⟨?_, ?_, ?_, ?_, ?_, ?_, ?_, ?_, ?_, ?_, ?_, ?_, ?_, ?_, ?_, ?_, ?_, ?_, ?_, ?_, ?_, ?_⟩
  · intro s i hcore hopen hout
    exact ⟨_, rfl, spdmAnswer_keeps 1 [0x12] hcore hopen hout rfl⟩
  · intro s i hcore hopen hout
    obtain ⟨hsent, -, heq⟩ := spdmAnswer_keeps 2 [1, 1, 2] hcore hopen hout rfl
    exact ⟨_, rfl, hsent, heq⟩
  · intro s i a b hcore hopen hout
    obtain ⟨hsent, -, heq⟩ :=
      spdmAnswer_keeps (if a && b then 3 else 0) (if a && b then [1, 1] else [1]) hcore hopen hout rfl
    refine ⟨_, execNegotiateAlgorithms_eq a b s, ?_, heq⟩
    rw [hsent]
    cases a && b <;> rfl
  · intro s i hcore hopen hout
    obtain ⟨hsent, -, heq⟩ :=
      spdmAnswer_keeps 4 ((if s.sec.slot1.isSome then 3 else 1) :: chainDigests s) hcore hopen hout rfl
    exact ⟨_, chainDigests s, rfl, hsent, length_chainDigests s, heq⟩
  · intro s i o n c hcore hopen hout hc ho
    obtain ⟨hsent, -, heq⟩ := spdmAnswer_keeps 5 ((c.drop o).take n) hcore hopen hout rfl
    exact ⟨_, execGetCertificate_of_installed n hc ho, hsent, heq⟩
  · intro s i o n k nonce hcore hopen hout hk
    obtain ⟨hsent, -⟩ := spdmAnswer_keeps 0 [1] hcore hopen hout rfl
    exact ⟨_, execGetCertificate_of_none o n hk, execChallenge_of_none nonce hk, hsent⟩
  · intro s i nonce hcore hopen hout
    obtain ⟨d, hlen, hchallenge⟩ := execChallenge_of_vendor i nonce s
    obtain ⟨hsent, -, heq⟩ := spdmAnswer_keeps 6 (0 :: d) hcore hopen hout rfl
    exact ⟨_, d, hchallenge, hsent, hlen, heq⟩
  · intro s i nonce hcore hopen hout
    obtain ⟨hsent, -, heq⟩ := spdmAnswer_keeps 7 [8] hcore hopen hout rfl
    exact ⟨_, execGetMeasurements_of_unsigned (index := 0) (served_of_open hcore hopen) rfl nonce, hsent, heq⟩
  · intro s i nonce hcore hopen hout
    obtain ⟨hsent, -⟩ := spdmAnswer_keeps 7 (leBytes 48 s.key.digest) hcore hopen hout rfl
    exact ⟨_, execGetMeasurements_of_unsigned (index := 3) (served_of_open hcore hopen) rfl nonce, hsent⟩
  · intro s i nonce hcore hopen hout hnone
    have hserved := served_of_open hcore hopen
    have hi := lt_of_isOpen hopen
    obtain ⟨d, hmeasure⟩ := execGetMeasurements_of_signed (index := 3) hserved rfl nonce hout
    rw [noteAttested_of_first ((attested_spdmAnswer 7 d hserved hout hi).trans hnone)] at hmeasure
    obtain ⟨hsent, -, heq⟩ := spdmAnswer_keeps 7 d hcore hopen hout rfl
    obtain ⟨hcounters, hattested, hlog, hsame⟩ :=
      attestNoted_keeps heq ((length_sessions_spdmAnswer 7 d hserved hout hi).symm ▸ hi) rfl
    refine ⟨_, hmeasure, hcounters, hattested, hlog, ?_⟩
    rw [hsame, hsent]
    rfl
  · intro s i nonce t0 hcore hopen hout hsome hrecent
    have hserved := served_of_open hcore hopen
    have hi := lt_of_isOpen hopen
    obtain ⟨d, hmeasure⟩ := execGetMeasurements_of_signed (index := 3) hserved rfl nonce hout
    obtain ⟨-, -, heq⟩ := spdmAnswer_keeps 7 d hcore hopen hout rfl
    have hrow : rowNs (spdmAnswer i 7 d s) = rowNs s := by rw [heq]; rfl
    rw [noteAttested_of_recent ((attested_spdmAnswer 7 d hserved hout hi).trans hsome) (hrow.symm ▸ hrecent)]
      at hmeasure
    refine ⟨_, hmeasure, ?_, ?_⟩
    · rw [heq]
      rfl
    · rw [heq]
      rfl
  · intro s i hcore hopen hout
    obtain ⟨hsent, -, heq⟩ := spdmAnswer_keeps 0 [7] hcore hopen hout rfl
    exact ⟨_, rfl, hsent, heq⟩
  · intro s i hclosed
    have hsame (code : Nat) (data : List Nat) := congrArg (Host.Outcome.next (φ := Fault) (ρ := Refusal))
      (spdmAnswer_of_closed (i := i) code data hclosed)
    exact ⟨hsame _ _, hsame _ _, hsame _ _, execGetMeasurements_of_closed 1 0 true hclosed, hsame _ _⟩
  · intro s i hcore hopen hwaits hroom
    have hi := lt_of_isOpen hopen
    have hanswer := spdmAnswer_of_room 1 [0x12] (served_of_open hcore hopen) hroom hi
    rw [if_pos hwaits] at hanswer
    have hbusy : (session s i).outbox ≠ [] := fun h => by simp [spdmWaits_of_idle h] at hwaits
    exact ⟨_, congrArg Host.Outcome.next hanswer, answer_busy_keeps hi hbusy _ rfl⟩
  · intro s i hcore hopen hwaits hbusy hroom
    have hi := lt_of_isOpen hopen
    have hanswer := spdmAnswer_of_room 1 [0x12] (served_of_open hcore hopen) hroom hi
    rw [hwaits, if_neg Bool.false_ne_true] at hanswer
    exact ⟨_, congrArg Host.Outcome.next hanswer, answer_busy_keeps hi hbusy _ rfl⟩
  · intro s i f h hdue
    exact ⟨_, execSessionLockoutEnd_of_due h hdue, session_updSession_self _ (lt_of_lockout h),
      fun j hj => session_updSession_ne _ _ hj, rfl⟩
  · intro s i f h hearly
    exact execSessionLockoutEnd_of_early h hearly
  · intro s k r hdue hlo hhi
    obtain ⟨hnone, ⟨b, hblocks, hseq, hprev, hb⟩, hnext, htenants, hsent⟩ :=
      sealRow_keeps (r := r) (u := setSec (fun c => { c with due := none }) s) rfl
    exact ⟨_, b, execTelemetryBlockSeal_of_due hdue hlo hhi, hnone, hblocks, hseq, hprev, hb, hnext, htenants, hsent⟩
  · intro s b hb
    refine ⟨sealed b s, ?_⟩
    rw [tenantSec_sealTenant_self hb]
    exact ⟨rfl, rfl, rfl, rfl, rfl, rfl, rfl, fun k hk => tenantSec_sealTenant_ne hk⟩
  · intro s k ts r hdue
    exact ⟨execTelemetryBlockSeal_of_early hdue, execBlockNotSealed_of_early hdue⟩
  · intro s k r hdue hlate
    exact ⟨_, execBlockNotSealed_of_late hdue hlate, skipBlocks_row_keeps rfl⟩
  · intro s h
    simp [exec, execTelemetryBlockSeal, execBlockNotSealed, h]

end Sys2Proof.Machine
end

section
/-! SUPPORT. The records of the link ports under a packet sent, and what the partner sends (R504, R507 to R510, R535):
settles O42. -/

namespace Sys2Proof.Machine

/-! A port's record under an update of one of them. -/

theorem lport_updPort_self {p : Nat} {s : State} (hp : p < s.link.ports.length) (f : LinkPort → LinkPort) :
    lport (updPort p f s) p = f (lport s p) := getD_upd_self _ _ _ _ hp

theorem lport_updPort_ne {p q : Nat} (h : q ≠ p) (f : LinkPort → LinkPort) (s : State) :
    lport (updPort p f s) q = lport s q := getD_upd_ne _ _ _ _ _ h.symm

@[simp] theorem length_ports_updPort (p : Nat) (f : LinkPort → LinkPort) (s : State) :
    (updPort p f s).link.ports.length = s.link.ports.length := length_upd _ _ _

/-- Two states that differ in the links and in what has left at most. -/
def OnlyLink (s t : State) : Prop := t = { s with link := t.link, sent := t.sent }

theorem OnlyLink.trans {s t u : State} (h : OnlyLink s t) (h' : OnlyLink t u) : OnlyLink s u := by
  obtain ⟨l, hl⟩ : ∃ l, l = t.link := ⟨_, rfl⟩
  obtain ⟨m, hm⟩ : ∃ m, m = t.sent := ⟨_, rfl⟩
  rw [OnlyLink, ← hl, ← hm] at h
  subst h
  exact h'

theorem onlyLink_updPort (p : Nat) (f : LinkPort → LinkPort) (s : State) : OnlyLink s (updPort p f s) := rfl

/-! A packet of the reliable class. -/

/-- A port that has put a packet into its replay buffer. -/
def withPacket (k : ReplayPkt) (y : LinkPort) : LinkPort := { y with sendPn := y.sendPn + 1, replay := y.replay ++ [k] }

theorem sendReliable_eq (p type op tag tgen : Nat) (payload : List Nat) (s : State) : ∃ d k,
    sendReliable p type op tag tgen payload s = send (.link p d) (updPort p (withPacket k) s) := ⟨_, _, rfl⟩

theorem onlyLink_send (tx : Tx) (s : State) : OnlyLink s (send tx s) := rfl

/-- What sending a packet changes. -/
theorem sendReliable_keeps {p type op tag tgen : Nat} {payload : List Nat} {s t : State} (hp : p < s.link.ports.length)
    (ht : sendReliable p type op tag tgen payload s = t) :
    (∃ d, t.sent = .link p d :: s.sent) ∧ (∃ k, lport t p = withPacket k (lport s p)) ∧
      (∀ q, q ≠ p → lport t q = lport s q) ∧ t.link.ports.length = s.link.ports.length ∧ OnlyLink s t := by
  obtain ⟨d, k, heq⟩ := sendReliable_eq p type op tag tgen payload s
  rw [heq] at ht
  subst ht
  exact ⟨⟨d, rfl⟩, ⟨k, lport_updPort_self hp _⟩, fun q hq => lport_updPort_ne hq _ _, length_ports_updPort _ _ _,
    (onlyLink_updPort _ _ _).trans (onlyLink_send _ _)⟩

/-! A transaction. -/

/-- A port that differs in its tags, its transactions and its packets at most. -/
def SameTxns (x y : LinkPort) : Prop := y = { x with
  freeTags := y.freeTags, txns := y.txns, waiting := y.waiting, sendPn := y.sendPn, replay := y.replay }

theorem sendTxn_keeps {p item tries : Nat} {att : Bool} {s t : State} (hp : p < s.link.ports.length)
    (ht : sendTxn p att item tries s = t) :
    SameTxns (lport s p) (lport t p) ∧ OnlyLink s t := by
  subst ht
  unfold sendTxn
  dsimp only
  split
  · exact ⟨rfl, rfl⟩
  next tag rest _ =>
    split
    · rw [lport_updPort_self hp]
      exact ⟨rfl, onlyLink_updPort _ _ _⟩
    · obtain ⟨-, ⟨k, hself⟩, -, -, honly⟩ := sendReliable_keeps ((length_ports_updPort _ _ _).symm ▸ hp) rfl
      rw [hself, lport_updPort_self hp]
      exact ⟨rfl, (onlyLink_updPort _ _ _).trans honly⟩

/-! HEALTH. -/

section
variable {s : State}

theorem execHealthSend_of_due (hup : (lport s 64).state = .up) (hdue : s.pair.lastHealthSent + 1000 ≤ s.seq.frame) :
    execHealthSend s = .next (sendReliable 64 8 0 0 0 (healthBytes (ownHealth s))
      (setPair (fun q => { q with lastHealthSent := s.seq.frame }) s)) := by
  simp [execHealthSend, portUp, hup, hdue]

theorem execHealthSend_of_not_due (h : (lport s 64).state ≠ .up ∨ s.seq.frame < s.pair.lastHealthSent + 1000) :
    execHealthSend s = .next s := by
  rcases h with h | h <;> simp [execHealthSend, portUp, h, Nat.not_le.mpr]

/-- The pair's record after a HEALTH of the partner. -/
def partnerHeard (m : HealthMsg) (s : State) : PairSt := { s.pair with
  partner := m, partnerSeen := true, healthFrame := some s.seq.frame
  pairHold := if m.pairHold = s.pair.partner.pairHold then s.pair.pairHold else m.pairHold
  conflict := s.pair.conflict && (strapInvalid s || m.strap = s.pow.slotStrap)
  termSeen := max s.pair.termSeen m.term }

theorem execHealthReceived_eq (b : List Nat) (s : State) :
    execHealthReceived b s = .next { s with pair := partnerHeard (parseHealth b) s } := rfl

/-- The last HEALTH of the partner lies 3,000 frames back. -/
def partnerSilent (s : State) : Bool := match s.pair.healthFrame with
  | some f => decide (f + 3000 ≤ s.seq.frame)
  | none => decide (3000 ≤ s.seq.frame)

theorem partnerSilent_of_some {f : Nat} (hf : s.pair.healthFrame = some f) :
    partnerSilent s = decide (f + 3000 ≤ s.seq.frame) := by rw [partnerSilent, hf]

/-- The partner is seen no more. -/
def partnerLost (s : State) : State := setPair (fun p => { p with partnerSeen := false }) s

theorem execPartnerSilent_eq (s : State) : execPartnerSilent s =
    .next (if partnerSilent s && !(isSingle s) then postRun 0xD040 (partnerLost s) else s) := rfl

theorem execPartnerSilent_of_old {f : Nat} (hf : s.pair.healthFrame = some f) (hold : f + 3000 ≤ s.seq.frame)
    (hpair : isSingle s = false) : execPartnerSilent s = .next (postRun 0xD040 (partnerLost s)) := by
  rw [execPartnerSilent_eq, partnerSilent_of_some hf, decide_eq_true hold, hpair]
  rfl

theorem execPartnerSilent_of_recent {f : Nat} (hf : s.pair.healthFrame = some f) (hrecent : s.seq.frame < f + 3000) :
    execPartnerSilent s = .next s := by
  rw [execPartnerSilent_eq, partnerSilent_of_some hf, decide_eq_false (Nat.not_le.mpr hrecent)]
  rfl

theorem queue_postRun_of_unseen {code : Nat} (h : runSeen code 0xFFFF 10000 s = false) :
    (postRun code s).log.queue = (logPost s.log (mkEvent s code 0xFFFF 0xFFFF [])).queue := by
  rw [postRun, h, if_neg Bool.false_ne_true]
  exact queue_logPost_markRun code 0xFFFF s (mkEvent s code 0xFFFF 0xFFFF [])

theorem swapAcceptable_of_unseen (h : s.pair.partnerSeen = false) (x : SwapSource) : swapAcceptable s x = false := by
  simp [swapAcceptable, h]

/-! MARK. -/

/-- The pair's record after a MARK of the partner, but for the term. -/
def markHeard (m : MarkMsg) (s : State) : PairSt := { s.pair with
  delta := (s.seq.frame : Int) + 1 - m.frame
  mark := if m.holder then m else s.pair.mark
  holderMark := if m.holder then some s.seq.frame else s.pair.holderMark
  termSeen := max s.pair.termSeen m.term }

/-- The term of the unit after a MARK of term `m`. -/
def termAfter (m : Nat) (s : State) : Nat :=
  if (s.pair.role = .control || s.pair.role = .handing) && s.pair.term < m then (m + 1) % 4294967296 else s.pair.term

theorem execMarkReceived_eq (b : List Nat) (s : State) : execMarkReceived b s = .next { s with
    pair := { markHeard (parseMark b) s with term := termAfter (parseMark b).term s } } := by
  have hterm : termUpdate (parseMark b).term { s with pair := { s.pair with
        delta := (s.seq.frame : Int) + 1 - (parseMark b).frame
        mark := if (parseMark b).holder then parseMark b else s.pair.mark
        holderMark := if (parseMark b).holder then some s.seq.frame else s.pair.holderMark } } =
      { s with pair := { markHeard (parseMark b) s with term := termAfter (parseMark b).term s } } := by
    unfold termUpdate termAfter
    dsimp only
    split <;> rfl
  exact congrArg Host.Outcome.next hterm

theorem termAfter_of_higher {m : Nat} (hrole : s.pair.role = .control) (hlt : s.pair.term < m) :
    termAfter m s = (m + 1) % 4294967296 := by
  simp [termAfter, hrole, hlt]

theorem termAfter_of_not_higher {m : Nat} (h : m ≤ s.pair.term) : termAfter m s = s.pair.term := by
  simp [termAfter, Nat.not_lt.mpr h]

theorem termAfter_of_other {m : Nat} (hc : s.pair.role ≠ .control) (hh : s.pair.role ≠ .handing) :
    termAfter m s = s.pair.term := by
  simp [termAfter, hc, hh]

/-! The attestation of the partner. -/

/-- A port without a new attestation due. -/
def noRetry (x : LinkPort) : LinkPort := { x with retryAt := none }

/-- A port whose attestation begins. -/
def attestBegun (frame : Nat) (x : LinkPort) : LinkPort :=
  { x with attStart := some frame, attStep := 0, retryAt := none }

theorem execPartnerAttestRetry_of_due {f : Nat} (hf : (lport s 64).retryAt = some f) (hdue : f ≤ s.seq.frame)
    (hstate : (lport s 64).state = .attesting) :
    execPartnerAttestRetry s = .next (startAttest 64 (updPort 64 noRetry s)) := by
  simp only [execPartnerAttestRetry, hf, hstate, hdue]
  rfl

theorem execPartnerAttestRetry_of_early {f : Nat} (hf : (lport s 64).retryAt = some f) (h : s.seq.frame < f) :
    execPartnerAttestRetry s = .next s := by
  simp [execPartnerAttestRetry, hf, Nat.not_le.mpr h]

section
variable {p : Nat} (hstate : (lport s p).state = .attesting) (hready : s.pow.ready = true)
  (hstart : (lport s p).attStart = none)
include hstate hready hstart

theorem startAttest_of_drbg (hdrbg : s.sec.drbgOk = true) :
    startAttest p s = sendTxn p true 0 0 (updPort p (attestBegun s.seq.frame) s) := by
  simp [startAttest, hstate, hready, hstart, hdrbg]
  rfl

theorem startAttest_of_no_drbg (hdrbg : s.sec.drbgOk = false) :
    startAttest p s = updPort p (fun x => { x with retryAt := some (s.seq.frame + 100000) }) s := by
  simp [startAttest, hstate, hready, hstart, hdrbg]

/-- An attestation begins. -/
theorem startAttest_keeps (hp : p < s.link.ports.length) (hdrbg : s.sec.drbgOk = true) {t : State}
    (ht : startAttest p s = t) : SameTxns (attestBegun s.seq.frame (lport s p)) (lport t p) ∧ OnlyLink s t := by
  rw [startAttest_of_drbg hstate hready hstart hdrbg] at ht
  obtain ⟨hself, honly⟩ := sendTxn_keeps ((length_ports_updPort _ _ _).symm ▸ hp) ht
  rw [lport_updPort_self hp] at hself
  exact ⟨hself, (onlyLink_updPort _ _ _).trans honly⟩

end

end

/-- Settles O42: what the pair's record and the partner's port take. -/
theorem healthAndMarksOfThePartner : Obligations.HealthAndMarksOfThePartner := by
  refine ⟨?_, fun s => execHealthSend_of_not_due, ?_, ?_, fun s f => execPartnerSilent_of_recent, ?_, ?_,
    fun s f => execPartnerAttestRetry_of_early, ?_⟩
  · intro s hlen hup hdue
    obtain ⟨⟨d, hsent⟩, ⟨k, hself⟩, -, -, honly⟩ := sendReliable_keeps (p := 64) (type := 8) (op := 0) (tag := 0)
      (tgen := 0) (payload := healthBytes (ownHealth s))
      (s := setPair (fun q => { q with lastHealthSent := s.seq.frame }) s) hlen rfl
    have hexec := execHealthSend_of_due hup hdue
    generalize sendReliable 64 8 0 0 0 (healthBytes (ownHealth s))
      (setPair (fun q => { q with lastHealthSent := s.seq.frame }) s) = t at hexec hsent hself honly
    refine ⟨t, hexec, congrArg State.pair honly, congrArg List.length hsent, ?_, ?_, ?_⟩
    · rw [hself]
      rfl
    · rw [hself]
      exact List.length_append
    · rw [honly]
      rfl
  · intro s b m hm
    subst hm
    exact ⟨_, execHealthReceived_eq b s, rfl, rfl, rfl, rfl, fun h => if_neg h, fun h => if_pos h, rfl, rfl, rfl⟩
  · intro s f hf hold hpair
    have hpost := postRun_eq 0xD040 0xFFFF (partnerLost s)
    have hqueue : runSeen 0xD040 0xFFFF 10000 s = false → (postRun 0xD040 (partnerLost s)).log.queue =
        (logPost s.log (mkEvent s 0xD040 0xFFFF 0xFFFF [])).queue := queue_postRun_of_unseen (s := partnerLost s)
    have hexec := execPartnerSilent_of_old hf hold hpair
    generalize postRun 0xD040 (partnerLost s) = t at hpost hqueue hexec
    refine ⟨t, hexec, congrArg State.pair hpost, hqueue, ?_, swapAcceptable_of_unseen ?_⟩
    · rw [hpost]
      rfl
    · rw [hpost]
      rfl
  · intro s b m hm
    subst hm
    exact ⟨_, execMarkReceived_eq b s, rfl, rfl, fun h => if_pos h, rfl, termAfter_of_higher, termAfter_of_not_higher,
      termAfter_of_other, rfl⟩
  · intro s f hlen hf hdue hstate hstart hready
    have hexec := execPartnerAttestRetry_of_due hf hdue hstate
    have hself : lport (updPort 64 noRetry s) 64 = noRetry (lport s 64) := lport_updPort_self hlen _
    have hstate' : (lport (updPort 64 noRetry s) 64).state = .attesting := by rw [hself]; exact hstate
    have hstart' : (lport (updPort 64 noRetry s) 64).attStart = none := by rw [hself]; exact hstart
    have hlen' : 64 < (updPort 64 noRetry s).link.ports.length := (length_ports_updPort _ _ _).symm ▸ hlen
    refine ⟨fun hdrbg => ?_, fun hdrbg => ?_⟩
    · obtain ⟨hport, honly⟩ := startAttest_keeps (s := updPort 64 noRetry s) hstate' hready hstart' hlen' hdrbg rfl
      generalize startAttest 64 (updPort 64 noRetry s) = t at hexec hport honly
      refine ⟨t, hexec, ?_, ?_, ?_, (onlyLink_updPort _ _ _).trans honly⟩
      · rw [hport]
        rfl
      · rw [hport]
        rfl
      · rw [hport]
        rfl
    · rw [startAttest_of_no_drbg (s := updPort 64 noRetry s) hstate' hready hstart' hdrbg] at hexec
      refine ⟨_, hexec, ?_, ?_, rfl⟩
      · rw [lport_updPort_self hlen']
        rfl
      · rw [lport_updPort_self hlen']
        exact hstart'
  · intro s h
    simp [exec, execPartnerAttestRetry, h]

end Sys2Proof.Machine
end

section
/-! SUPPORT. The states of a link port (R350, R351, R369, R373, R374): training, attestation, loss and quarantine;
settles O27. -/

namespace Sys2Proof.Machine

/-! What a port's end leaves. -/

section
variable {s t : State} {p : Nat}

/-- A session's end for a port: what the end changes, but for the tags that its transactions free. -/
def sessionEnded (x : LinkPort) : LinkPort := { x with
  session := false, waiting := [], replay := [], sendPn := 0, expectPn := 0, nakPn := none, ctlSend := 0
  ctlLast := none, timeouts := 0, rekey := none, keyDue := false, keyGen := 0, pingFrame := none
  attStart := none, attStep := 0, attPortion := 0, cfgStep := 0, descs := [], secret := 0, rxGen := 0
  phaseFrame := none }

/-- The sites of a port do not answer any more; the links are as they were. -/
theorem link_siteDown (i : Nat) (s : State) : (siteDown i s).link = s.link := by
  unfold siteDown
  split <;> rfl

theorem length_sites_siteDown (i : Nat) (s : State) : (siteDown i s).caps.sites.length = s.caps.sites.length := by
  unfold siteDown
  split
  · exact length_upd _ _ _
  · rfl

/-- A site of a lost link. -/
def siteLost (t : State) (i : Nat) : State := updSiteC i (fun x => { x with validRun := 0 }) (siteDown i t)

theorem sitesDown_eq (p : Nat) (s : State) : sitesDown p s = (portSites s p).foldl siteLost s := rfl

theorem link_siteLost (t : State) (i : Nat) : (siteLost t i).link = t.link := link_siteDown i t

theorem length_sites_siteLost (t : State) (i : Nat) : (siteLost t i).caps.sites.length = t.caps.sites.length :=
  (length_upd _ _ _).trans (length_sites_siteDown i t)

theorem response_siteDown_self {i : Nat} (hi : i < s.caps.sites.length) :
    (siteC (siteDown i s) i).response ≠ .responsive := by
  unfold siteDown
  split
  · have hself : siteC (post 0x9027 (updSiteC i (fun x => { x with response := .unresponsive, validRun := 0 }) s) i) i =
        { siteC s i with response := .unresponsive, validRun := 0 } := siteC_updSiteC_self hi _
    rw [hself]
    exact fun h => nomatch h
  next h => simpa [responsive] using h

theorem response_siteDown_ne {i j : Nat} (h : (siteC s j).response ≠ .responsive) :
    (siteC (siteDown i s) j).response ≠ .responsive := by
  unfold siteDown
  split
  · have hget : siteC (post 0x9027 (updSiteC i (fun x => { x with response := .unresponsive, validRun := 0 }) s) i) j =
        if i = j ∧ j < s.caps.sites.length then { siteC s j with response := .unresponsive, validRun := 0 }
        else siteC s j := siteC_updSiteC _ _ _ _
    rw [hget]
    split
    · exact fun h => nomatch h
    · exact h
  · exact h

theorem response_siteLost_iff (t : State) (i j : Nat) :
    (siteC (siteLost t i) j).response = (siteC (siteDown i t) j).response := by
  rw [siteLost, siteC_updSiteC]
  split <;> rfl

theorem response_sitesDown {i : Nat} (hmem : i ∈ portSites s p) (hi : i < s.caps.sites.length) :
    (siteC (sitesDown p s) i).response ≠ .responsive := by
  rw [sitesDown_eq]
  refine foldl_reaches (P := fun t => (siteC t i).response ≠ .responsive)
    (Q := fun t => i < t.caps.sites.length) (fun t j h => ?_) (fun t j _ h => ?_) (fun t h => ?_) hmem hi
  · rwa [length_sites_siteLost]
  · rw [response_siteLost_iff]
    exact response_siteDown_ne h
  · rw [response_siteLost_iff]
    exact response_siteDown_self h

theorem link_sitesDown (p : Nat) (s : State) : (sitesDown p s).link = s.link :=
  foldl_keeps State.link siteLost link_siteLost _ _

theorem primedUnacked_keeps (p : Nat) (s : State) :
    (primedUnacked p s).link = s.link ∧ (primedUnacked p s).caps = s.caps := by
  unfold primedUnacked
  split <;> exact ⟨rfl, rfl⟩

theorem length_ports_foldl {α : Type} (f : α → Nat) (l : List α) (s : State) :
    (l.foldl (fun t x => freeTag p (f x) t) s).link.ports.length = s.link.ports.length :=
  foldl_keeps (fun t : State => t.link.ports.length) _ (fun _ _ => length_ports_updPort _ _ _) _ _

theorem caps_endSession (p : Nat) (s : State) : (endSession p s).caps = s.caps :=
  foldl_keeps State.caps (fun t (x : Txn) => freeTag p x.tag t) (fun _ _ => rfl) (lport s p).txns s

theorem length_ports_endSession (p : Nat) (s : State) : (endSession p s).link.ports.length = s.link.ports.length :=
  (length_ports_updPort _ _ _).trans (length_ports_foldl Txn.tag _ _)

/-- The record of a port whose session has ended. -/
theorem lport_endSession (hp : p < s.link.ports.length) : ∃ x, lport (endSession p s) p = sessionEnded x :=
  ⟨_, lport_updPort_self ((length_ports_foldl Txn.tag _ s).symm ▸ hp) _⟩

/-- What the end of a port's session leaves. -/
theorem portEnds_keeps (hp : p < s.link.ports.length) (ht : portEnds p s = t) :
    t.link.ports.length = s.link.ports.length ∧ (∃ x, lport t p = sessionEnded x) ∧
      ∀ i ∈ portSites s p, i < s.caps.sites.length → (siteC t i).response ≠ .responsive := by
  obtain ⟨hlink, hcaps⟩ := primedUnacked_keeps p (sitesDown p s)
  have hlen : (primedUnacked p (sitesDown p s)).link.ports.length = s.link.ports.length := by
    rw [hlink, link_sitesDown]
  subst ht
  refine ⟨(length_ports_endSession _ _).trans hlen, lport_endSession (hlen.symm ▸ hp), fun i hmem hi => ?_⟩
  have hsite : siteC (portEnds p s) i = siteC (sitesDown p s) i :=
    congrArg (fun x => x.sites.getD i {}) ((caps_endSession _ _).trans hcaps)
  rw [hsite]
  exact response_sitesDown hmem hi

end

/-! The state of a port. -/

section
variable {s t : State} {p : Nat}

/-- A port in a state, entered in some frame. -/
theorem lport_setPortState (hp : p < s.link.ports.length) (st : PortState) :
    ∃ f, lport (setPortState p st s) p = { lport s p with state := st, stateFrame := f } := by
  rw [setPortState, lport_updPort_self hp]
  dsimp only
  split
  next h => exact ⟨(lport s p).stateFrame, by rw [← h]⟩
  · exact ⟨_, rfl⟩

/-- A port that has been trained. -/
def trained (frame c : Nat) (d : List Int) (x : LinkPort) : LinkPort := { x with
  trainFails := 0, ctle := c % 16, dfe := d.take 3, attStart := none, retryAt := none, lastValid := frame }

/-- The port after its training, before its attestation. -/
def readyToAttest (p c : Nat) (d : List Int) (s : State) : State :=
  setPortState p .attesting (updPort p (trained s.seq.frame c d) s)

theorem execTrainingComplete_of_training (c : Nat) (d : List Int) (h : (lport s p).state = .training) :
    execTrainingComplete p c d s = .next (startAttest p (readyToAttest p c d s)) :=
  congrArg Host.Outcome.next (if_pos h)

theorem lport_readyToAttest (hp : p < s.link.ports.length) (c : Nat) (d : List Int) :
    ∃ f, lport (readyToAttest p c d s) p =
      { trained s.seq.frame c d (lport s p) with state := .attesting, stateFrame := f } := by
  obtain ⟨f, hf⟩ := lport_setPortState (s := updPort p (trained s.seq.frame c d) s)
    ((length_ports_updPort _ _ _).symm ▸ hp) .attesting
  rw [lport_updPort_self hp] at hf
  exact ⟨f, hf⟩

theorem onlyLink_startAttest (p : Nat) (s : State) (hp : p < s.link.ports.length) : OnlyLink s (startAttest p s) := by
  unfold startAttest
  split
  · rfl
  split
  · exact onlyLink_updPort _ _ _
  · exact (onlyLink_updPort _ _ _).trans (sendTxn_keeps ((length_ports_updPort _ _ _).symm ▸ hp) rfl).2

/-- A port that differs in its attestation, its tags, its transactions and its packets at most. -/
def SameAttest (x y : LinkPort) : Prop := y = { x with
  attStart := y.attStart, attStep := y.attStep, retryAt := y.retryAt
  freeTags := y.freeTags, txns := y.txns, waiting := y.waiting, sendPn := y.sendPn, replay := y.replay }

theorem sameAttest_of_sameTxns {frame : Nat} {x y : LinkPort} (h : SameTxns (attestBegun frame x) y) :
    SameAttest x y := by
  rw [SameAttest, h]
  rfl

theorem lport_startAttest (hp : p < s.link.ports.length) : SameAttest (lport s p) (lport (startAttest p s) p) := by
  unfold startAttest
  split
  · rfl
  split
  · rw [lport_updPort_self hp]
    rfl
  · obtain ⟨hself, -⟩ := sendTxn_keeps (s := updPort p (attestBegun s.seq.frame) s) (p := p) (att := true) (item := 0)
      (tries := 0) ((length_ports_updPort _ _ _).symm ▸ hp) rfl
    rw [lport_updPort_self hp] at hself
    exact sameAttest_of_sameTxns hself

end

section
variable {s : State} {p : Nat}

/-- A port whose training is complete begins its attestation where the module can. -/
theorem execTrainingComplete_keeps (c : Nat) (d : List Int) (hp : p < s.link.ports.length)
    (h : (lport s p).state = .training) : ∃ t, execTrainingComplete p c d s = .next t ∧
      (lport t p).state = .attesting ∧ (lport t p).trainFails = 0 ∧ (lport t p).ctle = c % 16 ∧
      (lport t p).dfe = d.take 3 ∧ (lport t p).lastValid = s.seq.frame ∧
      (s.pow.ready = true → s.sec.drbgOk = true →
        (lport t p).attStart = some s.seq.frame ∧ (lport t p).attStep = 0) ∧
      t = { s with link := t.link, sent := t.sent } := by
  have hexec := execTrainingComplete_of_training c d h
  obtain ⟨f, hready⟩ := lport_readyToAttest hp c d
  have hlen : p < (readyToAttest p c d s).link.ports.length :=
    ((length_ports_updPort _ _ _).trans (length_ports_updPort _ _ _)).symm ▸ hp
  have hport := lport_startAttest hlen
  have honly : OnlyLink s (startAttest p (readyToAttest p c d s)) :=
    OnlyLink.trans (t := readyToAttest p c d s) rfl (onlyLink_startAttest p _ hlen)
  have hatt : s.pow.ready = true → s.sec.drbgOk = true →
      (lport (startAttest p (readyToAttest p c d s)) p).attStart = some s.seq.frame ∧
        (lport (startAttest p (readyToAttest p c d s)) p).attStep = 0 := by
    intro hpow hdrbg
    obtain ⟨hsame, -⟩ := startAttest_keeps (s := readyToAttest p c d s) (p := p) (by rw [hready]) hpow
      (by rw [hready]; rfl) hlen hdrbg rfl
    rw [hsame]
    exact ⟨rfl, rfl⟩
  rw [hready] at hport
  generalize startAttest p (readyToAttest p c d s) = t at hexec hport honly hatt
  exact ⟨t, hexec, congrArg LinkPort.state hport, congrArg LinkPort.trainFails hport, congrArg LinkPort.ctle hport,
    congrArg LinkPort.dfe hport, congrArg LinkPort.lastValid hport, hatt, honly⟩

end

/-! Attempts of the training. -/

section
variable {s : State} {p : Nat}

/-- A failed attempt of the training, with its event. -/
def attemptFailed (p : Nat) (s : State) : State :=
  post 0x9003 (updPort p (fun x => { x with trainFails := x.trainFails + 1 }) s) p

theorem lport_attemptFailed (hp : p < s.link.ports.length) :
    lport (attemptFailed p s) p = { lport s p with trainFails := (lport s p).trainFails + 1 } :=
  lport_updPort_self hp _

theorem length_ports_attemptFailed (p : Nat) (s : State) :
    (attemptFailed p s).link.ports.length = s.link.ports.length := length_ports_updPort _ _ _

theorem execTrainingAttemptFail_of_few (hp : p < s.link.ports.length) (h : (lport s p).state = .training)
    (hfew : (lport s p).trainFails < 2) : execTrainingAttemptFail p s = .next (attemptFailed p s) := by
  have hcount : decide (3 ≤ (lport (attemptFailed p s) p).trainFails) = false := by
    rw [lport_attemptFailed hp]
    exact decide_eq_false (by dsimp only; omega)
  refine congrArg Host.Outcome.next ((if_pos h).trans (if_neg ?_))
  change ¬ (decide (3 ≤ (lport (attemptFailed p s) p).trainFails) && _) = true
  rw [hcount]
  exact Bool.false_ne_true

/-- A port whose attempts are counted anew. -/
def noFails (x : LinkPort) : LinkPort := { x with trainFails := 0 }

theorem execTrainingAttemptFail_of_third (hp : p < s.link.ports.length) (hlink : p < 64)
    (h : (lport s p).state = .training) (hthird : (lport s p).trainFails = 2)
    (hfloor : (floorLine s p).asserted = false) :
    execTrainingAttemptFail p s = .next (cycleDomain p (updPort p noFails (attemptFailed p s))) := by
  have hcount : decide (3 ≤ (lport (attemptFailed p s) p).trainFails) = true := by
    rw [lport_attemptFailed hp]
    exact decide_eq_true (by dsimp only; omega)
  have hfloor' : (floorLine (attemptFailed p s) p).asserted = false := hfloor
  have hguard : (decide (3 ≤ (lport (attemptFailed p s) p).trainFails) &&
      !(decide (p < 64) && (floorLine (attemptFailed p s) p).asserted)) = true := by
    rw [hcount, hfloor', Bool.and_false]
    rfl
  have hdomain : (if p < 64 then p else 120) = p := if_pos hlink
  refine congrArg Host.Outcome.next ((if_pos h).trans ((if_pos hguard).trans ?_))
  rw [hdomain]
  rfl

theorem lt_of_domainOn {d : Nat} (h : domainOn s d = true) : d < s.pow.domains.length := by
  refine Classical.byContradiction fun hge => ?_
  rw [domainOn, getD_of_length_le _ _ (Nat.not_lt.mp hge)] at h
  exact absurd h (by decide)

/-- A domain that is cycled. -/
def cycled (d : Nat) (s : State) : State :=
  post 0x2024 (setDomain d (fun x => { x with state := .cycling, cycles := satAdd 16 x.cycles 1 }) s) d

theorem cycleDomain_of_on {d : Nat} (h : domainOn s d = true) : cycleDomain d s = cycled d s := if_pos h

theorem state_cycled {d : Nat} (h : d < s.pow.domains.length) :
    ((cycled d s).pow.domains.getD d {}).state = .cycling := by
  refine (congrArg Domain.state (getD_upd_self _ _ _ _ h)).trans ?_
  dsimp only
  split <;> rfl

theorem cycled_keeps (d : Nat) (s : State) : (cycled d s).link = s.link ∧ (cycled d s).caps = s.caps := ⟨rfl, rfl⟩

theorem lport_congr {t : State} (h : t.link = s.link) (p : Nat) : lport t p = lport s p :=
  congrArg (fun x => x.ports.getD p {}) h

end

/-! An attestation that fails. -/

section
variable {s t : State} {p : Nat}

theorem length_ports_sendTxn (p item tries : Nat) (att : Bool) (s : State) :
    (sendTxn p att item tries s).link.ports.length = s.link.ports.length := by
  unfold sendTxn
  dsimp only
  split
  · rfl
  split
  · exact length_ports_updPort _ _ _
  · exact (length_ports_updPort _ _ _).trans (length_ports_updPort _ _ _)

/-- A port whose attestation has failed. -/
def attestFailed (frame cause : Nat) (x : LinkPort) : LinkPort :=
  { x with retryAt := some (frame + 100000), leaveCause := cause }

/-- The state in which a failing attestation ends its session. -/
def attestEnding (p : Nat) (s : State) : State := if (lport s p).session then sendTxn p true 101 0 s else s

theorem length_ports_attestEnding (p : Nat) (s : State) :
    (attestEnding p s).link.ports.length = s.link.ports.length := by
  unfold attestEnding
  split
  · exact length_ports_sendTxn _ _ _ _ _
  · rfl

theorem lport_attestFails (hp : p < s.link.ports.length) (event cause : Nat) :
    ∃ x f, lport (attestFails p event cause s) p =
      { attestFailed s.seq.frame cause (sessionEnded x) with state := .attesting, stateFrame := f } := by
  obtain ⟨hlen, ⟨x, hx⟩, -⟩ := portEnds_keeps (s := attestEnding p s) (p := p)
    ((length_ports_attestEnding p s).symm ▸ hp) rfl
  have hp' : p < (portEnds p (attestEnding p s)).link.ports.length := by
    rwa [hlen, length_ports_attestEnding]
  obtain ⟨f, hf⟩ := lport_setPortState (s := updPort p (attestFailed s.seq.frame cause)
    (portEnds p (attestEnding p s))) ((length_ports_updPort _ _ _).symm ▸ hp') .attesting
  rw [lport_updPort_self hp', hx] at hf
  exact ⟨x, f, hf⟩

theorem execAttestationTimeout_of_due {f : Nat} (hf : (lport s p).attStart = some f)
    (hstate : (lport s p).state = .attesting) (hdue : f + 10000 ≤ s.seq.frame) :
    execAttestationTimeout p s = .next (attestFails p (if p < 64 then 0x9011 else 0xE031) 8 s) := by
  simp [execAttestationTimeout, hf, hstate, hdue]

theorem execAttestationTimeout_of_early {f : Nat} (hf : (lport s p).attStart = some f)
    (hearly : s.seq.frame < f + 10000) : execAttestationTimeout p s = .next s := by
  simp [execAttestationTimeout, hf, Nat.not_le.mpr hearly]

theorem execAttestationRetry_of_due {f : Nat} (hf : (lport s p).retryAt = some f) (hdue : f ≤ s.seq.frame)
    (hlink : p < 64) (hstate : (lport s p).state = .attesting) :
    execAttestationRetry p s = .next (startAttest p (updPort p noRetry s)) := by
  simp only [execAttestationRetry, hf, hstate, hdue, hlink]
  rfl

end

/-! A lost link, and a quarantine. -/

section
variable {s t : State} {p c : Nat}

/-- A port that leaves for a cause. -/
def leaving (c : Nat) (x : LinkPort) : LinkPort := { x with leaveCause := c }

/-- A port that enters the training. -/
def trainingEntered (frame : Nat) (x : LinkPort) : LinkPort := { x with
  trainCount := satAdd 16 x.trainCount 1, entries := frame :: x.entries.filter fun f => frame < f + 600000 }

theorem lport_enterTraining (hp : p < s.link.ports.length) : ∃ f, lport (enterTraining p s) p =
    { trainingEntered s.seq.frame (lport s p) with state := .training, stateFrame := f } := by
  obtain ⟨f, hf⟩ := lport_setPortState (s := updPort p (trainingEntered s.seq.frame) s)
    ((length_ports_updPort _ _ _).symm ▸ hp) .training
  rw [lport_updPort_self hp] at hf
  exact ⟨f, hf⟩

/-- A port that trains again after its end, with its event. -/
def retrained (p c : Nat) (s : State) : State := post 0x9002 (enterTraining p (updPort p (leaving c) s)) p c

theorem lport_retrained (hp : p < s.link.ports.length) (c : Nat) : ∃ f, lport (retrained p c s) p =
    { trainingEntered s.seq.frame (leaving c (lport s p)) with state := .training, stateFrame := f } := by
  obtain ⟨f, hf⟩ := lport_enterTraining (s := updPort p (leaving c) s) ((length_ports_updPort _ _ _).symm ▸ hp)
  rw [lport_updPort_self hp] at hf
  exact ⟨f, hf⟩

theorem siteC_retrained (p c i : Nat) (s : State) : siteC (retrained p c s) i = siteC s i := rfl

theorem linkLost_of_dead (h : linkAlive (lport s p) = false) : linkLost p c s = s := by
  rw [linkLost, h]
  rfl

section
variable (halive : linkAlive (lport s p) = true)
include halive

theorem linkLost_of_few
    (hfew : ((lport s p).entries.filter fun f => s.seq.frame < f + 600000).length < 8) :
    linkLost p c s = retrained p c (portEnds p s) := by
  rw [linkLost, halive]
  exact if_neg (Nat.not_le.mpr hfew)

theorem linkLost_of_many
    (hmany : 8 ≤ ((lport s p).entries.filter fun f => s.seq.frame < f + 600000).length) :
    linkLost p c s = enterQuarantine p 11 s := by
  rw [linkLost, halive]
  exact if_pos hmany

end

/-- What a link that trains again leaves. -/
theorem retrained_portEnds_keeps (hp : p < s.link.ports.length) (ht : retrained p c (portEnds p s) = t) :
    (∃ x n f, lport t p =
      { trainingEntered n (leaving c (sessionEnded x)) with state := .training, stateFrame := f }) ∧
    ∀ i ∈ portSites s p, i < s.caps.sites.length → (siteC t i).response ≠ .responsive := by
  obtain ⟨hlen, ⟨x, hx⟩, hsites⟩ := portEnds_keeps hp rfl
  obtain ⟨f, hf⟩ := lport_retrained (hlen.symm ▸ hp) c
  rw [hx] at hf
  subst ht
  refine ⟨⟨x, _, f, hf⟩, fun i hmem hi => ?_⟩
  rw [siteC_retrained]
  exact hsites i hmem hi

/-- A port in quarantine. -/
def quarantined (frame c : Nat) (x : LinkPort) : LinkPort := { x with quarAt := frame, leaveCause := c }

theorem lport_enterQuarantine (hp : p < s.link.ports.length) : ∃ f, lport (enterQuarantine p c s) p =
    { quarantined s.seq.frame c (lport (portEnds p s) p) with state := .quarantine, stateFrame := f } := by
  obtain ⟨hlen, -⟩ := portEnds_keeps hp rfl
  have hp' : p < (portEnds p s).link.ports.length := hlen.symm ▸ hp
  obtain ⟨f, hf⟩ := lport_setPortState (s := updPort p (quarantined s.seq.frame c) (portEnds p s))
    ((length_ports_updPort _ _ _).symm ▸ hp') .quarantine
  rw [lport_updPort_self hp'] at hf
  exact ⟨f, hf⟩

/-- The cause of a lost link holds. -/
def lossHolds (s : State) (p c : Nat) : Prop :=
  c = 1 ∨ c = 3 ∨ (c = 2 ∧ 16 ≤ (lport s p).codeErrors) ∨
    (c = 4 ∧ (lport s p).state = .up ∧ (lport s p).lastValid + 10 ≤ s.seq.frame)

theorem execLinkLost_of_holds (h : lossHolds s p c) : execLinkLost p c s = .next (linkLost p c s) := by
  rcases h with rfl | rfl | ⟨rfl, hcode⟩ | ⟨rfl, hup, hold⟩
  · rfl
  · rfl
  · simp [execLinkLost, hcode]
  · simp [execLinkLost, hup, hold]

theorem execLinkLost_of_few_errors (h : (lport s p).codeErrors < 16) : execLinkLost p 2 s = .next s := by
  simp [execLinkLost, Nat.not_le.mpr h]

/-- A port without failures of authentication. -/
def noAuthFails (x : LinkPort) : LinkPort := { x with authFails := [] }

/-- A quarantine that ends. -/
def quarantineEnded (p : Nat) (s : State) : State := post 0x9043 (enterTraining p (updPort p noAuthFails s)) p

theorem execPortQuarantineEnd_of_due (h : (lport s p).state = .quarantine)
    (hdue : (lport s p).quarAt + 100000 ≤ s.seq.frame) :
    execPortQuarantineEnd p s = .next (quarantineEnded p s) := by
  unfold execPortQuarantineEnd
  dsimp only
  rw [h, decide_eq_true hdue]
  rfl

theorem execPortQuarantineEnd_of_early (h : s.seq.frame < (lport s p).quarAt + 100000) :
    execPortQuarantineEnd p s = .next s := by
  unfold execPortQuarantineEnd
  dsimp only
  rw [decide_eq_false (Nat.not_le.mpr h), Bool.and_false]
  rfl

theorem lport_quarantineEnded (hp : p < s.link.ports.length) : ∃ f, lport (quarantineEnded p s) p =
    { trainingEntered s.seq.frame (noAuthFails (lport s p)) with state := .training, stateFrame := f } := by
  obtain ⟨f, hf⟩ := lport_enterTraining (s := updPort p noAuthFails s) ((length_ports_updPort _ _ _).symm ▸ hp)
  rw [lport_updPort_self hp] at hf
  exact ⟨f, hf⟩

end

/-! Margins. -/

section
variable {s : State} {p h w : Nat}

/-- A run of measurements has lasted 10 s. -/
def lasted (s : State) (f : Option Nat) : Bool := match f with
  | some g => decide (g + 100000 ≤ s.seq.frame)
  | none => false

def warningMargin (h w : Nat) : Bool := decide (h < 40) || decide (w < 16)

def lowMargin (h w : Nat) : Bool := decide (h < 20) || decide (w < 8)

/-- Frame since which a port's measurements have been low, after this one. -/
def lowAfter (s : State) (p h w : Nat) : Option Nat :=
  if lowMargin h w then some ((lport s p).lowSince.getD s.seq.frame) else none

/-- Frame since which they have been good. -/
def goodAfter (s : State) (p h w : Nat) : Option Nat :=
  if warningMargin h w then none else some ((lport s p).goodSince.getD s.seq.frame)

/-- A port with a new measurement of its margins. -/
def marginsTaken (s : State) (p h w : Nat) (y : LinkPort) : LinkPort := { y with
  marginH := h, marginW := w, lowSince := lowAfter s p h w, goodSince := goodAfter s p h w
  marginLow := if lasted s (lowAfter s p h w) then true
    else if lasted s (goodAfter s p h w) then false else y.marginLow }

/-- The warning of a low margin. -/
def marginWarned (s : State) (p h w : Nat) : State :=
  if warningMargin h w then postRun 0x9030 (updPort p (marginsTaken s p h w) s) p
  else updPort p (marginsTaken s p h w) s

theorem execMarginMeasure_eq (p h w : Nat) (s : State) : execMarginMeasure p h w s =
    .next (if lasted s (lowAfter s p h w) && !(lport s p).marginLow then post 0x9031 (marginWarned s p h w) p
      else marginWarned s p h w) := rfl

theorem execMarginMeasure_of_good (hh : 40 ≤ h) (hw : 16 ≤ w) :
    execMarginMeasure p h w s = .next (updPort p (marginsTaken s p h w) s) ∧ lowAfter s p h w = none := by
  have hwarn : warningMargin h w = false := by
    simp [warningMargin, Nat.not_lt.mpr hh, Nat.not_lt.mpr hw]
  have hlow : lowAfter s p h w = none := if_neg (by simp [lowMargin]; omega)
  rw [execMarginMeasure_eq, hlow, marginWarned, hwarn]
  exact ⟨rfl, rfl⟩

theorem link_marginWarned (s : State) (p h w : Nat) :
    (marginWarned s p h w).link = (updPort p (marginsTaken s p h w) s).link := by
  unfold marginWarned
  split
  · rw [postRun_eq]
  · rfl

theorem lport_execMarginMeasure (hp : p < s.link.ports.length) (h w : Nat) :
    ∃ t, execMarginMeasure p h w s = .next t ∧ lport t p = marginsTaken s p h w (lport s p) := by
  have hport : lport (marginWarned s p h w) p = marginsTaken s p h w (lport s p) :=
    (lport_congr (link_marginWarned s p h w) p).trans (lport_updPort_self hp _)
  refine ⟨_, execMarginMeasure_eq p h w s, ?_⟩
  split
  · exact hport
  · exact hport

theorem marginLow_of_old {f : Nat} {y : LinkPort} (hf : (lport s p).lowSince = some f)
    (hold : f + 100000 ≤ s.seq.frame) : (marginsTaken s p 0 0 y).marginLow = true := by
  have hlow : lowAfter s p 0 0 = some f := congrArg some (by rw [hf]; rfl)
  have hlasted : lasted s (lowAfter s p 0 0) = true := by
    rw [hlow]
    exact decide_eq_true hold
  exact if_pos hlasted

end

/-! Events of an agent. -/

section
variable {s : State} {p : Nat} {e : EvtEntry}

/-- A port that has taken one more event of its agent in the last second. -/
def withEvt (frame : Nat) (recent : List Nat) (x : LinkPort) : LinkPort := { x with evts := frame :: recent }

theorem evtEntry_of_vendor (hfew : ((lport s p).evts.filter fun f => s.seq.frame < f + 10000).length < 16)
    (hcode : 0x80 ≤ e.code) : evtEntry p s e =
      post 0x9050 (updPort p (withEvt s.seq.frame ((lport s p).evts.filter fun f => s.seq.frame < f + 10000))
        (portCount p 15 1 s)) p e.slot (e.code :: e.slot :: leBytes 4 e.detail) := by
  have h0 : e.code ≠ 0 := by omega
  have h1 : e.code ≠ 1 := by omega
  have h2 : e.code ≠ 2 := by omega
  have h3 : e.code ≠ 3 := by omega
  have h4 : e.code ≠ 4 := by omega
  have h127 : ¬ e.code ≤ 0x7F := by omega
  unfold evtEntry
  dsimp only
  rw [if_neg (Nat.not_le.mpr hfew)]
  simp only [h0, h1, h2, h3, h4, h127]
  simp
  rfl

end

/-- Settles O27: the port's record after each step of its states. -/
theorem portTrainingAttestationAndLoss : Obligations.PortTrainingAttestationAndLoss := by
  refine ⟨?_, ?_, ?_, ?_, ?_, fun s p f => execAttestationTimeout_of_early, ?_, ?_,
    fun s p => execLinkLost_of_few_errors, fun s p c => linkLost_of_dead, ?_, ?_, ?_,
    fun s p => execPortQuarantineEnd_of_early, ?_, ?_, ?_, ?_, ?_⟩
  · intro s p c d hp h
    exact execTrainingComplete_keeps c d hp h
  · intro s p c d h
    exact ⟨congrArg Host.Outcome.next (if_neg h), congrArg Host.Outcome.next (if_neg h)⟩
  · intro s p hp h hfew
    exact ⟨_, execTrainingAttemptFail_of_few hp h hfew, lport_attemptFailed hp, rfl, rfl⟩
  · intro s p hp hlink h hthird hfloor hon
    have hexec := execTrainingAttemptFail_of_third hp hlink h hthird hfloor
    rw [cycleDomain_of_on (s := updPort p noFails (attemptFailed p s)) hon] at hexec
    obtain ⟨hlinks, hcaps⟩ := cycled_keeps p (updPort p noFails (attemptFailed p s))
    refine ⟨_, hexec, ?_, state_cycled (s := updPort p noFails (attemptFailed p s)) (lt_of_domainOn hon), hcaps⟩
    rw [lport_congr hlinks, lport_updPort_self ((length_ports_attemptFailed p s).symm ▸ hp)]
    rfl
  · intro s p f hp hf hstate hdue
    obtain ⟨x, g, hport⟩ := lport_attestFails hp (if p < 64 then 0x9011 else 0xE031) 8
    exact ⟨_, execAttestationTimeout_of_due hf hstate hdue, rfl, congrArg LinkPort.state hport,
      congrArg LinkPort.retryAt hport, congrArg LinkPort.leaveCause hport, congrArg LinkPort.session hport,
      congrArg LinkPort.attStart hport⟩
  · intro s p f hp hf hdue hlink hstate hpow hdrbg hstart
    have hself : lport (updPort p noRetry s) p = noRetry (lport s p) := lport_updPort_self hp _
    obtain ⟨hport, -⟩ := startAttest_keeps (s := updPort p noRetry s) (p := p) (by rw [hself]; exact hstate) hpow
      (by rw [hself]; exact hstart) ((length_ports_updPort _ _ _).symm ▸ hp) hdrbg rfl
    have hexec := execAttestationRetry_of_due hf hdue hlink hstate
    rw [hself] at hport
    generalize startAttest p (updPort p noRetry s) = t at hport hexec
    refine ⟨t, hexec, ?_, ?_, ?_, ?_⟩
    · rw [hport]
      rfl
    · rw [hport]
      rfl
    · rw [hport]
      rfl
    · rw [hport]
      exact hstate
  · intro s p h
    simp [exec, execAttestationRetry, h]
  · intro s p c hp halive hfew hcause
    have hlost := linkLost_of_few (c := c) halive hfew
    obtain ⟨⟨x, n, f, hport⟩, hsites⟩ := retrained_portEnds_keeps (c := c) hp rfl
    refine ⟨_, execLinkLost_of_holds hcause, rfl, ?_⟩
    rw [hlost]
    exact ⟨congrArg LinkPort.state hport, congrArg LinkPort.session hport, congrArg LinkPort.replay hport,
      congrArg LinkPort.leaveCause hport, hsites⟩
  · intro s p c hp halive hmany hcause
    have hlost := linkLost_of_many (c := c) halive hmany
    obtain ⟨-, ⟨x, hx⟩, -⟩ := portEnds_keeps hp rfl
    obtain ⟨f, hport⟩ := lport_enterQuarantine (c := 11) hp
    rw [hx] at hport
    refine ⟨_, execLinkLost_of_holds (hcause.imp_right Or.inl), ?_⟩
    rw [hlost]
    exact ⟨congrArg LinkPort.state hport, congrArg LinkPort.leaveCause hport, congrArg LinkPort.session hport⟩
  · intro s p hp h hdue
    obtain ⟨f, hport⟩ := lport_quarantineEnded hp
    exact ⟨_, execPortQuarantineEnd_of_due h hdue, congrArg LinkPort.state hport, congrArg LinkPort.authFails hport,
      rfl, rfl⟩
  · intro s p h w hp hh hw
    obtain ⟨hexec, hlow⟩ := execMarginMeasure_of_good hh hw
    refine ⟨_, hexec, ?_, ?_, ?_, rfl⟩
    all_goals rw [lport_updPort_self hp, marginsTaken]
    exact hlow
  · intro s p f hp hf hold
    obtain ⟨t, hexec, hport⟩ := lport_execMarginMeasure hp 0 0
    refine ⟨t, hexec, ?_⟩
    rw [hport]
    exact marginLow_of_old hf hold
  · intro s p b hlink hsession
    simp [exec, execEvtReceived, hlink, hsession]
  · intro s p b hsession
    simp [exec, execEvtReceived, hsession]
  · intro s p b e hp hlink hsession hparse hfew hcode
    have hevt := evtEntry_of_vendor (e := e) hfew hcode
    refine ⟨evtEntry p s e, ?_, ?_⟩
    · simp [exec, execEvtReceived, hlink, hsession, hparse]
    · rw [hevt]
      exact ⟨rfl, rfl⟩

end Sys2Proof.Machine
end

section
/-! SUPPORT. Transactions and the keys of a session (R363, R364, R372): settles O26. -/

namespace Sys2Proof.Machine

/-! The tags that a session's end frees. -/

section
variable {s t : State} {p : Nat}

/-- A port of which a tag is freed. -/
def tagFreed (tag : Nat) (x : LinkPort) : LinkPort := { x with
  gens := upd x.gens tag fun g => (g + 1) % 16
  freeTags := x.freeTags ++ [tag], txns := x.txns.filter fun t => t.tag ≠ tag }

theorem freeTag_eq (p tag : Nat) (s : State) : freeTag p tag s = updPort p (tagFreed tag) s := rfl

theorem txns_freeTags (hp : p < s.link.ports.length) (l : List Txn) :
    (lport (l.foldl (fun t x => freeTag p x.tag t) s) p).txns =
      (lport s p).txns.filter fun y => l.all fun x => y.tag ≠ x.tag := by
  induction l generalizing s with
  | nil => exact (List.filter_eq_self.mpr fun _ _ => rfl).symm
  | cons x l ih =>
    rw [List.foldl_cons, ih ((length_ports_updPort _ _ _).symm ▸ hp), freeTag_eq, lport_updPort_self hp, tagFreed,
      List.filter_filter]
    refine List.filter_congr fun y _ => ?_
    rw [List.all_cons, Bool.and_comm]

theorem txns_endSession (hp : p < s.link.ports.length) : (lport (endSession p s) p).txns = [] := by
  have hself : (lport (endSession p s) p).txns =
      (lport ((lport s p).txns.foldl (fun t x => freeTag p x.tag t) s) p).txns :=
    (congrArg LinkPort.txns (lport_updPort_self ((length_ports_foldl Txn.tag _ s).symm ▸ hp) _)).trans rfl
  rw [hself, txns_freeTags hp, List.filter_eq_nil_iff]
  intro y hy hall
  simpa using List.all_eq_true.mp hall y hy

theorem length_ports_primedUnacked_sitesDown (p : Nat) (s : State) :
    (primedUnacked p (sitesDown p s)).link.ports.length = s.link.ports.length := by
  rw [(primedUnacked_keeps p (sitesDown p s)).1, link_sitesDown]

theorem txns_portEnds (hp : p < s.link.ports.length) : (lport (portEnds p s) p).txns = [] :=
  txns_endSession ((length_ports_primedUnacked_sitesDown p s).symm ▸ hp)

/-- A link that is lost has no session left. -/
theorem linkLost_keeps {c : Nat} (hp : p < s.link.ports.length) (halive : linkAlive (lport s p) = true)
    (ht : linkLost p c s = t) : (lport t p).session = false ∧ (lport t p).replay = [] ∧ (lport t p).rekey = none ∧
      (lport t p).txns = [] ∧ ((lport t p).state = .training ∨ (lport t p).state = .quarantine) := by
  have htxns := txns_portEnds hp
  obtain ⟨hlen, ⟨x, hx⟩, -⟩ := portEnds_keeps hp rfl
  subst ht
  by_cases hfew : ((lport s p).entries.filter fun f => s.seq.frame < f + 600000).length < 8
  · obtain ⟨f, hport⟩ := lport_retrained (hlen.symm ▸ hp) c
    rw [linkLost_of_few halive hfew]
    have htxns' := (congrArg LinkPort.txns hport).trans htxns
    rw [hx] at hport
    exact ⟨congrArg LinkPort.session hport, congrArg LinkPort.replay hport, congrArg LinkPort.rekey hport, htxns',
      .inl (congrArg LinkPort.state hport)⟩
  · obtain ⟨f, hport⟩ := lport_enterQuarantine (c := 11) hp
    rw [linkLost_of_many halive (Nat.not_lt.mp hfew)]
    have htxns' := (congrArg LinkPort.txns hport).trans htxns
    rw [hx] at hport
    exact ⟨congrArg LinkPort.session hport, congrArg LinkPort.replay hport, congrArg LinkPort.rekey hport, htxns',
      .inr (congrArg LinkPort.state hport)⟩

end

/-! Responses. -/

section
variable {s : State} {p tag g : Nat} {b : TxnBody}

theorem link_postRun (code index : Nat) (s : State) : (postRun code s index).link = s.link := by rw [postRun_eq]

theorem txns_portCount (p k n : Nat) (s : State) : (lport (portCount p k n s) p).txns = (lport s p).txns := by
  have hget : lport (portCount p k n s) p =
      if p = p ∧ p < s.link.ports.length then
        { lport s p with counters := upd (lport s p).counters k fun c => satAdd 32 c n } else lport s p :=
    getD_upd _ _ _ _ _
  rw [hget]
  split <;> rfl

/-- A response that is late or of no transaction is counted alone. -/
theorem txns_counted (p k code : Nat) (s : State) :
    (lport (postRun code (portCount p k 1 s) p) p).txns = (lport s p).txns := by
  rw [lport_congr (link_postRun code p _) p, txns_portCount]

theorem execTransactionResponse_of_late (h : responseKind (lport s p) tag g = 1) :
    execTransactionResponse p tag g b s = .next (postRun 0x9024 (portCount p 8 1 s) p) := by
  unfold execTransactionResponse
  dsimp only
  rw [h]
  rfl

theorem execTransactionResponse_of_unknown (h : responseKind (lport s p) tag g = 2) :
    execTransactionResponse p tag g b s = .next (postRun 0x9023 (portCount p 7 1 s) p) := by
  unfold execTransactionResponse
  dsimp only
  rw [h]
  rfl

theorem responseKind_of_mem {x : Txn} {y : LinkPort} (h : x ∈ y.txns) : responseKind y x.tag x.tgen = 0 := by
  have hany : (y.txns.any fun t => t.tag = x.tag && t.tgen = x.tgen) = true :=
    List.any_eq_true.mpr ⟨x, h, by simp⟩
  rw [responseKind, if_pos hany]

/-- A port without timeouts in a row. -/
def noTimeouts (x : LinkPort) : LinkPort := { x with timeouts := 0 }

theorem sendWaiting_of_none (k : Nat) {s : State} (h : (lport s p).waiting = []) : sendWaiting p k s = s := by
  cases k with
  | zero => rfl
  | succ k =>
    unfold sendWaiting
    dsimp only
    rw [h]

theorem lport_answered (hp : p < s.link.ports.length) (tag : Nat) :
    lport (updPort p noTimeouts (freeTag p tag s)) p = noTimeouts (tagFreed tag (lport s p)) := by
  rw [lport_updPort_self ((length_ports_updPort _ _ _).symm ▸ hp), freeTag_eq, lport_updPort_self hp]

theorem execTransactionResponse_of_cfg {x : Txn} (hp : p < s.link.ports.length) (hx : x ∈ (lport s p).txns)
    (hstate : (lport s p).state ≠ .config) (hwaiting : (lport s p).waiting = []) (op : Nat) (data : List Nat) :
    execTransactionResponse p x.tag x.tgen (.cfg op data) s = .next (updPort p noTimeouts (freeTag p x.tag s)) := by
  have hnone : (lport (updPort p noTimeouts (freeTag p x.tag s)) p).waiting = [] := by
    rw [lport_answered hp]
    exact hwaiting
  unfold execTransactionResponse
  dsimp only
  rw [responseKind_of_mem hx]
  exact congrArg Host.Outcome.next ((if_neg hstate).trans (sendWaiting_of_none 32 hnone))

end

/-! Timeouts. -/

section
variable {s : State} {p tag : Nat} {x : Txn}

/-- A port with one more timeout in a row. -/
def oneMoreTimeout (x : LinkPort) : LinkPort := { x with timeouts := x.timeouts + 1 }

/-- A request that has timed out: its tag is free, and the timeout is counted and logged. -/
def timedOut (p tag : Nat) (s : State) : State :=
  post 0x9025 (portCount p 9 1 (updPort p oneMoreTimeout (freeTag p tag s))) p

theorem length_ports_timedOut (p tag : Nat) (s : State) :
    (timedOut p tag s).link.ports.length = s.link.ports.length :=
  (length_ports_updPort _ _ _).trans ((length_ports_updPort _ _ _).trans (length_ports_updPort _ _ _))

theorem lport_timedOut (hp : p < s.link.ports.length) : ∃ c, lport (timedOut p tag s) p =
    { oneMoreTimeout (tagFreed tag (lport s p)) with counters := c } := by
  have hp1 : p < (freeTag p tag s).link.ports.length := (length_ports_updPort _ _ _).symm ▸ hp
  have hp2 : p < (updPort p oneMoreTimeout (freeTag p tag s)).link.ports.length :=
    (length_ports_updPort _ _ _).symm ▸ hp1
  have hself : lport (updPort p oneMoreTimeout (freeTag p tag s)) p = oneMoreTimeout (tagFreed tag (lport s p)) := by
    rw [lport_updPort_self hp1, freeTag_eq, lport_updPort_self hp]
  have hcount := lport_updPort_self hp2 fun x => { x with counters := upd x.counters 9 fun c => satAdd 32 c 1 }
  rw [hself] at hcount
  exact ⟨_, hcount⟩

theorem linkAlive_congr {x y : LinkPort} (h : x.state = y.state) : linkAlive x = linkAlive y := by
  rw [linkAlive, h]
  rfl

/-- A link that a timeout costs. -/
theorem timeoutLost_keeps (hp : p < s.link.ports.length) (halive : linkAlive (lport s p) = true) :
    (lport (linkLost p 6 (timedOut p tag s)) p).session = false ∧
      (lport (linkLost p 6 (timedOut p tag s)) p).txns = [] ∧
      ((lport (linkLost p 6 (timedOut p tag s)) p).state = .training ∨
        (lport (linkLost p 6 (timedOut p tag s)) p).state = .quarantine) := by
  obtain ⟨c, hport⟩ := lport_timedOut (tag := tag) hp
  have hsame : linkAlive (lport (timedOut p tag s) p) = linkAlive (lport s p) :=
    linkAlive_congr ((congrArg LinkPort.state hport).trans rfl)
  obtain ⟨hsession, -, -, htxns, hstate⟩ := linkLost_keeps (s := timedOut p tag s) (c := 6)
    ((length_ports_timedOut p tag s).symm ▸ hp) (hsame.trans halive) rfl
  exact ⟨hsession, htxns, hstate⟩

theorem timedOut_eq (p tag : Nat) (s : State) : ∃ k, timedOut p tag s =
    { s with link := k, log := logPost s.log (mkEvent s 0x9025 p 0xFFFF []) } := ⟨_, rfl⟩

/-- A request that is sent again after its timeout. -/
theorem resend_keeps {item tries : Nat} {att : Bool} {t : State} (hp : p < s.link.ports.length)
    (ht : sendTxn p att item tries (timedOut p tag s) = t) :
    (lport t p).timeouts = (lport s p).timeouts + 1 ∧ (lport t p).state = (lport s p).state ∧
      t.log = logPost s.log (mkEvent s 0x9025 p 0xFFFF []) ∧
      t = { s with link := t.link, sent := t.sent, log := t.log } := by
  obtain ⟨c, hport⟩ := lport_timedOut (tag := tag) hp
  obtain ⟨hsame, honly⟩ := sendTxn_keeps ((length_ports_timedOut p tag s).symm ▸ hp) ht
  rw [hport] at hsame
  obtain ⟨k, heq⟩ := timedOut_eq p tag s
  rw [OnlyLink, heq] at honly
  exact ⟨(congrArg LinkPort.timeouts hsame).trans rfl, (congrArg LinkPort.state hsame).trans rfl,
    congrArg State.log honly, by rw [honly]⟩

theorem execTransactionTimeout_of_none (h : ∀ x ∈ (lport s p).txns, x.tag = tag → s.seq.frame < x.sent + 8) :
    execTransactionTimeout p tag s = .next s := by
  unfold execTransactionTimeout
  dsimp only
  cases hfind : (lport s p).txns.find? fun t => t.tag = tag with
  | none => rfl
  | some x =>
    have htag : x.tag = tag := by simpa using List.find?_some hfind
    exact congrArg Host.Outcome.next (if_pos (h x (List.mem_of_find?_eq_some hfind) htag))

section
variable (hp : p < s.link.ports.length) (hfind : (lport s p).txns.find? (fun y => y.tag = tag) = some x)
  (hold : x.sent + 8 ≤ s.seq.frame)
include hp hfind hold

theorem execTransactionTimeout_eq : execTransactionTimeout p tag s =
    .next (if 3 ≤ (lport s p).timeouts ∨ 3 ≤ x.tries then linkLost p 6 (timedOut p tag s)
      else sendTxn p x.att x.item (x.tries + 1) (timedOut p tag s)) := by
  have htimeouts : (lport (timedOut p tag s) p).timeouts = (lport s p).timeouts + 1 := by
    obtain ⟨c, hport⟩ := lport_timedOut (tag := tag) hp
    rw [hport]
    rfl
  unfold execTransactionTimeout
  dsimp only
  rw [hfind]
  refine congrArg Host.Outcome.next ((if_neg (Nat.not_lt.mpr hold)).trans ?_)
  change (if (decide (4 ≤ (lport (timedOut p tag s) p).timeouts) || decide (3 ≤ x.tries)) = true then
    linkLost p 6 (timedOut p tag s) else sendTxn p x.att x.item (x.tries + 1) (timedOut p tag s)) = _
  rw [htimeouts]
  simp only [Bool.or_eq_true, decide_eq_true_eq, Nat.succ_le_succ_iff]

end

end

/-! Keys. -/

section
variable {s : State} {p : Nat}

/-- A port whose re-key has begun. -/
def rekeyBegun (frame : Nat) (x : LinkPort) : LinkPort := { x with rekey := some frame }

theorem startRekey_of_session (hsession : (lport s p).session = true) (hnone : (lport s p).rekey = none)
    (hdrbg : s.sec.drbgOk = true) : startRekey p s =
      post 0x9041 (sendTxn p true 100 0 (portCount p 11 1 (updPort p (rekeyBegun s.seq.frame) s))) p := by
  simp [startRekey, hsession, hnone, hdrbg]
  rfl

theorem rekey_portCount (hp : p < s.link.ports.length) (k n : Nat) :
    (lport (portCount p k n s) p).rekey = (lport s p).rekey :=
  (congrArg LinkPort.rekey (lport_updPort_self hp _)).trans rfl

/-- A re-key that begins. -/
theorem startRekey_keeps (hp : p < s.link.ports.length) (hsession : (lport s p).session = true)
    (hnone : (lport s p).rekey = none) (hdrbg : s.sec.drbgOk = true) {t : State} (ht : startRekey p s = t) :
    (lport t p).rekey = some s.seq.frame ∧ t.log = logPost s.log (mkEvent s 0x9041 p 0xFFFF []) ∧
      t = { s with link := t.link, sent := t.sent, log := t.log } := by
  have hp1 : p < (updPort p (rekeyBegun s.seq.frame) s).link.ports.length := (length_ports_updPort _ _ _).symm ▸ hp
  have hp2 : p < (portCount p 11 1 (updPort p (rekeyBegun s.seq.frame) s)).link.ports.length :=
    (length_ports_updPort _ _ _).symm ▸ hp1
  obtain ⟨hsame, honly⟩ := sendTxn_keeps (att := true) (item := 100) (tries := 0) hp2 rfl
  have hrekey : (lport (portCount p 11 1 (updPort p (rekeyBegun s.seq.frame) s)) p).rekey = some s.seq.frame := by
    rw [rekey_portCount hp1, lport_updPort_self hp]
    rfl
  rw [startRekey_of_session hsession hnone hdrbg] at ht
  generalize sendTxn p true 100 0 (portCount p 11 1 (updPort p (rekeyBegun s.seq.frame) s)) = u at ht hsame honly
  have honly' : OnlyLink s u := OnlyLink.trans (t := portCount p 11 1 (updPort p (rekeyBegun s.seq.frame) s)) rfl honly
  have hport : (lport u p).rekey = some s.seq.frame := by
    rw [hsame]
    exact hrekey
  subst ht
  refine ⟨hport, ?_, ?_⟩
  · rw [honly']
    rfl
  · rw [honly']
    rfl

theorem execRekeyStart_of_old (hsession : (lport s p).session = true)
    (hold : (lport s p).sessionFrame + 864000000 ≤ s.seq.frame) : execRekeyStart p s = .next (startRekey p s) := by
  simp [execRekeyStart, hsession, hold]

/-- A port whose switch to the next key is due. -/
def keyDueNow (x : LinkPort) : LinkPort := { x with keyDue := true, timeouts := 0 }

theorem execKeyUpdateAck_of_rekey {x : Txn} (hrekey : (lport s p).rekey ≠ none)
    (hfind : (lport s p).txns.find? (fun y => y.att && (y.item = 100 || y.item = 102)) = some x) :
    execKeyUpdateAck p s = .next (noteValid p (updPort p keyDueNow (freeTag p x.tag s))) := by
  have hsome : (lport s p).rekey.isSome = true := Option.isSome_iff_ne_none.mpr hrekey
  unfold execKeyUpdateAck
  dsimp only
  rw [hfind, if_pos hsome]
  rfl

theorem lport_keySwitch (hp : p < s.link.ports.length) (h : (lport s p).keyDue = true) : lport (keySwitch s) p =
    { lport s p with keyGen := (lport s p).keyGen + 1, keyDue := false, sessionFrame := s.seq.frame } := by
  have hget : lport s p = s.link.ports[p] := getD_of_lt _ _ hp
  have hswitch : lport (keySwitch s) p = if (lport s p).keyDue then
      { lport s p with keyGen := (lport s p).keyGen + 1, keyDue := false, sessionFrame := s.seq.frame }
      else lport s p := by
    rw [hget]
    refine (getD_of_lt _ _ (by simpa [keySwitch] using hp)).trans ?_
    exact List.getElem_map _
  rw [hswitch, if_pos h]

theorem lport_seePhase (hp : p < s.link.ports.length) {ph : Nat} (hsession : (lport s p).session = true)
    (hph : ph ≠ (lport s p).rxGen % 2) (hgen : (lport s p).rxGen < (lport s p).keyGen) :
    lport (seePhase p ph s) p =
      { lport s p with rxGen := (lport s p).rxGen + 1, phaseFrame := some s.seq.frame, rekey := none } := by
  rw [seePhase, lport_updPort_self hp]
  simp [hsession, hph, hgen]

theorem execRekeyTimeout_of_due {f : Nat} (hf : (lport s p).rekey = some f) (hdue : f + 32 ≤ s.seq.frame) :
    execRekeyTimeout p s = .next (linkLost p 7 s) := by
  simp [execRekeyTimeout, hf, hdue]

theorem execRekeyTimeout_of_early {f : Nat} (hf : (lport s p).rekey = some f) (hearly : s.seq.frame < f + 32) :
    execRekeyTimeout p s = .next s := by
  simp [execRekeyTimeout, hf, Nat.not_le.mpr hearly]

end

/-! Failures of authentication. -/

section
variable {s : State} {p : Nat}

/-- A port with one more failure of authentication in the last 10 s. -/
def withAuthFail (frame : Nat) (x : LinkPort) : LinkPort :=
  { x with authFails := frame :: x.authFails.filter fun f => frame < f + 100000 }

/-- A failure of authentication, counted and logged. -/
def authFailed (p : Nat) (s : State) : State :=
  postRun 0x9040 (updPort p (withAuthFail s.seq.frame) (portCount p 10 1 s)) p

theorem authFailed_eq (p : Nat) (s : State) : ∃ l, authFailed p s =
    { updPort p (withAuthFail s.seq.frame) (portCount p 10 1 s) with log := l } := ⟨_, postRun_eq _ _ _⟩

theorem length_ports_authFailed (p : Nat) (s : State) :
    (authFailed p s).link.ports.length = s.link.ports.length := by
  rw [authFailed, link_postRun]
  exact (length_ports_updPort _ _ _).trans (length_ports_updPort _ _ _)

theorem lport_authFailed (hp : p < s.link.ports.length) : ∃ c, lport (authFailed p s) p =
    { withAuthFail s.seq.frame (lport s p) with counters := c } := by
  have hcount := lport_updPort_self hp fun x => { x with counters := upd x.counters 10 fun c => satAdd 32 c 1 }
  have hself := lport_updPort_self (s := portCount p 10 1 s) (p := p) ((length_ports_updPort _ _ _).symm ▸ hp)
    (withAuthFail s.seq.frame)
  rw [portCount, hcount] at hself
  exact ⟨_, (lport_congr (link_postRun 0x9040 p _) p).trans hself⟩

/-- What a failure of authentication in a session leads to. -/
theorem authFailure_eq (hsession : (lport s p).session = true) : authFailure p s =
    if ((lport (authFailed p s) p).state = .config || (lport (authFailed p s) p).state = .up) &&
        16 ≤ (lport (authFailed p s) p).authFails.length then enterQuarantine p 10 (authFailed p s)
    else if ((lport (authFailed p s) p).authFails.filter fun f => s.seq.frame < f + 10000).length = 3 then
      startRekey p (authFailed p s)
    else authFailed p s := by
  unfold authFailure
  dsimp only
  exact if_neg (by simp [hsession])

theorem authFailure_of_many (hp : p < s.link.ports.length) (hsession : (lport s p).session = true)
    (hup : (lport s p).state = .up)
    (hmany : 15 ≤ ((lport s p).authFails.filter fun f => s.seq.frame < f + 100000).length) :
    authFailure p s = enterQuarantine p 10 (authFailed p s) := by
  obtain ⟨c, hport⟩ := lport_authFailed hp
  have hstate : (lport (authFailed p s) p).state = .up := by
    rw [hport]
    exact hup
  have hlen : 16 ≤ (lport (authFailed p s) p).authFails.length := by
    rw [hport]
    exact Nat.succ_le_succ hmany
  rw [authFailure_eq hsession, hstate, decide_eq_true hlen]
  rfl

theorem authFailure_of_first (hp : p < s.link.ports.length) (hsession : (lport s p).session = true)
    (hnone : (lport s p).authFails = []) : authFailure p s = authFailed p s ∧
      (lport (authFailed p s) p).authFails = [s.seq.frame] ∧
      (lport (authFailed p s) p).state = (lport s p).state := by
  obtain ⟨c, hport⟩ := lport_authFailed hp
  have hfails : (lport (authFailed p s) p).authFails = [s.seq.frame] := by
    rw [hport]
    simp [withAuthFail, hnone]
  refine ⟨?_, hfails, (congrArg LinkPort.state hport).trans rfl⟩
  have hshort : (([s.seq.frame].filter fun f => decide (s.seq.frame < f + 10000)).length) ≠ 3 := by
    have := List.length_filter_le (fun f => decide (s.seq.frame < f + 10000)) [s.seq.frame]
    intro h
    rw [h] at this
    exact absurd this (by simp)
  rw [authFailure_eq hsession, hfails, if_neg (by simp), if_neg hshort]

end

/-- Settles O26: the port's transactions, its keys, and its failures of authentication. -/
theorem transactionsAndSessionKeys : Obligations.TransactionsAndSessionKeys := by
  refine ⟨?_, ?_, ?_, fun s p tag => execTransactionTimeout_of_none, ?_, ?_, ?_, ?_, ?_,
    fun s p => lport_keySwitch, fun s p ph hp => lport_seePhase hp, ?_, fun s p f => execRekeyTimeout_of_early, ?_, ?_⟩
  · intro s p tag g b h
    exact ⟨_, execTransactionResponse_of_late h, rfl, txns_counted p 8 0x9024 s⟩
  · intro s p tag g b h
    exact ⟨_, execTransactionResponse_of_unknown h, rfl, txns_counted p 7 0x9023 s⟩
  · intro s p op x b hp hx hstate hwaiting
    have hport := lport_answered hp x.tag
    exact ⟨_, execTransactionResponse_of_cfg hp hx hstate hwaiting op b, congrArg LinkPort.timeouts hport,
      congrArg LinkPort.txns hport, congrArg LinkPort.gens hport, rfl⟩
  · intro s p tag x hp hfind hold h
    have hexec := execTransactionTimeout_eq hp hfind hold
    rw [if_pos h] at hexec
    exact ⟨_, hexec, rfl, timeoutLost_keeps hp⟩
  · intro s p tag x hp hfind hold htimeouts htries
    have hexec := execTransactionTimeout_eq hp hfind hold
    rw [if_neg (by omega)] at hexec
    have hkeeps := resend_keeps (tag := tag) (att := x.att) (item := x.item) (tries := x.tries + 1) hp rfl
    exact ⟨_, hexec, rfl, hkeeps⟩
  · intro s p hsession hold hnone hdrbg hp
    exact ⟨_, execRekeyStart_of_old hsession hold, startRekey_keeps hp hsession hnone hdrbg rfl⟩
  · intro s p h
    simp [exec, execRekeyStart, h]
  · intro s p x hp hrekey hfind
    have hp1 : p < (freeTag p x.tag s).link.ports.length := (length_ports_updPort _ _ _).symm ▸ hp
    have hp2 : p < (updPort p keyDueNow (freeTag p x.tag s)).link.ports.length :=
      (length_ports_updPort _ _ _).symm ▸ hp1
    have hport := lport_updPort_self hp2 fun x => { x with lastValid := s.seq.frame }
    rw [lport_updPort_self hp1] at hport
    exact ⟨_, execKeyUpdateAck_of_rekey hrekey hfind, congrArg LinkPort.keyDue hport, congrArg LinkPort.timeouts hport,
      rfl⟩
  · intro s p f hf hdue
    refine ⟨_, execRekeyTimeout_of_due hf hdue, rfl, fun halive => ?_⟩
    have hp : p < s.link.ports.length := by
      refine Classical.byContradiction fun hge => ?_
      rw [lport, getD_of_length_le _ _ (Nat.not_lt.mp hge)] at hf
      cases hf
    obtain ⟨hsession, -, hrekey, -⟩ := linkLost_keeps (c := 7) hp halive rfl
    exact ⟨hsession, hrekey⟩
  · intro s p hp hsession hup hmany
    obtain ⟨-, ⟨x, hx⟩, -⟩ := portEnds_keeps (s := authFailed p s) (p := p)
      ((length_ports_authFailed p s).symm ▸ hp) rfl
    obtain ⟨f, hport⟩ := lport_enterQuarantine (c := 10) ((length_ports_authFailed p s).symm ▸ hp)
    obtain ⟨l, hauth⟩ := authFailed_eq p s
    have hframe : (authFailed p s).seq.frame = s.seq.frame := by
      rw [hauth]
      rfl
    rw [hx, hframe] at hport
    exact ⟨_, congrArg Host.Outcome.next (authFailure_of_many hp hsession hup hmany), congrArg LinkPort.state hport,
      congrArg LinkPort.leaveCause hport, congrArg LinkPort.session hport, congrArg LinkPort.quarAt hport⟩
  · intro s p hp hsession hnone
    obtain ⟨hsame, hfails, hstate⟩ := authFailure_of_first hp hsession hnone
    obtain ⟨l, hauth⟩ := authFailed_eq p s
    refine ⟨_, congrArg Host.Outcome.next hsame, hfails, hstate, ?_⟩
    rw [hauth]
    rfl

end Sys2Proof.Machine
end

section
/-! SUPPORT. Reliable delivery on the links (R353, R359 to R362, R380): packets, their acknowledgement and replay, and
PING; settles O25. -/

namespace Sys2Proof.Machine

/-! A control packet. -/

section
variable {s t u : State} {p : Nat}

/-- A port that has sent a control packet. -/
def ctlCounted (n : Nat) (x : LinkPort) : LinkPort := { x with ctlSend := n + 1 }

@[simp] theorem expectPn_ctlCounted (n : Nat) (x : LinkPort) : (ctlCounted n x).expectPn = x.expectPn := rfl

/-- The payload of a control packet. -/
def ctlPayload (num : Nat) (missing : Bool) (n : Nat) : List Nat := leBytes 2 num ++ [b2n missing, 0] ++ leBytes 4 n

theorem length_ctlPayload (num : Nat) (missing : Bool) (n : Nat) : (ctlPayload num missing n).length = 8 := by
  simp [ctlPayload, length_leBytes]

/-- The head of a control packet on a port. -/
def ctlHead (s : State) (p op : Nat) : PktHead :=
  { type := 15, op := op, dir := outDir s p, auth := (lport s p).session
    phase := if (lport s p).session then (lport s p).keyGen % 2 else 0 }

theorem packet_ctl (s : State) (p op num : Nat) (b : List Nat) : ∃ r,
    packet s p 2 num { type := 15, op } b = headBytes (ctlHead s p op) b.length ++ b ++ r := by
  unfold packet
  extract_lets x h1 body key nonce tag
  exact ⟨tag ++ leBytes 4 (crc32 ((body ++ tag).map (BitVec.ofNat 8))), List.append_assoc _ _ _⟩

theorem length_headBytes (h : PktHead) (n : Nat) : (headBytes h n).length = 8 := length_leBytes _ _

theorem take_append_packet {h b r : List Nat} {n m : Nat} (hh : h.length = n) (hb : b.length = m) :
    (h ++ b ++ r).take n = h ∧ ((h ++ b ++ r).drop n).take m = b := by
  subst hh hb
  constructor
  · rw [List.append_assoc, List.take_left]
  · rw [List.append_assoc, List.drop_left, List.take_left]

theorem ctlHead_updPort (hp : p < s.link.ports.length) (op n : Nat) :
    ctlHead (updPort p (ctlCounted n) s) p op = ctlHead s p op := by
  unfold ctlHead
  rw [lport_updPort_self hp]
  rfl

theorem sendCtl_eq (p op num : Nat) (missing : Bool) (s : State) : sendCtl p op num missing s =
    send (.link p (packet (updPort p (ctlCounted (lport s p).ctlSend) s) p 2 (lport s p).ctlSend { type := 15, op }
      (ctlPayload num missing (lport s p).ctlSend))) (updPort p (ctlCounted (lport s p).ctlSend) s) := by
  unfold sendCtl sendPacket
  rfl

/-- What sending a control packet does. -/
theorem sendCtl_keeps {op num : Nat} {missing : Bool} (hp : p < s.link.ports.length)
    (ht : sendCtl p op num missing s = t) :
    ctlSent s t p op num missing ∧ lport t p = ctlCounted (lport s p).ctlSend (lport s p) ∧ OnlyLink s t := by
  obtain ⟨r, hpacket⟩ := packet_ctl (updPort p (ctlCounted (lport s p).ctlSend) s) p op (lport s p).ctlSend
    (ctlPayload num missing (lport s p).ctlSend)
  rw [length_ctlPayload, ctlHead_updPort hp] at hpacket
  have hsend := sendCtl_eq p op num missing s
  rw [hpacket] at hsend
  obtain ⟨hhead, hbody⟩ := take_append_packet (r := r) (length_headBytes (ctlHead s p op) 8)
    (length_ctlPayload num missing (lport s p).ctlSend)
  rw [hsend] at ht
  subst ht
  exact ⟨⟨_, ctlHead s p op, rfl, hhead, rfl, rfl, rfl, rfl, hbody⟩, lport_updPort_self hp _,
    (onlyLink_updPort _ _ _).trans (onlyLink_send _ _)⟩

/-- A control packet's content depends on few things. -/
theorem ctlSent_congr {op num : Nat} {missing : Bool} (hsent : u.sent = s.sent)
    (hpow : u.pow = s.pow) (hsession : (lport u p).session = (lport s p).session)
    (hctl : (lport u p).ctlSend = (lport s p).ctlSend) (h : ctlSent u t p op num missing) :
    ctlSent s t p op num missing := by
  have hdir : outDir u p = outDir s p := by rw [outDir, hpow]; rfl
  obtain ⟨b, k, hout, htake, htype, hop, hd, hauth, hbody⟩ := h
  exact ⟨b, k, hsent ▸ hout, htake, htype, hop, hdir ▸ hd, hsession ▸ hauth, hctl ▸ hbody⟩

theorem ctlSent_after {op num : Nat} {missing : Bool} (hsent : u.sent = t.sent) (h : ctlSent s t p op num missing) :
    ctlSent s u p op num missing := by
  obtain ⟨b, k, hout, hbody⟩ := h
  exact ⟨b, k, hsent.trans hout, hbody⟩

/-- A control packet that leaves after the port has changed by `f`. -/
theorem updPort_sendCtl {v : State} {f : LinkPort → LinkPort} {op num : Nat} {missing : Bool}
    (hp : p < v.link.ports.length) (hsent : v.sent = s.sent) (hpow : v.pow = s.pow)
    (hsession : (f (lport v p)).session = (lport s p).session)
    (hctl : (f (lport v p)).ctlSend = (lport s p).ctlSend) (ht : sendCtl p op num missing (updPort p f v) = t) :
    ctlSent s t p op num missing ∧ (∃ n, lport t p = ctlCounted n (f (lport v p))) ∧ OnlyLink v t ∧
      t.link.ports.length = v.link.ports.length := by
  obtain ⟨hout, hport, honly⟩ := sendCtl_keeps ((length_ports_updPort p f v).symm ▸ hp) ht
  have hself := lport_updPort_self hp f
  rw [← hself] at hsession hctl ⊢
  refine ⟨ctlSent_congr (u := updPort p f v) hsent hpow hsession hctl hout, ⟨_, hport⟩,
    .trans (t := updPort p f v) rfl honly, ?_⟩
  rw [← ht, sendCtl_eq]
  exact (length_ports_updPort _ _ _).trans (length_ports_updPort _ _ _)

end

/-- A counter of a port. -/
def withCount (k n : Nat) (x : LinkPort) : LinkPort :=
  { x with counters := upd x.counters k fun c => satAdd 32 c n }

@[simp] theorem expectPn_withCount (k n : Nat) (x : LinkPort) : (withCount k n x).expectPn = x.expectPn := rfl

@[simp] theorem replay_withCount (k n : Nat) (x : LinkPort) : (withCount k n x).replay = x.replay := rfl

@[simp] theorem ctlLast_withCount (k n : Nat) (x : LinkPort) : (withCount k n x).ctlLast = x.ctlLast := rfl

@[simp] theorem session_withCount (k n : Nat) (x : LinkPort) : (withCount k n x).session = x.session := rfl

@[simp] theorem ctlSend_withCount (k n : Nat) (x : LinkPort) : (withCount k n x).ctlSend = x.ctlSend := rfl

@[simp] theorem codeErrors_withCount (k n : Nat) (x : LinkPort) : (withCount k n x).codeErrors = x.codeErrors := rfl

@[simp] theorem telFrame_withCount (k n : Nat) (x : LinkPort) : (withCount k n x).telFrame = x.telFrame := rfl

@[simp] theorem telNak_withCount (k n : Nat) (x : LinkPort) : (withCount k n x).telNak = x.telNak := rfl

@[simp] theorem state_withCount (k n : Nat) (x : LinkPort) : (withCount k n x).state = x.state := rfl

/-- Two states that differ in the links at most. -/
def LinkOnly (s t : State) : Prop := ∃ k, t = { s with link := k }

theorem LinkOnly.trans {s t u : State} (h : LinkOnly s t) (h' : LinkOnly t u) : LinkOnly s u := by
  obtain ⟨k, rfl⟩ := h
  obtain ⟨l, rfl⟩ := h'
  exact ⟨l, rfl⟩

theorem LinkOnly.eq {s t : State} (h : LinkOnly s t) : t = { s with link := t.link } := by
  obtain ⟨k, rfl⟩ := h
  rfl

theorem LinkOnly.onlyLink {s t : State} (h : LinkOnly s t) : OnlyLink s t := by
  obtain ⟨k, rfl⟩ := h
  rfl

theorem LinkOnly.frame {s t : State} (h : LinkOnly s t) : t.seq.frame = s.seq.frame := by
  obtain ⟨k, rfl⟩ := h
  rfl

theorem LinkOnly.pair {s t : State} (h : LinkOnly s t) : t.pair = s.pair := by
  obtain ⟨k, rfl⟩ := h
  rfl

theorem linkOnly_updPort (p : Nat) (f : LinkPort → LinkPort) (s : State) : LinkOnly s (updPort p f s) := ⟨_, rfl⟩

/-! A port that hears a packet. -/

section
variable {s t : State} {p : Nat}

/-- The state after the phase and the arrival of a packet have been noted. -/
def noted (p ph : Nat) (s : State) : State := noteValid p (seePhase p ph s)

/-- A port that has noted the phase and the arrival of a packet. -/
def portNoted (g : Nat) (f : Option Nat) (r : Option Nat) (frame : Nat) (x : LinkPort) : LinkPort :=
  { x with rxGen := g, phaseFrame := f, rekey := r, lastValid := frame }

@[simp] theorem expectPn_portNoted (g : Nat) (f r : Option Nat) (frame : Nat) (x : LinkPort) :
    (portNoted g f r frame x).expectPn = x.expectPn := rfl

theorem lport_noted (hp : p < s.link.ports.length) (ph : Nat) : ∃ a b c, lport (noted p ph s) p =
    portNoted a b c s.seq.frame (lport s p) := by
  have hself := lport_updPort_self (s := seePhase p ph s) (p := p) ((length_ports_updPort _ _ _).symm ▸ hp)
    fun x => { x with lastValid := s.seq.frame }
  rw [seePhase, lport_updPort_self hp] at hself
  split at hself
  · exact ⟨_, _, _, hself⟩
  · exact ⟨(lport s p).rxGen, (lport s p).phaseFrame, (lport s p).rekey, hself⟩

theorem length_ports_noted (p ph : Nat) (s : State) : (noted p ph s).link.ports.length = s.link.ports.length :=
  (length_ports_updPort _ _ _).trans (length_ports_updPort _ _ _)

theorem linkOnly_noted (p ph : Nat) (s : State) : LinkOnly s (noted p ph s) :=
  (linkOnly_updPort _ _ _).trans (linkOnly_updPort _ _ _)

theorem execReliablePacketReceived_of_taken {head payload : List Nat}
    (h : headVerdict s p (parseHead head) = .taken) : execReliablePacketReceived p head payload true s =
      .next (takeReliable p (knownReliable p (parseHead head).type (parseHead head).op) (parseHead head).seq
        (noted p (parseHead head).phase s)) := by
  unfold execReliablePacketReceived
  dsimp only
  rw [h]
  exact congrArg Host.Outcome.next (if_neg (by simp))

theorem execReliablePacketReceived_of_tag {head payload : List Nat}
    (h : headVerdict s p (parseHead head) = .taken) (hsession : (lport s p).session = true) :
    execReliablePacketReceived p head payload false s = execAuthFailure p s := by
  unfold execReliablePacketReceived execAuthFailure
  dsimp only
  rw [h, hsession]
  rfl

/-- A port that has taken the packet it expected. -/
def packetTaken (x : LinkPort) : LinkPort := { x with expectPn := x.expectPn + 1, nakPn := none }

section
variable {known : Bool} {n : Nat}

theorem takeReliable_of_expected (h : rebuildPn (lport s p).expectPn n = (lport s p).expectPn) :
    takeReliable p known n s =
      if known then sendCtl p 0 (lport s p).expectPn false (updPort p packetTaken s)
      else unknownPacket p (sendCtl p 0 (lport s p).expectPn false (updPort p packetTaken s)) := if_pos h

/-- A gap in the packets, counted and logged. -/
def gapSeen (p : Nat) (s : State) : State := postRun 0x9022 (portCount p 4 1 s) p

/-- A port that has asked for the packet missing in this frame. -/
def askedMissing (pn frame : Nat) (x : LinkPort) : LinkPort := { x with nakPn := some (pn, frame) }

@[simp] theorem expectPn_askedMissing (pn frame : Nat) (x : LinkPort) :
    (askedMissing pn frame x).expectPn = x.expectPn := rfl

theorem takeReliable_of_gap (h : ((lport s p).expectPn : Int) < rebuildPn (lport s p).expectPn n) :
    takeReliable p known n s =
      if (lport s p).nakPn = some ((lport s p).expectPn, s.seq.frame) then gapSeen p s
      else sendCtl p 1 (lport s p).expectPn false
        (updPort p (askedMissing (lport s p).expectPn s.seq.frame) (gapSeen p s)) :=
  (if_neg (Int.ne_of_gt h)).trans (if_pos h)

theorem takeReliable_of_earlier (h : rebuildPn (lport s p).expectPn n < (lport s p).expectPn) :
    takeReliable p known n s = sendCtl p 0 ((lport s p).expectPn + 65535) false (portCount p 5 1 s) :=
  (if_neg (Int.ne_of_lt h)).trans (if_neg (Int.not_lt.mpr (Int.le_of_lt h)))

end

theorem lport_portCount (hp : p < s.link.ports.length) (k n : Nat) :
    lport (portCount p k n s) p = withCount k n (lport s p) := lport_updPort_self hp _

theorem lport_gapSeen (hp : p < s.link.ports.length) : lport (gapSeen p s) p = withCount 4 1 (lport s p) :=
  (lport_congr (link_postRun 0x9022 p _) p).trans (lport_portCount hp 4 1)

theorem length_ports_gapSeen (p : Nat) (s : State) : (gapSeen p s).link.ports.length = s.link.ports.length := by
  rw [gapSeen, link_postRun]
  exact length_ports_updPort _ _ _

theorem gapSeen_eq (p : Nat) (s : State) : ∃ k l, gapSeen p s = { s with link := k, log := l } :=
  ⟨_, _, postRun_eq _ _ _⟩

theorem lport_unknownPacket (hp : p < s.link.ports.length) :
    lport (unknownPacket p s) p = withCount 6 1 (lport s p) :=
  (lport_congr (link_postRun 0x9023 p _) p).trans (lport_portCount hp 6 1)

theorem unknownPacket_eq (p : Nat) (s : State) : ∃ k l, unknownPacket p s = { s with link := k, log := l } :=
  ⟨_, _, postRun_eq _ _ _⟩

/-! The reliable packets of a port. -/

section
variable {ph n : Nat}

/-- A control packet that leaves after the arrival of a packet has been noted and the port has changed by `f`. -/
theorem noted_sendCtl {f : LinkPort → LinkPort} {op num : Nat} {missing : Bool} (hp : p < s.link.ports.length)
    (hsession : ∀ x, (f x).session = x.session) (hctl : ∀ x, (f x).ctlSend = x.ctlSend)
    (ht : sendCtl p op num missing (updPort p f (noted p ph s)) = t) :
    ctlSent s t p op num missing ∧ OnlyLink s t ∧ t.link.ports.length = s.link.ports.length ∧
      ∃ n, lport t p = ctlCounted n (f (lport (noted p ph s) p)) := by
  obtain ⟨a, b, c, hnoted⟩ := lport_noted hp ph
  obtain ⟨hsent, hport, honly, hlen⟩ := updPort_sendCtl (s := s) (v := noted p ph s)
    ((length_ports_noted p ph s).symm ▸ hp) rfl rfl ((hsession _).trans ((congrArg LinkPort.session hnoted).trans rfl))
    ((hctl _).trans ((congrArg LinkPort.ctlSend hnoted).trans rfl)) ht
  exact ⟨hsent, .trans (t := noted p ph s) rfl honly, hlen.trans (length_ports_noted p ph s), hport⟩

theorem expectPn_noted (hp : p < s.link.ports.length) (ph : Nat) :
    (lport (noted p ph s) p).expectPn = (lport s p).expectPn := by
  obtain ⟨a, b, c, hnoted⟩ := lport_noted hp ph
  rw [hnoted]
  rfl

theorem takeReliable_known_keeps (hp : p < s.link.ports.length)
    (h : rebuildPn (lport s p).expectPn n = (lport s p).expectPn) (ht : takeReliable p true n (noted p ph s) = t) :
    (lport t p).expectPn = (lport s p).expectPn + 1 ∧ (lport t p).lastValid = s.seq.frame ∧
      (lport t p).nakPn = none ∧ ctlSent s t p 0 (lport s p).expectPn false ∧ OnlyLink s t := by
  obtain ⟨a, b, c, hnoted⟩ := lport_noted hp ph
  have hexpect := expectPn_noted hp ph
  rw [takeReliable_of_expected (hexpect.symm ▸ h), if_pos rfl, hexpect] at ht
  obtain ⟨hsent, honly, -, m, hport⟩ := noted_sendCtl (f := packetTaken) hp (fun _ => rfl) (fun _ => rfl) ht
  rw [hnoted] at hport
  exact ⟨congrArg LinkPort.expectPn hport, congrArg LinkPort.lastValid hport, congrArg LinkPort.nakPn hport, hsent,
    honly⟩

theorem takeReliable_unknown_keeps (hp : p < s.link.ports.length)
    (h : rebuildPn (lport s p).expectPn n = (lport s p).expectPn) (ht : takeReliable p false n (noted p ph s) = t) :
    (lport t p).expectPn = (lport s p).expectPn + 1 ∧ ctlSent s t p 0 (lport s p).expectPn false ∧
      (lport t p).counters = upd (lport s p).counters 6 (fun c => satAdd 32 c 1) := by
  obtain ⟨a, b, c, hnoted⟩ := lport_noted hp ph
  have hexpect := expectPn_noted hp ph
  rw [takeReliable_of_expected (hexpect.symm ▸ h), if_neg (by decide), hexpect] at ht
  obtain ⟨u, hu⟩ : ∃ u, sendCtl p 0 (lport s p).expectPn false (updPort p packetTaken (noted p ph s)) = u := ⟨_, rfl⟩
  rw [hu] at ht
  obtain ⟨hsent, -, hlen, m, hport⟩ := noted_sendCtl (f := packetTaken) hp (fun _ => rfl) (fun _ => rfl) hu
  have hself := lport_unknownPacket (hlen.symm ▸ hp)
  rw [hport, hnoted, ht] at hself
  obtain ⟨k, l, hframe⟩ := unknownPacket_eq p u
  rw [ht] at hframe
  exact ⟨congrArg LinkPort.expectPn hself, ctlSent_after (congrArg State.sent hframe) hsent,
    congrArg LinkPort.counters hself⟩

theorem takeReliable_gap_keeps {known : Bool} (hp : p < s.link.ports.length)
    (h : ((lport s p).expectPn : Int) < rebuildPn (lport s p).expectPn n)
    (ht : takeReliable p known n (noted p ph s) = t) : (lport t p).expectPn = (lport s p).expectPn ∧
      ((lport s p).nakPn = some ((lport s p).expectPn, s.seq.frame) → t.sent = s.sent) ∧
      ((lport s p).nakPn ≠ some ((lport s p).expectPn, s.seq.frame) →
        ctlSent s t p 1 (lport s p).expectPn false) := by
  obtain ⟨a, b, c, hnoted⟩ := lport_noted hp ph
  have hexpect := expectPn_noted hp ph
  have hnak : (lport (noted p ph s) p).nakPn = (lport s p).nakPn :=
    (congrArg LinkPort.nakPn hnoted).trans rfl
  have hp1 : p < (noted p ph s).link.ports.length := (length_ports_noted p ph s).symm ▸ hp
  obtain ⟨k, l, hframe⟩ := gapSeen_eq p (noted p ph s)
  have hseen := lport_gapSeen hp1
  have hp2 := (length_ports_gapSeen p (noted p ph s)).symm ▸ hp1
  have hnow : (noted p ph s).seq.frame = s.seq.frame := rfl
  rw [takeReliable_of_gap (hexpect.symm ▸ h), hexpect, hnak, hnow] at ht
  rw [hnoted] at hseen
  by_cases hasked : (lport s p).nakPn = some ((lport s p).expectPn, s.seq.frame)
  · rw [if_pos hasked] at ht
    subst ht
    exact ⟨by simp [hseen], fun _ => (congrArg State.sent hframe).trans rfl,
      fun hne => absurd hasked hne⟩
  · rw [if_neg hasked] at ht
    obtain ⟨hsent, ⟨m, hport⟩, -⟩ := updPort_sendCtl (s := s) (v := gapSeen p (noted p ph s))
      (f := askedMissing (lport s p).expectPn s.seq.frame) hp2 ((congrArg State.sent hframe).trans rfl)
      ((congrArg State.pow hframe).trans rfl) ((congrArg LinkPort.session hseen).trans rfl)
      ((congrArg LinkPort.ctlSend hseen).trans rfl) ht
    rw [hseen] at hport
    exact ⟨by simp [hport], fun heq => absurd heq hasked, fun _ => hsent⟩

theorem takeReliable_earlier_keeps {known : Bool} (hp : p < s.link.ports.length)
    (h : rebuildPn (lport s p).expectPn n < (lport s p).expectPn) (ht : takeReliable p known n (noted p ph s) = t) :
    (lport t p).expectPn = (lport s p).expectPn ∧ ctlSent s t p 0 ((lport s p).expectPn + 65535) false ∧
      t.log = s.log := by
  obtain ⟨a, b, c, hnoted⟩ := lport_noted hp ph
  have hexpect := expectPn_noted hp ph
  rw [takeReliable_of_earlier (hexpect.symm ▸ h), hexpect] at ht
  obtain ⟨hsent, honly, -, m, hport⟩ := noted_sendCtl (f := withCount 5 1) hp (fun _ => rfl) (fun _ => rfl) ht
  rw [hnoted] at hport
  exact ⟨by simp [hport], hsent, (congrArg State.log honly).trans rfl⟩

end

/-! The control packets that a port hears (R359). -/

section
variable {op n ph : Nat} {head payload : List Nat} {take : Nat → State → State}

/-- The state after a control packet in its order has been noted. -/
def ctlHeard (p n ph : Nat) (s : State) : State := takeCtl p n (noted p ph s)

/-- A port that has noted a control packet in its order. -/
def portHeard (n g : Nat) (f r : Option Nat) (frame : Nat) (x : LinkPort) : LinkPort :=
  { x with rxGen := g, phaseFrame := f, rekey := r, lastValid := frame, ctlLast := some n }

section
variable (n g : Nat) (f r : Option Nat) (frame : Nat) (x : LinkPort)

@[simp] theorem replay_portHeard : (portHeard n g f r frame x).replay = x.replay := rfl

@[simp] theorem waiting_portHeard : (portHeard n g f r frame x).waiting = x.waiting := rfl

@[simp] theorem ctlLast_portHeard : (portHeard n g f r frame x).ctlLast = some n := rfl

@[simp] theorem pingNum_portHeard : (portHeard n g f r frame x).pingNum = x.pingNum := rfl

@[simp] theorem pingFrame_portHeard : (portHeard n g f r frame x).pingFrame = x.pingFrame := rfl

@[simp] theorem state_portHeard : (portHeard n g f r frame x).state = x.state := rfl

end

theorem lport_ctlHeard (hp : p < s.link.ports.length) (n ph : Nat) : ∃ a b c, lport (ctlHeard p n ph s) p =
    portHeard n a b c s.seq.frame (lport s p) := by
  obtain ⟨a, b, c, hnoted⟩ := lport_noted hp ph
  have hp1 : p < (noted p ph s).link.ports.length := (length_ports_noted p ph s).symm ▸ hp
  have hself := lport_updPort_self (p := p) (s := updPort p (fun x => { x with ctlLast := some n }) (noted p ph s))
    ((length_ports_updPort _ _ _).symm ▸ hp1) fun x => { x with lastValid := s.seq.frame }
  rw [lport_updPort_self hp1, hnoted] at hself
  exact ⟨a, b, c, hself⟩

theorem length_ports_ctlHeard (p n ph : Nat) (s : State) :
    (ctlHeard p n ph s).link.ports.length = s.link.ports.length :=
  (length_ports_updPort _ _ _).trans ((length_ports_updPort _ _ _).trans (length_ports_noted p ph s))

theorem linkOnly_ctlHeard (p n ph : Nat) (s : State) : LinkOnly s (ctlHeard p n ph s) :=
  (linkOnly_noted p ph s).trans ((linkOnly_updPort _ _ _).trans (linkOnly_updPort _ _ _))

theorem takeControlPacket_eq (h : controlTaken s p op head) :
    takeControlPacket p op head payload take s =
      if ctlFresh (lport s p) (ctlNumber payload)
      then take (ctlNum16 payload) (ctlHeard p (ctlNumber payload) (parseHead head).phase s)
      else badCtl p (noted p (parseHead head).phase s) := by
  obtain ⟨hverdict, htype, hop⟩ := h
  unfold takeControlPacket
  dsimp only
  rw [hverdict, htype, hop]
  exact if_neg (by simp only [ne_eq, not_true_eq_false, decide_false, Bool.or_self, Bool.false_eq_true,
    not_false_eq_true])

theorem takeControlPacket_of_fresh (h : controlTaken s p op head)
    (hfresh : ctlFresh (lport s p) (ctlNumber payload) = true) : takeControlPacket p op head payload take s =
      take (ctlNum16 payload) (ctlHeard p (ctlNumber payload) (parseHead head).phase s) := by
  rw [takeControlPacket_eq h, if_pos hfresh]

/-- A control packet out of order is counted alone. -/
theorem takeControlPacket_of_stale {m : Nat} (hp : p < s.link.ports.length) (h : controlTaken s p op head)
    (hlast : (lport s p).ctlLast = some m) (hold : ctlNumber payload ≤ m)
    (ht : takeControlPacket p op head payload take s = t) : ∃ a b c, t = { s with link := t.link } ∧
      lport t p = withCount 6 1 (portNoted a b c s.seq.frame (lport s p)) := by
  have hstale : ctlFresh (lport s p) (ctlNumber payload) = false := by
    rw [ctlFresh, hlast]
    exact decide_eq_false (Nat.not_lt.mpr hold)
  rw [takeControlPacket_eq h, if_neg (by simp [hstale])] at ht
  obtain ⟨a, b, c, hnoted⟩ := lport_noted hp (parseHead head).phase
  have hself := lport_portCount ((length_ports_noted p (parseHead head).phase s).symm ▸ hp) 6 1
  rw [hnoted] at hself
  subst ht
  exact ⟨a, b, c, rfl, hself⟩

theorem staleControl_keeps {m : Nat} (hp : p < s.link.ports.length) (h : controlTaken s p op head)
    (hlast : (lport s p).ctlLast = some m) (hold : ctlNumber payload ≤ m)
    (ht : takeControlPacket p op head payload take s = t) : (lport t p).replay = (lport s p).replay ∧
      (lport t p).rtt = (lport s p).rtt ∧ (lport t p).counters = upd (lport s p).counters 6 (fun c => satAdd 32 c 1) ∧
      t = { s with link := t.link } := by
  obtain ⟨a, b, c, hframe, hport⟩ := takeControlPacket_of_stale hp h hlast hold ht
  exact ⟨(congrArg LinkPort.replay hport).trans rfl, (congrArg LinkPort.rtt hport).trans rfl,
    (congrArg LinkPort.counters hport).trans rfl, hframe⟩

end

/-! An ACK frees the packets that it covers (R360). -/

section
variable {pn : Int}

/-- A port whose packets up to a number have been acknowledged. -/
def acked (pn : Int) (x : LinkPort) : LinkPort :=
  if (x.replay.filter fun k => decide (pn < (k.pn : Int))).length = x.replay.length then x
  else { x with replay := (x.replay.filter fun k => decide (pn < (k.pn : Int))).map fun k => { k with replays := 0 } }

theorem freeAcked_eq (p : Nat) (pn : Int) (s : State) : freeAcked p pn s = updPort p (acked pn) s := rfl

theorem map_replay_acked (pn : Int) (x : LinkPort) :
    (acked pn x).replay.map (·.pn) = (x.replay.filter fun k => decide (pn < (k.pn : Int))).map (·.pn) := by
  unfold acked
  split
  next h => rw [List.filter_eq_self.mpr (List.length_filter_eq_length_iff.mp h)]
  next => simp

@[simp] theorem ctlLast_acked (pn : Int) (x : LinkPort) : (acked pn x).ctlLast = x.ctlLast := by
  unfold acked
  split <;> rfl

@[simp] theorem waiting_acked (pn : Int) (x : LinkPort) : (acked pn x).waiting = x.waiting := by
  unfold acked
  split <;> rfl

theorem streamCheckpoint_of_none (n : Nat) (h : s.pair.snap = none) : streamCheckpoint n s = s := by
  cases n with
  | zero => rfl
  | succ n => simp only [streamCheckpoint, h]

end

/-! Packets that are sent again (R361). -/

section
variable {pn : Int}

theorem foldl_transmitReliable (p : Nat) (l : List ReplayPkt) (s : State) :
    ∃ d, l.foldl (fun t k => transmitReliable p k t) s = { s with sent := d } ∧
      d.length = s.sent.length + l.length := by
  induction l generalizing s with
  | nil => exact ⟨s.sent, rfl, rfl⟩
  | cons k l ih =>
    obtain ⟨d, hfold, hlen⟩ := ih (transmitReliable p k s)
    refine ⟨d, hfold.trans rfl, ?_⟩
    rw [hlen, List.length_cons]
    exact (Nat.add_assoc _ 1 _).trans (congrArg _ (Nat.add_comm _ _))

/-- A packet that is sent again when its number has come. -/
def replayed (pn : Int) (frame : Nat) (k : ReplayPkt) : ReplayPkt :=
  if pn ≤ (k.pn : Int) then { k with replays := k.replays + 1, sent := frame } else k

/-- A port that sends its packets from a number on again. -/
def replaying (pn : Int) (frame : Nat) (x : LinkPort) : LinkPort :=
  { x with replay := x.replay.map (replayed pn frame) }

/-- The packets from a number on. -/
def dueFrom (pn : Int) (x : LinkPort) : List ReplayPkt := x.replay.filter fun k => decide (pn ≤ (k.pn : Int))

theorem replayFrom_eq (p : Nat) (pn : Int) (s : State) : replayFrom p pn s =
    if (dueFrom pn (lport s p)).any fun k => 4 ≤ k.replays then none
    else some (portCount p 2 (dueFrom pn (lport s p)).length
      ((dueFrom pn (lport s p)).foldl (fun t k => transmitReliable p k t)
        (updPort p (replaying pn s.seq.frame) s))) := by
  unfold replayFrom replaying replayed
  simp only [decide_eq_true_eq]
  rfl

theorem replayFrom_of_spare (hp : p < s.link.ports.length)
    (h : ∀ k ∈ (lport s p).replay, pn ≤ k.pn → k.replays < 4) : ∃ t n, replayFrom p pn s = some t ∧
      lport t p = withCount 2 n (replaying pn s.seq.frame (lport s p)) ∧
      t.sent.length = s.sent.length + (dueFrom pn (lport s p)).length ∧ OnlyLink s t := by
  have hspare : ¬ (dueFrom pn (lport s p)).any (fun k => 4 ≤ k.replays) = true := by
    simpa [dueFrom] using h
  obtain ⟨d, hfold, hlen⟩ := foldl_transmitReliable p (dueFrom pn (lport s p)) (updPort p (replaying pn s.seq.frame) s)
  refine ⟨_, (dueFrom pn (lport s p)).length, (replayFrom_eq p pn s).trans (if_neg hspare), ?_⟩
  rw [hfold]
  refine ⟨?_, hlen, rfl⟩
  have hself := lport_portCount (s := { updPort p (replaying pn s.seq.frame) s with sent := d }) (p := p)
    ((length_ports_updPort _ _ _).symm ▸ hp) 2 (dueFrom pn (lport s p)).length
  exact hself.trans (congrArg _ (lport_updPort_self hp _))

theorem replayFrom_of_used (h : ∃ k ∈ (lport s p).replay, pn ≤ k.pn ∧ 4 ≤ k.replays) : replayFrom p pn s = none := by
  rw [replayFrom_eq]
  exact if_pos (by simpa [dueFrom] using h)

end

/-! An ACK, a NAK, and the timeout of a packet. -/

section
variable {head payload : List Nat} {k : ReplayPkt} {r : List ReplayPkt}

/-- The state after an ACK has been noted and has freed the packets it covers. -/
def ackHeard (p : Nat) (pn : Int) (n ph : Nat) (s : State) : State := updPort p (acked pn) (ctlHeard p n ph s)

theorem lport_ackHeard (hp : p < s.link.ports.length) (pn : Int) (n ph : Nat) : ∃ a b c,
    lport (ackHeard p pn n ph s) p = acked pn (portHeard n a b c s.seq.frame (lport s p)) := by
  obtain ⟨a, b, c, hport⟩ := lport_ctlHeard hp n ph
  exact ⟨a, b, c, (lport_updPort_self ((length_ports_ctlHeard p n ph s).symm ▸ hp) _).trans (congrArg _ hport)⟩

theorem linkOnly_ackHeard (p : Nat) (pn : Int) (n ph : Nat) (s : State) : LinkOnly s (ackHeard p pn n ph s) :=
  (linkOnly_ctlHeard p n ph s).trans (linkOnly_updPort p (acked pn) (ctlHeard p n ph s))

theorem execAckReceived_eq (h : controlTaken s p 0 head) (hp : p < s.link.ports.length)
    (hfresh : ctlFresh (lport s p) (ctlNumber payload) = true) (hreplay : (lport s p).replay = k :: r)
    (hwaiting : (lport s p).waiting = []) (hsnap : p < 64 ∨ s.pair.snap = none) :
    execAckReceived p head payload s = .next
      (ackHeard p (rebuildPn k.pn (ctlNum16 payload)) (ctlNumber payload) (parseHead head).phase s) := by
  obtain ⟨a, b, c, hport⟩ := lport_ctlHeard hp (ctlNumber payload) (parseHead head).phase
  obtain ⟨a', b', c', hacked⟩ := lport_ackHeard hp (rebuildPn k.pn (ctlNum16 payload)) (ctlNumber payload)
    (parseHead head).phase
  have hreplay' : (lport (ctlHeard p (ctlNumber payload) (parseHead head).phase s) p).replay = k :: r := by
    simp [hport, hreplay]
  have hwaiting' : (lport (ackHeard p (rebuildPn k.pn (ctlNum16 payload)) (ctlNumber payload)
      (parseHead head).phase s) p).waiting = [] := by
    simp [hacked, hwaiting]
  unfold execAckReceived
  rw [takeControlPacket_of_fresh h hfresh]
  dsimp only
  rw [hreplay']
  dsimp only
  rw [freeAcked_eq, ← ackHeard, sendWaiting_of_none 32 hwaiting']
  split
  next => rfl
  next hp64 =>
    have hpair := (linkOnly_ackHeard p (rebuildPn k.pn (ctlNum16 payload)) (ctlNumber payload)
      (parseHead head).phase s).pair
    rw [streamCheckpoint_of_none 16 (hpair.symm ▸ hsnap.resolve_left hp64)]

theorem execAckReceived_keeps (h : controlTaken s p 0 head) (hp : p < s.link.ports.length)
    (hfresh : ctlFresh (lport s p) (ctlNumber payload) = true) (hreplay : (lport s p).replay = k :: r)
    (hwaiting : (lport s p).waiting = []) (hsnap : p < 64 ∨ s.pair.snap = none) :
    ∃ t, execAckReceived p head payload s = .next t ∧ (lport t p).ctlLast = some (ctlNumber payload) ∧
      (lport t p).replay.map (·.pn) =
        ((k :: r).filter fun x => decide (rebuildPn k.pn (ctlNum16 payload) < (x.pn : Int))).map (·.pn) ∧
      t = { s with link := t.link } := by
  obtain ⟨a, b, c, hport⟩ := lport_ackHeard hp (rebuildPn k.pn (ctlNum16 payload)) (ctlNumber payload)
    (parseHead head).phase
  have hframe := linkOnly_ackHeard p (rebuildPn k.pn (ctlNum16 payload)) (ctlNumber payload) (parseHead head).phase s
  rw [execAckReceived_eq h hp hfresh hreplay hwaiting hsnap]
  generalize ackHeard p (rebuildPn k.pn (ctlNum16 payload)) (ctlNumber payload) (parseHead head).phase s = t
    at hport hframe ⊢
  refine ⟨t, rfl, by simp [hport], ?_, hframe.eq⟩
  rw [hport, map_replay_acked, replay_portHeard, hreplay]

/-- The state after a NAK has been noted and counted. -/
def nakHeard (p n ph : Nat) (s : State) : State := portCount p 3 1 (ctlHeard p n ph s)

theorem lport_nakHeard (hp : p < s.link.ports.length) (n ph : Nat) : ∃ a b c,
    lport (nakHeard p n ph s) p = withCount 3 1 (portHeard n a b c s.seq.frame (lport s p)) := by
  obtain ⟨a, b, c, hport⟩ := lport_ctlHeard hp n ph
  exact ⟨a, b, c, (lport_portCount ((length_ports_ctlHeard p n ph s).symm ▸ hp) 3 1).trans (congrArg _ hport)⟩

theorem length_ports_nakHeard (p n ph : Nat) (s : State) :
    (nakHeard p n ph s).link.ports.length = s.link.ports.length :=
  (length_ports_updPort _ _ _).trans (length_ports_ctlHeard p n ph s)

theorem linkOnly_nakHeard (p n ph : Nat) (s : State) : LinkOnly s (nakHeard p n ph s) :=
  (linkOnly_ctlHeard p n ph s).trans (linkOnly_updPort _ _ _)

theorem execNakReceived_eq (h : controlTaken s p 1 head) (hp : p < s.link.ports.length)
    (hfresh : ctlFresh (lport s p) (ctlNumber payload) = true) (hreplay : (lport s p).replay = k :: r) :
    execNakReceived p head payload s = .next
      ((replayFrom p (rebuildPn k.pn (ctlNum16 payload)) (nakHeard p (ctlNumber payload) (parseHead head).phase s)).getD
        (linkLost p 5 (nakHeard p (ctlNumber payload) (parseHead head).phase s))) := by
  obtain ⟨a, b, c, hport⟩ := lport_nakHeard hp (ctlNumber payload) (parseHead head).phase
  have hreplay' : (lport (nakHeard p (ctlNumber payload) (parseHead head).phase s) p).replay = k :: r := by
    simp [hport, hreplay]
  unfold execNakReceived
  rw [takeControlPacket_of_fresh h hfresh]
  change Host.Outcome.next (match (lport (nakHeard p (ctlNumber payload) (parseHead head).phase s) p).replay with
    | [] => nakHeard p (ctlNumber payload) (parseHead head).phase s
    | k :: _ => match replayFrom p (rebuildPn k.pn (ctlNum16 payload))
        (nakHeard p (ctlNumber payload) (parseHead head).phase s) with
      | some u => u
      | none => linkLost p 5 (nakHeard p (ctlNumber payload) (parseHead head).phase s)) = _
  rw [hreplay']
  dsimp only
  generalize nakHeard p (ctlNumber payload) (parseHead head).phase s = u
  cases replayFrom p (rebuildPn k.pn (ctlNum16 payload)) u <;> rfl

theorem execNakReceived_of_spare (h : controlTaken s p 1 head) (hp : p < s.link.ports.length)
    (hfresh : ctlFresh (lport s p) (ctlNumber payload) = true) (hreplay : (lport s p).replay = k :: r)
    (hspare : ∀ x ∈ k :: r, rebuildPn k.pn (ctlNum16 payload) ≤ x.pn → x.replays < 4) :
    ∃ t, execNakReceived p head payload s = .next t ∧ (lport t p).ctlLast = some (ctlNumber payload) ∧
      (lport t p).replay = (k :: r).map (replayed (rebuildPn k.pn (ctlNum16 payload)) s.seq.frame) ∧
      t.sent.length = s.sent.length +
        ((k :: r).filter fun x => decide (rebuildPn k.pn (ctlNum16 payload) ≤ (x.pn : Int))).length ∧
      t = { s with link := t.link, sent := t.sent } := by
  obtain ⟨a, b, c, hport⟩ := lport_nakHeard hp (ctlNumber payload) (parseHead head).phase
  have hreplay' : (lport (nakHeard p (ctlNumber payload) (parseHead head).phase s) p).replay = k :: r := by
    simp [hport, hreplay]
  have hframe := linkOnly_nakHeard p (ctlNumber payload) (parseHead head).phase s
  have hp1 := (length_ports_nakHeard p (ctlNumber payload) (parseHead head).phase s).symm ▸ hp
  rw [execNakReceived_eq h hp hfresh hreplay]
  generalize nakHeard p (ctlNumber payload) (parseHead head).phase s = u at hport hframe hp1 hreplay' ⊢
  obtain ⟨t, n, hreplayed, hself, hlen, honly⟩ := replayFrom_of_spare hp1 (hreplay' ▸ hspare)
  rw [dueFrom, hreplay'] at hlen
  rw [hframe.frame] at hself
  rw [hreplayed]
  refine ⟨t, rfl, ?_, ?_, ?_, hframe.onlyLink.trans honly⟩
  · simp [hself, hport, replaying]
  · simp [hself, hreplay', replaying]
  · obtain ⟨k, rfl⟩ := hframe
    exact hlen

theorem linkAlive_of_taken {h : PktHead} (hv : headVerdict s p h = .taken) : linkAlive (lport s p) = true := by
  refine Classical.byContradiction fun hdead => ?_
  rw [headVerdict] at hv
  simp only [Bool.not_eq_true] at hdead
  simp [hdead] at hv

theorem execNakReceived_of_used (h : controlTaken s p 1 head) (hp : p < s.link.ports.length)
    (hfresh : ctlFresh (lport s p) (ctlNumber payload) = true) (hreplay : (lport s p).replay = k :: r)
    (hused : ∃ x ∈ k :: r, rebuildPn k.pn (ctlNum16 payload) ≤ x.pn ∧ 4 ≤ x.replays) :
    ∃ t, execNakReceived p head payload s = .next t ∧ (lport t p).session = false ∧ (lport t p).replay = [] ∧
      ((lport t p).state = .training ∨ (lport t p).state = .quarantine) := by
  obtain ⟨a, b, c, hport⟩ := lport_nakHeard hp (ctlNumber payload) (parseHead head).phase
  have hreplay' : (lport (nakHeard p (ctlNumber payload) (parseHead head).phase s) p).replay = k :: r := by
    simp [hport, hreplay]
  have hstate : (lport (nakHeard p (ctlNumber payload) (parseHead head).phase s) p).state = (lport s p).state := by
    simp [hport]
  have halive := (linkAlive_congr hstate).trans (linkAlive_of_taken h.1)
  obtain ⟨hsession, hempty, -, -, hstate⟩ := linkLost_keeps (c := 5)
    ((length_ports_nakHeard p (ctlNumber payload) (parseHead head).phase s).symm ▸ hp) halive rfl
  refine ⟨_, ?_, hsession, hempty, hstate⟩
  rw [execNakReceived_eq h hp hfresh hreplay, replayFrom_of_used (hreplay' ▸ hused)]
  rfl

theorem execReplayTimeout_of_due (hp : p < s.link.ports.length) (hreplay : (lport s p).replay = k :: r)
    (hdue : k.sent + 4 ≤ s.seq.frame) (hspare : ∀ x ∈ k :: r, k.pn ≤ x.pn ∧ x.replays < 4) :
    ∃ t, execReplayTimeout p s = .next t ∧ t.sent.length = s.sent.length + (k :: r).length ∧
      (lport t p).replay = (k :: r).map (fun x => { x with replays := x.replays + 1, sent := s.seq.frame }) ∧
      t = { s with link := t.link, sent := t.sent } := by
  obtain ⟨t, n, hreplayed, hself, hlen, honly⟩ := replayFrom_of_spare (pn := k.pn) hp
    (hreplay ▸ fun x hx _ => (hspare x hx).2)
  have hall : dueFrom k.pn (lport s p) = k :: r := by
    rw [dueFrom, hreplay]
    exact List.filter_eq_self.mpr fun x hx => decide_eq_true (Int.ofNat_le.mpr (hspare x hx).1)
  refine ⟨t, ?_, hall ▸ hlen, ?_, honly⟩
  · unfold execReplayTimeout
    rw [hreplay]
    dsimp only
    rw [if_pos hdue, hreplayed]
  · refine (congrArg LinkPort.replay hself).trans ((congrArg _ hreplay).trans (List.map_congr_left fun x hx => ?_))
    exact if_pos (Int.ofNat_le.mpr (hspare x hx).1)

end

/-! PING, PONG, and packets in error. -/

/-- A port that has sent a PING. -/
def pinged (frame : Nat) (x : LinkPort) : LinkPort :=
  { x with pingNum := (x.pingNum + 1) % 65536, pingFrame := some frame }

theorem execPingSend_of_due (hp : p < s.link.ports.length) (hup : (lport s p).state = .up)
    (hping : (lport s p).pingFrame = none) :
    ∃ t, execPingSend p s = .next t ∧ (lport t p).pingFrame = some s.seq.frame ∧
      ctlSent s t p 2 ((lport s p).pingNum + 1) false ∧ t = { s with link := t.link, sent := t.sent } := by
  obtain ⟨hsent, ⟨n, hport⟩, honly, -⟩ := updPort_sendCtl (s := s) (v := s) (f := pinged s.seq.frame) (op := 2)
    (num := (lport s p).pingNum + 1) (missing := false) hp rfl rfl rfl rfl rfl
  refine ⟨_, ?_, congrArg LinkPort.pingFrame hport, hsent, honly⟩
  unfold execPingSend
  dsimp only
  rw [hup, hping]
  rfl

theorem execPingSend_of_early {f : Nat} (hping : (lport s p).pingFrame = some f) (hf : s.seq.frame < f + 10000) :
    execPingSend p s = .next s := by
  unfold execPingSend
  dsimp only
  rw [hping]
  simp [Nat.not_le.mpr hf]

/-- A port whose round trip has been tripMeasured. -/
def tripMeasured (rtt : Nat) (x : LinkPort) : LinkPort := { x with rtt := min 65535 rtt }

theorem execPongReceived_keeps {head payload : List Nat} {rtt : Nat} (hp : p < s.link.ports.length)
    (h : controlTaken s p 3 head) (hfresh : ctlFresh (lport s p) (ctlNumber payload) = true)
    (hping : (lport s p).pingFrame ≠ none) (hnum : ctlNum16 payload = (lport s p).pingNum) :
    ∃ t, execPongReceived p head payload rtt s = .next t ∧ (lport t p).rtt = min 65535 rtt ∧
      t = { s with link := t.link, log := t.log } ∧ (rtt ≤ 1400 → t.log = s.log) := by
  obtain ⟨a, b, c, hport⟩ := lport_ctlHeard hp (ctlNumber payload) (parseHead head).phase
  have hself := lport_updPort_self
    ((length_ports_ctlHeard p (ctlNumber payload) (parseHead head).phase s).symm ▸ hp) (tripMeasured rtt)
  have hcur : (decide (ctlNum16 payload =
        (lport (ctlHeard p (ctlNumber payload) (parseHead head).phase s) p).pingNum) &&
      (lport (ctlHeard p (ctlNumber payload) (parseHead head).phase s) p).pingFrame.isSome) = true := by
    simp [hport, hnum, Option.isSome_iff_ne_none, hping]
  have hframe := (linkOnly_ctlHeard p (ctlNumber payload) (parseHead head).phase s).trans
    (linkOnly_updPort p (tripMeasured rtt) _)
  unfold execPongReceived
  rw [takeControlPacket_of_fresh h hfresh]
  dsimp only
  rw [if_pos hcur]
  change ∃ t, Host.Outcome.next (if 1400 < rtt then postRun 0x9052 (updPort p (tripMeasured rtt)
    (ctlHeard p (ctlNumber payload) (parseHead head).phase s)) p else updPort p (tripMeasured rtt)
      (ctlHeard p (ctlNumber payload) (parseHead head).phase s)) = .next t ∧ _
  generalize updPort p (tripMeasured rtt) (ctlHeard p (ctlNumber payload) (parseHead head).phase s) = u
    at hself hframe ⊢
  by_cases hslow : 1400 < rtt
  · rw [if_pos hslow]
    refine ⟨_, rfl, ?_, ?_, fun hquick => absurd hquick (Nat.not_le.mpr hslow)⟩
    · rw [lport_congr (link_postRun _ _ _), hself]
      rfl
    · rw [postRun_eq, hframe.eq]
  · rw [if_neg hslow]
    refine ⟨u, rfl, congrArg LinkPort.rtt hself, ?_, fun _ => ?_⟩
    · obtain ⟨k, rfl⟩ := hframe
      rfl
    · obtain ⟨k, rfl⟩ := hframe
      rfl

/-- A port that has counted errors of the code. -/
def erred (n : Nat) (x : LinkPort) : LinkPort := { x with codeErrors := x.codeErrors + n }

section
variable (n : Nat) (x : LinkPort)

@[simp] theorem expectPn_erred : (erred n x).expectPn = x.expectPn := rfl

@[simp] theorem session_erred : (erred n x).session = x.session := rfl

@[simp] theorem ctlSend_erred : (erred n x).ctlSend = x.ctlSend := rfl

@[simp] theorem codeErrors_erred : (erred n x).codeErrors = x.codeErrors + n := rfl

@[simp] theorem state_erred : (erred n x).state = x.state := rfl

@[simp] theorem telFrame_erred : (erred n x).telFrame = x.telFrame := rfl

@[simp] theorem telNak_erred : (erred n x).telNak = x.telNak := rfl

end

/-- The state after the errors of a port have been counted. -/
def errorsCounted (p n : Nat) (bad : Bool) (s : State) : State :=
  updPort p (erred n) (portCount p 1 n (portCount p 0 (b2n bad) s))

/-- The state after the errors of a port have been counted and logged. -/
def errorsNoted (p n : Nat) (bad : Bool) (s : State) : State := postRun 0x9020 (errorsCounted p n bad s) p

theorem lport_errorsNoted (hp : p < s.link.ports.length) (n : Nat) (bad : Bool) :
    lport (errorsNoted p n bad s) p = erred n (withCount 1 n (withCount 0 (b2n bad) (lport s p))) := by
  have hp1 : p < (portCount p 0 (b2n bad) s).link.ports.length := (length_ports_updPort _ _ _).symm ▸ hp
  have hp2 : p < (portCount p 1 n (portCount p 0 (b2n bad) s)).link.ports.length :=
    (length_ports_updPort _ _ _).symm ▸ hp1
  rw [errorsNoted, lport_congr (link_postRun _ _ _), errorsCounted, lport_updPort_self hp2, lport_portCount hp1,
    lport_portCount hp]

theorem linkOnly_errorsCounted (p n : Nat) (bad : Bool) (s : State) : LinkOnly s (errorsCounted p n bad s) :=
  ((linkOnly_updPort _ _ _).trans (linkOnly_updPort _ _ _)).trans
    (linkOnly_updPort p (erred n) (portCount p 1 n (portCount p 0 (b2n bad) s)))

theorem errorsNoted_eq (p n : Nat) (bad : Bool) (s : State) :
    ∃ k l, errorsNoted p n bad s = { s with link := k, log := l } := by
  obtain ⟨k, hk⟩ := linkOnly_errorsCounted p n bad s
  rw [errorsNoted, hk]
  exact ⟨k, _, postRun_eq _ _ _⟩

theorem length_ports_errorsNoted (p n : Nat) (bad : Bool) (s : State) :
    (errorsNoted p n bad s).link.ports.length = s.link.ports.length := by
  rw [errorsNoted, link_postRun]
  exact (length_ports_updPort _ _ _).trans ((length_ports_updPort _ _ _).trans (length_ports_updPort _ _ _))

/-- A port that has asked for the TEL of this frame again. -/
def telAsked (frame : Nat) (x : LinkPort) : LinkPort := { x with telNak := some frame }

theorem execPacketError_eq (p n : Nat) (bad : Bool) (s : State) : execPacketError p n bad s = .next
    (if decide (p < 64) && decide ((lport (errorsNoted p n bad s) p).state = .up) &&
        decide ((lport (errorsNoted p n bad s) p).telFrame ≠ some s.seq.frame) &&
        decide ((lport (errorsNoted p n bad s) p).telNak ≠ some s.seq.frame)
      then sendCtl p 1 (lport (errorsNoted p n bad s) p).expectPn true
        (updPort p (telAsked s.seq.frame) (errorsNoted p n bad s))
      else errorsNoted p n bad s) := rfl

theorem execPacketError_of_down (hp : p < s.link.ports.length) (n : Nat) (bad : Bool)
    (hdown : (lport s p).state ≠ .up) :
    ∃ t, execPacketError p n bad s = .next t ∧ (lport t p).codeErrors = (lport s p).codeErrors + n ∧
      t = { s with link := t.link, log := t.log } := by
  have hport := lport_errorsNoted hp n bad
  obtain ⟨k, l, hframe⟩ := errorsNoted_eq p n bad s
  rw [execPacketError_eq, if_neg (by simp [hport, hdown])]
  exact ⟨_, rfl, congrArg LinkPort.codeErrors hport, by rw [hframe]⟩

theorem execPacketError_of_up (hp : p < s.link.ports.length) (hp64 : p < 64) (n : Nat) (bad : Bool)
    (hup : (lport s p).state = .up) (htel : (lport s p).telFrame ≠ some s.seq.frame)
    (hnak : (lport s p).telNak ≠ some s.seq.frame) :
    ∃ t, execPacketError p n bad s = .next t ∧ (lport t p).codeErrors = (lport s p).codeErrors + n ∧
      (lport t p).telNak = some s.seq.frame ∧ ctlSent s t p 1 (lport s p).expectPn true := by
  have hport := lport_errorsNoted hp n bad
  obtain ⟨k, l, hframe⟩ := errorsNoted_eq p n bad s
  rw [execPacketError_eq, if_pos (by simp [hport, hp64, hup, htel, hnak]), hport]
  simp only [expectPn_erred, expectPn_withCount]
  have hp1 := (length_ports_errorsNoted p n bad s).symm ▸ hp
  generalize errorsNoted p n bad s = u at hport hframe hp1 ⊢
  obtain ⟨hsent, ⟨m, hself⟩, -, -⟩ := updPort_sendCtl (s := s) (v := u) (f := telAsked s.seq.frame) (op := 1)
    (num := (lport s p).expectPn) (missing := true) hp1 (by rw [hframe]) (by rw [hframe])
    (by simp [hport, telAsked]) (by simp [hport, telAsked]) rfl
  refine ⟨_, rfl, ?_, ?_, hsent⟩
  · simp [hself, hport, ctlCounted, telAsked]
  · simp [hself, ctlCounted, telAsked]

end

/-- Settles O25: a reliable packet is judged by its number (`takeReliable`), a control packet by the counter in its
payload, and a NAK or a timeout replays from a number on while no packet has reached its limit. -/
theorem reliableDeliveryAndPings : Obligations.ReliableDeliveryAndPings := by
  unfold Obligations.ReliableDeliveryAndPings
  refine ⟨?_, ?_, ?_, ?_, ?_, ?_, ?_, ?_, ?_, ?_, ?_, ?_, ?_, ?_, ?_, ?_⟩
  · intro s p head payload hverdict hp hpn hknown
    obtain ⟨hexpect, hvalid, hnak, hsent, honly⟩ := takeReliable_known_keeps (ph := (parseHead head).phase) hp hpn rfl
    refine ⟨_, (execReliablePacketReceived_of_taken (payload := payload) hverdict).trans (by rw [hknown]), hexpect,
      hvalid, hnak, hsent, ?_, honly⟩
    rw [honly]
  · intro s p head payload hverdict hp hpn hknown
    obtain ⟨hexpect, hsent, hcount⟩ := takeReliable_unknown_keeps (ph := (parseHead head).phase) hp hpn rfl
    exact ⟨_, (execReliablePacketReceived_of_taken (payload := payload) hverdict).trans (by rw [hknown]), hexpect,
      hsent, hcount⟩
  · intro s p head payload hverdict hp hpn
    exact ⟨_, execReliablePacketReceived_of_taken (payload := payload) hverdict, takeReliable_gap_keeps hp hpn rfl⟩
  · intro s p head payload hverdict hp hpn
    exact ⟨_, execReliablePacketReceived_of_taken (payload := payload) hverdict, takeReliable_earlier_keeps hp hpn rfl⟩
  · intro s p head payload hverdict hsession
    exact execReliablePacketReceived_of_tag (payload := payload) hverdict hsession
  · intro s p head payload n hlast hold hp
    refine ⟨fun h => ?_, fun h => ?_, fun rtt h => ?_⟩
    · obtain ⟨hreplay, -, hcount, hframe⟩ := staleControl_keeps hp h hlast hold rfl
      exact ⟨_, rfl, hreplay, hcount, hframe⟩
    · obtain ⟨hreplay, -, hcount, hframe⟩ := staleControl_keeps hp h hlast hold rfl
      exact ⟨_, rfl, hreplay, hcount, hframe⟩
    · obtain ⟨-, hrtt, hcount, hframe⟩ := staleControl_keeps hp h hlast hold rfl
      exact ⟨_, rfl, hrtt, hcount, hframe⟩
  · intro s p head payload k r h hp hfresh hreplay hwaiting hsnap
    exact execAckReceived_keeps h hp hfresh hreplay hwaiting hsnap
  · intro s p head payload k r h hp hfresh hreplay hspare
    exact execNakReceived_of_spare h hp hfresh hreplay hspare
  · intro s p head payload k r h hp hfresh hreplay hused
    exact execNakReceived_of_used h hp hfresh hreplay hused
  · intro s p k r hp hreplay hdue hspare
    exact execReplayTimeout_of_due hp hreplay hdue hspare
  · intro s p hreplay
    change execReplayTimeout p s = _
    unfold execReplayTimeout
    rw [hreplay]
  · intro s p hp hup hping
    exact execPingSend_of_due hp hup hping
  · intro s p f hping hf
    exact execPingSend_of_early hping hf
  · intro s p head payload rtt hp h hfresh hping hnum
    exact execPongReceived_keeps hp h hfresh hping hnum
  · intro s p n bad hp hdown
    exact execPacketError_of_down hp n bad hdown
  · intro s p n bad hp hp64 hup htel hnak
    exact execPacketError_of_up hp hp64 n bad hup htel hnak

end Sys2Proof.Machine
end

section
/-! SUPPORT. The planned handover between the units (R503, R506, R518 to R520): what loading a checkpoint's sections
does, and the parts of a handover; settles O44. -/

namespace Sys2Proof.Machine

/-! The pair port. -/

section
variable {s t : State}

theorem lt_of_portUp (h : portUp s = true) : 64 < s.link.ports.length := by
  refine Classical.byContradiction fun hge => ?_
  rw [portUp, lport, getD_of_length_le _ _ (Nat.not_lt.mp hge)] at h
  exact absurd h (by decide)

theorem portUp_of_up (h : (lport s 64).state = .up) : portUp s = true := decide_eq_true h

theorem portUp_of_down (h : (lport s 64).state ≠ .up) : portUp s = false := decide_eq_false h

theorem onlyLink_sendCtrl {op b : Nat} : OnlyLink s (sendCtrl op b s) := by
  unfold sendCtrl
  split
  next h =>
    obtain ⟨-, -, -, -, honly⟩ := sendReliable_keeps (lt_of_portUp h) rfl
    exact honly
  next => rfl

/-- A packet of the pair goes out while its port is up. -/
theorem length_sent_sendCtrl {op b : Nat} (h : portUp s = true) :
    (sendCtrl op b s).sent.length = s.sent.length + 1 := by
  obtain ⟨⟨d, hsent⟩, -⟩ := sendReliable_keeps (type := 9) (op := op) (tag := 0) (tgen := 0) (payload := leBytes 8 b)
    (lt_of_portUp h) rfl
  rw [sendCtrl, if_pos h, hsent, List.length_cons]

theorem OnlyLink.keeps (h : OnlyLink s t) : t.pair = s.pair ∧ t.log = s.log ∧
    ∀ code index sub detail, mkEvent t code index sub detail = mkEvent s code index sub detail := by
  obtain ⟨l, hl⟩ : ∃ l, l = t.link := ⟨_, rfl⟩
  obtain ⟨m, hm⟩ : ∃ m, m = t.sent := ⟨_, rfl⟩
  rw [OnlyLink, ← hl, ← hm] at h
  rw [h]
  exact ⟨rfl, rfl, fun _ _ _ _ => rfl⟩

end

/-! Raising a request to swap, and its answers (R506, R518). -/

section
variable {s : State}

theorem execSwapRequestRaise_grade {f : Nat} (hswap : s.pair.swap = none) (hretry : s.pair.retryAt ≤ s.seq.frame)
    (hpair : isSingle s = false) (hrole : s.pair.role = .control) (hlow : s.pair.gradeLow = some f)
    (hlong : f + 10000 ≤ s.seq.frame) :
    execSwapRequestRaise .grade s = .next { s with pair := { s.pair with swap := some .grade } } := by
  unfold execSwapRequestRaise
  dsimp only
  rw [hswap, hpair, hrole, hlow]
  simp [hretry, hlong, setPair, hrole, hlow]

theorem execSwapRequestRaise_takeback {f : Nat} (hswap : s.pair.swap = none) (hretry : s.pair.retryAt ≤ s.seq.frame)
    (hpair : isSingle s = false) (hrole : s.pair.role = .standby) (hhome : isHome s = true)
    (hwell : s.pair.healthySince = some f) (hlong : f + 600000 ≤ s.seq.frame) (hhold : s.pair.pairHold = false)
    (hseen : s.pair.partnerSeen = true) : execSwapRequestRaise .takeback s =
      .next (sendCtrl 0 0 (setPair (fun q => { q with swap := some .takeback }) s)) := by
  unfold execSwapRequestRaise
  dsimp only
  rw [hswap, hpair, hrole, hhome, hwell, hhold, hseen]
  simp [hretry, hlong]

/-- A state in which a standby has asked for the row back. -/
def takebackRaised (s : State) : State := setPair (fun q => { q with swap := some .takeback }) s

theorem execSwapRequestRaise_takeback_keeps {f : Nat} (hswap : s.pair.swap = none)
    (hretry : s.pair.retryAt ≤ s.seq.frame) (hpair : isSingle s = false) (hrole : s.pair.role = .standby)
    (hhome : isHome s = true) (hwell : s.pair.healthySince = some f) (hlong : f + 600000 ≤ s.seq.frame)
    (hhold : s.pair.pairHold = false) (hseen : s.pair.partnerSeen = true) :
    ∃ t, execSwapRequestRaise .takeback s = .next t ∧ t.pair = { s.pair with swap := some .takeback } ∧
      ((lport s 64).state = .up → t.sent.length = s.sent.length + 1) ∧
      t = { s with pair := t.pair, link := t.link, sent := t.sent } := by
  have honly := onlyLink_sendCtrl (s := takebackRaised s) (op := 0) (b := 0)
  obtain ⟨hraised, -⟩ := honly.keeps
  refine ⟨_, execSwapRequestRaise_takeback hswap hretry hpair hrole hhome hwell hlong hhold hseen, hraised,
    fun hup => length_sent_sendCtrl (portUp_of_up (s := takebackRaised s) hup), ?_⟩
  rw [← takebackRaised]
  generalize sendCtrl 0 0 (takebackRaised s) = t at honly
  rw [honly]
  rfl

theorem execSwapRequestRaise_of_busy (x : SwapSource)
    (h : s.pair.swap ≠ none ∨ s.seq.frame < s.pair.retryAt ∨ isSingle s = true) :
    execSwapRequestRaise x s = .next s := by
  have hbusy : (s.pair.swap.isNone && decide (s.pair.retryAt ≤ s.seq.frame) && !(isSingle s)) = false := by
    rcases h with h | h | h
    · simp [h]
    · simp [Nat.not_le.mpr h]
    · simp [h]
  unfold execSwapRequestRaise
  dsimp only
  rw [hbusy]
  cases x <;> rfl

theorem execSwapRequestRaise_of_hold (h : s.pair.pairHold = true) : execSwapRequestRaise .takeback s = .next s := by
  unfold execSwapRequestRaise
  dsimp only
  rw [h]
  simp

/-- A state in which the holder has begun a handover at a boundary. -/
def handingAt (b : Nat) (s : State) : State :=
  setPair (fun p => { p with role := .handing, boundary := some b, primed := false }) s

theorem acceptSwap_eq (s : State) : ∃ b, b % 100 = 0 ∧ s.seq.frame + 20 ≤ b ∧ b < s.seq.frame + 120 ∧
    acceptSwap s = post 0xD011 (sendCtrl 1 b (handingAt b s)) := by
  refine ⟨ceilDiv (s.seq.frame + 20) 100 * 100, ?_, ?_, ?_, rfl⟩ <;> unfold ceilDiv <;> omega

/-- A post after a packet of the pair. -/
theorem post_keeps {u t : State} (code : Nat) (h : OnlyLink u t) : (post code t).pair = u.pair ∧
    (post code t).log = logPost u.log (mkEvent u code 0xFFFF 0xFFFF []) ∧
      post code t = { u with link := (post code t).link, sent := (post code t).sent, log := (post code t).log } := by
  obtain ⟨hpair, hlog, hevent⟩ := h.keeps
  refine ⟨hpair, ?_, ?_⟩
  · change logPost t.log (mkEvent t code 0xFFFF 0xFFFF []) = _
    rw [hlog, hevent]
  · change { t with log := logPost t.log (mkEvent t code 0xFFFF 0xFFFF []) } = _
    rw [show t = _ from h]
    rfl

theorem execSwapReqReceived_of_acceptable (hrole : s.pair.role = .control) (h : swapAcceptable s .request = true) :
    ∃ t b, execSwapReqReceived s = .next t ∧
      t.pair = { s.pair with role := .handing, boundary := some b, primed := false } ∧
      b % 100 = 0 ∧ s.seq.frame + 20 ≤ b ∧ b < s.seq.frame + 120 ∧
      t.log = logPost s.log (mkEvent s 0xD011 0xFFFF 0xFFFF []) ∧
      t = { s with pair := t.pair, link := t.link, sent := t.sent, log := t.log } := by
  obtain ⟨b, hmod, hlow, hhigh, heq⟩ := acceptSwap_eq s
  obtain ⟨hpair, hlog, hframe⟩ := post_keeps 0xD011 (onlyLink_sendCtrl (s := handingAt b s) (op := 1) (b := b))
  have hexec : execSwapReqReceived s = .next (post 0xD011 (sendCtrl 1 b (handingAt b s))) := by
    unfold execSwapReqReceived
    rw [if_pos hrole, if_pos h, heq]
  generalize post 0xD011 (sendCtrl 1 b (handingAt b s)) = t at hpair hlog hframe hexec
  refine ⟨t, b, hexec, hpair, hmod, hlow, hhigh, hlog, ?_⟩
  rw [hframe]
  rfl

/-- The state in which a refusal of a swap has been sent and counted. -/
def refusalSent (s : State) : State := pairCount 2 (sendCtrl 3 0 s)

theorem execSwapReqReceived_of_refusing
    (h : s.pair.role = .control ∧ swapAcceptable s .request = false ∨ s.pair.role = .handing) :
    execSwapReqReceived s = .next (post 0xD013 (refusalSent s)) := by
  unfold execSwapReqReceived
  rcases h with ⟨hrole, hno⟩ | hrole
  · rw [if_pos hrole, hno]
    rfl
  · rw [if_neg (by rw [hrole]; decide), if_pos hrole]
    rfl

theorem refusal_keeps {u : State} (hu : OnlyLink s u) : (post 0xD013 (pairCount 2 u)).pair =
      { s.pair with counters := upd s.pair.counters 2 cnt } ∧
    (post 0xD013 (pairCount 2 u)).log = logPost s.log (mkEvent s 0xD013 0xFFFF 0xFFFF []) ∧
    post 0xD013 (pairCount 2 u) = { s with
      pair := (post 0xD013 (pairCount 2 u)).pair, link := (post 0xD013 (pairCount 2 u)).link
      sent := (post 0xD013 (pairCount 2 u)).sent, log := (post 0xD013 (pairCount 2 u)).log } := by
  obtain ⟨hpair, hlog, hevent⟩ := hu.keeps
  refine ⟨?_, ?_, ?_⟩
  · change { u.pair with counters := upd u.pair.counters 2 cnt } = _
    rw [hpair]
  · change logPost u.log (mkEvent u 0xD013 0xFFFF 0xFFFF []) = _
    rw [hlog, hevent]
  · rw [show u = _ from hu]
    rfl

theorem execRefusedReceived_keeps (hswap : s.pair.swap ≠ none) (hrole : s.pair.role = .standby) :
    ∃ t, execRefusedReceived s = .next t ∧ t.pair.swap = none ∧
      (s.pair.swap = some .takeback → t.pair.retryAt = s.seq.frame + 600000) ∧
      (s.pair.swap = some .request → t.pair.retryAt = s.pair.retryAt) ∧
      t = { s with pair := { s.pair with swap := none, retryAt := t.pair.retryAt } } := by
  refine ⟨endSwap s, ?_, rfl, fun h => ?_, fun h => ?_, rfl⟩
  · unfold execRefusedReceived
    rw [if_pos (by simp [Option.isSome_iff_ne_none, hswap, hrole])]
  · simp only [endSwap, setPair, h]
  · simp only [endSwap, setPair, h]

theorem execHandoverTimeout_of_early {b : Nat} (hb : s.pair.boundary = some b) (hearly : s.seq.frame < b + 30) :
    execHandoverTimeout s = .next s := by
  unfold execHandoverTimeout
  dsimp only
  rw [hb]
  simp [Nat.not_le.mpr hearly]

end

/-! 30 frames after the boundary of a handover (R520). -/

section
variable {s : State} {b : Nat}

theorem execHandoverTimeout_of_handing (hb : s.pair.boundary = some b) (hlate : b + 30 ≤ s.seq.frame)
    (hrole : s.pair.role = .handing) (hprimed : s.pair.primed = false) : execHandoverTimeout s =
      .next (post 0xD015 (setPair (fun p => { p with role := .control, boundary := none }) (endSwap s))) := by
  unfold execHandoverTimeout
  dsimp only
  rw [hb, hrole, hprimed]
  simp [hlate]

theorem execHandoverTimeout_of_primed (hb : s.pair.boundary = some b) (hlate : b + 30 ≤ s.seq.frame)
    (hrole : s.pair.role = .primed) : execHandoverTimeout s =
      .next (setPair (fun p => { p with
        role := .standby, boundary := none, ckpt := p.finalCkpt, restored := false
        holdChannels := [] }) (endSwap s)) := by
  unfold execHandoverTimeout
  dsimp only
  rw [hb, hrole]
  simp [hlate]

theorem execHandoverTimeout_of_standby (hb : s.pair.boundary = some b) (hlate : b + 30 ≤ s.seq.frame)
    (hrole : s.pair.role = .standby) :
    execHandoverTimeout s = .next (setPair (fun p => { p with boundary := none }) (endSwap s)) := by
  unfold execHandoverTimeout
  dsimp only
  rw [hb, hrole]
  simp [hlate]

end

/-! The standby's own tests (R535). -/

section
variable {s : State}

theorem lastTest_setTest (l : List (Nat × Nat)) (k f : Nat) : lastTest (setTest l k f) k = some f := by
  simp [lastTest, setTest]

theorem testDue_of {l : List (Nat × Nat)} {k period : Nat}
    (h : ∀ f, lastTest l k = some f → f + period ≤ s.seq.frame) : testDue s l k period = true := by
  unfold testDue
  split
  next f hf => exact decide_eq_true (h f hf)
  next => rfl

/-- A standby that has tested an AFE. -/
def senseTested (i : Nat) (s : State) : State :=
  setPair (fun p => { p with senseTest := setTest p.senseTest i s.seq.frame }) s

/-- A standby that has tested a drive. -/
def driveTested (d : Nat) (s : State) : State :=
  setPair (fun p => { p with driveTest := setTest p.driveTest d s.seq.frame }) s

/-- A valve's sense that its test has failed, with the event. -/
def calFailed (i : Nat) (s : State) : State :=
  post 0x2030 { s with pow := { s.pow with calValve := upd s.pow.calValve i fun _ => true } } i 5

/-- A domain that its test has failed. -/
def stageFailed (d : Nat) (s : State) : State := setDomain d (fun x => { x with state := .failed, failReason := 5 }) s

theorem stageFailed_keeps {d : Nat} (hd : d < s.pow.domains.length) :
    ((stageFailed d s).pow.domains.getD d {}).state = .failed ∧ domainOn (stageFailed d s) d = false ∧
      ∀ k, k ≠ d → (stageFailed d s).pow.domains.getD k {} = s.pow.domains.getD k {} := by
  have hstate : ((stageFailed d s).pow.domains.getD d {}).state = .failed := by
    have hself : (stageFailed d s).pow.domains.getD d {} = _ := getD_upd_self _ _ _ _ hd
    rw [hself]
    dsimp only
    split <;> rfl
  refine ⟨hstate, by rw [domainOn, hstate]; rfl, fun k hk => getD_upd_ne _ _ _ _ _ hk.symm⟩

end

/-! The sections of a checkpoint (R515). -/

section
variable {s t u : State}

/-- Two states that differ in the schedule and the log at most. -/
def SchedOnly (s t : State) : Prop := ∃ k l, t = { s with sched := k, log := l }

theorem SchedOnly.refl (s : State) : SchedOnly s s := ⟨s.sched, s.log, rfl⟩

theorem SchedOnly.trans (h : SchedOnly s t) (h' : SchedOnly t u) : SchedOnly s u := by
  obtain ⟨k, l, rfl⟩ := h
  obtain ⟨k', l', rfl⟩ := h'
  exact ⟨k', l', rfl⟩

theorem schedOnly_commitImage (j k : Nat) : SchedOnly s (commitImage j k s) := by
  unfold commitImage
  split
  · exact .refl s
  · extract_lets e
    split
    · exact ⟨_, s.log, rfl⟩
    · split
      · exact ⟨s.sched, _, rfl⟩
      · split
        · exact ⟨s.sched, _, rfl⟩
        · exact ⟨_, s.log, rfl⟩

theorem schedOnly_nextOccurrence (e : SchedEntry) : SchedOnly s (nextOccurrence e s) := by
  unfold nextOccurrence
  split
  · exact .refl s
  · split
    · exact .refl s
    · split
      · exact .refl s
      · exact schedOnly_commitImage _ _

theorem schedOnly_closeEntry (i : Nat) (st : EntryState) : SchedOnly s (closeEntry i st s) := by
  unfold closeEntry
  split
  · exact .refl s
  · exact ⟨_, s.log, rfl⟩

theorem schedOnly_judgeLate (i : Nat) : SchedOnly s (judgeLate i s) := by
  unfold judgeLate dropLate
  split
  · exact .refl s
  · split
    · split
      · exact .refl s
      · exact ((schedOnly_closeEntry i .dropped).trans ⟨_, _, rfl⟩).trans (schedOnly_nextOccurrence _)
    · exact .refl s

theorem schedOnly_foldl_judgeLate (l : List Nat) (s : State) : SchedOnly s (l.foldl (fun t i => judgeLate i t) s) :=
  foldl_rel (R := SchedOnly) .refl (fun _ _ _ => .trans) (fun _ i => schedOnly_judgeLate i) l s

/-- Reopening the windows changes the maintenance and the log alone. -/
theorem reopenWindows_eq (d : Int) (ws : List MaintWindow) (s : State) :
    ∃ m l, reopenWindows d ws s = { s with maint := m, log := l } := by
  unfold reopenWindows
  generalize s.maint.windows.mapIdx _ = w
  obtain ⟨l, h⟩ := onlyLog_foldl_post (fun i => (ws.getD i {}).isOpen) (fun i t => post 0xF015 t i)
    (fun _ t => ⟨_, rfl⟩) (List.range 8) { s with maint := { s.maint with windows := w } }
  exact ⟨_, l, h⟩

/-- What the sections of a checkpoint bring to a state, and what they leave. -/
structure SectionsLoaded (c : Checkpoint) (s t : State) : Prop where
  pages : t.heat.pages = c.pages
  inForce : t.plan.inForce = c.planInForce
  mode : t.plan.mode = c.mode
  total : t.pump.total = c.pump.total
  budgetSpent : t.pump.budgetSpent = c.pump.budgetSpent
  emergency : t.leak.emergency = (s.leak.emergency || c.emergency)
  img : t.img = s.img
  sent : t.sent = s.sent
  link : t.link = s.link

theorem loadSections_eq (c : Checkpoint) (s : State) : ∃ u, loadSections c s =
    setPair (fun p => { p with restored := true, holdChannels := c.hold }) (reopenWindows s.pair.delta c.windows
      ((List.range u.sched.table.length).foldl (fun t i => judgeLate i t) u)) ∧
    SectionsLoaded c s u ∧ u.pair = s.pair :=
  ⟨_, rfl, ⟨rfl, rfl, rfl, rfl, rfl, rfl, rfl, rfl, rfl⟩, rfl⟩

theorem loadSections_keeps {c : Checkpoint} (ht : loadSections c s = t) :
    SectionsLoaded c s t ∧ t.pair = { s.pair with restored := true, holdChannels := c.hold } := by
  obtain ⟨u, heq, hloaded, hpair⟩ := loadSections_eq c s
  obtain ⟨k, l, hjudged⟩ := schedOnly_foldl_judgeLate (List.range u.sched.table.length) u
  rw [heq, hjudged] at ht
  obtain ⟨m, l', hopened⟩ := reopenWindows_eq s.pair.delta c.windows { u with sched := k, log := l }
  rw [hopened] at ht
  subst ht
  refine ⟨⟨hloaded.pages, hloaded.inForce, hloaded.mode, hloaded.total, hloaded.budgetSpent, hloaded.emergency,
    hloaded.img, hloaded.sent, hloaded.link⟩, ?_⟩
  rw [← hpair]
  rfl

theorem execFinalCheckpointLoaded_of_not (h : s.pair.finalCkpt = none ∨ (lport s 64).state ≠ .up) :
    execFinalCheckpointLoaded s = .next s := by
  unfold execFinalCheckpointLoaded
  split
  next c hrole hfinal =>
    rw [if_neg (by simp [portUp_of_down (h.resolve_left (by simp [hfinal]))])]
  next => rfl

theorem execFinalCheckpointLoaded_keeps {c : Checkpoint} (hrole : s.pair.role = .standby)
    (hfinal : s.pair.finalCkpt = some c) (hup : (lport s 64).state = .up) :
    ∃ t, execFinalCheckpointLoaded s = .next t ∧ t.pair.role = .primed ∧ t.pair.restored = true ∧
      t.heat.pages = c.pages ∧ t.plan.inForce = c.planInForce ∧ t.sent.length = s.sent.length + 1 := by
  obtain ⟨hloaded, hpair⟩ := loadSections_keeps (s := s) (c := c) rfl
  have hexec : execFinalCheckpointLoaded s = .next (sendCtrl 2 0
      (setPair (fun p => { p with role := .primed, cold := false }) (loadSections c s))) := by
    unfold execFinalCheckpointLoaded
    rw [hrole, hfinal]
    dsimp only
    rw [if_pos (portUp_of_up hup)]
  rw [hexec]
  generalize loadSections c s = u at hloaded hpair ⊢
  have hport : portUp (setPair (fun p => { p with role := .primed, cold := false }) u) = true :=
    portUp_of_up ((congrArg LinkPort.state (lport_congr hloaded.link 64)).trans hup)
  have hlen := length_sent_sendCtrl (op := 2) (b := 0) hport
  have honly := onlyLink_sendCtrl (s := setPair (fun p => { p with role := .primed, cold := false }) u) (op := 2)
    (b := 0)
  generalize sendCtrl 2 0 (setPair (fun p => { p with role := .primed, cold := false }) u) = t at hlen honly ⊢
  refine ⟨t, rfl, ?_, ?_, ?_, ?_, hlen.trans (congrArg (List.length · + 1) hloaded.sent)⟩
  · rw [honly]; rfl
  · rw [honly]; exact congrArg PairSt.restored hpair
  · rw [honly]; exact hloaded.pages
  · rw [honly]; exact hloaded.inForce

end

/-- Settles O44: a swap is raised and answered by the pair's state alone, a final checkpoint is loaded section by
section, and 30 frames after the boundary each role goes back. -/
theorem handoverBetweenTheUnits : Obligations.HandoverBetweenTheUnits := by
  unfold Obligations.HandoverBetweenTheUnits
  refine ⟨?_, ?_, ?_, ?_, ?_, ?_, ?_, ?_, ?_, ?_, ?_, ?_, ?_, ?_, ?_, ?_, ?_, ?_, ?_, ?_, ?_, ?_, ?_, ?_, ?_, ?_⟩
  · intro s hswap hretry hpair hrole ⟨f, hlow, hlong⟩
    exact execSwapRequestRaise_grade hswap hretry hpair hrole hlow hlong
  · intro s f hswap hretry hpair hrole hhome hwell hlong hhold hseen
    exact execSwapRequestRaise_takeback_keeps hswap hretry hpair hrole hhome hwell hlong hhold hseen
  · intro s x h
    exact execSwapRequestRaise_of_busy x h
  · intro s h
    exact execSwapRequestRaise_of_hold h
  · intro s hrole h
    exact execSwapReqReceived_of_acceptable hrole h
  · intro s h
    obtain ⟨hpair, hlog, hframe⟩ := refusal_keeps (onlyLink_sendCtrl (s := s) (op := 3) (b := 0))
    exact ⟨_, execSwapReqReceived_of_refusing h, (congrArg PairSt.role hpair).trans rfl,
      (congrArg PairSt.boundary hpair).trans rfl, congrArg PairSt.counters hpair, hlog, hframe⟩
  · intro s hrole
    change execSwapReqReceived s = _
    simp [execSwapReqReceived, hrole]
  · intro s h
    simp [swapAcceptable, Ne.symm h]
  · intro s h
    simp [swapAcceptable, Nat.not_le.mpr h]
  · intro s hswap hrole
    exact execRefusedReceived_keeps hswap hrole
  · intro s hswap
    change execRefusedReceived s = _
    simp [execRefusedReceived, hswap]
  · intro s b hrole
    change execHandoverReceived b s = _
    rw [execHandoverReceived, if_pos hrole]
    rfl
  · intro s b hrole
    exact congrArg Host.Outcome.next (if_neg hrole)
  · intro s c hrole hfinal hup
    exact execFinalCheckpointLoaded_keeps hrole hfinal hup
  · intro s h
    exact execFinalCheckpointLoaded_of_not h
  · intro s hrole
    exact congrArg Host.Outcome.next (if_pos hrole)
  · intro s hrole
    exact congrArg Host.Outcome.next (if_neg hrole)
  · intro s b hb hlate hrole hprimed
    refine ⟨_, execHandoverTimeout_of_handing hb hlate hrole hprimed, rfl, rfl, rfl, rfl, rfl⟩
  · intro s b hb hlate hrole
    exact ⟨_, execHandoverTimeout_of_primed hb hlate hrole, rfl, rfl, rfl, rfl⟩
  · intro s b hb hlate hrole
    exact ⟨_, execHandoverTimeout_of_standby hb hlate hrole, hrole, rfl, rfl, rfl⟩
  · intro s b hb hearly
    exact execHandoverTimeout_of_early hb hearly
  · intro s i hrole hdue
    refine ⟨senseTested i s, ?_, lastTest_setTest _ _ _, rfl⟩
    change execStandbySelfTest .sense i true s = _
    simp [execStandbySelfTest, hrole, testDue_of hdue, senseTested]
  · intro s d hrole hdue hon hd
    obtain ⟨hstate, hoff, hother⟩ := stageFailed_keeps (s := driveTested d s) hd
    refine ⟨stageFailed d (driveTested d s), ?_, lastTest_setTest _ _ _, hstate, hoff, hother, rfl⟩
    change execStandbySelfTest .drive d false s = _
    simp [execStandbySelfTest, hrole, testDue_of hdue, hon, driveTested, stageFailed]
  · intro s i hrole hdue hi
    refine ⟨calFailed i (senseTested i s), ?_, lastTest_setTest _ _ _, getD_upd_self _ _ _ _ hi, rfl, rfl⟩
    change execStandbySelfTest .sense i false s = _
    simp [execStandbySelfTest, hrole, testDue_of hdue, senseTested, calFailed]
  · intro s d hrole hon hd
    obtain ⟨hstate, -, hother⟩ := stageFailed_keeps hd
    refine ⟨?_, stageFailed d s, ?_, hstate, hother, rfl⟩
    · change execStandbySelfTest .release d true s = _
      simp [execStandbySelfTest, hrole]
    · change execStandbySelfTest .release d false s = _
      simp [execStandbySelfTest, hrole, hon, stageFailed]
  · intro s k i b hrole
    change execStandbySelfTest k i b s = _
    simp [execStandbySelfTest, hrole]

end Sys2Proof.Machine
end

section
/-! SUPPORT. Checkpoints, takeover and restoring (R503, R504, R512 to R515): settles O43. -/

namespace Sys2Proof.Machine

/-! Checkpoints that a standby receives (R512 to R514). -/

section
variable {s : State} {c : Checkpoint} {a b : Bool}

/-- A standby that has taken a checkpoint. -/
def checkpointTaken (c : Checkpoint) (s : State) : State :=
  keepCheckpoint c (pairCount 5 (setPair (fun p => { p with
    ckpt := some c, ckptSeq := c.seq, ckptFrame := c.frame, ckptValid := true
    ckptAt := some (min s.seq.frame (trFrame p.delta c.frame))
    finalCkpt := if c.final then some c else p.finalCkpt }) (seeTerm c.term s)))

/-- A standby that has rejected a checkpoint. -/
def checkpointRejected (c : Checkpoint) (s : State) : State := post 0xD020 (pairCount 6 (seeTerm c.term s))

theorem execCkptReceived_of_standby (hrole : s.pair.role = .standby) : execCkptReceived c a b s =
    .next (if a && b && decide (s.pair.term ≤ c.term) && decide (c.digest = s.key.digest) &&
          decide (c.fwMajor = 3 ∧ c.fwMinor ≤ 9) then checkpointTaken c s
      else if c.digest = s.key.digest then checkpointRejected c s else postRun 0xD022 (checkpointRejected c s)) := by
  unfold execCkptReceived
  dsimp only
  rw [hrole]
  simp only [decide_eq_true_eq]
  rfl

theorem execCkptReceived_of_other (hstandby : s.pair.role ≠ .standby) (hprimed : s.pair.role ≠ .primed) :
    execCkptReceived c a b s =
      .next { s with pair := { s.pair with termSeen := max s.pair.termSeen c.term } } := by
  unfold execCkptReceived
  dsimp only
  rw [if_pos (by simp [hstandby, hprimed])]
  rfl

theorem checkpointTaken_keeps {t : State} (ht : checkpointTaken c s = t) : t.pair.ckpt = some c ∧
    t.pair.ckptValid = true ∧ t.pair.ckptSeq = c.seq ∧
    t.pair.ckptAt = some (min s.seq.frame (trFrame s.pair.delta c.frame)) ∧
    t.pair.termSeen = max s.pair.termSeen c.term ∧
    (c.final = true → t.pair.finalCkpt = some c) ∧ (c.final = false → t.pair.finalCkpt = s.pair.finalCkpt) ∧
    t.plan.inForce = c.planInForce ∧ t.pump.total = c.pump.total ∧ t.heat.pages = s.heat.pages ∧
    t.sched.table = s.sched.table ∧ t.ctl = s.ctl ∧ t.caps = s.caps ∧ t.log = s.log ∧ t.pow = s.pow := by
  subst ht
  refine ⟨rfl, rfl, rfl, rfl, rfl, fun h => if_pos h, fun h => if_neg (by simp [h]), rfl, ?_⟩
  refine ⟨?_, ?_, ?_, ?_, ?_, ?_, ?_⟩ <;> rfl

theorem not_whole_of_fault (h : a = false ∨ b = false ∨ c.term < s.pair.term ∨ c.fwMajor ≠ 3 ∨ 9 < c.fwMinor) :
    ¬ (a && b && decide (s.pair.term ≤ c.term) && decide (c.digest = s.key.digest) &&
      decide (c.fwMajor = 3 ∧ c.fwMinor ≤ 9)) = true := by
  simp only [Bool.and_eq_true, decide_eq_true_eq]
  rintro ⟨⟨⟨⟨ha, hb⟩, hterm⟩, -⟩, hmajor, hminor⟩
  rcases h with h | h | h | h | h
  · exact absurd ha (by simp [h])
  · exact absurd hb (by simp [h])
  · omega
  · exact h hmajor
  · omega

theorem execCheckpointStale_of_old (hrole : s.pair.role = .standby) (hold : ckptOld s = true) :
    execCheckpointStale s = .next (postRun 0xD021 (setPair (fun p => { p with ckptValid := false }) s)) := by
  unfold execCheckpointStale
  rw [hrole, hold]
  rfl

end

/-! The bid of a standby (R503, R504). -/

section
variable {s : State} {f : RoundFacts}

/-- The state in which a bid is judged. -/
def bidding (f : RoundFacts) (s : State) : State :=
  setPair (fun p => { p with
    busVeto := false, stuckA := p.stuckA && !f.freeA, stuckB := p.stuckB && !f.freeB }) s

/-- A bid that is due and not held back. -/
def bid (f : RoundFacts) (s : State) : State :=
  recordRound (some (ownClaim s)) (judgeRound (bidding f s).pair (some (ownClaim s)) f) (bidding f s)

theorem execTakeoverBid_of_due (hdue : bidDue s = true) (hfree : bidVetoed s = false) :
    execTakeoverBid f s = .next (if (bid f s).pair.won then bidWon (bid f s) else bid f s) := by
  unfold execTakeoverBid
  rw [hdue, hfree]
  rfl

/-- The pair after a round without a fault. -/
def roundPair (own : Nat) (r : RoundResult) (n : Nat) (p : PairSt) : PairSt :=
  { p with
    won := r.win && decide (16 ≤ own), wonFrame := if r.win && decide (16 ≤ own) then some n else p.wonFrame
    winClaim := if r.win then own else r.partner, partnerClaim := r.partner
    holderClaim := if r.partnerWins then some n else p.holderClaim
    busVeto := p.busVeto && !r.partnerWins
    wireFault := false, claimAge := p.claimAge + 1 }

theorem recordRound_of_sound {own : Nat} {r : RoundResult} (h : r.fault = false) :
    recordRound (some own) r s = setPair (roundPair own r s.seq.frame) s := by
  unfold recordRound
  dsimp only
  rw [if_neg (by simp [h])]
  unfold roundPair
  rw [h]
  rfl

theorem sixteen_le_ownClaim (s : State) : 16 ≤ ownClaim s := by
  unfold ownClaim healthGrade
  omega

/-- A wire that is not open shows a higher claim. -/
theorem lt_wireValue {o q : Nat} (h : o < q) : o < wireValue o q false := show o < max o q by omega

theorem not_lt_wireValue {o q : Nat} (h : q ≤ o) (b : Bool) : ¬ o < wireValue o q b := by
  unfold wireValue
  split <;> omega

theorem not_lt_wireValue_open (o q : Nat) : ¬ o < wireValue o q true := Nat.lt_irrefl o

/-- A claim that no wire shows a higher one against wins its round. -/
theorem judgeRound_of_low {p : PairSt} {own : Nat} (ha : p.stuckA = false) (hb : p.stuckB = false)
    (hlow : f.partner.getD 0 ≤ own) : (judgeRound p (some own) f).win = true ∧
      (judgeRound p (some own) f).partnerWins = false ∧ (judgeRound p (some own) f).fault = false := by
  unfold judgeRound
  simp [ha, hb, not_lt_wireValue hlow]

/-- A claim loses its round to a higher one that both wires show. -/
theorem judgeRound_of_high {p : PairSt} {own : Nat} (ha : p.stuckA = false) (hb : p.stuckB = false)
    (hopenA : f.openA = false) (hopenB : f.openB = false) (hhigh : own < f.partner.getD 0) :
    (judgeRound p (some own) f).win = false ∧ (judgeRound p (some own) f).partner = f.partner.getD 0 ∧
      (judgeRound p (some own) f).partnerWins = decide (16 ≤ f.partner.getD 0) ∧
      (judgeRound p (some own) f).fault = false := by
  unfold judgeRound
  simp [ha, hb, hopenA, hopenB, lt_wireValue hhigh]

/-- What a round without a fault leaves of the pair's state. -/
structure RoundKeeps (p w : PairSt) : Prop where
  role : w.role = p.role
  ckpt : w.ckpt = p.ckpt
  ckptValid : w.ckptValid = p.ckptValid
  term : w.term = p.term
  termSeen : w.termSeen = p.termSeen
  counters : w.counters = p.counters

theorem bid_eq (h : (judgeRound (bidding f s).pair (some (ownClaim s)) f).fault = false) : bid f s =
    setPair (roundPair (ownClaim s) (judgeRound (bidding f s).pair (some (ownClaim s)) f) s.seq.frame)
      (bidding f s) := recordRound_of_sound h

theorem bid_of_silence (ha : s.pair.stuckA = false) (hb : s.pair.stuckB = false) (hpartner : f.partner = none) :
    ∃ w, bid f s = { s with pair := w } ∧ w.won = true ∧ RoundKeeps s.pair w := by
  obtain ⟨hwin, -, hsound⟩ := judgeRound_of_low (p := (bidding f s).pair) (own := ownClaim s) (f := f)
    (by simp [bidding, setPair, ha]) (by simp [bidding, setPair, hb]) (by simp [hpartner])
  exact ⟨_, bid_eq hsound, by simp [roundPair, hwin, sixteen_le_ownClaim], ⟨rfl, rfl, rfl, rfl, rfl, rfl⟩⟩

theorem bid_of_higher {q : Nat} (ha : s.pair.stuckA = false) (hb : s.pair.stuckB = false) (hopenA : f.openA = false)
    (hopenB : f.openB = false) (hpartner : f.partner = some q) (hlow : ownClaim s < q) :
    ∃ w, bid f s = { s with pair := w } ∧ w.won = false ∧ w.winClaim = q ∧ RoundKeeps s.pair w := by
  obtain ⟨hwin, hshown, -, hsound⟩ := judgeRound_of_high (p := (bidding f s).pair) (own := ownClaim s) (f := f)
    (by simp [bidding, setPair, ha]) (by simp [bidding, setPair, hb]) hopenA hopenB (by simpa [hpartner] using hlow)
  exact ⟨_, bid_eq hsound, by simp [roundPair, hwin], by simp [roundPair, hwin, hshown, hpartner],
    ⟨rfl, rfl, rfl, rfl, rfl, rfl⟩⟩

end

/-! A bid that wins (R504, R515). -/

section
variable {s : State}

/-- A state that has won its bid. -/
def winning (s : State) : State :=
  setPair (fun p => { p with swap := none, takeover := true, stages := true, succeeded := true }) (pairCount 0 s)

theorem bidWon_of_primed (h : s.pair.role = .primed) : bidWon s = primedWins 0xD001 (winning s) := if_pos h

/-- A state that takes over with a checkpoint. -/
def takingOver (s : State) : State := { post 0xD001 (winning s) with
  pow := { s.pow with state := .control }
  pair := { (winning s).pair with role := .taking, takeFrame := s.seq.frame } }

theorem bidWon_of_checkpoint (hrole : s.pair.role = .standby) (hckpt : s.pair.ckpt ≠ none)
    (hvalid : s.pair.ckptValid = true) : bidWon s = takingOver s := by
  have hsome : (s.pair.ckpt.isSome && !(ckptOld s && !s.pair.ckptValid)) = true := by
    simp [Option.isSome_iff_ne_none, hckpt, hvalid]
  unfold bidWon
  dsimp only
  rw [if_neg (by rw [hrole]; decide), if_pos hsome]
  rfl

theorem bidWon_of_cold (hrole : s.pair.role = .standby) (hckpt : s.pair.ckpt = none) :
    bidWon s = coldTakeover (post 0xD001 (winning s)) := by
  unfold bidWon
  dsimp only
  rw [if_neg (by rw [hrole]; decide), hckpt]
  rfl

theorem coldTakeover_keeps {u t : State} (ht : coldTakeover u = t) : t.pair.role = .control ∧ t.pair.cold = true ∧
    t.plan.state = .wait ∧ t.plan.inForce = none ∧ t.plan.started = false ∧ t.pow.state = .control ∧
    t.pair.term = (max u.pair.term u.pair.termSeen + 1) % 4294967296 := by
  subst ht
  exact ⟨rfl, rfl, rfl, rfl, rfl, rfl, rfl⟩

theorem primedWins_keeps {u t : State} (ht : primedWins 0xD001 u = t) : t.pair.role = .control ∧
    t.pow.state = .control ∧ t.pair.term = (max u.pair.term u.pair.termSeen + 1) % 4294967296 ∧
    t.plan.state = .held ∧ t.pair.holdChannels = [] ∧ t.pair.boundary = none ∧ t.heat.pages = u.heat.pages ∧
    t.log = logPost u.log (mkEvent u 0xD001 0xFFFF 0xFFFF []) := by
  subst ht
  exact ⟨rfl, rfl, rfl, rfl, rfl, rfl, rfl, rfl⟩

theorem takingOver_keeps {u t : State} (ht : takingOver u = t) : t.pair.role = .taking ∧ t.pair.won = u.pair.won ∧
    t.pair.stages = true ∧ t.pair.takeover = true ∧ t.pow.state = .control ∧ t.pair.takeFrame = u.seq.frame ∧
    t.pair.term = u.pair.term ∧ t.pair.counters = upd u.pair.counters 0 cnt ∧
    t.log = logPost u.log (mkEvent u 0xD001 0xFFFF 0xFFFF []) ∧ t.heat = u.heat ∧ t.plan = u.plan := by
  subst ht
  refine ⟨rfl, rfl, rfl, rfl, rfl, rfl, rfl, rfl, congrArg (logPost u.log) ?_, ?_, ?_⟩
  · exact mkEvent_congr (s := u) (t := winning u) rfl rfl rfl rfl _ _ _ _
  · simp only [takingOver, post, winning, setPair, pairCount]
  · simp only [takingOver, post, winning, setPair, pairCount]

section
variable {f : RoundFacts}

theorem execTakeoverBid_of_checkpoint (hdue : bidDue s = true) (hfree : bidVetoed s = false)
    (hrole : s.pair.role = .standby) (hckpt : s.pair.ckpt ≠ none) (hvalid : s.pair.ckptValid = true)
    (ha : s.pair.stuckA = false) (hb : s.pair.stuckB = false) (hpartner : f.partner = none) :
    ∃ t, execTakeoverBid f s = .next t ∧ t.pair.role = .taking ∧ t.pair.won = true ∧ t.pair.stages = true ∧
      t.pair.takeover = true ∧ t.pow.state = .control ∧ t.pair.takeFrame = s.seq.frame ∧ t.pair.term = s.pair.term ∧
      t.pair.counters = upd s.pair.counters 0 cnt ∧ t.log = logPost s.log (mkEvent s 0xD001 0xFFFF 0xFFFF []) ∧
      t.heat = s.heat ∧ t.plan = s.plan := by
  obtain ⟨w, hbid, hwon, hkeeps⟩ := bid_of_silence ha hb hpartner
  have hexec := execTakeoverBid_of_due (f := f) hdue hfree
  rw [hbid, if_pos hwon, bidWon_of_checkpoint (s := { s with pair := w }) (hkeeps.role.trans hrole)
    (hkeeps.ckpt ▸ hckpt) (hkeeps.ckptValid.trans hvalid)] at hexec
  obtain ⟨htaking, hwon', hstages, htakeover, hpow, hframe, hterm, hcount, hlog, hheat, hplan⟩ :=
    takingOver_keeps (u := { s with pair := w }) rfl
  generalize takingOver { s with pair := w } = t at *
  exact ⟨t, hexec, htaking, hwon'.trans hwon, hstages, htakeover, hpow, hframe, hterm.trans hkeeps.term,
    hcount.trans (congrArg (upd · 0 cnt) hkeeps.counters), hlog, hheat, hplan⟩

theorem execTakeoverBid_of_cold (hdue : bidDue s = true) (hfree : bidVetoed s = false)
    (hrole : s.pair.role = .standby) (hckpt : s.pair.ckpt = none) (ha : s.pair.stuckA = false)
    (hb : s.pair.stuckB = false) (hpartner : f.partner = none) :
    ∃ t, execTakeoverBid f s = .next t ∧ t.pair.role = .control ∧ t.pair.cold = true ∧ t.plan.state = .wait ∧
      t.plan.inForce = none ∧ t.plan.started = false ∧ t.pow.state = .control ∧
      t.pair.term = (max s.pair.term s.pair.termSeen + 1) % 4294967296 := by
  obtain ⟨w, hbid, hwon, hkeeps⟩ := bid_of_silence ha hb hpartner
  have hexec := execTakeoverBid_of_due (f := f) hdue hfree
  rw [hbid, if_pos hwon, bidWon_of_cold (s := { s with pair := w }) (hkeeps.role.trans hrole)
    (hkeeps.ckpt.trans hckpt)] at hexec
  rw [← hkeeps.term, ← hkeeps.termSeen]
  exact ⟨_, hexec, coldTakeover_keeps (u := post 0xD001 (winning { s with pair := w })) rfl⟩

theorem execTakeoverBid_of_primed (hdue : bidDue s = true) (hfree : bidVetoed s = false)
    (hrole : s.pair.role = .primed) (ha : s.pair.stuckA = false) (hb : s.pair.stuckB = false)
    (hpartner : f.partner = none) :
    ∃ t, execTakeoverBid f s = .next t ∧ t.pair.role = .control ∧ t.pow.state = .control ∧
      t.pair.term = (max s.pair.term s.pair.termSeen + 1) % 4294967296 ∧ t.plan.state = .held ∧
      t.pair.holdChannels = [] ∧ t.pair.boundary = none ∧ t.heat.pages = s.heat.pages ∧
      t.log = logPost s.log (mkEvent s 0xD001 0xFFFF 0xFFFF []) := by
  obtain ⟨w, hbid, hwon, hkeeps⟩ := bid_of_silence ha hb hpartner
  have hexec := execTakeoverBid_of_due (f := f) hdue hfree
  rw [hbid, if_pos hwon, bidWon_of_primed (s := { s with pair := w }) (hkeeps.role.trans hrole)] at hexec
  rw [← hkeeps.term, ← hkeeps.termSeen]
  exact ⟨_, hexec, primedWins_keeps (u := winning { s with pair := w }) rfl⟩

end

/-- A state that has restored its checkpoint. -/
def restored (u : State) : State :=
  post 0xD002 (setPair (fun p => { p with role := .control, cold := false, holdChannels := [] })
    (advanceTerm (resumePlan u))) 0xFFFF 0xFFFF [0]

theorem execRestoreComplete_of_taking {c : Checkpoint} (hrole : s.pair.role = .taking) (hckpt : s.pair.ckpt = some c) :
    execRestoreComplete s = .next (restored (loadSections c s)) := by
  unfold execRestoreComplete
  rw [hrole, hckpt]
  rfl

theorem restored_keeps {u t : State} (ht : restored u = t) : t.pair.role = .control ∧
    t.pair.term = (max u.pair.term u.pair.termSeen + 1) % 4294967296 ∧ t.pair.restored = u.pair.restored ∧
    t.pair.holdChannels = [] ∧ t.heat.pages = u.heat.pages ∧ t.plan.inForce = u.plan.inForce ∧ t.plan.state = .held ∧
    t.plan.mode = u.plan.mode ∧ t.heat.rackLimit = u.img.limits.rackCap ∧ t.heat.rowLimit = u.img.limits.rowCap ∧
    t.heat.limitRequests = [] ∧ t.leak.emergency = (u.leak.emergency || u.pair.mark.emergency) ∧
    t.pump.total = u.pump.total ∧ t.pump.budgetSpent = u.pump.budgetSpent := by
  subst ht
  exact ⟨rfl, rfl, rfl, rfl, rfl, rfl, rfl, rfl, rfl, rfl, rfl, rfl, rfl, rfl⟩

end

/-- Settles O43: a received checkpoint is taken whole or rejected, a bid is a round of claims (`bid`), and what wins
takes over with its checkpoint, cold, or primed. -/
theorem checkpointsAndTakeover : Obligations.CheckpointsAndTakeover := by
  unfold Obligations.CheckpointsAndTakeover
  refine ⟨?_, ?_, ?_, ?_, ?_, ?_, ?_, ?_, ?_, ?_, ?_, ?_, ?_, ?_, ?_⟩
  · intro s c hrole hterm hdigest hmajor hminor
    exact ⟨_, (execCkptReceived_of_standby hrole).trans
      (congrArg Host.Outcome.next (if_pos (by simp [hterm, hdigest, hmajor, hminor]))), checkpointTaken_keeps rfl⟩
  · intro s c a b hrole hdigest hfault
    refine ⟨checkpointRejected c s, ?_, rfl, rfl, rfl, rfl, rfl⟩
    exact (execCkptReceived_of_standby hrole).trans
      (congrArg Host.Outcome.next ((if_neg (not_whole_of_fault hfault)).trans (if_pos hdigest)))
  · intro s c a b hrole hdigest
    refine ⟨postRun 0xD022 (checkpointRejected c s), ?_, ?_, ?_⟩
    · exact (execCkptReceived_of_standby hrole).trans
        (congrArg Host.Outcome.next ((if_neg (by simp [hdigest])).trans (if_neg hdigest)))
    · rw [postRun_eq]
      rfl
    · rw [postRun_eq]
      rfl
  · intro s c a b hstandby hprimed
    exact execCkptReceived_of_other hstandby hprimed
  · intro s hrole hold
    refine ⟨_, execCheckpointStale_of_old hrole hold, ?_, ?_⟩
    · rw [postRun_eq]
      rfl
    · rw [postRun_eq]
      rfl
  · intro s hfresh
    exact congrArg Host.Outcome.next (if_neg (by simp [hfresh]))
  · intro s f hnot
    exact congrArg Host.Outcome.next (if_pos (by simp [hnot]))
  · intro s h hclaim hearly
    have hlate : ¬ max h s.pair.idleSince + 4 ≤ s.seq.frame := by omega
    simp [bidDue, hclaim, hlate]
  · intro s f hdue hveto
    refine ⟨postRun 0xD031 (setPair (fun p => { p with busVeto := true }) s),
      congrArg Host.Outcome.next ((if_neg (by simp [hdue])).trans (if_pos hveto)), ?_, ?_⟩
    · rw [postRun_eq]
      rfl
    · rw [postRun_eq]
      rfl
  · intro s f hdue hfree hrole hckpt hvalid ha hb hpartner
    exact execTakeoverBid_of_checkpoint hdue hfree hrole hckpt hvalid ha hb hpartner
  · intro s f hdue hfree hrole hckpt ha hb hpartner
    exact execTakeoverBid_of_cold hdue hfree hrole hckpt ha hb hpartner
  · intro s f hdue hfree hrole ha hb hpartner
    exact execTakeoverBid_of_primed hdue hfree hrole ha hb hpartner
  · intro s f q hdue hfree ha hb hopenA hopenB hpartner hlow
    obtain ⟨w, hbid, hwon, hclaim, hkeeps⟩ := bid_of_higher ha hb hopenA hopenB hpartner hlow
    have hexec := execTakeoverBid_of_due (f := f) hdue hfree
    rw [hbid, if_neg (by simp [hwon])] at hexec
    exact ⟨_, hexec, hkeeps.role, hwon, hclaim, hkeeps.term, rfl⟩
  · intro s c hrole hckpt
    obtain ⟨hloaded, hpair⟩ := loadSections_keeps (s := s) (c := c) rfl
    have hexec := execRestoreComplete_of_taking hrole hckpt
    generalize loadSections c s = u at hloaded hpair hexec
    obtain ⟨hcontrol, hterm, hrestored, hhold, hpages, hforce, hheld, hmode, hrack, hrow, hrequests, hemergency, htotal,
      hspent⟩ := restored_keeps (u := u) rfl
    rw [hpair] at hterm hrestored hemergency
    rw [hloaded.img] at hrack hrow
    rw [hloaded.emergency] at hemergency
    refine ⟨_, hexec, hcontrol, hterm, hrestored, hhold, hpages.trans hloaded.pages, hforce.trans hloaded.inForce,
      hheld, hmode.trans hloaded.mode, hrack, hrow, hrequests, fun h => ?_, htotal.trans hloaded.total,
      hspent.trans hloaded.budgetSpent⟩
    rw [hemergency]
    simpa [or_assoc] using h
  · intro s hrole
    change execRestoreComplete s = _
    unfold execRestoreComplete
    split
    next c hrole' _ => exact absurd hrole' hrole
    next => rfl

end Sys2Proof.Machine
end

section
/-! SUPPORT. Claim rounds, arming, and the start of plant control (R132, R134, R499 to R504): settles O41. -/

namespace Sys2Proof.Machine

/-! Leaving plant control (R133, R500). -/

section
variable {s t : State}

theorem releaseStages_keeps (s : State) : ∃ v p pl, releaseStages s = { s with
    valve := v, pump := p, plant := pl, pow := { s.pow with plantControl := false }
    pair := { s.pair with stages := false } } := by
  obtain ⟨v, hv⟩ := banksRefresh_eq (releaseOutputs { s with
    pow := { s.pow with plantControl := false }
    pair := { s.pair with stages := false } })
  exact ⟨v, _, _, hv⟩

/-- The pair's state of a unit that has become standby. -/
def standingBy (n : Nat) (p : PairSt) : PairSt :=
  { p with stages := false, inControl := false, role := .standby, boundary := none, primed := false, idleSince := n
           restored := false }

theorem becomeStandby_keeps (ht : becomeStandby s = t) :
    t.pow = { s.pow with plantControl := false, state := .standby } ∧ t.pair = standingBy s.seq.frame s.pair := by
  obtain ⟨v, p, pl, hv⟩ := releaseStages_keeps s
  obtain ⟨m, l, hm, -⟩ := onlyMaint_abortWhere 5 (fun _ => true) (loopsLeaveControl (releaseStages s))
  rw [hv] at hm
  unfold becomeStandby leaveControl abortAll at ht
  rw [hv, hm] at ht
  subst ht
  exact ⟨rfl, rfl⟩

end

/-! A claim round (R499 to R501). -/

section
variable {s t : State} {f : RoundFacts} {r : RoundResult}

theorem claimSeen_of_claiming (f : RoundFacts) (hlimp : t.pow.state ≠ .limp) (himage : t.pow.state ≠ .noImage) :
    claimSeen f t = t := if_neg (by simp [hlimp, himage])

theorem state_of_claimAllowed (h : claimAllowed s = true) : s.pow.state ≠ .limp ∧ s.pow.state ≠ .noImage := by
  constructor <;> intro hstate <;> simp [claimAllowed, hstate] at h

theorem pair_claimSeen (f : RoundFacts) (t : State) : (claimSeen f t).pair = t.pair := by
  unfold claimSeen
  split <;> rfl

theorem roundWon_of_control (h : s.pair.role = .control) (ht : roundWon s = t) :
    t.pair = { s.pair with stages := true } ∧ t.pow.state = s.pow.state := by
  unfold roundWon at ht
  dsimp only at ht
  rw [h] at ht
  dsimp only at ht
  split at ht
  · obtain ⟨v, hv⟩ := banksRefresh_eq { setPair (fun p => { p with stages := true }) s with
      pow := { s.pow with plantControl := true } }
    subst ht
    exact ⟨(congrArg State.pair hv).trans rfl, (congrArg (·.pow.state) hv).trans rfl⟩
  · subst ht
    exact ⟨rfl, rfl⟩

/-- A loss of the round leaves it lost, and drives no stages. -/
theorem roundLost_keeps (ht : roundLost r s = t) :
    t.pair.won = s.pair.won ∧ (s.pair.stages = false → t.pair.stages = false) := by
  obtain ⟨-, hpair⟩ := becomeStandby_keeps (s := s) rfl
  obtain ⟨v, p, pl, hreleased⟩ := releaseStages_keeps s
  have hstandby : (becomeStandby s).pair.won = s.pair.won ∧ (becomeStandby s).pair.stages = false := by
    rw [hpair]
    exact ⟨rfl, rfl⟩
  have hlapsed : (releaseStages s).pair.won = s.pair.won ∧ (releaseStages s).pair.stages = false := by
    rw [hreleased]
    exact ⟨rfl, rfl⟩
  subst ht
  unfold roundLost
  generalize becomeStandby s = u at hstandby ⊢
  generalize releaseStages s = w at hlapsed ⊢
  obtain ⟨hwon, hstages⟩ := hstandby
  obtain ⟨hwon', hstages'⟩ := hlapsed
  cases hrole : s.pair.role
  case control => dsimp only; split <;> simp [hwon, hstages, hwon', hstages']
  case handing =>
    dsimp only
    split
    · simp [pairCount, setPair, hwon, hstages]
    · split <;> simp [hwon, hstages, hwon', hstages']
  case taking => dsimp only; split <;> simp [hwon, hstages]
  all_goals exact ⟨rfl, id⟩

/-- The state in which a round is judged. -/
def roundBegun (f : RoundFacts) (s : State) : State :=
  setPair (fun p => { p with stuckA := p.stuckA && !f.freeA, stuckB := p.stuckB && !f.freeB }) s

/-- The result of a round. -/
def roundOf (own : Option Nat) (f : RoundFacts) (s : State) : RoundResult := judgeRound (roundBegun f s).pair own f

/-- The state after a round has been recorded. -/
def roundRecorded (own : Option Nat) (f : RoundFacts) (s : State) : State :=
  recordRound own (roundOf own f s) (roundBegun f s)

/-- The state after a round has been won or lost. -/
def roundSettled (own : Option Nat) (f : RoundFacts) (s : State) : State :=
  if (roundRecorded own f s).pair.won then roundWon (roundRecorded own f s)
  else roundLost (roundOf own f s) (roundRecorded own f s)

theorem roundEnd_none (f : RoundFacts) (s : State) : roundEnd none f s = roundSettled none f s := rfl

theorem roundEnd_some (o : Nat) (f : RoundFacts) (s : State) : roundEnd (some o) f s =
    if carriesSwap o && carriesSwap (roundOf (some o) f s).partner then crossedSwap (roundSettled (some o) f s)
    else if (roundRecorded (some o) f s).pair.won then judgeOwnSwap (roundSettled (some o) f s)
    else roundSettled (some o) f s := rfl

theorem recordRound_keeps {own : Option Nat} (ht : recordRound own r s = t) :
    t.pair.won = (r.win && decide (16 ≤ own.getD 0)) ∧ t.pair.stages = s.pair.stages := by
  subst ht
  unfold recordRound
  dsimp only
  split
  · rw [postRun_eq]
    dsimp only
    split <;> exact ⟨rfl, rfl⟩
  · exact ⟨rfl, rfl⟩

/-- A round without a claim of its own is not won. -/
theorem roundSettled_none_keeps (ht : roundSettled none f s = t) :
    t.pair.won = false ∧ (s.pair.stages = false → t.pair.stages = false) := by
  obtain ⟨hwon, hstages⟩ := recordRound_keeps (own := none) (r := roundOf none f s) (s := roundBegun f s) rfl
  rw [show (roundOf none f s).win = false from rfl, Bool.false_and] at hwon
  rw [roundSettled, roundRecorded, if_neg (by simp [hwon])] at ht
  obtain ⟨hlost, hlapse⟩ := roundLost_keeps ht
  exact ⟨hlost.trans hwon, fun h => hlapse (hstages.trans h)⟩

theorem execClaimRound_of_old (hage : 2 ≤ s.pair.claimAge) : ∃ t, execClaimRound f s = .next t ∧
    t.pair.won = false ∧ (s.pair.stages = false → t.pair.stages = false) := by
  refine ⟨_, rfl, ?_⟩
  rw [pair_claimSeen, if_neg (Nat.not_lt.mpr hage), roundEnd_none]
  exact roundSettled_none_keeps rfl

theorem placedClaim_of_control (hrole : s.pair.role = .control) (hallowed : claimAllowed s = true) :
    placedClaim s = some s.pair.claim := by
  unfold placedClaim
  rw [hallowed, hrole]
  rfl

theorem execClaimRound_of_claiming (hrole : s.pair.role = .control) (hallowed : claimAllowed s = true)
    (hage : s.pair.claimAge < 2) :
    execClaimRound f s = .next (claimSeen f (roundEnd (some s.pair.claim) f s)) := by
  rw [execClaimRound, if_pos hage, placedClaim_of_control hrole hallowed]

theorem judgeOwnSwap_of_none (h : s.pair.swap = none) : judgeOwnSwap s = s := by
  unfold judgeOwnSwap
  rw [h]
  cases s.pair.role <;> rfl

/-- What a round without a fault has recorded. -/
theorem roundRecorded_of_sound {o : Nat} (h : (roundOf (some o) f s).fault = false) : roundRecorded (some o) f s =
    setPair (roundPair o (roundOf (some o) f s) s.seq.frame) (roundBegun f s) := recordRound_of_sound h

theorem roundOf_of_low {o : Nat} (ha : s.pair.stuckA = false) (hb : s.pair.stuckB = false)
    (hlow : f.partner.getD 0 ≤ o) : (roundOf (some o) f s).win = true ∧ (roundOf (some o) f s).fault = false := by
  obtain ⟨hwin, -, hsound⟩ := judgeRound_of_low (p := (roundBegun f s).pair) (own := o) (f := f)
    (by simp [roundBegun, setPair, ha]) (by simp [roundBegun, setPair, hb]) hlow
  exact ⟨hwin, hsound⟩

theorem execClaimRound_of_low (hrole : s.pair.role = .control) (hallowed : claimAllowed s = true)
    (hage : s.pair.claimAge < 2) (hclaim : 16 ≤ s.pair.claim) (hbit : bit s.pair.claim 2 = false)
    (hswap : s.pair.swap = none) (ha : s.pair.stuckA = false) (hb : s.pair.stuckB = false)
    (hlow : f.partner.getD 0 ≤ s.pair.claim) :
    ∃ t, execClaimRound f s = .next t ∧ t.pair.won = true ∧ t.pair.stages = true ∧ t.pair.role = .control ∧
      t.pair.wonFrame = some s.seq.frame ∧ t.pair.winClaim = s.pair.claim ∧ t.pow.state = s.pow.state := by
  obtain ⟨hwin, hsound⟩ := roundOf_of_low ha hb hlow
  have hrecorded := roundRecorded_of_sound hsound
  have hend := roundEnd_some s.pair.claim f s
  rw [carriesSwap, hbit, Bool.false_and, if_neg Bool.false_ne_true, roundSettled, hrecorded] at hend
  have hpair : (setPair (roundPair s.pair.claim (roundOf (some s.pair.claim) f s) s.seq.frame) (roundBegun f s)).pair =
    roundPair s.pair.claim (roundOf (some s.pair.claim) f s) s.seq.frame (roundBegun f s).pair := rfl
  have hpow : (setPair (roundPair s.pair.claim (roundOf (some s.pair.claim) f s) s.seq.frame) (roundBegun f s)).pow =
    s.pow := rfl
  generalize setPair (roundPair s.pair.claim (roundOf (some s.pair.claim) f s) s.seq.frame) (roundBegun f s) = u
    at hpair hpow hend
  have hwon : u.pair.won = true := by simp [hpair, roundPair, hwin, hclaim]
  obtain ⟨hsettled, hstate⟩ := roundWon_of_control (s := u) (by rw [hpair]; exact hrole) rfl
  rw [if_pos hwon, if_pos hwon, judgeOwnSwap_of_none (by rw [hsettled, hpair]; exact hswap)] at hend
  rw [hpow] at hstate
  obtain ⟨hlimp, himage⟩ := state_of_claimAllowed hallowed
  rw [execClaimRound_of_claiming hrole hallowed hage, hend,
    claimSeen_of_claiming f (hstate.symm ▸ hlimp) (hstate.symm ▸ himage)]
  rw [hpair] at hsettled
  refine ⟨_, rfl, ?_, ?_, ?_, ?_, ?_, hstate⟩
  all_goals simp [hsettled, roundPair, hwin, hclaim, roundBegun, setPair, hrole]

/-- A swap that crosses the partner's leaves claim and role. -/
theorem crossedSwap_keeps (ht : crossedSwap s = t) : t.pow = s.pow ∧ t.pair.won = s.pair.won ∧
    t.pair.stages = s.pair.stages ∧ t.pair.role = s.pair.role ∧ t.pair.winClaim = s.pair.winClaim ∧
    t.pair.holderClaim = s.pair.holderClaim := by
  subst ht
  exact ⟨rfl, rfl, rfl, rfl, rfl, rfl⟩

theorem roundLost_of_control (hrole : s.pair.role = .control) (hwins : r.partnerWins = true) :
    roundLost r s = post 0xD003 (becomeStandby s) := by
  unfold roundLost
  rw [hrole]
  exact if_pos hwins

/-- What a lost round makes of a holder. -/
structure RoundGone (q n : Nat) (t : State) : Prop where
  won : t.pair.won = false
  stages : t.pair.stages = false
  role : t.pair.role = .standby
  plantControl : t.pow.plantControl = false
  state : t.pow.state = .standby
  winClaim : t.pair.winClaim = q
  holderClaim : t.pair.holderClaim = some n

theorem roundGone_crossedSwap {q n : Nat} (h : RoundGone q n s) : RoundGone q n (crossedSwap s) := by
  obtain ⟨hpow, hwon, hstages, hrole, hclaim, hholder⟩ := crossedSwap_keeps (s := s) rfl
  exact ⟨hwon.trans h.won, hstages.trans h.stages, hrole.trans h.role, by rw [hpow]; exact h.plantControl,
    by rw [hpow]; exact h.state, hclaim.trans h.winClaim, hholder.trans h.holderClaim⟩

/-- A holder's round is lost to a higher claim that both wires show. -/
theorem roundSettled_of_high {o q : Nat} (hrole : s.pair.role = .control) (ha : s.pair.stuckA = false)
    (hb : s.pair.stuckB = false) (hopenA : f.openA = false) (hopenB : f.openB = false) (hpartner : f.partner = some q)
    (hq : 16 ≤ q) (hhigh : o < q) : (roundRecorded (some o) f s).pair.won = false ∧
      RoundGone q s.seq.frame (roundSettled (some o) f s) := by
  obtain ⟨hwin, hshown, hwins, hsound⟩ := judgeRound_of_high (p := (roundBegun f s).pair) (own := o) (f := f)
    (by simp [roundBegun, setPair, ha]) (by simp [roundBegun, setPair, hb]) hopenA hopenB
    (by simpa [hpartner] using hhigh)
  rw [← roundOf] at hwin hshown hwins hsound
  rw [hpartner, Option.getD_some] at hshown hwins
  have hrecorded := roundRecorded_of_sound hsound
  have hpair : (roundRecorded (some o) f s).pair =
      roundPair o (roundOf (some o) f s) s.seq.frame (roundBegun f s).pair := congrArg State.pair hrecorded
  have hwon : (roundRecorded (some o) f s).pair.won = false := by simp [hpair, roundPair, hwin]
  refine ⟨hwon, ?_⟩
  rw [roundSettled, if_neg (by simp [hwon]), roundLost_of_control (by rw [hpair]; exact hrole) (by simp [hwins, hq])]
  obtain ⟨hpow, hstandby⟩ := becomeStandby_keeps (s := roundRecorded (some o) f s) rfl
  rw [hpair] at hstandby
  constructor <;> simp [hpow, hstandby, standingBy, roundPair, hwin, hshown, hwins, hq]

theorem execClaimRound_of_high {q : Nat} (hrole : s.pair.role = .control) (hallowed : claimAllowed s = true)
    (hage : s.pair.claimAge < 2) (ha : s.pair.stuckA = false) (hb : s.pair.stuckB = false) (hopenA : f.openA = false)
    (hopenB : f.openB = false) (hpartner : f.partner = some q) (hq : 16 ≤ q) (hhigh : s.pair.claim < q) :
    ∃ t, execClaimRound f s = .next t ∧ RoundGone q s.seq.frame t := by
  obtain ⟨hwon, hgone⟩ := roundSettled_of_high hrole ha hb hopenA hopenB hpartner hq hhigh
  have hend : RoundGone q s.seq.frame (roundEnd (some s.pair.claim) f s) := by
    rw [roundEnd_some, hwon]
    split
    · exact roundGone_crossedSwap hgone
    · exact hgone
  refine ⟨_, (execClaimRound_of_claiming hrole hallowed hage).trans (congrArg Host.Outcome.next
    (claimSeen_of_claiming f ?_ ?_)), hend⟩ <;> rw [hend.state] <;> decide

end

/-! Faults of the claim wires, the claims and the strap (R502). -/

section
variable {s : State} {f : RoundFacts}

theorem judgeRound_of_open_wire {p : PairSt} {o : Nat} (ha : p.stuckA = false) (hb : p.stuckB = false)
    (hopenA : f.openA = true) (hopenB : f.openB = false) (hhigh : o < f.partner.getD 0) :
    (judgeRound p (some o) f).win = false ∧ (judgeRound p (some o) f).fault = true := by
  unfold judgeRound
  simp [ha, hb, hopenA, hopenB, not_lt_wireValue_open, lt_wireValue hhigh]

theorem judgeRound_of_stuck_wire {p : PairSt} {o : Nat} (ha : p.stuckA = true) (hb : p.stuckB = false)
    (hopenB : f.openB = false) : (judgeRound p (some o) f).win = decide (f.partner.getD 0 ≤ o) := by
  unfold judgeRound
  by_cases h : f.partner.getD 0 ≤ o
  · simp [ha, hb, hopenB, h, not_lt_wireValue h]
  · simp [ha, hb, hopenB, h, lt_wireValue (Nat.not_le.mp h)]

/-- A pair that has found a claim wire stuck. -/
def stuckSeen (b : Bool) (p : PairSt) : PairSt :=
  if b then { p with stuckB := true, wireFault := true } else { p with stuckA := true, wireFault := true }

theorem execClaimWireStuck_of_first {b : Bool} (hfault : s.pair.wireFault = false)
    (hseen : runSeen 0xD030 0xFFFF 10000 s = false) :
    ∃ t, execClaimWireStuck b s = .next t ∧ t.pair.wireFault = true ∧
      t.pair.stuckA = (s.pair.stuckA || !b) ∧ t.pair.stuckB = (s.pair.stuckB || b) ∧
      t.pair.counters = upd s.pair.counters 7 cnt ∧
      t.log.queue = (logPost s.log (mkEvent s 0xD030 0xFFFF 0xFFFF [])).queue ∧
      t = { s with pair := t.pair, log := t.log } := by
  have hexec : execClaimWireStuck b s = .next (postRun 0xD030 (pairCount 7 (setPair (stuckSeen b) s))) := by
    unfold execClaimWireStuck
    rw [hfault]
    rfl
  have hpost : postRun 0xD030 (pairCount 7 (setPair (stuckSeen b) s)) =
      post 0xD030 (markRun 0xD030 0xFFFF (pairCount 7 (setPair (stuckSeen b) s))) :=
    if_neg (by rw [show runSeen 0xD030 0xFFFF 10000 (pairCount 7 (setPair (stuckSeen b) s)) = false from hseen]; decide)
  rw [hexec, hpost]
  refine ⟨_, rfl, ?_, ?_, ?_, ?_, queue_logPost_markRun 0xD030 0xFFFF s _, rfl⟩
  · cases b <;> rfl
  · cases b <;> simp [pairCount, setPair, stuckSeen]
  · cases b <;> simp [pairCount, setPair, stuckSeen]
  · cases b <;> rfl

theorem execStrapConflict_of_same (hseen : s.pair.partnerSeen = true) (hstrap : s.pair.partner.strap = s.pow.slotStrap)
    (hnew : s.pair.conflict = false) :
    execStrapConflict s = .next (post 0xD032 (setPair (fun p => { p with conflict := true }) s)) :=
  congrArg Host.Outcome.next (if_pos (by simp [hseen, hstrap, hnew]))

end

/-! Arming (R132, R134). -/

section
variable {s : State} {f : RoundFacts}

/-- Whether arming completes. -/
def armingEnds (s : State) : Bool :=
  s.pow.state = .arming && armed s && s.seq.frame % 100 = 0 && claimAllowed s

/-- The state after an arming unit's first claim. -/
def firstClaim (f : RoundFacts) (s : State) : State :=
  recordRound (some (ownClaim s)) (judgeRound s.pair (some (ownClaim s)) f) s

/-- A unit that has won its first claim. -/
def controlWon (n : Nat) (s : State) : State :=
  { advanceTerm s with
    pow := { s.pow with state := .control }
    pair := { (advanceTerm s).pair with
      role := .control, stages := true, restored := false, takeover := false, succeeded := false, takeFrame := n } }

/-- Whether the partner's last claim of a holder is still fresh. -/
def holderFresh (s : State) : Bool := match s.pair.holderClaim with
  | some f => decide (s.seq.frame ≤ f + 3)
  | none => false

theorem execArmingComplete_eq (f : RoundFacts) (s : State) : execArmingComplete f s =
    .next (if !armingEnds s then s else if holderFresh s then becomeStandby s
      else if (firstClaim f s).pair.won then controlWon s.seq.frame (firstClaim f s)
      else becomeStandby (firstClaim f s)) := rfl

theorem armingEnds_of (hstate : s.pow.state = .arming) (harmed : armed s = true) (hround : s.seq.frame % 100 = 0)
    (hallowed : claimAllowed s = true) : armingEnds s = true := by
  simp [armingEnds, hstate, harmed, hround, hallowed]

theorem holderFresh_of_late (h : ∀ k, s.pair.holderClaim = some k → k + 3 < s.seq.frame) : holderFresh s = false := by
  unfold holderFresh
  split
  next k hk => exact decide_eq_false (Nat.not_le.mpr (h k hk))
  next => rfl

theorem firstClaim_of_sound (h : (judgeRound s.pair (some (ownClaim s)) f).fault = false) : firstClaim f s =
    setPair (roundPair (ownClaim s) (judgeRound s.pair (some (ownClaim s)) f) s.seq.frame) s := recordRound_of_sound h

theorem execArmingComplete_of_low (hends : armingEnds s = true) (hlate : holderFresh s = false)
    (ha : s.pair.stuckA = false) (hb : s.pair.stuckB = false) (hlow : f.partner.getD 0 ≤ ownClaim s) :
    ∃ t, execArmingComplete f s = .next t ∧ t.pow.state = .control ∧ t.pair.role = .control ∧ t.pair.won = true ∧
      t.pair.stages = true ∧ t.pair.term = (max s.pair.term s.pair.termSeen + 1) % 4294967296 ∧
      t.pair.takeFrame = s.seq.frame ∧ t.pow.plantControl = s.pow.plantControl := by
  obtain ⟨hwin, -, hsound⟩ := judgeRound_of_low (f := f) ha hb hlow
  have hclaim := firstClaim_of_sound hsound
  have hwon : (firstClaim f s).pair.won = true := by
    simp [hclaim, setPair, roundPair, hwin, sixteen_le_ownClaim]
  rw [execArmingComplete_eq, hends, hlate, if_pos hwon]
  refine ⟨_, rfl, rfl, rfl, hwon, rfl, ?_, rfl, ?_⟩
  · change (max (firstClaim f s).pair.term (firstClaim f s).pair.termSeen + 1) % 4294967296 = _
    rw [hclaim]
    rfl
  · change (firstClaim f s).pow.plantControl = _
    rw [hclaim]
    rfl

theorem execArmingComplete_of_high (hends : armingEnds s = true) (hlate : holderFresh s = false)
    (ha : s.pair.stuckA = false) (hb : s.pair.stuckB = false) (hopenA : f.openA = false) (hopenB : f.openB = false)
    (hhigh : ownClaim s < f.partner.getD 0) :
    ∃ t, execArmingComplete f s = .next t ∧ t.pow.state = .standby ∧ t.pair.role = .standby ∧ t.pair.won = false ∧
      t.pow.plantControl = false ∧ t.pair.term = s.pair.term := by
  obtain ⟨hwin, -, -, hsound⟩ := judgeRound_of_high ha hb hopenA hopenB hhigh
  have hclaim := firstClaim_of_sound hsound
  have hwon : (firstClaim f s).pair.won = false := by simp [hclaim, setPair, roundPair, hwin]
  have hterm : (firstClaim f s).pair.term = s.pair.term := by rw [hclaim]; rfl
  obtain ⟨hpow, hpair⟩ := becomeStandby_keeps (s := firstClaim f s) rfl
  rw [execArmingComplete_eq, hends, hlate, hwon]
  refine ⟨becomeStandby (firstClaim f s), rfl, ?_⟩
  simp [hpow, hpair, standingBy, hwon, hterm]

theorem execArmingComplete_of_holder {h : Nat} (hends : armingEnds s = true) (hholder : s.pair.holderClaim = some h)
    (hfresh : s.seq.frame ≤ h + 3) :
    ∃ t, execArmingComplete f s = .next t ∧ t.pow.state = .standby ∧ t.pair.role = .standby ∧
      t.pair.stages = false ∧ t.pow.plantControl = false ∧ t.pair.term = s.pair.term ∧
      t.pair.idleSince = s.seq.frame := by
  have hheld : holderFresh s = true := by simp [holderFresh, hholder, hfresh]
  obtain ⟨hpow, hpair⟩ := becomeStandby_keeps (s := s) rfl
  rw [execArmingComplete_eq, hends, hheld]
  refine ⟨becomeStandby s, rfl, ?_⟩
  simp [hpow, hpair, standingBy]

end

/-! Taking plant control (R134, R504). -/

section
variable {s : State}

/-- What the steps of taking control leave: power, the pair, and the frame of control. -/
def controlView (s : State) : Power × PairSt × Option Nat := (s.pow, s.pair, s.pump.controlFrame)

theorem controlView_initialGrant (s : State) : controlView (initialGrant s) = controlView s := by
  refine foldl_keeps controlView _ (fun t i => ?_) _ s
  unfold initialGrantSite
  split
  · rfl
  · split
    · rfl
    · refine foldl_keeps controlView _ (fun u k => ?_) _ t
      rfl

theorem controlView_initialCaps (s : State) : controlView (initialCaps s) = controlView s := by
  refine foldl_keeps controlView _ (fun t x => ?_) _ s
  rfl

theorem controlView_holdIsolation (l : Nat) (s : State) : controlView (holdIsolation l s) = controlView s := by
  have hc0 : controlView (setC0 true l s) = controlView s := by
    refine foldl_keeps controlView _ (fun t c => ?_) _ s
    rfl
  have hfloor : controlView (setLeakFloor true l (setC0 true l s)) = controlView (setC0 true l s) := by
    refine foldl_keeps controlView _ (fun t k => ?_) _ _
    rfl
  exact (hfloor.trans hc0 :)

theorem controlView_leakTakeControl (s : State) : controlView (leakTakeControl s) = controlView s := by
  refine foldl_keeps controlView _ (fun t l => ?_) (leakLoops s) s
  split
  · rfl
  · exact controlView_holdIsolation l t

theorem controlView_freshChains (b : Bool) (s : State) : controlView (freshChains b s) = controlView s := by
  unfold freshChains
  split <;> rfl

theorem controlView_startSpeeds (s : State) : controlView (startSpeeds s) = controlView s := rfl

theorem controlView_directHold (c : Nat) (s : State) : controlView (directHold s c) = controlView s := by
  unfold directHold
  split
  · split <;> rfl
  · rfl

/-- The state in which plant control is taken. -/
def controlTakenAt (s : State) : State := { s with
  pow := { s.pow with
    plantControl := true, state := .control, controlSince := s.seq.frame
    controlMs := if s.pow.controlMs = 0xFFFF then min 65534 (s.seq.frame / 10) else s.pow.controlMs }
  pump := { s.pump with
    controlFrame := some s.seq.frame
    takeoverFrame := if s.pair.takeover then some s.seq.frame else s.pump.takeoverFrame } }

/-- The state in which plant control is held, but for the pair's flags. -/
def controlReady (s : State) : State :=
  let s1 := banksRefresh (pendingSites (controlTakenAt s))
  let s2 := initialCaps (if s.pair.restored then s1 else initialGrant s1)
  s.pair.holdChannels.foldl directHold (freshChains s.pair.takeover (leakTakeControl (startSpeeds s2)))

theorem takeControl_eq (s : State) : takeControl s = post 0x2003 (setPair (fun p => { p with
    restored := false, takeover := false, holdChannels := [], inControl := true }) (controlReady s)) := rfl

theorem controlView_controlReady (s : State) : controlView (controlReady s) = controlView (controlTakenAt s) := by
  obtain ⟨v, hv⟩ := banksRefresh_eq (pendingSites (controlTakenAt s))
  have hbanks : controlView (banksRefresh (pendingSites (controlTakenAt s))) = controlView (controlTakenAt s) := by
    rw [hv]
    rfl
  unfold controlReady
  extract_lets s1 s2
  have hgrant : controlView s2 = controlView s1 := by
    refine (controlView_initialCaps _).trans ?_
    split
    · rfl
    · exact controlView_initialGrant s1
  rw [foldl_keeps controlView directHold (fun t c => controlView_directHold c t), controlView_freshChains,
    controlView_leakTakeControl, controlView_startSpeeds, hgrant]
  exact hbanks

theorem takeControl_keeps {t : State} (hrole : s.pair.role = .control) (ht : takeControl s = t) :
    t.pow.plantControl = true ∧ t.pow.controlSince = s.seq.frame ∧ t.pair.inControl = true ∧
      t.pair.restored = false ∧ t.pair.role = .control ∧ t.pump.controlFrame = some s.seq.frame := by
  have hview := controlView_controlReady s
  rw [takeControl_eq] at ht
  subst ht
  generalize controlReady s = u at hview ⊢
  simp only [controlView, Prod.mk.injEq] at hview
  obtain ⟨hpow, hpair, hpump⟩ := hview
  refine ⟨?_, ?_, rfl, rfl, ?_, ?_⟩
  · simp [setPair, hpow, controlTakenAt]
  · simp [setPair, hpow, controlTakenAt]
  · simp [setPair, hpair, controlTakenAt, hrole]
  · simp [setPair, hpump, controlTakenAt]

end

/-- Settles O41: a claim round is judged by its claims (`judgeRound`), its loser becomes standby with its stages
released, and the first frame of control takes plant control. -/
theorem claimRoundsAndPlantControl : Obligations.ClaimRoundsAndPlantControl := by
  unfold Obligations.ClaimRoundsAndPlantControl
  refine ⟨?_, ?_, ?_, ?_, ?_, ?_, ?_, ?_, ?_, ?_, ?_, ?_, ?_, ?_, ?_, ?_⟩
  · intro s f hrole hallowed hage hclaim hbit hswap ha hb hlow
    exact execClaimRound_of_low hrole hallowed hage hclaim hbit hswap ha hb hlow
  · intro s f q hrole hallowed hage _ ha hb hopenA hopenB hpartner hq hhigh
    obtain ⟨t, hexec, hgone⟩ := execClaimRound_of_high hrole hallowed hage ha hb hopenA hopenB hpartner hq hhigh
    exact ⟨t, hexec, hgone.won, hgone.stages, hgone.role, hgone.plantControl, hgone.state, hgone.winClaim,
      hgone.holderClaim⟩
  · intro s f hage
    exact execClaimRound_of_old hage
  · intro p o f ha hb hopenA hopenB hhigh
    exact judgeRound_of_open_wire ha hb hopenA hopenB hhigh
  · intro p o f ha hb hopenB
    exact judgeRound_of_stuck_wire ha hb hopenB
  · intro s hage
    exact congrArg Host.Outcome.next (if_pos hage)
  · intro s hage
    exact congrArg Host.Outcome.next (if_neg (Nat.not_le.mpr hage))
  · intro s b hfault hseen
    exact execClaimWireStuck_of_first hfault hseen
  · intro s hseen hstrap hnew
    refine ⟨_, execStrapConflict_of_same hseen hstrap hnew, rfl, rfl, rfl, ?_⟩
    simp [claimAllowed, setPair]
  · intro s hstrap hother
    exact congrArg Host.Outcome.next (if_neg (by simp [hstrap, hother]))
  · intro s f hstate harmed hround hallowed hlate ha hb hlow
    exact execArmingComplete_of_low (armingEnds_of hstate harmed hround hallowed) (holderFresh_of_late hlate) ha hb hlow
  · intro s f hstate harmed hround hallowed hlate ha hb hopenA hopenB hhigh
    exact execArmingComplete_of_high (armingEnds_of hstate harmed hround hallowed) (holderFresh_of_late hlate) ha hb
      hopenA hopenB hhigh
  · intro s f h hstate harmed hround hallowed hholder hfresh
    exact execArmingComplete_of_holder (armingEnds_of hstate harmed hround hallowed) hholder hfresh
  · intro s f h
    have hnot : armingEnds s = false := by
      rcases h with h | h | h <;> simp [armingEnds, h]
    change execArmingComplete f s = _
    rw [execArmingComplete_eq, hnot]
    rfl
  · intro s hrole hwon hstages hnew hready hstate hphase hframe
    have hdue : execTakePlantControl s = .next (takeControl s) :=
      congrArg Host.Outcome.next (if_pos (by simp [hrole, hwon, hstages, hnew, hready, hstate, hphase, hframe]))
    exact ⟨_, hdue, takeControl_keeps hrole rfl⟩
  · intro s h
    refine congrArg Host.Outcome.next (if_neg ?_)
    rcases h with h | h | h | h | h <;> simp [h]

end Sys2Proof.Machine
end
